-- ==== Sys2Proof/Word.lean ====
section
/-! DEFINITION. The byte and byte string types of the model (00_scope.md R6, R7). -/

namespace Sys2Proof

/-- One byte; bit 0 is the least significant (R6). -/
abbrev Byte := BitVec 8

/-- A byte string, lowest offset first. -/
abbrev Bytes := List Byte

end Sys2Proof
end

