-- ==== Sys2Proof/Syntax.lean ====
section
/-! DEFINITION. The commands of the block: one constructor of `Instr` for each row of spec/opcode_table.json, with the
operands its event carries. A host request carries who asks (15 R366, R369) and its bytes; an event of a pin, a link,
a timer or an analogue part carries what was seen. No row of the table has bits. -/

namespace Sys2Proof

/-- A Rovan link port (00 R15). -/
inductive Port where
  | a | b
  deriving DecidableEq, Repr

/-- A network-time domain (00 R15). -/
inductive Dom where
  | a | b
  deriving DecidableEq, Repr

/-- A safety channel (12 R291). -/
inductive Channel where
  | a | b
  deriving DecidableEq, Repr

/-- The path on which a request arrived (15 R369). -/
inductive Via where
  | portA | portB | t1s
  deriving DecidableEq, Repr

/-- Who asks: the SOURCE of a CONTROL packet, or an IPv4 address and UDP port (15 R369). -/
inductive Requester where
  | rovan (source : Nat)
  | t1s (address udpPort : Nat)
  deriving DecidableEq, Repr

/-- The envelope of a COP request (15 R368): path, requester, TID, ROLE (0 viewer to 3 owner) and KEY. -/
structure Req where
  via : Via
  who : Requester
  tid : Nat
  role : Nat
  key : Nat
  deriving DecidableEq, Repr

/-- FIRST, LAST and OFFSET of a WRITE or STAGE (15 R368, R371). -/
structure Segment where
  isFirst : Bool
  isLast : Bool
  offset : Nat
  deriving DecidableEq, Repr

/-- A TIME80: seconds and nanoseconds as written (15 R363). -/
structure Time80 where
  sec : Nat
  ns : Nat
  deriving DecidableEq, Repr

/-- A PTP port identity: clockIdentity and portNumber (08 R215). -/
structure PtpPort where
  clock : Nat
  number : Nat
  deriving DecidableEq, Repr

/-- The data set that an Announce message carries, and its message interval as a power of 2 seconds (08 R215). -/
structure PtpDataset where
  priority1 : Nat
  clockClass : Nat
  accuracy : Nat
  variance : Nat
  priority2 : Nat
  grandmaster : Nat
  steps : Nat
  logInterval : Int
  deriving DecidableEq, Repr

/-- The messages that a slave-only clock of the default profile takes (08 R215): Sync with its origin time, none when a
Follow_Up brings it; Follow_Up; Delay_Resp with the receive time and the port that asked; Announce. -/
inductive PtpBody where
  | sync (origin : Option Time80)
  | followUp (origin : Time80)
  | delayResp (receive : Time80) (requester : PtpPort)
  | announce (data : PtpDataset)
  deriving DecidableEq, Repr

/-- A PTP message as received; `correction` in 2^-16 ns. -/
structure PtpMessage where
  domain : Nat
  sender : PtpPort
  seq : Nat
  correction : Int
  body : PtpBody
  deriving DecidableEq, Repr

/-- Data that a stage of the pipeline asked LPDDR5 for (03 R60). -/
inductive PixelRead where
  | calRecord (pixel : Nat)
  | dose (emitter : Nat)
  | layerPixels (layer : Nat)
  deriving DecidableEq, Repr

/-- The transfer that timed out, one constructor for each crossing of 02 R42 Table 2. -/
inductive Transfer where
  /-- H01: a video flit of the layer's frame in progress. -/
  | videoFlit (layer : Nat)
  /-- H02: a read response. -/
  | readResponse (what : PixelRead)
  /-- H03: a write request to a tile address. -/
  | writeRequest (address : Nat)
  /-- H04: a segment of one node's slice. -/
  | sliceSegment (band node : Nat)
  /-- H05: a stroke's load prediction and headroom report. -/
  | strokeLoad (band : Nat)
  /-- H06: a node's probe results of a scan cycle of a frame. -/
  | probeResult (band node frame cycle : Nat)
  /-- H07: a scheduled catch time. -/
  | catchTime
  /-- H08: a sync correction value for the message that arrived on the port. -/
  | syncCorrection (port : Port)
  /-- H09: a COP access (a write carries its data) of the requester to the object. -/
  | copAccess (rq : Req) (opcode index sub : Nat)
  /-- H10: one band frame of the egress tap. -/
  | egressTap (band : Nat)
  /-- H11: beacon replay words of a band. -/
  | beaconReplay (band : Nat)
  deriving DecidableEq, Repr

/-- What goes wrong in one row's memory reads and line buffers, by column, and in the zone statistics and tables of PIXEL,
by table and entry or by zone, with the byte offset of an uncorrectable word in its region (03 R60, 02 R49). -/
inductive RowFault where
  | calMissing (x : Nat)
  | doseMissing (x colour : Nat)
  | layerMissing (layer x : Nat)
  | bufferCorrected (x : Nat)
  | bufferUncorrectable (x offset : Nat)
  | tableCorrected
  | tableUncorrectable (obj entry offset : Nat)
  | zoneUncorrectable (zone offset : Nat)
  deriving DecidableEq, Repr

/-- What the device finds of an upstream packet or report of a band link: its CRC good or wrong, or a code violation in it
(05 R129, R131, R148). -/
inductive UpCheck where
  | good | badCrc | violation
  deriving DecidableEq, Repr

/-- ENUM_REPLY payload (05 R131 Table 4). -/
structure EnumReply where
  nodeType : Nat
  vendor : Nat
  part : Nat
  revision : Nat
  dsRepeat : Nat
  outDelay : Nat
  turnaround : Nat
  deriving DecidableEq, Repr

/-- One colour of an inline headroom report: MIN, NODE, GROUP (05 R143 Table 8). -/
structure HeadroomMin where
  value : Nat
  node : Nat
  group : Nat
  deriving DecidableEq, Repr

/-- An inline headroom report as received (05 R143 Table 8). -/
structure HeadroomReport where
  stroke : Nat
  cycle : Nat
  red : HeadroomMin
  green : HeadroomMin
  blue : HeadroomMin
  check : UpCheck
  deriving DecidableEq, Repr

/-- A failure verdict of a probe (06 R151). -/
inductive Verdict where
  | opn | short | leak | weak
  deriving DecidableEq, Repr

/-- A PROBE packet as received (05 R145 Table 9): failures are (channel, row, verdict), Vf entries (channel, row, code). -/
structure ProbePacket where
  frameTag : Nat
  cycle : Nat
  probed : Nat
  seq : Nat
  isLast : Bool
  fails : List (Nat × Nat × Verdict)
  vfs : List (Nat × Nat × Nat)
  check : UpCheck
  deriving DecidableEq, Repr

/-- The two engine jobs of a rail (07 R194). -/
inductive Job where
  | fast | headroom
  deriving DecidableEq, Repr

/-- The two banks of sense ADCs (07 R202). -/
inductive Bank where
  | voltage | current
  deriving DecidableEq, Repr

/-- What the SRAM of the link buffers finds as it holds a codeword's blocks (02 R49): nothing, words corrected, or an
uncorrectable word of a block, at an offset of its region. -/
inductive BufferTrouble where
  | none
  | corrected (words : Nat)
  | uncorrectable (block offset : Nat)
  deriving DecidableEq, Repr

/-- What the memory answers badly: nothing, words corrected in LPDDR5 and in the staging SRAM, an uncorrectable word at an
address of its target, or no response at all (02 R49, 11 R269, R284). -/
inductive MemTrouble where
  | none
  | corrected (words stagingWords : Nat)
  | uncorrectable (address : Nat)
  | stagingUncorrectable (offset : Nat)
  | noResponse
  deriving DecidableEq, Repr

/-- What the check of the S2 configuration image finds at a wake (14 R356). -/
inductive ImageCheck where
  | good | crcBad | memoryBad
  deriving DecidableEq, Repr

/-- A burst that a device ring has ready (11 R276): its ring, tile address, bytes and direction. -/
structure DeviceBurst where
  ring : Nat
  address : Nat
  bytes : Nat
  write : Bool
  deriving DecidableEq, Repr

/-- The six safety inputs (12 R294, R317). -/
inductive SafetyPin where
  | safeBlankA | safeBlankB | evacA | evacB | railfbA | railfbB
  deriving DecidableEq, Repr

/-- The two dual inputs (12 R295). -/
inductive DualInput where
  | safeBlank | evac
  deriving DecidableEq, Repr

/-- The commands, in the order of the table. -/
inductive Instr where
  /-- COP_READ (R368): A READ request is executed by the object agent and answered with the value or DOMAIN segment. -/
  | copRead (rq : Req) (index sub offset : Nat) (snapshot : Bool)
  /-- COP_WRITE (R365): A WRITE request, or an assembled DOMAIN write, to an object with no row of its own passes the access, role, key, RWS and length checks and stores the value. -/
  | copWrite (rq : Req) (index sub : Nat) (seg : Segment) (data : Bytes)
  /-- COP_STAGE (R373): A STAGE request is checked as a WRITE would be and is entered into the open batch, opening one if none exists. -/
  | copStage (rq : Req) (index sub : Nat) (seg : Segment) (data : Bytes)
  /-- COP_COMMIT (R374): A COMMIT from the batch owner assigns BATCH_SEQUENCE and sets the batch COMMITTED, to be applied at a qualifying frame boundary. -/
  | copCommit (rq : Req) (notBefore : Option Time80)
  /-- COP_ABANDON (R376): An ABANDON from the owner discards the open batch. -/
  | copAbandon (rq : Req)
  /-- BATCH_IDLE_TIMEOUT (R376): With no STAGE or COMMIT from the owner for BATCH_IDLE_TIMEOUT, the batch is committed as staged. -/
  | batchIdleTimeout
  /-- BATCH_NOT_BEFORE_REACHED (R374): While no frame boundaries exist, the committed batch is applied when the active domain reaches NOT_BEFORE. -/
  | batchNotBeforeReached
  /-- ROLE_LOCK_EXPIRY (R366): The 60 s lock of a role after 16 consecutive key rejections ends. -/
  | roleLockExpiry (role : Nat)
  /-- RESPONSE_RECORD_EXPIRY (R369): A kept response record ages out after 2 s. -/
  | responseRecordExpiry
  /-- KEY_WRITE (R366): An owner write to KEY_OPERATOR, KEY_SERVICE or KEY_OWNER is stored in the key and configuration record and is answered once the record is written. -/
  | keyWrite (rq : Req) (role : Nat) (data : Bytes)
  /-- T1S_CONFIG_WRITE (R370): A write to the IPv4, UDP port or PLCA settings is stored in the flash record and takes effect after the response. -/
  | t1sConfigWrite (rq : Req) (sub : Nat) (data : Bytes)
  /-- FLASH_WRITE_COMPLETE (R378): A boot-flash operation completes, and the command waiting on it is answered or continued. -/
  | flashWriteComplete (ok : Bool)
  /-- CROSSING_TIMEOUT (R41): A crossing's handshake timeout expires; the requester withdraws the request, applies the Table 2 outcome and counts the timeout. -/
  | crossingTimeout (x : Transfer)
  /-- LATE_ACKNOWLEDGE (R41): An acknowledge that carries a withdrawn tag arrives; it is discarded and counted. -/
  | lateAcknowledge (crossing : Nat) (tag : Bool)
  /-- ISLAND_CLOCK_RUNNING (R46): The clock of a gated island woken on access runs, and the held access completes through H09. -/
  | islandClockRunning (island : Nat)
  /-- WAKE_HOLD_EXPIRY (R46): WAKE_HOLD ends with no further access, and the island is gated again if the device is still in S1. -/
  | wakeHoldExpiry (island : Nat)
  /-- GATE_ACKNOWLEDGE (R48): An island acknowledges the gate request from COX and its clock stops. -/
  | gateAcknowledge (island : Nat)
  /-- CLOCK_CHECK_WINDOW (R38): The millbrake's 1 ms window ends, and it checks the REFCLK and XTAL32 counts against ±10 %. -/
  | clockCheckWindow (refCount xtalCount : Nat)
  /-- SRAM_COUNTERS_CLEAR (R53): Clears the SRAM error counters of all regions. -/
  | sramCountersClear (rq : Req) (data : Bytes)
  /-- CATCH_ISSUE (R218): The catch generator issues a scan or frame catch at grid time plus D, slewing D and passing the catch to BAND. -/
  | catchIssue
  /-- PIPELINE_ROW_COMPUTE (R52): One output row is composed and passed through stages 3 to 10 into the egress queues, with dose, probe flags and weir applied. -/
  | pipelineRowCompute (faults : List RowFault)
  /-- INGEST_PROFILE_WRITE (R58): A write to an RW ingest-profile object stores the value and starts a recomputation of that profile. -/
  | ingestProfileWrite (rq : Req) (profile sub : Nat) (data : Bytes)
  /-- TARGET_PRIMARIES_WRITE (R58): A write to TARGET_PRIMARIES starts a recomputation of every profile. -/
  | targetPrimariesWrite (rq : Req) (data : Bytes)
  /-- INGEST_RECOMPUTE_COMPLETE (R58): A profile recomputation completes, and its result enters the shadow as one table write. -/
  | ingestRecomputeComplete (profile : Nat)
  /-- THERMAL_RESET (R72): Sets every zone's dt to 0. -/
  | thermalReset (rq : Req) (data : Bytes)
  /-- PIPELINE_COUNTERS_CLEAR (R88): Clears every pipeline counter. -/
  | pipelineCountersClear (rq : Req) (data : Bytes)
  /-- BEACON_FILL_COMPLETE (R108): A fill pass completes unspoiled; the reference values are formed and L7 becomes ARMED or its refill comes into force. -/
  | beaconFillComplete (spoiled : Bool)
  /-- X_MAP_FILL (R26): Rewrites all 2048 X_MAP entries with the identity, mirrored or clear pattern. -/
  | xMapFill (rq : Req) (data : Bytes)
  /-- LAYER_CREATE (R90): Makes a FREE layer CREATED with default objects and a new handle. -/
  | layerCreate (rq : Req) (data : Bytes)
  /-- LAYER_DESTROY (R92): Puts a layer into DESTROYING and discards its pending submission. -/
  | layerDestroy (rq : Req) (data : Bytes)
  /-- LAYER_SUBMIT (R100): Captures the staged buffer, fence and not-before values as the layer's pending submission. -/
  | layerSubmit (rq : Req) (data : Bytes)
  /-- FENCE_SIGNAL (R101): Sets the selected fence timeline to a new value if it is newer, or counts it as stale. -/
  | fenceSignal (rq : Req) (data : Bytes)
  /-- L7_ARM (R108): Starts arming L7, locking its objects and buffer. -/
  | l7Arm (rq : Req) (data : Bytes)
  /-- L7_DISARM (R111): Ends the L7 lock and sets L7_ARM_STATE to UNARMED at the next boundary. -/
  | l7Disarm (rq : Req) (data : Bytes)
  /-- LAYER_COUNTERS_CLEAR (R121): Clears every U32 counter of the layer tables. -/
  | layerCountersClear (rq : Req) (data : Bytes)
  /-- SCAN_START (R135): Applies geometry and timing, then starts alignment, node reset, enumeration, latency measurement and register writes on every used band. -/
  | scanStart (rq : Req) (data : Bytes)
  /-- BAND_ALIGN_TIMEOUT (R135): A band not aligned on its upstream within 1 ms becomes FAILED with cause 2. -/
  | bandAlignTimeout (band : Nat)
  /-- ENUM_REPLY_RX (R136): An ENUM_REPLY is taken; the node is recorded, checked and the next address is assigned. -/
  | enumReplyRx (band : Nat) (reply : EnumReply) (check : UpCheck)
  /-- ENUM_REPLY_TIMEOUT (R136): No ENUM_REPLY within 20 µs ends enumeration, or fails the band at address 0. -/
  | enumReplyTimeout (band : Nat)
  /-- MARKER_RX (R137): A MARKER arrives, and the hop round trip is recorded for latency and ADV computation. -/
  | markerRx (band node roundTrip : Nat)
  /-- REG_DATA_RX (R133): A REG_DATA reply is taken and checked against the written value, failing the band on a mismatch. -/
  | regDataRx (band node reg value : Nat) (check : UpCheck)
  /-- TIMING_SYMBOL_SEND (R130): A catch, STROKE, FEATHER or BLANK symbol is sent ADV before its nominal time. -/
  | timingSymbolSend (band : Nat)
  /-- SLICE_ROW_SEND (R139): A DATA packet carrying one row of a node's slice is sent once the row's words are ready. -/
  | sliceRowSend (band node corrected : Nat) (errors : List Nat)
  /-- SLICE_STATUS_RX (R139): A SLICE_STATUS is taken; missing rows are resent with a SLICE_POLL, or the slice is acknowledged. -/
  | sliceStatusRx (band node frameTag rowMask : Nat) (check : UpCheck)
  /-- ACK_DEADLINE (R140): At F_k − T_sc the acknowledged nodes are fixed and SWAP is sent twice with SWAP_MASK and DARK_MASK. -/
  | ackDeadline
  /-- NODE_SETTINGS_SEND (R127): Changed channel currents, feather voltages or probe registers are written to the band's nodes within one frame period. -/
  | nodeSettingsSend (band : Nat)
  /-- HEADROOM_REPORT_RX (R143): An inline HEADROOM report of a stroke is received and checked. -/
  | headroomReportRx (band : Nat) (report : HeadroomReport)
  /-- HEADROOM_ACCEPT_DEADLINE (R144): The acceptance time of a stroke's report ends; a report not received is missing. -/
  | headroomAcceptDeadline (band : Nat)
  /-- PROBE_PACKET_RX (R145): A PROBE packet of a node and scan cycle is received and collected for acceptance. -/
  | probePacketRx (band node : Nat) (packet : ProbePacket)
  /-- SCAN_STOP (R147): Sets STOPPING so that bands blank for one frame from the next frame catch. -/
  | scanStop (rq : Req) (data : Bytes)
  /-- SCAN_STOP_COMPLETE (R147): After one frame of BLANK, the bands send IDLE only and SCAN_STATE becomes STOPPED. -/
  | scanStopComplete
  /-- SCAN_COUNTERS_CLEAR (R148): Clears every scan-drive counter for all bands and nodes. -/
  | scanCountersClear (rq : Req) (data : Bytes)
  /-- VF_SAMPLE (R172): A Vf sample updates the emitter's trend entry through a read and write, taking the reference when due. -/
  | vfSample (emitter code : Nat) (arrives : Bool)
  /-- CAL_WRITEBACK (R70): A calibration record that arrived with a good CRC is written back whole with the new CAL_AGE and a recomputed CRC. -/
  | calWriteback (emitter : Nat) (arrives : Bool)
  /-- DEFECT_ADD (R167): Adds or replaces a host substitution entry and writes its map state. -/
  | defectAdd (rq : Req) (data : Bytes)
  /-- DEFECT_CLEAR (R167): Removes an emitter's substitution and suspect entries and resets its map state and WEAK_RUN. -/
  | defectClear (rq : Req) (data : Bytes)
  /-- DEFECT_CLEAR_ALL (R167): Clears every substitution, suspect and table-full emitter. -/
  | defectClearAll (rq : Req) (data : Bytes)
  /-- DEFECT_TABLE_WRITE (R167): A DOMAIN write replaces the whole substitution table, sorted, with HOST set. -/
  | defectTableWrite (rq : Req) (data : Bytes)
  /-- VF_REF_RESET (R172): Clears REF_SET and SAMPLES of one emitter or of all emitters. -/
  | vfRefReset (rq : Req) (data : Bytes)
  /-- RAIL_START (R199): Starts each masked rail that qualifies, ramping v_set towards V_SAFE, and records skipped rails. -/
  | railStart (rq : Req) (data : Bytes)
  /-- RAIL_STOP (R200): Ramps the masked rails down over 4 ms. -/
  | railStop (rq : Req) (data : Bytes)
  /-- RAIL_CLEAR (R201): Moves masked rails from FAULT_OFF to OFF. -/
  | railClear (rq : Req) (data : Bytes)
  /-- COEF_COMMIT (R187): Brings the coefficient table and map shadows into force for every loop at once. -/
  | coefCommit (rq : Req) (data : Bytes)
  /-- RAIL_MODE_WRITE (R191): A write to RAILn_MODE requests a mode that takes effect at the next fast sample or on leaving STARTING, HOLD or RAMP_DOWN. -/
  | railModeWrite (rq : Req) (rail : Nat) (data : Bytes)
  /-- RAIL_FAST_SAMPLE (R179): Both rail ADCs sample once per switching period; the fast pair is released and the checks and scheduling run. -/
  | railFastSample (rail rawV rawI : Nat)
  /-- ENGINE_JOB_COMPLETE (R193): A lane completes a rail job, and its outputs take effect in period or immediate mode. -/
  | engineJobComplete (rail : Nat) (job : Job)
  /-- JOB_OVERRUN (R195): A job missing its deadline is abandoned; after four in a row the rail falls to a manual mode. -/
  | jobOverrun (rail : Nat) (job : Job)
  /-- FF_PREDICTION_RX (R188): A stroke's load sums arrive from BAND and form the rail feedforward term. -/
  | ffPredictionRx (band row : Nat)
  /-- FEEDBACK_LOSS_DETECT (R196): A frozen sense ADC puts the rail into HOLD at the held duty. -/
  | feedbackLossDetect (rail : Nat)
  /-- HOLD_RECOVERY (R196): 64 good samples within 5 ms return the rail from HOLD to its mode. -/
  | holdRecovery (rail : Nat)
  /-- HOLD_TIMEOUT (R196): HOLD without recovery for 5 ms makes the rail FAULT_OFF with cause 2. -/
  | holdTimeout (rail : Nat)
  /-- OVER_VOLTAGE (R198): Output above OV_LIMIT on 2 consecutive samples makes the rail FAULT_OFF with cause 3. -/
  | overVoltage (rail : Nat)
  /-- OVER_CURRENT_TRIP (R198): 8 consecutive over-current samples make the rail FAULT_OFF with cause 4. -/
  | overCurrentTrip (rail : Nat)
  /-- RAIL_START_TIMEOUT (R199): A start not complete within 50 ms makes the rail FAULT_OFF with cause 1. -/
  | railStartTimeout (rail : Nat)
  /-- RAMP_DOWN_END (R200): After the 4 ms ramp, PWM goes Hi-Z and the rail is OFF. -/
  | rampDownEnd (rail : Nat)
  /-- HEADROOM_SAFE (R197): Headroom samples missing for 50 ms put loop 0 into SAFE, ramping to V_SAFE. -/
  | headroomSafe (rail : Nat)
  /-- HEADROOM_RESUME (R197): 64 consecutive present samples preset loop 0 and resume it from SAFE. -/
  | headroomResume (rail : Nat)
  /-- ADC_ROTATION_STEP (R202): A 40.96 ms rotation step starts, connecting the spare to the next ADC. -/
  | adcRotationStep (bank : Bank)
  /-- ADC_HANDOVER (R202): After 16 overlapping samples, service hands over between ADC and spare, or the handover is abandoned. -/
  | adcHandover (bank : Bank) (meanDiff : Nat)
  /-- ADC_CALIBRATION_DONE (R202): The ADC's reference measurement ends and its new trims are computed. -/
  | adcCalibrationDone (bank : Bank) (low high : Nat)
  /-- ADC_TRIMS_WRITE (R203): A host write to ADC_TRIMS takes effect from the next sample and discards any rotation result in progress. -/
  | adcTrimsWrite (rq : Req) (data : Bytes)
  /-- RAIL_COUNTERS_CLEAR (R205): Clears every rail counter. -/
  | railCountersClear (rq : Req) (data : Bytes)
  /-- SYNC_ORIGINATE (R209): The cox device originates a SYNC message for a domain on both ports. -/
  | syncOriginate (dom : Dom)
  /-- DELAY_MEASURE (R210): Once per second, each UP port sends a delay request to its neighbour. -/
  | delayMeasure (port : Port)
  /-- DELAY_REQ_RX (R259): A DELAY_REQ is taken and answered with DELAY_RESP carrying the turnaround. -/
  | delayReqRx (port : Port) (turnaround : Nat)
  /-- DELAY_RESP_RX (R210): A DELAY_RESP completes a delay sample, which updates the filtered link delay. -/
  | delayRespRx (port : Port) (roundTrip : Nat)
  /-- SYNC_RX (R211): A SYNC is forwarded with updated correction and, on the source port, yields a servo measurement. -/
  | syncRx (port : Port) (residence : Nat)
  /-- PTP_MESSAGE_RX (R215): The Cox processes a PTP message on the T1S port and may produce a measurement. -/
  | ptpMessageRx (message : PtpMessage)
  /-- PTP_TX_TIMESTAMP (R216): A transmit timestamp enters the queue, or is dropped on a full queue. -/
  | ptpTxTimestamp (seq messageType : Nat)
  /-- PTP_TXQ_POP (R216): Returns and removes the oldest timestamp entry. -/
  | ptpTxqPop (rq : Req)
  /-- SOURCE_TIMEOUT (R214): No measurement within DOMx_SOURCE_TIMEOUT sends the domain to HOLDOVER. -/
  | sourceTimeout (dom : Dom)
  /-- DOM_SET (R213): Replaces a domain counter at the next TIME tick. -/
  | domSet (rq : Req) (dom : Dom) (data : Bytes)
  /-- DOM_ADJUST (R213): Adds nanoseconds to a domain counter at the next TIME tick. -/
  | domAdjust (rq : Req) (dom : Dom) (data : Bytes)
  /-- DOM_SOURCE_WRITE (R214): A write to DOMx_SOURCE selects the source, and a write of 0 makes the domain FREE. -/
  | domSourceWrite (rq : Req) (dom : Dom) (data : Bytes)
  /-- ACTIVE_DOMAIN_WRITE (R220): Selects the active domain, at once when no catch is issued, otherwise at the next catch. -/
  | activeDomainWrite (rq : Req) (data : Bytes)
  /-- TIME_COUNTERS_CLEAR (R225): Clears every time counter. -/
  | timeCountersClear (rq : Req) (data : Bytes)
  /-- LINK_PORT_ENABLE_WRITE (R234): Enables ports into SEEK, or takes cleared ports down with cause 1. -/
  | linkPortEnableWrite (rq : Req) (data : Bytes)
  /-- LINK_RETRAIN (R238): Takes the masked UP ports down with cause 5. -/
  | linkRetrain (rq : Req) (data : Bytes)
  /-- PORT_TEST_ENTER (R241): A non-zero PORTp_TEST_MODE puts the port into TEST with the PRBS pattern. -/
  | portTestEnter (rq : Req) (port : Port) (data : Bytes)
  /-- PORT_TEST_EXIT (R241): A zero PORTp_TEST_MODE returns the port to SEEK. -/
  | portTestExit (rq : Req) (port : Port) (data : Bytes)
  /-- SIGNAL_DETECT (R234): Signal is detected on a receive lane. -/
  | signalDetect (port : Port) (lane : Nat)
  /-- LOSS_OF_SIGNAL (R238): Signal is lost on a receive lane; the port returns to SEEK or goes down with cause 2. -/
  | lossOfSignal (port : Port) (lane : Nat)
  /-- MARKER_LOCK (R234): The training marker found in 3 consecutive frames on each lane moves the port to IDENTIFY. -/
  | markerLock (port : Port) (levels0 levels1 : List Nat) (skew : Int)
  /-- TRAINING_CONTROL_WORD_RX (R235): A valid training control word is taken for lane resolution, neighbour status, restart detection and the handoff countdown. -/
  | trainingControlWordRx (port : Port) (lane word : Nat)
  /-- ADAPT_COMPLETE (R234): Receiver adaptation completes on both lanes, and the port enters VERIFY. -/
  | adaptComplete (port : Port) (snr0 snr1 ctle0 ctle1 : Nat)
  /-- VERIFY_WINDOW_END (R235): The PRBS31Q window closes and verification passes or fails. -/
  | verifyWindowEnd (port : Port) (errors0 errors1 : Nat)
  /-- DATA_MODE_START (R236): After the four READY frames the transmitter begins data mode with an alignment codeword. -/
  | dataModeStart (port : Port)
  /-- ALIGNMENT_CODEWORD_RX (R237): An expected alignment codeword is checked for FEC lock or found missing. -/
  | alignmentCodewordRx (port : Port) (levels0 levels1 : List Nat)
  /-- FEC_CODEWORD_RX (R228): An RS codeword is decoded, counted, and its blocks pass to the packet layer. -/
  | fecCodewordRx (port : Port) (levels0 levels1 : List Nat) (drift : Int) (trouble : BufferTrouble)
  /-- UNCORRECTABLE_RUN (R238): 8 consecutive uncorrectable codewords take the port down with cause 3. -/
  | uncorrectableRun (port : Port)
  /-- ALIGNMENT_LOST (R238): Alignment missed at 3 consecutive positions takes the port down with cause 4. -/
  | alignmentLost (port : Port)
  /-- IDENTIFY_TIMEOUT (R234): IDENTIFY unresolved within 10 ms takes the port down with cause 7. -/
  | identifyTimeout (port : Port)
  /-- ADAPT_TIMEOUT (R234): ADAPT incomplete within 50 ms takes the port down with cause 10. -/
  | adaptTimeout (port : Port)
  /-- FEC_LOCK_TIMEOUT (R237): No FEC lock within 2 ms of data start takes the port down with cause 12. -/
  | fecLockTimeout (port : Port)
  /-- TRAIN_TIMEOUT (R234): TRAIN_TIMEOUT from entry to IDENTIFY expires and takes the port down with cause 14. -/
  | trainTimeout (port : Port)
  /-- HOLDOFF_EXPIRY (R234): RETRAIN_HOLDOFF expires and the port enters SEEK. -/
  | holdoffExpiry (port : Port)
  /-- SER_SECOND (R240): Each second of domain A the corrected-symbol count is judged against DEGRADE_LIMIT. -/
  | serSecond
  /-- LINK_COUNTERS_CLEAR (R245): Clears every link physical counter. -/
  | linkCountersClear (rq : Req) (data : Bytes)
  /-- VIDEO_PACKET_RX (R254): A VIDEO packet from the source port writes its pixels into each matching stream layer's buffer. -/
  | videoPacketRx (port : Port)
  /-- CONTROL_PACKET_RX (R255): A CONTROL packet delivers one COP message to the object agent. -/
  | controlPacketRx (port : Port)
  /-- FENCE_PACKET_RX (R256): A FENCE packet from the source port is a fence signal. -/
  | fencePacketRx (port : Port)
  /-- CHAIN_ENUM_RX (R260): A CHAIN_ENUM sets chain position, source port and ring state, and the device announces itself. -/
  | chainEnumRx (port : Port)
  /-- ANNOUNCE_RX (R262): An ANNOUNCE is collected for the election or ignored as late. -/
  | announceRx (port : Port)
  /-- COX_ELECTION (R262): 10 ms after enumeration every device chooses the cox device; the winner sends ROSTER. -/
  | coxElection
  /-- BREAK_RX (R264): A BREAK received on the source port of a ring device is forwarded and switches the source port. -/
  | breakRx (port : Port)
  /-- POISON_RX (R248): A POISON block ends the packet in progress, which is discarded. -/
  | poisonRx (port : Port)
  /-- PACKET_FORWARD (R251): A packet not removed is forwarded cut-through out of the other port, with blocks in error replaced by POISON. -/
  | packetForward (port : Port)
  /-- LOCAL_PACKET_SEND (R252): A waiting local packet leaves when enough IDLE blocks and tokens are available, in class order. -/
  | localPacketSend (port : Port)
  /-- WAKE_SEND (R266): Sends the wake pattern on the masked ports, overriding training. -/
  | wakeSend (rq : Req) (data : Bytes)
  /-- WAKE_PATTERN_END (R266): The 7.324 ms wake pattern ends and the port resumes training. -/
  | wakePatternEnd (port : Port)
  /-- TRAFFIC_COUNTERS_CLEAR (R267): Clears every link traffic counter. -/
  | trafficCountersClear (rq : Req) (data : Bytes)
  /-- MEM_START (R270): Starts reading densities, training and zeroing the LPDDR5. -/
  | memStart (rq : Req) (data : Bytes)
  /-- MEM_START_COMPLETE (R270): The memory start ends in RUNNING or FAILED with its cause. -/
  | memStartComplete (density0 density1 : Nat) (trained : Bool)
  /-- SCRUB_STEP (R271): The patrol scrub reads a block and writes back corrected words unless newer data have arrived. -/
  | scrubStep (corrected : Nat) (uncorrectable : Option Nat) (newer : Bool)
  /-- RING_CREATE (R277): Makes a FREE host ring IDLE with a new handle. -/
  | ringCreate (rq : Req) (data : Bytes)
  /-- RING_DESTROY (R277): Stops the ring, writes back its descriptor, empties the FIFO and frees the ring. -/
  | ringDestroy (rq : Req) (data : Bytes)
  /-- RING_HALT (R286): Halts the ring at the next burst boundary with cause 0x09. -/
  | ringHalt (rq : Req) (data : Bytes)
  /-- RING_RESUME (R286): Moves a HALTED ring to RUNNING or IDLE. -/
  | ringResume (rq : Req) (data : Bytes)
  /-- RING_TAIL_WRITE (R278): Posts descriptors, making an IDLE ring RUNNING when HEAD differs from TAIL. -/
  | ringTailWrite (rq : Req) (ring : Nat) (data : Bytes)
  /-- RING_FIFO_WRITE (R280): Appends bytes to the ring FIFO, or aborts if there is not enough room. -/
  | ringFifoWrite (rq : Req) (ring : Nat) (data : Bytes)
  /-- RING_FIFO_READ (R280): Removes and returns every byte held in the ring FIFO. -/
  | ringFifoRead (rq : Req) (ring : Nat)
  /-- REGION_ENTRY_WRITE (R274): Atomically replaces the selected region entry for bursts issued afterwards. -/
  | regionEntryWrite (rq : Req) (data : Bytes)
  /-- DESCRIPTOR_FETCH (R279): A host ring's descriptor arrives and is checked for FIFO flags, zero length and the L7 protection. -/
  | descriptorFetch (ring : Nat) (trouble writeBack : MemTrouble)
  /-- BURST_ISSUE (R282): The arbiter issues the next burst of the highest ready class, translating it and suspending lower descriptors. -/
  | burstIssue (device : List DeviceBurst)
  /-- BURST_COMPLETE (R281): A burst's read and write complete or fault, advancing the descriptor. -/
  | burstComplete (ring : Nat) (trouble writeBack : MemTrouble)
  /-- MEM_RESPONSE_TIMEOUT (R284): No LPDDR5 response within MEM_RESPONSE_TIMEOUT ends the burst with cause 0x06. -/
  | memResponseTimeout (ring : Nat) (writeBack : MemTrouble)
  /-- FIFO_TIMEOUT (R284): A FIFO underrun or overrun lasting FIFO_TIMEOUT ends the descriptor with cause 0x07 or 0x08. -/
  | fifoTimeout (ring : Nat) (writeBack : MemTrouble)
  /-- MEM_COUNTERS_CLEAR (R290): Clears every memory and ring counter. -/
  | memCountersClear (rq : Req) (data : Bytes)
  /-- SAFETY_INPUT_RECOGNISED (R294): A channel takes a new level on a dual-channel input after 15 equal samples. -/
  | safetyInputRecognised (channel : Channel) (pin : SafetyPin) (level : Bool)
  /-- DISCREPANCY_TIMEOUT (R295): Pins disagreeing for more than 50 ms record a discrepancy and make the input unproven. -/
  | discrepancyTimeout (channel : Channel) (input : DualInput)
  /-- BEACON_PATROL (R306): The millbrake starts a patrol of the beacon store every 10 s, at RESET_N release and at wake from S2. -/
  | beaconPatrol
  /-- BEACON_PATROL_COMPLETE (R306): A patrol completes, setting BEACON_VALID or invalidating the content. -/
  | beaconPatrolComplete (corrected : Nat) (uncorrectable : List Nat)
  /-- EVAC_IMAGE_SAVE (R309): Copies the beacon store to the evacuation image area of the boot flash. -/
  | evacImageSave (rq : Req) (data : Bytes)
  /-- WATCHDOG_TIMEOUT (R293): No heartbeat inversion for 5 ms trips the millbrake with cause 3. -/
  | watchdogTimeout
  /-- MILLBRAKE_STATUS_READ (R293): Every 10 ms channel A reads MILLBRAKE_COUNT and trips with cause 4 if it did not advance. -/
  | millbrakeStatusRead (answered : Bool)
  /-- MILLBRAKE_CYCLE (R293): The millbrake completes one 10 µs evaluation cycle and advances MILLBRAKE_COUNT. -/
  | millbrakeCycle
  /-- SAFETY_TRIP_CLEAR (R298): Clears a latched trip whose cause is absent. -/
  | safetyTripClear (rq : Req) (data : Bytes)
  /-- AMBIENT_LUX_WRITE (R311): Stores ambient illuminance and restarts its timeout. -/
  | ambientLuxWrite (rq : Req) (data : Bytes)
  /-- AMBIENT_TIMEOUT (R311): AMBIENT_LUX unwritten for AMBIENT_TIMEOUT makes F_amb the lowest factor. -/
  | ambientTimeout
  /-- OUTPUT_TEST_PULSE_START (R317): A channel drives its RAILEN output low for TEST_PULSE. -/
  | outputTestPulseStart (channel : Channel)
  /-- OUTPUT_TEST_PULSE_END (R317): The pulse ends, RAILFB is checked low and the output is raised again. -/
  | outputTestPulseEnd (channel : Channel) (feedback : Bool)
  /-- OUTPUT_TEST_READBACK (R317): 50 µs after the pulse, RAILFB high passes the test; otherwise it fails and is retested. -/
  | outputTestReadback (channel : Channel) (feedback : Bool)
  /-- RAILFB_MISMATCH (R317): A RAILFB level differing from its output for 1 ms outside pulses fails the test. -/
  | railfbMismatch (channel : Channel)
  /-- OUTPUT_TEST_OVERDUE (R318): An output high for 12 s without a pass raises the test-overdue source. -/
  | outputTestOverdue (channel : Channel)
  /-- FAULT_SOURCE_RISE (R327): A live bit rises; the count, latch and times are updated and the configured reaction applies. -/
  | faultSourceRise (source : Nat)
  /-- PAIR_DISCREPANT_CONFIRM (R324): A report pair discrepant for 16 samples is confirmed as a fault, making FS95 live. -/
  | pairDiscrepantConfirm (source : Nat)
  /-- FAULT_PULSE_END (R326): A 1 µs pulse report ends, and the next held occurrence follows after the gap. -/
  | faultPulseEnd (source : Nat)
  /-- FAULT_CLEAR (R327): Clears the latched bits of non-live masked sources and their FAULT_HELD bits. -/
  | faultClear (rq : Req) (data : Bytes)
  /-- FAULT_FORCE_WRITE (R331): Sets the force bits, which make sources live at their origin drivers. -/
  | faultForceWrite (rq : Req) (data : Bytes)
  /-- FAULT_REACTION_WRITE (R330): Sets reaction levels, floored, with effect from the next aggregator cycle. -/
  | faultReactionWrite (rq : Req) (data : Bytes)
  /-- FAULT_COUNTERS_CLEAR (R328): Sets every fault count and time to 0. -/
  | faultCountersClear (rq : Req) (data : Bytes)
  /-- FREEZE_PIN (R335): A filtered falling edge on FREEZE_N freezes the device. -/
  | freezePin
  /-- JTAG_FREEZE (R336): The FREEZE instruction stops every island and drops the outputs. -/
  | jtagFreeze
  /-- JTAG_FRZ_READ (R337): Selects the freeze read-out chain. -/
  | jtagFrzRead
  /-- JTAG_KEYS_CLEAR (R366): Erases the key record. -/
  | jtagKeysClear
  /-- JTAG_EXTEST (R402): Boundary-scan EXTEST holds RAILEN low and PWM Hi-Z. -/
  | jtagExtest
  /-- JTAG_SAMPLE_PRELOAD (R402): Boundary-scan SAMPLE/PRELOAD. -/
  | jtagSamplePreload
  /-- JTAG_IDCODE (R402): Selects the IDCODE register. -/
  | jtagIdcode
  /-- JTAG_BYPASS (R402): BYPASS, also taken by every other opcode. -/
  | jtagBypass (opcode : Nat)
  /-- JTAG_TAP_RESET (R402): TRST_N low or Test-Logic-Reset resets the TAP. -/
  | jtagTapReset
  /-- PERF_LEVEL_WRITE (R341): Starts a performance-level transition, or stores the request during one. -/
  | perfLevelWrite (rq : Req) (data : Bytes)
  /-- AVS_ACKNOWLEDGE (R340): The regulator acknowledges a voltage write, and the transition proceeds or completes. -/
  | avsAcknowledge
  /-- AVS_TIMEOUT (R342): No acknowledge within 2 ms; the level is kept, reverted or HELD. -/
  | avsTimeout (coreMillivolts : Nat)
  /-- HK_SAMPLE (R346): The housekeeping sequencer samples one channel every 250 µs. -/
  | hkSample (value : Int)
  /-- ORDERLY_STOP_END (R350): 5 ms after the trip the orderly stop finishes, abandoning an unfinished flash write. -/
  | orderlyStopEnd
  /-- THERMAL_CLEAR (R352): Arms the restart count of the hover rule. -/
  | thermalClear (rq : Req) (data : Bytes)
  /-- HOVER_HOLD_END (R352): A 10 s hold with no hot sample ends the trip and powers the four islands. -/
  | hoverHoldEnd
  /-- MARGIN_PLAN (R345): Hourly, and once after power-on, the slowdown and voltage margin are planned. -/
  | marginPlan
  /-- SLEEP_ENTER_S1 (R354): Requests S1, entered at the next frame catch. -/
  | sleepEnterS1 (rq : Req)
  /-- SLEEP_ENTER_S2 (R355): Starts entry to S2 with blanking, ring halt, image save and self-refresh. -/
  | sleepEnterS2 (rq : Req)
  /-- SLEEP_ENTER_S3 (R355): Starts entry to S3 without image or self-refresh. -/
  | sleepEnterS3 (rq : Req)
  /-- SLEEP_EXIT_S1 (R354): Argument 0 ends S1, resuming PIXEL, MEM and rings. -/
  | sleepExitS1 (rq : Req)
  /-- SLEEP_ENTRY_COMPLETE (R355): TIME is latched into AON, FAULT_HELD is copied and CORE_PWR_EN falls. -/
  | sleepEntryComplete
  /-- WAKE_N_LOW (R358): WAKE_N low on 2 XTAL32 samples wakes the device. -/
  | wakeNLow
  /-- EVAC_PIN_WAKE (R358): An EVAC pin demanding on 4 XTAL32 samples wakes the device. -/
  | evacPinWake (channel : Channel)
  /-- SAFE_BLANK_PIN_WAKE (R358): A SAFE_BLANK pin demanding on 4 XTAL32 samples wakes the device. -/
  | safeBlankPinWake (channel : Channel) (released : Bool)
  /-- WAKE_PATTERN_DETECT (R266): AON recognises the wake pattern on a port and wakes the device. -/
  | wakePatternDetect (port : Port) (lengths : List Nat)
  /-- LINK_ACTIVITY_DETECT (R358): Signal present for 64 XTAL32 periods wakes the device from S2 or S3. -/
  | linkActivityDetect (port : Port) (periods : Nat)
  /-- T1S_ACTIVITY_DETECT (R358): Carrier on the T1S line for 16 XTAL32 periods wakes the device. -/
  | t1sActivityDetect
  /-- WAKE_TIMER_EXPIRY (R358): The AON wake timer expires and wakes the device. -/
  | wakeTimerExpiry
  /-- SLEEP_EXIT (R357): At a wake edge, CORE_PWR_EN rises, the wake is recorded and the exit sequence begins. -/
  | sleepExit (image : ImageCheck)
  /-- CORE_SUPPLY_IN_WINDOW (R401): Switched supplies reach their window; islands leave reset, PLLs lock and the collector runs. -/
  | coreSupplyInWindow
  /-- FIRMWARE_RUNNING (R380): The boot ROM selects and verifies a slot, and the firmware or recovery agent runs. -/
  | firmwareRunning
  /-- POWER_ON_RESET_RELEASE (R398): The power-on reset releases, AON takes its defaults and waits for XTAL32. -/
  | powerOnResetRelease
  /-- XTAL32_START (R398): XTAL32 oscillates; straps are sampled and CORE_PWR_EN rises. -/
  | xtal32Start (straps : Nat)
  /-- XTAL32_START_TIMEOUT (R398): With no XTAL32 after 2 s, AON runs from its internal oscillator. -/
  | xtal32StartTimeout (straps : Nat)
  /-- RESET_N_LOW (R399): A filtered RESET_N low holds every island other than AON in reset. -/
  | resetNLow (nanoseconds : Nat)
  /-- RESET_N_RELEASE (R401): RESET_N rises, straps are sampled, and the release sequence runs from step 2. -/
  | resetNRelease (straps : Nat)
  /-- RESET_HOLD_LONG (R361): RESET_N low beyond 8 s sets RESET_HELD and counts the hold. -/
  | resetHoldLong (milliseconds : Nat)
  /-- CORE_BROWN_OUT (R397): VDD_CORE below 0.55 V for 2 µs drops the outputs and holds the switched islands in reset. -/
  | coreBrownOut
  /-- CORE_SUPPLY_RESTORED (R397): VDD_CORE back in window for 1 ms runs the release sequence from step 3. -/
  | coreSupplyRestored
  /-- FW_UPDATE_BEGIN (R382): Erases the slot that is not running and is answered on completion. -/
  | fwUpdateBegin (rq : Req) (data : Bytes)
  /-- FW_IMAGE (R371): Programs each firmware image segment into the flash at its offset. -/
  | fwImage (rq : Req) (seg : Segment) (data : Bytes)
  /-- FW_UPDATE_VERIFY (R382): Checks the written slot under R381 and is answered on completion. -/
  | fwUpdateVerify (rq : Req) (data : Bytes)
  /-- FW_ACTIVATE_NEXT_RESET (R382): Argument 1 writes the boot record with the verified slot as trial, taking effect at the next reset. -/
  | fwActivateNextReset (rq : Req)
  /-- FW_ACTIVATE_NOW (R382): Argument 2 writes the trial boot record and resets the device after the response. -/
  | fwActivateNow (rq : Req)
  /-- FW_CONFIRM (R382): Makes the trial slot ACTIVE and clears TRIAL. -/
  | fwConfirm (rq : Req) (data : Bytes)
  /-- FW_ROLLBACK_COMMIT (R381): Raises FW_ROLLBACK_MIN to the running image's ROLLBACK. -/
  | fwRollbackCommit (rq : Req) (data : Bytes)
  /-- FW_KEY_REVOKE (R381): Revokes key slot 0 for good. -/
  | fwKeyRevoke (rq : Req) (data : Bytes)
  /-- CAL_FLASH_SAVE (R384): Copies the calibration records and header to the flash calibration copy. -/
  | calFlashSave (rq : Req) (data : Bytes)
  /-- CAL_FLASH_LOAD (R384): Loads calibration records from the flash copy into LPDDR5. -/
  | calFlashLoad (rq : Req) (data : Bytes)
  /-- CAL_FLASH_COMPLETE (R384): A calibration save or load completes and CAL_FLASH_STATE is set. -/
  | calFlashComplete (ok : Bool)
  /-- FAULT_LOG_WRITE (R383): Writes a fault log record to the boot flash. -/
  | faultLogWrite (rq : Req) (data : Bytes)
  /-- POWER_ON_RESET (R398): VDD_AON falls below 0.70 V or VDD_IO below 1.55 V, and the internal power-on reset holds the whole device with FAULT_N low. -/
  | powerOnReset
  /-- PRBS_CHECKER_LOCK (R241): A lane's self-synchronising PRBS checker locks onto the received pattern, in either polarity, and LANEpl_PRBS_LOCKED is set or error counting starts. -/
  | prbsCheckerLock (port : Port) (lane : Nat) (inverted : Bool)
  /-- UPSTREAM_COMMA_ALIGNMENT (R135): A band link's upstream receiver achieves comma alignment, and the band leaves ALIGNING for enumeration. -/
  | upstreamCommaAlignment (band : Nat)
  /-- WATCHDOG_PAIR_INVERSION (R325): Every 1 ms, the Cox safety firmware inverts both wires of its FS80 watchdog pair, restarting the millbrake's 5 ms watchdog. -/
  | watchdogPairInversion (corrected : Nat)
  /-- PAIR_DISCREPANCY_END (R324): A confirmed discrepant report pair reads 0b01 or 0b10 again, and its fault, its PAIR_DISCREPANT bit and FS95 end. -/
  | pairDiscrepancyEnd (source : Nat)
  /-- PLL_UNLOCK (R332): A REFCLK-derived PLL of a running island loses lock, and FS17 becomes live. -/
  | pllUnlock (island : Nat)
  /-- PLL_RELOCK (R332): A PLL that was out of lock regains lock, and FS17 is no longer live. -/
  | pllRelock (island : Nat)
  /-- COX_MACHINE_CHECK (R49): An uncorrectable SRAM error in the Cox program and data region makes the Cox take a machine check; channel A drops RAILEN_A and FS18 pulses. -/
  | coxMachineCheck (offset : Nat)
  /-- ARP_REQUEST_RX (R370): An ARP request for the device's IPv4 address arrives on the 10BASE-T1S port, and the device answers it. -/
  | arpRequestRx (target : Nat) (senderMac senderIp : Nat)
  /-- ICMP_ECHO_REQUEST_RX (R370): An ICMP echo request for the device's address arrives on the T1S port, and the device sends the echo reply. -/
  | icmpEchoRequestRx (target senderIp : Nat) (payload : Bytes)
  /-- PTP_DELAY_REQ_SEND (R215): The Cox, as an end-to-end delay request-response slave, sends a PTP Delay_Req on the T1S port. -/
  | ptpDelayReqSend
  deriving DecidableEq, Repr

end Sys2Proof
end

