-- ==== Sys2Proof/Decode.lean ====
section
/-! DEFINITION. The decoder over spec/opcode_table.json. The block has no instruction encoding: no row of the table
has bits, so no word spells a command. -/

namespace Sys2Proof

/-- The command that a word of `nbits` bits spells by the table's bits: none, since no row gives bits. -/
def decodeTableWord (_nbits _w : Nat) : Option Instr := none

end Sys2Proof
end

