-- ==== Sys2Proof/Config.lean ====
section
/-! DEFINITION. What an implementation fixes and the manual does not state: fused values, the checks of firmware signatures, and the free values. Each is opaque: no proof can see a value of it. -/

namespace Sys2Proof.Config

/-- The free values: one natural for each count of `State.freeCtr` (assumption log 4). -/
opaque freeNat : Nat → Nat

/-- DEVICE_SERIAL, fused (15 R385). -/
opaque deviceSerial : Nat
/-- SILICON_REVISION, fused (15 R385). -/
opaque siliconRevision : Nat
/-- ROM_VERSION, fixed (15 R385). -/
opaque romVersion : Nat
/-- MAC_ADDRESS, fused (15 R385). -/
opaque macAddress : Nat
/-- RO_FACTORY_BASELINES entry i, fused, U1.15 (14 R344). -/
opaque factoryBaseline : Nat → Nat
/-- A diode-current ratio of housekeeping channel 1 lies inside its window, which the manual does not give (14 R348). -/
opaque ratioInWindow : Int → Bool
/-- FLASH_SIZE in bytes, detected (15 R378). -/
opaque flashSize : Nat
/-- FW_ROLLBACK_MIN as fused at delivery (15 R381). -/
opaque fusedRollbackMin : Nat
/-- The factory dither mask, byte by byte (03 R84). -/
opaque ditherMask : Nat → Byte

/-- The public key of a key slot, a point of P-256, whose hash is fused (15 R381). -/
opaque publicKey : Nat → Nat × Nat

/-- The island state bits of the freeze chain, by island and count of free values: the freeze description files give
their layout (13 R337). -/
opaque islandStateBits : Nat → Nat → List Bool
/-- The S2 configuration image as it stands in LPDDR5, by count of free values: its layout is not given (14 R356). -/
opaque sleepImage : Nat → Bytes
/-- The IDCODE register (16 R402). -/
opaque idcode : Nat
/-- What the boundary-scan register captures, by count of free values: its order is not given (16 R402). -/
opaque boundaryScan : Nat → List Bool

end Sys2Proof.Config
end

