-- ==== Sys2Proof/Machine/Sparse.lean ====
section
/-! DEFINITION. Sparse maps in one canonical form: a list of key and value pairs, keys strictly rising, no entry
equal to what an unlisted key reads as. Every memory, register file and instance table of the state is one. -/

namespace Sys2Proof.Machine

/-- A sparse map from natural keys. -/
abbrev Sparse (α : Type) := List (Nat × α)

/-- The value at key `k`; an unlisted key reads as `d k`. -/
def Sparse.get {α : Type} (d : Nat → α) : Sparse α → Nat → α
  | [], k => d k
  | (j, v) :: m, k => if j = k then v else Sparse.get d m k

/-- Remove key `k`. -/
def Sparse.drop {α : Type} (m : Sparse α) (k : Nat) : Sparse α := m.filter fun p => p.1 != k

/-- Put an entry in its place among the keys. -/
def Sparse.insert {α : Type} : Sparse α → Nat → α → Sparse α
  | [], k, v => [(k, v)]
  | (j, w) :: m, k, v => if k < j then (k, v) :: (j, w) :: m else (j, w) :: Sparse.insert m k v

/-- Write `v` at key `k`, keeping the canonical form: the default is not listed. -/
def Sparse.set {α : Type} [DecidableEq α] (d : Nat → α) (m : Sparse α) (k : Nat) (v : α) : Sparse α :=
  if v = d k then Sparse.drop m k else Sparse.insert (Sparse.drop m k) k v

/-- The canonical form above a lower bound. -/
def Sparse.wfFrom {α : Type} [DecidableEq α] (d : Nat → α) : Nat → Sparse α → Bool
  | _, [] => true
  | b, (j, v) :: m => decide (b ≤ j) && !decide (v = d j) && Sparse.wfFrom d (j + 1) m

/-- The canonical form: keys strictly rising, no entry at its default. -/
def Sparse.wf {α : Type} [DecidableEq α] (d : Nat → α) (m : Sparse α) : Bool := Sparse.wfFrom d 0 m

/-- Put every key of `[lo, hi)` back to its default. -/
def Sparse.clear {α : Type} (m : Sparse α) (lo hi : Nat) : Sparse α :=
  m.filter fun p => p.1 < lo || hi ≤ p.1

/-- Put every key that satisfies `f` back to its default. -/
def Sparse.clearIf {α : Type} (m : Sparse α) (f : Nat → Bool) : Sparse α := m.filter fun p => !f p.1

/-- Write a list of values at consecutive keys. -/
def Sparse.setList {α : Type} [DecidableEq α] (d : Nat → α) : Sparse α → Nat → List α → Sparse α
  | m, _, [] => m
  | m, k, v :: vs => Sparse.setList d (Sparse.set d m k v) (k + 1) vs

/-- Read `n` values from consecutive keys. -/
def Sparse.getList {α : Type} (d : Nat → α) (m : Sparse α) : Nat → Nat → List α
  | _, 0 => []
  | k, n + 1 => Sparse.get d m k :: Sparse.getList d m (k + 1) n

end Sys2Proof.Machine
end

