-- ==== Sys2Proof/Machine/Arith.lean ====
section
/-! DEFINITION. The arithmetic conventions of 00_scope.md: byte order (R7), two's complement (R8), rounding half up
(R416, R55), clipping, and the check codes CRC-32 (03 R68), CRC-16 (05 R131) and CRC-8 (09 R232). -/

namespace Sys2Proof.Machine

/-- The little-endian value of a byte string (R7). -/
def leNat : Bytes → Nat
  | [] => 0
  | b :: bs => b.toNat + 256 * leNat bs

/-- `n` bytes of a value, least significant first (R7). -/
def natLE : Nat → Nat → Bytes
  | 0, _ => []
  | n + 1, v => BitVec.ofNat 8 v :: natLE n (v / 256)

/-- The signed value of an `n`-bit two's complement image (R8). -/
def signed (n v : Nat) : Int :=
  if v % 2 ^ n < 2 ^ (n - 1) then ((v % 2 ^ n : Nat) : Int) else ((v % 2 ^ n : Nat) : Int) - (2 ^ n : Nat)

/-- The `n`-bit two's complement image of an integer, higher bits dropped (R8). -/
def image (n : Nat) (v : Int) : Nat := (v % ((2 ^ n : Nat) : Int)).toNat

/-- Limit to an interval of integers. -/
def clampI (lo hi v : Int) : Int := min (max v lo) hi

/-- Limit to an interval of naturals: "values outside act as the nearer limit". -/
def clampN (lo hi v : Nat) : Nat := min (max v lo) hi

/-- The `n`-bit image of an integer limited to the signed range. -/
def satImage (n : Nat) (v : Int) : Nat :=
  image n (clampI (-((2 ^ (n - 1) : Nat) : Int)) (((2 ^ (n - 1) : Nat) : Int) - 1) v)

/-- Shift right with floor after adding half an LSB: round half up (R55). -/
def rsh (v : Int) (n : Nat) : Int :=
  match n with
  | 0 => v
  | k + 1 => (v + ((2 ^ k : Nat) : Int)) / ((2 ^ (k + 1) : Nat) : Int)

/-- The nearest integer to `a / b` for `b > 0`, an exact half rounded up (R416). -/
def roundDiv (a : Int) (b : Nat) : Int := (2 * a + b) / (2 * b : Nat)

/-- The nearest integer to a rational, an exact half rounded up (R416). -/
def roundRat (q : Rat) : Int := roundDiv q.num q.den

/-- Bit `i` of a natural. -/
def bitAt (v i : Nat) : Bool := v / 2 ^ i % 2 == 1

/-- The field [lo+n-1:lo]. -/
def field (v lo n : Nat) : Nat := v / 2 ^ lo % 2 ^ n

/-- `v` with bit `i` set to `b`. -/
def putBit (v i : Nat) (b : Bool) : Nat :=
  if bitAt v i then (if b then v else v - 2 ^ i) else (if b then v + 2 ^ i else v)

/-- 1 for true (the image of a BOOL, R363). -/
def b2n (b : Bool) : Nat := if b then 1 else 0

/-- ceil(a / b) for b > 0. -/
def ceilDiv (a b : Nat) : Nat := (a + b - 1) / b

/-- One step of CRC-32 of IEEE 802.3, reflected, over one bit (R68). -/
def crc32Bit (c : BitVec 32) : BitVec 32 :=
  if c.getLsbD 0 then (c >>> 1) ^^^ 0xEDB88320#32 else c >>> 1

/-- CRC-32 over one byte (R68). -/
def crc32Byte (c : BitVec 32) (b : Byte) : BitVec 32 :=
  crc32Bit (crc32Bit (crc32Bit (crc32Bit (crc32Bit (crc32Bit (crc32Bit (crc32Bit (c ^^^ b.setWidth 32))))))))

/-- CRC-32 of 03 R68: reflected, initial value and final exclusive-OR all ones. -/
def crc32 (bs : Bytes) : Nat := (bs.foldl crc32Byte 0xFFFFFFFF#32 ^^^ 0xFFFFFFFF#32).toNat

/-- One step of CRC-16 with polynomial 0x1021, not reflected (05 R131). -/
def crc16Bit (c : BitVec 16) : BitVec 16 :=
  if c.getLsbD 15 then (c <<< 1) ^^^ 0x1021#16 else c <<< 1

/-- CRC-16 over one byte (05 R131). -/
def crc16Byte (c : BitVec 16) (b : Byte) : BitVec 16 :=
  crc16Bit (crc16Bit (crc16Bit (crc16Bit (crc16Bit (crc16Bit (crc16Bit (crc16Bit (c ^^^ (b.setWidth 16 <<< 8)))))))))

/-- CRC-16 of 05 R131: initial value 0xFFFF, no reflection, no final exclusive-OR. -/
def crc16 (bs : Bytes) : Nat := (bs.foldl crc16Byte 0xFFFF#16).toNat

/-- One step of CRC-8 with polynomial 0x07, not reflected (09 R232). -/
def crc8Bit (c : BitVec 8) : BitVec 8 := if c.getLsbD 7 then (c <<< 1) ^^^ 0x07#8 else c <<< 1

/-- CRC-8 over one byte (09 R232). -/
def crc8Byte (c b : BitVec 8) : BitVec 8 :=
  crc8Bit (crc8Bit (crc8Bit (crc8Bit (crc8Bit (crc8Bit (crc8Bit (crc8Bit (c ^^^ b))))))))

/-- CRC-8 of 09 R232: initial value 0, no reflection, no final exclusive-OR. -/
def crc8 (bs : Bytes) : Nat := (bs.foldl crc8Byte 0#8).toNat

/-- The element at position `i` of a list of naturals, 0 beyond its end. -/
def natAt (l : List Nat) (i : Nat) : Nat := l.getD i 0

/-- `exp(-a/b)` as a fixed-point value with 64 fraction bits, from `k` terms of the alternating series, arguments
above 1 halved first by squaring. Used by THERMAL_ALPHA (03 R72). -/
def expNegSeries (x : Nat) : Nat → Nat → Int → Int → Int
  | 0, _, _, acc => acc
  | k + 1, n, term, acc =>
    let t := -(term * x) / ((2 ^ 64 : Nat) * (n + 1) : Nat)
    expNegSeries x k (n + 1) t (acc + t)

/-- Square a 64-fraction-bit value `k` times. -/
def squareTimes : Nat → Int → Int
  | 0, v => v
  | k + 1, v => squareTimes k (v * v / (2 ^ 64 : Nat))

/-- `exp(-a/b)` with 64 fraction bits for a, b > 0: the argument is divided by 16 and the result squared four times. -/
def expNeg (a b : Nat) : Int :=
  squareTimes 4 (expNegSeries (a * 2 ^ 60 / b) 30 0 ((2 ^ 64 : Nat) : Int) ((2 ^ 64 : Nat) : Int))

end Sys2Proof.Machine
end

