-- ==== Sys2Proof/Machine/Objects.lean ====
section
/-! DEFINITION. The object dictionary: every object of the manual's object tables (00_scope.md, Objects) with its
index and subindex, its type image (15 R363), its access right, its default after the reset of R12, the lowest role
that may write it (15 R365 and the owning chapters), the owning subsystem of an RWS object and the island that holds
it (02 R37). Defaults that the spec states as a formula or leaves to fuses stand in `domDefault` and Config. -/

namespace Sys2Proof.Machine

/-- Access rights (00_scope.md). -/
inductive Access where
  | ro | rw | wo | rws | cmd
  deriving DecidableEq, Repr

/-- Type images (15 R363 Table 1): BOOL, a fixed number of bytes, a DOMAIN of a size, or a command argument. -/
inductive Ty where
  | bool
  | fixed (bytes : Nat)
  | domain (size : Nat)
  | cmd
  deriving DecidableEq, Repr

/-- The owning subsystem of an RWS object (R31, 07 R205, 11 R290). -/
inductive Owner where
  | none | scan | rail | allRails | memory
  deriving DecidableEq, Repr

/-- One object of a group. `mask` keeps the bits that are not reserved (R10). -/
structure ObjRow where
  sub : Nat
  ty : Ty
  mask : Nat
  access : Access
  dflt : Nat
  role : Nat
  owner : Owner
  aon : Bool
  deriving DecidableEq, Repr

/-- One group: `count` consecutive indices with the same rows. -/
structure ObjGroup where
  first : Nat
  count : Nat
  island : Nat
  rows : List ObjRow
  deriving DecidableEq, Repr

/- The objects by the manual's names; an object is index × 256 + subindex, a repeated one takes its instance. -/

namespace Obj

/-- U16 RWS, default 1024 (01 R36). -/
abbrev TILE_WIDTH : Nat := 0x200001
/-- U16 RWS, default 1024 (01 R36). -/
abbrev TILE_HEIGHT : Nat := 0x200002
/-- ENUM RWS, default 3 (01 R36). -/
abbrev ROWS_PER_BAND : Nat := 0x200003
/-- U32 RWS, default 0x00000000 (01 R36). -/
abbrev ROW_REVERSE : Nat := 0x200004
/-- ENUM RWS, default 0 (01 R36). -/
abbrev COLOUR_ORDER : Nat := 0x200005
/-- DOMAIN RWS, default Identity for x < 1024, unmapped above (01 R36). -/
abbrev X_MAP : Nat := 0x201001
/-- U16 RW, default 0 (01 R36). -/
abbrev X_MAP_INDEX : Nat := 0x201002
/-- U16 RWS, default 0x0040 (01 R36). -/
abbrev X_MAP_ENTRY : Nat := 0x201003
/-- CMD CMD, default — (01 R36). -/
abbrev X_MAP_FILL : Nat := 0x201004
/-- U16 RO, default 0 (01 R36). -/
abbrev EFFECTIVE_WIDTH : Nat := 0x202001
/-- U16 RO, default 0 (01 R36). -/
abbrev EFFECTIVE_HEIGHT : Nat := 0x202002
/-- U8 RO, default 0 (01 R36). -/
abbrev BAND_COUNT : Nat := 0x202003
/-- U16 RO, default 0x0000 (01 R36). -/
abbrev RAIL_GROUPS_USED : Nat := 0x202004
/-- U32 RO, default 0x00000000 (01 R36). -/
abbrev NODES_REFERENCED : Nat := 0x202005
/-- U16 RO, default 0 (01 R36). -/
abbrev UNMAPPED_COLUMNS : Nat := 0x202006
/-- U16 RO, default 0 (01 R36). -/
abbrev COLLIDING_COLUMNS : Nat := 0x202007
/-- U32 RO, default 0 (01 R36). -/
abbrev CLIPPED_PIXELS : Nat := 0x202008
/-- U32 RO, default 0 (01 R36). -/
abbrev GEOMETRY_APPLIES : Nat := 0x202009
/-- DOMAIN RO, default All 0 (01 R36). -/
abbrev ZONE_X_EDGES : Nat := 0x20200A
/-- DOMAIN RO, default All 0 (01 R36). -/
abbrev ZONE_Y_EDGES : Nat := 0x20200B
/-- U32 RO, default 0x00000000 (02 R53). -/
abbrev ISLAND_STATE : Nat := 0x210001
/-- U16 RW, default 0x0000 (02 R53). -/
abbrev WAKE_ON_ACCESS : Nat := 0x210002
/-- U16 RW, default 10 (02 R53). -/
abbrev WAKE_HOLD : Nat := 0x210003
/-- U32 RO, default 0 (02 R53). -/
abbrev ASLEEP_ABORTS : Nat := 0x210004
/-- U32 RO, default 0 (02 R53). -/
abbrev ACCESS_WAKES : Nat := 0x210005
/-- U8 RW, default 1 (02 R53). -/
abbrev CROSSING_INDEX : Nat := 0x211001
/-- U32 RO, default 0 (02 R53). -/
abbrev CROSSING_TIMEOUTS : Nat := 0x211002
/-- U32 RO, default 0 (02 R53). -/
abbrev CROSSING_LATE_ACKS : Nat := 0x211003
/-- TIME80 RO, default 0 (02 R53). -/
abbrev CROSSING_LAST_TIMEOUT : Nat := 0x211004
/-- U16 RO, default 0x0000 (02 R53). -/
abbrev CROSSING_TIMEOUT_MASK : Nat := 0x211005
/-- U8 RW, default 0 (02 R53). -/
abbrev SRAM_REGION_INDEX : Nat := 0x212001
/-- U32 RO, default 0 (02 R53). -/
abbrev SRAM_CORRECTED : Nat := 0x212002
/-- U32 RO, default 0 (02 R53). -/
abbrev SRAM_UNCORRECTED : Nat := 0x212003
/-- U32 RO, default 0xFFFFFFFF (02 R53). -/
abbrev SRAM_LAST_OFFSET : Nat := 0x212004
/-- CMD CMD, default — (02 R53). -/
abbrev SRAM_COUNTERS_CLEAR : Nat := 0x212005
/-- U16 RW, default 0x0000 (03 R88). -/
abbrev STAGE_BYPASS : Nat := 0x300001
/-- ENUM RW, default 2 (03 R88). -/
abbrev TARGET_PRIMARIES : Nat := 0x300002
/-- U32 RO, default 0 (03 R88). -/
abbrev PIPELINE_FRAMES : Nat := 0x300003
/-- U32 RO, default 0 (03 R88). -/
abbrev PIPELINE_LATE_FRAMES : Nat := 0x300004
/-- U32 RO, default 0 (03 R88). -/
abbrev TABLE_SWAPS : Nat := 0x300005
/-- BOOL RO, default 0 (03 R88). -/
abbrev SWAPS_HELD : Nat := 0x300006
/-- U32 RO, default 0 (03 R88). -/
abbrev MISSING_READS : Nat := 0x300007
/-- ENUM RW, default 0 (03 R88). -/
abbrev INGEST_TRANSFER (i : Nat) : Nat := 0x301001 + 256 * i
/-- ENUM RW, default 0 (03 R88). -/
abbrev INGEST_BITS (i : Nat) : Nat := 0x301002 + 256 * i
/-- ENUM RW, default 1 (03 R88). -/
abbrev INGEST_RANGE (i : Nat) : Nat := 0x301003 + 256 * i
/-- ENUM RW, default 1 (03 R88). -/
abbrev INGEST_PRIMARIES (i : Nat) : Nat := 0x301004 + 256 * i
/-- U16 RW, default 5000 (03 R88). -/
abbrev INGEST_PQ_WHITE (i : Nat) : Nat := 0x301005 + 256 * i
/-- U4.16 RW, default 0x10000 (03 R88). -/
abbrev INGEST_HLG_SCALE (i : Nat) : Nat := 0x301006 + 256 * i
/-- U4.16 RW, default 0x10000 (03 R88). -/
abbrev INGEST_LINEAR_SCALE (i : Nat) : Nat := 0x301007 + 256 * i
/-- DOMAIN RW, default Computed for PQ (03 R88). -/
abbrev INGEST_TABLE (i : Nat) : Nat := 0x301008 + 256 * i
/-- DOMAIN RW, default Identity (03 R88). -/
abbrev INGEST_MATRIX (i : Nat) : Nat := 0x301009 + 256 * i
/-- DOMAIN RO, default Identity (03 R88). -/
abbrev INGEST_MATRIX_IN_FORCE (i : Nat) : Nat := 0x30100A + 256 * i
/-- BOOL RW, default 1 (03 R88). -/
abbrev CAL_ENABLE : Nat := 0x302001
/-- U32 RO, default 0 (03 R88). -/
abbrev CAL_CRC_FAILS : Nat := 0x302002
/-- U32 RO, default 0xFFFFFFFF (03 R88). -/
abbrev CAL_LAST_FAIL_PIXEL : Nat := 0x302003
/-- U32 RO, default 0 (03 R88). -/
abbrev CAL_WRITEBACKS : Nat := 0x302004
/-- Q9.7 RW, default 0x0C80 (03 R88). -/
abbrev THERMAL_BASE : Nat := 0x303001
/-- U16 RWS, default 2000 (03 R88). -/
abbrev THERMAL_TAU : Nat := 0x303002
/-- Q9.7 RW, default 0x0000 (03 R88). -/
abbrev THERMAL_K_RED : Nat := 0x303003
/-- Q9.7 RW, default 0x0000 (03 R88). -/
abbrev THERMAL_K_GREEN : Nat := 0x303004
/-- Q9.7 RW, default 0x0000 (03 R88). -/
abbrev THERMAL_K_BLUE : Nat := 0x303005
/-- U16 RO, default 0 (03 R88). -/
abbrev THERMAL_ALPHA : Nat := 0x303006
/-- DOMAIN RW, default Identity in all entries (03 R88). -/
abbrev THERMAL_TABLE : Nat := 0x303007
/-- DOMAIN RO, default All 0 (03 R88). -/
abbrev THERMAL_ZONE_TEMPS : Nat := 0x303008
/-- CMD CMD, default — (03 R88). -/
abbrev THERMAL_RESET : Nat := 0x303009
/-- BOOL RW, default 1 (03 R88). -/
abbrev DOSE_ENABLE : Nat := 0x304001
/-- U8 RWS, default 1 (03 R88). -/
abbrev DOSE_DECIMATION : Nat := 0x304002
/-- U8.24 RO, default 0 (03 R88). -/
abbrev DOSE_STEP : Nat := 0x304003
/-- U32 RO, default 0 (03 R88). -/
abbrev DOSE_SATURATIONS : Nat := 0x304004
/-- U32 RO, default 0 (03 R88). -/
abbrev DOSE_MISSED : Nat := 0x304005
/-- U8 RWS, default 22 (03 R88). -/
abbrev AGE_SHIFT : Nat := 0x304006
/-- DOMAIN RW, default All 0x8000 (03 R88). -/
abbrev AGE_TABLE : Nat := 0x304007
/-- U4.20 RW, default 0x0E000 (03 R88). -/
abbrev SPLIT_RED : Nat := 0x305001
/-- U4.20 RW, default 0x0E000 (03 R88). -/
abbrev SPLIT_GREEN : Nat := 0x305002
/-- U4.20 RW, default 0x0E000 (03 R88). -/
abbrev SPLIT_BLUE : Nat := 0x305003
/-- DOMAIN RW, default 256 × i (03 R88). -/
abbrev GREY_HIGH_RED : Nat := 0x305004
/-- DOMAIN RW, default 256 × i (03 R88). -/
abbrev GREY_HIGH_GREEN : Nat := 0x305005
/-- DOMAIN RW, default 256 × i (03 R88). -/
abbrev GREY_HIGH_BLUE : Nat := 0x305006
/-- DOMAIN RW, default 256 × j (03 R88). -/
abbrev GREY_LOW_RED : Nat := 0x305007
/-- DOMAIN RW, default 256 × j (03 R88). -/
abbrev GREY_LOW_GREEN : Nat := 0x305008
/-- DOMAIN RW, default 256 × j (03 R88). -/
abbrev GREY_LOW_BLUE : Nat := 0x305009
/-- U32 RO, default 0 (03 R88). -/
abbrev CODE_SATURATIONS : Nat := 0x30500A
/-- DOMAIN RW, default Factory blue-noise mask, readable (R84) (03 R88). -/
abbrev DITHER_MASK : Nat := 0x306001
/-- U8 RW, default 0x9F (03 R88). -/
abbrev DITHER_ROT : Nat := 0x306002
/-- U8 RW, default 0 (03 R88). -/
abbrev DITHER_STEP_X : Nat := 0x306003
/-- U8 RW, default 0 (03 R88). -/
abbrev DITHER_STEP_Y : Nat := 0x306004
/-- DOMAIN RW, default 0, 0, 32, 21, 11, 43 (03 R88). -/
abbrev DITHER_OFFSETS : Nat := 0x306005
/-- U8 RO, default 0 (03 R88). -/
abbrev DITHER_FRAME : Nat := 0x306006
/-- U32 RO, default 0 (03 R88). -/
abbrev GAMUT_CLIPS : Nat := 0x307001
/-- U32 RO, default 0 (03 R88). -/
abbrev WORK_SATURATIONS : Nat := 0x307002
/-- U32 RO, default 0 (03 R88). -/
abbrev EMITTER_SATURATIONS : Nat := 0x307003
/-- Q9.7 RW, default 0x0C80 (03 R88). -/
abbrev BEACON_FILL_TEMP : Nat := 0x307004
/-- U32 RO, default 0 (03 R88). -/
abbrev BEACON_FILLS : Nat := 0x307005
/-- CMD CMD, default — (03 R88). -/
abbrev PIPELINE_COUNTERS_CLEAR : Nat := 0x307006
/-- U32 RO, default 0 (03 R88). -/
abbrev EMITTER_NEGATIVE_CLIPS : Nat := 0x307007
/-- CMD CMD, default — (04 R121). -/
abbrev LAYER_CREATE : Nat := 0x340001
/-- CMD CMD, default — (04 R121). -/
abbrev LAYER_DESTROY : Nat := 0x340002
/-- CMD CMD, default — (04 R121). -/
abbrev LAYER_SUBMIT : Nat := 0x340003
/-- U16 RW, default 100 (04 R121). -/
abbrev LINK_LOSS_TIMEOUT : Nat := 0x340004
/-- ENUM RW, default 2 (04 R121). -/
abbrev LINK_LOSS_ACTION : Nat := 0x340005
/-- BOOL RO, default 0 (04 R121). -/
abbrev LINK_LOSS_ACTIVE : Nat := 0x340006
/-- U32 RO, default 0 (04 R121). -/
abbrev COMPOSE_LATE_FRAMES : Nat := 0x340007
/-- CMD CMD, default — (04 R121). -/
abbrev LAYER_COUNTERS_CLEAR : Nat := 0x340008
/-- U32 RO, default 0 (04 R121). -/
abbrev LAYER_HANDLE (i : Nat) : Nat := 0x341001 + 256 * i
/-- ENUM RO, default 0 (04 R121). -/
abbrev LAYER_STATE (i : Nat) : Nat := 0x341002 + 256 * i
/-- BOOL RW, default 0 (04 R121). -/
abbrev LAYER_ENABLE (i : Nat) : Nat := 0x341003 + 256 * i
/-- ENUM RW, default 1 for L0, 2 for L6, 0 otherwise (04 R121). -/
abbrev LAYER_SOURCE (i : Nat) : Nat := 0x341004 + 256 * i
/-- U8 RW, default 0 (04 R121). -/
abbrev LAYER_PROFILE (i : Nat) : Nat := 0x341005 + 256 * i
/-- ENUM RW, default 0 (04 R121). -/
abbrev LAYER_FORMAT (i : Nat) : Nat := 0x341006 + 256 * i
/-- U16 RW, default 0xFFFF (04 R121). -/
abbrev LAYER_ALPHA (i : Nat) : Nat := 0x341007 + 256 * i
/-- I16 RW, default 0 (04 R121). -/
abbrev LAYER_POS_X (i : Nat) : Nat := 0x341008 + 256 * i
/-- I16 RW, default 0 (04 R121). -/
abbrev LAYER_POS_Y (i : Nat) : Nat := 0x341009 + 256 * i
/-- U16 RW, default 0 (04 R121). -/
abbrev LAYER_CROP_X (i : Nat) : Nat := 0x34100A + 256 * i
/-- U16 RW, default 0 (04 R121). -/
abbrev LAYER_CROP_Y (i : Nat) : Nat := 0x34100B + 256 * i
/-- U16 RW, default 2048 (04 R121). -/
abbrev LAYER_CROP_W (i : Nat) : Nat := 0x34100C + 256 * i
/-- U16 RW, default 1024 (04 R121). -/
abbrev LAYER_CROP_H (i : Nat) : Nat := 0x34100D + 256 * i
/-- ENUM RW, default 0 (04 R121). -/
abbrev LAYER_SCALE (i : Nat) : Nat := 0x34100E + 256 * i
/-- U16 RW, default 0 (04 R121). -/
abbrev LAYER_STREAM_ID (i : Nat) : Nat := 0x34100F + 256 * i
/-- U64 RW, default 0 (04 R121). -/
abbrev LAYER_BUF_ADDR (l n : Nat) : Nat := 0x341010 + 256 * l + 4 * n
/-- U32 RW, default 0 (04 R121). -/
abbrev LAYER_BUF_STRIDE (l n : Nat) : Nat := 0x341011 + 256 * l + 4 * n
/-- U16 RW, default 0 (04 R121). -/
abbrev LAYER_BUF_WIDTH (l n : Nat) : Nat := 0x341012 + 256 * l + 4 * n
/-- U16 RW, default 0 (04 R121). -/
abbrev LAYER_BUF_HEIGHT (l n : Nat) : Nat := 0x341013 + 256 * l + 4 * n
/-- U8 RW, default 0 (04 R121). -/
abbrev LAYER_NEXT_BUFFER (i : Nat) : Nat := 0x34101C + 256 * i
/-- U8 RW, default 0xFF (04 R121). -/
abbrev LAYER_NEXT_FENCE_TIMELINE (i : Nat) : Nat := 0x34101D + 256 * i
/-- U32 RW, default 0 (04 R121). -/
abbrev LAYER_NEXT_FENCE_VALUE (i : Nat) : Nat := 0x34101E + 256 * i
/-- TIME80 RW, default 0 (04 R121). -/
abbrev LAYER_NEXT_NOT_BEFORE (i : Nat) : Nat := 0x34101F + 256 * i
/-- U8 RW, default 0xFF (04 R121). -/
abbrev LAYER_STREAM_FENCE (i : Nat) : Nat := 0x341020 + 256 * i
/-- U8 RO, default 0 (04 R121). -/
abbrev LAYER_CURRENT_BUFFER (i : Nat) : Nat := 0x341021 + 256 * i
/-- BOOL RO, default 0 (04 R121). -/
abbrev LAYER_PENDING (i : Nat) : Nat := 0x341022 + 256 * i
/-- U32 RO, default 0 (04 R121). -/
abbrev LAYER_FLIPS (i : Nat) : Nat := 0x341023 + 256 * i
/-- U32 RO, default 0 (04 R121). -/
abbrev LAYER_MISSES (i : Nat) : Nat := 0x341024 + 256 * i
/-- U32 RO, default 0 (04 R121). -/
abbrev LAYER_DISCARDED (i : Nat) : Nat := 0x341025 + 256 * i
/-- TIME80 RO, default 0 (04 R121). -/
abbrev LAYER_LAST_FLIP_TIME (i : Nat) : Nat := 0x341026 + 256 * i
/-- U16 RW, default 20 (04 R121). -/
abbrev FENCE_SETUP : Nat := 0x344001
/-- DOMAIN RO, default All 0 (04 R121). -/
abbrev FENCE_VALUES : Nat := 0x344002
/-- U8 RW, default 0 (04 R121). -/
abbrev FENCE_SIGNAL_INDEX : Nat := 0x344003
/-- CMD CMD, default — (04 R121). -/
abbrev FENCE_SIGNAL : Nat := 0x344004
/-- U32 RO, default 0 (04 R121). -/
abbrev FENCE_STALE : Nat := 0x344005
/-- ENUM RW, default 0 (04 R121). -/
abbrev SAIL_MODE (i : Nat) : Nat := 0x350001 + 256 * i
/-- U16 RW, default 0 (04 R121). -/
abbrev SAIL_X (i : Nat) : Nat := 0x350002 + 256 * i
/-- U16 RW, default 0 (04 R121). -/
abbrev SAIL_Y (i : Nat) : Nat := 0x350003 + 256 * i
/-- U16 RW, default 2048 (04 R121). -/
abbrev SAIL_W (i : Nat) : Nat := 0x350004 + 256 * i
/-- U16 RW, default 1024 (04 R121). -/
abbrev SAIL_H (i : Nat) : Nat := 0x350005 + 256 * i
/-- DOMAIN RW, default 0x10000 × 3 (04 R121). -/
abbrev SAIL_COLOUR_A (i : Nat) : Nat := 0x350006 + 256 * i
/-- DOMAIN RW, default All 0 (04 R121). -/
abbrev SAIL_COLOUR_B (i : Nat) : Nat := 0x350007 + 256 * i
/-- U16 RW, default 0xFFFF (04 R121). -/
abbrev SAIL_ALPHA_A (i : Nat) : Nat := 0x350008 + 256 * i
/-- U16 RW, default 0x0000 (04 R121). -/
abbrev SAIL_ALPHA_B (i : Nat) : Nat := 0x350009 + 256 * i
/-- U32 RW, default 4000 (04 R121). -/
abbrev SAIL_PERIOD (i : Nat) : Nat := 0x35000A + 256 * i
/-- DOMAIN RW, default Raised cosine (04 R121). -/
abbrev SAIL_ENVELOPE (i : Nat) : Nat := 0x35000B + 256 * i
/-- ENUM RW, default 0 (04 R121). -/
abbrev SAIL_DIRECTION (i : Nat) : Nat := 0x35000C + 256 * i
/-- U16.8 RW, default 0x1E000 (04 R121). -/
abbrev SAIL_SPEED (i : Nat) : Nat := 0x35000D + 256 * i
/-- U16 RW, default 8 (04 R121). -/
abbrev SAIL_BAR_WIDTH (i : Nat) : Nat := 0x35000E + 256 * i
/-- U16 RW, default 32 (04 R121). -/
abbrev SAIL_BAR_SPACING (i : Nat) : Nat := 0x35000F + 256 * i
/-- TIME80 RW, default 0 (04 R121). -/
abbrev SAIL_START (i : Nat) : Nat := 0x350010 + 256 * i
/-- U16 RO, default 0 (04 R121). -/
abbrev SAIL_PHASE (i : Nat) : Nat := 0x350011 + 256 * i
/-- BOOL RW, default 0 (04 R121). -/
abbrev ECHO_ENABLE : Nat := 0x360001
/-- ENUM RW, default 1 (04 R121). -/
abbrev ECHO_DECIMATION : Nat := 0x360002
/-- U8 RW, default 1 (04 R121). -/
abbrev ECHO_FRAME_DIVIDER : Nat := 0x360003
/-- ENUM RW, default 1 (04 R121). -/
abbrev ECHO_TAP : Nat := 0x360004
/-- U64 RW, default 0 (04 R121). -/
abbrev ECHO_BUFFER_ADDR : Nat := 0x360005
/-- U32 RO, default 0 (04 R121). -/
abbrev ECHO_FRAMES_SENT : Nat := 0x360006
/-- U32 RO, default 0 (04 R121). -/
abbrev ECHO_FRAMES_DROPPED : Nat := 0x360007
/-- CMD CMD, default — (04 R121). -/
abbrev L7_ARM : Nat := 0x348001
/-- CMD CMD, default — (04 R121). -/
abbrev L7_DISARM : Nat := 0x348002
/-- ENUM RO, default 0 (04 R121). -/
abbrev L7_ARM_STATE : Nat := 0x348003
/-- ENUM RO, default 0 (04 R121). -/
abbrev L7_REFUSE_CAUSE : Nat := 0x348004
/-- ENUM RW, default 0 (04 R121). -/
abbrev L7_SHOW : Nat := 0x348005
/-- U32 RO, default 0 (04 R121). -/
abbrev L7_REGION_PIXELS : Nat := 0x348006
/-- TIME80 RO, default 0 (04 R121). -/
abbrev L7_ARM_TIME : Nat := 0x348007
/-- U32 RO, default 0 (04 R121). -/
abbrev L7_REFILLS : Nat := 0x348008
/-- U32 RO, default 0 (04 R121). -/
abbrev L7_RING_REFUSALS : Nat := 0x348009
/-- CMD CMD, default — (05 R148). -/
abbrev SCAN_START : Nat := 0x380001
/-- CMD CMD, default — (05 R148). -/
abbrev SCAN_STOP : Nat := 0x380002
/-- ENUM RO, default 0 (05 R148). -/
abbrev SCAN_STATE : Nat := 0x380003
/-- U32 RWS, default 240 (05 R148). -/
abbrev FRAME_RATE_NUM : Nat := 0x380004
/-- U32 RWS, default 1 (05 R148). -/
abbrev FRAME_RATE_DEN : Nat := 0x380005
/-- U16 RWS, default 16 (05 R148). -/
abbrev SCAN_CYCLES : Nat := 0x380006
/-- U16 RWS, default 400 (05 R148). -/
abbrev FEATHER_TIME : Nat := 0x380007
/-- U16 RWS, default 0x0800 (05 R148). -/
abbrev STAGGER_STEP : Nat := 0x380008
/-- U16 RWS, default 100 (05 R148). -/
abbrev TIMING_MARGIN : Nat := 0x380009
/-- U32 RO, default 0 (05 R148). -/
abbrev REJECTED_APPLIES : Nat := 0x38000A
/-- U32 RO, default 0 (05 R148). -/
abbrev STROKE_TIME_PS : Nat := 0x38000B
/-- U32 RO, default 0 (05 R148). -/
abbrev FEATHER_IN_FORCE_PS : Nat := 0x38000C
/-- U16 RO, default 0 (05 R148). -/
abbrev DRIVE_TICKS : Nat := 0x38000D
/-- U32 RO, default 0 (05 R148). -/
abbrev SCAN_RATE_MHZ : Nat := 0x38000E
/-- U16 RW, default 24 (05 R148). -/
abbrev LATE_DARK_LIMIT : Nat := 0x38000F
/-- U32 RO, default 0x00000000 (05 R148). -/
abbrev BANDS_RUNNING : Nat := 0x380010
/-- U32 RO, default 0x00000000 (05 R148). -/
abbrev BANDS_FAILED : Nat := 0x380011
/-- DOMAIN RW, default 10 000 in all (05 R148). -/
abbrev CHANNEL_CURRENT : Nat := 0x381001
/-- DOMAIN RW, default All 0 (05 R148). -/
abbrev FEATHER_VOLTAGE : Nat := 0x381002
/-- U8 RW, default 0 (05 R148). -/
abbrev BAND_INDEX : Nat := 0x382001
/-- ENUM RO, default 0 (05 R148). -/
abbrev BAND_LINK_STATE : Nat := 0x382002
/-- ENUM RO, default 0 (05 R148). -/
abbrev BAND_FAIL_CAUSE : Nat := 0x382003
/-- U8 RO, default 0 (05 R148). -/
abbrev BAND_NODES_FOUND : Nat := 0x382004
/-- U32 RO, default 0 (05 R148). -/
abbrev BAND_ADVANCE_PS : Nat := 0x382005
/-- U32 RO, default 0 (05 R148). -/
abbrev BAND_CRC_ERRORS : Nat := 0x382006
/-- U32 RO, default 0 (05 R148). -/
abbrev BAND_CODE_ERRORS : Nat := 0x382007
/-- U32 RO, default 0 (05 R148). -/
abbrev BAND_RESENDS : Nat := 0x382008
/-- U32 RO, default 0 (05 R148). -/
abbrev BAND_LATE_FRAMES : Nat := 0x382009
/-- U32 RO, default 0 (05 R148). -/
abbrev BAND_HEADROOM_MISSING : Nat := 0x38200A
/-- U8 RW, default 1 (05 R148). -/
abbrev NODE_INDEX : Nat := 0x383001
/-- BOOL RO, default 0 (05 R148). -/
abbrev NODE_PRESENT : Nat := 0x383002
/-- U64 RO, default 0 (05 R148). -/
abbrev NODE_IDENTITY : Nat := 0x383003
/-- U32 RO, default 0 (05 R148). -/
abbrev NODE_LATENCY_PS : Nat := 0x383004
/-- U16 RO, default 0 (05 R148). -/
abbrev NODE_EXEC_DELAY : Nat := 0x383005
/-- U32 RO, default 0 (05 R148). -/
abbrev NODE_LATE_FRAMES : Nat := 0x383006
/-- BOOL RO, default 0 (05 R148). -/
abbrev NODE_DARK : Nat := 0x383007
/-- CMD CMD, default — (05 R148). -/
abbrev SCAN_COUNTERS_CLEAR : Nat := 0x383008
/-- BOOL RW, default 1 (06 R176). -/
abbrev PROBE_ENABLE : Nat := 0x3A0001
/-- U16 RWS, default 64 (06 R176). -/
abbrev PROBE_ROUND : Nat := 0x3A0002
/-- U16 RW, default 50 (06 R176). -/
abbrev PROBE_CURRENT : Nat := 0x3A0003
/-- BOOL RW, default 0 (06 R176). -/
abbrev BLACK_SAFE : Nat := 0x3A0004
/-- U8 RW, default 10 (06 R176). -/
abbrev BLACK_SAFE_PERIOD : Nat := 0x3A0005
/-- U8 RW, default 3 (06 R176). -/
abbrev CONFIRM_COUNT : Nat := 0x3A0006
/-- U16 RO, default 0 (06 R176). -/
abbrev ROUND_FRAMES : Nat := 0x3A0007
/-- U32 RO, default 0 (06 R176). -/
abbrev ROUNDS_COMPLETED : Nat := 0x3A0008
/-- U64 RO, default 0 (06 R176). -/
abbrev PROBES_TAKEN : Nat := 0x3A0009
/-- U32 RO, default 0 (06 R176). -/
abbrev PROBE_RESULTS_LOST : Nat := 0x3A000A
/-- U32 RO, default 0 (06 R176). -/
abbrev PROBE_STRAY : Nat := 0x3A000B
/-- U32 RO, default 0 (06 R176). -/
abbrev BLACK_WINDOWS : Nat := 0x3A000C
/-- U16 RW, default 4 000 (06 R176). -/
abbrev OPEN_MV_RED : Nat := 0x3A0801
/-- U16 RW, default 4 000 (06 R176). -/
abbrev OPEN_MV_GREEN : Nat := 0x3A0802
/-- U16 RW, default 4 000 (06 R176). -/
abbrev OPEN_MV_BLUE : Nat := 0x3A0803
/-- U16 RW, default 300 (06 R176). -/
abbrev SHORT_MV_RED : Nat := 0x3A0804
/-- U16 RW, default 300 (06 R176). -/
abbrev SHORT_MV_GREEN : Nat := 0x3A0805
/-- U16 RW, default 300 (06 R176). -/
abbrev SHORT_MV_BLUE : Nat := 0x3A0806
/-- U16 RW, default 1 200 (06 R176). -/
abbrev LEAK_MV_RED : Nat := 0x3A0807
/-- U16 RW, default 1 900 (06 R176). -/
abbrev LEAK_MV_GREEN : Nat := 0x3A0808
/-- U16 RW, default 1 900 (06 R176). -/
abbrev LEAK_MV_BLUE : Nat := 0x3A0809
/-- DOMAIN RWS, default Empty (06 R176). -/
abbrev DEFECT_TABLE : Nat := 0x3A1001
/-- U16 RO, default 0 (06 R176). -/
abbrev DEFECT_COUNT : Nat := 0x3A1002
/-- U32 RO, default 0 (06 R176). -/
abbrev DEFECT_TABLE_FULL : Nat := 0x3A1003
/-- U64 CMD, default — (06 R176). -/
abbrev DEFECT_ADD : Nat := 0x3A1004
/-- U32 CMD, default — (06 R176). -/
abbrev DEFECT_CLEAR : Nat := 0x3A1005
/-- CMD CMD, default — (06 R176). -/
abbrev DEFECT_CLEAR_ALL : Nat := 0x3A1006
/-- U32 RO, default 0 (06 R176). -/
abbrev DEFECTS_CONFIRMED : Nat := 0x3A1007
/-- U8 RW, default 0x07 (06 R176). -/
abbrev CONCEAL_VERDICTS : Nat := 0x3A1008
/-- U8 RW, default 0 (06 R176). -/
abbrev CONCEAL_DEFAULT_SET : Nat := 0x3A1009
/-- U16 RO, default 0 (06 R176). -/
abbrev SUSPECT_COUNT : Nat := 0x3A100A
/-- U32 RO, default 0 (06 R176). -/
abbrev SUSPECT_OVERFLOWS : Nat := 0x3A100B
/-- U32 RO, default 0xFFFFFFFF (06 R176). -/
abbrev DEFECT_LAST_EMITTER : Nat := 0x3A100C
/-- TIME80 RO, default 0 (06 R176). -/
abbrev DEFECT_LAST_TIME : Nat := 0x3A100D
/-- U8 RW, default 0xFF (06 R176). -/
abbrev CONCEAL_DEFAULT_MASK : Nat := 0x3A100E
/-- DOMAIN RW, default See below (06 R176). -/
abbrev CONCEAL_WEIGHTS : Nat := 0x3A2001
/-- U4.20 RW, default 0x0FFFFF (06 R176). -/
abbrev CONCEAL_CAP : Nat := 0x3A2002
/-- U32 RO, default 0 (06 R176). -/
abbrev CONCEAL_CAPPED : Nat := 0x3A2003
/-- U8 RW, default 16 (06 R176). -/
abbrev VF_ALPHA : Nat := 0x3A3001
/-- U8 RW, default 16 (06 R176). -/
abbrev VF_REF_SAMPLES : Nat := 0x3A3002
/-- U16 RW, default 150 (06 R176). -/
abbrev WEAK_LIMIT_RED : Nat := 0x3A3003
/-- U16 RW, default 150 (06 R176). -/
abbrev WEAK_LIMIT_GREEN : Nat := 0x3A3004
/-- U16 RW, default 150 (06 R176). -/
abbrev WEAK_LIMIT_BLUE : Nat := 0x3A3005
/-- U8 RW, default 1 (06 R176). -/
abbrev VF_DWELL : Nat := 0x3A3006
/-- U32 RO, default 0 (06 R176). -/
abbrev VF_SWEEPS : Nat := 0x3A3007
/-- DOMAIN RO, default All 0 (06 R176). -/
abbrev VF_RAIL_STATS : Nat := 0x3A3008
/-- U32 CMD, default — (06 R176). -/
abbrev VF_REF_RESET : Nat := 0x3A3009
/-- BOOL RW, default 0 (06 R176). -/
abbrev AGE_REFINE_ENABLE : Nat := 0x3A4001
/-- Q2.14 RW, default 0x0000 (06 R176). -/
abbrev VF_AGE_K_RED : Nat := 0x3A4002
/-- Q2.14 RW, default 0x0000 (06 R176). -/
abbrev VF_AGE_K_GREEN : Nat := 0x3A4003
/-- Q2.14 RW, default 0x0000 (06 R176). -/
abbrev VF_AGE_K_BLUE : Nat := 0x3A4004
/-- U16 RW, default 16 (06 R176). -/
abbrev AGE_WRITE_STEP : Nat := 0x3A4005
/-- U16 RW, default 0x0CCD (06 R176). -/
abbrev AGE_REFINE_MAX : Nat := 0x3A4006
/-- U64 CMD, default — (07 R205). -/
abbrev RAIL_START : Nat := 0x400001
/-- U64 CMD, default — (07 R205). -/
abbrev RAIL_STOP : Nat := 0x400002
/-- U64 CMD, default — (07 R205). -/
abbrev RAIL_CLEAR : Nat := 0x400003
/-- U64 RO, default 0 (07 R205). -/
abbrev RAILS_RUNNING : Nat := 0x400004
/-- U64 RO, default 0 (07 R205). -/
abbrev RAILS_FAULTED : Nat := 0x400005
/-- CMD CMD, default — (07 R205). -/
abbrev COEF_COMMIT : Nat := 0x400006
/-- U32 RO, default 0 (07 R205). -/
abbrev COEF_COMMITS : Nat := 0x400007
/-- U16 RO, default 0 (07 R205). -/
abbrev ENGINE_LOAD : Nat := 0x400008
/-- U32 RO, default 0 (07 R205). -/
abbrev ENGINE_OVERRUNS : Nat := 0x400009
/-- BOOL RW, default 0 (07 R205). -/
abbrev VF_PLAN_ENABLE : Nat := 0x40000A
/-- DOMAIN RW, default 200, 300, 300 (07 R205). -/
abbrev VF_DRIVE_OFFSET : Nat := 0x40000B
/-- U16 RW, default 100 (07 R205). -/
abbrev PLAN_MARGIN : Nat := 0x40000C
/-- CMD CMD, default — (07 R205). -/
abbrev RAIL_COUNTERS_CLEAR : Nat := 0x40000D
/-- U64 RO, default 0 (07 R205). -/
abbrev START_SKIPPED : Nat := 0x40000E
/-- DOMAIN RW, default All 0 (07 R205). -/
abbrev COEF_TABLE : Nat := 0x401001
/-- DOMAIN RW, default All 0 (07 R205). -/
abbrev COEF_MAP : Nat := 0x401002
/-- DOMAIN RWS, default Lane floor(n / 3) (07 R205). -/
abbrev SLOT_TABLE : Nat := 0x402001
/-- ENUM RO, default 0 (07 R205). -/
abbrev RAIL_STATE (i : Nat) : Nat := 0x410001 + 256 * i
/-- ENUM RW, default 0 (07 R205). -/
abbrev RAIL_MODE (i : Nat) : Nat := 0x410002 + 256 * i
/-- U16 RW, default 0 (07 R205). -/
abbrev RAIL_MANUAL_V (i : Nat) : Nat := 0x410003 + 256 * i
/-- U16 RW, default 0 (07 R205). -/
abbrev RAIL_MANUAL_DUTY (i : Nat) : Nat := 0x410004 + 256 * i
/-- U16 RWS, default 400 (07 R205). -/
abbrev RAIL_SW_DIV (i : Nat) : Nat := 0x410005 + 256 * i
/-- U16 RWS, default 0x0000 (07 R205). -/
abbrev RAIL_SAMPLE_PHASE (i : Nat) : Nat := 0x410006 + 256 * i
/-- U16 RWS, default 8192 (07 R205). -/
abbrev RAIL_V_FS (i : Nat) : Nat := 0x410007 + 256 * i
/-- U16 RWS, default 20480 (07 R205). -/
abbrev RAIL_I_FS (i : Nat) : Nat := 0x410008 + 256 * i
/-- U16 RW, default 2000 (07 R205). -/
abbrev RAIL_V_MIN (i : Nat) : Nat := 0x410009 + 256 * i
/-- U16 RW, default 5000 (07 R205). -/
abbrev RAIL_V_MAX (i : Nat) : Nat := 0x41000A + 256 * i
/-- U16 RW, default 4500 (07 R205). -/
abbrev RAIL_V_SAFE (i : Nat) : Nat := 0x41000B + 256 * i
/-- I16 RW, default −2000 (07 R205). -/
abbrev RAIL_I_MIN (i : Nat) : Nat := 0x41000C + 256 * i
/-- I16 RW, default 16000 (07 R205). -/
abbrev RAIL_I_MAX (i : Nat) : Nat := 0x41000D + 256 * i
/-- U16 RW, default 0xE666 (07 R205). -/
abbrev RAIL_DUTY_MAX (i : Nat) : Nat := 0x41000E + 256 * i
/-- U8 RW, default 15 (07 R205). -/
abbrev RAIL_HEADROOM_TARGET (i : Nat) : Nat := 0x41000F + 256 * i
/-- U1.15 RW, default 0x8000 (07 R205). -/
abbrev RAIL_FF_GAIN (i : Nat) : Nat := 0x410010 + 256 * i
/-- U16 RW, default 500 (07 R205). -/
abbrev RAIL_FF_LEAD (i : Nat) : Nat := 0x410011 + 256 * i
/-- DOMAIN RW, default 4000, 8000, 12000 (07 R205). -/
abbrev RAIL_SCHED_THRESH (i : Nat) : Nat := 0x410012 + 256 * i
/-- U16 RW, default 500 (07 R205). -/
abbrev RAIL_SCHED_HYST (i : Nat) : Nat := 0x410013 + 256 * i
/-- U8 RW, default 0x00 (07 R205). -/
abbrev RAIL_AW_CLAMP_ONLY (i : Nat) : Nat := 0x410014 + 256 * i
/-- DOMAIN RW, default −2.0, +2.0 − 2^−22 for each loop (07 R205). -/
abbrev RAIL_INT_LIMITS (i : Nat) : Nat := 0x410015 + 256 * i
/-- U8 RW, default 0x00 (07 R205). -/
abbrev RAIL_TIMING_MODE (i : Nat) : Nat := 0x410016 + 256 * i
/-- U16 RW, default 0x0000 (07 R205). -/
abbrev RAIL_FALLBACK_DUTY (i : Nat) : Nat := 0x410017 + 256 * i
/-- U16 RW, default 6000 (07 R205). -/
abbrev RAIL_OV_LIMIT (i : Nat) : Nat := 0x410018 + 256 * i
/-- U16 RW, default 18000 (07 R205). -/
abbrev RAIL_OC_LIMIT (i : Nat) : Nat := 0x410019 + 256 * i
/-- U16 RW, default 2000 (07 R205). -/
abbrev RAIL_RAMP_RATE (i : Nat) : Nat := 0x41001A + 256 * i
/-- U16 RO, default 0 (07 R205). -/
abbrev RAIL_V_MEAS (i : Nat) : Nat := 0x410020 + 256 * i
/-- I16 RO, default 0 (07 R205). -/
abbrev RAIL_I_MEAS (i : Nat) : Nat := 0x410021 + 256 * i
/-- U16 RO, default 0 (07 R205). -/
abbrev RAIL_V_SETPOINT (i : Nat) : Nat := 0x410022 + 256 * i
/-- I16 RO, default 0 (07 R205). -/
abbrev RAIL_I_DEMAND (i : Nat) : Nat := 0x410023 + 256 * i
/-- I16 RO, default 0 (07 R205). -/
abbrev RAIL_FF_CURRENT (i : Nat) : Nat := 0x410024 + 256 * i
/-- U16 RO, default 0 (07 R205). -/
abbrev RAIL_DUTY (i : Nat) : Nat := 0x410025 + 256 * i
/-- U8 RO, default 0 (07 R205). -/
abbrev RAIL_SCHED_SET (i : Nat) : Nat := 0x410026 + 256 * i
/-- ENUM RO, default 0 (07 R205). -/
abbrev RAIL_HEADROOM_STATE (i : Nat) : Nat := 0x410027 + 256 * i
/-- U8 RO, default 0xFF (07 R205). -/
abbrev RAIL_LAST_HEADROOM (i : Nat) : Nat := 0x410028 + 256 * i
/-- U16 RO, default 0 (07 R205). -/
abbrev RAIL_V_SAFE_IN_FORCE (i : Nat) : Nat := 0x410029 + 256 * i
/-- U32 RO, default 0 (07 R205). -/
abbrev RAIL_OVERRUNS (i : Nat) : Nat := 0x41002A + 256 * i
/-- U32 RO, default 0 (07 R205). -/
abbrev RAIL_HEADROOM_MISSING (i : Nat) : Nat := 0x41002B + 256 * i
/-- U32 RO, default 0 (07 R205). -/
abbrev RAIL_FEEDBACK_LOSSES (i : Nat) : Nat := 0x41002C + 256 * i
/-- U32 RO, default 0 (07 R205). -/
abbrev RAIL_OC_EVENTS (i : Nat) : Nat := 0x41002D + 256 * i
/-- ENUM RO, default 0 (07 R205). -/
abbrev RAIL_FAULT_CAUSE (i : Nat) : Nat := 0x41002E + 256 * i
/-- DOMAIN RW, default OFFSET 0, GAIN 0x8000 (07 R205). -/
abbrev ADC_TRIMS : Nat := 0x420001
/-- BOOL RW, default 1 (07 R205). -/
abbrev ROTATION_ENABLE : Nat := 0x420002
/-- U32 RO, default 0 (07 R205). -/
abbrev ROTATIONS : Nat := 0x420003
/-- U16 RO, default 0 (07 R205). -/
abbrev ROTATION_POSITION : Nat := 0x420004
/-- U32 RO, default 0 (07 R205). -/
abbrev HANDOVERS_ABANDONED : Nat := 0x420005
/-- U16 RW, default 48 (07 R205). -/
abbrev ADC_MATCH_LIMIT : Nat := 0x420006
/-- ENUM RO, default 0 (07 R205). -/
abbrev ADC_TRIMS_STATE : Nat := 0x420007
/-- ENUM RW, default 0 (08 R225). -/
abbrev ACTIVE_DOMAIN : Nat := 0x480001
/-- BOOL RW, default 0 (08 R225). -/
abbrev AUTO_SWITCH : Nat := 0x480002
/-- TIME80 RWS, default 0 (08 R225). -/
abbrev CATCH_ORIGIN : Nat := 0x480003
/-- U8 RW, default 100 (08 R225). -/
abbrev CATCH_SLEW_PPM : Nat := 0x480004
/-- U32 RW, default 1 000 000 (08 R225). -/
abbrev CATCH_REANCHOR : Nat := 0x480005
/-- U32 RO, default 0 (08 R225). -/
abbrev DOMAIN_SWITCHES : Nat := 0x480006
/-- U32 RO, default 0 (08 R225). -/
abbrev CATCH_REANCHORS : Nat := 0x480007
/-- I32 RO, default 0 (08 R225). -/
abbrev CATCH_OFFSET : Nat := 0x480008
/-- U32 RO, default 0 (08 R225). -/
abbrev CATCH_SHORTEN_BUDGET : Nat := 0x480009
/-- TIME80 RO, default 0 (08 R225). -/
abbrev LAST_FRAME_CATCH : Nat := 0x48000A
/-- U32 RO, default 0 (08 R225). -/
abbrev CATCHES_UNALIGNED : Nat := 0x48000B
/-- CMD CMD, default — (08 R225). -/
abbrev TIME_COUNTERS_CLEAR : Nat := 0x48000C
/-- TIME80 RO, default 0 (08 R225). -/
abbrev DOM_TIME (i : Nat) : Nat := 0x481001 + 256 * i
/-- ENUM RW, default 0 (08 R225). -/
abbrev DOM_SOURCE (i : Nat) : Nat := 0x481002 + 256 * i
/-- U16 RO, default 0x0000 (08 R225). -/
abbrev DOM_STATUS (i : Nat) : Nat := 0x481003 + 256 * i
/-- U0.16 RW, default 0x6000 (08 R225). -/
abbrev DOM_KP (i : Nat) : Nat := 0x481004 + 256 * i
/-- U0.16 RW, default 0x0800 (08 R225). -/
abbrev DOM_KI (i : Nat) : Nat := 0x481005 + 256 * i
/-- U32 RW, default 200 000 (08 R225). -/
abbrev DOM_FREQ_LIMIT (i : Nat) : Nat := 0x481006 + 256 * i
/-- I32 RW, default 0 (08 R225). -/
abbrev DOM_FREQ_TRIM (i : Nat) : Nat := 0x481007 + 256 * i
/-- U32 RW, default 20 000 (08 R225). -/
abbrev DOM_STEP_THRESHOLD (i : Nat) : Nat := 0x481008 + 256 * i
/-- U32 RW, default 0xFFFFFFFF (08 R225). -/
abbrev DOM_STEP_MAX (i : Nat) : Nat := 0x481009 + 256 * i
/-- U16 RW, default 100 (08 R225). -/
abbrev DOM_LOCK_THRESHOLD (i : Nat) : Nat := 0x48100A + 256 * i
/-- U16 RW, default 1000 (08 R225). -/
abbrev DOM_SOURCE_TIMEOUT (i : Nat) : Nat := 0x48100B + 256 * i
/-- TIME80 CMD, default — (08 R225). -/
abbrev DOM_SET (i : Nat) : Nat := 0x48100C + 256 * i
/-- I32 CMD, default — (08 R225). -/
abbrev DOM_ADJUST (i : Nat) : Nat := 0x48100D + 256 * i
/-- I32 RO, default 0 (08 R225). -/
abbrev DOM_OFFSET (i : Nat) : Nat := 0x48100E + 256 * i
/-- I32 RO, default 0 (08 R225). -/
abbrev DOM_FREQ (i : Nat) : Nat := 0x48100F + 256 * i
/-- U32 RO, default 0 (08 R225). -/
abbrev DOM_MEASUREMENTS (i : Nat) : Nat := 0x481010 + 256 * i
/-- U32 RO, default 0 (08 R225). -/
abbrev DOM_STEPS (i : Nat) : Nat := 0x481011 + 256 * i
/-- U32 RO, default 0 (08 R225). -/
abbrev DOM_OUTLIERS (i : Nat) : Nat := 0x481012 + 256 * i
/-- U8 RW, default 4 (08 R225). -/
abbrev SYNC_INTERVAL : Nat := 0x482001
/-- U32 RO, default 0 (08 R225). -/
abbrev LINK_DELAY_A : Nat := 0x482002
/-- U32 RO, default 0 (08 R225). -/
abbrev LINK_DELAY_B : Nat := 0x482003
/-- I32 RW, default 0 (08 R225). -/
abbrev ASYMMETRY_A : Nat := 0x482004
/-- I32 RW, default 0 (08 R225). -/
abbrev ASYMMETRY_B : Nat := 0x482005
/-- U32 RO, default 0 (08 R225). -/
abbrev RESIDENCE_MAX : Nat := 0x482006
/-- U32 RO, default 0 (08 R225). -/
abbrev SYNC_FORWARDED : Nat := 0x482007
/-- BOOL RW, default 0 (08 R225). -/
abbrev PTP_ENABLE : Nat := 0x484001
/-- U8 RW, default 0 (08 R225). -/
abbrev PTP_DOMAIN_NUMBER : Nat := 0x484002
/-- ENUM RW, default 0 (08 R225). -/
abbrev PTP_TIME_DOMAIN : Nat := 0x484003
/-- DOMAIN RO, default — (08 R225). -/
abbrev PTP_TXQ_POP : Nat := 0x484004
/-- U8 RO, default 0 (08 R225). -/
abbrev PTP_TXQ_DEPTH : Nat := 0x484005
/-- U32 RO, default 0 (08 R225). -/
abbrev PTP_TXQ_OVERFLOWS : Nat := 0x484006
/-- U64 RO, default 0 (08 R225). -/
abbrev SLEEP_LEDGER : Nat := 0x488001
/-- U64 RO, default 0 (08 R225). -/
abbrev SLEEP_ADVANCE : Nat := 0x488002
/-- U8 RW, default 0x03 (09 R245). -/
abbrev LINK_PORT_ENABLE : Nat := 0x500001
/-- U8 CMD, default — (09 R245). -/
abbrev LINK_RETRAIN : Nat := 0x500002
/-- U16 RW, default 10 (09 R245). -/
abbrev VERIFY_WINDOW : Nat := 0x500003
/-- U32 RW, default 5600 (09 R245). -/
abbrev VERIFY_LIMIT : Nat := 0x500004
/-- U16 RW, default 1 (09 R245). -/
abbrev RETRAIN_HOLDOFF : Nat := 0x500005
/-- U16 RW, default 500 (09 R245). -/
abbrev TRAIN_TIMEOUT : Nat := 0x500006
/-- U32 RW, default 1 120 000 (09 R245). -/
abbrev DEGRADE_LIMIT : Nat := 0x500007
/-- CMD CMD, default — (09 R245). -/
abbrev LINK_COUNTERS_CLEAR : Nat := 0x500008
/-- ENUM RO, default 0 (09 R245). -/
abbrev PORT_STATE (i : Nat) : Nat := 0x501001 + 256 * i
/-- U32 RO, default 0x00000000 (09 R245). -/
abbrev PORT_STATUS (i : Nat) : Nat := 0x501002 + 256 * i
/-- ENUM RO, default 0 (09 R245). -/
abbrev PORT_DOWN_CAUSE (i : Nat) : Nat := 0x501003 + 256 * i
/-- U32 RO, default 0 (09 R245). -/
abbrev PORT_PEER_SERIAL (i : Nat) : Nat := 0x501004 + 256 * i
/-- U32 RO, default 0 (09 R245). -/
abbrev PORT_UP_COUNT (i : Nat) : Nat := 0x501005 + 256 * i
/-- U32 RO, default 0 (09 R245). -/
abbrev PORT_DOWN_COUNT (i : Nat) : Nat := 0x501006 + 256 * i
/-- TIME80 RO, default 0 (09 R245). -/
abbrev PORT_LAST_UP (i : Nat) : Nat := 0x501007 + 256 * i
/-- TIME80 RO, default 0 (09 R245). -/
abbrev PORT_LAST_DOWN (i : Nat) : Nat := 0x501008 + 256 * i
/-- U32 RO, default 0 (09 R245). -/
abbrev PORT_TRAIN_TIME (i : Nat) : Nat := 0x501009 + 256 * i
/-- ENUM RW, default 0 (09 R245). -/
abbrev PORT_TEST_MODE (i : Nat) : Nat := 0x50100A + 256 * i
/-- BOOL RO, default 0 (09 R245). -/
abbrev PORT_DEGRADED (i : Nat) : Nat := 0x50100B + 256 * i
/-- U64 RO, default 0 (09 R245). -/
abbrev FEC_CODEWORDS (i : Nat) : Nat := 0x502001 + 256 * i
/-- U64 RO, default 0 (09 R245). -/
abbrev FEC_CORRECTED_CW (i : Nat) : Nat := 0x502002 + 256 * i
/-- U64 RO, default 0 (09 R245). -/
abbrev FEC_UNCORRECTABLE (i : Nat) : Nat := 0x502003 + 256 * i
/-- U64 RO, default 0 (09 R245). -/
abbrev FEC_SYMBOLS_CORRECTED (i : Nat) : Nat := 0x502004 + 256 * i
/-- DOMAIN RO, default All 0 (09 R245). -/
abbrev FEC_HISTOGRAM (i : Nat) : Nat := 0x502005 + 256 * i
/-- U32 RO, default 0 (09 R245). -/
abbrev FEC_AM_MISSES (i : Nat) : Nat := 0x502006 + 256 * i
/-- U32 RO, default 0 (09 R245). -/
abbrev FEC_SER_1S (i : Nat) : Nat := 0x502007 + 256 * i
/-- U16 RW, default 0x0400 (09 R245). -/
abbrev LANE_TX_FFE (i : Nat) : Nat := 0x503001 + 256 * i
/-- U16 RW, default 1000 (09 R245). -/
abbrev LANE_TX_SWING (i : Nat) : Nat := 0x503002 + 256 * i
/-- BOOL RO, default 0 (09 R245). -/
abbrev LANE_RX_POLARITY_INVERTED (i : Nat) : Nat := 0x503003 + 256 * i
/-- U8 RO, default 0 (09 R245). -/
abbrev LANE_RX_SOURCE_LANE (i : Nat) : Nat := 0x503004 + 256 * i
/-- BOOL RO, default 0 (09 R245). -/
abbrev LANE_SIGNAL_DETECT (i : Nat) : Nat := 0x503005 + 256 * i
/-- U16 RO, default 0 (09 R245). -/
abbrev LANE_SNR (i : Nat) : Nat := 0x503006 + 256 * i
/-- U8 RO, default 0 (09 R245). -/
abbrev LANE_CTLE (i : Nat) : Nat := 0x503007 + 256 * i
/-- U32 RO, default 0 (09 R245). -/
abbrev LANE_SKEW_PS (i : Nat) : Nat := 0x503008 + 256 * i
/-- BOOL RO, default 0 (09 R245). -/
abbrev LANE_PRBS_LOCKED (i : Nat) : Nat := 0x503009 + 256 * i
/-- U64 RO, default 0 (09 R245). -/
abbrev LANE_PRBS_ERRORS (i : Nat) : Nat := 0x50300A + 256 * i
/-- U64 RO, default 0 (09 R245). -/
abbrev LANE_PRBS_BITS (i : Nat) : Nat := 0x50300B + 256 * i
/-- U16 RW, default 0x0000 (10 R267). -/
abbrev TILE_ADDRESS : Nat := 0x520001
/-- ENUM RW, default 0 (10 R267). -/
abbrev COX_ROLE : Nat := 0x520002
/-- U8 RO, default 2 (10 R267). -/
abbrev COX_CLASS : Nat := 0x520003
/-- U8 RO, default 0 (10 R267). -/
abbrev CHAIN_POSITION : Nat := 0x520004
/-- U8 RO, default 0 (10 R267). -/
abbrev CHAIN_REVERSE_POSITION : Nat := 0x520005
/-- BOOL RO, default 0 (10 R267). -/
abbrev CHAIN_RING : Nat := 0x520006
/-- U32 RO, default 0 (10 R267). -/
abbrev CHAIN_ENUM_ID : Nat := 0x520007
/-- BOOL RO, default 0 (10 R267). -/
abbrev COX_DEVICE : Nat := 0x520008
/-- U64 RO, default 0 (10 R267). -/
abbrev COX_SERIAL : Nat := 0x520009
/-- ENUM RO, default 2 (10 R267). -/
abbrev SOURCE_PORT : Nat := 0x52000A
/-- U32 RO, default 0 (10 R267). -/
abbrev FAILOVERS : Nat := 0x52000B
/-- U32 RO, default 0 (10 R267). -/
abbrev ANNOUNCES_LATE : Nat := 0x52000C
/-- BOOL RO, default 0 (10 R267). -/
abbrev ADDRESS_DUPLICATE : Nat := 0x52000D
/-- U32 RW, default 2000 (10 R267). -/
abbrev UPSTREAM_RESERVE : Nat := 0x521001
/-- U16 RW, default 0x0000 (10 R267). -/
abbrev EVENT_DEST : Nat := 0x521002
/-- U16 RW, default 0x0000 (10 R267). -/
abbrev ECHO_DEST : Nat := 0x521003
/-- CMD CMD, default — (10 R267). -/
abbrev TRAFFIC_COUNTERS_CLEAR : Nat := 0x521004
/-- U64 RO, default 0 (10 R267). -/
abbrev PKT_RX (i : Nat) : Nat := 0x522001 + 256 * i
/-- U64 RO, default 0 (10 R267). -/
abbrev PKT_TAKEN (i : Nat) : Nat := 0x522002 + 256 * i
/-- U64 RO, default 0 (10 R267). -/
abbrev PKT_FORWARDED (i : Nat) : Nat := 0x522003 + 256 * i
/-- U32 RO, default 0 (10 R267). -/
abbrev PKT_DISCARDED (i : Nat) : Nat := 0x522004 + 256 * i
/-- U32 RO, default 0 (10 R267). -/
abbrev PKT_POISON_SENT (i : Nat) : Nat := 0x522005 + 256 * i
/-- U32 RO, default 0 (10 R267). -/
abbrev PKT_FORWARD_DROPS (i : Nat) : Nat := 0x522006 + 256 * i
/-- U64 RO, default 0 (10 R267). -/
abbrev PKT_LOCAL_SENT (i : Nat) : Nat := 0x522007 + 256 * i
/-- U32 RO, default 0 (10 R267). -/
abbrev PKT_LOCAL_DROPS (i : Nat) : Nat := 0x522008 + 256 * i
/-- U32 RO, default 0 (10 R267). -/
abbrev PKT_IDLE_ADJUST (i : Nat) : Nat := 0x522009 + 256 * i
/-- U64 RO, default 0 (10 R267). -/
abbrev VIDEO_PACKETS : Nat := 0x523001
/-- U32 RO, default 0 (10 R267). -/
abbrev VIDEO_OUTSIDE : Nat := 0x523002
/-- U32 RO, default 0 (10 R267). -/
abbrev VIDEO_NOT_SOURCE : Nat := 0x523003
/-- U16 RO, default 0 (10 R267). -/
abbrev EVENT_SEQUENCE : Nat := 0x523004
/-- U32 RO, default 0 (10 R267). -/
abbrev EVENTS_SENT : Nat := 0x523005
/-- U32 RO, default 0 (10 R267). -/
abbrev EVENTS_DROPPED : Nat := 0x523006
/-- U8 CMD, default — (10 R267). -/
abbrev WAKE_SEND : Nat := 0x524001
/-- BOOL RW, default 1 (10 R267). -/
abbrev WAKE_RELAY : Nat := 0x524002
/-- CMD CMD, default — (11 R290). -/
abbrev MEM_START : Nat := 0x580001
/-- ENUM RO, default 0 (11 R290). -/
abbrev MEM_STATE : Nat := 0x580002
/-- ENUM RWS, default 3 (11 R290). -/
abbrev MEM_DATA_RATE : Nat := 0x580003
/-- BOOL RWS, default 1 (11 R290). -/
abbrev MEM_LINK_ECC : Nat := 0x580004
/-- U64 RO, default 0 (11 R290). -/
abbrev MEM_INSTALLED_BYTES : Nat := 0x580005
/-- U64 RO, default 0 (11 R290). -/
abbrev MEM_USABLE_BYTES : Nat := 0x580006
/-- ENUM RO, default 0 (11 R290). -/
abbrev MEM_FAIL_CAUSE : Nat := 0x580007
/-- U32 RO, default 0 (11 R290). -/
abbrev MEM_CORRECTED : Nat := 0x580008
/-- U32 RO, default 0 (11 R290). -/
abbrev MEM_UNCORRECTED : Nat := 0x580009
/-- U64 RO, default 0xFFFFFFFFFFFFFFFF (11 R290). -/
abbrev MEM_LAST_UE_ADDR : Nat := 0x58000A
/-- U16 RW, default 24 (11 R290). -/
abbrev SCRUB_PERIOD : Nat := 0x58000B
/-- U32 RO, default 0 (11 R290). -/
abbrev SCRUB_PASSES : Nat := 0x58000C
/-- CMD CMD, default — (11 R290). -/
abbrev MEM_COUNTERS_CLEAR : Nat := 0x58000D
/-- U8 RW, default 0 (11 R290). -/
abbrev REGION_INDEX : Nat := 0x581001
/-- DOMAIN RW, default Entry 0 (11 R290). -/
abbrev REGION_ENTRY : Nat := 0x581002
/-- DOMAIN RW, default See R273 (11 R290). -/
abbrev REGION_TABLE : Nat := 0x581003
/-- U32 RO, default 0 (11 R290). -/
abbrev TRANSLATION_FAULTS : Nat := 0x581004
/-- U64 RO, default 0 (11 R290). -/
abbrev LAST_FAULT_ADDR : Nat := 0x581005
/-- U64 RWS, default 0x0000000000 (11 R290). -/
abbrev CAL_STORE_ADDR : Nat := 0x582001
/-- U64 RWS, default 0x0002000000 (11 R290). -/
abbrev DOSE_STORE_ADDR : Nat := 0x582002
/-- U64 RWS, default 0x0002C00000 (11 R290). -/
abbrev DEFECT_MAP_ADDR : Nat := 0x582003
/-- U64 RWS, default 0x0003000000 (11 R290). -/
abbrev VF_STORE_ADDR : Nat := 0x582004
/-- CMD CMD, default — (11 R290). -/
abbrev RING_CREATE : Nat := 0x583001
/-- CMD CMD, default — (11 R290). -/
abbrev RING_DESTROY : Nat := 0x583002
/-- CMD CMD, default — (11 R290). -/
abbrev RING_HALT : Nat := 0x583003
/-- CMD CMD, default — (11 R290). -/
abbrev RING_RESUME : Nat := 0x583004
/-- DOMAIN RW, default 64, 48, 32, 16 (11 R290). -/
abbrev CLASS_SLOTS : Nat := 0x583005
/-- U16 RW, default 100 (11 R290). -/
abbrev MEM_RESPONSE_TIMEOUT : Nat := 0x583006
/-- U16 RW, default 2000 (11 R290). -/
abbrev FIFO_TIMEOUT : Nat := 0x583007
/-- U32 RO, default 0 (11 R290). -/
abbrev RING_HANDLE (i : Nat) : Nat := 0x584001 + 256 * i
/-- ENUM RO, default 0; 5 for rings 0 … 7 (11 R290). -/
abbrev RING_STATE (i : Nat) : Nat := 0x584002 + 256 * i
/-- U8 RW, default 3 (11 R290). -/
abbrev RING_CLASS (i : Nat) : Nat := 0x584003 + 256 * i
/-- ENUM RW, default 0 (11 R290). -/
abbrev RING_POLICY (i : Nat) : Nat := 0x584004 + 256 * i
/-- U64 RW, default 0 (11 R290). -/
abbrev RING_BASE (i : Nat) : Nat := 0x584005 + 256 * i
/-- U8 RW, default 8 (11 R290). -/
abbrev RING_SIZE_LOG2 (i : Nat) : Nat := 0x584006 + 256 * i
/-- U32 RW, default 0 (11 R290). -/
abbrev RING_TAIL (i : Nat) : Nat := 0x584007 + 256 * i
/-- U32 RO, default 0 (11 R290). -/
abbrev RING_HEAD (i : Nat) : Nat := 0x584008 + 256 * i
/-- U32 RO, default 0 (11 R290). -/
abbrev RING_PROGRESS (i : Nat) : Nat := 0x584009 + 256 * i
/-- DOMAIN RW, default Empty (11 R290). -/
abbrev RING_FIFO (i : Nat) : Nat := 0x58400A + 256 * i
/-- U16 RO, default 0 (11 R290). -/
abbrev RING_FIFO_LEVEL (i : Nat) : Nat := 0x58400B + 256 * i
/-- U32 RO, default 0 (11 R290). -/
abbrev RING_COMPLETED (i : Nat) : Nat := 0x58400C + 256 * i
/-- U32 RO, default 0 (11 R290). -/
abbrev RING_PARTIAL (i : Nat) : Nat := 0x58400D + 256 * i
/-- U32 RO, default 0 (11 R290). -/
abbrev RING_NOT_STARTED (i : Nat) : Nat := 0x58400E + 256 * i
/-- U32 RO, default 0 (11 R290). -/
abbrev RING_PREEMPTIONS (i : Nat) : Nat := 0x58400F + 256 * i
/-- U8 RO, default 0 (11 R290). -/
abbrev RING_LAST_CAUSE (i : Nat) : Nat := 0x584010 + 256 * i
/-- U64 RO, default 0 (11 R290). -/
abbrev RING_BYTES (i : Nat) : Nat := 0x584011 + 256 * i
/-- U32 RO, default 0x00000000 (12 R323). -/
abbrev SAFETY_STATUS : Nat := 0x600001
/-- U8 RO, default 0x00 (12 R323). -/
abbrev SAFETY_PINS : Nat := 0x600002
/-- U32 RO, default 0 (12 R323). -/
abbrev SAFE_BLANK_DEMANDS : Nat := 0x600003
/-- U32 RO, default 0 (12 R323). -/
abbrev EVAC_DEMANDS : Nat := 0x600004
/-- U32 RO, default 0 (12 R323). -/
abbrev DISCREPANCIES : Nat := 0x600005
/-- ENUM RO, default 0 (12 R323). -/
abbrev SAFETY_TRIP_CAUSE : Nat := 0x600006
/-- CMD CMD, default — (12 R323). -/
abbrev SAFETY_TRIP_CLEAR : Nat := 0x600007
/-- TIME80 RO, default 0 (12 R323). -/
abbrev LAST_DEMAND_TIME : Nat := 0x600008
/-- U32 RO, default 0 (12 R323). -/
abbrev MILLBRAKE_COUNT : Nat := 0x600009
/-- U1.15 RW, default 0x8000 (12 R323). -/
abbrev EVAC_GAIN : Nat := 0x601001
/-- ENUM RO, default 0 (12 R323). -/
abbrev EVAC_STATE : Nat := 0x601002
/-- BOOL RO, default 0 (12 R323). -/
abbrev BEACON_VALID : Nat := 0x601003
/-- U32 RO, default 0x00000000 (12 R323). -/
abbrev REPLAY_BANDS : Nat := 0x601004
/-- U32 RO, default 0 (12 R323). -/
abbrev BEACON_MISMATCHES : Nat := 0x601005
/-- U32 RO, default 0 (12 R323). -/
abbrev BEACON_UNCORRECTED : Nat := 0x601006
/-- U32 RO, default 0 (12 R323). -/
abbrev BEACON_PATROLS : Nat := 0x601007
/-- U16 RO, default 0 (12 R323). -/
abbrev EVAC_PEAK_RATIO : Nat := 0x601008
/-- CMD CMD, default — (12 R323). -/
abbrev EVAC_IMAGE_SAVE : Nat := 0x601009
/-- ENUM RO, default 0 (12 R323). -/
abbrev EVAC_IMAGE_STATE : Nat := 0x60100A
/-- DOMAIN RW, default All 0xFFFF (12 R323). -/
abbrev GLARE_MAP : Nat := 0x602001
/-- DOMAIN RW, default 0x366D, 0xB717, 0x127C (12 R323). -/
abbrev PHOTO_WEIGHTS : Nat := 0x602002
/-- U0.16 RW, default 0x0CCD (12 R323). -/
abbrev GLARE_MARGIN : Nat := 0x602003
/-- U1.15 RW, default 0x0040 (12 R323). -/
abbrev GLARE_RISE : Nat := 0x602004
/-- U32 RW, default 0 (12 R323). -/
abbrev AMBIENT_LUX : Nat := 0x602005
/-- U16 RW, default 60 (12 R323). -/
abbrev AMBIENT_TIMEOUT : Nat := 0x602006
/-- DOMAIN RW, default 8 × (0, 0x8000) (12 R323). -/
abbrev AMBIENT_TABLE : Nat := 0x602007
/-- DOMAIN RW, default (0, 0x8000), then 7 × (0xFFFFFFFF, 0x8000) (12 R323). -/
abbrev TOD_TABLE : Nat := 0x602008
/-- I32 RW, default 0 (12 R323). -/
abbrev TOD_OFFSET : Nat := 0x602009
/-- U1.15 RO, default 0x8000 (12 R323). -/
abbrev GLARE_FACTOR : Nat := 0x60200A
/-- DOMAIN RO, default All 0x8000 (12 R323). -/
abbrev GLARE_GAINS : Nat := 0x60200B
/-- DOMAIN RO, default All 0 (12 R323). -/
abbrev MB_ESTIMATES : Nat := 0x60200C
/-- U32 RO, default 0 (12 R323). -/
abbrev GLARE_LIMITED_FRAMES : Nat := 0x60200D
/-- U16 RO, default 0xFFFF (12 R323). -/
abbrev GLARE_TRIP_ZONE : Nat := 0x60200E
/-- U32 RO, default 0 (12 R323). -/
abbrev MB_EXCESS_FRAMES : Nat := 0x60200F
/-- BOOL RW, default 1 (12 R323). -/
abbrev WEIR_ENABLE : Nat := 0x603001
/-- U16 RW, default 1000 (12 R323). -/
abbrev WEIR_WHITE_NITS : Nat := 0x603002
/-- U16 RW, default 20 (12 R323). -/
abbrev WEIR_DELTA_NITS : Nat := 0x603003
/-- U16 RW, default 160 (12 R323). -/
abbrev WEIR_DARK_NITS : Nat := 0x603004
/-- U0.16 RW, default 0xCCCD (12 R323). -/
abbrev WEIR_RED_RATIO : Nat := 0x603005
/-- U16 RW, default 10 (12 R323). -/
abbrev WEIR_RED_DELTA_NITS : Nat := 0x603006
/-- U0.16 RW, default 0x4000 (12 R323). -/
abbrev WEIR_AREA : Nat := 0x603007
/-- U8 RW, default 3 (12 R323). -/
abbrev WEIR_FLASH_LIMIT : Nat := 0x603008
/-- U8 RW, default 16 (12 R323). -/
abbrev WEIR_GROUP_W : Nat := 0x603009
/-- U8 RW, default 8 (12 R323). -/
abbrev WEIR_GROUP_H : Nat := 0x60300A
/-- U0.16 RW, default 0x4000 (12 R323). -/
abbrev WEIR_ATTENUATION : Nat := 0x60300B
/-- U0.16 RW, default 0x0400 (12 R323). -/
abbrev WEIR_MEAN_ALPHA : Nat := 0x60300C
/-- DOMAIN RO, default All 0 (12 R323). -/
abbrev WEIR_ACTIVE_GROUPS : Nat := 0x60300D
/-- U32 RO, default 0 (12 R323). -/
abbrev WEIR_INTERVENTIONS : Nat := 0x60300E
/-- U32 RO, default 0 (12 R323). -/
abbrev WEIR_TRANSITIONS : Nat := 0x60300F
/-- U16 RW, default 100 (12 R323). -/
abbrev TEST_PULSE : Nat := 0x604001
/-- U32 RO, default 0 (12 R323). -/
abbrev OUTPUT_TEST_PASSES : Nat := 0x604002
/-- U32 RO, default 0 (12 R323). -/
abbrev OUTPUT_TEST_ABANDONS : Nat := 0x604003
/-- U32 RO, default 0 (12 R323). -/
abbrev OUTPUT_TEST_FAILS : Nat := 0x604004
/-- TIME80 RO, default 0 (12 R323). -/
abbrev LAST_TEST_A : Nat := 0x604005
/-- TIME80 RO, default 0 (12 R323). -/
abbrev LAST_TEST_B : Nat := 0x604006
/-- DOMAIN RO, default All 0 (13 R338). -/
abbrev FAULT_LIVE : Nat := 0x680001
/-- DOMAIN RO, default All 0 (13 R338). -/
abbrev FAULT_LATCHED : Nat := 0x680002
/-- DOMAIN CMD, default — (13 R338). -/
abbrev FAULT_CLEAR : Nat := 0x680003
/-- DOMAIN RW, default All 0 (13 R338). -/
abbrev FAULT_FORCE : Nat := 0x680004
/-- DOMAIN RW, default Table 1 (13 R338). -/
abbrev FAULT_REACTION : Nat := 0x680005
/-- U8 RW, default 0 (13 R338). -/
abbrev FAULT_INDEX : Nat := 0x680006
/-- U16 RO, default 0 (13 R338). -/
abbrev FAULT_COUNT : Nat := 0x680007
/-- TIME80 RO, default 0 (13 R338). -/
abbrev FAULT_FIRST_TIME : Nat := 0x680008
/-- TIME80 RO, default 0 (13 R338). -/
abbrev FAULT_LAST_TIME : Nat := 0x680009
/-- BOOL RO, default 0 (13 R338). -/
abbrev FAULT_ALARM_ACTIVE : Nat := 0x68000A
/-- CMD CMD, default — (13 R338). -/
abbrev FAULT_COUNTERS_CLEAR : Nat := 0x68000B
/-- DOMAIN RO, default All 0 (13 R338). -/
abbrev PAIR_DISCREPANT : Nat := 0x68000C
/-- BOOL RW, default 1 (13 R338). -/
abbrev FREEZE_PIN_ENABLE : Nat := 0x68000D
/-- DOMAIN RO, default All 0 (13 R338). -/
abbrev FAULT_HELD : Nat := 0x688001
/-- U16 RO, default 0 (13 R338). -/
abbrev FREEZES : Nat := 0x688002
/-- ENUM RW, default 0 (14 R362). -/
abbrev PERF_LEVEL : Nat := 0x700001
/-- ENUM RO, default 0 (14 R362). -/
abbrev PERF_LEVEL_IN_FORCE : Nat := 0x700002
/-- ENUM RO, default 0 (14 R362). -/
abbrev PERF_STATE : Nat := 0x700003
/-- U32 RO, default 0 (14 R362). -/
abbrev LEVEL_CHANGES : Nat := 0x700004
/-- U32 RO, default 0 (14 R362). -/
abbrev AVS_TIMEOUTS : Nat := 0x700005
/-- U8 RW, default 0 (14 R362). -/
abbrev AVS_RAIL : Nat := 0x700006
/-- U16 RO, default 850 (14 R362). -/
abbrev CORE_VOLTAGE_REQUEST : Nat := 0x700007
/-- DOMAIN RO, default 800, 720, 650, 600 (14 R362). -/
abbrev LEVEL_VOLTAGES : Nat := 0x700008
/-- U8 CMD, default — (14 R362). -/
abbrev SLEEP_REQUEST : Nat := 0x701001
/-- ENUM RO, default 0 (14 R362). -/
abbrev SLEEP_STATE : Nat := 0x701002
/-- U64 RW, default 0x0006000000 (14 R362). -/
abbrev SLEEP_IMAGE_ADDR : Nat := 0x701003
/-- ENUM RO, default 0 (14 R362). -/
abbrev SLEEP_IMAGE_RESULT : Nat := 0x701004
/-- U8 RW, default 0x01 (14 R362). -/
abbrev WAKE_RESUME : Nat := 0x701005
/-- U32 RO, default 0 (14 R362). -/
abbrev HK_ROUNDS : Nat := 0x703001
/-- DOMAIN RO, default All 0 (14 R362). -/
abbrev HK_VALUES : Nat := 0x703002
/-- DOMAIN RW, default Table 4 (14 R362). -/
abbrev SUPPLY_WINDOWS : Nat := 0x703003
/-- U16 RO, default 0x0000 (14 R362). -/
abbrev SUPPLY_FAULT_MASK : Nat := 0x703004
/-- U16 RW, default 0x01DE (14 R362). -/
abbrev WAKE_ENABLE : Nat := 0x702001
/-- U32 RW, default 0 (14 R362). -/
abbrev WAKE_TIMER : Nat := 0x702002
/-- ENUM RO, default 0 (14 R362). -/
abbrev LAST_WAKE_SOURCE : Nat := 0x702003
/-- U16 RO, default 0x0000 (14 R362). -/
abbrev LAST_WAKE_SOURCES : Nat := 0x702004
/-- ENUM RO, default 0 (14 R362). -/
abbrev LAST_WAKE_STATE : Nat := 0x702005
/-- U64 RO, default 0 (14 R362). -/
abbrev LAST_WAKE_LEDGER : Nat := 0x702006
/-- DOMAIN RO, default All 0 (14 R362). -/
abbrev WAKE_COUNTS : Nat := 0x702007
/-- BOOL RO, default 0 (14 R362). -/
abbrev RESET_HELD : Nat := 0x702008
/-- U16 RO, default 0 (14 R362). -/
abbrev RESET_HELD_COUNT : Nat := 0x702009
/-- U32 RO, default 0 (14 R362). -/
abbrev RESET_HOLD_TIME : Nat := 0x70200A
/-- Q9.7 RO, default 0 (14 R362). -/
abbrev TJ : Nat := 0x704001
/-- BOOL RO, default 0 (14 R362). -/
abbrev TJ_VALID : Nat := 0x704002
/-- Q9.7 RO, default 0x8000 (14 R362). -/
abbrev TJ_MAX : Nat := 0x704003
/-- ENUM RO, default 0 (14 R362). -/
abbrev THERMAL_STATE : Nat := 0x704004
/-- CMD CMD, default — (14 R362). -/
abbrev THERMAL_CLEAR : Nat := 0x704005
/-- U16 RO, default 0 (14 R362). -/
abbrev THERMAL_TRIPS : Nat := 0x704006
/-- ENUM RO, default 0 (14 R362). -/
abbrev THERMAL_STOP_KIND : Nat := 0x704007
/-- Q9.7 RO, default 0 (14 R362). -/
abbrev THERMAL_TRIP_READING : Nat := 0x704008
/-- TIME80 RO, default 0 (14 R362). -/
abbrev THERMAL_TRIP_TIME : Nat := 0x704009
/-- U32 RO, default 0 (14 R362). -/
abbrev SENSOR_INVALID_SAMPLES : Nat := 0x70400A
/-- U8 RO, default 0 (14 R362). -/
abbrev HOVER_COUNT : Nat := 0x70400B
/-- U16 RO, default 0 (14 R362). -/
abbrev MARGIN_MV : Nat := 0x705001
/-- U16 RW, default 10 (14 R362). -/
abbrev MARGIN_BASE : Nat := 0x705002
/-- U8.8 RW, default 0x0800 (14 R362). -/
abbrev MARGIN_SLOPE : Nat := 0x705003
/-- U16 RW, default 50 (14 R362). -/
abbrev MARGIN_CEILING : Nat := 0x705004
/-- U0.16 RO, default 0 (14 R362). -/
abbrev SLOWDOWN : Nat := 0x705005
/-- DOMAIN RO, default All 0 (14 R362). -/
abbrev RO_RATIOS : Nat := 0x705006
/-- DOMAIN RO, default Factory (14 R362). -/
abbrev RO_BASELINES : Nat := 0x705007
/-- U64 RO, default Fused (15 R385). -/
abbrev DEVICE_SERIAL : Nat := 0x100001
/-- DOMAIN RO, default "KRG1M4" (15 R385). -/
abbrev PART_NAME : Nat := 0x100002
/-- U16 RO, default Fused (15 R385). -/
abbrev SILICON_REVISION : Nat := 0x100003
/-- U32 RO, default Fixed (15 R385). -/
abbrev ROM_VERSION : Nat := 0x100004
/-- U32 RO, default From image (15 R385). -/
abbrev FW_VERSION : Nat := 0x100005
/-- U64 RO, default Fused (15 R385). -/
abbrev MAC_ADDRESS : Nat := 0x100006
/-- DOMAIN RO, default Fused (15 R385). -/
abbrev RO_FACTORY_BASELINES : Nat := 0x100007
/-- DOMAIN RW, default Flash (15 R385). -/
abbrev TILE_IDENTITY : Nat := 0x100008
/-- U8 RO, default 1 (15 R385). -/
abbrev COP_VERSION : Nat := 0x110001
/-- U32 RO, default 0 (15 R385). -/
abbrev COP_REQUESTS : Nat := 0x110002
/-- U32 RO, default 0 (15 R385). -/
abbrev COP_ABORTS : Nat := 0x110003
/-- U32 RO, default 0 (15 R385). -/
abbrev COP_LAST_ABORT : Nat := 0x110004
/-- U32 RO, default 0 (15 R385). -/
abbrev COP_DUPLICATES : Nat := 0x110005
/-- U32 RO, default 0 (15 R385). -/
abbrev TRANSFERS_ABANDONED : Nat := 0x110006
/-- U64 WO, default Flash (15 R385). -/
abbrev KEY_OPERATOR : Nat := 0x111001
/-- U64 WO, default Flash (15 R385). -/
abbrev KEY_SERVICE : Nat := 0x111002
/-- U64 WO, default Flash (15 R385). -/
abbrev KEY_OWNER : Nat := 0x111003
/-- U32 RO, default 0 (15 R385). -/
abbrev KEY_REJECTIONS : Nat := 0x111004
/-- U8 RO, default 0x00 (15 R385). -/
abbrev ROLES_LOCKED : Nat := 0x111005
/-- U32 RW, default 0 (15 R385). -/
abbrev IPV4_ADDRESS : Nat := 0x112001
/-- U32 RO, default Derived (15 R385). -/
abbrev IPV4_ADDRESS_IN_FORCE : Nat := 0x112002
/-- U32 RW, default 0xFFFF0000 (15 R385). -/
abbrev IPV4_NETMASK : Nat := 0x112003
/-- U16 RW, default 30360 (15 R385). -/
abbrev COP_UDP_PORT : Nat := 0x112004
/-- U8 RW, default 0xFF (15 R385). -/
abbrev PLCA_NODE_ID : Nat := 0x112005
/-- U8 RW, default 8 (15 R385). -/
abbrev PLCA_NODE_COUNT : Nat := 0x112006
/-- ENUM RO, default 0 (15 R385). -/
abbrev BATCH_STATE : Nat := 0x113001
/-- U16 RO, default 0 (15 R385). -/
abbrev BATCH_ENTRIES : Nat := 0x113002
/-- U16 RW, default 200 (15 R385). -/
abbrev BATCH_SETUP : Nat := 0x113003
/-- U16 RW, default 10 (15 R385). -/
abbrev BATCH_IDLE_TIMEOUT : Nat := 0x113004
/-- U32 RO, default 0 (15 R385). -/
abbrev BATCH_SEQUENCE : Nat := 0x113005
/-- U32 RO, default 0 (15 R385). -/
abbrev BATCH_LAST_APPLIED : Nat := 0x113006
/-- U16 RO, default 0 (15 R385). -/
abbrev BATCH_LAST_COUNT : Nat := 0x113007
/-- U16 RO, default 0 (15 R385). -/
abbrev BATCH_LAST_FAILED : Nat := 0x113008
/-- DOMAIN RO, default All 0 (15 R385). -/
abbrev BATCH_FIRST_FAILURE : Nat := 0x113009
/-- TIME80 RO, default 0 (15 R385). -/
abbrev BATCH_LAST_TIME : Nat := 0x11300A
/-- U32 RO, default 0 (15 R385). -/
abbrev BATCH_AUTO_COMMITS : Nat := 0x11300B
/-- U32 RO, default 0 (15 R385). -/
abbrev BATCH_ABANDONED : Nat := 0x11300C
/-- ENUM RO, default 0 (15 R385). -/
abbrev FLASH_STATE : Nat := 0x120001
/-- U32 RO, default Detected (15 R385). -/
abbrev FLASH_SIZE : Nat := 0x120002
/-- ENUM RO, default Booted (15 R385). -/
abbrev FW_SLOT_RUNNING : Nat := 0x120003
/-- U8 RO, default Checked (15 R385). -/
abbrev FW_SLOT_STATES : Nat := 0x120004
/-- U32 CMD, default — (15 R385). -/
abbrev FW_UPDATE_BEGIN : Nat := 0x120005
/-- DOMAIN WO, default — (15 R385). -/
abbrev FW_IMAGE : Nat := 0x120006
/-- CMD CMD, default — (15 R385). -/
abbrev FW_UPDATE_VERIFY : Nat := 0x120007
/-- U8 CMD, default — (15 R385). -/
abbrev FW_ACTIVATE : Nat := 0x120008
/-- CMD CMD, default — (15 R385). -/
abbrev FW_CONFIRM : Nat := 0x120009
/-- U16 RO, default Fused (15 R385). -/
abbrev FW_ROLLBACK_MIN : Nat := 0x12000A
/-- CMD CMD, default — (15 R385). -/
abbrev FW_ROLLBACK_COMMIT : Nat := 0x12000B
/-- CMD CMD, default — (15 R385). -/
abbrev FW_KEY_REVOKE : Nat := 0x12000C
/-- CMD CMD, default — (15 R385). -/
abbrev CAL_FLASH_SAVE : Nat := 0x12000D
/-- CMD CMD, default — (15 R385). -/
abbrev CAL_FLASH_LOAD : Nat := 0x12000E
/-- ENUM RO, default 0 (15 R385). -/
abbrev CAL_FLASH_STATE : Nat := 0x12000F
/-- CMD CMD, default — (15 R385). -/
abbrev FAULT_LOG_WRITE : Nat := 0x120010
/-- U16 RW, default 0 (15 R385). -/
abbrev FAULT_LOG_INDEX : Nat := 0x120011
/-- DOMAIN RO, default — (15 R385). -/
abbrev FAULT_LOG_RECORD : Nat := 0x120012
/-- U16 RO, default From flash (15 R385). -/
abbrev FAULT_LOG_NEXT : Nat := 0x120013
/-- U8 RO, default Sampled (16 R407). -/
abbrev STRAPS : Nat := 0x220001
/-- ENUM RO, default 0 (16 R407). -/
abbrev RESET_CAUSE : Nat := 0x220002
/-- DOMAIN RO, default All 0 (16 R407). -/
abbrev RESET_COUNTS : Nat := 0x220003
/-- U16 RO, default 0 (16 R407). -/
abbrev RESET_GLITCHES : Nat := 0x220004
/-- U8 RO, default 0x00 (16 R407). -/
abbrev PIN_LEVELS : Nat := 0x220005

end Obj

/-- Index 0x1000. -/
def group1000 : ObjGroup := ⟨0x1000, 1, 6, [
  ⟨0x01, .fixed 8, 0xffffffffffffffff, .ro, 0, 1, .none, false⟩,
  ⟨0x02, .domain 6, 0, .ro, 0, 1, .none, false⟩,
  ⟨0x03, .fixed 2, 0xffff, .ro, 0, 1, .none, false⟩,
  ⟨0x04, .fixed 4, 0xffffffff, .ro, 0, 1, .none, false⟩,
  ⟨0x05, .fixed 4, 0xffffffff, .ro, 0, 1, .none, false⟩,
  ⟨0x06, .fixed 8, 0xffffffffffffffff, .ro, 0, 1, .none, false⟩,
  ⟨0x07, .domain 8, 0, .ro, 0, 1, .none, false⟩,
  ⟨0x08, .domain 256, 0, .rw, 0, 3, .none, false⟩]⟩

/-- Index 0x1100. -/
def group1100 : ObjGroup := ⟨0x1100, 1, 6, [
  ⟨0x01, .fixed 1, 0xff, .ro, 1, 1, .none, false⟩,
  ⟨0x02, .fixed 4, 0xffffffff, .ro, 0, 1, .none, false⟩,
  ⟨0x03, .fixed 4, 0xffffffff, .ro, 0, 1, .none, false⟩,
  ⟨0x04, .fixed 4, 0xffffffff, .ro, 0, 1, .none, false⟩,
  ⟨0x05, .fixed 4, 0xffffffff, .ro, 0, 1, .none, false⟩,
  ⟨0x06, .fixed 4, 0xffffffff, .ro, 0, 1, .none, false⟩]⟩

/-- Index 0x1110. -/
def group1110 : ObjGroup := ⟨0x1110, 1, 6, [
  ⟨0x01, .fixed 8, 0xffffffffffffffff, .wo, 0, 3, .none, false⟩,
  ⟨0x02, .fixed 8, 0xffffffffffffffff, .wo, 0, 3, .none, false⟩,
  ⟨0x03, .fixed 8, 0xffffffffffffffff, .wo, 0, 3, .none, false⟩,
  ⟨0x04, .fixed 4, 0xffffffff, .ro, 0, 3, .none, false⟩,
  ⟨0x05, .fixed 1, 0xff, .ro, 0, 1, .none, false⟩]⟩

/-- Index 0x1120. -/
def group1120 : ObjGroup := ⟨0x1120, 1, 6, [
  ⟨0x01, .fixed 4, 0xffffffff, .rw, 0, 2, .none, false⟩,
  ⟨0x02, .fixed 4, 0xffffffff, .ro, 0, 2, .none, false⟩,
  ⟨0x03, .fixed 4, 0xffffffff, .rw, 0xffff0000, 2, .none, false⟩,
  ⟨0x04, .fixed 2, 0xffff, .rw, 0x7698, 2, .none, false⟩,
  ⟨0x05, .fixed 1, 0xff, .rw, 0xff, 2, .none, false⟩,
  ⟨0x06, .fixed 1, 0xff, .rw, 8, 2, .none, false⟩]⟩

/-- Index 0x1130. -/
def group1130 : ObjGroup := ⟨0x1130, 1, 6, [
  ⟨0x01, .fixed 1, 0xff, .ro, 0, 1, .none, false⟩,
  ⟨0x02, .fixed 2, 0xffff, .ro, 0, 1, .none, false⟩,
  ⟨0x03, .fixed 2, 0xffff, .rw, 0xc8, 1, .none, false⟩,
  ⟨0x04, .fixed 2, 0xffff, .rw, 0xa, 1, .none, false⟩,
  ⟨0x05, .fixed 4, 0xffffffff, .ro, 0, 1, .none, false⟩,
  ⟨0x06, .fixed 4, 0xffffffff, .ro, 0, 1, .none, false⟩,
  ⟨0x07, .fixed 2, 0xffff, .ro, 0, 1, .none, false⟩,
  ⟨0x08, .fixed 2, 0xffff, .ro, 0, 1, .none, false⟩,
  ⟨0x09, .domain 8, 0, .ro, 0, 1, .none, false⟩,
  ⟨0x0A, .fixed 10, 0xffffffffffffffffffff, .ro, 0, 1, .none, false⟩,
  ⟨0x0B, .fixed 4, 0xffffffff, .ro, 0, 1, .none, false⟩,
  ⟨0x0C, .fixed 4, 0xffffffff, .ro, 0, 1, .none, false⟩]⟩

/-- Index 0x1200. -/
def group1200 : ObjGroup := ⟨0x1200, 1, 6, [
  ⟨0x01, .fixed 1, 0xff, .ro, 0, 2, .none, false⟩,
  ⟨0x02, .fixed 4, 0xffffffff, .ro, 0, 2, .none, false⟩,
  ⟨0x03, .fixed 1, 0xff, .ro, 0, 2, .none, false⟩,
  ⟨0x04, .fixed 1, 0xff, .ro, 0, 2, .none, false⟩,
  ⟨0x05, .fixed 4, 0xffffffff, .cmd, 0, 2, .none, false⟩,
  ⟨0x06, .domain 8388608, 0, .wo, 0, 2, .none, false⟩,
  ⟨0x07, .cmd, 0, .cmd, 0, 2, .none, false⟩,
  ⟨0x08, .fixed 1, 0xff, .cmd, 0, 2, .none, false⟩,
  ⟨0x09, .cmd, 0, .cmd, 0, 2, .none, false⟩,
  ⟨0x0A, .fixed 2, 0xffff, .ro, 0, 2, .none, false⟩,
  ⟨0x0B, .cmd, 0, .cmd, 0, 3, .none, false⟩,
  ⟨0x0C, .cmd, 0, .cmd, 0, 3, .none, false⟩,
  ⟨0x0D, .cmd, 0, .cmd, 0, 2, .none, false⟩,
  ⟨0x0E, .cmd, 0, .cmd, 0, 2, .none, false⟩,
  ⟨0x0F, .fixed 1, 0xff, .ro, 0, 2, .none, false⟩,
  ⟨0x10, .cmd, 0, .cmd, 0, 1, .none, false⟩,
  ⟨0x11, .fixed 2, 0xffff, .rw, 0, 0, .none, false⟩,
  ⟨0x12, .domain 64, 0, .ro, 0, 2, .none, false⟩,
  ⟨0x13, .fixed 2, 0xffff, .ro, 0, 2, .none, false⟩]⟩

/-- Index 0x2000. -/
def group2000 : ObjGroup := ⟨0x2000, 1, 6, [
  ⟨0x01, .fixed 2, 0xffff, .rws, 0x400, 1, .scan, false⟩,
  ⟨0x02, .fixed 2, 0xffff, .rws, 0x400, 1, .scan, false⟩,
  ⟨0x03, .fixed 1, 0xff, .rws, 3, 1, .scan, false⟩,
  ⟨0x04, .fixed 4, 0xffffffff, .rws, 0, 1, .scan, false⟩,
  ⟨0x05, .fixed 1, 0xff, .rws, 0, 1, .scan, false⟩]⟩

/-- Index 0x2010. -/
def group2010 : ObjGroup := ⟨0x2010, 1, 6, [
  ⟨0x01, .domain 4096, 0, .rws, 0, 1, .scan, false⟩,
  ⟨0x02, .fixed 2, 0xffff, .rw, 0, 1, .none, false⟩,
  ⟨0x03, .fixed 2, 0xfff, .rws, 0x40, 1, .scan, false⟩,
  ⟨0x04, .cmd, 0, .cmd, 0, 1, .none, false⟩]⟩

/-- Index 0x2020. -/
def group2020 : ObjGroup := ⟨0x2020, 1, 6, [
  ⟨0x01, .fixed 2, 0xffff, .ro, 0, 1, .none, false⟩,
  ⟨0x02, .fixed 2, 0xffff, .ro, 0, 1, .none, false⟩,
  ⟨0x03, .fixed 1, 0xff, .ro, 0, 1, .none, false⟩,
  ⟨0x04, .fixed 2, 0xffff, .ro, 0, 1, .none, false⟩,
  ⟨0x05, .fixed 4, 0xffffffff, .ro, 0, 1, .none, false⟩,
  ⟨0x06, .fixed 2, 0xffff, .ro, 0, 1, .none, false⟩,
  ⟨0x07, .fixed 2, 0xffff, .ro, 0, 1, .none, false⟩,
  ⟨0x08, .fixed 4, 0xffffffff, .ro, 0, 1, .none, false⟩,
  ⟨0x09, .fixed 4, 0xffffffff, .ro, 0, 1, .none, false⟩,
  ⟨0x0A, .domain 130, 0, .ro, 0, 1, .none, false⟩,
  ⟨0x0B, .domain 66, 0, .ro, 0, 1, .none, false⟩]⟩

/-- Index 0x2100. -/
def group2100 : ObjGroup := ⟨0x2100, 1, 6, [
  ⟨0x01, .fixed 4, 0xffffffff, .ro, 0, 1, .none, false⟩,
  ⟨0x02, .fixed 2, 0x1e, .rw, 0, 1, .none, false⟩,
  ⟨0x03, .fixed 2, 0xffff, .rw, 0xa, 1, .none, false⟩,
  ⟨0x04, .fixed 4, 0xffffffff, .ro, 0, 1, .none, false⟩,
  ⟨0x05, .fixed 4, 0xffffffff, .ro, 0, 1, .none, false⟩]⟩

/-- Index 0x2110. -/
def group2110 : ObjGroup := ⟨0x2110, 1, 6, [
  ⟨0x01, .fixed 1, 0xff, .rw, 1, 1, .none, false⟩,
  ⟨0x02, .fixed 4, 0xffffffff, .ro, 0, 1, .none, false⟩,
  ⟨0x03, .fixed 4, 0xffffffff, .ro, 0, 1, .none, false⟩,
  ⟨0x04, .fixed 10, 0xffffffffffffffffffff, .ro, 0, 1, .none, false⟩,
  ⟨0x05, .fixed 2, 0xffff, .ro, 0, 1, .none, false⟩]⟩

/-- Index 0x2120. -/
def group2120 : ObjGroup := ⟨0x2120, 1, 6, [
  ⟨0x01, .fixed 1, 0xff, .rw, 0, 1, .none, false⟩,
  ⟨0x02, .fixed 4, 0xffffffff, .ro, 0, 1, .none, false⟩,
  ⟨0x03, .fixed 4, 0xffffffff, .ro, 0, 1, .none, false⟩,
  ⟨0x04, .fixed 4, 0xffffffff, .ro, 0xffffffff, 1, .none, false⟩,
  ⟨0x05, .cmd, 0, .cmd, 0, 1, .none, false⟩]⟩

/-- Index 0x2200. -/
def group2200 : ObjGroup := ⟨0x2200, 1, 8, [
  ⟨0x01, .fixed 1, 0xff, .ro, 0, 1, .none, false⟩,
  ⟨0x02, .fixed 1, 0xff, .ro, 0, 1, .none, true⟩,
  ⟨0x03, .domain 8, 0, .ro, 0, 1, .none, true⟩,
  ⟨0x04, .fixed 2, 0xffff, .ro, 0, 1, .none, true⟩,
  ⟨0x05, .fixed 1, 0xff, .ro, 0, 1, .none, false⟩]⟩

/-- Index 0x3000. -/
def group3000 : ObjGroup := ⟨0x3000, 1, 1, [
  ⟨0x01, .fixed 2, 0x2f0, .rw, 0, 1, .none, false⟩,
  ⟨0x02, .fixed 1, 0xff, .rw, 2, 1, .none, false⟩,
  ⟨0x03, .fixed 4, 0xffffffff, .ro, 0, 1, .none, false⟩,
  ⟨0x04, .fixed 4, 0xffffffff, .ro, 0, 1, .none, false⟩,
  ⟨0x05, .fixed 4, 0xffffffff, .ro, 0, 1, .none, false⟩,
  ⟨0x06, .bool, 1, .ro, 0, 1, .none, false⟩,
  ⟨0x07, .fixed 4, 0xffffffff, .ro, 0, 1, .none, false⟩]⟩

/-- Index 0x3010. -/
def group3010 : ObjGroup := ⟨0x3010, 4, 1, [
  ⟨0x01, .fixed 1, 0xff, .rw, 0, 1, .none, false⟩,
  ⟨0x02, .fixed 1, 0xff, .rw, 0, 1, .none, false⟩,
  ⟨0x03, .fixed 1, 0xff, .rw, 1, 1, .none, false⟩,
  ⟨0x04, .fixed 1, 0xff, .rw, 1, 1, .none, false⟩,
  ⟨0x05, .fixed 2, 0xffff, .rw, 0x1388, 1, .none, false⟩,
  ⟨0x06, .fixed 4, 0xfffff, .rw, 0x10000, 1, .none, false⟩,
  ⟨0x07, .fixed 4, 0xfffff, .rw, 0x10000, 1, .none, false⟩,
  ⟨0x08, .domain 4100, 0, .rw, 0, 1, .none, false⟩,
  ⟨0x09, .domain 18, 0, .rw, 0, 1, .none, false⟩,
  ⟨0x0A, .domain 18, 0, .ro, 0, 1, .none, false⟩]⟩

/-- Index 0x3020. -/
def group3020 : ObjGroup := ⟨0x3020, 1, 1, [
  ⟨0x01, .bool, 1, .rw, 1, 1, .none, false⟩,
  ⟨0x02, .fixed 4, 0xffffffff, .ro, 0, 1, .none, false⟩,
  ⟨0x03, .fixed 4, 0xffffffff, .ro, 0xffffffff, 1, .none, false⟩,
  ⟨0x04, .fixed 4, 0xffffffff, .ro, 0, 1, .none, false⟩]⟩

/-- Index 0x3030. -/
def group3030 : ObjGroup := ⟨0x3030, 1, 1, [
  ⟨0x01, .fixed 2, 0xffff, .rw, 0xc80, 1, .none, false⟩,
  ⟨0x02, .fixed 2, 0xffff, .rws, 0x7d0, 1, .scan, false⟩,
  ⟨0x03, .fixed 2, 0xffff, .rw, 0, 1, .none, false⟩,
  ⟨0x04, .fixed 2, 0xffff, .rw, 0, 1, .none, false⟩,
  ⟨0x05, .fixed 2, 0xffff, .rw, 0, 1, .none, false⟩,
  ⟨0x06, .fixed 2, 0xffff, .ro, 0, 1, .none, false⟩,
  ⟨0x07, .domain 1152, 0, .rw, 0, 1, .none, false⟩,
  ⟨0x08, .domain 4096, 0, .ro, 0, 1, .none, false⟩,
  ⟨0x09, .cmd, 0, .cmd, 0, 1, .none, false⟩]⟩

/-- Index 0x3040. -/
def group3040 : ObjGroup := ⟨0x3040, 1, 1, [
  ⟨0x01, .bool, 1, .rw, 1, 1, .none, false⟩,
  ⟨0x02, .fixed 1, 0xff, .rws, 1, 1, .scan, false⟩,
  ⟨0x03, .fixed 4, 0xffffffff, .ro, 0, 1, .none, false⟩,
  ⟨0x04, .fixed 4, 0xffffffff, .ro, 0, 1, .none, false⟩,
  ⟨0x05, .fixed 4, 0xffffffff, .ro, 0, 1, .none, false⟩,
  ⟨0x06, .fixed 1, 0xff, .rws, 0x16, 1, .scan, false⟩,
  ⟨0x07, .domain 1536, 0, .rw, 0, 1, .none, false⟩]⟩

/-- Index 0x3050. -/
def group3050 : ObjGroup := ⟨0x3050, 1, 1, [
  ⟨0x01, .fixed 4, 0xffffff, .rw, 0xe000, 1, .none, false⟩,
  ⟨0x02, .fixed 4, 0xffffff, .rw, 0xe000, 1, .none, false⟩,
  ⟨0x03, .fixed 4, 0xffffff, .rw, 0xe000, 1, .none, false⟩,
  ⟨0x04, .domain 16384, 0, .rw, 0, 1, .none, false⟩,
  ⟨0x05, .domain 16384, 0, .rw, 0, 1, .none, false⟩,
  ⟨0x06, .domain 16384, 0, .rw, 0, 1, .none, false⟩,
  ⟨0x07, .domain 16384, 0, .rw, 0, 1, .none, false⟩,
  ⟨0x08, .domain 16384, 0, .rw, 0, 1, .none, false⟩,
  ⟨0x09, .domain 16384, 0, .rw, 0, 1, .none, false⟩,
  ⟨0x0A, .fixed 4, 0xffffffff, .ro, 0, 1, .none, false⟩]⟩

/-- Index 0x3060. -/
def group3060 : ObjGroup := ⟨0x3060, 1, 1, [
  ⟨0x01, .domain 4096, 0, .rw, 0, 1, .none, false⟩,
  ⟨0x02, .fixed 1, 0xff, .rw, 0x9f, 1, .none, false⟩,
  ⟨0x03, .fixed 1, 0xff, .rw, 0, 1, .none, false⟩,
  ⟨0x04, .fixed 1, 0xff, .rw, 0, 1, .none, false⟩,
  ⟨0x05, .domain 6, 0, .rw, 0, 1, .none, false⟩,
  ⟨0x06, .fixed 1, 0xff, .ro, 0, 1, .none, false⟩]⟩

/-- Index 0x3070. -/
def group3070 : ObjGroup := ⟨0x3070, 1, 1, [
  ⟨0x01, .fixed 4, 0xffffffff, .ro, 0, 1, .none, false⟩,
  ⟨0x02, .fixed 4, 0xffffffff, .ro, 0, 1, .none, false⟩,
  ⟨0x03, .fixed 4, 0xffffffff, .ro, 0, 1, .none, false⟩,
  ⟨0x04, .fixed 2, 0xffff, .rw, 0xc80, 1, .none, false⟩,
  ⟨0x05, .fixed 4, 0xffffffff, .ro, 0, 1, .none, false⟩,
  ⟨0x06, .cmd, 0, .cmd, 0, 1, .none, false⟩,
  ⟨0x07, .fixed 4, 0xffffffff, .ro, 0, 1, .none, false⟩]⟩

/-- Index 0x3400. -/
def group3400 : ObjGroup := ⟨0x3400, 1, 1, [
  ⟨0x01, .cmd, 0, .cmd, 0, 1, .none, false⟩,
  ⟨0x02, .cmd, 0, .cmd, 0, 1, .none, false⟩,
  ⟨0x03, .cmd, 0, .cmd, 0, 1, .none, false⟩,
  ⟨0x04, .fixed 2, 0xffff, .rw, 0x64, 1, .none, false⟩,
  ⟨0x05, .fixed 1, 0xff, .rw, 2, 1, .none, false⟩,
  ⟨0x06, .bool, 1, .ro, 0, 1, .none, false⟩,
  ⟨0x07, .fixed 4, 0xffffffff, .ro, 0, 1, .none, false⟩,
  ⟨0x08, .cmd, 0, .cmd, 0, 1, .none, false⟩]⟩

/-- Index 0x3410. -/
def group3410 : ObjGroup := ⟨0x3410, 8, 1, [
  ⟨0x01, .fixed 4, 0xffffffff, .ro, 0, 1, .none, false⟩,
  ⟨0x02, .fixed 1, 0xff, .ro, 0, 1, .none, false⟩,
  ⟨0x03, .bool, 1, .rw, 0, 1, .none, false⟩,
  ⟨0x04, .fixed 1, 0xff, .rw, 0, 1, .none, false⟩,
  ⟨0x05, .fixed 1, 0xff, .rw, 0, 1, .none, false⟩,
  ⟨0x06, .fixed 1, 0xff, .rw, 0, 1, .none, false⟩,
  ⟨0x07, .fixed 2, 0xffff, .rw, 0xffff, 1, .none, false⟩,
  ⟨0x08, .fixed 2, 0xffff, .rw, 0, 1, .none, false⟩,
  ⟨0x09, .fixed 2, 0xffff, .rw, 0, 1, .none, false⟩,
  ⟨0x0A, .fixed 2, 0xffff, .rw, 0, 1, .none, false⟩,
  ⟨0x0B, .fixed 2, 0xffff, .rw, 0, 1, .none, false⟩,
  ⟨0x0C, .fixed 2, 0xffff, .rw, 0x800, 1, .none, false⟩,
  ⟨0x0D, .fixed 2, 0xffff, .rw, 0x400, 1, .none, false⟩,
  ⟨0x0E, .fixed 1, 0xff, .rw, 0, 1, .none, false⟩,
  ⟨0x0F, .fixed 2, 0xffff, .rw, 0, 1, .none, false⟩,
  ⟨0x10, .fixed 8, 0xffffffffff, .rw, 0, 1, .none, false⟩,
  ⟨0x11, .fixed 4, 0xffffffff, .rw, 0, 1, .none, false⟩,
  ⟨0x12, .fixed 2, 0xffff, .rw, 0, 1, .none, false⟩,
  ⟨0x13, .fixed 2, 0xffff, .rw, 0, 1, .none, false⟩,
  ⟨0x14, .fixed 8, 0xffffffffff, .rw, 0, 1, .none, false⟩,
  ⟨0x15, .fixed 4, 0xffffffff, .rw, 0, 1, .none, false⟩,
  ⟨0x16, .fixed 2, 0xffff, .rw, 0, 1, .none, false⟩,
  ⟨0x17, .fixed 2, 0xffff, .rw, 0, 1, .none, false⟩,
  ⟨0x18, .fixed 8, 0xffffffffff, .rw, 0, 1, .none, false⟩,
  ⟨0x19, .fixed 4, 0xffffffff, .rw, 0, 1, .none, false⟩,
  ⟨0x1A, .fixed 2, 0xffff, .rw, 0, 1, .none, false⟩,
  ⟨0x1B, .fixed 2, 0xffff, .rw, 0, 1, .none, false⟩,
  ⟨0x1C, .fixed 1, 0xff, .rw, 0, 1, .none, false⟩,
  ⟨0x1D, .fixed 1, 0xff, .rw, 0xff, 1, .none, false⟩,
  ⟨0x1E, .fixed 4, 0xffffffff, .rw, 0, 1, .none, false⟩,
  ⟨0x1F, .fixed 10, 0xffffffffffffffffffff, .rw, 0, 1, .none, false⟩,
  ⟨0x20, .fixed 1, 0xff, .rw, 0xff, 1, .none, false⟩,
  ⟨0x21, .fixed 1, 0xff, .ro, 0, 1, .none, false⟩,
  ⟨0x22, .bool, 1, .ro, 0, 1, .none, false⟩,
  ⟨0x23, .fixed 4, 0xffffffff, .ro, 0, 1, .none, false⟩,
  ⟨0x24, .fixed 4, 0xffffffff, .ro, 0, 1, .none, false⟩,
  ⟨0x25, .fixed 4, 0xffffffff, .ro, 0, 1, .none, false⟩,
  ⟨0x26, .fixed 10, 0xffffffffffffffffffff, .ro, 0, 1, .none, false⟩]⟩

/-- Index 0x3440. -/
def group3440 : ObjGroup := ⟨0x3440, 1, 1, [
  ⟨0x01, .fixed 2, 0xffff, .rw, 0x14, 1, .none, false⟩,
  ⟨0x02, .domain 64, 0, .ro, 0, 1, .none, false⟩,
  ⟨0x03, .fixed 1, 0xff, .rw, 0, 1, .none, false⟩,
  ⟨0x04, .cmd, 0, .cmd, 0, 1, .none, false⟩,
  ⟨0x05, .fixed 4, 0xffffffff, .ro, 0, 1, .none, false⟩]⟩

/-- Index 0x3480. -/
def group3480 : ObjGroup := ⟨0x3480, 1, 1, [
  ⟨0x01, .cmd, 0, .cmd, 0, 3, .none, false⟩,
  ⟨0x02, .cmd, 0, .cmd, 0, 3, .none, false⟩,
  ⟨0x03, .fixed 1, 0xff, .ro, 0, 1, .none, false⟩,
  ⟨0x04, .fixed 1, 0xff, .ro, 0, 1, .none, false⟩,
  ⟨0x05, .fixed 1, 0xff, .rw, 0, 1, .none, false⟩,
  ⟨0x06, .fixed 4, 0xffffffff, .ro, 0, 1, .none, false⟩,
  ⟨0x07, .fixed 10, 0xffffffffffffffffffff, .ro, 0, 1, .none, false⟩,
  ⟨0x08, .fixed 4, 0xffffffff, .ro, 0, 1, .none, false⟩,
  ⟨0x09, .fixed 4, 0xffffffff, .ro, 0, 1, .none, false⟩]⟩

/-- Index 0x3500. -/
def group3500 : ObjGroup := ⟨0x3500, 16, 1, [
  ⟨0x01, .fixed 1, 0xff, .rw, 0, 1, .none, false⟩,
  ⟨0x02, .fixed 2, 0xffff, .rw, 0, 1, .none, false⟩,
  ⟨0x03, .fixed 2, 0xffff, .rw, 0, 1, .none, false⟩,
  ⟨0x04, .fixed 2, 0xffff, .rw, 0x800, 1, .none, false⟩,
  ⟨0x05, .fixed 2, 0xffff, .rw, 0x400, 1, .none, false⟩,
  ⟨0x06, .domain 12, 0, .rw, 0, 1, .none, false⟩,
  ⟨0x07, .domain 12, 0, .rw, 0, 1, .none, false⟩,
  ⟨0x08, .fixed 2, 0xffff, .rw, 0xffff, 1, .none, false⟩,
  ⟨0x09, .fixed 2, 0xffff, .rw, 0, 1, .none, false⟩,
  ⟨0x0A, .fixed 4, 0xffffffff, .rw, 0xfa0, 1, .none, false⟩,
  ⟨0x0B, .domain 512, 0, .rw, 0, 1, .none, false⟩,
  ⟨0x0C, .fixed 1, 0xff, .rw, 0, 1, .none, false⟩,
  ⟨0x0D, .fixed 4, 0xffffff, .rw, 0x1e000, 1, .none, false⟩,
  ⟨0x0E, .fixed 2, 0xffff, .rw, 8, 1, .none, false⟩,
  ⟨0x0F, .fixed 2, 0xffff, .rw, 0x20, 1, .none, false⟩,
  ⟨0x10, .fixed 10, 0xffffffffffffffffffff, .rw, 0, 1, .none, false⟩,
  ⟨0x11, .fixed 2, 0xffff, .ro, 0, 1, .none, false⟩]⟩

/-- Index 0x3600. -/
def group3600 : ObjGroup := ⟨0x3600, 1, 1, [
  ⟨0x01, .bool, 1, .rw, 0, 1, .none, false⟩,
  ⟨0x02, .fixed 1, 0xff, .rw, 1, 1, .none, false⟩,
  ⟨0x03, .fixed 1, 0xff, .rw, 1, 1, .none, false⟩,
  ⟨0x04, .fixed 1, 0xff, .rw, 1, 1, .none, false⟩,
  ⟨0x05, .fixed 8, 0xffffffffff, .rw, 0, 1, .none, false⟩,
  ⟨0x06, .fixed 4, 0xffffffff, .ro, 0, 1, .none, false⟩,
  ⟨0x07, .fixed 4, 0xffffffff, .ro, 0, 1, .none, false⟩]⟩

/-- Index 0x3800. -/
def group3800 : ObjGroup := ⟨0x3800, 1, 4, [
  ⟨0x01, .cmd, 0, .cmd, 0, 1, .none, false⟩,
  ⟨0x02, .cmd, 0, .cmd, 0, 1, .none, false⟩,
  ⟨0x03, .fixed 1, 0xff, .ro, 0, 1, .none, false⟩,
  ⟨0x04, .fixed 4, 0xffffffff, .rws, 0xf0, 1, .scan, false⟩,
  ⟨0x05, .fixed 4, 0xffffffff, .rws, 1, 1, .scan, false⟩,
  ⟨0x06, .fixed 2, 0xffff, .rws, 0x10, 1, .scan, false⟩,
  ⟨0x07, .fixed 2, 0xffff, .rws, 0x190, 1, .scan, false⟩,
  ⟨0x08, .fixed 2, 0xffff, .rws, 0x800, 1, .scan, false⟩,
  ⟨0x09, .fixed 2, 0xffff, .rws, 0x64, 1, .scan, false⟩,
  ⟨0x0A, .fixed 4, 0xffffffff, .ro, 0, 1, .none, false⟩,
  ⟨0x0B, .fixed 4, 0xffffffff, .ro, 0, 1, .none, false⟩,
  ⟨0x0C, .fixed 4, 0xffffffff, .ro, 0, 1, .none, false⟩,
  ⟨0x0D, .fixed 2, 0xffff, .ro, 0, 1, .none, false⟩,
  ⟨0x0E, .fixed 4, 0xffffffff, .ro, 0, 1, .none, false⟩,
  ⟨0x0F, .fixed 2, 0xffff, .rw, 0x18, 1, .none, false⟩,
  ⟨0x10, .fixed 4, 0xffffffff, .ro, 0, 1, .none, false⟩,
  ⟨0x11, .fixed 4, 0xffffffff, .ro, 0, 1, .none, false⟩]⟩

/-- Index 0x3810. -/
def group3810 : ObjGroup := ⟨0x3810, 1, 4, [
  ⟨0x01, .domain 192, 0, .rw, 0, 1, .none, false⟩,
  ⟨0x02, .domain 192, 0, .rw, 0, 1, .none, false⟩]⟩

/-- Index 0x3820. -/
def group3820 : ObjGroup := ⟨0x3820, 1, 4, [
  ⟨0x01, .fixed 1, 0xff, .rw, 0, 1, .none, false⟩,
  ⟨0x02, .fixed 1, 0xff, .ro, 0, 1, .none, false⟩,
  ⟨0x03, .fixed 1, 0xff, .ro, 0, 1, .none, false⟩,
  ⟨0x04, .fixed 1, 0xff, .ro, 0, 1, .none, false⟩,
  ⟨0x05, .fixed 4, 0xffffffff, .ro, 0, 1, .none, false⟩,
  ⟨0x06, .fixed 4, 0xffffffff, .ro, 0, 1, .none, false⟩,
  ⟨0x07, .fixed 4, 0xffffffff, .ro, 0, 1, .none, false⟩,
  ⟨0x08, .fixed 4, 0xffffffff, .ro, 0, 1, .none, false⟩,
  ⟨0x09, .fixed 4, 0xffffffff, .ro, 0, 1, .none, false⟩,
  ⟨0x0A, .fixed 4, 0xffffffff, .ro, 0, 1, .none, false⟩]⟩

/-- Index 0x3830. -/
def group3830 : ObjGroup := ⟨0x3830, 1, 4, [
  ⟨0x01, .fixed 1, 0xff, .rw, 1, 1, .none, false⟩,
  ⟨0x02, .bool, 1, .ro, 0, 1, .none, false⟩,
  ⟨0x03, .fixed 8, 0xffffffffffffffff, .ro, 0, 1, .none, false⟩,
  ⟨0x04, .fixed 4, 0xffffffff, .ro, 0, 1, .none, false⟩,
  ⟨0x05, .fixed 2, 0xffff, .ro, 0, 1, .none, false⟩,
  ⟨0x06, .fixed 4, 0xffffffff, .ro, 0, 1, .none, false⟩,
  ⟨0x07, .bool, 1, .ro, 0, 1, .none, false⟩,
  ⟨0x08, .cmd, 0, .cmd, 0, 1, .none, false⟩]⟩

/-- Index 0x3A00. -/
def group3A00 : ObjGroup := ⟨0x3A00, 1, 1, [
  ⟨0x01, .bool, 1, .rw, 1, 1, .none, false⟩,
  ⟨0x02, .fixed 2, 0xffff, .rws, 0x40, 1, .scan, false⟩,
  ⟨0x03, .fixed 2, 0xffff, .rw, 0x32, 1, .none, false⟩,
  ⟨0x04, .bool, 1, .rw, 0, 1, .none, false⟩,
  ⟨0x05, .fixed 1, 0xff, .rw, 0xa, 1, .none, false⟩,
  ⟨0x06, .fixed 1, 0xff, .rw, 3, 1, .none, false⟩,
  ⟨0x07, .fixed 2, 0xffff, .ro, 0, 1, .none, false⟩,
  ⟨0x08, .fixed 4, 0xffffffff, .ro, 0, 1, .none, false⟩,
  ⟨0x09, .fixed 8, 0xffffffffffffffff, .ro, 0, 1, .none, false⟩,
  ⟨0x0A, .fixed 4, 0xffffffff, .ro, 0, 1, .none, false⟩,
  ⟨0x0B, .fixed 4, 0xffffffff, .ro, 0, 1, .none, false⟩,
  ⟨0x0C, .fixed 4, 0xffffffff, .ro, 0, 1, .none, false⟩]⟩

/-- Index 0x3A08. -/
def group3A08 : ObjGroup := ⟨0x3A08, 1, 1, [
  ⟨0x01, .fixed 2, 0xffff, .rw, 0xfa0, 1, .none, false⟩,
  ⟨0x02, .fixed 2, 0xffff, .rw, 0xfa0, 1, .none, false⟩,
  ⟨0x03, .fixed 2, 0xffff, .rw, 0xfa0, 1, .none, false⟩,
  ⟨0x04, .fixed 2, 0xffff, .rw, 0x12c, 1, .none, false⟩,
  ⟨0x05, .fixed 2, 0xffff, .rw, 0x12c, 1, .none, false⟩,
  ⟨0x06, .fixed 2, 0xffff, .rw, 0x12c, 1, .none, false⟩,
  ⟨0x07, .fixed 2, 0xffff, .rw, 0x4b0, 1, .none, false⟩,
  ⟨0x08, .fixed 2, 0xffff, .rw, 0x76c, 1, .none, false⟩,
  ⟨0x09, .fixed 2, 0xffff, .rw, 0x76c, 1, .none, false⟩]⟩

/-- Index 0x3A10. -/
def group3A10 : ObjGroup := ⟨0x3A10, 1, 1, [
  ⟨0x01, .domain 65536, 0, .rws, 0, 1, .scan, false⟩,
  ⟨0x02, .fixed 2, 0xffff, .ro, 0, 1, .none, false⟩,
  ⟨0x03, .fixed 4, 0xffffffff, .ro, 0, 1, .none, false⟩,
  ⟨0x04, .fixed 8, 0xffffffffffffffff, .cmd, 0, 1, .none, false⟩,
  ⟨0x05, .fixed 4, 0xffffffff, .cmd, 0, 1, .none, false⟩,
  ⟨0x06, .cmd, 0, .cmd, 0, 1, .none, false⟩,
  ⟨0x07, .fixed 4, 0xffffffff, .ro, 0, 1, .none, false⟩,
  ⟨0x08, .fixed 1, 0xf, .rw, 7, 1, .none, false⟩,
  ⟨0x09, .fixed 1, 0xff, .rw, 0, 1, .none, false⟩,
  ⟨0x0A, .fixed 2, 0xffff, .ro, 0, 1, .none, false⟩,
  ⟨0x0B, .fixed 4, 0xffffffff, .ro, 0, 1, .none, false⟩,
  ⟨0x0C, .fixed 4, 0xffffffff, .ro, 0xffffffff, 1, .none, false⟩,
  ⟨0x0D, .fixed 10, 0xffffffffffffffffffff, .ro, 0, 1, .none, false⟩,
  ⟨0x0E, .fixed 1, 0xff, .rw, 0xff, 1, .none, false⟩]⟩

/-- Index 0x3A20. -/
def group3A20 : ObjGroup := ⟨0x3A20, 1, 1, [
  ⟨0x01, .domain 64, 0, .rw, 0, 1, .none, false⟩,
  ⟨0x02, .fixed 4, 0xffffff, .rw, 0xfffff, 1, .none, false⟩,
  ⟨0x03, .fixed 4, 0xffffffff, .ro, 0, 1, .none, false⟩]⟩

/-- Index 0x3A30. -/
def group3A30 : ObjGroup := ⟨0x3A30, 1, 1, [
  ⟨0x01, .fixed 1, 0xff, .rw, 0x10, 1, .none, false⟩,
  ⟨0x02, .fixed 1, 0xff, .rw, 0x10, 1, .none, false⟩,
  ⟨0x03, .fixed 2, 0xffff, .rw, 0x96, 1, .none, false⟩,
  ⟨0x04, .fixed 2, 0xffff, .rw, 0x96, 1, .none, false⟩,
  ⟨0x05, .fixed 2, 0xffff, .rw, 0x96, 1, .none, false⟩,
  ⟨0x06, .fixed 1, 0xff, .rw, 1, 1, .none, false⟩,
  ⟨0x07, .fixed 4, 0xffffffff, .ro, 0, 1, .none, false⟩,
  ⟨0x08, .domain 192, 0, .ro, 0, 1, .none, false⟩,
  ⟨0x09, .fixed 4, 0xffffffff, .cmd, 0, 1, .none, false⟩]⟩

/-- Index 0x3A40. -/
def group3A40 : ObjGroup := ⟨0x3A40, 1, 1, [
  ⟨0x01, .bool, 1, .rw, 0, 1, .none, false⟩,
  ⟨0x02, .fixed 2, 0xffff, .rw, 0, 1, .none, false⟩,
  ⟨0x03, .fixed 2, 0xffff, .rw, 0, 1, .none, false⟩,
  ⟨0x04, .fixed 2, 0xffff, .rw, 0, 1, .none, false⟩,
  ⟨0x05, .fixed 2, 0xffff, .rw, 0x10, 1, .none, false⟩,
  ⟨0x06, .fixed 2, 0xffff, .rw, 0xccd, 1, .none, false⟩]⟩

/-- Index 0x4000. -/
def group4000 : ObjGroup := ⟨0x4000, 1, 3, [
  ⟨0x01, .fixed 8, 0xffffffffffffffff, .cmd, 0, 1, .none, false⟩,
  ⟨0x02, .fixed 8, 0xffffffffffffffff, .cmd, 0, 1, .none, false⟩,
  ⟨0x03, .fixed 8, 0xffffffffffffffff, .cmd, 0, 1, .none, false⟩,
  ⟨0x04, .fixed 8, 0xffffffffffffffff, .ro, 0, 1, .none, false⟩,
  ⟨0x05, .fixed 8, 0xffffffffffffffff, .ro, 0, 1, .none, false⟩,
  ⟨0x06, .cmd, 0, .cmd, 0, 1, .none, false⟩,
  ⟨0x07, .fixed 4, 0xffffffff, .ro, 0, 1, .none, false⟩,
  ⟨0x08, .fixed 2, 0xffff, .ro, 0, 1, .none, false⟩,
  ⟨0x09, .fixed 4, 0xffffffff, .ro, 0, 1, .none, false⟩,
  ⟨0x0A, .bool, 1, .rw, 0, 1, .none, false⟩,
  ⟨0x0B, .domain 6, 0, .rw, 0, 1, .none, false⟩,
  ⟨0x0C, .fixed 2, 0xffff, .rw, 0x64, 1, .none, false⟩,
  ⟨0x0D, .cmd, 0, .cmd, 0, 1, .none, false⟩,
  ⟨0x0E, .fixed 8, 0xffffffffffffffff, .ro, 0, 1, .none, false⟩]⟩

/-- Index 0x4010. -/
def group4010 : ObjGroup := ⟨0x4010, 1, 3, [
  ⟨0x01, .domain 32256, 0, .rw, 0, 1, .none, false⟩,
  ⟨0x02, .domain 1152, 0, .rw, 0, 1, .none, false⟩]⟩

/-- Index 0x4020. -/
def group4020 : ObjGroup := ⟨0x4020, 1, 3, [
  ⟨0x01, .domain 96, 0, .rws, 0, 1, .allRails, false⟩]⟩

/-- Index 0x4100. -/
def group4100 : ObjGroup := ⟨0x4100, 48, 3, [
  ⟨0x01, .fixed 1, 0xff, .ro, 0, 1, .none, false⟩,
  ⟨0x02, .fixed 1, 0xff, .rw, 0, 2, .none, false⟩,
  ⟨0x03, .fixed 2, 0xffff, .rw, 0, 2, .none, false⟩,
  ⟨0x04, .fixed 2, 0xffff, .rw, 0, 2, .none, false⟩,
  ⟨0x05, .fixed 2, 0xffff, .rws, 0x190, 1, .rail, false⟩,
  ⟨0x06, .fixed 2, 0xffff, .rws, 0, 1, .rail, false⟩,
  ⟨0x07, .fixed 2, 0xffff, .rws, 0x2000, 1, .rail, false⟩,
  ⟨0x08, .fixed 2, 0xffff, .rws, 0x5000, 1, .rail, false⟩,
  ⟨0x09, .fixed 2, 0xffff, .rw, 0x7d0, 1, .none, false⟩,
  ⟨0x0A, .fixed 2, 0xffff, .rw, 0x1388, 1, .none, false⟩,
  ⟨0x0B, .fixed 2, 0xffff, .rw, 0x1194, 1, .none, false⟩,
  ⟨0x0C, .fixed 2, 0xffff, .rw, 0xf830, 1, .none, false⟩,
  ⟨0x0D, .fixed 2, 0xffff, .rw, 0x3e80, 1, .none, false⟩,
  ⟨0x0E, .fixed 2, 0xffff, .rw, 0xe666, 1, .none, false⟩,
  ⟨0x0F, .fixed 1, 0xff, .rw, 0xf, 1, .none, false⟩,
  ⟨0x10, .fixed 2, 0xffff, .rw, 0x8000, 1, .none, false⟩,
  ⟨0x11, .fixed 2, 0xffff, .rw, 0x1f4, 1, .none, false⟩,
  ⟨0x12, .domain 6, 0, .rw, 0, 1, .none, false⟩,
  ⟨0x13, .fixed 2, 0xffff, .rw, 0x1f4, 1, .none, false⟩,
  ⟨0x14, .fixed 1, 7, .rw, 0, 1, .none, false⟩,
  ⟨0x15, .domain 24, 0, .rw, 0, 1, .none, false⟩,
  ⟨0x16, .fixed 1, 7, .rw, 0, 1, .none, false⟩,
  ⟨0x17, .fixed 2, 0xffff, .rw, 0, 1, .none, false⟩,
  ⟨0x18, .fixed 2, 0xffff, .rw, 0x1770, 1, .none, false⟩,
  ⟨0x19, .fixed 2, 0xffff, .rw, 0x4650, 1, .none, false⟩,
  ⟨0x1A, .fixed 2, 0xffff, .rw, 0x7d0, 1, .none, false⟩,
  ⟨0x20, .fixed 2, 0xffff, .ro, 0, 1, .none, false⟩,
  ⟨0x21, .fixed 2, 0xffff, .ro, 0, 1, .none, false⟩,
  ⟨0x22, .fixed 2, 0xffff, .ro, 0, 1, .none, false⟩,
  ⟨0x23, .fixed 2, 0xffff, .ro, 0, 1, .none, false⟩,
  ⟨0x24, .fixed 2, 0xffff, .ro, 0, 1, .none, false⟩,
  ⟨0x25, .fixed 2, 0xffff, .ro, 0, 1, .none, false⟩,
  ⟨0x26, .fixed 1, 0xff, .ro, 0, 1, .none, false⟩,
  ⟨0x27, .fixed 1, 0xff, .ro, 0, 1, .none, false⟩,
  ⟨0x28, .fixed 1, 0xff, .ro, 0xff, 1, .none, false⟩,
  ⟨0x29, .fixed 2, 0xffff, .ro, 0, 1, .none, false⟩,
  ⟨0x2A, .fixed 4, 0xffffffff, .ro, 0, 1, .none, false⟩,
  ⟨0x2B, .fixed 4, 0xffffffff, .ro, 0, 1, .none, false⟩,
  ⟨0x2C, .fixed 4, 0xffffffff, .ro, 0, 1, .none, false⟩,
  ⟨0x2D, .fixed 4, 0xffffffff, .ro, 0, 1, .none, false⟩,
  ⟨0x2E, .fixed 1, 0xff, .ro, 0, 1, .none, false⟩]⟩

/-- Index 0x4200. -/
def group4200 : ObjGroup := ⟨0x4200, 1, 3, [
  ⟨0x01, .domain 392, 0, .rw, 0, 1, .none, false⟩,
  ⟨0x02, .bool, 1, .rw, 1, 1, .none, false⟩,
  ⟨0x03, .fixed 4, 0xffffffff, .ro, 0, 1, .none, false⟩,
  ⟨0x04, .fixed 2, 0xffff, .ro, 0, 1, .none, false⟩,
  ⟨0x05, .fixed 4, 0xffffffff, .ro, 0, 1, .none, false⟩,
  ⟨0x06, .fixed 2, 0xffff, .rw, 0x30, 1, .none, false⟩,
  ⟨0x07, .fixed 1, 0xff, .ro, 0, 1, .none, false⟩]⟩

/-- Index 0x4800. -/
def group4800 : ObjGroup := ⟨0x4800, 1, 5, [
  ⟨0x01, .fixed 1, 0xff, .rw, 0, 1, .none, false⟩,
  ⟨0x02, .bool, 1, .rw, 0, 1, .none, false⟩,
  ⟨0x03, .fixed 10, 0xffffffffffffffffffff, .rws, 0, 1, .scan, false⟩,
  ⟨0x04, .fixed 1, 0xff, .rw, 0x64, 1, .none, false⟩,
  ⟨0x05, .fixed 4, 0xffffffff, .rw, 0xf4240, 1, .none, false⟩,
  ⟨0x06, .fixed 4, 0xffffffff, .ro, 0, 1, .none, false⟩,
  ⟨0x07, .fixed 4, 0xffffffff, .ro, 0, 1, .none, false⟩,
  ⟨0x08, .fixed 4, 0xffffffff, .ro, 0, 1, .none, false⟩,
  ⟨0x09, .fixed 4, 0xffffffff, .ro, 0, 1, .none, false⟩,
  ⟨0x0A, .fixed 10, 0xffffffffffffffffffff, .ro, 0, 1, .none, false⟩,
  ⟨0x0B, .fixed 4, 0xffffffff, .ro, 0, 1, .none, false⟩,
  ⟨0x0C, .cmd, 0, .cmd, 0, 1, .none, false⟩]⟩

/-- Index 0x4810. -/
def group4810 : ObjGroup := ⟨0x4810, 2, 5, [
  ⟨0x01, .fixed 10, 0xffffffffffffffffffff, .ro, 0, 1, .none, false⟩,
  ⟨0x02, .fixed 1, 0xff, .rw, 0, 1, .none, false⟩,
  ⟨0x03, .fixed 2, 0xffff, .ro, 0, 1, .none, false⟩,
  ⟨0x04, .fixed 2, 0xffff, .rw, 0x6000, 1, .none, false⟩,
  ⟨0x05, .fixed 2, 0xffff, .rw, 0x800, 1, .none, false⟩,
  ⟨0x06, .fixed 4, 0xffffffff, .rw, 0x30d40, 1, .none, false⟩,
  ⟨0x07, .fixed 4, 0xffffffff, .rw, 0, 1, .none, false⟩,
  ⟨0x08, .fixed 4, 0xffffffff, .rw, 0x4e20, 1, .none, false⟩,
  ⟨0x09, .fixed 4, 0xffffffff, .rw, 0xffffffff, 1, .none, false⟩,
  ⟨0x0A, .fixed 2, 0xffff, .rw, 0x64, 1, .none, false⟩,
  ⟨0x0B, .fixed 2, 0xffff, .rw, 0x3e8, 1, .none, false⟩,
  ⟨0x0C, .fixed 10, 0xffffffffffffffffffff, .cmd, 0, 1, .none, false⟩,
  ⟨0x0D, .fixed 4, 0xffffffff, .cmd, 0, 1, .none, false⟩,
  ⟨0x0E, .fixed 4, 0xffffffff, .ro, 0, 1, .none, false⟩,
  ⟨0x0F, .fixed 4, 0xffffffff, .ro, 0, 1, .none, false⟩,
  ⟨0x10, .fixed 4, 0xffffffff, .ro, 0, 1, .none, false⟩,
  ⟨0x11, .fixed 4, 0xffffffff, .ro, 0, 1, .none, false⟩,
  ⟨0x12, .fixed 4, 0xffffffff, .ro, 0, 1, .none, false⟩]⟩

/-- Index 0x4820. -/
def group4820 : ObjGroup := ⟨0x4820, 1, 5, [
  ⟨0x01, .fixed 1, 0xff, .rw, 4, 1, .none, false⟩,
  ⟨0x02, .fixed 4, 0xffffffff, .ro, 0, 1, .none, false⟩,
  ⟨0x03, .fixed 4, 0xffffffff, .ro, 0, 1, .none, false⟩,
  ⟨0x04, .fixed 4, 0xffffffff, .rw, 0, 1, .none, false⟩,
  ⟨0x05, .fixed 4, 0xffffffff, .rw, 0, 1, .none, false⟩,
  ⟨0x06, .fixed 4, 0xffffffff, .ro, 0, 1, .none, false⟩,
  ⟨0x07, .fixed 4, 0xffffffff, .ro, 0, 1, .none, false⟩]⟩

/-- Index 0x4840. -/
def group4840 : ObjGroup := ⟨0x4840, 1, 5, [
  ⟨0x01, .bool, 1, .rw, 0, 1, .none, false⟩,
  ⟨0x02, .fixed 1, 0xff, .rw, 0, 1, .none, false⟩,
  ⟨0x03, .fixed 1, 0xff, .rw, 0, 1, .none, false⟩,
  ⟨0x04, .domain 16, 0, .ro, 0, 1, .none, false⟩,
  ⟨0x05, .fixed 1, 0xff, .ro, 0, 1, .none, false⟩,
  ⟨0x06, .fixed 4, 0xffffffff, .ro, 0, 1, .none, false⟩]⟩

/-- Index 0x4880. -/
def group4880 : ObjGroup := ⟨0x4880, 1, 8, [
  ⟨0x01, .fixed 8, 0xffffffffffffffff, .ro, 0, 1, .none, true⟩,
  ⟨0x02, .fixed 8, 0xffffffffffffffff, .ro, 0, 1, .none, true⟩]⟩

/-- Index 0x5000. -/
def group5000 : ObjGroup := ⟨0x5000, 1, 0, [
  ⟨0x01, .fixed 1, 3, .rw, 3, 2, .none, false⟩,
  ⟨0x02, .fixed 1, 0xff, .cmd, 0, 2, .none, false⟩,
  ⟨0x03, .fixed 2, 0xffff, .rw, 0xa, 1, .none, false⟩,
  ⟨0x04, .fixed 4, 0xffffffff, .rw, 0x15e0, 1, .none, false⟩,
  ⟨0x05, .fixed 2, 0xffff, .rw, 1, 1, .none, false⟩,
  ⟨0x06, .fixed 2, 0xffff, .rw, 0x1f4, 1, .none, false⟩,
  ⟨0x07, .fixed 4, 0xffffffff, .rw, 0x111700, 1, .none, false⟩,
  ⟨0x08, .cmd, 0, .cmd, 0, 1, .none, false⟩]⟩

/-- Index 0x5010. -/
def group5010 : ObjGroup := ⟨0x5010, 2, 0, [
  ⟨0x01, .fixed 1, 0xff, .ro, 0, 1, .none, false⟩,
  ⟨0x02, .fixed 4, 0xffffffff, .ro, 0, 1, .none, false⟩,
  ⟨0x03, .fixed 1, 0xff, .ro, 0, 1, .none, false⟩,
  ⟨0x04, .fixed 4, 0xffffffff, .ro, 0, 1, .none, false⟩,
  ⟨0x05, .fixed 4, 0xffffffff, .ro, 0, 1, .none, false⟩,
  ⟨0x06, .fixed 4, 0xffffffff, .ro, 0, 1, .none, false⟩,
  ⟨0x07, .fixed 10, 0xffffffffffffffffffff, .ro, 0, 1, .none, false⟩,
  ⟨0x08, .fixed 10, 0xffffffffffffffffffff, .ro, 0, 1, .none, false⟩,
  ⟨0x09, .fixed 4, 0xffffffff, .ro, 0, 1, .none, false⟩,
  ⟨0x0A, .fixed 1, 0xff, .rw, 0, 2, .none, false⟩,
  ⟨0x0B, .bool, 1, .ro, 0, 1, .none, false⟩]⟩

/-- Index 0x5020. -/
def group5020 : ObjGroup := ⟨0x5020, 2, 0, [
  ⟨0x01, .fixed 8, 0xffffffffffffffff, .ro, 0, 1, .none, false⟩,
  ⟨0x02, .fixed 8, 0xffffffffffffffff, .ro, 0, 1, .none, false⟩,
  ⟨0x03, .fixed 8, 0xffffffffffffffff, .ro, 0, 1, .none, false⟩,
  ⟨0x04, .fixed 8, 0xffffffffffffffff, .ro, 0, 1, .none, false⟩,
  ⟨0x05, .domain 128, 0, .ro, 0, 1, .none, false⟩,
  ⟨0x06, .fixed 4, 0xffffffff, .ro, 0, 1, .none, false⟩,
  ⟨0x07, .fixed 4, 0xffffffff, .ro, 0, 1, .none, false⟩]⟩

/-- Index 0x5030. -/
def group5030 : ObjGroup := ⟨0x5030, 4, 0, [
  ⟨0x01, .fixed 2, 0xf0f, .rw, 0x400, 2, .none, false⟩,
  ⟨0x02, .fixed 2, 0xffff, .rw, 0x3e8, 2, .none, false⟩,
  ⟨0x03, .bool, 1, .ro, 0, 1, .none, false⟩,
  ⟨0x04, .fixed 1, 0xff, .ro, 0, 1, .none, false⟩,
  ⟨0x05, .bool, 1, .ro, 0, 1, .none, false⟩,
  ⟨0x06, .fixed 2, 0xffff, .ro, 0, 1, .none, false⟩,
  ⟨0x07, .fixed 1, 0xff, .ro, 0, 1, .none, false⟩,
  ⟨0x08, .fixed 4, 0xffffffff, .ro, 0, 1, .none, false⟩,
  ⟨0x09, .bool, 1, .ro, 0, 1, .none, false⟩,
  ⟨0x0A, .fixed 8, 0xffffffffffffffff, .ro, 0, 1, .none, false⟩,
  ⟨0x0B, .fixed 8, 0xffffffffffffffff, .ro, 0, 1, .none, false⟩]⟩

/-- Index 0x5200. -/
def group5200 : ObjGroup := ⟨0x5200, 1, 0, [
  ⟨0x01, .fixed 2, 0xffff, .rw, 0, 1, .none, false⟩,
  ⟨0x02, .fixed 1, 0xff, .rw, 0, 1, .none, false⟩,
  ⟨0x03, .fixed 1, 0xff, .ro, 2, 1, .none, false⟩,
  ⟨0x04, .fixed 1, 0xff, .ro, 0, 1, .none, false⟩,
  ⟨0x05, .fixed 1, 0xff, .ro, 0, 1, .none, false⟩,
  ⟨0x06, .bool, 1, .ro, 0, 1, .none, false⟩,
  ⟨0x07, .fixed 4, 0xffffffff, .ro, 0, 1, .none, false⟩,
  ⟨0x08, .bool, 1, .ro, 0, 1, .none, false⟩,
  ⟨0x09, .fixed 8, 0xffffffffffffffff, .ro, 0, 1, .none, false⟩,
  ⟨0x0A, .fixed 1, 0xff, .ro, 2, 1, .none, false⟩,
  ⟨0x0B, .fixed 4, 0xffffffff, .ro, 0, 1, .none, false⟩,
  ⟨0x0C, .fixed 4, 0xffffffff, .ro, 0, 1, .none, false⟩,
  ⟨0x0D, .bool, 1, .ro, 0, 1, .none, false⟩]⟩

/-- Index 0x5210. -/
def group5210 : ObjGroup := ⟨0x5210, 1, 0, [
  ⟨0x01, .fixed 4, 0xffffffff, .rw, 0x7d0, 1, .none, false⟩,
  ⟨0x02, .fixed 2, 0xffff, .rw, 0, 1, .none, false⟩,
  ⟨0x03, .fixed 2, 0xffff, .rw, 0, 1, .none, false⟩,
  ⟨0x04, .cmd, 0, .cmd, 0, 1, .none, false⟩]⟩

/-- Index 0x5220. -/
def group5220 : ObjGroup := ⟨0x5220, 2, 0, [
  ⟨0x01, .fixed 8, 0xffffffffffffffff, .ro, 0, 1, .none, false⟩,
  ⟨0x02, .fixed 8, 0xffffffffffffffff, .ro, 0, 1, .none, false⟩,
  ⟨0x03, .fixed 8, 0xffffffffffffffff, .ro, 0, 1, .none, false⟩,
  ⟨0x04, .fixed 4, 0xffffffff, .ro, 0, 1, .none, false⟩,
  ⟨0x05, .fixed 4, 0xffffffff, .ro, 0, 1, .none, false⟩,
  ⟨0x06, .fixed 4, 0xffffffff, .ro, 0, 1, .none, false⟩,
  ⟨0x07, .fixed 8, 0xffffffffffffffff, .ro, 0, 1, .none, false⟩,
  ⟨0x08, .fixed 4, 0xffffffff, .ro, 0, 1, .none, false⟩,
  ⟨0x09, .fixed 4, 0xffffffff, .ro, 0, 1, .none, false⟩]⟩

/-- Index 0x5230. -/
def group5230 : ObjGroup := ⟨0x5230, 1, 0, [
  ⟨0x01, .fixed 8, 0xffffffffffffffff, .ro, 0, 1, .none, false⟩,
  ⟨0x02, .fixed 4, 0xffffffff, .ro, 0, 1, .none, false⟩,
  ⟨0x03, .fixed 4, 0xffffffff, .ro, 0, 1, .none, false⟩,
  ⟨0x04, .fixed 2, 0xffff, .ro, 0, 1, .none, false⟩,
  ⟨0x05, .fixed 4, 0xffffffff, .ro, 0, 1, .none, false⟩,
  ⟨0x06, .fixed 4, 0xffffffff, .ro, 0, 1, .none, false⟩]⟩

/-- Index 0x5240. -/
def group5240 : ObjGroup := ⟨0x5240, 1, 0, [
  ⟨0x01, .fixed 1, 0xff, .cmd, 0, 1, .none, false⟩,
  ⟨0x02, .bool, 1, .rw, 1, 1, .none, false⟩]⟩

/-- Index 0x5800. -/
def group5800 : ObjGroup := ⟨0x5800, 1, 2, [
  ⟨0x01, .cmd, 0, .cmd, 0, 1, .none, false⟩,
  ⟨0x02, .fixed 1, 0xff, .ro, 0, 1, .none, false⟩,
  ⟨0x03, .fixed 1, 0xff, .rws, 3, 1, .memory, false⟩,
  ⟨0x04, .bool, 1, .rws, 1, 1, .memory, false⟩,
  ⟨0x05, .fixed 8, 0xffffffffffffffff, .ro, 0, 1, .none, false⟩,
  ⟨0x06, .fixed 8, 0xffffffffffffffff, .ro, 0, 1, .none, false⟩,
  ⟨0x07, .fixed 1, 0xff, .ro, 0, 1, .none, false⟩,
  ⟨0x08, .fixed 4, 0xffffffff, .ro, 0, 1, .none, false⟩,
  ⟨0x09, .fixed 4, 0xffffffff, .ro, 0, 1, .none, false⟩,
  ⟨0x0A, .fixed 8, 0xffffffffffffffff, .ro, 0xffffffffffffffff, 1, .none, false⟩,
  ⟨0x0B, .fixed 2, 0xffff, .rw, 0x18, 1, .none, false⟩,
  ⟨0x0C, .fixed 4, 0xffffffff, .ro, 0, 1, .none, false⟩,
  ⟨0x0D, .cmd, 0, .cmd, 0, 1, .none, false⟩]⟩

/-- Index 0x5810. -/
def group5810 : ObjGroup := ⟨0x5810, 1, 2, [
  ⟨0x01, .fixed 1, 0xff, .rw, 0, 1, .none, false⟩,
  ⟨0x02, .domain 16, 0, .rw, 0, 1, .none, false⟩,
  ⟨0x03, .domain 4096, 0, .rw, 0, 1, .none, false⟩,
  ⟨0x04, .fixed 4, 0xffffffff, .ro, 0, 1, .none, false⟩,
  ⟨0x05, .fixed 8, 0xffffffffffffffff, .ro, 0, 1, .none, false⟩]⟩

/-- Index 0x5820. -/
def group5820 : ObjGroup := ⟨0x5820, 1, 2, [
  ⟨0x01, .fixed 8, 0xffffffffffffffff, .rws, 0, 1, .scan, false⟩,
  ⟨0x02, .fixed 8, 0xffffffffffffffff, .rws, 0x2000000, 1, .scan, false⟩,
  ⟨0x03, .fixed 8, 0xffffffffffffffff, .rws, 0x2c00000, 1, .scan, false⟩,
  ⟨0x04, .fixed 8, 0xffffffffffffffff, .rws, 0x3000000, 1, .scan, false⟩]⟩

/-- Index 0x5830. -/
def group5830 : ObjGroup := ⟨0x5830, 1, 2, [
  ⟨0x01, .cmd, 0, .cmd, 0, 1, .none, false⟩,
  ⟨0x02, .cmd, 0, .cmd, 0, 1, .none, false⟩,
  ⟨0x03, .cmd, 0, .cmd, 0, 1, .none, false⟩,
  ⟨0x04, .cmd, 0, .cmd, 0, 1, .none, false⟩,
  ⟨0x05, .domain 4, 0, .rw, 0, 1, .none, false⟩,
  ⟨0x06, .fixed 2, 0xffff, .rw, 0x64, 1, .none, false⟩,
  ⟨0x07, .fixed 2, 0xffff, .rw, 0x7d0, 1, .none, false⟩]⟩

/-- Index 0x5840. -/
def group5840 : ObjGroup := ⟨0x5840, 64, 2, [
  ⟨0x01, .fixed 4, 0xffffffff, .ro, 0, 1, .none, false⟩,
  ⟨0x02, .fixed 1, 0xff, .ro, 0, 1, .none, false⟩,
  ⟨0x03, .fixed 1, 0xff, .rw, 3, 1, .none, false⟩,
  ⟨0x04, .fixed 1, 0xff, .rw, 0, 1, .none, false⟩,
  ⟨0x05, .fixed 8, 0xffffffffff, .rw, 0, 1, .none, false⟩,
  ⟨0x06, .fixed 1, 0xff, .rw, 8, 1, .none, false⟩,
  ⟨0x07, .fixed 4, 0xffffffff, .rw, 0, 1, .none, false⟩,
  ⟨0x08, .fixed 4, 0xffffffff, .ro, 0, 1, .none, false⟩,
  ⟨0x09, .fixed 4, 0xffffffff, .ro, 0, 1, .none, false⟩,
  ⟨0x0A, .domain 16384, 0, .rw, 0, 1, .none, false⟩,
  ⟨0x0B, .fixed 2, 0xffff, .ro, 0, 1, .none, false⟩,
  ⟨0x0C, .fixed 4, 0xffffffff, .ro, 0, 1, .none, false⟩,
  ⟨0x0D, .fixed 4, 0xffffffff, .ro, 0, 1, .none, false⟩,
  ⟨0x0E, .fixed 4, 0xffffffff, .ro, 0, 1, .none, false⟩,
  ⟨0x0F, .fixed 4, 0xffffffff, .ro, 0, 1, .none, false⟩,
  ⟨0x10, .fixed 1, 0xff, .ro, 0, 1, .none, false⟩,
  ⟨0x11, .fixed 8, 0xffffffffffffffff, .ro, 0, 1, .none, false⟩]⟩

/-- Index 0x6000. -/
def group6000 : ObjGroup := ⟨0x6000, 1, 6, [
  ⟨0x01, .fixed 4, 0xffffffff, .ro, 0, 3, .none, false⟩,
  ⟨0x02, .fixed 1, 0xff, .ro, 0, 3, .none, false⟩,
  ⟨0x03, .fixed 4, 0xffffffff, .ro, 0, 3, .none, false⟩,
  ⟨0x04, .fixed 4, 0xffffffff, .ro, 0, 3, .none, false⟩,
  ⟨0x05, .fixed 4, 0xffffffff, .ro, 0, 3, .none, false⟩,
  ⟨0x06, .fixed 1, 0xff, .ro, 0, 3, .none, true⟩,
  ⟨0x07, .cmd, 0, .cmd, 0, 2, .none, false⟩,
  ⟨0x08, .fixed 10, 0xffffffffffffffffffff, .ro, 0, 3, .none, false⟩,
  ⟨0x09, .fixed 4, 0xffffffff, .ro, 0, 3, .none, false⟩]⟩

/-- Index 0x6010. -/
def group6010 : ObjGroup := ⟨0x6010, 1, 6, [
  ⟨0x01, .fixed 2, 0xffff, .rw, 0x8000, 3, .none, false⟩,
  ⟨0x02, .fixed 1, 0xff, .ro, 0, 3, .none, false⟩,
  ⟨0x03, .bool, 1, .ro, 0, 3, .none, false⟩,
  ⟨0x04, .fixed 4, 0xffffffff, .ro, 0, 3, .none, false⟩,
  ⟨0x05, .fixed 4, 0xffffffff, .ro, 0, 3, .none, false⟩,
  ⟨0x06, .fixed 4, 0xffffffff, .ro, 0, 3, .none, false⟩,
  ⟨0x07, .fixed 4, 0xffffffff, .ro, 0, 3, .none, false⟩,
  ⟨0x08, .fixed 2, 0xffff, .ro, 0, 3, .none, false⟩,
  ⟨0x09, .cmd, 0, .cmd, 0, 3, .none, false⟩,
  ⟨0x0A, .fixed 1, 0xff, .ro, 0, 3, .none, false⟩]⟩

/-- Index 0x6020. -/
def group6020 : ObjGroup := ⟨0x6020, 1, 6, [
  ⟨0x01, .domain 4096, 0, .rw, 0, 3, .none, false⟩,
  ⟨0x02, .domain 6, 0, .rw, 0, 3, .none, false⟩,
  ⟨0x03, .fixed 2, 0xffff, .rw, 0xccd, 3, .none, false⟩,
  ⟨0x04, .fixed 2, 0xffff, .rw, 0x40, 3, .none, false⟩,
  ⟨0x05, .fixed 4, 0xffffffff, .rw, 0, 1, .none, false⟩,
  ⟨0x06, .fixed 2, 0xffff, .rw, 0x3c, 3, .none, false⟩,
  ⟨0x07, .domain 64, 0, .rw, 0, 3, .none, false⟩,
  ⟨0x08, .domain 64, 0, .rw, 0, 3, .none, false⟩,
  ⟨0x09, .fixed 4, 0xffffffff, .rw, 0, 3, .none, false⟩,
  ⟨0x0A, .fixed 2, 0xffff, .ro, 0x8000, 3, .none, false⟩,
  ⟨0x0B, .domain 4096, 0, .ro, 0, 3, .none, false⟩,
  ⟨0x0C, .domain 4096, 0, .ro, 0, 3, .none, false⟩,
  ⟨0x0D, .fixed 4, 0xffffffff, .ro, 0, 3, .none, false⟩,
  ⟨0x0E, .fixed 2, 0xffff, .ro, 0xffff, 3, .none, false⟩,
  ⟨0x0F, .fixed 4, 0xffffffff, .ro, 0, 3, .none, false⟩]⟩

/-- Index 0x6030. -/
def group6030 : ObjGroup := ⟨0x6030, 1, 6, [
  ⟨0x01, .bool, 1, .rw, 1, 3, .none, false⟩,
  ⟨0x02, .fixed 2, 0xffff, .rw, 0x3e8, 3, .none, false⟩,
  ⟨0x03, .fixed 2, 0xffff, .rw, 0x14, 3, .none, false⟩,
  ⟨0x04, .fixed 2, 0xffff, .rw, 0xa0, 3, .none, false⟩,
  ⟨0x05, .fixed 2, 0xffff, .rw, 0xcccd, 3, .none, false⟩,
  ⟨0x06, .fixed 2, 0xffff, .rw, 0xa, 3, .none, false⟩,
  ⟨0x07, .fixed 2, 0xffff, .rw, 0x4000, 3, .none, false⟩,
  ⟨0x08, .fixed 1, 0xff, .rw, 3, 3, .none, false⟩,
  ⟨0x09, .fixed 1, 0xff, .rw, 0x10, 3, .none, false⟩,
  ⟨0x0A, .fixed 1, 0xff, .rw, 8, 3, .none, false⟩,
  ⟨0x0B, .fixed 2, 0xffff, .rw, 0x4000, 3, .none, false⟩,
  ⟨0x0C, .fixed 2, 0xffff, .rw, 0x400, 3, .none, false⟩,
  ⟨0x0D, .domain 256, 0, .ro, 0, 3, .none, false⟩,
  ⟨0x0E, .fixed 4, 0xffffffff, .ro, 0, 3, .none, false⟩,
  ⟨0x0F, .fixed 4, 0xffffffff, .ro, 0, 3, .none, false⟩]⟩

/-- Index 0x6040. -/
def group6040 : ObjGroup := ⟨0x6040, 1, 6, [
  ⟨0x01, .fixed 2, 0xffff, .rw, 0x64, 3, .none, false⟩,
  ⟨0x02, .fixed 4, 0xffffffff, .ro, 0, 3, .none, false⟩,
  ⟨0x03, .fixed 4, 0xffffffff, .ro, 0, 3, .none, false⟩,
  ⟨0x04, .fixed 4, 0xffffffff, .ro, 0, 3, .none, false⟩,
  ⟨0x05, .fixed 10, 0xffffffffffffffffffff, .ro, 0, 3, .none, false⟩,
  ⟨0x06, .fixed 10, 0xffffffffffffffffffff, .ro, 0, 3, .none, false⟩]⟩

/-- Index 0x6800. -/
def group6800 : ObjGroup := ⟨0x6800, 1, 6, [
  ⟨0x01, .domain 12, 0, .ro, 0, 1, .none, false⟩,
  ⟨0x02, .domain 12, 0, .ro, 0, 1, .none, false⟩,
  ⟨0x03, .domain 12, 0, .cmd, 0, 1, .none, false⟩,
  ⟨0x04, .domain 12, 0, .rw, 0, 2, .none, false⟩,
  ⟨0x05, .domain 96, 0, .rw, 0, 2, .none, false⟩,
  ⟨0x06, .fixed 1, 0xff, .rw, 0, 1, .none, false⟩,
  ⟨0x07, .fixed 2, 0xffff, .ro, 0, 1, .none, false⟩,
  ⟨0x08, .fixed 10, 0xffffffffffffffffffff, .ro, 0, 1, .none, false⟩,
  ⟨0x09, .fixed 10, 0xffffffffffffffffffff, .ro, 0, 1, .none, false⟩,
  ⟨0x0A, .bool, 1, .ro, 0, 1, .none, false⟩,
  ⟨0x0B, .cmd, 0, .cmd, 0, 1, .none, false⟩,
  ⟨0x0C, .domain 12, 0, .ro, 0, 1, .none, false⟩,
  ⟨0x0D, .bool, 1, .rw, 1, 2, .none, false⟩]⟩

/-- Index 0x6880. -/
def group6880 : ObjGroup := ⟨0x6880, 1, 8, [
  ⟨0x01, .domain 12, 0, .ro, 0, 1, .none, true⟩,
  ⟨0x02, .fixed 2, 0xffff, .ro, 0, 1, .none, true⟩]⟩

/-- Index 0x7000. -/
def group7000 : ObjGroup := ⟨0x7000, 1, 6, [
  ⟨0x01, .fixed 1, 0xff, .rw, 0, 1, .none, false⟩,
  ⟨0x02, .fixed 1, 0xff, .ro, 0, 1, .none, false⟩,
  ⟨0x03, .fixed 1, 0xff, .ro, 0, 1, .none, false⟩,
  ⟨0x04, .fixed 4, 0xffffffff, .ro, 0, 1, .none, false⟩,
  ⟨0x05, .fixed 4, 0xffffffff, .ro, 0, 1, .none, false⟩,
  ⟨0x06, .fixed 1, 0xff, .rw, 0, 1, .none, false⟩,
  ⟨0x07, .fixed 2, 0xffff, .ro, 0x352, 1, .none, false⟩,
  ⟨0x08, .domain 8, 0, .ro, 0, 1, .none, false⟩]⟩

/-- Index 0x7010. -/
def group7010 : ObjGroup := ⟨0x7010, 1, 6, [
  ⟨0x01, .fixed 1, 0xff, .cmd, 0, 1, .none, false⟩,
  ⟨0x02, .fixed 1, 0xff, .ro, 0, 1, .none, false⟩,
  ⟨0x03, .fixed 8, 0xffffffffff, .rw, 0x6000000, 1, .none, false⟩,
  ⟨0x04, .fixed 1, 0xff, .ro, 0, 1, .none, false⟩,
  ⟨0x05, .fixed 1, 1, .rw, 1, 1, .none, false⟩]⟩

/-- Index 0x7020. -/
def group7020 : ObjGroup := ⟨0x7020, 1, 8, [
  ⟨0x01, .fixed 2, 0x1fe, .rw, 0x1de, 1, .none, true⟩,
  ⟨0x02, .fixed 4, 0xffffffff, .rw, 0, 1, .none, true⟩,
  ⟨0x03, .fixed 1, 0xff, .ro, 0, 1, .none, true⟩,
  ⟨0x04, .fixed 2, 0xffff, .ro, 0, 1, .none, true⟩,
  ⟨0x05, .fixed 1, 0xff, .ro, 0, 1, .none, true⟩,
  ⟨0x06, .fixed 8, 0xffffffffffffffff, .ro, 0, 1, .none, true⟩,
  ⟨0x07, .domain 16, 0, .ro, 0, 1, .none, true⟩,
  ⟨0x08, .bool, 1, .ro, 0, 1, .none, true⟩,
  ⟨0x09, .fixed 2, 0xffff, .ro, 0, 1, .none, true⟩,
  ⟨0x0A, .fixed 4, 0xffffffff, .ro, 0, 1, .none, true⟩]⟩

/-- Index 0x7030. -/
def group7030 : ObjGroup := ⟨0x7030, 1, 6, [
  ⟨0x01, .fixed 4, 0xffffffff, .ro, 0, 1, .none, false⟩,
  ⟨0x02, .domain 128, 0, .ro, 0, 1, .none, false⟩,
  ⟨0x03, .domain 48, 0, .rw, 0, 1, .none, false⟩,
  ⟨0x04, .fixed 2, 0xffff, .ro, 0, 1, .none, false⟩]⟩

/-- Index 0x7040. -/
def group7040 : ObjGroup := ⟨0x7040, 1, 6, [
  ⟨0x01, .fixed 2, 0xffff, .ro, 0, 1, .none, false⟩,
  ⟨0x02, .bool, 1, .ro, 0, 1, .none, false⟩,
  ⟨0x03, .fixed 2, 0xffff, .ro, 0x8000, 1, .none, false⟩,
  ⟨0x04, .fixed 1, 0xff, .ro, 0, 1, .none, true⟩,
  ⟨0x05, .cmd, 0, .cmd, 0, 2, .none, false⟩,
  ⟨0x06, .fixed 2, 0xffff, .ro, 0, 1, .none, true⟩,
  ⟨0x07, .fixed 1, 0xff, .ro, 0, 1, .none, true⟩,
  ⟨0x08, .fixed 2, 0xffff, .ro, 0, 1, .none, true⟩,
  ⟨0x09, .fixed 10, 0xffffffffffffffffffff, .ro, 0, 1, .none, true⟩,
  ⟨0x0A, .fixed 4, 0xffffffff, .ro, 0, 1, .none, false⟩,
  ⟨0x0B, .fixed 1, 0xff, .ro, 0, 1, .none, false⟩]⟩

/-- Index 0x7050. -/
def group7050 : ObjGroup := ⟨0x7050, 1, 8, [
  ⟨0x01, .fixed 2, 0xffff, .ro, 0, 1, .none, true⟩,
  ⟨0x02, .fixed 2, 0xffff, .rw, 0xa, 1, .none, true⟩,
  ⟨0x03, .fixed 2, 0xffff, .rw, 0x800, 1, .none, true⟩,
  ⟨0x04, .fixed 2, 0xffff, .rw, 0x32, 1, .none, true⟩,
  ⟨0x05, .fixed 2, 0xffff, .ro, 0, 1, .none, true⟩,
  ⟨0x06, .domain 8, 0, .ro, 0, 1, .none, true⟩,
  ⟨0x07, .domain 8, 0, .ro, 0, 1, .none, true⟩]⟩

/-- Every group of objects, by rising index. -/
def objGroups : List ObjGroup :=
  [group1000, group1100, group1110, group1120, group1130, group1200, group2000, group2010, group2020, group2100, group2110, group2120, group2200, group3000, group3010, group3020, group3030, group3040, group3050, group3060, group3070, group3400, group3410] ++
  [group3440, group3480, group3500, group3600, group3800, group3810, group3820, group3830, group3A00, group3A08, group3A10, group3A20, group3A30, group3A40, group4000, group4010, group4020, group4100, group4200, group4800, group4810, group4820, group4840, group4880, group5000, group5010, group5020, group5030, group5200, group5210, group5220, group5230, group5240, group5800, group5810, group5820, group5830, group5840, group6000, group6010, group6020, group6030, group6040, group6800, group6880, group7000, group7010, group7020, group7030, group7040, group7050]

/-- The group that holds an index. -/
def groupOf (index : Nat) : Option ObjGroup :=
  objGroups.find? fun g => decide (g.first ≤ index) && decide (index < g.first + g.count)

/-- The row of an object; none when it does not exist (R11). -/
def rowOf (obj : Nat) : Option ObjRow :=
  (groupOf (obj / 256)).bind fun g => g.rows.find? fun r => r.sub == obj % 256

/-- The island that holds an object (02 R37). -/
def islandOf (obj : Nat) : Nat := ((groupOf (obj / 256)).map (·.island)).getD 6

/-- An AON object keeps its value through RESET_N and sleep (R12). -/
def isAon (obj : Nat) : Bool := ((rowOf obj).map (·.aon)).getD false

end Sys2Proof.Machine
end

