-- ==== Sys2Proof/Machine/Defaults.lean ====
section
/-! DEFINITION. The bytes that every DOMAIN object holds after a reset (00 R12), where they are not all zero: the
default column of the object tables of the chapters named at each entry. -/

namespace Sys2Proof.Machine

/-- First half of the raised cosine of 04 R116: T[0] to T[128]; T[256 − i] = T[i]. -/
def envelopeHalf : List Nat :=
  [0, 10, 39, 89, 158, 246, 355, 482, 630, 796, 982, 1187, 1411, 1654, 1915, 2196] ++
  [2494, 2811, 3146, 3499, 3869, 4257, 4662, 5084, 5522, 5977, 6448, 6935, 7438, 7956, 8488, 9036] ++
  [9597, 10173, 10762, 11365, 11980, 12608, 13248, 13900, 14563, 15237, 15922, 16616, 17321, 18035, 18758, 19489] ++
  [20228, 20975, 21728, 22489, 23256, 24028, 24806, 25588, 26375, 27166, 27960, 28756, 29556, 30357, 31160, 31963] ++
  [32768, 33572, 34375, 35178, 35979, 36779, 37575, 38369, 39160, 39947, 40729, 41507, 42279, 43046, 43807, 44560] ++
  [45307, 46046, 46777, 47500, 48214, 48919, 49613, 50298, 50972, 51635, 52287, 52927, 53555, 54170, 54773, 55362] ++
  [55938, 56499, 57047, 57579, 58097, 58600, 59087, 59558, 60013, 60451, 60873, 61278, 61666, 62036, 62389, 62724] ++
  [63041, 63339, 63620, 63881, 64124, 64348, 64553, 64739, 64905, 65053, 65180, 65289, 65377, 65446, 65496, 65525] ++
  [65535]

/-- Entry i of the default SAILn_ENVELOPE (04 R116). -/
def envelopeDefault (i : Nat) : Nat := natAt envelopeHalf (if i ≤ 128 then i else 256 - i)

/-- Default reactions of FS00 to FS95 (13 R332 Table 1): 0 RECORD, 1 EVENT, 2 ALARM, 3 BLANK. -/
def reactionDefaults : List Nat :=
  [1, 1, 1, 1, 1, 1, 1, 1, 1, 3, 1, 1, 1, 1, 2, 1, 2, 2, 2, 1, 1, 0, 0, 0] ++
  [0, 1, 1, 1, 0, 1, 1, 0, 2, 0, 2, 0, 0, 1, 0, 0, 0, 2, 1, 0, 0, 0, 0, 0] ++
  [2, 2, 2, 2, 2, 1, 0, 0, 1, 1, 0, 0, 1, 1, 1, 1, 1, 1, 0, 0, 2, 1, 1, 0] ++
  [0, 0, 2, 2, 2, 3, 2, 2, 3, 3, 3, 0, 1, 1, 0, 2, 2, 2, 2, 1, 1, 0, 0, 2]

/-- Floor of the reaction of a source (13 R330 to R332, 12 R320). -/
def reactionFloor (n : Nat) : Nat :=
  if n = 9 || n = 77 || n = 80 || n = 81 || n = 82 then 3
  else if n = 16 || n = 74 || n = 75 || n = 76 || n = 78 || n = 79 then 2
  else 0

/-- Default supply windows, channels 2 to 13, low then high in mV (14 R346 Table 4, R362). -/
def windowDefaults : List Nat :=
  [30, 50, 760, 840, 760, 840, 855, 945, 855, 945, 1140, 1260, 1710, 1890, 1710, 1890, 1710, 1890, 1710, 1890,
   475, 525, 998, 1102]

/-- Default concealment weights, sets 0 to 3 (06 R176). -/
def weightDefaults : List Nat :=
  [0, 0x2000, 0, 0x2000, 0x2000, 0, 0x2000, 0] ++ [0x1000, 0x1000, 0x1000, 0x1000, 0x1000, 0x1000, 0x1000, 0x1000] ++
  [0, 0, 0, 0x4000, 0x4000, 0, 0, 0] ++ [0, 0x4000, 0, 0, 0, 0, 0x4000, 0]

/-- Byte `o` of a table of 16-bit entries. -/
def byteOf16 (f : Nat → Nat) (o : Nat) : Byte := BitVec.ofNat 8 (f (o / 2) / 256 ^ (o % 2))

/-- Byte `o` of a table of 32-bit entries. -/
def byteOf32 (f : Nat → Nat) (o : Nat) : Byte := BitVec.ofNat 8 (f (o / 4) / 256 ^ (o % 4))

/-- Byte `o` of the default region table (11 R273). -/
def regionDefault (o : Nat) : Byte :=
  BitVec.ofNat 8 (natAt
    [0, 0, 0, 0xF0, 0xFF, 0xFF, 0, 0, 0, 0x0D, 0, 0, 0, 0, 0, 0, 0xF0, 0xFF, 0xFF, 0x10, 0, 0, 0, 0, 0, 0x0F] o)

/-- Default of byte `o` of the DOMAIN object `obj`. -/
def domByte (obj o : Nat) : Byte :=
  if obj = Obj.X_MAP then byteOf16 (fun x => if x < 1024 then 0x40 + x else 0) o
  else if obj / 65536 = 0x30 && obj / 4096 = 0x301 then
    (if obj % 256 = 9 || obj % 256 = 0x0A then byteOf16 (fun e => if e % 4 = 0 then 0x4000 else 0) o else 0#8)
  else if obj = Obj.THERMAL_TABLE then byteOf16 (fun e => if e % 9 % 4 = 0 then 0x4000 else 0) o
  else if obj = Obj.AGE_TABLE then byteOf16 (fun _ => 0x8000) o
  else if Obj.GREY_HIGH_RED ≤ obj && obj ≤ Obj.GREY_LOW_BLUE then byteOf32 (fun i => 256 * i) o
  else if obj = Obj.DITHER_MASK then Config.ditherMask o
  else if obj = Obj.DITHER_OFFSETS then BitVec.ofNat 8 (natAt [0, 0, 32, 21, 11, 43] o)
  else if obj / 65536 = 0x35 && obj % 256 = 6 then byteOf32 (fun _ => 0x10000) o
  else if obj / 65536 = 0x35 && obj % 256 = 0x0B then byteOf16 envelopeDefault o
  else if obj = Obj.CHANNEL_CURRENT then byteOf16 (fun _ => 10000) o
  else if obj = Obj.CONCEAL_WEIGHTS then byteOf16 (natAt weightDefaults) o
  else if obj = Obj.VF_DRIVE_OFFSET then byteOf16 (natAt [200, 300, 300]) o
  else if obj = Obj.SLOT_TABLE then BitVec.ofNat 8 (o / 2 / 3)
  else if obj / 65536 = 0x41 && obj % 256 = 0x12 then byteOf16 (natAt [4000, 8000, 12000]) o
  else if obj / 65536 = 0x41 && obj % 256 = 0x15 then
    byteOf32 (fun i => if i % 2 = 0 then 0xFF800000 else 0x007FFFFF) o
  else if obj = Obj.ADC_TRIMS then byteOf16 (fun e => if e % 2 = 0 then 0 else 0x8000) o
  else if obj = Obj.REGION_TABLE then regionDefault o
  else if obj = Obj.CLASS_SLOTS then BitVec.ofNat 8 (natAt [64, 48, 32, 16] o)
  else if obj = Obj.GLARE_MAP then 0xFF#8
  else if obj = Obj.PHOTO_WEIGHTS then byteOf16 (natAt [0x366D, 0xB717, 0x127C]) o
  else if obj = Obj.AMBIENT_TABLE then byteOf32 (fun e => if e % 2 = 0 then 0 else 0x8000) o
  else if obj = Obj.TOD_TABLE then
    byteOf32 (fun e => if e % 2 = 1 then 0x8000 else if e = 0 then 0 else 0xFFFFFFFF) o
  else if obj = Obj.GLARE_GAINS then byteOf16 (fun _ => 0x8000) o
  else if obj = Obj.FAULT_REACTION then BitVec.ofNat 8 (natAt reactionDefaults o)
  else if obj = Obj.LEVEL_VOLTAGES then byteOf16 (natAt [800, 720, 650, 600]) o
  else if obj = Obj.SUPPLY_WINDOWS then byteOf16 (natAt windowDefaults) o
  else if obj = Obj.RO_BASELINES || obj = Obj.RO_FACTORY_BASELINES then byteOf16 Config.factoryBaseline o
  else if obj = Obj.PART_NAME then BitVec.ofNat 8 (natAt [0x4B, 0x52, 0x47, 0x31, 0x4D, 0x34] o)
  else 0#8

/-- Default of the byte at a key of `State.tabs` or of an overlay: object × 131 072 + offset. -/
def domDefault (k : Nat) : Byte := domByte (k / 131072) (k % 131072)

end Sys2Proof.Machine
end

