-- ==== Sys2Proof/Machine/Codeword.lean ====
section
/-! DEFINITION. The line code of a Rovan port (chapter 09): 257-bit blocks, RS(544,514) codewords, PAM4 symbols with Gray
mapping and precoding, the PRBS patterns and training frames. -/

namespace Sys2Proof.Machine

/-! ### Blocks and messages (R228) -/

/-- A 257-bit block: its type bit, 1 for a header, and 32 payload bytes. -/
structure Block where
  head : Bool := true
  bytes : Bytes := List.replicate 32 0#8
  deriving DecidableEq, Repr

/-- The bits of a byte, least significant first. -/
def byteBits (b : Byte) : List Bool := (List.range 8).map b.getLsbD

/-- Bits as a number, least significant first. -/
def bitsNat : List Bool → Nat
  | [] => 0
  | b :: bs => b2n b + 2 * bitsNat bs

/-- The 257 bits of a block: type bit, then the payload bytes. -/
def blockBits (b : Block) : List Bool := b.head :: b.bytes.flatMap byteBits

/-- A block of 257 bits. -/
def blockOf (bits : List Bool) : Block :=
  { head := bits.headD false
    bytes := (List.range 32).map fun i => BitVec.ofNat 8 (bitsNat ((bits.drop (1 + 8 * i)).take 8)) }

/-- The first `n` groups of `w` elements of a list. -/
def groupsOf {α : Type} (w : Nat) : Nat → List α → List (List α)
  | 0, _ => []
  | n + 1, l => l.take w :: groupsOf w n (l.drop w)

/-- The 514 message symbols of 20 blocks. -/
def messageOf (blocks : List Block) : List Nat := (groupsOf 10 514 (blocks.flatMap blockBits)).map bitsNat

/-- The 10 bits of a symbol, least significant first. -/
def symbolBits (s : Nat) : List Bool := (List.range 10).map (bitAt s)

/-- The 20 blocks of a message. -/
def blocksOf (message : List Nat) : List Block := (groupsOf 257 20 (message.flatMap symbolBits)).map blockOf

/-! ### GF(2^10) and RS(544,514) (R227, R228; assumption log 164) -/

/-- A field element times the primitive element, a root of x^10 + x^3 + 1. -/
def gfDouble (a : Nat) : Nat := if 512 ≤ a then Nat.xor (2 * a) 0x409 else 2 * a

/-- The product of two field elements, from `k` bits of the second. -/
def gfMulBits : Nat → Nat → Nat → Nat
  | 0, _, _ => 0
  | k + 1, a, b => Nat.xor (if b % 2 = 1 then a else 0) (gfMulBits k (gfDouble a) (b / 2))

/-- The product of two field elements. -/
def gfMul (a b : Nat) : Nat := gfMulBits 10 a b

/-- The primitive element to the power `n`. -/
def gfPow : Nat → Nat
  | 0 => 1
  | n + 1 => gfDouble (gfPow n)

/-- The square of a field element, `n` times. -/
def gfSquares : Nat → Nat → Nat
  | 0, a => a
  | n + 1, a => gfSquares n (gfMul a a)

/-- The inverse of a field element: its power 2^10 − 2 = 2 + 4 + … + 512. -/
def gfInv (a : Nat) : Nat := (List.range 9).foldl (fun p i => gfMul p (gfSquares (i + 1) a)) 1

/-- A polynomial, constant term first, at a point. -/
def polyAt (p : List Nat) (x : Nat) : Nat := p.foldr (fun c acc => Nat.xor c (gfMul x acc)) 0

/-- A polynomial times x + root, constant term first. -/
def timesRoot (p : List Nat) (root : Nat) : List Nat :=
  List.zipWith Nat.xor (0 :: p) (p.map (gfMul root) ++ [0])

/-- The generator polynomial: roots are the primitive element to the powers 0 to 29; constant term first. -/
def generator : List Nat := (List.range 30).foldl (fun p i => timesRoot p (gfPow i)) [1]

/-- One message symbol enters the encoder; its 30 symbols, the highest first. -/
def parityStep (state : List Nat) (m : Nat) : List Nat :=
  let f := Nat.xor m (state.headD 0)
  if f = 0 then state.drop 1 ++ [0]
  else List.zipWith (fun r g => Nat.xor r (gfMul f g)) (state.drop 1 ++ [0]) (generator.reverse.drop 1)

/-- The 30 parity symbols of a message, in the order in which they follow it. -/
def parityOf (message : List Nat) : List Nat := message.foldl parityStep (List.replicate 30 0)

/-- The codeword of a message (R228 step 4). -/
def encodeRS (message : List Nat) : List Nat := message ++ parityOf message

/-- The 30 syndromes of a received word. -/
def syndromes (word : List Nat) : List Nat :=
  (List.range 30).map fun j => word.foldl (fun acc r => Nat.xor (gfMul (gfPow j) acc) r) 0

/-- The error locator in formation: locator, the last one before its length changed, length, shift and discrepancy. -/
structure Locator where
  now : List Nat := [1]
  old : List Nat := [1]
  len : Nat := 0
  shift : Nat := 1
  last : Nat := 1

/-- The sum of two polynomials. -/
def polyAdd : List Nat → List Nat → List Nat
  | [], q => q
  | p, [] => p
  | a :: p, b :: q => Nat.xor a b :: polyAdd p q

/-- One step of the Berlekamp–Massey algorithm. -/
def Locator.next (syn : List Nat) (x : Locator) (n : Nat) : Locator :=
  let d := (List.range (x.len + 1)).foldl (fun a i => Nat.xor a (gfMul (natAt x.now i) (natAt syn (n - i)))) 0
  if d = 0 then { x with shift := x.shift + 1 }
  else
    let c := polyAdd x.now (List.replicate x.shift 0 ++ x.old.map (gfMul (gfMul d (gfInv x.last))))
    if 2 * x.len ≤ n then { now := c, old := x.now, len := n + 1 - x.len, shift := 1, last := d }
    else { x with now := c, shift := x.shift + 1 }

/-- The word with the errors that a locator names taken out: each root is a position, its value by Forney's formula. -/
def repaired (word syn locator : List Nat) : List Nat × Nat :=
  let omega := (List.range 30).map fun k =>
    (List.range (k + 1)).foldl (fun a i => Nat.xor a (gfMul (natAt locator i) (natAt syn (k - i)))) 0
  let slope := (locator.zip (List.range locator.length)).map fun e => if e.2 % 2 = 1 then e.1 else 0
  let fix (r position : Nat) : Nat × Nat :=
    let x := gfPow (543 - position)
    let inv := gfInv x
    if polyAt locator inv = 0 then
      -- x · Ω(1/x) / Λ'(1/x), with Λ'(z) = slope(z) / z
      (Nat.xor r (gfMul (polyAt omega inv) (gfInv (polyAt slope inv))), 1)
    else (r, 0)
  let all := (word.zip (List.range word.length)).map fun e => fix e.1 e.2
  (all.map (·.1), (all.map (·.2)).sum)

/-- A received word of 544 symbols: the symbols corrected and the message, or none when it is uncorrectable, which is
when no codeword lies within 15 symbols. -/
def decodeRS (word : List Nat) : Option (Nat × List Nat) :=
  if parityOf (word.take 514) = word.drop 514 then some (0, word.take 514)
  else
    let syn := syndromes word
    let l := (List.range 30).foldl (Locator.next syn) {}
    let r := repaired word syn l.now
    if l.len ≤ 15 && r.2 == l.len && parityOf (r.1.take 514) == r.1.drop 514 then some (l.len, r.1.take 514) else none

/-! ### Symbols of a lane (R228, R229) -/

/-- The Gray code of a bit pair 2A + B; it is its own inverse. -/
def gray (pair : Nat) : Nat := Nat.xor pair (pair / 2)

/-- The five PAM4 symbols of a 10-bit symbol, before precoding. -/
def pam4Of (s : Nat) : List Nat := (List.range 5).map fun q => gray (field s (2 * q) 2)

/-- The 10-bit symbol of five PAM4 symbols. -/
def symbolOf (gs : List Nat) : Nat := gs.foldr (fun g acc => gray g + 4 * acc) 0

/-- The levels sent for symbols after the level `p` (R229). -/
def precode : Nat → List Nat → List Nat
  | _, [] => []
  | p, g :: gs => (g + 4 - p) % 4 :: precode ((g + 4 - p) % 4) gs

/-- The symbols that levels carry after the level `p` (R229). -/
def unprecode : Nat → List Nat → List Nat
  | _, [] => []
  | p, l :: ls => (l + p) % 4 :: unprecode l ls

/-- The symbols of a codeword that go to logical lane `l` (R228 step 5). -/
def laneSymbols (l : Nat) (codeword : List Nat) : List Nat :=
  ((codeword.zip (List.range codeword.length)).filter fun e => e.2 % 2 == l).map (·.1)

/-- A codeword as the 1 360 levels of a lane, after the level `p`. -/
def laneLevels (l p : Nat) (codeword : List Nat) : List Nat := precode p ((laneSymbols l codeword).flatMap pam4Of)

/-- Two lists taken in turn. -/
def inTurns : List Nat → List Nat → List Nat
  | a :: as, b :: bs => a :: b :: inTurns as bs
  | as, [] => as
  | [], bs => bs

/-- The codeword of 20 blocks as the levels of both lanes, after the levels `p0` and `p1`. -/
def sendLevels (blocks : List Block) (p0 p1 : Nat) : List Nat × List Nat :=
  let c := encodeRS (messageOf blocks)
  (laneLevels 0 p0 c, laneLevels 1 p1 c)

/-- The 272 symbols that the levels of a lane carry. -/
def levelSymbols (p : Nat) (levels : List Nat) : List Nat := (groupsOf 5 272 (unprecode p levels)).map symbolOf

/-- A lane inverted at the receiver (R235). -/
def upright (inverted : Bool) (levels : List Nat) : List Nat := if inverted then levels.map (3 - ·) else levels

/-- A received block, and whether the decoder marked it in error (R239). -/
structure RxBlock where
  block : Block := {}
  bad : Bool := false
  deriving DecidableEq, Repr

/-- The codeword that the levels of the two logical lanes carry: the symbols corrected, none when it is uncorrectable,
and its blocks, as they were received and marked in error in that case. -/
def readLevels (lane0 lane1 : List Nat) (p0 p1 : Nat) : Option Nat × List RxBlock :=
  let word := inTurns (levelSymbols p0 lane0) (levelSymbols p1 lane1)
  match decodeRS word with
  | some (n, message) => (some n, (blocksOf message).map fun b => { block := b })
  | none => (none, (blocksOf (word.take 514)).map fun b => { block := b, bad := true })

/-! ### Alignment codewords (R230) -/

/-- Block 0 of an alignment codeword. -/
def alignmentPayload (port count serial : Nat) : Bytes :=
  [0x5A#8, 0x3C#8, 0xE1#8, 0x96#8, 0xA5#8, 0xC3#8, 0x1E#8, 0x69#8] ++ natLE 1 port ++ natLE 1 count ++ natLE 4 serial ++
    natLE 18 0

/-- The blocks of an alignment codeword. -/
def alignmentBlocks (port count serial : Nat) : List Block :=
  { head := true, bytes := alignmentPayload port count serial } :: List.replicate 19 {}

/-! ### Test patterns and training frames (R227, R231; assumption log 165) -/

/-- The next bit of PRBS13, x^13 + x^12 + x^2 + x + 1, and the register after it. -/
def prbs13 (r : Nat) : Bool × Nat :=
  let b := Bool.xor (Bool.xor (bitAt r 0) (bitAt r 1)) (Bool.xor (bitAt r 11) (bitAt r 12))
  (b, (2 * r + b2n b) % 8192)

/-- The next bit of PRBS31, x^31 + x^28 + 1, and the register after it. -/
def prbs31 (r : Nat) : Bool × Nat :=
  let b := Bool.xor (bitAt r 27) (bitAt r 30)
  (b, (2 * r + b2n b) % 2147483648)

/-- The next `n` symbols of the PAM4 pattern of a generator: the Gray code of its bits in pairs. -/
def patternOf (next : Nat → Bool × Nat) : Nat → Nat → List Nat × Nat
  | 0, r => ([], r)
  | n + 1, r =>
    let a := next r
    let b := next a.2
    let rest := patternOf next n b.2
    (gray (2 * b2n a.1 + b2n b.1) :: rest.1, rest.2)

/-- The marker of a training frame. -/
def markerLevels : List Nat := List.replicate 16 3 ++ List.replicate 8 0 ++ List.replicate 8 3

/-- The polarity in which a lane shows the marker: inverted or not, none when it shows none. -/
def markerPolarity (levels : List Nat) : Option Bool :=
  if levels = markerLevels then some false
  else if levels = markerLevels.map (3 - ·) then some true
  else none

/-- A training frame: marker, control word and body. -/
def trainingFrame (word : Nat) (body : List Nat) : List Nat :=
  markerLevels ++ (List.range 64).map (fun k => if bitAt word k then 3 else 0) ++ body

/-- Bits [55:0] of a control word with its CRC (R232). -/
def controlWord (bits : Nat) : Nat := bits % 2 ^ 56 + crc8 (natLE 7 bits) * 2 ^ 56

end Sys2Proof.Machine
end

