-- ==== Sys2Proof/Machine/Loops.lean ====
section
/-! DEFINITION. The arithmetic of the control engine on numbers (chapter 07): sense conversion, one loop stage, its
preset, feedforward, scheduling and the PWM on-time. Signals are Q2.22 integers; states carry 44 fraction bits. -/

namespace Sys2Proof.Machine

/-- Coefficients of one section, Q2.22: b0, b1, b2, a1, a2 (07 R185 Table 2). -/
structure SectionCoef where
  b0 : Int
  b1 : Int
  b2 : Int
  a1 : Int
  a2 : Int
  deriving DecidableEq, Repr

/-- Coefficients of a stage: KI, the sections used, SHIFT (07 R185, R186). -/
structure StageCoef where
  ki : Int
  sections : List SectionCoef
  shift : Int
  deriving DecidableEq, Repr

/-- State of a stage: integrator x, (s1, s2) of each section, with 44 fraction bits, and sat of the last sample (07 R184). -/
structure StageState where
  x : Int := 0
  s : List (Int × Int) := [(0, 0), (0, 0), (0, 0), (0, 0)]
  sat : Int := 0
  deriving DecidableEq, Repr

/-- State values saturate at ±32 (07 R184). -/
def sat32 (v : Int) : Int := clampI (-(32 * 2 ^ 44)) (32 * 2 ^ 44) v

/-- round22: 44 to 22 fraction bits, half up (07 R184). -/
def round22 (v : Int) : Int := rsh v 22

/-- sat2: the Q2.22 range (07 R184). -/
def sat2 (v : Int) : Int := clampI (-(2 ^ 23)) (2 ^ 23 - 1) v

/-- One section in transposed direct form II: output and new states (07 R184). A product with y has 66 fraction bits and
is rounded half up to the 44 that states carry (assumption log 23). -/
def sectionStep (c : SectionCoef) (s : Int × Int) (w : Int) : Int × (Int × Int) :=
  let y := c.b0 * w + s.1
  (sat2 (round22 y),
    (sat32 (c.b1 * w - rsh (c.a1 * y) 22 + s.2), sat32 (c.b2 * w - rsh (c.a2 * y) 22)))

/-- The sections in order: output and their new states; sections not used keep their states. -/
def sectionsStep : List SectionCoef → List (Int × Int) → Int → Int × List (Int × Int)
  | [], ss, w => (w, ss)
  | _ :: _, [], w => (w, [])
  | c :: cs, s :: ss, w =>
    let r := sectionStep c s w
    let q := sectionsStep cs ss r.1
    (q.1, r.2 :: q.2)

/-- u := w × 2^SHIFT, rounded half up for a negative shift (07 R184). -/
def shiftGain (w shift : Int) : Int := if 0 ≤ shift then w * 2 ^ shift.toNat else rsh w (-shift).toNat

/-- skip_integration (07 R190). -/
def skipIntegration (clampOnly : Bool) (sat e : Int) : Bool :=
  !clampOnly && ((decide (sat = 1) && decide (0 < e)) || (decide (sat = -1) && decide (e < 0)))

/-- One sample of a stage (07 R184): the output, limited, and the new state. Limits are Q2.22. -/
def stageStep (c : StageCoef) (st : StageState) (clampOnly : Bool) (intMin intMax outMin outMax e : Int) :
    Int × StageState :=
  let x0 := if skipIntegration clampOnly st.sat e then st.x else st.x + c.ki * e
  let x := sat32 (clampI (intMin * 2 ^ 22) (intMax * 2 ^ 22) x0)
  let r := sectionsStep c.sections st.s (round22 x)
  let u := shiftGain r.1 c.shift
  (clampI outMin outMax u, { x := x, s := r.2, sat := if outMax < u then 1 else if u < outMin then -1 else 0 })

/-- dc gain of a section (07 R192). -/
def sectionDc (c : SectionCoef) : Rat :=
  let den : Rat := 1 + (c.a1 + c.a2 : Int) / (2 ^ 22 : Nat)
  if -1 / (2 ^ 22 : Nat) < den ∧ den < 1 / (2 ^ 22 : Nat) then 0
  else ((c.b0 + c.b1 + c.b2 : Int) / (2 ^ 22 : Nat)) / den

/-- A rational as a state value with 44 fraction bits, rounded half up and saturated (07 R184, R192). -/
def toState (q : Rat) : Int := sat32 (roundRat (q * (2 ^ 44 : Nat)))

/-- Section states in their steady state for a constant input (07 R192). -/
def presetSections : List SectionCoef → List (Int × Int) → Rat → List (Int × Int)
  | [], ss, _ => ss
  | _ :: _, [], _ => []
  | c :: cs, _ :: ss, w =>
    let y := sectionDc c * w
    (toState (y - (c.b0 : Rat) / (2 ^ 22 : Nat) * w),
      toState ((c.b2 : Rat) / (2 ^ 22 : Nat) * w - (c.a2 : Rat) / (2 ^ 22 : Nat) * y)) :: presetSections cs ss y

/-- 2^SHIFT as a rational. -/
def shiftRat (shift : Int) : Rat := if 0 ≤ shift then ((2 ^ shift.toNat : Nat) : Rat) else 1 / ((2 ^ (-shift).toNat : Nat) : Rat)

/-- preset(stage, u) of 07 R192, u in Q2.22: the stage outputs u. -/
def stagePreset (c : StageCoef) (st : StageState) (intMin intMax u : Int) : StageState :=
  let g := c.sections.foldl (fun g k => g * sectionDc k) (shiftRat c.shift)
  let u' : Rat := (u : Rat) / (2 ^ 22 : Nat)
  let x0 : Rat := if -1 / (2 ^ 16 : Nat) < g ∧ g < 1 / (2 ^ 16 : Nat) then 0 else u' / g
  let x : Rat := min (max x0 ((intMin : Rat) / (2 ^ 22 : Nat))) ((intMax : Rat) / (2 ^ 22 : Nat))
  { x := toState x, s := presetSections c.sections st.s x, sat := 0 }

/-- The corrected sense code c16 (07 R179). -/
def senseCode (raw : Nat) (offset : Int) (gain : Nat) : Nat :=
  (clampI 0 65535 (rsh ((16 * raw - offset) * gain) 15)).toNat

/-- Voltage and current of a corrected code, Q2.22 (07 R179). -/
def senseVoltage (c16 : Nat) : Int := c16 * 64
def senseCurrent (c16 : Nat) : Int := ((c16 : Int) - 32768) * 128

/-- A quantity as Q2.22 of a base, rounded half up. -/
def perBase (v : Int) (base : Nat) : Int := roundDiv (v * 2 ^ 22) (max base 1)

/-- A Q2.22 value of a base in units, rounded half up. -/
def ofBase (q : Int) (base : Nat) : Int := rsh (q * base) 22

/-- A U0.16 duty as Q2.22. -/
def dutyQ (d : Nat) : Int := d * 64

/-- On-time in units of 78.125 ps: round(d × P), then the dither of 07 R178. -/
def onTime (d : Int) (period : Nat) (even : Bool) : Nat :=
  let t := (clampI 0 period (rsh (d * period) 22)).toNat
  if t = 0 then 0 else if even then min (t + 1) period else t - 1

/-- Feedforward term of one band in Q2.22 of I_FS, exact (07 R188): FF_GAIN (U1.15) × S × I_ch (µA) × 4 ns /
(16 × T_st), the stroke time in ps and I_FS in mA. -/
def ffTerm (gain s current iFs : Nat) (strokePs : Rat) : Rat :=
  if strokePs = 0 then 0
  else ((gain * s * current * 4000 * 2 ^ 22 : Nat) : Rat) / (((2 ^ 15 * 16 * 1000 * max iFs 1 : Nat) : Rat) * strokePs)

/-- The set index after one fast sample (07 R189); thresholds and hysteresis in Q2.22 of I_FS. -/
def nextSet (k : Nat) (iF : Int) (t : Nat → Int) (h : Int) : Nat :=
  if k < 3 ∧ t k < iF then k + 1 else if 0 < k ∧ iF < t (k - 1) - h then k - 1 else k

/-- The filtered current after one fast sample (07 R189), states with 44 fraction bits as other sums: the difference is
shifted with floor. -/
def filterCurrent (iF i : Int) : Int := iF + (i - iF) / 64

end Sys2Proof.Machine
end

