-- ==== Sys2Proof/Machine/Curves.lean ====
section
/-! DEFINITION. The transfer functions of 03 R64, PQ and HLG, in fixed point with 80 fraction bits. PRESUMED: the
constants are those of SMPTE ST 2084 and ITU-R BT.2100 (assumption log 11). -/

namespace Sys2Proof.Machine

/-- 1 in fixed point with 80 fraction bits. -/
abbrev fixOne : Int := ((2 ^ 80 : Nat) : Int)

/-- `n` terms of the series of atanh at `z`: `pow` is z^(2k + 1). -/
def atanhSeries (z2 : Int) : Nat → Nat → Int → Int → Int
  | 0, _, _, acc => acc
  | n + 1, k, pow, acc => atanhSeries z2 n (k + 1) (pow * z2 / fixOne) (acc + pow / ((2 * k + 1 : Nat) : Int))

/-- atanh of a value of at most 1/3. -/
def atanhFix (z : Int) : Int := atanhSeries (z * z / fixOne) 30 0 z 0

/-- ln 2 = 2 atanh(1/3). -/
def ln2Fix : Int := 2 * atanhFix (fixOne / 3)

/-- ln of a positive value: its exponent, and 2 atanh((m − 1)/(m + 1)) of its mantissa m in 1 … 2. -/
def lnFix (x : Nat) : Int :=
  let top := Nat.log2 x
  let m : Int := ((if 80 ≤ top then x / 2 ^ (top - 80) else x * 2 ^ (80 - top) : Nat) : Int)
  ((top : Int) - 80) * ln2Fix + 2 * atanhFix ((m - fixOne) * fixOne / (m + fixOne))

/-- `n` terms of the series of exp at `r`. -/
def expSeries (r : Int) : Nat → Nat → Int → Int → Int
  | 0, _, _, acc => acc
  | n + 1, k, term, acc => expSeries r n (k + 1) (term * r / (fixOne * ((k + 1 : Nat) : Int))) (acc + term)

/-- exp of a value: 2^k exp(r) with r in 0 … ln 2. -/
def expFix (y : Int) : Int :=
  let k := y / ln2Fix
  let e := expSeries (y - k * ln2Fix) 34 0 fixOne 0
  if 0 ≤ k then e * ((2 ^ k.toNat : Nat) : Int) else e / ((2 ^ (-k).toNat : Nat) : Int)

/-- x^(a / b) of a positive value. -/
def powFix (x a b : Nat) : Int := expFix (lnFix x * a / b)

/-- The PQ EOTF at i / 1024 in cd/m² (03 R64): 10 000 (max(V − c1, 0) / (c2 − c3 V))^(1/m1) with V = E^(1/m2). -/
def pqEotf (i : Nat) : Rat :=
  if i = 0 then 0
  else
    let v := powFix (i * 2 ^ 80 / 1024) 32 2523
    let num := v - fixOne * 107 / 128
    let den := fixOne * 2413 / 128 - v * 2392 / 128
    if num ≤ 0 then 0
    else (10000 * (powFix ((num * fixOne / den).toNat) 16384 2610 : Int) : Int) / ((2 ^ 80 : Nat) : Rat)

/-- The HLG inverse OETF at i / 1024, scene light 0 to 1 (03 R64): E²/3 up to 1/2, (exp((E − c)/a) + b)/12 above. -/
def hlgInverseOetf (i : Nat) : Rat :=
  if 2 * i ≤ 1024 then ((i * i : Nat) : Rat) / (3 * 1024 * 1024)
  else
    let y : Rat := ((i : Rat) / 1024 - 55991073 / 100000000) / (17883277 / 100000000)
    let e := expFix (y * ((2 ^ 80 : Nat) : Rat)).floor
    ((e : Rat) / ((2 ^ 80 : Nat) : Rat) + 28466892 / 100000000) / 12

end Sys2Proof.Machine
end

