-- ==== Sys2Proof/Machine/Pixel.lean ====
section
/-! DEFINITION. The arithmetic of the correction pipeline, stage by stage, on numbers (chapter 03): ingest, glare gain,
calibration, temperature, ageing, range split, dither and the drive code word. -/

namespace Sys2Proof.Machine

/-- The largest working value, U4.16 (03 R54). -/
def workMax : Nat := 0xFFFFF

/-- The largest emitter value, U4.20 (03 R54). -/
def emitMax : Nat := 0xFFFFFF

/-- A value reduced to its result format: clipped, with the clips it caused at the bottom and at the top (03 R55). -/
structure Clipped where
  value : Nat
  low : Nat
  high : Nat
  deriving DecidableEq, Repr

/-- Clip an exact value to 0 … `top` and say which clip acted (03 R55). -/
def clipTo (top : Nat) (v : Int) : Clipped :=
  if v < 0 then ⟨0, 1, 0⟩ else if (top : Int) < v then ⟨top, 0, 1⟩ else ⟨v.toNat, 0, 0⟩

/-- Bit depth of INGESTp_BITS: 10, 12 or 16; values above 2 act as 2 (03 R88 Table 8). -/
def bitsOf (code : Nat) : Nat := if code = 0 then 10 else if code = 1 then 12 else 16

/-- Black of a profile (03 R62); range 1 is narrow, others act as full. -/
def blackOf (range n : Nat) : Nat := if range = 1 then 64 * 2 ^ (n - 10) else 0

/-- White of a profile (03 R62). -/
def whiteOf (range n : Nat) : Nat := if range = 1 then 940 * 2 ^ (n - 10) else 2 ^ n - 1

/-- The normalised code s, U1.16 (03 R62). -/
def ingestNorm (range n c : Nat) : Nat :=
  (clampI 0 65536 ((((c : Int) - blackOf range n) * 65536 + ((whiteOf range n - blackOf range n) / 2 : Nat)) /
    (whiteOf range n - blackOf range n : Nat))).toNat

/-- Transfer table lookup of 03 R63, for a table given by its entries. -/
def ingestMap (t : Nat → Nat) (s : Nat) : Nat :=
  if s / 64 = 1024 then t 1024
  else ((t (s / 64) : Int) + (((t (s / 64 + 1) : Int) - t (s / 64)) * (s % 64 : Nat) + 32) / 64).toNat

/-- A transfer table in force (03 R64): computed for PQ, HLG or linear, or the custom entries as 32-bit words. -/
inductive TransferTable where
  | pq (white : Nat)
  | hlg (scale : Nat)
  | linear (scale : Nat)
  | custom (entries : List Nat)
  deriving DecidableEq, Repr

/-- Entry i of a transfer table, U4.16 (03 R64): round(65 536 × F(i/1024)), clipped; custom entries keep bits [19:0]. -/
def TransferTable.entry : TransferTable → Nat → Nat
  | .pq w, i => (clipTo workMax (roundRat (65536 * pqEotf i / (clampN 100 10000 w : Nat)))).value
  | .hlg sc, i => (clipTo workMax (roundRat ((sc : Nat) * hlgInverseOetf i))).value
  | .linear sc, i => (clipTo workMax (roundDiv ((sc * i : Nat) : Int) 1024)).value
  | .custom es, i => natAt es i % 2 ^ 20

/-- One row of the primaries matrix (03 R65). -/
def matrixRow (p0 p1 p2 : Int) (v0 v1 v2 : Nat) : Clipped :=
  clipTo workMax (rsh (p0 * v0 + p1 * v1 + p2 * v2) 14)

/-- Glare gain of stage 3; a gain above 0x8000 acts as 0x8000 (03 R66). -/
def glareApply (v g : Nat) : Clipped := clipTo workMax (rsh ((v * min g 0x8000 : Nat) : Int) 15)

/-- Colour calibration of stage 4, one emitter (03 R69). -/
def calRow (m0 m1 m2 : Int) (v0 v1 v2 : Nat) : Clipped :=
  clipTo emitMax (rsh (m0 * v0 + m1 * v1 + m2 * v2) 10)

/-- Index and fraction of the temperature table for a zone temperature in Q9.7 (03 R73). -/
def thermalIndex (t : Int) : Nat × Nat :=
  let u := (clampI 0 20160 (t + 2560)).toNat
  (u / 320, if u / 320 = 63 then 0 else 256 * (u % 320) / 320)

/-- One interpolated temperature coefficient (03 R73). -/
def thermalCoef (a b : Int) (f : Nat) : Int := a + rsh ((b - a) * f) 8

/-- One emitter of stage 5 (03 R73). -/
def thermalRow (h0 h1 h2 : Int) (d0 d1 d2 : Nat) : Clipped :=
  clipTo emitMax (rsh (h0 * d0 + h1 * d1 + h2 * d2) 14)

/-- The model term of an emitter with a dose (03 R77), for one colour's table. S outside 16 … 24 acts as the limit. -/
def ageModel (a : Nat → Nat) (shift dose : Nat) : Nat :=
  let s := clampN 16 24 shift
  let i := min (dose / 2 ^ s) 255
  if i < 255 then ((a i : Int) + rsh (((a (i + 1) : Int) - a i) * (dose / 2 ^ (s - 8) % 256 : Nat)) 8).toNat
  else a 255

/-- The ageing gain g of stage 6 (03 R78). -/
def ageGain (model rec : Nat) : Nat := min ((model * rec + 16384) / 32768) 0xFFFF

/-- Stage 6 on one emitter value (03 R78). -/
def ageApply (d g : Nat) : Clipped := clipTo emitMax (((d * g + 16384) / 32768 : Nat) : Int)

/-- Output of stage 8: range bit, U16.4 code, and the clips that CODE_SATURATIONS counts (03 R55, R80 to R82). -/
structure Split where
  high : Bool
  c20 : Nat
  clips : Nat
  deriving DecidableEq, Repr

/-- Interpolation in a grey table with the implicit entry 4096 (03 R81). -/
def greyMap (tab : Nat → Nat) (i f bits : Nat) : Int :=
  let at' := fun j => if j = 4096 then (0x100000 : Int) else ((tab j % 2 ^ 20 : Nat) : Int)
  at' i + rsh ((at' (i + 1) - at' i) * f) bits

/-- Range split and low-grey mapping with the black offset (03 R80 to R82). `split` above 0x10000 acts as 0x10000. Each
clip of R81 and R82, at either end, is a clip of stage 8 (03 R55). -/
def rangeSplit (lowTab highTab : Nat → Nat) (split : Nat) (blackOn : Bool) (o : Int) (d : Nat) : Split :=
  if d = 0 then ⟨false, 0, 0⟩
  else if d < min split 0x10000 then
    let a := clipTo 0xFFFFF (greyMap lowTab (d / 16) (d % 16) 4)
    let b := if blackOn then clipTo 0xFFFFF ((a.value : Int) + 16 * o) else ⟨a.value, 0, 0⟩
    ⟨false, b.value, a.low + a.high + (b.low + b.high)⟩
  else if d < 0x100000 then
    let a := clipTo 0xFFFFF (greyMap highTab (d / 256) (d % 256) 8)
    ⟨true, a.value, a.low + a.high⟩
  else ⟨true, 0xFFFFF, 1⟩

/-- Position in the dither mask (03 R84). -/
def ditherPos (p off k step : Nat) : Nat := (p + off + k * step) % 64

/-- The dither threshold of a mask value (03 R84). -/
def ditherThreshold (mask k rot : Nat) : Nat := (mask + k * rot) % 256 / 16

/-- The 16-bit code of stage 9 (03 R84). -/
def ditherCode (c20 t : Nat) : Nat := min ((c20 + t) / 16) 0xFFFF

/-- The drive code word (03 R85). -/
def driveWord (high probe : Bool) (code : Nat) : Nat := b2n high * 2 ^ 17 + b2n probe * 2 ^ 16 + code

/-- The final code expressed in U0.20 (03 R71). -/
def driveOf (word : Nat) : Nat := if bitAt word 17 then field word 0 16 * 16 else field word 0 16

/-- The dose increment q of a final code, U8.24 (03 R74). -/
def doseIncrement (word step : Nat) : Nat :=
  field word 0 16 * step / 2 ^ (if bitAt word 17 then 16 else 20)

/-- The new accumulator (03 R74). -/
def doseAdd (acc q r : Nat) : Nat := min (acc + (q + r) / 2 ^ 24) 0xFFFFFFFF

/-- DOSE_STEP for a decimation N and a frame rate num / den (03 R74). -/
def doseStepOf (n num den : Nat) : Nat := (roundDiv ((2 ^ 24 * 8 * clampN 1 16 n * den : Nat) : Int) (max num 1)).toNat % 2 ^ 32

/-- THERMAL_ALPHA for a time constant in ms and a frame rate num / den (03 R72): at least 1. -/
def thermalAlphaOf (tau num den : Nat) : Nat :=
  max 1 (roundDiv (65536 * ((2 ^ 64 : Nat) - expNeg (1000 * den) (max num 1 * clampN 10 60000 tau))) (2 ^ 64)).toNat

/-- The temperature rise of a zone after one frame (03 R72), from K (Q9.7), m (U0.16) and alpha. -/
def thermalStep (alpha : Nat) (kr kg kb : Int) (mr mg mb : Nat) (dt : Int) : Int :=
  dt + rsh (alpha * ((kr * mr + kg * mg + kb * mb) - dt)) 16

/-- The zone temperature in Q9.7 (03 R72). -/
def zoneTemp (base dt : Int) : Int := clampI (-32768) 32767 (base + rsh dt 16)

/-- Chromaticities (xr, yr, xg, yg, xb, yb) of the primaries 0 BT.709, 1 BT.2020, 2 DCI-P3 D65 (03 R65, R88);
PRESUMED: the numbers are those of the published standards (assumption log 22). -/
def primariesOf (k : Nat) : Rat × Rat × Rat × Rat × Rat × Rat :=
  if k = 0 then (64 / 100, 33 / 100, 30 / 100, 60 / 100, 15 / 100, 6 / 100)
  else if k = 1 then (708 / 1000, 292 / 1000, 170 / 1000, 797 / 1000, 131 / 1000, 46 / 1000)
  else (680 / 1000, 320 / 1000, 265 / 1000, 690 / 1000, 150 / 1000, 60 / 1000)

/-- A 3 × 3 matrix of rationals by rows. -/
abbrev Mat3 := List (List Rat)

/-- Element of a matrix. -/
def Mat3.at (m : Mat3) (i j : Nat) : Rat := (m.getD i []).getD j 0

/-- Matrix product. -/
def Mat3.mul (a b : Mat3) : Mat3 :=
  [0, 1, 2].map fun i => [0, 1, 2].map fun j => a.at i 0 * b.at 0 j + a.at i 1 * b.at 1 j + a.at i 2 * b.at 2 j

/-- Cofactor of a 3 × 3 matrix by cyclic indices. -/
def Mat3.cof (m : Mat3) (i j : Nat) : Rat :=
  m.at ((i + 1) % 3) ((j + 1) % 3) * m.at ((i + 2) % 3) ((j + 2) % 3) -
    m.at ((i + 1) % 3) ((j + 2) % 3) * m.at ((i + 2) % 3) ((j + 1) % 3)

/-- Inverse of a 3 × 3 matrix. -/
def Mat3.inv (m : Mat3) : Mat3 :=
  let det := m.at 0 0 * m.cof 0 0 + m.at 0 1 * m.cof 0 1 + m.at 0 2 * m.cof 0 2
  [0, 1, 2].map fun i => [0, 1, 2].map fun j => m.cof j i / det

/-- RGB to XYZ of a primaries set with the D65 white point (0.3127, 0.3290) (03 R65). -/
def rgbToXyz (k : Nat) : Mat3 :=
  match primariesOf k with
  | (xr, yr, xg, yg, xb, yb) =>
    let c : Mat3 := [[xr / yr, xg / yg, xb / yb], [1, 1, 1],
      [(1 - xr - yr) / yr, (1 - xg - yg) / yg, (1 - xb - yb) / yb]]
    let w : Mat3 := [[3127 / 3290, 0, 0], [1, 0, 0], [(10000 - 3127 - 3290) / 3290, 0, 0]]
    let s := Mat3.mul (Mat3.inv c) w
    [0, 1, 2].map fun i => [0, 1, 2].map fun j => c.at i j * s.at j 0

/-- The matrix P in Q2.14 from input to target primaries: each coefficient rounded, then the diagonal adjusted so that
each row sums to 16 384 (03 R65). -/
def primariesMatrix (input target : Nat) : List Int :=
  let m := Mat3.mul (Mat3.inv (rgbToXyz target)) (rgbToXyz input)
  let r := fun i j => roundRat (16384 * m.at i j)
  let row := fun i => [0, 1, 2].map fun j =>
    if i = j then 16384 - (r i ((i + 1) % 3) + r i ((i + 2) % 3)) else r i j
  row 0 ++ row 1 ++ row 2

/-- The identity matrix in Q2.14. -/
def identityMatrix : List Int := [16384, 0, 0, 0, 16384, 0, 0, 0, 16384]

end Sys2Proof.Machine
end

