-- ==== Sys2Proof/Machine/State.lean ====
section
/-! DEFINITION. The state of the block as plain data: every object value, table, memory and hidden piece of state that
the manual gives the device, the queue of waiting commands, and the state after the internal power-on reset. -/

namespace Sys2Proof.Machine

/-- Why a step stops. -/
inductive Fault where
  /-- Raised by every command after JTAG_EXTEST until a reset: "the device's functional state is then undefined until
  the next release of RESET_N" (16 R402). Safe: the model stops where the hardware goes on undefined. -/
  | functionalStateUndefined
  deriving DecidableEq, Repr

/-- Why a command has no meaning. -/
inductive Refusal where
  /-- Raised by an arm of `exec` whose command has no meaning yet. Safe: the model stops. -/
  | notModelled (mnemonic : String)
  deriving DecidableEq, Repr

/-- What the device as a whole does (14 R353, 16 R398 to R401). -/
inductive Phase where
  /-- held by the internal power-on reset (R398) -/
  | powerOnReset
  /-- AON waits for XTAL32 (R398, R401 step 1) -/
  | waitXtal
  /-- CORE_PWR_EN high, switched supplies rising, or the release of RESET_N (R401 steps 2 and 3) -/
  | waitCore
  /-- islands out of reset, collector running, boot ROM at work (R401 step 4) -/
  | waitFirmware
  /-- COP is answered (R401 step 6); S1 included -/
  | running
  /-- the ROM recovery agent answers on the T1S port (15 R380) -/
  | recovery
  /-- a filtered RESET_N low lasts (R399) -/
  | resetHeld
  /-- core brown-out (R397) -/
  | brownOut
  /-- S2 or S3 (14 R353) -/
  | asleep
  deriving DecidableEq, Repr

/-- The state of an island (02 R45, R53 Table 7). -/
inductive IslandMode where
  | running | gated | off | waking
  deriving DecidableEq, Repr

/-- One handshake crossing of 02 R39: levels, the tag of the current or last request and of the last acknowledge, step
reached, elapsed requester cycles (13 R337 Table 3), and the tags of withdrawn requests whose acknowledge has not come,
oldest first (02 R41). Between commands a crossing stands idle; a freeze holds it where it is (02 R44). -/
structure Crossing where
  req : Bool := false
  ack : Bool := false
  reqTag : Bool := false
  ackTag : Bool := false
  step : Nat := 0
  elapsed : Nat := 0
  withdrawn : List Bool := []
  deriving DecidableEq, Repr

/-- A COP request as the object agent holds it (15 R368): OPCODE 1 READ, 2 WRITE, 3 STAGE; the object is index × 256 +
subindex. -/
structure Request where
  rq : Req
  opcode : Nat
  obj : Nat
  seg : Segment
  snapshot : Bool
  data : Bytes
  deriving DecidableEq, Repr

/-- A response (15 R368), with what identifies its request (R369). -/
structure Response where
  via : Via
  who : Requester
  tid : Nat
  opcode : Nat
  obj : Nat
  /-- FLAGS and OFFSET, echoed -/
  flags : Nat
  offset : Nat
  abort : Nat
  total : Nat
  data : Bytes
  deriving DecidableEq, Repr

/-- A DOMAIN write in assembly (15 R371): bytes received so far and the tick of the last segment. -/
structure Assembly where
  who : Requester
  obj : Nat
  opcode : Nat
  data : Bytes
  lastTick : Nat
  deriving DecidableEq, Repr

/-- A read snapshot of a DOMAIN value (15 R372). -/
structure Snapshot where
  who : Requester
  obj : Nat
  data : Bytes
  deriving DecidableEq, Repr

/-- One staged write of a batch (15 R373). -/
structure BatchEntry where
  rq : Req
  obj : Nat
  data : Bytes
  deriving DecidableEq, Repr

/-- The batch (15 R373 to R376): entries in staging order; `commitTick` is the tick of the COMMIT. -/
structure Batch where
  owner : Requester
  entries : List BatchEntry
  committed : Bool
  notBefore : Option Time80
  commitTick : Nat
  deriving DecidableEq, Repr

/-- The key and configuration record of the boot flash (15 R366, R370, R378), as fields: its layout is not given. -/
structure KeyRecord where
  keyOperator : Nat := 0
  keyService : Nat := 0
  keyOwner : Nat := 0
  ipv4 : Nat := 0
  netmask : Nat := 0xFFFF0000
  udpPort : Nat := 30360
  plcaId : Nat := 0xFF
  plcaCount : Nat := 8
  deriving DecidableEq, Repr

/-- The work of a boot-flash operation (15 R378, R382 to R384, 12 R309). -/
inductive FlashWork where
  | key (role value : Nat)
  | t1s (sub value : Nat)
  | identity (data : Bytes)
  | eraseSlot (slot : Nat)
  | program (slot offset : Nat) (data : Bytes)
  | verify (slot : Nat)
  | activate (slot : Nat) (now : Bool)
  | confirm
  | faultLog (reason : Nat)
  | calSave
  | calLoad
  | evacSave
  | evacLoad
  deriving DecidableEq, Repr

/-- A boot-flash operation in progress, with the request to answer on completion. -/
structure FlashJob where
  work : FlashWork
  answer : Option Request
  deriving DecidableEq, Repr

/-- State of the object agent and the boot flash (chapter 15). -/
structure CopState where
  /-- consecutive key rejections by role (R366) -/
  keyFails : Sparse Nat := []
  /-- keys in force, loaded at reset (R366, R385) -/
  keys : KeyRecord := {}
  /-- the key and configuration record as stored in the flash -/
  record : KeyRecord := {}
  /-- kept responses, newest first (R369) -/
  responses : List Response := []
  assemblies : List Assembly := []
  snapshots : List Snapshot := []
  batch : Option Batch := none
  /-- requests held for a waking island, oldest first (02 R46) -/
  held : List Request := []
  flashJob : Option FlashJob := none
  /-- operations pre-empted by a fault log write, the last first (R378) -/
  flashPaused : List FlashJob := []
  /-- slot that has passed FW_UPDATE_VERIFY since its last write (R382) -/
  verified : Option Nat := none
  /-- KEY_SLOT and ROLLBACK of the running image (R381) -/
  runKeySlot : Nat := 0
  runRollback : Nat := 0
  /-- key slot 0 revoked, a fuse (R381) -/
  slot0Revoked : Bool := false
  /-- FW_ROLLBACK_MIN raised by FW_ROLLBACK_COMMIT, a fuse; in force the larger of this and the fused value (R381) -/
  rollbackRaised : Nat := 0
  deriving DecidableEq, Repr

/-- State of the fault collector and freeze (chapter 13). Lists of source numbers hold each number once. -/
structure FaultState where
  /-- sources whose live bit is 1 (R326) -/
  live : List Nat := []
  /-- sources whose latched bit is 1 (R327) -/
  latched : List Nat := []
  /-- occurrences of pulse sources held by their origin (R326) -/
  waiting : Sparse Nat := []
  /-- pulse sources whose 1 µs pulse is in progress (R326) -/
  pulsing : List Nat := []
  /-- pairs confirmed discrepant (R324) -/
  discrepant : List Nat := []
  /-- FAULT_HELD of AON (R334) -/
  held : List Nat := []
  /-- the millbrake's clock check of 02 R38 found a count out of tolerance -/
  clockFault : Bool := false
  /-- islands whose REFCLK-derived PLL is out of lock (R332, FS17) -/
  pllUnlocked : List Nat := []
  /-- no heartbeat inversion for 5 ms (R325, FS80) -/
  heartbeatLost : Bool := false
  deriving DecidableEq, Repr

/-- State of islands, crossings, reset, freeze and JTAG (chapters 02, 13, 16). -/
structure DeviceState where
  phase : Phase := .powerOnReset
  /-- the freeze latch of AON (13 R336) -/
  frozen : Bool := false
  /-- EXTEST has left the functional state undefined (16 R402) -/
  extest : Bool := false
  /-- current JTAG instruction (16 R402) -/
  tap : Nat := 2
  /-- island modes by number (02 R37, R45) -/
  islands : Sparse IslandMode := []
  /-- islands running in a WAKE_HOLD (02 R46) -/
  holds : List Nat := []
  /-- islands whose gating COX has requested (02 R48) -/
  gating : List Nat := []
  /-- crossings H01 to H11 (02 R39 to R42) -/
  crossings : Sparse Crossing := []
  corePwrEn : Bool := false
  /-- AON runs from its internal oscillator (16 R398) -/
  internalOsc : Bool := false
  /-- cause to record when the release sequence reaches step 4 (16 R407) -/
  resetCause : Nat := 0
  /-- milliseconds of a RESET_N hold beyond 8 s in progress (14 R361) -/
  longHold : Option Nat := none
  /-- the present low of RESET_N has been counted as a hold beyond 8 s (14 R361) -/
  holdCounted : Bool := false
  /-- the T1S port answers: STRAP_T1S_OFF not in effect (16 R400) -/
  t1sOff : Bool := false
  deriving DecidableEq, Repr

/-- The state of a domain (08 R214 Table 1). -/
inductive DomMode where
  | free | acquiring | locked | holdover
  deriving DecidableEq, Repr

/-- A host command that acts on a domain counter at the next TIME tick (08 R213). -/
inductive TickAction where
  | set (value : Time80)
  | adjust (ns : Int)
  deriving DecidableEq, Repr

/-- One domain counter and its servo (08 R206, R212 to R214). -/
structure DomState where
  /-- (S × 10^9 + N) × 2^32 + F -/
  counter : Nat := 0
  /-- INC in force, 32.32 ns -/
  inc : Nat := 0x400000000
  /-- y in force and the integral term I, ppb, exact -/
  y : Rat := 0
  integral : Rat := 0
  /-- INC from the next TIME tick -/
  nextInc : Option Nat := none
  mode : DomMode := .free
  /-- consecutive measurements within the lock threshold (R214) -/
  lockRun : Nat := 0
  /-- the last measurement while LOCKED was an outlier (R213) -/
  outlier : Bool := false
  /-- the counter has been given a value since reset (R225 Table 5) -/
  valueSet : Bool := false
  /-- a measurement has been processed within the source timeout -/
  present : Bool := false
  /-- tick of the last processed measurement; a sleep moves it back by its length -/
  lastTick : Option Int := none
  /-- servo step to add at the next TIME tick, 2^-32 ns -/
  step : Int := 0
  /-- host commands of the next TIME tick, in order -/
  actions : List TickAction := []
  deriving DecidableEq, Repr

/-- One PTP transmit timestamp (08 R216 Table 2). -/
structure TxStamp where
  seq : Nat
  dom : Nat
  messageType : Nat
  time : Nat
  deriving DecidableEq, Repr

/-- The catch generator (08 R217 to R221): the next catch is scan catch `j` of grid frame `m`. -/
structure CatchState where
  /-- it issues catches -/
  issuing : Bool := false
  /-- D, 2^-32 ns -/
  offset : Int := 0
  m : Int := 0
  j : Nat := 0
  /-- domain that the generator follows -/
  dom : Nat := 0
  /-- writes of ACTIVE_DOMAIN that wait for the next catch (R220, R221) -/
  hostDom : Option Nat := none
  autoDom : Option Nat := none
  /-- a re-anchor waits for the grid frame `m` (R219) -/
  reanchor : Bool := false
  /-- BAND issues the next catch from its own stroke count after an H07 timeout (02 R42) -/
  unaligned : Bool := false
  /-- TIME tick of the last catch issued, from which BAND counts its strokes -/
  lastTick : Option Nat := none
  deriving DecidableEq, Repr

/-- The delay exchange of one port (08 R210). -/
structure DelayState where
  /-- SEQ of the request in flight -/
  waiting : Option Nat := none
  seq : Nat := 0
  /-- a sample has been taken since link bring-up -/
  sampled : Bool := false
  /-- LD in ps -/
  delay : Int := 0
  deriving DecidableEq, Repr

/-- A master heard of: its port, data set, and the ticks of its last two Announce messages (08 R215). -/
structure PtpMaster where
  port : PtpPort
  data : PtpDataset
  last : Nat
  before : Option Nat := none
  deriving DecidableEq, Repr

/-- What the Cox holds of PTP (08 R215); times and corrections in 2^-32 ns. -/
structure PtpState where
  masters : List PtpMaster := []
  /-- a two-step Sync that waits for its Follow_Up: sender, sequenceId, reception time, correction -/
  waiting : Option (PtpPort × Nat × Int × Int) := none
  /-- reception time less origin and corrections of the last Sync, and the port that sent it -/
  lastSync : Option (PtpPort × Int) := none
  /-- sequenceId of the next Delay_Req, the one in flight, and its transmit timestamp -/
  nextSeq : Nat := 0
  request : Option Nat := none
  sent : Option Int := none
  /-- the measured path delay to the master, and that master -/
  delay : Option (PtpPort × Int) := none
  deriving DecidableEq, Repr

/-- State of network time (chapter 08). -/
structure TimeState where
  domA : DomState := {}
  domB : DomState := {}
  catchGen : CatchState := {}
  txq : List TxStamp := []
  delayA : DelayState := {}
  delayB : DelayState := {}
  /-- counters and increments latched into AON at sleep (R223): A, INC_A, B, INC_B -/
  snapshot : Option (Nat × Nat × Nat × Nat) := none
  ptp : PtpState := {}
  deriving DecidableEq, Repr

/-- A pending submission of a memory layer (04 R100). -/
structure Submission where
  buffer : Nat
  timeline : Nat
  value : Nat
  notBefore : Nat
  deriving DecidableEq, Repr

/-- A stream frame being written into a layer buffer (04 R105): pixels still to come, and whether a flit was lost. -/
structure StreamFill where
  buffer : Nat
  frame : Nat
  format : Nat
  width : Nat
  height : Nat
  received : Nat
  lost : Bool
  /-- the stream it belongs to -/
  stream : Nat
  /-- its END_OF_FRAME packet has been taken (10 R254) -/
  ended : Bool := false
  deriving DecidableEq, Repr

/-- The hidden state of one layer (04 R89 to R106). -/
structure LayerState where
  /-- generation, held in AON (R89) -/
  gen : Nat := 1
  pending : Option Submission := none
  /-- the stream received: LAYERl_SOURCE 1 with LAYERl_STREAM_ID, taken at the last frame boundary (R105, R121) -/
  stream : Option Nat := none
  /-- completed stream frame that waits for its flip: its buffer, its frame number and its stream (R105) -/
  streamPending : Option (Nat × Nat × Nat) := none
  filling : Option StreamFill := none
  /-- pixel format and size of the stream frame held in each buffer: format, width, height (R95) -/
  streamFormat : Sparse (Nat × Nat × Nat) := []
  /-- a stream layer has a buffer in force (R105) -/
  bound : Bool := false
  /-- tick from which the layer is visible, and tick at which a stream frame last became pending (R106) -/
  visibleSince : Option Nat := none
  lastPending : Option Nat := none
  inLoss : Bool := false
  /-- buffer that flipped out at the last boundary (R104) -/
  releasing : Option Nat := none
  deriving DecidableEq, Repr

/-- One fence timeline (04 R101, R102): its value, and the signals with their arrival in the active domain (whole ns, 08
R207), newest first, none for a signal of a batch, which takes part at its own boundary (R99); `base` is the value before
the oldest of them. -/
structure FenceLine where
  value : Nat := 0
  base : Nat := 0
  signals : List (Nat × Option Int) := []
  deriving DecidableEq, Repr

/-- What one layer contributes to the frame in computation, taken at the pipeline start (04 R96 to R98, 03 R56). -/
structure LayerView where
  layer : Nat
  source : Nat
  profile : Nat
  format : Nat
  alpha : Nat
  posX : Int
  posY : Int
  cropX : Nat
  cropY : Nat
  cropW : Nat
  cropH : Nat
  scale : Nat
  address : Nat
  stride : Nat
  width : Nat
  height : Nat
  deriving DecidableEq, Repr

/-- An echo frame in formation or ready to send (04 R118 to R120). -/
structure EchoFrame where
  buffer : Nat
  frame : Nat
  width : Nat
  height : Nat
  bytes : Bytes
  deriving DecidableEq, Repr

/-- State of layers, fences, the protected layer and the echo (chapter 04). -/
structure LayersState where
  layers : Sparse LayerState := []
  fences : Sparse FenceLine := []
  /-- L7 is locked (R109) -/
  l7Locked : Bool := false
  /-- L7_DISARM takes its state to UNARMED at the next boundary (R111) -/
  disarming : Bool := false
  /-- a beacon fill pass runs (R108, R110, 03 R86) -/
  filling : Bool := false
  /-- spoiled passes of the arming in progress (R108) -/
  spoiled : Nat := 0
  /-- an input of the frozen path has changed and a pass must start at the next pipeline start (R110) -/
  fillWanted : Bool := false
  /-- a completed refill waits for its boundary (R110) -/
  refillReady : Bool := false
  /-- the store that the refill will bring into force -/
  refillStore : Sparse Byte := []
  /-- echo frame ready to be sent, the one being sent with bytes sent so far, and the buffer used next (R120) -/
  echoReady : Option EchoFrame := none
  echoSending : Option (EchoFrame × Nat) := none
  echoBuffer : Nat := 0
  /-- values tapped for the echo, keyed (y × 2048 + x) × 3 + colour (R118) -/
  echoTap : Sparse Nat := []
  deriving DecidableEq, Repr

/-- An ingest profile in force (03 R58, R62 to R65): depth and range codes, transfer table and matrix P (Q2.14). -/
structure ProfileForce where
  bits : Nat := 0
  range : Nat := 1
  table : TransferTable := .pq 5000
  matrix : List Int := [16384, 0, 0, 0, 16384, 0, 0, 0, 16384]
  deriving DecidableEq, Repr

/-- An ingest profile with its recomputation (03 R58): result of the one that runs, of the one that waits for a
pipeline start, and whether another must follow; and its custom table as 32-bit words (03 R64). -/
structure ProfileState where
  force : ProfileForce := {}
  working : Option ProfileForce := none
  again : Bool := false
  ready : Option ProfileForce := none
  custom : TransferTable := .pq 5000
  deriving DecidableEq, Repr

/-- The per-zone sums of a frame, keyed zone × 4 + colour (12 R312, R314, R316). -/
structure ZoneSums where
  /-- sum of d' × I over driven emitters (12 R312), formed at the acknowledge deadline -/
  light : Sparse Nat := []
  /-- working values after stage 3, their weighted luminance, and values entering the weir -/
  work : Sparse Nat := []
  lum : Sparse Nat := []
  pre : Sparse Nat := []
  deriving DecidableEq, Repr

/-- Clips counted by stage group (03 R55). -/
structure Clips where
  gamut : Nat := 0
  work : Nat := 0
  emitHigh : Nat := 0
  emitLow : Nat := 0
  code : Nat := 0
  deriving DecidableEq, Repr

/-- A calibration record as fields (03 R67). -/
structure CalRecord where
  m : List Int := [16384, 0, 0, 0, 16384, 0, 0, 0, 16384]
  age : List Nat := [0x8000, 0x8000, 0x8000]
  black : List Int := [0, 0, 0]
  flags : Nat := 0
  deriving DecidableEq, Repr

/-- Outcome of a record read (03 R68): used, failed by its CRC, missing, or not asked for. -/
inductive CalOutcome where
  | good | badCrc | missing | disabled
  deriving DecidableEq, Repr

/-- Everything a pixel gives up to stage 6 (03 R54). -/
structure PixelOut where
  /-- values after stage 2, entering the gain of stage 3, and after stage 3 -/
  composed : List Nat
  work : List Nat
  d6 : List Nat
  record : CalRecord
  cal : CalOutcome
  doses : List (Option Nat)
  clips : Clips
  missing : Nat
  /-- composed from L7 alone, after the cut-off of 02 R52 -/
  cut : Bool := false
  deriving DecidableEq, Repr

/-- The frame in computation (03 R56, 02 R52): number since scan-drive start, the objects and tables taken at its
pipeline start, the next row, and what has happened so far. `startTime` is a grid time in ns of the active domain,
`showTime` one in 2^-32 ns. -/
structure FrameWork where
  k : Nat
  evac : Bool
  startTime : Int
  showTime : Int
  regs : Sparse Nat
  tabs : Sparse Byte
  profiles : List ProfileForce
  views : List LayerView
  /-- substitution table, suspects and black window as they stand at the pipeline start (06 R156, R168) -/
  subst : Sparse Nat := []
  suspects : List Nat := []
  black : Bool := false
  row : Nat := 0
  band : Nat := 0
  finished : Bool := false
  /-- rows are composed from L7 alone (02 R52, 04 R103) -/
  cutoff : Bool := false
  omitted : List Nat := []
  late : Bool := false
  missed : Bool := false
  linkLoss : Bool := false
  accumulate : Bool
  echo : Bool := false
  /-- doses read in this accumulating frame and still to be written, keyed emitter, value D + 1 (03 R74, R76, R87) -/
  doses : Sparse Nat := []
  /-- pixels computed up to stage 6, by pixel index (03 R79, R87) -/
  outs : Sparse (Option PixelOut) := []
  sums : ZoneSums := {}
  deriving DecidableEq, Repr

/-- State of the correction pipeline (chapter 03). -/
structure PipeState where
  /-- bytes written to a double-buffered table and not yet in force, keyed as `tabs`, value byte + 1 (R57) -/
  overlay : Sparse Nat := []
  profiles : Sparse ProfileState := []
  /-- ΔT(z) in Q9.23 (R72) -/
  rise : Sparse Int := []
  /-- number of the next frame to be computed since scan-drive start -/
  nextFrame : Nat := 0
  frame : Option FrameWork := none
  /-- drive code words of the frame in computation, keyed ((band × 64 + node) × 32 + row output) × 192 + channel -/
  words : Sparse Nat := []
  /-- rows whose words are ready, keyed band × 32 + row output -/
  readyRows : List Nat := []
  /-- sums of the frame last completed, until its thermal and glare updates (R71, 12 R312) -/
  lastSums : ZoneSums := {}
  lastFrame : Option Nat := none
  /-- data that failed to arrive for the frame in computation (R60, 02 R42 H02, 11 R288): ring, tile address and bytes;
  64 + l stands for the pixels of layer l in the next row -/
  missing : List (Nat × Nat × Nat) := []
  /-- tile addresses in bursts whose next write timed out at H03 or met a fault: it is dropped (02 R42, 11 R288) -/
  dropped : List Nat := []
  /-- the column of each (node, group), keyed node × 64 + group, value x + 1 (01 R23), of the geometry in force -/
  columns : Sparse Nat := []
  deriving DecidableEq, Repr

/-- One node of a band link as enumerated (05 R131, R133, R136, R137, R139 to R142). -/
structure NodeState where
  /-- enumerated at the last start -/
  present : Bool := false
  kind : Nat := 0
  vendor : Nat := 0
  part : Nat := 0
  revision : Nat := 0
  dsRepeat : Nat := 0
  outDelay : Nat := 0
  turnaround : Nat := 0
  /-- round trip of the hop that ends at this node, 625 ps units (R137) -/
  roundTrip : Option Nat := none
  /-- L(n) in 625 ps units doubled, so that a half is exact, and EXEC_DELAY (R137) -/
  latency2 : Int := 0
  execDelay : Nat := 0
  /-- consecutive late frames and DARK_MASK bit (R142) -/
  lateRun : Nat := 0
  dark : Bool := false
  /-- rows of the slice of the frame in delivery that have been sent, and the acknowledge (R139) -/
  rowsSent : Nat := 0
  acked : Bool := false
  /-- a segment was dropped at H04: the slice is incomplete (02 R42) -/
  spoilt : Bool := false
  /-- in SWAP_MASK and in DARK_MASK of the SWAP sent for the next frame (R140) -/
  swap : Bool := false
  darkSwap : Bool := false
  /-- frame whose words are the buffer in force; the words stand in `shown` (R140, R141) -/
  shownFrame : Option Nat := none
  /-- its DARK_MASK bit was set at the last frame catch: word 0 in every channel (R140) -/
  blackNow : Bool := false
  deriving DecidableEq, Repr

/-- Where a band link stands (05 R135 Table 6, R148 Table 13). -/
inductive BandStep where
  | idle | aligning | enumerating | measuring | writing | ready | running | failed
  deriving DecidableEq, Repr

/-- A stroke that has been driven and whose headroom report the device still accepts (05 R143, R144): its index, its scan
cycle modulo 8, and the report received. -/
structure OpenStroke where
  stroke : Nat
  cycle : Nat
  report : Option HeadroomReport := none
  deriving DecidableEq, Repr

/-- One band link (05 R130 to R147). -/
structure BandState where
  step : BandStep := .idle
  /-- next address of enumeration, or node measured (R136, R137) -/
  next : Nat := 0
  nodes : Sparse NodeState := []
  /-- registers written and not yet read back: node, register, value (R133) -/
  awaiting : List (Nat × Nat × Nat) := []
  /-- ADV in 6.25 ns symbols (R137) -/
  advance : Nat := 0
  /-- position in the scan cycle: 0 before the catch symbol, then FEATHER and STROKE in turn (R123, R125) -/
  position : Nat := 0
  /-- catches issued and not yet sent; true for a frame catch -/
  catches : List Bool := []
  /-- scan cycle within the frame of the stroke in progress -/
  cycle : Nat := 0
  /-- blanked until a catch symbol is sent (R146) -/
  blanked : Bool := true
  /-- settings changed and not yet sent to the nodes (R127, 06 R154) -/
  settingsDue : Bool := false
  /-- channel currents in µA last written to the nodes, and those that they have applied at a frame catch (R127) -/
  written : List Nat := [0, 0, 0]
  currents : List Nat := [0, 0, 0]
  /-- strokes whose reports are accepted, oldest first (R143, R144) -/
  strokes : List OpenStroke := []
  /-- what the last acceptance gave, until the rail's sample is taken at the later deadline of its bands (07 R182) -/
  judged : Option (Option HeadroomReport) := none
  deriving DecidableEq, Repr

/-- The timing in force (05 R122, R124). -/
structure Timing where
  num : Nat := 240
  den : Nat := 1
  cycles : Nat := 16
  feather : Nat := 400
  stagger : Nat := 0x0800
  margin : Nat := 100
  deriving DecidableEq, Repr

/-- State of the scan drive (chapter 05). -/
structure ScanState where
  bands : Sparse BandState := []
  timing : Timing := {}
  /-- rows per band, COLOUR_ORDER and ROW_REVERSE of the geometry in force (01 R20, R21, R29) -/
  rows : Nat := 32
  colourOrder : Nat := 0
  rowReverse : Nat := 0
  /-- the fixed stores as read at the last geometry apply (11 R275) -/
  calStore : Nat := 0
  doseStore : Nat := 0x2000000
  defectStore : Nat := 0x2C00000
  vfStore : Nat := 0x3000000
  /-- frame catches issued since step 5 of R135 was complete -/
  readyCatches : Nat := 0
  /-- every used band has finished step 5 -/
  configured : Bool := false
  /-- strokes have begun (R135 step 6) -/
  strokes : Bool := false
  /-- frame shown (F_k issued); none before the first computed frame is swapped in -/
  shownFrame : Option Nat := none
  /-- the acknowledge deadline of the frame in delivery has passed -/
  deadlinePassed : Bool := false
  /-- frame catches since the stop request (R147) -/
  stopCatches : Nat := 0
  stopReady : Bool := false
  /-- words of the second buffers and of the buffers in force, keyed as the pipeline's words (R139, R140) -/
  sent : Sparse Nat := []
  shown : Sparse Nat := []
  deriving DecidableEq, Repr

/-- The probe results of one node in one scan cycle (05 R145, 06 R159). -/
structure ProbeSet where
  band : Nat
  node : Nat
  frame : Nat
  cycle : Nat
  /-- requests of R149: channel, row and emitter -/
  expected : List (Nat × Nat × Nat) := []
  /-- catches until the acceptance ends (R159) -/
  left : Nat := 0
  packets : List ProbePacket := []
  closed : Bool := false
  deriving DecidableEq, Repr

/-- Accepted results of one frame: emitters found OK, failures and Vf codes (06 R160). -/
structure Results where
  frame : Nat
  ok : List Nat := []
  fails : List (Nat × Verdict) := []
  vfs : List (Nat × Nat) := []
  deriving DecidableEq, Repr

/-- An entry of the suspect table (06 R161). -/
structure Suspect where
  emitter : Nat
  verdict : Verdict
  count : Nat
  deriving DecidableEq, Repr

/-- State of the emitter diagnosis (chapter 06). -/
structure DiagState where
  suspects : List Suspect := []
  /-- substitution entries by emitter, ascending; the 64-bit image (R165) -/
  subst : Sparse Nat := []
  /-- probe requests of the words shown, by band, node and cycle (R159) -/
  probes : List ProbeSet := []
  results : List Results := []
  /-- first frame of the previous black window, and of the current round's kind (R157) -/
  kBlack : Nat := 0
  blackNow : Bool := false
  /-- Vf set counters and normal rounds since vn advanced (R158) -/
  vn : Nat := 0
  vb : Nat := 0
  dwell : Nat := 0
  vfSet : Nat := 0
  /-- Vf codes whose samples wait for VF_SAMPLE (R172) -/
  vfWaiting : List (Nat × Nat) := []
  /-- emitters whose CAL_AGE gain is to be written, with the gain (R175) -/
  writebacks : List (Nat × Nat) := []
  deriving DecidableEq, Repr

/-- State of a rail (07 R199, R205 Table 9). -/
inductive RailMode where
  | off | starting | auto | manualV | manualDuty | hold | rampDown | faultOff
  deriving DecidableEq, Repr

/-- State of the headroom loop of a rail (07 R197). -/
inductive HeadroomMode where
  | idle | running | frozen | safe
  deriving DecidableEq, Repr

/-- One rail (07 R183 to R200). Signals are Q2.22 of their base. -/
structure RailState where
  mode : RailMode := .off
  /-- the mode written waits for the next fast sample (R191) -/
  modeDue : Bool := false
  loop0 : StageState := {}
  loop1 : StageState := {}
  loop2 : StageState := {}
  vSet : Int := 0
  iV : Int := 0
  duty : Int := 0
  /-- duties of earlier samples, newest first, at most 257 (R196) -/
  history : List Int := []
  /-- feedforward terms in force of the two bands of the group (R188) -/
  ffEven : Rat := 0
  ffOdd : Rat := 0
  /-- filtered current and set index (R189) -/
  iFilt : Int := 0
  setIndex : Nat := 0
  /-- last corrected sample -/
  v : Int := 0
  i : Int := 0
  rawV : Nat := 0
  rawI : Nat := 0
  /-- switching periods since start, for the dither's even and odd (R178) -/
  periods : Nat := 0
  /-- consecutive samples at 0x000 or 0xFFF, and unchanged, by ADC (R196) -/
  badV : Nat := 0
  badI : Nat := 0
  sameV : Nat := 0
  sameI : Nat := 0
  /-- samples in range in a row, and of each ADC the repeats of one code in a row (R196) -/
  goodRun : Nat := 0
  equalV : Nat := 0
  equalI : Nat := 0
  ovRun : Nat := 0
  ocRun : Nat := 0
  /-- the next switching period has on-time 0 (R198) -/
  forceOff : Bool := false
  overFast : Nat := 0
  overHead : Nat := 0
  headroom : HeadroomMode := .idle
  /-- consecutive missing and present samples (R197) -/
  missingSince : Option Nat := none
  presentRun : Nat := 0
  /-- headroom sample released to the engine (R194); 0xFF for present without emission -/
  sample : Option Nat := none
  /-- a fast pair is released (R194), with v_set, i_ff and the set index in force at its sample (R183, R189) -/
  fastDue : Bool := false
  pairSet : Int := 0
  pairFf : Int := 0
  pairIndex : Nat := 0
  /-- set index in force at the headroom sample (R189) -/
  headIndex : Nat := 0
  /-- deadlines of the released fast pair and headroom job, ps (R194 Table 4) -/
  fastDeadline : Nat := 0
  headDeadline : Nat := 0
  /-- first headroom sample after a start presets loop 0 (R199) -/
  headPreset : Bool := false
  /-- outputs computed in period mode that take effect one sample later (R193) -/
  nextVSet : Option Int := none
  nextIV : Option Int := none
  nextDuty : Option Int := none
  /-- v_set at the start of the ramp down and the samples since (R200) -/
  rampFrom : Int := 0
  rampSamples : Nat := 0
  /-- the manual mode is the one after overruns: its v_set or duty is kept until the host writes RAILn_MODE (R195) -/
  forced : Bool := false
  deriving DecidableEq, Repr

/-- Levels of a PWM output and the switch that they close: the high side, the low side, none (07 R177). -/
inductive PwmLevel where
  | high | low | hiZ
  deriving DecidableEq, Repr

/-- One lane of the control engine (07 R194): the job that it runs, as its SLOT_TABLE entry, and the jobs started in the
last 1 ms with their TIME tick and engine cycles, newest first. -/
structure LaneState where
  running : Option Nat := none
  work : List (Nat × Nat) := []
  deriving DecidableEq, Repr

/-- The rotation of one bank of sense ADCs (07 R202). -/
structure RotationState where
  /-- position in the bank, 0 … 48, 48 the spare -/
  adc : Nat := 0
  /-- 0 not started, 1 overlap before, 2 measuring, 3 overlap after, 4 done -/
  stage : Nat := 0
  /-- the spare serves for the ADC -/
  spareServes : Bool := false
  /-- trims measured in this step: offset image and gain -/
  result : Option (Nat × Nat) := none
  /-- a host write discards the result (R203) -/
  discarded : Bool := false
  /-- the rotation in progress began after the last reset or restore, and a full one has completed since (R203) -/
  fresh : Bool := true
  full : Bool := false
  deriving DecidableEq, Repr

/-- State of rails and the control engine (chapter 07). -/
structure RailsState where
  rails : Sparse RailState := []
  /-- the lanes of the control engine, by number (R194) -/
  lanes : Sparse LaneState := []
  voltageBank : RotationState := {}
  currentBank : RotationState := {}
  /-- shadows of COEF_TABLE and COEF_MAP, keyed as `tabs`, value byte + 1 (R187) -/
  shadow : Sparse Nat := []
  deriving DecidableEq, Repr

/-- One Rovan port below the packet layer (09 R226 to R243); its state, status and counters are objects. -/
structure PortLink where
  /-- markers found (SEEK): physical polarity of each receive lane and the skew in ps (R234, R236) -/
  inv0 : Bool := false
  inv1 : Bool := false
  skew : Int := 0
  /-- valid control words since entry to IDENTIFY on each physical lane, at most 3, and the last one (R235) -/
  count0 : Nat := 0
  count1 : Nat := 0
  word0 : Nat := 0
  word1 : Nat := 0
  /-- flags sent: RX_LOCKED, RX_ADAPTED, RX_VERIFIED, BODY_PRBS31 (R232, R233) -/
  rxLocked : Bool := false
  rxAdapted : Bool := false
  rxVerified : Bool := false
  bodyPrbs31 : Bool := false
  /-- the neighbour has reported RX_LOCKED (R234) -/
  peerLocked : Bool := false
  /-- frames in a row with RX_VERIFIED on each physical lane, at most 3 (R234) -/
  verified0 : Nat := 0
  verified1 : Nat := 0
  /-- TRAIN_ATTEMPTS (R245 Table 6) -/
  attempts : Nat := 0
  /-- the PRBS31Q checker of each lane has locked: the window is open (R235) -/
  checked0 : Bool := false
  checked1 : Bool := false
  /-- failed verifications since entry to IDENTIFY (R235) -/
  fails : Nat := 0
  /-- tick of entry to IDENTIFY (R234) -/
  trainStart : Nat := 0
  /-- HANDOFF: own data started, and the neighbour's countdown 0 received (R234) -/
  ownData : Bool := false
  peerZero : Bool := false
  /-- AM_COUNT of the last alignment codeword found and of the codewords at expected positions since (R237, R238) -/
  amLast : Option Nat := none
  amMissRun : Nat := 0
  ueRun : Nat := 0
  /-- READY frames sent in HANDOFF (R236) -/
  ready : Nat := 0
  /-- tick up to which the locked checker of each lane has counted in TEST (R241) -/
  checked0At : Nat := 0
  checked1At : Nat := 0
  /-- corrected symbols of the second in progress, and seconds in a row at or below the limit (R240) -/
  serCount : Nat := 0
  goodSeconds : Nat := 0
  /-- transmit objects in force: FFE and SWING of each lane (R243) -/
  ffe0 : Nat := 0x0400
  swing0 : Nat := 1000
  ffe1 : Nat := 0x0400
  swing1 : Nat := 1000
  /-- the wake pattern is being sent (10 R266) -/
  waking : Bool := false
  deriving DecidableEq, Repr

/-- A Rovan packet as received with a good header (10 R246 to R248). `fields` are bytes 8 to 27; `bodyOk` says whether its
trailer is right, `marked` counts the payload blocks marked in error. -/
structure Packet where
  kind : Nat
  hops : Nat
  dest : Nat
  source : Nat
  fields : Bytes
  payload : Bytes
  bodyOk : Bool
  marked : Nat
  deriving DecidableEq, Repr

/-- A packet of the device's own that waits for a port (10 R252): class 1 to 4, bytes 8 to 27 and payload. -/
structure LocalPacket where
  port : Port
  cls : Nat
  kind : Nat
  dest : Nat
  fields : Bytes
  payload : Bytes
  /-- SOURCE, set as it starts to leave (R246) -/
  source : Nat := 0xFF
  /-- it is the last packet of an echo frame (R258) -/
  lastEcho : Bool := false
  deriving DecidableEq, Repr

/-- One block of the delay line of an outgoing stream (10 R251); `ends` is the local packet whose last block it is. -/
structure LineBlock where
  block : Block := {}
  ends : Option LocalPacket := none
  deriving DecidableEq, Repr

/-- The streams of one port (09 R228 to R231, 10 R248 to R252). -/
structure PortStream where
  /-- received blocks that the packet layer has not taken, oldest first: the packet in progress stands at the front -/
  rx : List RxBlock := []
  /-- fill of the elastic buffer, in blocks (10 R249; assumption log 166) -/
  fill : Nat := 16
  /-- levels received last on each logical lane: the memory of the inverse precoder (09 R229) -/
  heard0 : Nat := 0
  heard1 : Nat := 0
  /-- delay line of the outgoing stream, the next block to leave first (10 R251) -/
  line : List LineBlock := List.replicate 48 {}
  /-- blocks that have left it for the codeword in formation, oldest first -/
  forming : List Block := []
  /-- blocks that have left since the last IDLE (10 R249) -/
  sinceIdle : Nat := 0
  /-- codewords sent since data mode began (09 R230) -/
  codewords : Nat := 0
  /-- levels sent last on each lane: the memory of the precoder -/
  sent0 : Nat := 0
  sent1 : Nat := 0
  /-- training frames sent, the source of SEQ (09 R232) -/
  frames : Nat := 0
  /-- PRBS13 registers of the lanes, from their seeds (09 R231) -/
  body0 : Nat := 0x0ACE
  body1 : Nat := 0x1535
  /-- PRBS31 registers of the lanes; none before the first such body, which starts from a free value (assumption log 165) -/
  long0 : Option Nat := none
  long1 : Option Nat := none
  deriving DecidableEq, Repr

/-- State of the two ports (chapter 09). -/
structure LinkState where
  portA : PortLink := {}
  portB : PortLink := {}
  streamA : PortStream := {}
  streamB : PortStream := {}
  deriving DecidableEq, Repr

/-- An event notification in the queue (10 R257). -/
structure Event where
  code : Nat
  time : Nat
  data : Bytes
  deriving DecidableEq, Repr

/-- One ANNOUNCE taken, its own included (10 R261 to R263). -/
structure Announce where
  serial : Nat
  tile : Nat
  position : Nat
  reverse : Nat
  cls : Nat
  deriving DecidableEq, Repr

/-- State of the packet layer (chapter 10). -/
structure TrafficState where
  /-- local packets that wait, oldest first (R252) -/
  queue : List LocalPacket := []
  /-- the event queue, oldest first, at most 64 (R257) -/
  events : List Event := []
  /-- tokens of UPSTREAM_RESERVE in 1/64000 block (R252) -/
  tokens : Nat := 0
  /-- ANNOUNCE packets of the enumeration in progress (R262) -/
  announces : List Announce := []
  /-- an election is to come (R262) -/
  electing : Bool := false
  /-- ends taken under the ENUM_ID in force, and whether RING was set in them (R260) -/
  primary : Option Bool := none
  secondary : Option Bool := none
  /-- stream frames abandoned at a failover: layer and FRAME_NUMBER (R264) -/
  abandoned : List (Nat × Nat) := []
  /-- ports whose arriving SYNC found no correction value in time (02 R42 H08): it is not forwarded -/
  syncLost : List Nat := []
  /-- port on which the wake pattern is relayed once LINK runs (R266) -/
  relay : Option Port := none
  deriving DecidableEq, Repr

/-- A burst issued and not yet complete (11 R281, R282): its ring, class and target. `fault` is the cause found at
issue, 0 for none; `tile` is the tile address that was checked last; the other addresses are target addresses, and the
source of a host burst is translated apart. -/
structure Burst where
  ring : Nat
  cls : Nat
  tile : Nat
  length : Nat
  /-- staging SRAM rather than LPDDR5, and the target address, of the destination and of the source -/
  dstStaging : Bool
  dst : Nat
  srcStaging : Bool
  src : Nat
  /-- the burst reads its source from memory, and writes its destination there -/
  reads : Bool
  write : Bool
  fault : Nat
  /-- its place in the order of issue, and the target ranges that bursts issued later have written since (R281) -/
  issue : Nat := 0
  later : List (Nat × Nat) := []
  deriving DecidableEq, Repr

/-- The hidden state of a ring (11 R276 to R289). -/
structure RingState where
  gen : Nat := 1
  /-- the descriptor in progress, its 32 bytes as fetched (R279) -/
  descriptor : Option Bytes := none
  /-- RING_HALT or RING_DESTROY acts at the next burst boundary (R286, R277) -/
  haltWanted : Bool := false
  destroyWanted : Bool := false
  /-- the descriptor in progress is suspended by a higher class (R282) -/
  suspended : Bool := false
  /-- bytes of the FIFO, oldest first (R280) -/
  fifo : Bytes := []
  deriving DecidableEq, Repr

/-- State of the external memory and the rings (chapter 11). -/
structure MemoryState where
  rings : Sparse RingState := []
  inflight : List Burst := []
  /-- bursts issued so far -/
  issued : Nat := 0
  /-- the ring that issued the last burst of each class (R282) -/
  lastRing : Sparse Nat := []
  /-- uncorrectable 64-bit words of LPDDR5 and of the staging SRAM, by word number (R269) -/
  ueWords : List Nat := []
  stagingUe : List Nat := []
  /-- next 256-byte block of the patrol scrub (R271) -/
  scrubBlock : Nat := 0
  deriving DecidableEq, Repr

/-- What one channel knows of one dual input (12 R294 to R296). -/
structure InputState where
  /-- filtered pin levels of the A and B pins -/
  pinA : Bool
  pinB : Bool
  /-- tick at which the pins began to disagree, and whether the discrepancy is recorded -/
  since : Option Nat := none
  discrepant : Bool := false
  /-- proving cycle (R296): a clean entry into demand is in progress; a complete cycle has been seen -/
  entered : Bool := false
  cycled : Bool := false
  /-- the state on which the pins last agreed was demand -/
  lastDemand : Bool := false
  /-- this channel counted the demand that stands, or the disagreement that lasts (R295) -/
  counted : Bool := false
  discCounted : Bool := false
  deriving DecidableEq, Repr

/-- The output test of one channel (12 R317, R318). -/
inductive TestPhase where
  | idle | pulse | readback
  deriving DecidableEq, Repr

/-- One safety channel (12 R291 to R299, R317, R318). -/
structure ChannelState where
  safeBlank : InputState := { pinA := true, pinB := false, lastDemand := true }
  evac : InputState := { pinA := false, pinB := true }
  /-- inputs have been evaluated since reset, so that a permission may be granted -/
  evaluated : Bool := false
  permission : Bool := false
  railen : Bool := false
  /-- filtered level of its own RAILFB ball, and of the other channel's (R291) -/
  railfb : Bool := false
  otherfb : Bool := false
  test : TestPhase := .idle
  /-- the pulse read low at its end (R317) -/
  readLow : Bool := false
  /-- consecutive failures (R317) -/
  fails : Nat := 0
  /-- the output has stayed high for 12 s without a passed test (R318) -/
  overdue : Bool := false
  deriving DecidableEq, Repr

/-- One weir group (12 R315): direction 0, 1 up, 2 down; extremum Yg and the red share at it; counted transitions by
grid time in ns. -/
structure WeirGroup where
  dir : Nat := 0
  ext : Nat := 0
  extRho : Nat := 0
  started : Bool := false
  transitions : List Int := []
  offending : Bool := false
  deriving DecidableEq, Repr

/-- Where a cold start stands (12 R308). -/
inductive ColdStep where
  | none | stopping | loading | scanning | shown
  deriving DecidableEq, Repr

/-- State of the safety functions (chapter 12). -/
structure SafetyState where
  chanA : ChannelState := {}
  chanB : ChannelState := {}
  /-- proven inputs, held in AON (R296) -/
  blankProven : Bool := false
  evacProven : Bool := false
  /-- latched trip causes, held in AON (R298) -/
  trips : List Nat := []
  /-- channel A's last read of MILLBRAKE_COUNT timed out or found no advance (R293) -/
  statusBad : Bool := false
  /-- the Cox has taken a machine check: channel A keeps its output low until a reset (02 R49) -/
  coxChecked : Bool := false
  /-- MILLBRAKE_COUNT at the last status read (R293) -/
  lastCount : Option Nat := none
  /-- a patrol is in progress (R306) -/
  patrolling : Bool := false
  /-- that patrol is the one of a RESET_N release, after which a saved image is loaded (R309) -/
  loadDue : Bool := false
  /-- evacuation: demand recognised at this time of the active domain (ns), or none (R301) -/
  evacFrom : Option Int := none
  /-- the display is active (R300) -/
  evacActive : Bool := false
  /-- a released display ends at the next boundary (R310) -/
  evacEnding : Bool := false
  /-- a demand recognised while the thermal trip is latched (14 R351) -/
  evacHeld : Bool := false
  cold : ColdStep := .none
  /-- bands that failed in the frame to be shown next, and bands whose tap timed out (R302, R303) -/
  failedBands : List Nat := []
  tapLost : List Nat := []
  /-- bands whose replay timed out and that send BLANK for the rest of the frame (02 R42 H11) -/
  replayBlank : List Nat := []
  /-- blanking of a finished safe blank ends at the next frame catch (R298) -/
  blankUntilCatch : Bool := false
  /-- AMBIENT_LUX has been written since reset and within AMBIENT_TIMEOUT (R311) -/
  ambientFresh : Bool := false
  /-- C(z) of the last boundary, keyed by zone (R311) -/
  ceiling : Sparse Nat := []
  /-- consecutive excess frames by zone (R313) -/
  excess : Sparse Nat := []
  /-- weir groups keyed 64 j + i, zone Y at the last transition, slow means keyed zone × 4 + colour (R315, R316) -/
  weir : Sparse WeirGroup := []
  weirZoneY : Sparse Nat := []
  weirMean : Sparse Nat := []
  /-- zones whose slow mean has been taken since scan-drive start -/
  weirSeen : Sparse Nat := []
  weirW : Nat := 16
  weirH : Nat := 8
  /-- lit frames count (R312): gains of the frame in computation are in GLARE_GAINS -/
  glareNow : Bool := false
  deriving DecidableEq, Repr

/-- The AVSBus write whose acknowledge is awaited (14 R340 to R343). -/
inductive AvsWait where
  | raising (level : Nat)
  | lowering (level old oldMillivolts : Nat)
  /-- a margin increase, clocks unchanged (R343) -/
  | margin
  /-- a request outside a transition: wake, stop (R350, R357) -/
  | plain
  deriving DecidableEq, Repr

/-- The S2 configuration image (R356 Table 8), as fields: its layout is not given. -/
structure SleepImage where
  regs : Sparse Nat := []
  tabs : Sparse Byte := []
  profiles : Sparse ProfileState := []
  layers : LayersState := {}
  rings : Sparse RingState := []
  subst : Sparse Nat := []
  overlay : Sparse Nat := []
  primary : Option Bool := none
  secondary : Option Bool := none
  ambientFresh : Bool := false
  deriving DecidableEq, Repr

/-- State of performance levels, housekeeping, temperature and sleep (chapter 14). -/
structure PowerState where
  avs : Option AvsWait := none
  /-- the level whose clocks are switched in: it differs from PERF_LEVEL_IN_FORCE during a lowering (R339, R341) -/
  clockLevel : Nat := 0
  /-- the P3 voltage of an orderly stop waits for the end of a transition (R343, R350) -/
  stopDue : Bool := false
  /-- last PERF_LEVEL written during a transition (R343) -/
  storedLevel : Option Nat := none
  /-- PERF_STATE was HELD when the transition in progress began (R342) -/
  wasHeld : Bool := false
  /-- a margin increase waits for the end of the transition (R343) -/
  marginDue : Bool := false
  /-- tick at which the last transition ended: channel 2 is not judged for 2 ms (R347) -/
  levelEnd : Option Nat := none
  /-- next housekeeping channel (R346) -/
  hkChannel : Nat := 0
  /-- consecutive rounds out of and inside the window by channel (R347) -/
  outRun : Sparse Nat := []
  inRun : Sparse Nat := []
  /-- a temperature reading of this round waits for its plausibility sample (R348) -/
  sensorBad : Bool := false
  hotRun : Nat := 0
  /-- oscillator ratios summed since the last plan, and rounds (R345) -/
  ratioSum : Sparse Nat := []
  ratioRounds : Nat := 0
  planned : Bool := false
  /-- temperature trip, latched in AON (R349) -/
  tripped : Bool := false
  /-- THERMAL_CLEAR waits for the next round start (R352) -/
  clearArmed : Bool := false
  /-- an orderly stop is in progress (R350) -/
  stopping : Bool := false
  /-- S1 requested for the next frame catch; S1 in force (R354) -/
  s1Wanted : Bool := false
  inS1 : Bool := false
  /-- end of S1: tick of the wake; the pipeline restarts at the first frame catch 500 µs later (R354) -/
  s1Wake : Option Nat := none
  /-- one more frame catch and blanking ends (R354) -/
  s1Blank : Bool := false
  /-- entry to S2 or S3 in progress, state held asleep, or state being left (R355, R357) -/
  entering : Option Nat := none
  asleep : Option Nat := none
  leaving : Option Nat := none
  /-- wake sources seen during entry or sleep (R358, R359) -/
  wakes : List Nat := []
  /-- the safe-blank demand that stood at entry still stands: it does not wake the device (R358) -/
  blankStood : Bool := false
  /-- the scan drive was RUNNING at entry (R357) -/
  wasRunning : Bool := false
  /-- the configuration image of the last entry to S2, and what its check at the wake finds (R356) -/
  image : Option SleepImage := none
  imageCheck : ImageCheck := .good
  deriving DecidableEq, Repr

/-- What leaves the balls of the device, as the model observes it (assumption log 3). -/
inductive Output where
  /-- a COP response on the path of its request (15 R368, 10 R255) -/
  | response (r : Response)
  /-- a codeword as the levels of transmit lanes 0 and 1 (09 R228, R229) -/
  | codeword (port : Port) (levels0 levels1 : List Nat)
  /-- a training frame as the levels of transmit lanes 0 and 1 (09 R231) -/
  | trainingFrame (port : Port) (levels0 levels1 : List Nat)
  /-- the wake pattern starts (10 R266) -/
  | wakePattern (port : Port)
  /-- a timing symbol of a band link by its name in 05 R130 -/
  | symbol (band code : Nat)
  /-- a packet on a band link: the bytes between SOP and EOP, which are TYPE, ADDR, payload and CRC (05 R131) -/
  | bandPacket (band : Nat) (frame : Bytes)
  /-- an AVSBus voltage write, mV (14 R340) -/
  | avsWrite (rail millivolts : Nat)
  /-- an ARP reply to an IPv4 and MAC address (15 R370) -/
  | arpReply (mac ip : Nat)
  /-- an ICMP echo reply (15 R370) -/
  | echoReply (ip : Nat) (payload : Bytes)
  /-- a PTP Delay_Req on the T1S port (08 R215) -/
  | ptpDelayReq (seq : Nat)
  /-- the bits that a JTAG data register shifts out, first bit first (13 R337, 16 R402) -/
  | jtag (bits : List Bool)
  /-- LPDDR5 enters or leaves self-refresh (14 R355) -/
  | selfRefresh (on : Bool)
  deriving DecidableEq, Repr

/-- The state of the block. -/
structure State where
  /-- the commands that wait, first in, first out -/
  pending : List Instr := []
  /-- every object that is no DOMAIN, keyed object × 65 536 + bank selector, off its default (15 R363) -/
  regs : Sparse Nat := []
  /-- bytes of the DOMAIN objects in force, keyed object × 131 072 + offset, off their default -/
  tabs : Sparse Byte := []
  /-- LPDDR5 by physical address, the staging SRAM, the beacon store and the boot flash, by byte -/
  mem : Sparse Byte := []
  staging : Sparse Byte := []
  beacon : Sparse Byte := []
  flash : Sparse Byte := []
  device : DeviceState := {}
  cop : CopState := {}
  fault : FaultState := {}
  time : TimeState := {}
  pipe : PipeState := {}
  layers : LayersState := {}
  scan : ScanState := {}
  diag : DiagState := {}
  rails : RailsState := {}
  link : LinkState := {}
  traffic : TrafficState := {}
  memory : MemoryState := {}
  safety : SafetyState := {}
  power : PowerState := {}
  /-- what has left the device, newest first (assumption log 3) -/
  out : List Output := []
  /-- TIME ticks since the start, the model's measure of elapsed time (assumption log 2) -/
  ticks : Nat := 0
  /-- free values drawn so far (assumption log 4) -/
  freeCtr : Nat := 0
  deriving DecidableEq, Repr

/-- The machine at the assertion of the internal power-on reset (16 R398): every object at its default, every island
off, nothing written in any memory. -/
def State.reset : State :=
  { device := { islands := [(0, .off), (1, .off), (2, .off), (3, .off), (4, .off), (5, .off), (6, .off), (7, .off)] } }

end Sys2Proof.Machine
end

