-- ==== Sys2Proof/Machine/Ops.lean ====
section
/-! DEFINITION. The named operations over the state: objects and their tables, memories, time, islands, free values,
outputs, fault occurrences and event notifications. Every meaning reads and writes the state through these. -/

namespace Sys2Proof.Machine

/-! ### Objects -/

/-- Default of an object (R12): the tables' column; LAYERl_SOURCE of L0 and L6 (04 R121) and RINGr_STATE of the
device rings (11 R290) differ by instance. -/
def objDefault (obj : Nat) : Nat :=
  if obj = Obj.LAYER_SOURCE 0 then 1
  else if obj = Obj.LAYER_SOURCE 6 then 2
  else if Obj.RING_STATE 0 ≤ obj && obj ≤ Obj.RING_STATE 7 && obj % 256 == 2 then 5
  else ((rowOf obj).map (·.dflt)).getD 0

/-- Default of an object register key. -/
def regDefault (k : Nat) : Nat := objDefault (k / 65536)

/-- Key of an object and a bank selector. -/
def regKey (obj sel : Nat) : Nat := obj * 65536 + sel

/-- The value of an object under a bank selector. -/
def State.regAt (s : State) (obj sel : Nat) : Nat := Sparse.get regDefault s.regs (regKey obj sel)

/-- The value of an object. -/
def State.reg (s : State) (obj : Nat) : Nat := s.regAt obj 0

/-- Write an object under a bank selector. -/
def State.setRegAt (s : State) (obj sel v : Nat) : State :=
  { s with regs := Sparse.set regDefault s.regs (regKey obj sel) v }

/-- Write an object. -/
def State.setReg (s : State) (obj v : Nat) : State := s.setRegAt obj 0 v

/-- Width in bits of an object's image (15 R363). -/
def widthOf (obj : Nat) : Nat :=
  match rowOf obj with
  | some ⟨_, .fixed n, _, _, _, _, _, _⟩ => 8 * n
  | some ⟨_, .bool, _, _, _, _, _, _⟩ => 8
  | some ⟨_, .domain _, _, _, _, _, _, _⟩ => 32
  | some ⟨_, .cmd, _, _, _, _, _, _⟩ => 64
  | none => 32

/-- Add to a counter under a selector; it wraps at its width. -/
def State.bumpAt (s : State) (obj sel n : Nat) : State :=
  s.setRegAt obj sel ((s.regAt obj sel + n) % 2 ^ widthOf obj)

/-- Add one to a counter that wraps at its width. -/
def State.bump (s : State) (obj : Nat) : State := s.bumpAt obj 0 1

/-- Add one to a counter that saturates at its width, under a selector. -/
def State.bumpSatAt (s : State) (obj sel : Nat) : State :=
  s.setRegAt obj sel (min (s.regAt obj sel + 1) (2 ^ widthOf obj - 1))

/-- Add one to a counter that saturates at its width. -/
def State.bumpSat (s : State) (obj : Nat) : State := s.bumpSatAt obj 0

/-- Put objects back to their defaults under every selector. -/
def State.clearRegs (s : State) (objs : List Nat) : State :=
  { s with regs := Sparse.clearIf s.regs fun k => objs.contains (k / 65536) }

/-- Put objects back to their defaults for every instance of their group: `objs` are index and subindex of instance 0,
`count` instances follow. -/
def repeated (count : Nat) (objs : List Nat) : List Nat :=
  objs.flatMap fun o => (List.range count).map fun i => o + 256 * i

/-! ### Tables -/

/-- Key of byte `o` of a DOMAIN object. -/
def tabKey (obj o : Nat) : Nat := obj * 131072 + o

/-- Byte `o` of a table in force. -/
def State.tabByte (s : State) (obj o : Nat) : Byte := Sparse.get domDefault s.tabs (tabKey obj o)

/-- `n` bytes of a table in force as a number. -/
def State.tabNat (s : State) (obj o n : Nat) : Nat := leNat (Sparse.getList domDefault s.tabs (tabKey obj o) n)

/-- `n` bytes of a table in force. -/
def State.tabBytes (s : State) (obj o n : Nat) : Bytes := Sparse.getList domDefault s.tabs (tabKey obj o) n

/-- Write bytes of a table in force. -/
def State.setTab (s : State) (obj o : Nat) (bs : Bytes) : State :=
  { s with tabs := Sparse.setList domDefault s.tabs (tabKey obj o) bs }

/-- Put the whole table in force back to its default. -/
def State.clearTab (s : State) (obj : Nat) : State :=
  { s with tabs := Sparse.clear s.tabs (tabKey obj 0) (tabKey (obj + 1) 0) }

/-- Bit `n` of a table in force. -/
def State.tabBit (s : State) (obj n : Nat) : Bool := (s.tabByte obj (n / 8)).getLsbD (n % 8)

/-- A U32 counter of a table; it wraps. -/
def State.bumpTab (s : State) (obj o n bytes : Nat) : State :=
  s.setTab obj o (natLE bytes ((s.tabNat obj o bytes + n) % 256 ^ bytes))

/-! ### Memories: LPDDR5 by physical address, the staging SRAM, the beacon store, the boot flash -/

/-- What a byte of LPDDR5, staging SRAM or beacon store reads as before anything is written (assumption log 5). -/
def ramDefault (_ : Nat) : Byte := 0#8

/-- What an erased byte of the boot flash reads as (assumption log 6). -/
def flashDefault (_ : Nat) : Byte := 0xFF#8

/-- `n` bytes of LPDDR5. -/
def State.memBytes (s : State) (a n : Nat) : Bytes := Sparse.getList ramDefault s.mem a n

/-- Write LPDDR5. -/
def State.setMem (s : State) (a : Nat) (bs : Bytes) : State := { s with mem := Sparse.setList ramDefault s.mem a bs }

/-- `n` bytes of the staging SRAM. -/
def State.stagingBytes (s : State) (a n : Nat) : Bytes := Sparse.getList ramDefault s.staging a n

/-- Write the staging SRAM. -/
def State.setStaging (s : State) (a : Nat) (bs : Bytes) : State :=
  { s with staging := Sparse.setList ramDefault s.staging a bs }

/-- `n` bytes of the beacon store. -/
def State.beaconBytes (s : State) (a n : Nat) : Bytes := Sparse.getList ramDefault s.beacon a n

/-- Write the beacon store. -/
def State.setBeacon (s : State) (a : Nat) (bs : Bytes) : State :=
  { s with beacon := Sparse.setList ramDefault s.beacon a bs }

/-- `n` bytes of the boot flash. -/
def State.flashBytes (s : State) (a n : Nat) : Bytes := Sparse.getList flashDefault s.flash a n

/-- Program the boot flash. -/
def State.setFlash (s : State) (a : Nat) (bs : Bytes) : State :=
  { s with flash := Sparse.setList flashDefault s.flash a bs }

/-- Erase an area of the boot flash. -/
def State.eraseFlash (s : State) (lo n : Nat) : State := { s with flash := Sparse.clear s.flash lo (lo + n) }

/-! ### Free values, outputs, islands -/

/-- The next free value (assumption log 4). -/
def State.free (s : State) : Nat := Config.freeNat s.freeCtr

/-- One free value has been drawn. -/
def State.drawn (s : State) : State := { s with freeCtr := s.freeCtr + 1 }

/-- Something leaves the device. -/
def State.emit (s : State) (o : Output) : State := { s with out := o :: s.out }

/-- The state of island `i` (02 R45). -/
def State.island (s : State) (i : Nat) : IslandMode := Sparse.get (fun _ => IslandMode.running) s.device.islands i

/-- Set the state of island `i`. -/
def State.setIsland (s : State) (i : Nat) (m : IslandMode) : State :=
  { s with device := { s.device with islands := Sparse.set (fun _ => IslandMode.running) s.device.islands i m } }

/-- Island `i` runs. -/
def State.runs (s : State) (i : Nat) : Bool := s.island i == .running

/-! ### Crossings (02 R39 to R41) -/

/-- Crossing Hh. -/
def State.crossing (s : State) (h : Nat) : Crossing := Sparse.get (fun _ => {}) s.device.crossings h

/-- Replace crossing Hh. -/
def State.setCrossing (s : State) (h : Nat) (x : Crossing) : State :=
  { s with device := { s.device with crossings := Sparse.set (fun _ => {}) s.device.crossings h x } }

/-- A transfer runs through its four phases: its request carries the tag that the last one did not, the acknowledge
returns that tag, and both lines are low again (02 R39). -/
def Crossing.completed (x : Crossing) : Crossing :=
  { x with req := false, ack := false, step := 0, elapsed := 0, reqTag := !x.reqTag, ackTag := !x.reqTag }

/-- A transfer over crossing Hh completes. -/
def State.crossed (s : State) (h : Nat) : State := s.setCrossing h (s.crossing h).completed

/-- `n` transfers over crossing Hh complete. -/
def State.crossedTimes (s : State) (h n : Nat) : State :=
  if n = 0 then s else if n % 2 = 1 then s.crossed h else (s.crossed h).crossed h

/-- A request that times out is withdrawn; its tag is remembered until its late acknowledge (02 R41). -/
def Crossing.withdraw (x : Crossing) : Crossing :=
  { x with req := false, ack := false, step := 0, elapsed := 0, reqTag := !x.reqTag, withdrawn := x.withdrawn ++ [!x.reqTag] }

/-- An access of the object agent reaches the island of its object through H09; one to COX itself crosses nothing
(02 R37, R42). -/
def State.accessed (s : State) (obj : Nat) : State :=
  if islandOf obj != 6 && s.runs (islandOf obj) then s.crossed 9 else s

/-! ### Time (08) -/

/-- A domain counter in 2^-32 ns as a TIME80 image: seconds in the low 48 bits, nanoseconds above (15 R363). -/
def packTime (c : Nat) : Nat := c / 4294967296 / 1000000000 + c / 4294967296 % 1000000000 * 281474976710656

/-- Nanoseconds of a TIME80 image at face value (15 R363, 08 R207). -/
def timeNs (t : Nat) : Nat := t % 281474976710656 * 1000000000 + t / 281474976710656

/-- A domain (08 R206). -/
def State.dom (s : State) : Dom → DomState
  | .a => s.time.domA
  | .b => s.time.domB

/-- Replace a domain. -/
def State.setDom (s : State) (d : Dom) (x : DomState) : State :=
  match d with
  | .a => { s with time := { s.time with domA := x } }
  | .b => { s with time := { s.time with domB := x } }

/-- The active domain that the catch generator follows (08 R220). -/
def State.active (s : State) : Dom := if s.time.catchGen.dom = 1 then .b else .a

/-- The time of the active domain in 2^-32 ns. -/
def State.now (s : State) : Nat := (s.dom s.active).counter

/-- The time of the active domain in whole ns. -/
def State.nowNs (s : State) : Nat := s.now / 4294967296

/-- The domain A time as a TIME80 image: the time stamp of every record of the manual. -/
def State.stampA (s : State) : Nat := packTime s.time.domA.counter

/-- The active domain's time as a TIME80 image. -/
def State.stamp (s : State) : Nat := packTime s.now

/-! ### Fault occurrences and events -/

/-- One occurrence of a pulse source, held by its origin (13 R326). -/
def State.occur (s : State) (n : Nat) : State :=
  let held := Sparse.set (fun _ => 0) s.fault.waiting n (min (Sparse.get (fun _ => 0) s.fault.waiting n + 1) 65535)
  { s with fault := { s.fault with waiting := held } }

/-- An event enters the queue, to take its sequence number as it is sent; on a full queue it is dropped, and the sequence
still advances (10 R257). -/
def State.event (s : State) (code : Nat) (data : Bytes) : State :=
  let e : Event := { code := code, time := s.stampA, data := data }
  if s.traffic.events.length < 64 then
    { s with traffic := { s.traffic with events := s.traffic.events ++ [e] } }
  else (s.bump Obj.EVENT_SEQUENCE).bump Obj.EVENTS_DROPPED

/-- A BOOL object as a truth value. -/
def State.flag (s : State) (obj : Nat) : Bool := s.reg obj != 0

/-- Write a BOOL object. -/
def State.setFlag (s : State) (obj : Nat) (b : Bool) : State := s.setReg obj (b2n b)

/-! ### Small list helpers -/

/-- Insert a number once. -/
def insertOnce (n : Nat) (l : List Nat) : List Nat := if l.contains n then l else l ++ [n]

/-- Remove a number. -/
def remove (n : Nat) (l : List Nat) : List Nat := l.filter (· != n)

/-- Apply `f` to 0 … n − 1 in turn. -/
def foldN {α : Type} (n : Nat) (f : α → Nat → α) (a : α) : α := (List.range n).foldl f a

/-- The bytes of a mask whose bit `i` is `f i`. -/
def maskBytes (bytes : Nat) (f : Nat → Bool) : Bytes :=
  (List.range bytes).map fun j => BitVec.ofNat 8 ((List.range 8).foldl (fun a i => a + b2n (f (8 * j + i)) * 2 ^ i) 0)

/-- A mask of `n` bits whose bit `i` is `f i`, as a number. -/
def maskNat (n : Nat) (f : Nat → Bool) : Nat := (List.range n).foldl (fun a i => a + b2n (f i) * 2 ^ i) 0

/-- The index of a port, domain or channel. -/
def portIx : Port → Nat
  | .a => 0
  | .b => 1

/-- The other port. -/
def otherPort : Port → Port
  | .a => .b
  | .b => .a

/-- Port of an index. -/
def portOf (n : Nat) : Port := if n = 1 then .b else .a

/-- Index of a domain. -/
def domIx : Dom → Nat
  | .a => 0
  | .b => 1

end Sys2Proof.Machine
end

