-- ==== Sys2Proof/Machine/Flags.lean ====
section
/-! DEFINITION. What the manual forms from the state instead of storing: the demands and permissions of the safety
channels (12 R295 to R299), the condition of each fault source (13 R332 Table 1), the levels of the safety outputs,
and the two wrappers `gate` and `settle` through which every event acts. -/

namespace Sys2Proof.Machine

/-! ### Instances -/

/-- Rail `n` (07). -/
def State.rail (s : State) (n : Nat) : RailState := Sparse.get (fun _ => {}) s.rails.rails n

/-- Replace rail `n`. -/
def State.setRail (s : State) (n : Nat) (r : RailState) : State :=
  { s with rails := { s.rails with rails := Sparse.set (fun _ => {}) s.rails.rails n r } }

/-- Band `b` (05). -/
def State.band (s : State) (b : Nat) : BandState := Sparse.get (fun _ => {}) s.scan.bands b

/-- Replace band `b`. -/
def State.setBand (s : State) (b : Nat) (x : BandState) : State :=
  { s with scan := { s.scan with bands := Sparse.set (fun _ => {}) s.scan.bands b x } }

/-- A safety channel (12). -/
def State.chan (s : State) : Channel → ChannelState
  | .a => s.safety.chanA
  | .b => s.safety.chanB

/-- Replace a safety channel. -/
def State.setChan (s : State) (c : Channel) (x : ChannelState) : State :=
  match c with
  | .a => { s with safety := { s.safety with chanA := x } }
  | .b => { s with safety := { s.safety with chanB := x } }

/-- The other channel. -/
def otherChannel : Channel → Channel
  | .a => .b
  | .b => .a

/-! ### Safety channels (12) -/

/-- A demand stands on a dual input while either pin demands: the A pin high, the B pin low (R294, R295). -/
def InputState.demand (i : InputState) : Bool := i.pinA || !i.pinB

/-- The pins of a dual input agree. -/
def InputState.agree (i : InputState) : Bool := i.pinA != i.pinB

/-- The safe-blank demand stands in either channel (R295). -/
def State.blankDemand (s : State) : Bool := s.safety.chanA.safeBlank.demand || s.safety.chanB.safeBlank.demand

/-- The evacuation demand stands in either channel (R295). -/
def State.evacDemand (s : State) : Bool := s.safety.chanA.evac.demand || s.safety.chanB.evac.demand

/-- The reaction level in force of a source, floored and capped (13 R330). -/
def State.reaction (s : State) (n : Nat) : Nat :=
  max (min (s.tabByte Obj.FAULT_REACTION n).toNat 3) (reactionFloor n)

/-- A BLANK reaction stands: a latched source at level 3 (13 R329). -/
def State.blankReaction (s : State) : Bool := s.fault.latched.any fun n => s.reaction n == 3

/-- A safe blank holds: a demand, a latched trip or a BLANK reaction (R298, R299, 13 R329). -/
def State.safeBlank (s : State) : Bool := s.blankDemand || !s.safety.trips.isEmpty || s.blankReaction

/-- A hard thermal stop stands: both outputs are low until the trip ends (14 R350, R352). -/
def State.hardStopped (s : State) : Bool := s.power.tripped && s.reg Obj.THERMAL_STOP_KIND == 2

/-- A channel may grant its rail permission: its inputs are evaluated, its own view of the safe-blank input is
released, no trip, BLANK reaction or hard thermal stop stands, and for channel A the Cox has taken no machine check
(R292, R298, 13 R329, 14 R350, 02 R49). -/
def State.mayPermit (s : State) (c : Channel) : Bool :=
  (s.chan c).evaluated && !(s.chan c).safeBlank.demand && s.safety.trips.isEmpty && !s.blankReaction && !s.hardStopped &&
  !(c == .a && s.safety.coxChecked)

/-- Both rail permissions are present (R292). -/
def State.permitted (s : State) : Bool := s.safety.chanA.permission && s.safety.chanB.permission

/-- The limits of R296 are in force. -/
def State.provingCap (s : State) : Bool :=
  !(s.safety.blankProven && s.safety.evacProven) && !s.safety.evacActive

/-- SAFETY_STATUS, formed at every read (R323 Table 7). -/
def State.safetyStatus (s : State) : Nat :=
  maskNat 17 fun
    | 0 => s.blankDemand
    | 1 => s.evacDemand
    | 2 => s.safeBlank
    | 3 => s.safety.evacActive
    | 4 => s.safety.blankProven
    | 5 => s.safety.evacProven
    | 6 => s.provingCap
    | 7 => s.safety.trips.contains 1
    | 8 => s.safety.trips.contains 2
    | 9 => s.safety.trips.any fun c => c == 3 || c == 4 || c == 5
    | 10 => s.safety.chanA.permission
    | 11 => s.safety.chanB.permission
    | 12 => s.flag Obj.BEACON_VALID
    | 13 => s.reg Obj.REPLAY_BANDS != 0
    | 14 => s.safety.chanA.safeBlank.discrepant || s.safety.chanB.safeBlank.discrepant
    | 15 => s.safety.chanA.evac.discrepant || s.safety.chanB.evac.discrepant
    | 16 => s.safety.weir.any fun g => g.2.offending
    | _ => false

/-- SAFETY_PINS: filtered levels as channel A sees them, and the outputs, held low by EXTEST (R323 Table 6, 16 R402). -/
def State.safetyPins (s : State) : Nat :=
  let a := s.safety.chanA
  let b := s.safety.chanB
  b2n a.safeBlank.pinA + 2 * b2n a.safeBlank.pinB + 4 * b2n a.evac.pinA + 8 * b2n a.evac.pinB +
    16 * b2n a.railfb + 32 * b2n a.otherfb +
    (if s.device.tap = 0 then 0 else 64 * b2n a.railen + 128 * b2n b.railen)

/-! ### Conditions of the fault sources (13 Table 1) -/

/-- Some rail satisfies `f`. -/
def State.anyRail (s : State) (f : RailState → Nat → Bool) : Bool :=
  (List.range 48).any fun n => f (s.rail n) (s.reg (Obj.RAIL_FAULT_CAUSE n))

/-- The condition of a condition source; false for pulse and reserved sources (R332 Table 1). -/
def State.condition (s : State) (n : Nat) : Bool :=
  match n with
  | 9 => s.fault.clockFault
  | 17 => s.fault.pllUnlocked.any fun i => s.runs i
  | 29 => s.flag Obj.LINK_LOSS_ACTIVE
  | 30 => s.reg Obj.L7_ARM_STATE == 4
  | 32 => s.reg Obj.BANDS_FAILED != 0
  | 34 => s.scan.bands.any fun b => b.2.nodes.any fun x => x.2.dark
  | 41 => s.reg Obj.DEFECT_TABLE_FULL != 0
  | 48 => s.anyRail fun r c => r.mode == .faultOff && c == 1
  | 49 => s.anyRail fun r c => r.mode == .hold || (r.mode == .faultOff && c == 2)
  | 50 => s.anyRail fun r c => r.mode == .faultOff && c == 3
  | 51 => s.anyRail fun r c => r.mode == .faultOff && c == 4
  | 52 => s.anyRail fun r c => (c == 5 && r.mode == .manualDuty) || (c == 6 && r.mode == .manualV)
  | 53 => s.anyRail fun r _ => r.headroom == .safe
  | 56 => (s.dom s.active).mode == .holdover
  | 62 => s.flag (Obj.PORT_DEGRADED 0) || s.flag (Obj.PORT_DEGRADED 1)
  | 64 => s.reg Obj.SOURCE_PORT == 2 && (s.traffic.primary.isSome || s.traffic.secondary.isSome)
  | 65 => s.flag Obj.ADDRESS_DUPLICATE
  | 68 => s.reg Obj.MEM_STATE == 4
  | 74 => s.safety.chanA.safeBlank.discrepant || s.safety.chanB.safeBlank.discrepant
  | 75 => s.safety.chanA.evac.discrepant || s.safety.chanB.evac.discrepant
  | 76 => (s.safety.chanA.overdue && s.safety.chanA.permission) || (s.safety.chanB.overdue && s.safety.chanB.permission)
  | 77 => s.safety.trips.contains 2
  | 78 => s.reg Obj.EVAC_STATE == 3
  | 80 => s.fault.heartbeatLost
  | 81 => s.safety.trips.contains 4
  | 82 => s.safety.trips.contains 1
  | 83 => s.provingCap
  | 84 => s.blankDemand
  | 85 => s.evacDemand
  | 86 => s.safety.weir.any fun g => g.2.offending
  | 87 => s.power.tripped
  | 88 => s.power.sensorBad
  | 90 => s.reg Obj.SUPPLY_FAULT_MASK != 0
  | 91 => s.reg Obj.MARGIN_MV == min (s.reg Obj.MARGIN_CEILING) 50
  | _ => false

/-- A reserved source: never live, its force bit has no effect (R332). -/
def reservedSource (n : Nat) : Bool :=
  (21 ≤ n && n ≤ 23) || n == 31 || n == 38 || n == 39 || (44 ≤ n && n ≤ 47) || n == 60 + 6 || n == 60 + 7 ||
  n == 72 || n == 73 || n == 93 || n == 94 || 96 ≤ n

/-- A pulse source (R332 Table 1, kind P). -/
def pulseSource (n : Nat) : Bool :=
  n ≤ 8 || (10 ≤ n && n ≤ 16) || (18 ≤ n && n ≤ 20) || (24 ≤ n && n ≤ 28) || n == 33 || n == 35 || n == 36 ||
  n == 37 || n == 40 || n == 42 || n == 43 || n == 54 || n == 55 || (57 ≤ n && n ≤ 61) || n == 63 ||
  (69 ≤ n && n ≤ 71) || n == 79 || n == 89 || n == 92

/-- The force bit in force of a source (R331). -/
def State.forced (s : State) (n : Nat) : Bool := s.tabBit Obj.FAULT_FORCE n

/-- The pair of a source reports a fault, or its force bit is set: what its live bit stands for (R324, R326, R331). -/
def State.reporting (s : State) (n : Nat) : Bool :=
  !reservedSource n &&
  (s.forced n || s.condition n || s.fault.pulsing.contains n || s.fault.discrepant.contains n ||
   (n == 95 && !s.fault.discrepant.isEmpty))

/-- After every event, a live bit whose source no longer reports is 0 (R326). Rises are FAULT_SOURCE_RISE (R327). -/
def settle (s : State) : State := { s with fault := { s.fault with live := s.fault.live.filter s.reporting } }

/-- A latched alarm-class source holds FAULT_N low (R329, R333). -/
def State.alarm (s : State) : Bool := s.fault.latched.any fun n => 2 ≤ s.reaction n

/-- FAULT_N is low (R333, R334). -/
def State.faultPinLow (s : State) : Bool :=
  s.alarm || !s.fault.held.isEmpty || s.device.frozen ||
  s.device.phase == .powerOnReset || s.device.phase == .resetHeld

/-! ### The gate of every event -/

/-- The outcome of an event that needs `ok` to occur at all. After JTAG_EXTEST nothing but a reset is defined
(16 R402); an event that cannot occur in the present state, such as one of a stopped or frozen island (02 R44, 13
R336), changes nothing. -/
def gate (ok : Bool) (op : State → State) (s : State) : Host.Outcome State Fault Refusal :=
  if s.device.extest then .fault .functionalStateUndefined
  else if ok then .next (settle (op s))
  else .next s

/-- An island runs and the device is not frozen. -/
def State.alive (s : State) (i : Nat) : Bool := !s.device.frozen && s.runs i

/-- An event of island `i`. -/
def onIsland (i : Nat) (op : State → State) (s : State) : Host.Outcome State Fault Refusal := gate (s.alive i) op s

/-- An event of island `i` that needs a further condition. -/
def onIslandIf (i : Nat) (ok : State → Bool) (op : State → State) (s : State) : Host.Outcome State Fault Refusal :=
  gate (s.alive i && ok s) op s

/-- An event of the always-on island, which a freeze stops too (13 R336). -/
def onAon (ok : State → Bool) (op : State → State) (s : State) : Host.Outcome State Fault Refusal :=
  gate (!s.device.frozen && ok s) op s

/-- A reset: it acts whatever the device does, a freeze and an undefined functional state included (13 R336, 16 R402). -/
def onReset (ok : State → Bool) (op : State → State) (s : State) : Host.Outcome State Fault Refusal :=
  if ok s then .next (settle (op s)) else .next s

end Sys2Proof.Machine
end

