-- ==== Sys2Proof/Machine/Operands.lean ====
section
/-! DEFINITION. The operands of requests (15 R363, R364, R368): images of values, arguments of commands, message
headers, and the values that held objects act as. -/

namespace Sys2Proof.Machine

/-! ### Abort codes (15 R377 Table 5) -/

/-- "object does not exist" -/
abbrev abortNoObject : Nat := 0x01000001
/-- "read only" -/
abbrev abortReadOnly : Nat := 0x01000002
/-- "write only" -/
abbrev abortWriteOnly : Nat := 0x01000003
/-- "length wrong" -/
abbrev abortLength : Nat := 0x01000004
/-- "access denied" -/
abbrev abortDenied : Nat := 0x02000001
/-- "key rejected" -/
abbrev abortKey : Nat := 0x02000002
/-- "resource busy" -/
abbrev abortBusy : Nat := 0x03000001
/-- "subsystem running" -/
abbrev abortRunning : Nat := 0x03000002
/-- "stale handle" -/
abbrev abortStale : Nat := 0x03000003
/-- "island asleep" -/
abbrev abortAsleep : Nat := 0x03000004
/-- "island timeout" -/
abbrev abortTimeout : Nat := 0x03000005
/-- "malformed" -/
abbrev abortMalformed : Nat := 0x04000001
/-- "segment out of order" -/
abbrev abortOrder : Nat := 0x04000002
/-- "transfer too long" -/
abbrev abortTooLong : Nat := 0x04000003
/-- "batch full" -/
abbrev abortBatchFull : Nat := 0x05000001
/-- "no batch" -/
abbrev abortNoBatch : Nat := 0x05000002
/-- "batch held" -/
abbrev abortBatchHeld : Nat := 0x05000003
/-- "image invalid" -/
abbrev abortImage : Nat := 0x06000001
/-- "flash failed" -/
abbrev abortFlash : Nat := 0x06000002
/-- "image too long" -/
abbrev abortImageLong : Nat := 0x06000003

/-! ### Requests -/

/-- A whole WRITE of an object in one segment. -/
def wholeWrite (rq : Req) (obj : Nat) (data : Bytes) : Request :=
  { rq := rq, opcode := 2, obj := obj, seg := { isFirst := true, isLast := true, offset := 0 }, snapshot := false,
    data := data }

/-- The argument of a CMD object: bytes beyond those given are 0 (R364). -/
def Request.arg (q : Request) : Nat := leNat q.data

/-- The data length fits the object's type image (R363, R364); a DOMAIN takes any length. -/
def lengthOk (r : ObjRow) (n : Nat) : Bool :=
  match r.ty with
  | .bool => n == 1
  | .fixed b => n == b
  | .domain _ => true
  | .cmd => n ≤ 8

/-- A written value as it is held: a BOOL above 1 acts as 1, reserved bits are dropped (R10, R363). -/
def heldValue (r : ObjRow) (v : Nat) : Nat :=
  match r.ty with
  | .bool => min v 1
  | .fixed _ => Nat.land v r.mask
  | .domain _ => v
  | .cmd => v

/-- The bits of byte `o` of a DOMAIN that are not reserved: the column map (01 R22), transfer and grey tables (03 R63,
R81), sail colours (04 R121), coefficient words (07 R185), slots (07 R194), regions (11 R273) and the factor tables
(12 R323). -/
def keptBits (obj o : Nat) : Byte :=
  let word20 := if o % 4 = 3 then 0#8 else if o % 4 = 2 then 0x0F#8 else 0xFF#8
  if obj = Obj.X_MAP then (if o % 2 = 1 then 0x0F#8 else 0xFF#8)
  else if 0x301000 ≤ obj && obj < 0x301400 && obj % 256 = 8 then word20
  else if Obj.GREY_HIGH_RED ≤ obj && obj ≤ Obj.GREY_LOW_BLUE then word20
  else if 0x350000 ≤ obj && obj < 0x351000 && (obj % 256 = 6 || obj % 256 = 7) then word20
  else if obj = Obj.COEF_TABLE then (if o % 4 = 3 then 0#8 else 0xFF#8)
  else if obj = Obj.SLOT_TABLE then 0x0F#8
  else if obj = Obj.REGION_ENTRY || obj = Obj.REGION_TABLE then
    (if 10 ≤ o % 16 then 0#8 else if o % 16 = 9 then 0x0F#8 else if o % 16 = 8 then 0x03#8 else 0xFF#8)
  else if obj = Obj.AMBIENT_TABLE || obj = Obj.TOD_TABLE then (if 6 ≤ o % 8 then 0#8 else 0xFF#8)
  else 0xFF#8

/-- The bytes of a DOMAIN as they are held: reserved bits are dropped (R10). -/
def heldBytes (obj : Nat) (bs : Bytes) : Bytes := bs.zipIdx.map fun p => p.1 &&& keptBits obj p.2

/-- A request with the reserved bits of a DOMAIN's data dropped. -/
def Request.held (q : Request) (r : ObjRow) : Request :=
  match r.ty with
  | .domain _ => { q with data := heldBytes q.obj q.data }
  | .bool => q
  | .fixed _ => q
  | .cmd => q

/-- Bytes of an object's image (R363). -/
def imageBytes (r : ObjRow) : Nat :=
  match r.ty with
  | .bool => 1
  | .fixed b => b
  | .domain n => n
  | .cmd => 8

/-! ### The message header (R368 Table 2) -/

/-- The code of FLAGS[3:2] of a segment. -/
def segFlags (g : Segment) : Nat := 4 * b2n g.isFirst + 8 * b2n g.isLast

/-- FLAGS of a request (Table 2). -/
def Request.flags (q : Request) : Nat := q.rq.role + segFlags q.seg + 16 * b2n q.snapshot

/-- The bytes of a response message: OPCODE with bit 7 set, the request's header echoed (Table 2). -/
def Response.bytes (r : Response) : Bytes :=
  natLE 1 1 ++ natLE 1 (r.opcode + 128) ++ natLE 2 r.tid ++ natLE 2 (r.obj / 256) ++ natLE 1 r.obj ++
  natLE 1 r.flags ++ natLE 4 r.abort ++ natLE 4 r.total ++ natLE 4 r.offset ++ natLE 2 r.data.length ++ natLE 2 0 ++
  r.data

/-! ### Held values that act within limits -/

/-- An object that acts limited to `lo … hi`. -/
def State.limited (s : State) (obj lo hi : Nat) : Nat := clampN lo hi (s.reg obj)

/-- An object whose value 0 acts as 1. -/
def State.atLeast1 (s : State) (obj : Nat) : Nat := max (s.reg obj) 1

/-- An object whose values above `hi` act as `hi`. -/
def State.atMost (s : State) (obj hi : Nat) : Nat := min (s.reg obj) hi

/-- A signed object of `n` bits. -/
def State.sreg (s : State) (obj n : Nat) : Int := signed n (s.reg obj)

/-! ### Handles (04 R89, R91, 15 R367) -/

/-- The handle of class `cls`, generation and number. -/
def handleOf (cls gen n : Nat) : Nat := cls * 16777216 + gen * 4096 + n

/-- The next generation: 1 … 4 095, never 0 (R89). -/
def nextGen (g : Nat) : Nat := if 4095 ≤ g then 1 else g + 1

end Sys2Proof.Machine
end

