-- ==== Sys2Proof/Machine/Agent.lean ====
section
/-! DEFINITION. The object agent (chapter 15): responses and their records, keys and roles, access checks, island
checks and wake-on-access (02 R45 to R48), DOMAIN assembly and snapshots, and the execution of one request. What an
object's write or read does comes in as an argument. -/

namespace Sys2Proof.Machine

/-! ### Responses -/

/-- The port of a path; none for the T1S port. -/
def viaPort : Via → Option Port
  | .portA => some .a
  | .portB => some .b
  | .t1s => none

/-- Queue a packet of the device's own (10 R252). -/
def State.enqueue (s : State) (p : LocalPacket) : State :=
  { s with traffic := { s.traffic with queue := s.traffic.queue ++ [p] } }

/-- A port is UP (09 R234). -/
def State.up (s : State) (p : Port) : Bool := s.reg (Obj.PORT_STATE (portIx p)) == 7

/-- Send a response on the path of its request: a CONTROL packet out of the port of arrival, lost when that port is
not UP (10 R255), or a datagram of the T1S port (R370). -/
def State.sendResponse (s : State) (r : Response) : State :=
  match viaPort r.via, r.who with
  | some p, .rovan source =>
    if s.up p then
      s.enqueue { port := p, cls := 2, kind := 0x02, dest := source, fields := natLE 20 0, payload := r.bytes }
    else s
  | some _, .t1s _ _ => s
  | none, _ => s.emit (.response r)

/-- Keep a response among the last 16 of its requester, newest first (R369). -/
def keepResponse (rs : List Response) (r : Response) : List Response :=
  let same := (rs.filter (·.who == r.who)).take 15
  r :: rs.filter (fun x => x.who != r.who || same.contains x)

/-- Answer a request: counts of R377, the record of R369, the message of R368. -/
def State.respond (s : State) (q : Request) (abort total : Nat) (data : Bytes) : State :=
  let s1 := if abort = 0 then s else (s.bump Obj.COP_ABORTS).setReg Obj.COP_LAST_ABORT abort
  let s2 := if abort = abortAsleep then s1.bump Obj.ASLEEP_ABORTS else s1
  let r : Response :=
    { via := q.rq.via, who := q.rq.who, tid := q.rq.tid, opcode := q.opcode, obj := q.obj, flags := q.flags,
      offset := q.seg.offset, abort := abort, total := total, data := data }
  { s2 with cop := { s2.cop with responses := keepResponse s2.cop.responses r } }.sendResponse r

/-- The kept response that a repeated request equals (R369). -/
def State.record (s : State) (q : Request) : Option Response :=
  s.cop.responses.find? fun r => r.who == q.rq.who && r.tid == q.rq.tid && r.opcode == q.opcode && r.obj == q.obj

/-! ### Keys (R366) -/

/-- The stored key of a role. -/
def KeyRecord.key (k : KeyRecord) (role : Nat) : Nat :=
  if role = 1 then k.keyOperator else if role = 2 then k.keyService else if role = 3 then k.keyOwner else 0

/-- The role is locked (R366). -/
def State.roleLocked (s : State) (role : Nat) : Bool := bitAt (s.reg Obj.ROLES_LOCKED) role

/-- The key of a request is right: a viewer's is ignored, a stored 0 is open (R366). -/
def State.keyOk (s : State) (rq : Req) : Bool :=
  rq.role == 0 || (!s.roleLocked rq.role && (s.cop.keys.key rq.role == 0 || s.cop.keys.key rq.role == rq.key))

/-- The count of consecutive rejections of a role. -/
def State.keyFail (s : State) (role : Nat) : Nat := Sparse.get (fun _ => 0) s.cop.keyFails role

/-- Set the count of consecutive rejections of a role. -/
def State.setKeyFail (s : State) (role n : Nat) : State :=
  { s with cop := { s.cop with keyFails := Sparse.set (fun _ => 0) s.cop.keyFails role n } }

/-- A wrong key: counted, and the role locked at the sixteenth in a row; nothing is counted while the role is locked
(R366, assumption log 24). -/
def State.rejectKey (s : State) (rq : Req) : State :=
  if s.roleLocked rq.role then s
  else
    let s1 := s.bump Obj.KEY_REJECTIONS
    if 16 ≤ s.keyFail rq.role + 1 then
      (s1.setKeyFail rq.role 0).setReg Obj.ROLES_LOCKED (putBit (s.reg Obj.ROLES_LOCKED) rq.role true)
    else s1.setKeyFail rq.role (s.keyFail rq.role + 1)

/-! ### Access checks (R365, R11, R31) -/

/-- The object exists for this agent: the ROM recovery agent knows 0x1000 to 0x12FF only (R11, R380). -/
def State.findObj (s : State) (obj : Nat) : Option ObjRow :=
  if s.device.phase == .recovery && !(0x100000 ≤ obj && obj ≤ 0x12FFFF) then none else rowOf obj

/-- Every rail is OFF or FAULT_OFF (07 R205). -/
def State.railsOff (s : State) : Bool := s.rails.rails.all fun r => r.2.mode == .off || r.2.mode == .faultOff

/-- The owning subsystem of an RWS object runs (01 R31, 07 R205, 11 R290). -/
def State.ownerRuns (s : State) (obj : Nat) : Owner → Bool
  | .none => false
  | .scan => s.reg Obj.SCAN_STATE != 0
  | .rail =>
    let r := s.rail (obj / 256 - 0x4100)
    !(r.mode == .off || r.mode == .faultOff)
  | .allRails => !s.railsOff
  | .memory => !(s.reg Obj.MEM_STATE == 0 || s.reg Obj.MEM_STATE == 4)

/-- The right to write: access and role (R365 and the owning chapters); the abort code, 0 for none. -/
def writeRight (r : ObjRow) (role : Nat) : Nat :=
  if r.access = .ro then abortReadOnly else if role < r.role then abortDenied else 0

/-- The objects that a locked L7 closes to every role: its own and L7_SHOW (04 R109). -/
def closedByLock (obj : Nat) : Bool := obj / 256 == 0x3417 || obj == Obj.L7_SHOW

/-- The abort code of a write by its access, its role and the lock of L7, 0 for none (R365, 04 R109). -/
def State.writeAbort (s : State) (r : ObjRow) (obj role : Nat) : Nat :=
  if s.layers.l7Locked && closedByLock obj then abortDenied else writeRight r role

/-- The right to read (R365). -/
def readRight (r : ObjRow) : Nat :=
  match r.access with
  | .wo => abortWriteOnly
  | .cmd => abortWriteOnly
  | .ro => 0
  | .rw => 0
  | .rws => 0

/-! ### Islands (02 R45 to R48) -/

/-- What an access finds at the object's island. -/
inductive Reach where
  | ready
  | asleep
  | hold (island : Nat)
  deriving DecidableEq, Repr

/-- An island that wakes on access: 1 to 4, its bit set, the device running or in S1, no thermal trip (02 R46, 14
R351). -/
def State.wakesOnAccess (s : State) (i : Nat) : Bool :=
  1 ≤ i && i ≤ 4 && bitAt (s.reg Obj.WAKE_ON_ACCESS) i && s.reg Obj.SLEEP_STATE ≤ 1 && !s.power.tripped

/-- Commands that answer "resource busy" while a thermal trip is latched, whatever their island (14 R351). -/
def tripBusy (obj : Nat) : Bool := obj == Obj.MEM_START || obj == Obj.SCAN_START || obj == Obj.RAIL_START

/-- Reach the island of an object (02 R45 to R47). -/
def State.reach (s : State) (r : ObjRow) (obj : Nat) : Reach :=
  let i := islandOf obj
  if s.reg Obj.SLEEP_STATE = 3 then (if r.aon then .ready else .asleep)
  else if s.power.tripped && tripBusy obj then .ready
  else match s.island i with
    | .running => .ready
    | .waking => .hold i
    | .gated => if s.wakesOnAccess i then .hold i else .asleep
    | .off => .asleep

/-- Hold a request while its island's clock is requested (02 R46 step 1). -/
def State.hold (s : State) (i : Nat) (q : Request) : State :=
  { s.setIsland i .waking with cop := { s.cop with held := s.cop.held ++ [q] } }

/-- An access during a WAKE_HOLD restarts the hold, and one that was held counts in ACCESS_WAKES (02 R46, R53). -/
def State.completedWake (s : State) (i : Nat) : State :=
  { s.bump Obj.ACCESS_WAKES with device := { s.device with holds := insertOnce i s.device.holds } }

/-! ### What a write does -/

/-- The answer of an action: done and answered at once, answered on completion, or aborted. -/
inductive Answer where
  | done (s : State)
  | later (s : State)
  | abort (s : State) (code : Nat)
  deriving DecidableEq, Repr

/-- What writing an object does with its complete data. -/
abbrev Action := Request → State → Answer

/-- An object that is written only while its owning subsystem is stopped: the RWS objects, and X_MAP_FILL, a CMD with
the same bar (01 R31). -/
def stopBound (r : ObjRow) (obj : Nat) : Bool := r.access == .rws || obj == Obj.X_MAP_FILL

/-- The subsystem that owns an object: the scan drive for X_MAP_FILL (01 R31). -/
def ownerOf (r : ObjRow) (obj : Nat) : Owner := if obj = Obj.X_MAP_FILL then .scan else r.owner

/-- The bar of R31 and 15 R365 against a write while the owning subsystem runs. -/
def State.barred (s : State) (r : ObjRow) (obj : Nat) : Bool := stopBound r obj && s.ownerRuns obj (ownerOf r obj)

/-- Perform a complete WRITE whose access has been checked: the RWS condition, the length, the action (R363, R365). -/
def performWrite (act : Action) (r : ObjRow) (q : Request) (s : State) : Answer :=
  if s.barred r q.obj then .abort s abortRunning
  else if !lengthOk r q.data.length then .abort s abortLength
  else act (q.held r) (s.accessed q.obj)

/-- Answer a request by its outcome. -/
def conclude (q : Request) : Answer → State
  | .done s => s.respond q 0 0 []
  | .later s => s
  | .abort s code => s.respond q code 0 []

/-! ### DOMAIN assembly and snapshots (R371, R372) -/

/-- Requesters that hold assembly or snapshot space. -/
def State.holders (s : State) : List Requester :=
  (s.cop.assemblies.map (·.who) ++ s.cop.snapshots.map (·.who)).dedup

/-- Space for a requester: 4 requesters at once (R372). -/
def State.hasSpace (s : State) (w : Requester) : Bool :=
  s.holders.contains w || s.holders.length < 4

/-- Drop the transfer that a requester has in progress. -/
def State.dropAssembly (s : State) (w : Requester) : State :=
  { s with cop := { s.cop with assemblies := s.cop.assemblies.filter (·.who != w) } }

/-- Keep a transfer in progress. -/
def State.keepAssembly (s : State) (a : Assembly) : State :=
  { s.dropAssembly a.who with cop := { s.cop with assemblies := s.cop.assemblies.filter (·.who != a.who) ++ [a] } }

/-- What a segment of a DOMAIN write leads to. -/
inductive Assembled where
  | abort (s : State) (code : Nat)
  | more (s : State)
  | whole (s : State) (data : Bytes)
  deriving DecidableEq, Repr

/-- Take a segment (R371): 1 s is 250 000 000 ticks of 4 ns. -/
def State.assemble (s : State) (q : Request) : Assembled :=
  let w := q.rq.who
  let running := s.cop.assemblies.find? (·.who == w)
  if q.seg.isFirst then
    let s1 := if running.isSome then (s.dropAssembly w).bump Obj.TRANSFERS_ABANDONED else s
    if q.seg.offset ≠ 0 then .abort s1 abortOrder
    else if !s1.hasSpace w then .abort s1 abortBusy
    else if 65536 < q.data.length then .abort s1 abortTooLong
    else if q.seg.isLast then .whole s1 q.data
    else .more (s1.keepAssembly { who := w, obj := q.obj, opcode := q.opcode, data := q.data, lastTick := s.ticks })
  else
    match running with
    | none => .abort s abortOrder
    | some a =>
      if a.obj ≠ q.obj || a.opcode ≠ q.opcode || q.seg.offset ≠ a.data.length || a.lastTick + 250000000 < s.ticks then
        .abort ((s.dropAssembly w).bump Obj.TRANSFERS_ABANDONED) abortOrder
      else if 65536 < a.data.length + q.data.length then
        .abort ((s.dropAssembly w).bump Obj.TRANSFERS_ABANDONED) abortTooLong
      else if q.seg.isLast then .whole (s.dropAssembly w) (a.data ++ q.data)
      else .more (s.keepAssembly { a with data := a.data ++ q.data, lastTick := s.ticks })

/-- An object whose writes come in segments: a DOMAIN, FW_IMAGE apart (R371). -/
def segmented (r : ObjRow) (obj : Nat) : Bool :=
  match r.ty with
  | .domain _ => obj != Obj.FW_IMAGE
  | .bool => false
  | .fixed _ => false
  | .cmd => false

/-! ### Executing a WRITE -/

/-- Complete a WRITE whose rights and island are in order: a segment joins its transfer, a whole value is written. -/
def completeWrite (act : Action) (r : ObjRow) (q : Request) (s : State) : State :=
  if segmented r q.obj then
    match s.assemble q with
    | .abort s1 code => s1.respond q code 0 []
    | .more s1 => s1.respond q 0 0 []
    | .whole s1 data => conclude q (performWrite act r { q with data := data } s1)
  else conclude q (performWrite act r q s)

/-- Rights are checked on a whole value, and on the first and the last segment (R371). -/
def rightsDue (r : ObjRow) (q : Request) : Bool := !segmented r q.obj || q.seg.isFirst || q.seg.isLast

/-- Execute a WRITE past its key: existence, rights, island, then the write (R11, R365, R45, R46). -/
def executeWrite (act : Action) (q : Request) (s : State) : State :=
  match s.findObj q.obj with
  | none => s.respond q abortNoObject 0 []
  | some r =>
    if rightsDue r q && s.writeAbort r q.obj q.rq.role ≠ 0 then s.respond q (s.writeAbort r q.obj q.rq.role) 0 []
    else match s.reach r q.obj with
      | .ready => completeWrite act r q s
      | .asleep => s.respond q abortAsleep 0 []
      | .hold i => s.hold i q

/-! ### Executing a READ -/

/-- The value a read gives, with the state it leaves, or an abort code. -/
inductive Value where
  | ok (s : State) (data : Bytes)
  | abort (code : Nat)
  deriving DecidableEq, Repr

/-- A read that removes data always takes a snapshot at OFFSET 0 (R372). -/
def removesData (obj : Nat) : Bool :=
  obj == Obj.PTP_TXQ_POP || (Obj.RING_FIFO 0 ≤ obj && obj ≤ Obj.RING_FIFO 63 && obj % 256 == 0x0A)

/-- Keep a requester's snapshot (R372). -/
def State.keepSnapshot (s : State) (x : Snapshot) : State :=
  { s with cop := { s.cop with snapshots := s.cop.snapshots.filter (·.who != x.who) ++ [x] } }

/-- Answer a DOMAIN read with at most 1 448 bytes from OFFSET, TOTAL the length (R368 Table 3). -/
def State.respondBytes (s : State) (q : Request) (value : Bytes) : State :=
  s.respond q 0 value.length ((value.drop q.seg.offset).take 1448)

/-- Execute a READ past its key, with `rd` the value of the object (R365, R368, R372). -/
def executeRead (rd : State → Value) (q : Request) (s : State) : State :=
  match s.findObj q.obj with
  | none => s.respond q abortNoObject 0 []
  | some r =>
    if readRight r ≠ 0 then s.respond q (readRight r) 0 []
    else match s.reach r q.obj with
      | .asleep => s.respond q abortAsleep 0 []
      | .hold i => s.hold i q
      | .ready =>
        match r.ty with
        | .domain _ =>
          let snap := q.snapshot || removesData q.obj
          if snap && q.seg.offset ≠ 0 then
            match s.cop.snapshots.find? fun x => x.who == q.rq.who && x.obj == q.obj with
            | none => s.respond q abortOrder 0 []
            | some x => s.respondBytes q x.data
          else if snap && !s.hasSpace q.rq.who then s.respond q abortBusy 0 []
          else match rd (s.accessed q.obj) with
            | .abort code => s.respond q code 0 []
            | .ok s1 data =>
              (if snap then s1.keepSnapshot { who := q.rq.who, obj := q.obj, data := data } else s1).respondBytes q data
        | .bool => match rd (s.accessed q.obj) with
          | .abort code => s.respond q code 0 []
          | .ok s1 data => s1.respond q 0 0 data
        | .fixed _ => match rd (s.accessed q.obj) with
          | .abort code => s.respond q code 0 []
          | .ok s1 data => s1.respond q 0 0 data
        | .cmd => s.respond q abortWriteOnly 0 []

/-! ### A request reaches the agent -/

/-- A request reaches the agent: a repeat is answered from its record (R369); behind a held request it waits its turn;
otherwise its key is checked (R366) and it is executed. -/
def request (run : Request → State → State) (q : Request) (s : State) : State :=
  match s.record q with
  | some r => (s.bump Obj.COP_DUPLICATES).sendResponse r
  | none =>
    let s1 := s.bump Obj.COP_REQUESTS
    if !s.keyOk q.rq then (s1.rejectKey q.rq).respond q abortKey 0 []
    else
      let s2 := if q.rq.role = 0 then s1 else s1.setKeyFail q.rq.role 0
      if s2.cop.held.isEmpty then run q s2
      else { s2 with cop := { s2.cop with held := s2.cop.held ++ [q] } }

/-- The object agent runs and the path leads to it: COX runs, the device is neither frozen, resetting nor asleep; the
T1S port is not strapped off, and is the only path of the recovery agent (R47, R370, R380, 16 R400). -/
def State.agentRuns (s : State) (v : Via) : Bool :=
  s.alive 6 &&
  (match v with
   | .t1s => (s.device.phase == .running && !s.device.t1sOff) || s.device.phase == .recovery
   | .portA => s.device.phase == .running
   | .portB => s.device.phase == .running)

/-- A request of the host as an event. -/
def hostRequest (run : Request → State → State) (q : Request) (s : State) : Host.Outcome State Fault Refusal :=
  gate (s.agentRuns q.rq.via) (request run q) s

/-- A host write of an object with an action of its own. -/
def hostWrite (act : Action) (rq : Req) (obj : Nat) (data : Bytes) (s : State) : Host.Outcome State Fault Refusal :=
  hostRequest (executeWrite act) (wholeWrite rq obj data) s

/-- The action of a plain RW register: hold the value (R365). -/
def storeAction : Action := fun q s =>
  match rowOf q.obj with
  | some r => .done (s.setReg q.obj (heldValue r (leNat q.data)))
  | none => .abort s abortNoObject

end Sys2Proof.Machine
end

