-- ==== Sys2Proof/Machine/Rails.lean ====
section
/-! DEFINITION. Rail loops and the control engine (chapter 07): sampling, the loop cascade, manual modes, protection,
start and stop, ADC rotation. The arithmetic of the stages stands in Loops.lean. -/

namespace Sys2Proof.Machine

/-! ### Settings of a rail -/

/-- The stroke time in force in ps (05 R124): the frame period over cycles and rows. -/
def State.strokePs (s : State) : Rat :=
  let t := s.scan.timing
  ((t.den * 1000000000000 : Nat) : Rat) / ((t.num * t.cycles * s.scan.rows : Nat) : Rat)

/-- RAILn_SW_DIV limited (R178). -/
def State.swDiv (s : State) (n : Nat) : Nat := s.limited (Obj.RAIL_SW_DIV n) 200 1000

/-- V_FS and I_FS of a rail. -/
def State.vFs (s : State) (n : Nat) : Nat := s.reg (Obj.RAIL_V_FS n)
def State.iFs (s : State) (n : Nat) : Nat := s.reg (Obj.RAIL_I_FS n)

/-- A mV object of a rail as Q2.22 of V_FS. -/
def State.railVolt (s : State) (n obj : Nat) : Int := perBase (s.reg obj) (s.vFs n)

/-- A signed mA object of a rail as Q2.22 of I_FS. -/
def State.railAmp (s : State) (n obj : Nat) : Int := perBase (s.sreg obj 16) (s.iFs n)

/-- Word `w` of the coefficient table in force, Q2.22 (R185). -/
def State.coefWord (s : State) (w : Nat) : Int := signed 24 (s.tabNat Obj.COEF_TABLE (4 * w) 4)

/-- The coefficients that rail `n`, loop `l` uses at scheduling set `k` (R185, R186). -/
def State.stageCoef (s : State) (n l k : Nat) : StageCoef :=
  let e := s.tabNat Obj.COEF_MAP (2 * (12 * n + 4 * l + k)) 2
  let block := if 383 < field e 0 9 then 0 else field e 0 9
  let w := 21 * block
  { ki := s.coefWord w
    shift := signed 4 (field e 12 4)
    sections := (List.range (min (field e 9 3) 4)).map fun i =>
      { b0 := s.coefWord (w + 1 + 5 * i), b1 := s.coefWord (w + 2 + 5 * i), b2 := s.coefWord (w + 3 + 5 * i),
        a1 := s.coefWord (w + 4 + 5 * i), a2 := s.coefWord (w + 5 + 5 * i) } }

/-- Integrator limits of a loop (R190). -/
def State.intMin (s : State) (n l : Nat) : Int := signed 32 (s.tabNat (Obj.RAIL_INT_LIMITS n) (8 * l) 4)
def State.intMax (s : State) (n l : Nat) : Int := signed 32 (s.tabNat (Obj.RAIL_INT_LIMITS n) (8 * l + 4) 4)

/-- One sample of a loop's stage with the rail's limits. -/
def State.runStage (s : State) (n l k : Nat) (st : StageState) (outMin outMax e : Int) : Int × StageState :=
  stageStep (s.stageCoef n l k) st (bitAt (s.reg (Obj.RAIL_AW_CLAMP_ONLY n)) l) (s.intMin n l) (s.intMax n l)
    outMin outMax e

/-- preset(loop, u) of R192. -/
def State.presetStage (s : State) (n l k : Nat) (st : StageState) (u : Int) : StageState :=
  stagePreset (s.stageCoef n l k) st (s.intMin n l) (s.intMax n l) u

/-- V_SAFE in force as Q2.22. -/
def State.vSafe (s : State) (n : Nat) : Int := s.railVolt n (Obj.RAIL_V_SAFE_IN_FORCE n)

/-- i_ff in force, rounded once (R188). -/
def RailState.iFf (r : RailState) : Int := roundRat (r.ffEven + r.ffOdd)

/-- DUTY_MAX as Q2.22. -/
def State.dutyMax (s : State) (n : Nat) : Int := dutyQ (s.reg (Obj.RAIL_DUTY_MAX n))

/-- The manual duty, limited to DUTY_MAX (R191). -/
def State.manualDuty (s : State) (n : Nat) : Int := min (dutyQ (s.reg (Obj.RAIL_MANUAL_DUTY n))) (s.dutyMax n)

/-! ### Sampling (R179) -/

/-- The ADC that serves an input: the bank's spare while it stands in for it (R202). -/
def servingAdc (b : RotationState) (first spare n : Nat) : Nat := if b.spareServes && b.adc == n then spare else first + n

/-- Trims of an ADC: OFFSET (I16) and GAIN (R203). -/
def State.adcOffset (s : State) (a : Nat) : Int := signed 16 (s.tabNat Obj.ADC_TRIMS (4 * a) 2)
def State.adcGain (s : State) (a : Nat) : Nat := s.tabNat Obj.ADC_TRIMS (4 * a + 2) 2

/-- The corrected sample of a rail (R179). -/
def State.sense (s : State) (n rawV rawI : Nat) : Int × Int :=
  let av := servingAdc s.rails.voltageBank 0 96 n
  let ai := servingAdc s.rails.currentBank 48 97 n
  (senseVoltage (senseCode rawV (s.adcOffset av) (s.adcGain av)),
    senseCurrent (senseCode rawI (s.adcOffset ai) (s.adcGain ai)))

/-- A code at an end of the range (R196). -/
def endCode (raw : Nat) : Bool := raw == 0 || raw == 0xFFF

/-- The run counts of R196 after a sample; unchanged codes count while the on-time is not zero. -/
def RailState.countRuns (r : RailState) (rawV rawI : Nat) (on : Bool) : RailState :=
  { r with
    badV := if endCode rawV then r.badV + 1 else 0
    badI := if endCode rawI then r.badI + 1 else 0
    sameV := if on && rawV == r.rawV then r.sameV + 1 else 0
    sameI := if on && rawI == r.rawI then r.sameI + 1 else 0
    goodRun := if endCode rawV || endCode rawI then 0 else r.goodRun + 1
    equalV := if rawV == r.rawV then r.equalV + 1 else 0
    equalI := if rawI == r.rawI then r.equalI + 1 else 0 }

/-- A sense ADC serving the rail is frozen (R196): 4 samples at an end, or 256 samples alike (255 repeats). -/
def RailState.frozenAdc (r : RailState) : Bool := 4 ≤ r.badV || 4 ≤ r.badI || 255 ≤ r.sameV || 255 ≤ r.sameI

/-- The last 64 samples were in range, and those of neither ADC all equal (R196 step 3). -/
def RailState.recovered (r : RailState) : Bool := 64 ≤ r.goodRun && r.equalV < 63 && r.equalI < 63

/-- Length of the bad run that was detected (R196). -/
def RailState.badRun (r : RailState) : Nat := if 4 ≤ r.badV || 4 ≤ r.badI then 4 else 256

/-- The on-time of the period that ends at a sample (R178). -/
def State.periodOnTime (s : State) (n : Nat) (r : RailState) : Nat :=
  if r.forceOff then 0 else onTime r.duty (32 * s.swDiv n) (r.periods % 2 == 0)

/-- Ramp step of one switching period at RAMP_RATE, Q2.22 of V_FS: mV/ms × SW_DIV × 2.5 ns (assumption log 25). -/
def State.rampStep (s : State) (n : Nat) : Int :=
  roundDiv ((s.limited (Obj.RAIL_RAMP_RATE n) 100 20000 * s.swDiv n * 25 * 2 ^ 22 : Nat) : Int)
    (10000000 * max (s.vFs n) 1)

/-- A value moved towards a target by at most one step. -/
def towards (v target step : Int) : Int := if v ≤ target then min (v + step) target else max (v - step) target

/-- v_set in RAMP_DOWN after `k` samples: linear to 0 over 4 ms = 1 600 000 / SW_DIV samples (R200). -/
def rampDownSet (fromV : Int) (k swDiv : Nat) : Int := max 0 (fromV - roundDiv (fromV * (k * swDiv : Nat)) 1600000)

/-- v_set at a fast sample: the ramps of STARTING, SAFE and RAMP_DOWN, the manual voltage, else as it stands
(R191, R197, R199, R200). A manual mode that is about to be left keeps its last v_set (R192). -/
def State.setpoint (s : State) (n : Nat) (r : RailState) : Int :=
  match r.mode with
  | .starting => towards r.vSet (s.vSafe n) (s.rampStep n)
  | .manualV => if r.forced || r.modeDue then r.vSet else s.railVolt n (Obj.RAIL_MANUAL_V n)
  | .rampDown => rampDownSet r.rampFrom (r.rampSamples + 1) (s.swDiv n)
  | .auto => if r.headroom = .safe then towards r.vSet (s.vSafe n) (s.rampStep n) else r.vSet
  | .manualDuty => r.vSet
  | .hold => r.vSet
  | .off => r.vSet
  | .faultOff => r.vSet

/-- A v_set that loop 0 puts out takes effect now, or one stroke later in period mode (R193). -/
def State.putVSet (s : State) (n : Nat) (r : RailState) (u : Int) : RailState :=
  if bitAt (s.reg (Obj.RAIL_TIMING_MODE n)) 0 then { r with vSet := u, nextVSet := none } else { r with nextVSet := some u }

/-- An i_v that loop 1 puts out counts as in force now, or one switching period later in period mode (R193); loop 2 uses
it in the same job in both modes (R183, assumption log 152). -/
def State.putIV (s : State) (n : Nat) (r : RailState) (u : Int) : RailState :=
  if bitAt (s.reg (Obj.RAIL_TIMING_MODE n)) 1 then { r with iV := u, nextIV := none } else { r with nextIV := some u }

/-- The mode that RAILn_MODE asks for (R191). -/
def State.wantedMode (s : State) (n : Nat) : RailMode :=
  if s.reg (Obj.RAIL_MODE n) = 1 then .manualV else if s.reg (Obj.RAIL_MODE n) = 2 then .manualDuty else .auto

/-- Presets of loops 1 and 2 at a transfer out of manual duty: i_v and d keep their values (R192). -/
def State.presetFast (s : State) (n : Nat) (r : RailState) : RailState :=
  s.putIV n { r with loop1 := s.presetStage n 1 r.setIndex r.loop1 (r.i - r.iFf)
                     loop2 := s.presetStage n 2 r.setIndex r.loop2 r.duty, fastDue := false } (r.i - r.iFf)

/-- The rail enters AUTO with loop 0 preset to output `u` (R192). -/
def State.enterAuto (s : State) (n : Nat) (r : RailState) (u : Int) : RailState :=
  s.putVSet n { r with mode := .auto, loop0 := s.presetStage n 0 r.setIndex r.loop0 u, headPreset := false } u

/-- The transfer to a mode at a fast sample (R191, R192): the loops that run again are preset. A manual mode forced by
overruns keeps the value that it took until the host writes RAILn_MODE (R195). -/
def State.transfer (s : State) (n : Nat) (r : RailState) (m : RailMode) : RailState :=
  match m with
  | .manualDuty =>
    { r with mode := .manualDuty, duty := if r.forced then r.duty else s.manualDuty n, fastDue := false, sample := none
             nextVSet := none, nextIV := none, nextDuty := none }
  | .manualV =>
    let r1 := if r.mode = .manualDuty || r.mode = .hold then s.presetFast n r else r
    { r1 with mode := .manualV, vSet := if r.forced then r.vSet else s.railVolt n (Obj.RAIL_MANUAL_V n)
              sample := none, nextVSet := none }
  | .auto =>
    if r.mode = .manualDuty || r.mode = .hold then s.enterAuto n (s.presetFast n r) r.v
    else if r.mode = .manualV then s.enterAuto n r r.vSet
    else { r with mode := .auto }
  | .off => r
  | .starting => r
  | .hold => r
  | .rampDown => r
  | .faultOff => r

/-- The rail stops: PWM Hi-Z (R177). -/
def RailState.stop (r : RailState) (m : RailMode) : RailState :=
  { r with mode := m, duty := 0, fastDue := false, sample := none, headroom := .idle, nextDuty := none, nextVSet := none,
           nextIV := none, modeDue := false, forced := false }

/-- FAULT_OFF with a cause (R195 to R199). -/
def State.faultOff (s : State) (n cause : Nat) : State :=
  (s.setRail n ((s.rail n).stop .faultOff)).setReg (Obj.RAIL_FAULT_CAUSE n) cause

/-- A rail that is out of OFF and FAULT_OFF. -/
def RailState.on (r : RailState) : Bool := !(r.mode == .off || r.mode == .faultOff)

/-- Loops 1 and 2 run in this mode (R191, R199, R200). -/
def RailMode.runsFast : RailMode → Bool
  | .starting => true
  | .auto => true
  | .manualV => true
  | .rampDown => true
  | .manualDuty => false
  | .hold => false
  | .off => false
  | .faultOff => false

/-- The scheduling of one fast sample (R189). -/
def State.schedule (s : State) (n : Nat) (r : RailState) : RailState :=
  let f := filterCurrent r.iFilt r.i
  let thr := fun j => perBase (s.tabNat (Obj.RAIL_SCHED_THRESH n) (2 * j) 2) (s.iFs n)
  { r with iFilt := f, setIndex := nextSet r.setIndex f thr (perBase (s.reg (Obj.RAIL_SCHED_HYST n)) (s.iFs n)) }

/-- STARTING is complete: v_set at V_SAFE in force and v within 5 % of it (R199). -/
def State.startComplete (s : State) (n : Nat) (r : RailState) : Bool :=
  r.mode == .starting && r.vSet == s.vSafe n &&
    (s.vSafe n * 95 ≤ r.v * 100) && (r.v * 100 ≤ s.vSafe n * 105)

/-! ### Engine lanes (R194) -/

/-- Entry of a job in SLOT_TABLE (R194). -/
def slotOf (n : Nat) : Job → Nat
  | .fast => 2 * n
  | .headroom => 2 * n + 1

/-- Lane of an entry (R194). -/
def State.laneOf (s : State) (slot : Nat) : Nat := s.tabNat Obj.SLOT_TABLE slot 1 % 16

/-- The job of an entry is released and neither complete nor abandoned. -/
def State.released (s : State) (slot : Nat) : Bool :=
  if slot % 2 = 0 then (s.rail (slot / 2)).fastDue else (s.rail (slot / 2)).sample.isSome

/-- Deadline of the job of an entry, ps (R194 Table 4). -/
def State.deadlineOf (s : State) (slot : Nat) : Nat :=
  if slot % 2 = 0 then (s.rail (slot / 2)).fastDeadline else (s.rail (slot / 2)).headDeadline

/-- Engine cycles of the job of an entry: 6 + 5 × NSOS for each of its stages (R194). -/
def State.cyclesOf (s : State) (slot : Nat) : Nat :=
  let r := s.rail (slot / 2)
  let stage := fun l k => 6 + 5 * (s.stageCoef (slot / 2) l k).sections.length
  if slot % 2 = 0 then stage 1 r.pairIndex + stage 2 r.pairIndex else stage 0 r.headIndex

/-- The released job of a lane that is due first, ties to the lower rail (R194). -/
def State.nextSlot (s : State) (lane : Nat) : Option Nat :=
  (List.range 96).foldl (fun best slot =>
    if !s.released slot || s.laneOf slot != lane then best
    else match best with
      | none => some slot
      | some b => if s.deadlineOf slot < s.deadlineOf b then some slot else best) none

/-- State of a lane, and its replacement. -/
def State.lane (s : State) (l : Nat) : LaneState := Sparse.get (fun _ => {}) s.rails.lanes l
def State.setLane (s : State) (l : Nat) (x : LaneState) : State :=
  { s with rails := { s.rails with lanes := Sparse.set (fun _ => {}) s.rails.lanes l x } }

/-- The lane is at work: the job that it started is neither complete, abandoned nor gone with its rail. -/
def State.laneBusy (s : State) (l : Nat) : Bool :=
  match (s.lane l).running with
  | some slot => s.released slot && s.laneOf slot == l
  | none => false

/-- A free lane starts its next job; a job at work is not interrupted (R194). 1 ms is 250 000 ticks. -/
def startLane (l : Nat) (s : State) : State :=
  if s.laneBusy l then s
  else
    let recent := (s.lane l).work.filter fun w => s.ticks < w.1 + 250000
    match s.nextSlot l with
    | none => s.setLane l { running := none, work := recent }
    | some slot => s.setLane l { running := some slot, work := (s.ticks, s.cyclesOf slot) :: recent }

/-- The lane of a job is at work on it. -/
def State.running (s : State) (n : Nat) (j : Job) : Bool :=
  (s.lane (s.laneOf (slotOf n j))).running == some (slotOf n j)

/-- A change that releases or ends the job of a rail: its lane, if free, starts the job that is due first, before the
change and after it. -/
def onLane (n : Nat) (j : Job) (change : State → State) (s : State) : State :=
  let l := s.laneOf (slotOf n j)
  startLane l (change (startLane l s))

/-- ENGINE_LOAD: busy share of the busiest lane over the last 1 ms, per mille of its 400 000 cycles, floor (R205). -/
def State.engineLoad (s : State) : Nat :=
  (List.range 16).foldl (fun m l =>
    max m (((s.lane l).work.filter fun w => s.ticks < w.1 + 250000).foldl (fun a w => a + w.2) 0 / 400)) 0

/-- Switching period of a rail in ps (R178). -/
def State.periodPs (s : State) (n : Nat) : Nat := 2500 * s.swDiv n

/-- Deadline of a fast pair released now (R194 Table 4); loop 2 sets the duty, so its mode decides (assumption log 153). -/
def State.pairDeadline (s : State) (n : Nat) : Nat :=
  let period := s.periodPs n - 20000
  4000 * s.ticks + (if bitAt (s.reg (Obj.RAIL_TIMING_MODE n)) 2 then min 580000 period else period)

/-- Deadline of a headroom job released now (R194 Table 4). -/
def State.headDeadline (s : State) : Nat := 4000 * s.ticks + (s.strokePs - 20000).floor.toNat

/-! ### The fast sample -/

/-- One fast sample of a rail (R178, R179, R189, R191, R193, R196, R198, R199). -/
def sampleRail (n rawV rawI : Nat) (s : State) : State :=
  let r := s.rail n
  let vi := s.sense n rawV rawI
  if !r.on then s.setRail n { r with v := vi.1, i := vi.2, rawV := rawV, rawI := rawI }
  else
    let on := s.periodOnTime n r
    let r1 := (r.countRuns rawV rawI (0 < on))
    let r2 := { r1 with v := vi.1, i := vi.2, rawV := rawV, rawI := rawI, periods := r.periods + 1
                        duty := r.nextDuty.getD r.duty, nextDuty := none
                        iV := r.nextIV.getD r.iV, nextIV := none
                        history := (r.duty :: r.history).take 257 }
    let high := s.railVolt n (Obj.RAIL_OV_LIMIT n) < vi.1
    let heavy := perBase (s.reg (Obj.RAIL_OC_LIMIT n)) (s.iFs n) < (if vi.2 < 0 then -vi.2 else vi.2)
    let r3 := { s.schedule n r2 with
                ovRun := if high then r2.ovRun + 1 else 0
                ocRun := if heavy then r2.ocRun + 1 else 0
                forceOff := heavy }
    let vSet := s.setpoint n r3
    let r4 := { r3 with vSet := vSet, rampSamples := r3.rampSamples + 1, fastDue := r3.mode.runsFast
                        pairSet := vSet, pairFf := r3.iFf, pairIndex := r.setIndex, fastDeadline := s.pairDeadline n }
    let settled := r4.mode == .auto || r4.mode == .manualV || r4.mode == .manualDuty
    let r5 := if s.startComplete n r4 then { s.transfer n r4 (s.wantedMode n) with modeDue := false }
      else if r4.modeDue && settled then { s.transfer n r4 (s.wantedMode n) with modeDue := false }
      else if r4.mode = .manualDuty then { r4 with duty := if r4.forced then r4.duty else s.manualDuty n }
      else r4
    let s1 := s.setRail n r5
    if heavy then (s1.bump (Obj.RAIL_OC_EVENTS n)).occur 55 else s1

/-- A fast sample releases the fast pair of a rail whose loops run (R194). -/
def fastSample (n rawV rawI : Nat) (s : State) : State := onLane n .fast (sampleRail n rawV rawI) s

/-! ### Engine jobs (R193 to R195) -/

/-- The fast pair of a rail: loops 1 and 2 on its last sample, with v_set, i_ff and the set in force then (R183, R184,
R189). -/
def State.fastPair (s : State) (n : Nat) (r : RailState) : RailState :=
  let iMin := s.railAmp n (Obj.RAIL_I_MIN n)
  let iMax := s.railAmp n (Obj.RAIL_I_MAX n)
  let p1 := s.runStage n 1 r.pairIndex r.loop1 iMin iMax (r.pairSet - r.v)
  let sum := p1.1 + r.pairFf
  let demand := clampI iMin iMax sum
  let l1 := { p1.2 with sat := if iMax < sum then 1 else if sum < iMin then -1 else p1.2.sat }
  let p2 := s.runStage n 2 r.pairIndex r.loop2 0 (s.dutyMax n) (demand - r.i)
  let immediate := bitAt (s.reg (Obj.RAIL_TIMING_MODE n)) 2
  let r1 := s.putIV n r p1.1
  { r1 with loop1 := l1, loop2 := p2.2, overFast := 0, fastDue := false
            duty := if immediate then p2.1 else r.duty
            nextDuty := if immediate then none else some p2.1 }

/-- The headroom job of a rail on its sample (R183, R184, R192, R197): a first sample after a start presets loop 0. -/
def State.headroomJob (s : State) (n h : Nat) (r : RailState) : RailState :=
  let r0 := { r with sample := none, overHead := 0 }
  if h = 0xFF || r0.mode ≠ .auto || r0.headroom = .safe then r0
  else if r0.headPreset then
    { r0 with headPreset := false, headroom := .running, loop0 := s.presetStage n 0 r0.headIndex r0.loop0 r0.vSet }
  else
    let e := perBase (((s.reg (Obj.RAIL_HEADROOM_TARGET n) : Nat) : Int) * 20 - (h : Int) * 20) (s.vFs n)
    let p := s.runStage n 0 r0.headIndex r0.loop0 (s.railVolt n (Obj.RAIL_V_MIN n)) (s.railVolt n (Obj.RAIL_V_MAX n)) e
    s.putVSet n { r0 with loop0 := p.2, headroom := .running } p.1

/-- The result of a job that is complete (R193). -/
def jobResult (n : Nat) (j : Job) (s : State) : State :=
  let r := s.rail n
  match j with
  | .fast => if r.fastDue then s.setRail n (s.fastPair n r) else s
  | .headroom => match r.sample with
    | some h => s.setRail n (s.headroomJob n h r)
    | none => s

/-- A lane completes a job of a rail: the one that it is at work on (R193, R194). -/
def jobComplete (n : Nat) (j : Job) (s : State) : State :=
  onLane n j (fun t => if t.running n j then jobResult n j t else t) s

/-- What an overrun leaves (R195); a rail in RAMP_DOWN goes on ramping (R200). -/
def overrunRail (n : Nat) (j : Job) (s : State) : State :=
  let r := s.rail n
  let counted := (s.bump (Obj.RAIL_OVERRUNS n)).bump Obj.ENGINE_OVERRUNS
  match j with
  | .fast =>
    if !r.fastDue then s
    else if 4 ≤ r.overFast + 1 && r.mode != .rampDown then
      ((counted.setRail n { r with fastDue := false, overFast := 0, mode := .manualDuty, forced := true, modeDue := false
                                   duty := min (dutyQ (s.reg (Obj.RAIL_FALLBACK_DUTY n))) (s.dutyMax n)
                                   nextDuty := none, nextIV := none, nextVSet := none, sample := none }).setReg (Obj.RAIL_MODE n) 2).setReg (Obj.RAIL_FAULT_CAUSE n) 5
    else counted.setRail n { r with fastDue := false, overFast := r.overFast + 1 }
  | .headroom =>
    if r.sample.isNone then s
    else if 4 ≤ r.overHead + 1 && r.mode == .auto then
      ((counted.setRail n { r with sample := none, overHead := 0, mode := .manualV, forced := true, modeDue := false
                                   vSet := s.vSafe n, nextVSet := none }).setReg
        (Obj.RAIL_MODE n) 1).setReg (Obj.RAIL_FAULT_CAUSE n) 6
    else counted.setRail n { r with sample := none, overHead := r.overHead + 1 }

/-- A job misses its deadline and is abandoned (R195); its lane goes on with the next. -/
def jobOverrun (n : Nat) (j : Job) (s : State) : State := onLane n j (overrunRail n j) s

/-! ### Headroom samples (R182, R197), taken by the scan drive at the acceptance deadline -/

/-- At every headroom sample the v_set computed one stroke before takes effect in period mode (R193). -/
def strokeSetpoint (n : Nat) (s : State) : State :=
  let r := s.rail n
  match r.nextVSet with
  | some v => s.setRail n { r with vSet := v, nextVSet := none }
  | none => s

/-- An idle sample: no headroom computation, nothing restarts and nothing counts (R182); an active loop reads IDLE. -/
def headroomIdle (n : Nat) (s : State) : State :=
  let s1 := strokeSetpoint n s
  let r := s1.rail n
  if r.headroom = .running then s1.setRail n { r with headroom := .idle } else s1

/-- A missing sample (R197). -/
def headroomMissing (n : Nat) (s : State) : State :=
  let s1 := strokeSetpoint n s
  let r := s1.rail n
  if r.mode ≠ .auto then s1.bump (Obj.RAIL_HEADROOM_MISSING n)
  else (s1.setRail n { r with headroom := if r.headroom = .safe then .safe else .frozen, presentRun := 0
                              missingSince := some (r.missingSince.getD s1.ticks) }).bump (Obj.RAIL_HEADROOM_MISSING n)

/-- The present sample of a rail, 0xFF without emission (R182, R197): a loop 0 that runs gets its job, and only one with emission ends a run of missing
samples, counts to the 64, and resumes a frozen loop. -/
def RailState.present (r : RailState) (h deadline : Nat) : RailState :=
  let r1 := { r with sample := if r.mode = .auto then some h else none, headIndex := r.setIndex, headDeadline := deadline }
  if h = 0xFF then r1
  else { r1 with missingSince := none, presentRun := r.presentRun + 1
                 headroom := if r.headroom = .frozen then .running else r.headroom }

/-- A present sample releases the headroom job (R182, R194, R197). -/
def headroomPresent (n h : Nat) (s : State) : State :=
  onLane n .headroom (fun t =>
    let s1 := strokeSetpoint n t
    let s2 := if h = 0xFF then s1 else s1.setReg (Obj.RAIL_LAST_HEADROOM n) h
    s2.setRail n ((s2.rail n).present h s2.headDeadline)) s

/-- Missing for 50 ms: loop 0 enters SAFE (R197). -/
def headroomSafe (n : Nat) (s : State) : State :=
  let r := s.rail n
  if r.mode = .auto && r.headroom = .frozen && r.missingSince.isSome then
    (s.setRail n { r with headroom := .safe, presentRun := 0 }).setReg (Obj.RAIL_FAULT_CAUSE n) 7
  else s

/-- 64 present samples: loop 0 is preset to v_set and resumes (R197). -/
def headroomResume (n : Nat) (s : State) : State :=
  let r := s.rail n
  if r.headroom = .safe && 64 ≤ r.presentRun then
    s.setRail n { r with headroom := .running, loop0 := s.presetStage n 0 r.setIndex r.loop0 r.vSet, headPreset := false }
  else s

/-! ### PWM outputs (R177, R178) -/

/-- PWMn is at the mid level (R177, R199, 16 R402): in reset, asleep, frozen, under EXTEST, of a rail that is OFF or
FAULT_OFF, and of a STARTING rail with an on-time of 0. -/
def State.pwmHiZ (s : State) (n : Nat) : Bool :=
  s.device.phase != .running || s.device.frozen || s.device.extest || s.device.tap == 0 || !(s.rail n).on ||
    ((s.rail n).mode == .starting && s.periodOnTime n (s.rail n) == 0)

/-- Level of PWMn `t` units of 78.125 ps after the period start: the on-time is centred on the middle of the period
(R177, R178). -/
def State.pwm (s : State) (n t : Nat) : PwmLevel :=
  let p := 32 * s.swDiv n
  let on := s.periodOnTime n (s.rail n)
  if s.pwmHiZ n then .hiZ else if p - on ≤ 2 * t && 2 * t < p + on then .high else .low

/-! ### Protection (R196, R198) -/

/-- A frozen sense ADC (R196): HOLD at the duty before the bad run; in RAMP_DOWN the rail goes FAULT_OFF. -/
def feedbackLoss (n : Nat) (s : State) : State :=
  let r := s.rail n
  if !r.frozenAdc || !r.on || r.mode = .hold then s
  else if r.mode = .rampDown then s.faultOff n 2
  else
    let d := if r.mode = .manualDuty then r.duty else r.history.getD r.badRun r.duty
    (s.setRail n { r with mode := .hold, duty := d, fastDue := false, sample := none, nextDuty := none, nextVSet := none
                          nextIV := none, goodRun := 0 }).bump (Obj.RAIL_FEEDBACK_LOSSES n)

/-- 64 good samples: back to the mode of RAILn_MODE through the manual-duty transfer (R196 step 3). -/
def holdRecovery (n : Nat) (s : State) : State :=
  let r := s.rail n
  if r.mode = .hold && r.recovered then
    s.setRail n { s.transfer n r (s.wantedMode n) with modeDue := false }
  else s

/-- HOLD lasts 5 ms (R196 step 4). -/
def holdTimeout (n : Nat) (s : State) : State := if (s.rail n).mode = .hold then s.faultOff n 2 else s

/-- Over-voltage on 2 samples (R198). -/
def overVoltage (n : Nat) (s : State) : State :=
  if (s.rail n).on && 2 ≤ (s.rail n).ovRun then s.faultOff n 3 else s

/-- Over-current on 8 samples (R198). -/
def overCurrent (n : Nat) (s : State) : State :=
  if (s.rail n).on && 8 ≤ (s.rail n).ocRun then s.faultOff n 4 else s

/-- A start lasts 50 ms (R199 step 3). -/
def startTimeout (n : Nat) (s : State) : State := if (s.rail n).mode = .starting then s.faultOff n 1 else s

/-- The 4 ms ramp ends: OFF (R200). -/
def rampDownEnd (n : Nat) (s : State) : State :=
  if (s.rail n).mode = .rampDown then s.setRail n ((s.rail n).stop .off) else s

/-! ### Start and stop (R199 to R201) -/

/-- A rail may start (R199): OFF, its group used, both permissions present. -/
def State.mayStart (s : State) (n : Nat) : Bool :=
  (s.rail n).mode == .off && bitAt (s.reg Obj.RAIL_GROUPS_USED) (n / 3) && s.permitted

/-- A rail starts (R199 step 1, R204). -/
def startRail (n : Nat) (s : State) : State :=
  let r := s.rail n
  let s1 := s.setReg (Obj.RAIL_V_SAFE_IN_FORCE n) (s.reg (Obj.RAIL_V_SAFE n))
  s1.setRail n { r with mode := .starting, vSet := r.v, setIndex := 0, headPreset := true, headroom := .idle
                        loop1 := s1.presetStage n 1 0 r.loop1 0, loop2 := s1.presetStage n 2 0 r.loop2 0, iV := 0
                        duty := 0, modeDue := false, forced := false, overFast := 0, overHead := 0, ovRun := 0
                        ocRun := 0, badV := 0, badI := 0, sameV := 0, sameI := 0, history := [], forceOff := false
                        missingSince := none, presentRun := 0, nextVSet := none, nextIV := none, nextDuty := none
                        sample := none, fastDue := false }

/-- Start every masked rail that may, record the others as skipped (R199). -/
def startRails (mask : Nat) (s : State) : State :=
  let skipped := maskNat 48 fun n => bitAt mask n && !s.mayStart n
  foldN 48 (fun t n => if bitAt mask n && s.mayStart n then startRail n t else t) (s.setReg Obj.START_SKIPPED skipped)

/-- A rail ramps down (R200), from the loops preset where they did not run. -/
def rampDownRail (n : Nat) (s : State) : State :=
  let r := s.rail n
  if !r.on || r.mode = .rampDown then s
  else
    let r1 := if r.mode = .manualDuty || r.mode = .hold then s.presetFast n r else r
    s.setRail n { r1 with mode := .rampDown, rampFrom := r.vSet, rampSamples := 0, headroom := .idle, sample := none
                          modeDue := false, forced := false, nextVSet := none }

/-- Every rail of a mask ramps down (R200). -/
def rampDownRails (mask : Nat) (s : State) : State :=
  foldN 48 (fun t n => if bitAt mask n then rampDownRail n t else t) s

/-- Every rail ramps down. -/
def rampDownAll (s : State) : State := rampDownRails 0xFFFFFFFFFFFF s

/-- RAIL_START; "resource busy" while the thermal trip is latched (R199, 14 R351). -/
def actRailStart : Action := fun q s =>
  if s.power.tripped then .abort s abortBusy else .done (startRails (q.arg % 2 ^ 48) s)

/-- RAIL_STOP (R200). -/
def actRailStop : Action := fun q s => .done (rampDownRails (q.arg % 2 ^ 48) s)

/-- RAIL_CLEAR (R201). -/
def actRailClear : Action := fun q s =>
  .done (foldN 48 (fun t n =>
    if bitAt q.arg n && (t.rail n).mode == .faultOff then t.setRail n { t.rail n with mode := .off } else t) s)

/-- COEF_COMMIT: the shadows come into force and stay the base (R187). -/
def actCoefCommit : Action := fun _ s =>
  let tabs := s.rails.shadow.foldl (fun m p => Sparse.set domDefault m p.1 (BitVec.ofNat 8 (p.2 - 1))) s.tabs
  .done ({ s with tabs := tabs, rails := { s.rails with shadow := [] } }.bump Obj.COEF_COMMITS)

/-- Bytes written to COEF_TABLE or COEF_MAP enter the shadow (R187, R415). -/
def actCoefShadow : Action := fun q s =>
  let size := if q.obj = Obj.COEF_TABLE then 32256 else 1152
  let shadow := (q.data.take size).zipIdx.foldl
    (fun m p => Sparse.set (fun _ => 0) m (tabKey q.obj p.2) (p.1.toNat + 1)) s.rails.shadow
  .done { s with rails := { s.rails with shadow := shadow } }

/-- RAILn_MODE: requested now, in force at the next fast sample or on leaving STARTING, HOLD or RAMP_DOWN (R191). -/
def actRailMode : Action := fun q s =>
  let n := q.obj / 256 - 0x4100
  let r := s.rail n
  .done ((s.setReg q.obj (q.arg % 256)).setRail n { r with modeDue := r.on, forced := false })

/-- RAIL_COUNTERS_CLEAR: every U32 counter of Tables 7, 9 and 11 (R205). -/
def actRailCountersClear : Action := fun _ s =>
  .done (s.clearRegs ([Obj.COEF_COMMITS, Obj.ENGINE_OVERRUNS, Obj.ROTATIONS, Obj.HANDOVERS_ABANDONED] ++
    repeated 48 [Obj.RAIL_OVERRUNS 0, Obj.RAIL_HEADROOM_MISSING 0, Obj.RAIL_FEEDBACK_LOSSES 0, Obj.RAIL_OC_EVENTS 0]))

/-! ### Feedforward and planning (R188, R204) -/

/-- The load prediction of a band's stroke, with the channel currents that its nodes hold (R188, 05 R127). -/
def ffPrediction (band : Nat) (sums : List Nat) (s : State) : State :=
  foldN 3 (fun t c =>
    let n := 3 * (band / 2) + c
    let i := natAt (t.band band).currents c
    let term := ffTerm (t.reg (Obj.RAIL_FF_GAIN n)) (natAt sums c) i (t.iFs n) t.strokePs
    let r := t.rail n
    t.setRail n (if band % 2 = 0 then { r with ffEven := term } else { r with ffOdd := term })) s

/-- Re-plan V_SAFE in force of every rail from VF_RAIL_STATS (R204). -/
def replanVSafe (s : State) : State :=
  if !s.flag Obj.VF_PLAN_ENABLE then s
  else foldN 48 (fun t n =>
    let vf := t.tabNat Obj.VF_RAIL_STATS (4 * n) 2
    let base := t.reg (Obj.RAIL_V_SAFE n)
    let vs := if vf = 0 then base
      else max base (vf + t.tabNat Obj.VF_DRIVE_OFFSET (2 * (n % 3)) 2 + 20 * t.reg (Obj.RAIL_HEADROOM_TARGET n) +
        t.reg Obj.PLAN_MARGIN)
    t.setReg (Obj.RAIL_V_SAFE_IN_FORCE n) (min vs (t.reg (Obj.RAIL_V_MAX n)))) s

/-! ### Rotation of the sense ADCs (R202, R203) -/

/-- The rotation of a bank. -/
def State.bank (s : State) : Bank → RotationState
  | .voltage => s.rails.voltageBank
  | .current => s.rails.currentBank

/-- Replace a rotation. -/
def State.setBank (s : State) (b : Bank) (x : RotationState) : State :=
  match b with
  | .voltage => { s with rails := { s.rails with voltageBank := x } }
  | .current => { s with rails := { s.rails with currentBank := x } }

/-- ADC number of a bank position: 0 to 47 in service, 48 the spare (Table 5). -/
def adcNumber (b : Bank) (pos : Nat) : Nat :=
  match b with
  | .voltage => if pos = 48 then 96 else pos
  | .current => if pos = 48 then 97 else 48 + pos

/-- The frozen counts of a rail restart at a handover (R202). -/
def restartCounts (b : Bank) (n : Nat) (s : State) : State :=
  let r := s.rail n
  match b with
  | .voltage => s.setRail n { r with badV := 0, sameV := 0 }
  | .current => s.setRail n { r with badI := 0, sameI := 0 }

/-- The next rotation step starts (R202 Table 5 step 6 and 1); after the spare's step a full rotation is complete, and one
that began after the last reset or restore calibrates the bank (R203). -/
def rotationStep (b : Bank) (s : State) : State :=
  let x := s.bank b
  let wraps := x.stage != 0 && x.adc == 48
  let adc := if x.stage = 0 || wraps then 0 else x.adc + 1
  let y : RotationState := { adc := adc, stage := if adc = 48 then 2 else 1, fresh := x.fresh || wraps
                             full := x.full || (wraps && x.fresh) }
  let s1 := s.setBank b y
  let s2 := if wraps then s1.bump Obj.ROTATIONS else s1
  if s2.rails.voltageBank.full && s2.rails.currentBank.full then s2.setReg Obj.ADC_TRIMS_STATE 2 else s2

/-- Write the trims of an ADC. -/
def State.setTrims (s : State) (a : Nat) (t : Nat × Nat) : State :=
  s.setTab Obj.ADC_TRIMS (4 * a) (natLE 2 t.1 ++ natLE 2 t.2)

/-- 16 overlapping samples are taken (R202 Table 5 steps 2 and 5). -/
def adcHandover (b : Bank) (meanDiff : Nat) (s : State) : State :=
  let x := s.bank b
  let good := meanDiff ≤ s.reg Obj.ADC_MATCH_LIMIT
  let missed (t : State) : State := (t.bump Obj.HANDOVERS_ABANDONED).occur 54
  if x.stage = 1 then
    if good then restartCounts b x.adc (s.setBank b { x with stage := 2, spareServes := true })
    else missed (s.setBank b { x with stage := 4 })
  else if x.stage = 3 then
    let s1 := restartCounts b x.adc (s.setBank b { x with stage := 4, spareServes := false, result := none })
    if good then
      match x.result with
      | some t => if x.discarded then s1 else s1.setTrims (adcNumber b x.adc) t
      | none => s1
    else missed s1
  else s

/-- OFFSET and GAIN that map the measured means at 12.5 % and 87.5 %, in 1/16 LSB, onto 8 192 and 57 344 (assumption
log 26). -/
def trimsOf (low high : Nat) : Nat × Nat :=
  let gain := clampI 1 65535 (roundDiv ((49152 * 32768 : Nat) : Int) (max (high - low) 1))
  let offset := (low : Int) - roundDiv ((8192 * 32768 : Nat) : Int) gain.toNat
  (satImage 16 offset, gain.toNat)

/-- The reference measurement ends (R202 Table 5 step 3); the spare takes its trims at once. -/
def adcCalibrationDone (b : Bank) (low high : Nat) (s : State) : State :=
  let x := s.bank b
  if x.stage ≠ 2 then s
  else if x.adc = 48 then
    let s1 := s.setBank b { x with stage := 4 }
    if x.discarded then s1 else s1.setTrims (adcNumber b 48) (trimsOf low high)
  else s.setBank b { x with stage := 3, result := some (trimsOf low high) }

/-- ADC_TRIMS written by the host (R203, R415): a rotation step of a written ADC discards its result. -/
def actAdcTrims : Action := fun q s =>
  let n := min q.data.length 392
  let s1 := (s.setTab Obj.ADC_TRIMS 0 (q.data.take 392)).setReg Obj.ADC_TRIMS_STATE (if n = 0 then s.reg Obj.ADC_TRIMS_STATE else 1)
  let mark (b : Bank) (t : State) : State :=
    let x := t.bank b
    t.setBank b { x with discarded := x.discarded || 4 * adcNumber b x.adc < n, fresh := x.fresh && n == 0
                         full := x.full && n == 0 }
  .done (mark .current (mark .voltage s1))

/-! ### The meanings -/

/-- RAIL_START (R199). -/
def execRailStart (rq : Req) (data : Bytes) : State → Host.Outcome State Fault Refusal :=
  hostWrite actRailStart rq Obj.RAIL_START data

/-- RAIL_STOP (R200). -/
def execRailStop (rq : Req) (data : Bytes) : State → Host.Outcome State Fault Refusal :=
  hostWrite actRailStop rq Obj.RAIL_STOP data

/-- RAIL_CLEAR (R201). -/
def execRailClear (rq : Req) (data : Bytes) : State → Host.Outcome State Fault Refusal :=
  hostWrite actRailClear rq Obj.RAIL_CLEAR data

/-- COEF_COMMIT (R187). -/
def execCoefCommit (rq : Req) (data : Bytes) : State → Host.Outcome State Fault Refusal :=
  hostWrite actCoefCommit rq Obj.COEF_COMMIT data

/-- RAIL_MODE_WRITE (R191). -/
def execRailModeWrite (rq : Req) (rail : Nat) (data : Bytes) : State → Host.Outcome State Fault Refusal :=
  hostWrite actRailMode rq (Obj.RAIL_MODE rail) data

/-- RAIL_FAST_SAMPLE (R179). -/
def execRailFastSample (rail rawV rawI : Nat) : State → Host.Outcome State Fault Refusal :=
  onIsland 3 (fastSample rail rawV rawI)

/-- ENGINE_JOB_COMPLETE (R193). -/
def execEngineJobComplete (rail : Nat) (job : Job) : State → Host.Outcome State Fault Refusal :=
  onIsland 3 (jobComplete rail job)

/-- JOB_OVERRUN (R195). -/
def execJobOverrun (rail : Nat) (job : Job) : State → Host.Outcome State Fault Refusal :=
  onIsland 3 (jobOverrun rail job)

/-- FEEDBACK_LOSS_DETECT (R196). -/
def execFeedbackLossDetect (rail : Nat) : State → Host.Outcome State Fault Refusal := onIsland 3 (feedbackLoss rail)

/-- HOLD_RECOVERY (R196). -/
def execHoldRecovery (rail : Nat) : State → Host.Outcome State Fault Refusal := onIsland 3 (holdRecovery rail)

/-- HOLD_TIMEOUT (R196). -/
def execHoldTimeout (rail : Nat) : State → Host.Outcome State Fault Refusal := onIsland 3 (holdTimeout rail)

/-- OVER_VOLTAGE (R198). -/
def execOverVoltage (rail : Nat) : State → Host.Outcome State Fault Refusal := onIsland 3 (overVoltage rail)

/-- OVER_CURRENT_TRIP (R198). -/
def execOverCurrentTrip (rail : Nat) : State → Host.Outcome State Fault Refusal := onIsland 3 (overCurrent rail)

/-- RAIL_START_TIMEOUT (R199). -/
def execRailStartTimeout (rail : Nat) : State → Host.Outcome State Fault Refusal := onIsland 3 (startTimeout rail)

/-- RAMP_DOWN_END (R200). -/
def execRampDownEnd (rail : Nat) : State → Host.Outcome State Fault Refusal := onIsland 3 (rampDownEnd rail)

/-- HEADROOM_SAFE (R197). -/
def execHeadroomSafe (rail : Nat) : State → Host.Outcome State Fault Refusal := onIsland 3 (headroomSafe rail)

/-- HEADROOM_RESUME (R197). -/
def execHeadroomResume (rail : Nat) : State → Host.Outcome State Fault Refusal := onIsland 3 (headroomResume rail)

/-- ADC_ROTATION_STEP (R202); nothing rotates while ROTATION_ENABLE is 0. -/
def execAdcRotationStep (bank : Bank) : State → Host.Outcome State Fault Refusal :=
  onIslandIf 3 (fun s => s.flag Obj.ROTATION_ENABLE) (rotationStep bank)

/-- ADC_HANDOVER (R202). -/
def execAdcHandover (bank : Bank) (meanDiff : Nat) : State → Host.Outcome State Fault Refusal :=
  onIsland 3 (adcHandover bank meanDiff)

/-- ADC_CALIBRATION_DONE (R202). -/
def execAdcCalibrationDone (bank : Bank) (low high : Nat) : State → Host.Outcome State Fault Refusal :=
  onIsland 3 (adcCalibrationDone bank low high)

/-- ADC_TRIMS_WRITE (R203). -/
def execAdcTrimsWrite (rq : Req) (data : Bytes) : State → Host.Outcome State Fault Refusal :=
  hostWrite actAdcTrims rq Obj.ADC_TRIMS data

/-- RAIL_COUNTERS_CLEAR (R205). -/
def execRailCountersClear (rq : Req) (data : Bytes) : State → Host.Outcome State Fault Refusal :=
  hostWrite actRailCountersClear rq Obj.RAIL_COUNTERS_CLEAR data

end Sys2Proof.Machine
end

