-- ==== Sys2Proof/Machine/Layers.lean ====
section
/-! DEFINITION. Layers, fences, flips, the protected layer and the sail engines (chapter 04). What a frame boundary
does to them is stated here as functions of the boundary's time; the boundary itself stands in Frame.lean. -/

namespace Sys2Proof.Machine

/-! ### Layers -/

/-- The hidden state of layer `l`. -/
def State.layer (s : State) (l : Nat) : LayerState := Sparse.get (fun _ => {}) s.layers.layers l

/-- Replace it. -/
def State.setLayer (s : State) (l : Nat) (x : LayerState) : State :=
  { s with layers := { s.layers with layers := Sparse.set (fun _ => {}) s.layers.layers l x } }

/-- LAYERl_STATE: 0 FREE, 1 CREATED, 2 DESTROYING. -/
def State.layerFree (s : State) (l : Nat) : Bool := s.reg (Obj.LAYER_STATE l) == 0

/-- The source in force: L7 is always memory, values above 2 act as 0 (R94, R107). -/
def State.layerSource (s : State) (l : Nat) : Nat :=
  if l = 7 || 2 < s.reg (Obj.LAYER_SOURCE l) then 0 else s.reg (Obj.LAYER_SOURCE l)

/-- The layer that a handle names, none when it is stale (R91, 15 R367). -/
def State.layerOf (s : State) (h : Nat) : Option Nat :=
  let l := h % 4096
  if h / 16777216 = 0x10 && l ≤ 7 && !s.layerFree l && field h 12 12 == (s.layer l).gen then some l else none

/-- The stream that a layer receives by its objects: none unless its source is the link (R94, R105). -/
def State.streamOf (s : State) (l : Nat) : Option Nat :=
  if s.layerSource l = 1 then some (s.reg (Obj.LAYER_STREAM_ID l)) else none

/-- The subindices of Table 5 that a destruction puts back: all but the counters :23, :24, :25 (R92, R93). -/
def layerObjects (l : Nat) : List Nat :=
  ((List.range 0x26).map fun i => 0x341001 + 256 * l + i).filter fun o =>
    !(o % 256 == 0x23 || o % 256 == 0x24 || o % 256 == 0x25)

/-- LAYER_CREATE (R90). -/
def actLayerCreate : Action := fun q s =>
  let l := q.arg
  if 7 < l then .abort s abortNoObject
  else if l = 7 && q.rq.role ≠ 3 then .abort s abortDenied
  else if !s.layerFree l then .abort s abortBusy
  else
    let s0 := s.clearRegs (layerObjects l)
    let s1 := s0.setLayer l { gen := (s.layer l).gen, stream := s0.streamOf l }
    .done ((s1.setReg (Obj.LAYER_STATE l) 1).setReg (Obj.LAYER_HANDLE l) (handleOf 0x10 (s.layer l).gen l))

/-- LAYER_DESTROY (R92, R109). -/
def actLayerDestroy : Action := fun q s =>
  match s.layerOf q.arg with
  | none => .abort s abortStale
  | some l =>
    if l = 7 && s.layers.l7Locked then .abort s abortDenied
    else .done ((s.setReg (Obj.LAYER_STATE l) 2).setLayer l { s.layer l with pending := none })

/-- LAYER_SUBMIT (R100): a timeline above 15 waits for no fence (R102). DESIGN CHOICE: a DESTROYING layer, whose handle
is still valid, accepts it (assumption log 140). -/
def actLayerSubmit : Action := fun q s =>
  match s.layerOf q.arg with
  | none => .abort s abortStale
  | some l =>
    if l = 7 || s.layerSource l ≠ 0 then .abort s abortBusy
    else
      let n := s.reg (Obj.LAYER_NEXT_BUFFER l)
      let x : Submission :=
        { buffer := if 2 < n then 0 else n, timeline := s.reg (Obj.LAYER_NEXT_FENCE_TIMELINE l)
          value := s.reg (Obj.LAYER_NEXT_FENCE_VALUE l), notBefore := s.reg (Obj.LAYER_NEXT_NOT_BEFORE l) }
      let s1 := if (s.layer l).pending.isSome then s.bump (Obj.LAYER_DISCARDED l) else s
      .done (s1.setLayer l { s.layer l with pending := some x })

/-- A write of an RW object of a layer: stale while FREE (R93). What it changes acts at the next frame boundary (R121). -/
def actLayerObject : Action := fun q s =>
  if s.layerFree (q.obj / 256 - 0x3410) then .abort s abortStale else storeAction q s

/-- LAYER_COUNTERS_CLEAR: every U32 counter of Tables 4 to 9 (R121). -/
def actLayerCountersClear : Action := fun _ s =>
  .done (s.clearRegs ([Obj.COMPOSE_LATE_FRAMES, Obj.FENCE_STALE, Obj.ECHO_FRAMES_SENT, Obj.ECHO_FRAMES_DROPPED,
    Obj.L7_REFILLS, Obj.L7_RING_REFUSALS] ++
    repeated 8 [Obj.LAYER_FLIPS 0, Obj.LAYER_MISSES 0, Obj.LAYER_DISCARDED 0]))

/-! ### Fences (R101, R102) -/

/-- A fence timeline. -/
def State.fence (s : State) (k : Nat) : FenceLine := Sparse.get (fun _ => {}) s.layers.fences k

/-- Replace it. -/
def State.setFence (s : State) (k : Nat) (x : FenceLine) : State :=
  { s with layers := { s.layers with fences := Sparse.set (fun _ => {}) s.layers.fences k x } }

/-- A fence signal that arrives at a time of the active domain in whole ns, none for one of a batch: taken when it is
newer, else stale (R101). -/
def fenceSignal (k v : Nat) (arrival : Option Int) (s : State) : State :=
  let f := s.fence k
  if 0 < signed 32 (image 32 ((v : Int) - f.value)) then
    s.setFence k { f with value := v % 2 ^ 32, signals := (v % 2 ^ 32, arrival) :: f.signals }
  else s.bump Obj.FENCE_STALE

/-- A signal with this arrival takes part at a cutoff of `t`: it arrived by then, or a batch carried it (R99, R102). -/
def arrivedBy (t : Int) (arrival : Option Int) : Bool := (arrival.map fun a => decide (a ≤ t)).getD true

/-- The value of a timeline through signals that arrived by `t`. -/
def FenceLine.valueAt (f : FenceLine) (t : Int) : Nat :=
  ((f.signals.find? fun x => arrivedBy t x.2).map (·.1)).getD f.base

/-- The newest signal that arrived by `t` becomes the base: later boundaries all take it, and the older ones are
superseded. -/
def FenceLine.settleAt (f : FenceLine) (t : Int) : FenceLine :=
  { f with base := f.valueAt t, signals := f.signals.takeWhile fun x => !arrivedBy t x.2 }

/-- FENCE_SIGNAL: the timeline of FENCE_SIGNAL_INDEX, values above 15 act as 15; it arrives now (R101, R121). -/
def actFenceSignal : Action := fun q s =>
  .done (fenceSignal (s.atMost Obj.FENCE_SIGNAL_INDEX 15) (q.arg % 2 ^ 32) (some s.nowNs) s)

/-- FENCE_SIGNAL as an entry of a batch: it takes part at the boundary of the batch (R99). -/
def actFenceSignalBatch : Action := fun q s =>
  .done (fenceSignal (s.atMost Obj.FENCE_SIGNAL_INDEX 15) (q.arg % 2 ^ 32) none s)

/-- The latest arrival that counts at boundary `b`: FENCE_SETUP before it, ns (R102, 08 R207). -/
def State.fenceCutoff (s : State) (b : Int) : Int := b - 1000 * (s.limited Obj.FENCE_SETUP 1 1000 : Nat)

/-- The fence condition at boundary `b` (ns) is satisfied (R102). DEDUCED: a timeline without any signal so far has the
value 0 of R101 and satisfies a fence value of 0 (assumption log 141). -/
def State.fenceMet (s : State) (timeline value : Nat) (b : Int) : Bool :=
  if 15 < timeline then true
  else decide (0 ≤ signed 32 (image 32 (((s.fence timeline).valueAt (s.fenceCutoff b) : Int) - value)))

/-! ### What a frame boundary does: R99 steps 2 to 4 -/

/-- Step 2: destructions take effect (R92). -/
def destroyLayers (s : State) : State :=
  foldN 8 (fun t l =>
    if t.reg (Obj.LAYER_STATE l) = 2 then
      (t.clearRegs (layerObjects l)).setLayer l { gen := nextGen (t.layer l).gen }
    else t) s

/-- The objects of layer `l` are taken at a boundary (R121): the stream received. A change of the source to 1 leaves the
layer without a buffer in force and starts the time of R106 anew (R105); another stream starts the time of its frames
anew. PRESUMED: a completed frame of the earlier stream still flips in, and one half received is abandoned by the first
packet of the new stream (assumption log 142). -/
def takeStream (l : Nat) (s : State) : State :=
  let x := s.layer l
  let now := s.streamOf l
  if x.stream = now then s
  else if now.isNone then s.setLayer l { x with stream := none }
  else if x.stream.isNone then
    s.setLayer l { x with stream := now, bound := false, visibleSince := none, lastPending := none }
  else s.setLayer l { x with stream := now, lastPending := none }

/-- The streams of every layer but L7 are taken. -/
def takeStreams (s : State) : State := foldN 7 (fun t l => takeStream l t) s

/-- A layer is visible by its own state: CREATED and enabled; L7 by L7_SHOW or the evacuation display (R98, R112). -/
def State.layerVisible (s : State) (l : Nat) : Bool :=
  if l = 7 then s.reg (Obj.LAYER_STATE 7) == 1 && (s.reg Obj.L7_SHOW == 1 || s.safety.evacActive)
  else s.reg (Obj.LAYER_STATE l) == 1 && s.flag (Obj.LAYER_ENABLE l)

/-- Ticks of 4 ns in a millisecond. -/
abbrev ticksPerMs : Nat := 250000

/-- A visible stream layer is in link loss at a boundary (R106). DEDUCED: visible is CREATED and enabled; an L6 that only
the slate forces visible does not count (assumption log 143). -/
def State.inLossNow (s : State) (l : Nat) : Bool :=
  let x := s.layer l
  let base := max (x.visibleSince.getD s.ticks) (x.lastPending.getD 0)
  s.layerVisible l && s.layerSource l == 1 &&
    (x.inLoss || decide (base + s.limited Obj.LINK_LOSS_TIMEOUT 10 10000 * ticksPerMs ≤ s.ticks))

/-- Step 3: link loss is evaluated for every stream layer (R99, R106). -/
def evaluateLinkLoss (s : State) : State :=
  let s1 := foldN 7 (fun t l =>
    let x := t.layer l
    if t.layerVisible l && t.layerSource l == 1 then
      let y := { x with visibleSince := some (x.visibleSince.getD t.ticks) }
      (t.setLayer l y).setLayer l { y with inLoss := (t.setLayer l y).inLossNow l }
    else t.setLayer l { x with visibleSince := none, inLoss := false }) s
  s1.setFlag Obj.LINK_LOSS_ACTIVE ((List.range 7).any fun l => (s1.layer l).inLoss)

/-- Buffer released at this boundary: the event of R104 (10 R257 code 1). -/
def releaseBuffers (s : State) : State :=
  foldN 8 (fun t l =>
    match (t.layer l).releasing with
    | none => t
    | some n => (t.event 0x0001 (natLE 4 (t.reg (Obj.LAYER_HANDLE l)) ++ natLE 1 n)).setLayer l
        { t.layer l with releasing := none }) s

/-- A buffer flips in at boundary `b` (R102, R104, R105); a frame of the layer's own stream ends its link loss (R106).
DESIGN CHOICE: a flip to the buffer already in force counts as a flip and releases nothing (assumption log 144). -/
def flip (l n : Nat) (b : Int) (s : State) : State :=
  let x := s.layer l
  let old := s.reg (Obj.LAYER_CURRENT_BUFFER l)
  let hadBuffer := s.layerSource l == 0 || x.bound
  let s1 := (s.setReg (Obj.LAYER_CURRENT_BUFFER l) n).bump (Obj.LAYER_FLIPS l)
  let s2 := s1.setReg (Obj.LAYER_LAST_FLIP_TIME l) (packTime (b.toNat * 4294967296))
  s2.setLayer l { x with releasing := if hadBuffer && old != n then some old else none, bound := true
                         pending := if s.layerSource l = 0 then none else x.pending
                         streamPending := if s.layerSource l = 1 then none else x.streamPending
                         inLoss := x.inLoss && x.streamPending.map (·.2.2) != x.stream }

/-- What step 4 finds for a layer (R102, R103, R105). -/
inductive FlipChoice where
  | keep
  | miss
  | flip (buffer : Nat)
  deriving DecidableEq, Repr

/-- The choice for one layer at boundary `b`, with `b1` the next boundary, ns (R102, R103, R105). -/
def State.flipChoice (s : State) (l : Nat) (b b1 : Int) : FlipChoice :=
  let x := s.layer l
  if s.reg (Obj.LAYER_STATE l) ≠ 1 then .keep
  else if s.layerSource l = 0 then
    match x.pending with
    | none => .keep
    | some p =>
      if !s.fenceMet p.timeline p.value b then .miss
      else if p.notBefore ≠ 0 && b1 < (timeNs p.notBefore : Int) then .keep
      else .flip p.buffer
  else if s.layerSource l = 1 then
    match x.streamPending with
    | none => .keep
    | some p => if s.fenceMet (s.reg (Obj.LAYER_STREAM_FENCE l)) p.2.1 b then .flip p.1 else .miss
  else .keep

/-- Step 4: the flip of one layer (R102, R103, R105). -/
def decideFlip (l : Nat) (b b1 : Int) (s : State) : State :=
  match s.flipChoice l b b1 with
  | .keep => s
  | .miss => s.bump (Obj.LAYER_MISSES l)
  | .flip n => flip l n b s

/-- Some layer misses at this boundary (R103, R119). -/
def State.someMiss (s : State) (b b1 : Int) : Bool := (List.range 7).any fun l => s.flipChoice l b b1 == .miss

/-- Step 4 for every layer but L7, which never flips (R107); signals that took part become the base. -/
def decideFlips (b b1 : Int) (s : State) : State :=
  let s1 := foldN 7 (fun t l => decideFlip l b b1 t) s
  let s2 := foldN 16 (fun t k => t.setFence k ((t.fence k).settleAt (s.fenceCutoff b))) s1
  s2.setFlag Obj.LINK_LOSS_ACTIVE ((List.range 7).any fun l => (s2.layer l).inLoss)

/-! ### Views: what each layer contributes to a frame (R94 to R98, R106, R112) -/

/-- The slate of R106: L6 is forced visible. -/
def State.slate (s : State) : Bool :=
  s.flag Obj.LINK_LOSS_ACTIVE && 2 ≤ s.reg Obj.LINK_LOSS_ACTION && !s.layerFree 6

/-- A layer takes part in the frame: visible, not omitted by link loss, with a buffer in force; during the evacuation
display only L7 (R98, R106, 12 R300). -/
def State.layerShown (s : State) (evac : Bool) (l : Nat) : Bool :=
  if evac then l == 7 && s.reg (Obj.LAYER_STATE 7) == 1
  else
    let lost := (s.layer l).inLoss && 1 ≤ s.reg Obj.LINK_LOSS_ACTION
    let forced := l == 6 && s.slate
    (forced || (s.layerVisible l && !lost)) && (s.layerSource l != 1 || (s.layer l).bound)

/-- The view of a layer at a pipeline start. -/
def State.viewOf (s : State) (l : Nat) : LayerView :=
  let n := if l = 7 then 0 else s.reg (Obj.LAYER_CURRENT_BUFFER l)
  let source := s.layerSource l
  let stream := Sparse.get (fun _ => (0, 0, 0)) (s.layer l).streamFormat n
  let forced := l == 6 && s.slate
  let f := if source = 1 then stream.1 else s.reg (Obj.LAYER_FORMAT l)
  let p := s.reg (Obj.LAYER_PROFILE l)
  { layer := l, source := source, profile := if 3 < p then 0 else p, format := if 2 < f then 0 else f
    alpha := if forced then 0xFFFF else s.reg (Obj.LAYER_ALPHA l)
    posX := s.sreg (Obj.LAYER_POS_X l) 16, posY := s.sreg (Obj.LAYER_POS_Y l) 16
    cropX := s.reg (Obj.LAYER_CROP_X l), cropY := s.reg (Obj.LAYER_CROP_Y l)
    cropW := s.reg (Obj.LAYER_CROP_W l), cropH := s.reg (Obj.LAYER_CROP_H l)
    scale := if s.reg (Obj.LAYER_SCALE l) = 1 then 2 else if s.reg (Obj.LAYER_SCALE l) = 2 then 4 else 1
    address := s.reg (Obj.LAYER_BUF_ADDR l n) % 2 ^ 40, stride := s.reg (Obj.LAYER_BUF_STRIDE l n)
    width := s.reg (Obj.LAYER_BUF_WIDTH l n), height := s.reg (Obj.LAYER_BUF_HEIGHT l n) }

/-- Every layer that takes part in a frame, bottom first. -/
def State.views (s : State) (evac : Bool) : List LayerView :=
  ((List.range 8).filter (s.layerShown evac)).map s.viewOf

/-- Bytes per pixel of a format (Table 1). -/
def bytesPerPixel (f : Nat) : Nat := if f = 1 then 4 else if f = 2 then 8 else 6

/-- Tile pixel (x, y) is covered by the view (R96). -/
def LayerView.covers (v : LayerView) (x y : Nat) : Bool :=
  decide (0 ≤ (x : Int) - v.posX) && decide ((x : Int) - v.posX < v.scale * v.cropW) &&
  decide (0 ≤ (y : Int) - v.posY) && decide ((y : Int) - v.posY < v.scale * v.cropH)

/-- The source pixel of a covered tile pixel (R96). -/
def LayerView.sourceOf (v : LayerView) (x y : Nat) : Nat × Nat :=
  (v.cropX + ((x : Int) - v.posX).toNat / v.scale, v.cropY + ((y : Int) - v.posY).toNat / v.scale)

/-- The effective alpha, 0 to 65 536 (R97). -/
def LayerView.effectiveAlpha (v : LayerView) (pixelAlpha : Nat) : Nat :=
  if v.layer = 7 then 65536
  else ((v.alpha + v.alpha / 32768) * (pixelAlpha + pixelAlpha / 32768) + 32768) / 65536

/-- One composition step (R98). -/
def blend (a : Nat) (v out : Int) : Int := (a * v + (65536 - (a : Int)) * out + 32768) / 65536

/-! ### Sail engines (R113 to R117), on the objects taken at the pipeline start -/

/-- A sail engine as evaluated for a frame. -/
structure Sail where
  mode : Nat
  x : Nat
  y : Nat
  w : Nat
  h : Nat
  colourA : List Int
  colourB : List Int
  alphaA : Nat
  alphaB : Nat
  envelope : Int
  dist : Int
  direction : Nat
  barWidth : Int
  spacing : Int
  deriving DecidableEq, Repr

/-- Time t of an engine: the show time, a grid time in 2^-32 ns taken to the nearest ns as the example of R117 does, minus
SAILn_START; a difference of 08 R207, at least 0 (R114). -/
def sailTime (showTime : Int) (start : Nat) : Nat :=
  (min ((showTime + 2147483648) / 4294967296 - (timeNs start : Int)) (2 ^ 62 - 1)).toNat

/-- SAILn_PERIOD in ns, limited (R116). -/
def State.sailPeriod (s : State) (n : Nat) : Nat := s.limited (Obj.SAIL_PERIOD n) 250 60000 * 1000000

/-- ph of R116. -/
def sailPhase (t period : Nat) : Nat := 65536 * (t % period) / period

/-- Evaluate engine `n` for a frame shown at `showTime`, 2^-32 ns (R114 to R117). -/
def State.sail (s : State) (n : Nat) (showTime : Int) : Sail :=
  let t := sailTime showTime (s.reg (Obj.SAIL_START n))
  let ph := sailPhase t (s.sailPeriod n)
  let env := fun i => (s.tabNat (Obj.SAIL_ENVELOPE n) (2 * (i % 256)) 2 : Int)
  let e := env (ph / 256) + ((env (ph / 256 + 1) - env (ph / 256)) * (ph % 256 : Nat) + 128) / 256
  let m := s.reg (Obj.SAIL_MODE n)
  let colour (o : Nat) : List Int := (List.range 3).map fun c => (field (s.tabNat o (4 * c) 4) 0 20 : Int)
  let d := s.reg (Obj.SAIL_DIRECTION n)
  { mode := if 3 < m then 0 else m
    x := s.reg (Obj.SAIL_X n), y := s.reg (Obj.SAIL_Y n), w := s.reg (Obj.SAIL_W n), h := s.reg (Obj.SAIL_H n)
    colourA := colour (Obj.SAIL_COLOUR_A n), colourB := colour (Obj.SAIL_COLOUR_B n)
    alphaA := s.reg (Obj.SAIL_ALPHA_A n), alphaB := s.reg (Obj.SAIL_ALPHA_B n)
    envelope := e, dist := ((s.reg (Obj.SAIL_SPEED n) * t / 256000000000 : Nat) : Int)
    direction := if 3 < d then 0 else d
    barWidth := s.reg (Obj.SAIL_BAR_WIDTH n), spacing := (s.atLeast1 (Obj.SAIL_BAR_SPACING n) : Nat) }

/-- The engine covers the canvas pixel (R113). -/
def Sail.covers (e : Sail) (u v : Nat) : Bool :=
  e.mode != 0 && e.x ≤ u && u < e.x + e.w && e.y ≤ v && v < e.y + e.h && u < 2048 && v < 1024

/-- A pixel lies on a bar of the chase (R117). -/
def Sail.onBar (e : Sail) (u v : Nat) : Bool :=
  let a : Int := if e.direction ≤ 1 then ((u - e.x : Nat) : Int) else ((v - e.y : Nat) : Int)
  let moved := if e.direction % 2 = 0 then a - e.dist else a + e.dist
  decide (moved % e.spacing < e.barWidth)

/-- Colour and alpha of a covered pixel (R115). -/
def Sail.pixel (e : Sail) (u v : Nat) : List Int × Nat :=
  match e.mode with
  | 2 => ((List.zip e.colourA e.colourB).map fun p => p.2 + ((p.1 - p.2) * e.envelope + 32768) / 65536, e.alphaA)
  | 3 => if e.onBar u v then (e.colourA, e.alphaA) else (e.colourB, e.alphaB)
  | _ => (e.colourA, e.alphaA)

/-- The canvas pixel: the highest engine that covers it (R113); none is transparent. -/
def canvasPixel (engines : List Sail) (u v : Nat) : List Int × Nat :=
  match engines.reverse.find? fun e => e.covers u v with
  | some e => e.pixel u v
  | none => ([0, 0, 0], 0)

/-! ### The protected layer (R107 to R111) -/

/-- The byte range of L7's buffer 0 overlaps a range of tile addresses (R109). -/
def State.l7Overlaps (s : State) (address length : Nat) : Bool :=
  let base := s.reg (Obj.LAYER_BUF_ADDR 7 0) % 2 ^ 40
  let size := s.reg (Obj.LAYER_BUF_STRIDE 7 0) * s.reg (Obj.LAYER_BUF_HEIGHT 7 0)
  let meet (a : Nat) : Bool := a < base + size && base < a + length
  s.layers.l7Locked && size != 0 && length != 0 && (meet address || meet (address + 2 ^ 40) || address + length > base + 2 ^ 40)

/-- Arming ends in REFUSED with a cause, and the lock ends (R108). -/
def refuseArming (cause : Nat) (s : State) : State :=
  { (s.setReg Obj.L7_ARM_STATE 4).setReg Obj.L7_REFUSE_CAUSE cause with
    layers := { s.layers with l7Locked := false, filling := false, fillWanted := false } }

/-- L7_ARM (R108, R109). DESIGN CHOICE: a DESTROYING L7, whose handle is still valid, is accepted. DEDUCED: a handle that
is valid for another layer is no valid L7 handle and aborts "stale handle" here and in L7_DISARM (assumption log 145). -/
def actL7Arm : Action := fun q s =>
  match s.layerOf q.arg with
  | some 7 =>
    let st := s.reg Obj.L7_ARM_STATE
    if s.safety.evacActive || st = 1 || st = 2 || st = 3 then .abort s abortBusy
    else
      .done ({ (s.setReg Obj.L7_ARM_STATE 1).setReg Obj.L7_REFUSE_CAUSE 0 with
        layers := { s.layers with l7Locked := true, fillWanted := true, filling := false, spoiled := 0,
                                  disarming := false, refillReady := false } })
  | some _ => .abort s abortStale
  | none => .abort s abortStale

/-- L7_DISARM: the lock ends, the state follows at the next boundary (R111). -/
def actL7Disarm : Action := fun q s =>
  match s.layerOf q.arg with
  | some 7 =>
    .done { s with layers := { s.layers with l7Locked := false, disarming := true, filling := false, fillWanted := false,
                                             refillReady := false } }
  | some _ => .abort s abortStale
  | none => .abort s abortStale

/-- An input of the frozen path has changed (R110, 03 R86): a new pass is needed while ARMED, a running one is
abandoned. -/
def noteFillInput (s : State) : State :=
  let st := s.reg Obj.L7_ARM_STATE
  if st = 2 then { s.setReg Obj.L7_ARM_STATE 3 with layers := { s.layers with fillWanted := true, refillReady := false } }
  else if st = 1 || st = 3 then { s with layers := { s.layers with fillWanted := true, filling := false, refillReady := false } }
  else s

/-! ### The meanings -/

/-- LAYER_CREATE (R90). -/
def execLayerCreate (rq : Req) (data : Bytes) : State → Host.Outcome State Fault Refusal :=
  hostWrite actLayerCreate rq Obj.LAYER_CREATE data

/-- LAYER_DESTROY (R92). -/
def execLayerDestroy (rq : Req) (data : Bytes) : State → Host.Outcome State Fault Refusal :=
  hostWrite actLayerDestroy rq Obj.LAYER_DESTROY data

/-- LAYER_SUBMIT (R100). -/
def execLayerSubmit (rq : Req) (data : Bytes) : State → Host.Outcome State Fault Refusal :=
  hostWrite actLayerSubmit rq Obj.LAYER_SUBMIT data

/-- FENCE_SIGNAL (R101). -/
def execFenceSignal (rq : Req) (data : Bytes) : State → Host.Outcome State Fault Refusal :=
  hostWrite actFenceSignal rq Obj.FENCE_SIGNAL data

/-- L7_ARM (R108). -/
def execL7Arm (rq : Req) (data : Bytes) : State → Host.Outcome State Fault Refusal :=
  hostWrite actL7Arm rq Obj.L7_ARM data

/-- L7_DISARM (R111). -/
def execL7Disarm (rq : Req) (data : Bytes) : State → Host.Outcome State Fault Refusal :=
  hostWrite actL7Disarm rq Obj.L7_DISARM data

/-- LAYER_COUNTERS_CLEAR (R121). -/
def execLayerCountersClear (rq : Req) (data : Bytes) : State → Host.Outcome State Fault Refusal :=
  hostWrite actLayerCountersClear rq Obj.LAYER_COUNTERS_CLEAR data

end Sys2Proof.Machine
end

