-- ==== Sys2Proof/Machine/Geometry.lean ====
section
/-! DEFINITION. The tile model (chapter 01): effective geometry, the column map, zones, where an emitter stands, and
the indices of per-pixel stores. -/

namespace Sys2Proof.Machine

/-! ### Effective geometry (R29) -/

/-- Effective geometry. -/
structure Geometry where
  rows : Nat
  w : Nat
  h : Nat
  bands : Nat
  deriving DecidableEq, Repr

/-- R29 on held values. -/
def effective (tileWidth tileHeight rowsCode : Nat) : Geometry :=
  let rows := if 3 < rowsCode then 32 else 8 * (rowsCode + 1)
  let w := min tileWidth (min 2048 (32768 / rows))
  let h := if w = 0 then 0 else min tileHeight (min (32 * rows) (1048576 / w))
  { rows := rows, w := w, h := h, bands := ceilDiv h rows }

/-- The effective width in force. -/
def State.width (s : State) : Nat := s.reg Obj.EFFECTIVE_WIDTH

/-- The effective height in force. -/
def State.height (s : State) : Nat := s.reg Obj.EFFECTIVE_HEIGHT

/-- Bands scanned. -/
def State.bandCount (s : State) : Nat := s.reg Obj.BAND_COUNT

/-- Emitters of the effective geometry (R17). -/
def State.emitters (s : State) : Nat := 3 * s.width * s.height

/-! ### The column map (R22 to R26) -/

/-- NODE and GROUP of an X_MAP entry, none when it is unmapped (R22). -/
def decodeMapEntry (e : Nat) : Option (Nat × Nat) :=
  let node := field e 6 6
  if node = 0 || 32 < node then none else some (node, field e 0 6)

/-- Entry `x` of the map held. -/
def State.mapEntry (s : State) (x : Nat) : Nat := s.tabNat Obj.X_MAP (2 * x) 2

/-- The fill pattern of R26 for entry `x`. -/
def fillEntry (arg wc x : Nat) : Nat :=
  if wc ≤ x then 0
  else if arg = 0 then (1 + x / 64) * 64 + x % 64
  else if arg = 1 then (1 + (wc - 1 - x) / 64) * 64 + (wc - 1 - x) % 64
  else 0

/-- X_MAP_FILL (R26); the bar of R31 has been checked. -/
def actXMapFill : Action := fun q s =>
  let wc := min (s.reg Obj.TILE_WIDTH) 2048
  .done ((s.clearTab Obj.X_MAP).setTab Obj.X_MAP 0 ((List.range 2048).flatMap fun x => natLE 2 (fillEntry q.arg wc x)))

/-- X_MAP written as a DOMAIN: whole entries from 0 (R24). -/
def actXMap : Action := fun q s =>
  .done (s.setTab Obj.X_MAP 0 ((q.data.take (q.data.length / 2 * 2)).take 4096))

/-- X_MAP_ENTRY written (R25); bits [15:12] are reserved (R10, R22). -/
def actXMapEntry : Action := fun q s =>
  if 2048 ≤ s.reg Obj.X_MAP_INDEX then .abort s abortNoObject
  else .done (s.setTab Obj.X_MAP (2 * s.reg Obj.X_MAP_INDEX) (natLE 2 (q.arg % 4096)))

/-- X_MAP_FILL. -/
def execXMapFill (rq : Req) (data : Bytes) : State → Host.Outcome State Fault Refusal :=
  hostWrite actXMapFill rq Obj.X_MAP_FILL data

/-- The columns of a map: the highest x below `w` at each (node, group), keyed node × 64 + group, value x + 1 (R23). -/
def columnsOf (entry : Nat → Nat) (w : Nat) : Sparse Nat :=
  foldN w (fun m x =>
    match decodeMapEntry (entry x) with
    | some (n, g) => Sparse.set (fun _ => 0) m (n * 64 + g) (x + 1)
    | none => m) []

/-- The (node, group) that a column drives, none when it is unmapped or loses a collision (R23). -/
def State.slotOf (s : State) (x : Nat) : Option (Nat × Nat) :=
  (s.pipe.columns.find? fun e => e.2 == x + 1).map fun e => (e.1 / 64, e.1 % 64)

/-- The column that a (node, group) shows. -/
def State.columnAt (s : State) (node group : Nat) : Option Nat :=
  match Sparse.get (fun _ => 0) s.pipe.columns (node * 64 + group) with
  | 0 => none
  | x + 1 => some x

/-! ### Zones (R28) and indices (R17) -/

/-- Zone number 64 r + c of a pixel. -/
def zoneOf (w h x y : Nat) : Nat := 64 * (32 * y / h) + 64 * x / w

/-- The zone of a pixel under the geometry in force. -/
def State.zone (s : State) (x y : Nat) : Nat := zoneOf s.width s.height x y

/-- Columns and rows of a zone. -/
def State.zoneSpan (s : State) (z : Nat) : (Nat × Nat) × (Nat × Nat) :=
  ((ceilDiv (z % 64 * s.width) 64, ceilDiv ((z % 64 + 1) * s.width) 64),
   (ceilDiv (z / 64 * s.height) 32, ceilDiv ((z / 64 + 1) * s.height) 32))

/-- Pixels of a zone. -/
def State.zonePixels (s : State) (z : Nat) : Nat :=
  match s.zoneSpan z with
  | ((x0, x1), (y0, y1)) => (x1 - x0) * (y1 - y0)

/-- The pixel index (R17). -/
def State.pixelIx (s : State) (x y : Nat) : Nat := y * s.width + x

/-- Column, row and colour of an emitter index. -/
def State.placeOf (s : State) (e : Nat) : Nat × Nat × Nat :=
  (e / 3 % s.width, e / 3 / s.width, e % 3)

/-! ### Colour order (R21) -/

/-- Offset of a colour in its group. -/
def colourOffset (order colour : Nat) : Nat :=
  natAt ([[0, 1, 2], [0, 2, 1], [1, 0, 2], [2, 0, 1], [1, 2, 0], [2, 1, 0]].getD (if 5 < order then 0 else order) [])
    colour

/-- Colour at an offset of a group. -/
def colourAt (order offset : Nat) : Nat :=
  if colourOffset order 0 = offset then 0 else if colourOffset order 1 = offset then 1 else 2

/-- The row output that lights row `r` of band `b` (R20). -/
def State.rowOutput (s : State) (b r : Nat) : Nat :=
  if bitAt s.scan.rowReverse b then s.scan.rows - 1 - r else r

/-! ### Present nodes and driven pixels (R33, R135) -/

/-- A node of a band. -/
def State.node (s : State) (b n : Nat) : NodeState := Sparse.get (fun _ => {}) (s.band b).nodes n

/-- A node stands on a band link as enumerated at the last start. -/
def State.nodeFound (s : State) (b n : Nat) : Bool := (s.node b n).present

/-- Replace a node. -/
def State.setNode (s : State) (b n : Nat) (x : NodeState) : State :=
  s.setBand b { s.band b with nodes := Sparse.set (fun _ => {}) (s.band b).nodes n x }

/-- The pixel is driven (R33): mapped, no lost collision, its node found, its band not FAILED. -/
def State.driven (s : State) (x y : Nat) : Bool :=
  match s.slotOf x with
  | none => false
  | some (n, _) =>
    let b := y / s.scan.rows
    decide (x < s.width) && decide (y < s.height) && s.nodeFound b n && (s.band b).step != .failed

/-- Key of a drive code word: band, node, row of the band, channel. -/
def wordKey (b n r ch : Nat) : Nat := ((b * 64 + n) * 32 + r) * 192 + ch

/-- Key of the word of an emitter, none when its column is not driven. -/
def State.emitterKey (s : State) (x y colour : Nat) : Option Nat :=
  (s.slotOf x).map fun ng => wordKey (y / s.scan.rows) ng.1 (y % s.scan.rows) (3 * ng.2 + colourOffset s.scan.colourOrder colour)

/-- The emitter of a channel of a node in a row of a band, none when no pixel stands there (R19, R21, R34). -/
def State.emitterAt (s : State) (b n r ch : Nat) : Option Nat :=
  match s.columnAt n (ch / 3) with
  | none => none
  | some x =>
    let y := b * s.scan.rows + r
    if y < s.height && x < s.width && r < s.scan.rows then
      some (3 * s.pixelIx x y + colourAt s.scan.colourOrder (ch % 3))
    else none

/-! ### The geometry apply (R30) -/

/-- The column masks and counts of a map (R36 Table 6). -/
def mapCounts (entry : Nat → Nat) (w : Nat) (columns : Sparse Nat) : Nat × Nat × Nat :=
  foldN w (fun (a : Nat × Nat × Nat) x =>
    match decodeMapEntry (entry x) with
    | none => (a.1, a.2.1 + 1, a.2.2)
    | some (n, g) =>
      let lost := Sparse.get (fun _ => 0) columns (n * 64 + g) != x + 1
      (putBit a.1 (n - 1) true, a.2.1, a.2.2 + b2n lost)) (0, 0, 0)

/-- COLOUR_ORDER as it acts: a held value above 5 acts as 0 (R21). -/
def State.actingColourOrder (s : State) : Nat := if 5 < s.reg Obj.COLOUR_ORDER then 0 else s.reg Obj.COLOUR_ORDER

/-- The geometry apply: R29, the column map and every object of 0x2020 (R30). -/
def applyGeometry (s : State) : State :=
  let g := effective (s.reg Obj.TILE_WIDTH) (s.reg Obj.TILE_HEIGHT) (s.reg Obj.ROWS_PER_BAND)
  let columns := columnsOf s.mapEntry g.w
  let counts := mapCounts s.mapEntry g.w columns
  let s1 := (((s.setReg Obj.EFFECTIVE_WIDTH g.w).setReg Obj.EFFECTIVE_HEIGHT g.h).setReg Obj.BAND_COUNT g.bands).setReg
    Obj.RAIL_GROUPS_USED (maskNat 16 fun i => decide (2 * i < g.bands))
  let s2 := ((s1.setReg Obj.NODES_REFERENCED counts.1).setReg Obj.UNMAPPED_COLUMNS counts.2.1).setReg
    Obj.COLLIDING_COLUMNS counts.2.2
  let s3 := (s2.setReg Obj.CLIPPED_PIXELS (s.reg Obj.TILE_WIDTH * s.reg Obj.TILE_HEIGHT - g.w * g.h)).bump
    Obj.GEOMETRY_APPLIES
  let s4 := s3.setTab Obj.ZONE_X_EDGES 0 ((List.range 65).flatMap fun c => natLE 2 (ceilDiv (c * g.w) 64))
  let s5 := s4.setTab Obj.ZONE_Y_EDGES 0 ((List.range 33).flatMap fun r => natLE 2 (ceilDiv (r * g.h) 32))
  { s5 with
    pipe := { s5.pipe with columns := columns }
    scan := { s5.scan with rows := g.rows, colourOrder := s.actingColourOrder, rowReverse := s.reg Obj.ROW_REVERSE
                           calStore := s.reg Obj.CAL_STORE_ADDR, doseStore := s.reg Obj.DOSE_STORE_ADDR
                           defectStore := s.reg Obj.DEFECT_MAP_ADDR, vfStore := s.reg Obj.VF_STORE_ADDR } }

end Sys2Proof.Machine
end

