-- ==== Sys2Proof/Machine/Memory.lean ====
section
/-! DEFINITION. External memory, regions and rings (chapter 11): translation, the start of LPDDR5, the scrub, and host
descriptors from fetch to write-back. The traffic of the device rings is counted burst by burst; its data move with the
commands of the engines that own it (assumption log 27). -/

namespace Sys2Proof.Machine

/-! ### Regions and translation (R272 to R274) -/

/-- Bytes of addressable staging SRAM (R273). -/
abbrev stagingSize : Nat := 1048576

/-- What a translation gives: the target, or the cause of a fault, 0 for none (R272). -/
structure Target where
  cause : Nat
  staging : Bool
  addr : Nat
  deriving DecidableEq, Repr

/-- Region entry `i` matches tile address `a`. -/
def State.regionHolds (s : State) (i a : Nat) : Bool :=
  let base := s.tabNat Obj.REGION_TABLE (16 * i) 3
  let size := s.tabNat Obj.REGION_TABLE (16 * i + 3) 3
  bitAt (s.tabByte Obj.REGION_TABLE (16 * i + 9)).toNat 0 && base * 65536 ≤ a && a < (base + size) * 65536

/-- The lowest-numbered entry that matches. -/
def State.regionOf (s : State) (a : Nat) : Option Nat := (List.range 256).find? fun i => s.regionHolds i a

/-- Translate `n` bytes at tile address `a` (R272). -/
def State.translate (s : State) (a n : Nat) (write host : Bool) : Target :=
  match s.regionOf a with
  | none => ⟨1, false, 0⟩
  | some i =>
    let flags := (s.tabByte Obj.REGION_TABLE (16 * i + 9)).toNat
    let staging := bitAt flags 1
    let addr := s.tabNat Obj.REGION_TABLE (16 * i + 6) 3 % 2 ^ 18 * 65536 +
      (a - s.tabNat Obj.REGION_TABLE (16 * i) 3 * 65536)
    if !staging && s.reg Obj.MEM_STATE ≠ 2 then ⟨0x0B, staging, addr⟩
    else if (if staging then stagingSize else s.reg Obj.MEM_USABLE_BYTES) < addr + max n 1 then ⟨2, staging, addr⟩
    else if host && !bitAt flags (if write then 3 else 2) then ⟨3, staging, addr⟩
    else ⟨0, staging, addr⟩

/-- A translation fault is counted; cause 0x0B is not one (R272). -/
def State.noteTranslation (s : State) (a cause : Nat) : State :=
  if 1 ≤ cause && cause ≤ 4 then (s.bump Obj.TRANSLATION_FAULTS).setReg Obj.LAST_FAULT_ADDR a else s

/-! ### Words and their ECC (R269) -/

/-- The 64-bit words that `n` bytes at `a` touch, ascending. -/
def wordsAt (a n : Nat) : List Nat := if n = 0 then [] else (List.range ((a + n - 1) / 8 - a / 8 + 1)).map (a / 8 + ·)

/-- A word lies whole inside `n` bytes at `a`. -/
def coversWord (a n w : Nat) : Bool := decide (a ≤ 8 * w) && decide (8 * w + 8 ≤ a + n)

/-- The words that a write of `n` bytes at `a` covers whole leave the list. -/
def dropCovered (words : List Nat) (a n : Nat) : List Nat := words.filter fun w => !coversWord a n w

/-- The uncorrectable words of a target's memory. -/
def State.badWords (s : State) (staging : Bool) : List Nat := if staging then s.memory.stagingUe else s.memory.ueWords

/-- Uncorrectable words that a read of `n` bytes of a target meets. -/
def State.readBad (s : State) (t : Target) (n : Nat) : List Nat := (wordsAt t.addr n).filter (s.badWords t.staging).contains

/-- Uncorrectable words that a write of `n` bytes of a target reads first, as it covers them only in part (Table 4, cause
0x05). -/
def State.writeBad (s : State) (t : Target) (n : Nat) : List Nat :=
  (s.readBad t n).filter fun w => !coversWord t.addr n w

/-- The bytes of a target. -/
def State.targetBytes (s : State) (t : Target) (n : Nat) : Bytes :=
  if t.staging then s.stagingBytes t.addr n else s.memBytes t.addr n

/-- Two ranges of `n` and `m` bytes at `a` and `b` meet. -/
def rangesMeet (a n b m : Nat) : Bool := decide (a < b + m) && decide (b < a + n)

/-- Bursts issued before `issue` and not yet written keep off a range that is written now (R281). -/
def State.writtenOver (s : State) (issue : Nat) (t : Target) (n : Nat) : State :=
  { s with memory := { s.memory with
    inflight := s.memory.inflight.map fun b =>
      if b.issue < issue && b.dstStaging == t.staging && rangesMeet b.dst b.length t.addr n then
        { b with later := (t.addr, n) :: b.later }
      else b } }

/-- Write a target; words covered whole are sound again (R269). -/
def State.setTarget (s : State) (t : Target) (bs : Bytes) : State :=
  if t.staging then
    let s1 := s.setStaging t.addr bs
    { s1 with memory := { s1.memory with stagingUe := dropCovered s1.memory.stagingUe t.addr bs.length } }
  else
    let s1 := s.setMem t.addr bs
    { s1 with memory := { s1.memory with ueWords := dropCovered s1.memory.ueWords t.addr bs.length } }

/-- An uncorrectable word of LPDDR5 has been read (R269, FS69). -/
def State.noteUncorrectable (s : State) (a : Nat) : State :=
  let s1 := ((s.bump Obj.MEM_UNCORRECTED).setReg Obj.MEM_LAST_UE_ADDR (a / 8 * 8)).occur 69
  { s1 with memory := { s1.memory with ueWords := insertOnce (a / 8) s1.memory.ueWords } }

/-- An uncorrectable error in an SRAM region (02 R49, R53): `region` counts the rows of Table 3; the beacon store has
its own source (13 Table 1). -/
def State.sramUncorrectable (s : State) (region offset : Nat) : State :=
  ((s.bumpAt Obj.SRAM_UNCORRECTED region 1).setRegAt Obj.SRAM_LAST_OFFSET region offset).occur
    (if region = 6 then 16 else 10 + region)

/-- An uncorrectable word of the staging SRAM has been read. -/
def State.noteStagingBad (s : State) (offset : Nat) : State :=
  let s1 := s.sramUncorrectable 3 offset
  { s1 with memory := { s1.memory with stagingUe := insertOnce (offset / 8) s1.memory.stagingUe } }

/-- Uncorrectable words of a memory that have been read, in ascending order. -/
def State.noteBad (s : State) (staging : Bool) (words : List Nat) : State :=
  words.foldl (fun t w => if staging then t.noteStagingBad (8 * w) else t.noteUncorrectable (8 * w)) s

/-! ### The region of L7 (04 R108) -/

/-- Tile pixel (x, y) belongs to the protected region: covered by L7's view inside the tile. -/
def State.inRegion (s : State) (x y : Nat) : Bool :=
  decide (x < s.width) && decide (y < s.height) && (s.viewOf 7).covers x y

/-- Address of a calibration record, bits [7:0] of the store address acting as 0 (R275). -/
def State.calAddr (s : State) (p : Nat) : Nat := s.scan.calStore / 256 * 256 + 32 * p

/-- A write of `n` bytes at tile address `a` touches the calibration record of a region pixel (03 R86). -/
def State.touchesRegionCal (s : State) (a n : Nat) : Bool :=
  let base := s.calAddr 0
  if a + n ≤ base || n = 0 then false
  else
    let first := (max a base - base) / 32
    let last := (a + n - 1 - base) / 32
    (List.range (last - first + 1)).any fun i =>
      let p := first + i
      s.width ≠ 0 && s.inRegion (p % s.width) (p / s.width)

/-- A refill is needed when a region pixel's record is written (03 R86, 04 R110). -/
def State.noteCalWrite (s : State) (a n : Nat) : State := if s.touchesRegionCal a n then noteFillInput s else s

/-! ### Access by the device's engines -/

/-- The bursts of `n` bytes at tile address `a`: the parts in each 256-byte block, ascending (R272, R281). -/
def burstsAt (a n : Nat) : List (Nat × Nat) :=
  if n = 0 then []
  else (List.range ((a + n - 1) / 256 - a / 256 + 1)).map fun i =>
    let lo := max a ((a / 256 + i) * 256)
    (lo % 2 ^ 40, min (a + n) ((a / 256 + i + 1) * 256) - lo)

/-- The bytes of one burst that a device engine reads; none when they are missing (R60, R288). -/
def State.readBurst (s : State) (a n : Nat) : Option Bytes :=
  let t := s.translate a n false false
  if t.cause ≠ 0 || !(s.readBad t n).isEmpty then none else some (s.targetBytes t n)

/-- The bytes of some bursts, none when one of them is missing. -/
def State.readBursts (s : State) : List (Nat × Nat) → Option Bytes
  | [] => some []
  | b :: bs =>
    match s.readBurst b.1 b.2, s.readBursts bs with
    | some x, some y => some (x ++ y)
    | _, _ => none

/-- `n` bytes at a tile address as a device engine reads them, burst by burst; none when some are missing (R60, R288). -/
def State.deviceRead (s : State) (a n : Nat) : Option Bytes := s.readBursts (burstsAt a n)

/-- What the read of `n` bytes at a tile address by a device engine counts: the translation fault of each burst, and each
uncorrectable word (R269, R272, assumption log 27). -/
def noteRead (a n : Nat) (s : State) : State :=
  (burstsAt a n).foldl (fun u b =>
    let t := u.translate b.1 b.2 false false
    if t.cause ≠ 0 then u.noteTranslation b.1 t.cause else u.noteBad t.staging (u.readBad t b.2)) s

/-- One burst that a device engine writes, and whether it was: a translation fault, an uncorrectable word covered in part,
or a timeout or fault told before drops it (R269, R272, R288, 02 R42). -/
def writeDevice (a : Nat) (bs : Bytes) (s : State) : Bool × State :=
  let t := s.translate a bs.length true false
  match s.pipe.dropped.find? fun d => a ≤ d && d < a + bs.length with
  | some d => (false, { s with pipe := { s.pipe with dropped := s.pipe.dropped.erase d } })
  | none =>
    if t.cause ≠ 0 then (false, s.noteTranslation a t.cause)
    else if !(s.writeBad t bs.length).isEmpty then (false, s.noteBad t.staging (s.writeBad t bs.length))
    else (true, ((s.setTarget t bs).writtenOver s.memory.issued t bs.length).noteCalWrite a bs.length)

/-- The bursts of a write in turn, and whether all were written. -/
def writeBursts : List (Nat × Nat) → Bytes → State → Bool × State
  | [], _, s => (true, s)
  | b :: rest, bs, s =>
    let r := writeDevice b.1 (bs.take b.2) s
    let q := writeBursts rest (bs.drop b.2) r.2
    (r.1 && q.1, q.2)

/-- A device engine writes bytes at a tile address, burst by burst; a write over the record of a region pixel is watched
(03 R86). -/
def State.deviceWrite (s : State) (a : Nat) (bs : Bytes) : State := (writeBursts (burstsAt a bs.length) bs s).2

/-- A read of PIXEL over H02: what it counts, and its transfer (02 R42). -/
def pixelRead (a n : Nat) (s : State) : State := (noteRead a n s).crossed 2

/-- A write of PIXEL over H03 (02 R42). -/
def State.pixelWrite (s : State) (a : Nat) (bs : Bytes) : State := (s.deviceWrite a bs).crossed 3

/-- Ranges of a ring that failed to arrive cover a tile address. -/
def State.isMissing (s : State) (ring a n : Nat) : Bool :=
  s.pipe.missing.any fun m => m.1 == ring && decide (m.2.1 < a + n) && decide (a < m.2.1 + m.2.2)

/-- Note data that failed to arrive for the frame in computation. -/
def State.noteMissing (s : State) (ring a n : Nat) : State :=
  { s with pipe := { s.pipe with missing := (ring, a, n) :: s.pipe.missing } }

/-- Address of a dose accumulator. -/
def State.doseAddr (s : State) (e : Nat) : Nat := s.scan.doseStore / 256 * 256 + 4 * e

/-- Address of the defect-map byte of an emitter. -/
def State.defectAddr (s : State) (e : Nat) : Nat := s.scan.defectStore / 256 * 256 + e / 2

/-- Address of a Vf trend entry. -/
def State.vfAddr (s : State) (e : Nat) : Nat := s.scan.vfStore / 256 * 256 + 16 * e

/-! ### Start and scrub (R268 to R271) -/

/-- MEM_START (R270, 14 R351). -/
def actMemStart : Action := fun _ s =>
  let st := s.reg Obj.MEM_STATE
  if s.power.tripped || !(st = 0 || st = 4) then .abort s abortBusy
  else .done ((s.setReg Obj.MEM_STATE 1).setReg Obj.MEM_FAIL_CAUSE 0)

/-- The memory start ends in FAILED. -/
def failMemory (cause : Nat) (s : State) : State := (s.setReg Obj.MEM_STATE 4).setReg Obj.MEM_FAIL_CAUSE cause

/-- The memory start ends (R270); densities are in GiB (assumption log 28). -/
def memStarted (d0 d1 : Nat) (trained : Bool) (s : State) : State :=
  if d0 < 1 || 8 < d0 || d1 < 1 || 8 < d1 then failMemory 2 s
  else if d0 ≠ d1 then failMemory 1 s
  else
    let total := (d0 + d1) * 1073741824
    let s1 := (s.setReg Obj.MEM_INSTALLED_BYTES total).setReg Obj.MEM_USABLE_BYTES (total / 8 * 7)
    if !trained then failMemory 3 s1
    else
      let s2 := s1.setReg Obj.MEM_STATE 2
      { s2 with mem := [], memory := { s2.memory with ueWords := [], scrubBlock := 0 } }

/-- Counters of a device ring after one of its bursts (R290). -/
def State.deviceRingDone (s : State) (r n cause : Nat) (write : Bool) : State :=
  if cause = 0 then (s.bump (Obj.RING_COMPLETED r)).bumpAt (Obj.RING_BYTES r) 0 (if write then n else 0)
  else
    let s1 := (s.bump (Obj.RING_NOT_STARTED r)).setReg (Obj.RING_LAST_CAUSE r) cause
    if cause = 6 then s1.occur 70 else s1

/-- One 256-byte block of the patrol scrub (R271): every uncorrectable word of it counts, and the block is skipped then;
else corrected words are written back unless newer data have arrived. -/
def scrubStep (corrected : Nat) (uncorrectable : Option Nat) (newer : Bool) (s : State) : State :=
  let blocks := s.reg Obj.MEM_USABLE_BYTES / 256
  let base := s.memory.scrubBlock * 256
  let bad := (wordsAt base 256).filter fun w =>
    s.memory.ueWords.contains w || uncorrectable.map (fun a => (base + a % 256) / 8) == some w
  let s1 := (s.bumpAt Obj.MEM_CORRECTED 0 corrected).noteBad false bad
  let s2 := if bad.isEmpty then s1.deviceRingDone 5 (if corrected ≠ 0 && !newer then 256 else 0) 0 true
    else s1.deviceRingDone 5 0 5 false
  let next := s.memory.scrubBlock + 1
  if blocks ≤ next then { s2.bump Obj.SCRUB_PASSES with memory := { s2.memory with scrubBlock := 0 } }
  else { s2 with memory := { s2.memory with scrubBlock := next } }

/-! ### Rings (R277, R278) -/

/-- The hidden state of ring `r`. -/
def State.ring (s : State) (r : Nat) : RingState := Sparse.get (fun _ => {}) s.memory.rings r

/-- Replace it. -/
def State.setRing (s : State) (r : Nat) (x : RingState) : State :=
  { s with memory := { s.memory with rings := Sparse.set (fun _ => {}) s.memory.rings r x } }

/-- RINGr_STATE. -/
def State.ringState (s : State) (r : Nat) : Nat := s.reg (Obj.RING_STATE r)

/-- Slots of a ring. -/
def State.ringSlots (s : State) (r : Nat) : Nat := 2 ^ s.limited (Obj.RING_SIZE_LOG2 r) 4 16

/-- The class of a ring (R282, Table 2). -/
def State.ringClass (s : State) (r : Nat) : Nat :=
  if r < 8 then natAt [0, 1, 1, 2, 2, 3, 3, 3] r
  else if s.reg (Obj.RING_CLASS r) = 0 then 1 else min (s.reg (Obj.RING_CLASS r)) 3

/-- Descriptors posted and not ended. -/
def State.ringEmpty (s : State) (r : Nat) : Bool := s.reg (Obj.RING_HEAD r) == s.reg (Obj.RING_TAIL r)

/-- RUNNING, or IDLE when HEAD has reached TAIL (R278). -/
def settleRing (r : Nat) (s : State) : State := s.setReg (Obj.RING_STATE r) (if s.ringEmpty r then 1 else 2)

/-- The ring that a handle names, or an abort code (R277). -/
def State.ringOf (s : State) (h : Nat) : Nat ⊕ Nat :=
  let r := h % 4096
  if h / 16777216 ≠ 0x20 then .inr abortStale
  else if r ≤ 7 then .inr abortDenied
  else if r ≤ 63 && s.ringState r ≠ 0 && field h 12 12 == (s.ring r).gen then .inl r
  else .inr abortStale

/-- RW objects of a ring, its TAIL included, and what restarts with it (R277, assumption log 29: counters are kept). -/
def ringObjects (r : Nat) : List Nat :=
  [Obj.RING_CLASS r, Obj.RING_POLICY r, Obj.RING_BASE r, Obj.RING_SIZE_LOG2 r, Obj.RING_TAIL r, Obj.RING_HEAD r,
   Obj.RING_PROGRESS r]

/-- RING_CREATE (R277). -/
def actRingCreate : Action := fun q s =>
  let r := q.arg
  if 63 < r then .abort s abortNoObject
  else if r ≤ 7 then .abort s abortDenied
  else if s.ringState r ≠ 0 then .abort s abortBusy
  else
    let s1 := (s.clearRegs (Obj.RING_LAST_CAUSE r :: ringObjects r)).setRing r { gen := (s.ring r).gen }
    .done ((s1.setReg (Obj.RING_STATE r) 1).setReg (Obj.RING_HANDLE r) (handleOf 0x20 (s.ring r).gen r))

/-- Free a stopped ring: its generation increases (R277). -/
def freeRing (r : Nat) (s : State) : State :=
  ((s.clearRegs (ringObjects r)).setReg (Obj.RING_STATE r) 0).setReg (Obj.RING_HANDLE r) 0 |>.setRing r
    { gen := nextGen (s.ring r).gen }

/-! ### Descriptors (R279) -/

/-- A field of a descriptor. -/
def descNat (d : Bytes) (o n : Nat) : Nat := leNat ((d.drop o).take n)

/-- SRC_ADDR. -/
def descSrc (d : Bytes) : Nat := descNat d 0 5
/-- DST_ADDR. -/
def descDst (d : Bytes) : Nat := descNat d 8 5
/-- LENGTH. -/
def descLength (d : Bytes) : Nat := descNat d 16 3
/-- A flag of DFLAGS: 0 FILL, 1 SRC_FIFO, 2 DST_FIFO, 3 FENCE. -/
def descFlag (d : Bytes) (i : Nat) : Bool := bitAt (descNat d 20 1) i
/-- SRC_FIFO acts, which FILL makes ignored. -/
def descSrcFifo (d : Bytes) : Bool := descFlag d 1 && !descFlag d 0

/-- Tile address of slot HEAD. -/
def State.slotAddr (s : State) (r : Nat) : Nat :=
  s.reg (Obj.RING_BASE r) % 2 ^ 40 / 32 * 32 + 32 * (s.reg (Obj.RING_HEAD r) % s.ringSlots r)

/-- What follows the end of a descriptor: FREE, HALTED, or the next one (R277, R286). -/
def afterDescriptor (r : Nat) (halt : Bool) (s : State) : State :=
  let x := s.ring r
  let s1 := s.setRing r { x with descriptor := none, haltWanted := false, suspended := false }
  if x.destroyWanted then freeRing r s1
  else if halt || x.haltWanted then s1.setReg (Obj.RING_STATE r) 3
  else settleRing r s1

/-- The cause that a write-back meets, and what it counts (R289): a translation fault, or the memory's answer. -/
def State.writeBackCause (s : State) (a : Nat) (t : Target) (wb : MemTrouble) : Nat × State :=
  if t.cause ≠ 0 then (t.cause, s.noteTranslation a t.cause)
  else match wb with
    | .none => (0, s)
    | .corrected _ _ => (0, s)
    | .noResponse => if t.staging then (0, s) else (6, s.occur 70)
    | .uncorrectable x => if t.staging then (0, s) else (5, s.noteUncorrectable (t.addr + x % 32))
    | .stagingUncorrectable x => if t.staging then (5, s.noteStagingBad (t.addr + x % 32)) else (0, s)

/-- End a descriptor with STATUS and CAUSE: write-back, counters, fence and policy (R284 to R289); `wb` is the memory's
answer to the write-back. -/
def endDescriptor (r : Nat) (d : Bytes) (status cause : Nat) (wb : MemTrouble) (s : State) : State :=
  let doneBytes := s.reg (Obj.RING_PROGRESS r)
  let at' := s.slotAddr r
  let t := s.translate at' 32 true true
  let s1 := (s.bump (Obj.RING_HEAD r)).setReg (Obj.RING_PROGRESS r) 0
  let s2 := if cause = 6 then s1.occur 70 else s1
  let w := s2.writeBackCause at' t wb
  if w.1 ≠ 0 then afterDescriptor r true (w.2.setReg (Obj.RING_LAST_CAUSE r) w.1)
  else
    let image := d.take 22 ++ [BitVec.ofNat 8 status, BitVec.ofNat 8 cause] ++ (d.drop 24).take 4 ++ natLE 4 doneBytes
    let s3 := ((w.2.setTarget t image).writtenOver s.memory.issued t 32).setReg (Obj.RING_LAST_CAUSE r) cause
    if status = 1 then
      let s4 := s3.bump (Obj.RING_COMPLETED r)
      let timeline := descNat d 21 1
      let s5 := if descFlag d 3 && timeline ≤ 15 then fenceSignal timeline (descNat d 24 4) (some s4.nowNs) s4 else s4
      afterDescriptor r false s5
    else
      let s4 := (s3.bump (if status = 2 then Obj.RING_PARTIAL r else Obj.RING_NOT_STARTED r)).occur 71
      afterDescriptor r (s.reg (Obj.RING_POLICY r) ≠ 1 || cause = 9) s4

/-- A fault or a stop ends the descriptor PARTIAL or NOT_STARTED by what has been written (R284). -/
def stopDescriptor (r : Nat) (d : Bytes) (cause : Nat) (wb : MemTrouble) (s : State) : State :=
  endDescriptor r d (if s.reg (Obj.RING_PROGRESS r) = 0 then 3 else 2) cause wb s

/-- Halt or destroy between bursts; the write-back that follows is accepted (assumption log 157). -/
def stopRing (r : Nat) (s : State) : State :=
  match (s.ring r).descriptor with
  | some d => stopDescriptor r d 9 .none s
  | none => afterDescriptor r true s

/-- A burst of the ring is in flight. -/
def State.bursting (s : State) (r : Nat) : Bool := s.memory.inflight.any (·.ring == r)

/-- RING_DESTROY (R277). -/
def actRingDestroy : Action := fun q s =>
  match s.ringOf (q.arg % 2 ^ 32) with
  | .inr code => .abort s code
  | .inl r =>
    let s1 := s.setRing r { s.ring r with destroyWanted := true }
    .done (if s.bursting r then s1 else stopRing r s1)

/-- RING_HALT (R286). -/
def actRingHalt : Action := fun q s =>
  match s.ringOf (q.arg % 2 ^ 32) with
  | .inr code => .abort s code
  | .inl r =>
    if s.ringState r = 1 then .done (s.setReg (Obj.RING_STATE r) 3)
    else if s.ringState r ≠ 2 then .done s
    else
      let s1 := s.setRing r { s.ring r with haltWanted := true }
      .done (if s.bursting r then s1 else stopRing r s1)

/-- RING_RESUME (R286). -/
def actRingResume : Action := fun q s =>
  match s.ringOf (q.arg % 2 ^ 32) with
  | .inr code => .abort s code
  | .inl r => if s.ringState r = 3 then .done (settleRing r s) else .done s

/-- A write of an RW object of a ring (R277, R278). -/
def actRingObject : Action := fun q s =>
  let r := q.obj / 256 - 0x5840
  if r ≤ 7 then .abort s abortDenied
  else if s.ringState r = 0 then .abort s abortStale
  else if s.ringState r = 2 && q.obj ≠ Obj.RING_TAIL r then .abort s abortBusy
  else storeAction q s

/-- RINGr_TAIL (R278). -/
def actRingTail : Action := fun q s =>
  match actRingObject q s with
  | .done s1 =>
    let r := q.obj / 256 - 0x5840
    .done (if s1.ringState r = 1 && !s1.ringEmpty r then s1.setReg (Obj.RING_STATE r) 2 else s1)
  | .later s1 => .later s1
  | .abort s1 code => .abort s1 code

/-- FIFO bytes that the burst in flight of a ring is taking; they are its own until it ends (R284, assumption log 158). -/
def State.fifoClaimed (s : State) (r : Nat) : Nat :=
  match (s.ring r).descriptor, s.memory.inflight.find? (·.ring == r) with
  | some d, some b => if descSrcFifo d then b.length else 0
  | _, _ => 0

/-- FIFO space that the burst in flight of a ring will fill (R280). -/
def State.fifoReserved (s : State) (r : Nat) : Nat :=
  match (s.ring r).descriptor, s.memory.inflight.find? (·.ring == r) with
  | some d, some b => if descFlag d 2 then b.length else 0
  | _, _ => 0

/-- RINGr_FIFO written: the bytes are appended whole or not at all (R280). -/
def actRingFifo : Action := fun q s =>
  let r := q.obj / 256 - 0x5840
  let x := s.ring r
  if r ≤ 7 then .abort s abortDenied
  else if s.ringState r = 0 then .abort s abortStale
  else if 16384 < x.fifo.length + s.fifoReserved r + q.data.length then .abort s abortBusy
  else .done (s.setRing r { x with fifo := x.fifo ++ q.data })

/-- RINGr_FIFO read: every byte held is removed and returned, but for those that a burst in flight is taking (R280). -/
def readRingFifo (r : Nat) (s : State) : Value :=
  let x := s.ring r
  .ok (s.setRing r { x with fifo := x.fifo.take (s.fifoClaimed r) }) (x.fifo.drop (s.fifoClaimed r))

/-- REGION_ENTRY (R274). -/
def actRegionEntry : Action := fun q s =>
  .done (s.setTab Obj.REGION_TABLE (16 * s.reg Obj.REGION_INDEX) (q.data.take 16))

/-- REGION_TABLE (R274): a trailing part-entry is ignored. -/
def actRegionTable : Action := fun q s =>
  .done (s.setTab Obj.REGION_TABLE 0 ((q.data.take (q.data.length / 16 * 16)).take 4096))

/-- MEM_COUNTERS_CLEAR (R290). -/
def actMemCountersClear : Action := fun _ s =>
  .done (s.clearRegs ([Obj.MEM_CORRECTED, Obj.MEM_UNCORRECTED, Obj.SCRUB_PASSES, Obj.TRANSLATION_FAULTS] ++
    repeated 64 [Obj.RING_COMPLETED 0, Obj.RING_PARTIAL 0, Obj.RING_NOT_STARTED 0, Obj.RING_PREEMPTIONS 0,
      Obj.RING_BYTES 0]))

/-! ### Fetch (R279, R289) -/

/-- A fault at fetch: HALTED, HEAD unchanged, nothing performed (R289). -/
def fetchFault (r cause : Nat) (s : State) : State :=
  let s1 := (s.setReg (Obj.RING_STATE r) 3).setReg (Obj.RING_LAST_CAUSE r) cause
  if cause = 6 then s1.occur 70 else s1

/-- The destination range of a descriptor overlaps L7's locked buffer (04 R109). -/
def State.descriptorRefused (s : State) (d : Bytes) : Bool :=
  !descFlag d 2 && s.l7Overlaps (descDst d) (descLength d)

/-- A descriptor has been read: the checks of R279 in their order. -/
def takeDescriptor (r : Nat) (d : Bytes) (wb : MemTrouble) (s : State) : State :=
  let s1 := s.setReg (Obj.RING_PROGRESS r) 0
  if descFlag d 1 && descFlag d 2 then endDescriptor r d 3 0x0A wb s1
  else if descLength d = 0 then endDescriptor r d 1 0 wb s1
  else if s.descriptorRefused d then
    endDescriptor r d 3 4 wb ((s1.noteTranslation (descDst d) 4).bump Obj.L7_RING_REFUSALS)
  else s1.setRing r { s1.ring r with descriptor := some d, suspended := false }

/-- A ring may fetch its next descriptor: a host ring that is RUNNING, has one posted and none in progress. -/
def State.mayFetch (s : State) (r : Nat) : Bool :=
  8 ≤ r && s.ringState r == 2 && !s.ringEmpty r && (s.ring r).descriptor.isNone

/-- Words corrected in a read of a target (R269, 02 R49, R53). -/
def State.noteCorrected (s : State) (staging : Bool) (words stagingWords : Nat) : State :=
  if staging then s.bumpAt Obj.SRAM_CORRECTED 3 stagingWords else s.bumpAt Obj.MEM_CORRECTED 0 words

/-- What the memory's answer to a read of `n` bytes of a target counts, and the cause it ends with: 6 without a response,
5 with an uncorrectable word, new or known (R269, R284). -/
def State.readOutcome (s : State) (t : Target) (n : Nat) (trouble : MemTrouble) : Nat × State :=
  let known := s.readBad t n
  let bad := fun (words : List Nat) (u : State) => (if words.isEmpty then 0 else 5, u.noteBad t.staging words)
  match trouble with
  | .none => bad known s
  | .corrected a b => bad known (s.noteCorrected t.staging a b)
  | .noResponse => if t.staging then bad known s else (6, s)
  | .uncorrectable x => bad (if t.staging then known else insertOnce ((t.addr + x % n) / 8) known) s
  | .stagingUncorrectable x => bad (if t.staging then insertOnce ((t.addr + x % n) / 8) known else known) s

/-- DESCRIPTOR_FETCH (R278, R279, R289); `wb` answers the write-back of a descriptor that ends at once. -/
def descriptorFetch (r : Nat) (trouble wb : MemTrouble) (s : State) : State :=
  let a := s.slotAddr r
  let t := s.translate a 32 false true
  if t.cause ≠ 0 then fetchFault r t.cause (s.noteTranslation a t.cause)
  else
    let o := s.readOutcome t 32 trouble
    if o.1 ≠ 0 then fetchFault r o.1 o.2 else takeDescriptor r (s.targetBytes t 32) wb o.2

/-! ### Bursts (R281 to R283) -/

/-- Length of the next burst of a descriptor with `p` bytes done (R281). -/
def burstLength (d : Bytes) (p : Nat) : Nat :=
  let left := descLength d - p
  if descFlag d 2 then min left (256 - p % 256) else min left (256 - (descDst d + p) % 256)

/-- The FIFO side of a descriptor's next burst is ready (R280). -/
def fifoReady (x : RingState) (d : Bytes) (n : Nat) : Bool :=
  (!descSrcFifo d || n ≤ x.fifo.length) && (!descFlag d 2 || x.fifo.length + n ≤ 16384)

/-- Requests of `n` bytes at a physical address to a controller: bit 8 of the address selects it (R268, R283). -/
def requestsAt (a n ctl : Nat) : Nat := ((burstsAt a n).filter fun b => b.1 / 256 % 2 == ctl).length

/-- Request slots of a controller that a burst needs: its reads and its write in LPDDR5; none after a fault (R283). -/
def Burst.requests (b : Burst) (ctl : Nat) : Nat :=
  if b.fault ≠ 0 then 0
  else (if b.reads && !b.srcStaging then requestsAt b.src b.length ctl else 0) +
    (if b.write && !b.dstStaging then requestsAt b.dst b.length ctl else 0)

/-- Slots of a controller in use by a class (R283). -/
def State.slotsUsed (s : State) (cls ctl : Nat) : Nat :=
  s.memory.inflight.foldl (fun n b => if b.cls = cls then n + b.requests ctl else n) 0

/-- Slots that a class may hold: CLASS_SLOTS, at least 16 for class 0 and at most 64 (R283). -/
def State.slotCap (s : State) (cls : Nat) : Nat :=
  let held := (s.tabByte Obj.CLASS_SLOTS cls).toNat
  min (if cls = 0 then max 16 held else held) 64

/-- A burst finds its slots: those of its class, of the 64 of each controller, and none of the 16 that are reserved for
class 0 (R283). -/
def State.slotFree (s : State) (b : Burst) : Bool :=
  [0, 1].all fun ctl =>
    let need := b.requests ctl
    let low := s.slotsUsed 1 ctl + s.slotsUsed 2 ctl + s.slotsUsed 3 ctl
    need == 0 || (decide (s.slotsUsed b.cls ctl + need ≤ s.slotCap b.cls) &&
      decide (s.slotsUsed 0 ctl + low + need ≤ 64) && (b.cls == 0 || decide (low + need ≤ 48)))

/-- The next burst of a host ring, translated at this moment (R272, R281): the read is checked before the write. -/
def State.hostBurst (s : State) (r : Nat) : Option Burst :=
  match (s.ring r).descriptor with
  | none => none
  | some d =>
    let p := s.reg (Obj.RING_PROGRESS r)
    let n := burstLength d p
    let reads := !descFlag d 0 && !descFlag d 1
    let src := s.translate ((descSrc d + p) % 2 ^ 40) n false true
    let dst := s.translate ((descDst d + p) % 2 ^ 40) n true true
    let srcCause := if reads then src.cause else 0
    let dstCause := if descFlag d 2 then 0 else dst.cause
    let cause := if srcCause ≠ 0 then srcCause else dstCause
    some { ring := r, cls := s.ringClass r
           tile := (if srcCause ≠ 0 then descSrc d + p else descDst d + p) % 2 ^ 40, length := n
           dstStaging := dst.staging || descFlag d 2, dst := dst.addr, srcStaging := src.staging, src := src.addr
           reads := reads, write := !descFlag d 2, fault := cause }

/-- A host ring is ready to issue (R280, R282, R283). -/
def State.hostReady (s : State) (r : Nat) : Bool :=
  8 ≤ r && s.ringState r == 2 && !s.bursting r &&
  (match (s.ring r).descriptor, s.hostBurst r with
   | some d, some b =>
     fifoReady (s.ring r) d b.length && s.slotFree b
   | _, _ => false)

/-- A device ring's burst, translated (R272, R276). -/
def State.deviceBurst (s : State) (b : DeviceBurst) : Burst :=
  let t := s.translate b.address b.bytes b.write false
  { ring := b.ring, cls := s.ringClass b.ring, tile := b.address, length := b.bytes, dstStaging := t.staging, dst := t.addr
    srcStaging := t.staging, src := t.addr, reads := !b.write, write := b.write, fault := t.cause }

/-- Every ring that is ready, with its burst: the device rings as told that find slots, and the host rings (R282, R283). -/
def State.readyBursts (s : State) (device : List DeviceBurst) : List Burst :=
  ((device.filter fun b => b.ring ≤ 5).map s.deviceBurst).filter s.slotFree ++
  ((List.range 64).filter s.hostReady).filterMap s.hostBurst

/-- The next ring of a class in turn, starting after the ring that issued last (R282). -/
def inTurn (bs : List Burst) (last : Nat) : Option Burst :=
  match (List.range 64).find? fun i => bs.any fun b => b.ring == (last + 1 + i) % 64 with
  | none => none
  | some i => bs.find? fun b => b.ring == (last + 1 + i) % 64

/-- The burst that the arbiter takes: the highest class first (R282). -/
def State.arbitrate (s : State) (device : List DeviceBurst) : Option Burst :=
  let bs := s.readyBursts device
  match (List.range 4).find? fun c => bs.any (·.cls == c) with
  | none => none
  | some c => inTurn (bs.filter (·.cls == c)) (Sparse.get (fun _ => 63) s.memory.lastRing c)

/-- A ring has a descriptor in progress: a host ring from its first burst on, a device ring with a burst ready (R282,
assumption log 159). -/
def State.midway (s : State) (ready : List Burst) (r : Nat) : Bool :=
  ready.any (·.ring == r) && (r < 8 || s.reg (Obj.RING_PROGRESS r) ≠ 0)

/-- Lower classes that lose the turn with a descriptor in progress are suspended (R282). -/
def suspendBelow (c : Nat) (ready : List Burst) (s : State) : State :=
  foldN 64 (fun t r =>
    if c < t.ringClass r && t.midway ready r && !(t.ring r).suspended then
      (t.bump (Obj.RING_PREEMPTIONS r)).setRing r { t.ring r with suspended := true }
    else t) s

/-- BURST_ISSUE (R282): the burst is translated once, now (R274), and takes its place in the order of issue (R281). -/
def burstIssue (device : List DeviceBurst) (s : State) : State :=
  match s.arbitrate device with
  | none => s
  | some b =>
    let s1 := suspendBelow b.cls (s.readyBursts device) s
    let s2 := s1.setRing b.ring { s1.ring b.ring with suspended := false }
    let s3 := s2.noteTranslation b.tile b.fault
    { s3 with memory := { s3.memory with inflight := s3.memory.inflight ++ [{ b with issue := s3.memory.issued }]
                                         issued := s3.memory.issued + 1
                                         lastRing := Sparse.set (fun _ => 63) s3.memory.lastRing b.cls b.ring } }

/-- The source bytes of a host burst. -/
def State.burstData (s : State) (d : Bytes) (p : Nat) (b : Burst) : Bytes :=
  if descFlag d 0 then (List.range b.length).map fun i => d.getD ((p + i) % 8) 0#8
  else if descFlag d 1 then (s.ring b.ring).fifo.take b.length
  else s.targetBytes ⟨0, b.srcStaging, b.src⟩ b.length

/-- The bytes of a write with those left as they are that a burst issued later has written (R281). -/
def State.keptOver (s : State) (b : Burst) (bs : Bytes) : Bytes :=
  let old := s.targetBytes ⟨0, b.dstStaging, b.dst⟩ bs.length
  bs.zipIdx.map fun p => if b.later.any fun o => rangesMeet (b.dst + p.2) 1 o.1 o.2 then old.getD p.2 0#8 else p.1

/-- Write a host burst whole and advance its descriptor (R281, R284). -/
def writeBurst (d : Bytes) (b : Burst) (wb : MemTrouble) (s : State) : State :=
  let r := b.ring
  let p := s.reg (Obj.RING_PROGRESS r)
  let bytes := s.burstData d p b
  let x := s.ring r
  let taken := if descSrcFifo d then x.fifo.drop b.length else x.fifo
  let s1 := s.setRing r { x with fifo := if descFlag d 2 then taken ++ bytes else taken }
  let t : Target := ⟨0, b.dstStaging, b.dst⟩
  let s2 := if descFlag d 2 then s1
    else ((s1.setTarget t (s1.keptOver b bytes)).writtenOver b.issue t b.length).noteCalWrite b.tile b.length
  let s3 := (s2.setReg (Obj.RING_PROGRESS r) (p + b.length)).bumpAt (Obj.RING_BYTES r) 0 b.length
  if descLength d ≤ p + b.length then endDescriptor r d 1 0 wb s3
  else if (s3.ring r).haltWanted || (s3.ring r).destroyWanted then stopDescriptor r d 9 wb s3
  else s3

/-- The next write of a burst's range is dropped, and its target keeps its old content (R288). -/
def dropWrite (b : Burst) (s : State) : State :=
  if b.write then { s with pipe := { s.pipe with dropped := s.pipe.dropped ++ [b.tile] } } else s

/-- A faulted device burst is handed to its owner (R288). -/
def deviceFault (b : Burst) (s : State) : State :=
  if b.ring = 0 then s.noteMissing 0 b.tile b.length
  else if b.ring = 1 then s.noteMissing 1 b.tile b.length
  else if b.ring = 2 then
    foldN 7 (fun t l =>
      let x := t.layer l
      match x.filling with
      | some f =>
        let base := t.reg (Obj.LAYER_BUF_ADDR l f.buffer) % 2 ^ 40
        let size := t.reg (Obj.LAYER_BUF_STRIDE l f.buffer) * t.reg (Obj.LAYER_BUF_HEIGHT l f.buffer)
        if rangesMeet base size b.tile b.length then t.setLayer l { x with filling := some { f with lost := true } } else t
      | none => t) (dropWrite b s)
  else if b.ring = 3 then
    { s.bump Obj.ECHO_FRAMES_DROPPED with layers := { s.layers with echoReady := none, echoSending := none } }
  else if b.ring = 4 then dropWrite b s
  else s

/-- The words that a burst reads: those of its source, and those that its write covers only in part (Table 4, cause
0x05). -/
def State.burstBad (s : State) (b : Burst) : List (Bool × Nat) :=
  (if b.reads then (s.readBad ⟨0, b.srcStaging, b.src⟩ b.length).map fun w => (b.srcStaging, w) else []) ++
  (if b.write then (s.writeBad ⟨0, b.dstStaging, b.dst⟩ b.length).map fun w => (b.dstStaging, w) else [])

/-- A word joins a list that lacks it. -/
def insertWord (w : Bool × Nat) (l : List (Bool × Nat)) : List (Bool × Nat) := if l.contains w then l else l ++ [w]

/-- A burst goes to a memory, the staging SRAM or LPDDR5. -/
def Burst.touches (b : Burst) (staging : Bool) : Bool :=
  (b.reads && b.srcStaging == staging) || (b.write && b.dstStaging == staging)

/-- The cause that a burst ends with, with what the memory's answer counts (R269, 02 R49, R53): a translation fault, no
response, or an uncorrectable word, told now or known. -/
def burstOutcome (b : Burst) (trouble : MemTrouble) (s : State) : Nat × State :=
  let known := s.burstBad b
  let bad := fun (words : List (Bool × Nat)) (u : State) =>
    (if words.isEmpty then 0 else 5, words.foldl (fun v w => v.noteBad w.1 [w.2]) u)
  if b.fault ≠ 0 then (b.fault, s)
  else match trouble with
    | .none => bad known s
    | .corrected m g =>
      let s1 := if b.touches false then s.noteCorrected false m g else s
      bad known (if b.touches true then s1.noteCorrected true m g else s1)
    | .noResponse => if b.touches false then (6, s) else bad known s
    | .uncorrectable a => bad (if b.touches false then insertWord (false, a / 8) known else known) s
    | .stagingUncorrectable o => bad (if b.touches true then insertWord (true, o / 8) known else known) s

/-- The first burst of a ring leaves the slots. -/
def dropBurst (r : Nat) (s : State) : State :=
  { s with memory := { s.memory with inflight := s.memory.inflight.eraseP (·.ring == r) } }

/-- BURST_COMPLETE (R281, R284, R288, R289). -/
def burstComplete (r : Nat) (trouble wb : MemTrouble) (s : State) : State :=
  match s.memory.inflight.find? (·.ring == r) with
  | none => s
  | some b =>
    let o := burstOutcome b trouble (dropBurst r s)
    if r ≤ 7 then
      let s1 := o.2.deviceRingDone r b.length o.1 b.write
      if o.1 = 0 then s1 else deviceFault b s1
    else match (o.2.ring r).descriptor with
      | none => o.2
      | some d => if o.1 ≠ 0 then stopDescriptor r d o.1 wb o.2 else writeBurst d b wb o.2

/-- A host descriptor's next burst lacks FIFO bytes or space (Table 4, causes 0x07 and 0x08). -/
def fifoTimeout (r : Nat) (wb : MemTrouble) (s : State) : State :=
  match (s.ring r).descriptor with
  | none => s
  | some d =>
    let x := s.ring r
    let n := burstLength d (s.reg (Obj.RING_PROGRESS r))
    if s.ringState r ≠ 2 || s.bursting r then s
    else if descSrcFifo d && x.fifo.length < n then stopDescriptor r d 7 wb s
    else if descFlag d 2 && 16384 < x.fifo.length + n then stopDescriptor r d 8 wb s
    else s

/-! ### The meanings -/

/-- MEM_START (R270). -/
def execMemStart (rq : Req) (data : Bytes) : State → Host.Outcome State Fault Refusal :=
  hostWrite actMemStart rq Obj.MEM_START data

/-- MEM_START_COMPLETE (R270). -/
def execMemStartComplete (density0 density1 : Nat) (trained : Bool) : State → Host.Outcome State Fault Refusal :=
  onIslandIf 2 (fun s => s.reg Obj.MEM_STATE == 1) (memStarted density0 density1 trained)

/-- SCRUB_STEP (R271). -/
def execScrubStep (corrected : Nat) (uncorrectable : Option Nat) (newer : Bool) :
    State → Host.Outcome State Fault Refusal :=
  onIslandIf 2 (fun s => s.reg Obj.MEM_STATE == 2 && s.reg Obj.SCRUB_PERIOD != 0) (scrubStep corrected uncorrectable newer)

/-- RING_CREATE (R277). -/
def execRingCreate (rq : Req) (data : Bytes) : State → Host.Outcome State Fault Refusal :=
  hostWrite actRingCreate rq Obj.RING_CREATE data

/-- RING_DESTROY (R277). -/
def execRingDestroy (rq : Req) (data : Bytes) : State → Host.Outcome State Fault Refusal :=
  hostWrite actRingDestroy rq Obj.RING_DESTROY data

/-- RING_HALT (R286). -/
def execRingHalt (rq : Req) (data : Bytes) : State → Host.Outcome State Fault Refusal :=
  hostWrite actRingHalt rq Obj.RING_HALT data

/-- RING_RESUME (R286). -/
def execRingResume (rq : Req) (data : Bytes) : State → Host.Outcome State Fault Refusal :=
  hostWrite actRingResume rq Obj.RING_RESUME data

/-- RING_TAIL_WRITE (R278). -/
def execRingTailWrite (rq : Req) (ring : Nat) (data : Bytes) : State → Host.Outcome State Fault Refusal :=
  hostWrite actRingTail rq (Obj.RING_TAIL ring) data

/-- RING_FIFO_WRITE (R280). -/
def execRingFifoWrite (rq : Req) (ring : Nat) (data : Bytes) : State → Host.Outcome State Fault Refusal :=
  hostWrite actRingFifo rq (Obj.RING_FIFO ring) data

/-- A whole READ of an object from offset 0. -/
def wholeRead (rq : Req) (obj : Nat) : Request :=
  { rq := rq, opcode := 1, obj := obj, seg := { isFirst := true, isLast := true, offset := 0 }, snapshot := false,
    data := [] }

/-- RING_FIFO_READ (R280). -/
def execRingFifoRead (rq : Req) (ring : Nat) : State → Host.Outcome State Fault Refusal :=
  hostRequest (executeRead (readRingFifo ring)) (wholeRead rq (Obj.RING_FIFO ring))

/-- REGION_ENTRY_WRITE (R274). -/
def execRegionEntryWrite (rq : Req) (data : Bytes) : State → Host.Outcome State Fault Refusal :=
  hostWrite actRegionEntry rq Obj.REGION_ENTRY data

/-- DESCRIPTOR_FETCH (R279). -/
def execDescriptorFetch (ring : Nat) (trouble writeBack : MemTrouble) : State → Host.Outcome State Fault Refusal :=
  onIslandIf 2 (fun s => s.mayFetch ring) (descriptorFetch ring trouble writeBack)

/-- BURST_ISSUE (R282). -/
def execBurstIssue (device : List DeviceBurst) : State → Host.Outcome State Fault Refusal :=
  onIsland 2 (burstIssue device)

/-- BURST_COMPLETE (R281). -/
def execBurstComplete (ring : Nat) (trouble writeBack : MemTrouble) : State → Host.Outcome State Fault Refusal :=
  onIsland 2 (burstComplete ring trouble writeBack)

/-- MEM_RESPONSE_TIMEOUT (R284): the burst ends with cause 0x06. -/
def execMemResponseTimeout (ring : Nat) (writeBack : MemTrouble) : State → Host.Outcome State Fault Refusal :=
  onIsland 2 (burstComplete ring .noResponse writeBack)

/-- FIFO_TIMEOUT (R284). -/
def execFifoTimeout (ring : Nat) (writeBack : MemTrouble) : State → Host.Outcome State Fault Refusal := onIsland 2 (fifoTimeout ring writeBack)

/-- MEM_COUNTERS_CLEAR (R290). -/
def execMemCountersClear (rq : Req) (data : Bytes) : State → Host.Outcome State Fault Refusal :=
  hostWrite actMemCountersClear rq Obj.MEM_COUNTERS_CLEAR data

end Sys2Proof.Machine
end

