-- ==== Sys2Proof/Machine/Photo.lean ====
section
/-! DEFINITION. The photometric arithmetic of the safety functions on numbers (chapter 12): ambient and time-of-day
factors, the ceiling, the luminance estimate, the gain, the peak ratio, and the weir. -/

namespace Sys2Proof.Machine

/-- One point (lux, factor) of AMBIENT_TABLE, or (start, factor) of TOD_TABLE (12 R323 Table 9). -/
abbrev FactorPoint := Nat × Nat

/-- The lowest factor of a list of points, 0x8000 for none (12 R311, R417). -/
def lowestFactor (ps : List FactorPoint) : Nat :=
  match ps with
  | [] => 0x8000
  | p :: qs => qs.foldl (fun m q => min m q.2) p.2

/-- Distance of two naturals. -/
def natDist (a b : Nat) : Nat := max a b - min a b

/-- The point whose lux lies nearest, the lowest index on a tie (12 R311). -/
def nearestFactor (lux : Nat) : List FactorPoint → Option FactorPoint → Nat
  | [], none => 0x8000
  | [], some p => p.2
  | q :: qs, none => nearestFactor lux qs (some q)
  | q :: qs, some p => nearestFactor lux qs (if natDist q.1 lux < natDist p.1 lux then some q else some p)

/-- The first segment of the table that holds the illuminance, interpolated (12 R311). -/
def segmentFactor (lux : Nat) : List FactorPoint → Option Nat
  | p :: q :: rest =>
    if p.1 ≠ q.1 ∧ min p.1 q.1 ≤ lux ∧ lux ≤ max p.1 q.1 then
      some ((p.2 : Int) + roundRat ((((q.2 : Int) - p.2) * ((lux : Int) - p.1) : Int) / (((q.1 : Int) - p.1 : Int) : Rat))).toNat
    else segmentFactor lux (q :: rest)
  | _ => none

/-- F_amb of an illuminance (12 R311). -/
def ambientFactor (lux : Nat) (ps : List FactorPoint) : Nat :=
  (segmentFactor lux ps).getD (nearestFactor lux ps none)

/-- The entry with the greatest start among those that satisfy a test; the first on a tie. -/
def greatestStart (f : FactorPoint → Bool) : List FactorPoint → Option FactorPoint → Option FactorPoint
  | [], b => b
  | q :: qs, b =>
    greatestStart f qs (if f q then (match b with
      | none => some q
      | some p => if p.1 < q.1 then some q else some p) else b)

/-- F_tod at a local second of the day; `known` is the SET bit of the active domain (12 R311). -/
def todFactor (second : Nat) (known : Bool) (ps : List FactorPoint) : Nat :=
  let used := ps.filter fun p => p.1 < 86400
  if used.isEmpty then 0x8000
  else if !known then lowestFactor used
  else match greatestStart (fun p => decide (p.1 ≤ second)) used none with
    | some p => p.2
    | none => ((greatestStart (fun _ => true) used none).map (·.2)).getD 0x8000

/-- The ceiling of a zone (12 R311); `cap` is the proving cap of R296. -/
def ceilingOf (glareMap factor : Nat) (cap : Bool) : Nat :=
  let c := min (glareMap * factor / 2 ^ 15) 0xFFFF
  if cap then min c 0x4000 else c

/-- The luminance estimate of a zone from its weighted sums of d' × I and its number of pixels (12 R312). -/
def lumEstimate (kr kg kb sr sg sb n : Nat) : Nat :=
  if n = 0 then 0 else (kr * sr + kg * sg + kb * sb) / (n * 20000 * 2 ^ 20)

/-- The target of a ceiling under the margin (12 R312). -/
def glareTarget (c margin : Nat) : Nat := c - c * margin / 2 ^ 16

/-- The next gain of a zone (12 R312). -/
def nextGain (g e c margin rise cap : Nat) : Nat :=
  if glareTarget c margin < e then min (g * glareTarget c margin / e) cap else min (g + rise) cap

/-- A zone of a frame is in excess (12 R313). -/
def inExcess (e c : Nat) : Bool := decide (9 * c < 8 * e)

/-- The ratio of R417 for one zone. -/
def peakRatio (e cMin : Nat) : Nat :=
  if e = 0 then 0 else if cMin = 0 then 0xFFFF else min (256 * e / cMin) 0xFFFF

/-- The least natural at or above a threshold in cd/m² in working units (12 R314), so that comparisons with naturals are
those with the exact threshold; a white of 0 acts as 1. -/
def weirUnits (nits white : Nat) : Nat := ceilDiv (nits * 65536) (max white 1)

/-- Nearest natural of a / b, half up (12 R314, R316); 0 for an empty zone. -/
def meanOf (a b : Nat) : Nat := if b = 0 then 0 else (2 * a + b) / (2 * b)

/-- The red share of a group in U0.16 with floor, so that a comparison with a U0.16 ratio is exact, plus 1; 0 when the sum
is 0 and the red test does not apply (12 R314). -/
def redShare (r g b : Nat) : Nat := if r + g + b = 0 then 0 else 65536 * r / (r + g + b) + 1

/-- The decision s of a frame (12 R315): none, a transition down, or a transition up, and the extremum after the frame.
`dark` none stands for infinity. -/
def weirDecide (dir ext y dY : Nat) (dark : Option Nat) : Nat × Nat :=
  let below := fun v => match dark with
    | none => true
    | some d => decide (v < d)
  let extDown := if dir = 1 then max ext y else ext
  let extUp := if dir = 2 then min ext y else ext
  if dir ≠ 2 ∧ dY + y ≤ extDown ∧ below y = true then (2, extDown)
  else if dir ≠ 1 ∧ dY + extUp ≤ y ∧ below extUp = true then (1, extUp)
  else (0, if dir = 1 then extDown else extUp)

/-- A working value of a zone whose group is offending (12 R316). -/
def weirApply (att v m : Nat) : Nat := min ((att * v + (65536 - att) * m + 32768) / 65536) 0xFFFFF

/-- The slow mean after a frame (12 R316). -/
def slowMean (m new alpha : Nat) : Nat := ((m : Int) + rsh (((new : Int) - m) * alpha) 16).toNat

end Sys2Proof.Machine
end

