-- ==== Sys2Proof/Machine/Glare.lean ====
section
/-! DEFINITION. The luminance ceiling, the glare gains and the weir over the state (chapter 12, R311 to R316, R417). -/

namespace Sys2Proof.Machine

/-- Number of zones. -/
abbrev zones : Nat := 2048

/-! ### The objects concerned -/

/-- Photometric weight of a colour (R312). -/
def State.photoK (s : State) (c : Nat) : Nat := s.tabNat Obj.PHOTO_WEIGHTS (2 * c) 2

/-- Channel current of a band and colour, µA, limited (05 R148 Table 12). -/
def State.current (s : State) (b c : Nat) : Nat := clampN 500 20000 (s.tabNat Obj.CHANNEL_CURRENT (2 * (3 * b + c)) 2)

/-- Points of AMBIENT_TABLE or TOD_TABLE (R323 Table 9). -/
def State.factorPoints (s : State) (obj : Nat) : List FactorPoint :=
  (List.range 8).map fun i => (s.tabNat obj (8 * i) 4, s.tabNat obj (8 * i + 4) 2)

/-- Used TOD_TABLE entries: starts below 86 400 (R311). -/
def State.todUsed (s : State) : List FactorPoint := (s.factorPoints Obj.TOD_TABLE).filter fun p => p.1 < 86400

/-- F_amb (R311). -/
def State.ambient (s : State) : Nat :=
  let ps := s.factorPoints Obj.AMBIENT_TABLE
  if s.safety.ambientFresh then ambientFactor (s.reg Obj.AMBIENT_LUX) ps else lowestFactor ps

/-- F at a boundary's grid time in ns of the active domain (R311). -/
def State.glareFactor (s : State) (b : Int) : Nat :=
  let second := ((b / 1000000000 + s.sreg Obj.TOD_OFFSET 32) % 86400).toNat
  min s.ambient (todFactor second (s.dom s.active).valueSet s.todUsed)

/-- Reads of the ceiling of a zone; zones at 0xFFFF are not listed. -/
def State.ceilingAt (s : State) (z : Nat) : Nat := Sparse.get (fun _ => 0xFFFF) s.safety.ceiling z

/-- C(z) of every zone that holds pixels, at a boundary (R311). -/
def setCeilings (b : Int) (s : State) : State :=
  let f := s.glareFactor b
  let c := foldN zones (fun m z =>
    if s.zonePixels z = 0 then m
    else Sparse.set (fun _ => 0xFFFF) m z (ceilingOf (s.tabNat Obj.GLARE_MAP (2 * z) 2) f s.provingCap)) []
  { s.setReg Obj.GLARE_FACTOR f with safety := { s.safety with ceiling := c } }

/-- Estimate of a zone from its sums of d' × I (R312), under the weights of the frame. -/
def State.estimate (s : State) (sums : Sparse Nat) (z : Nat) : Nat :=
  let g := fun c => Sparse.get (fun _ => 0) sums (z * 4 + c)
  lumEstimate (s.photoK 0) (s.photoK 1) (s.photoK 2) (g 0) (g 1) (g 2) (s.zonePixels z)

/-- The gains of a pipeline start (R312): from the frame measured last, capped under R296. -/
def updateGains (s : State) : State :=
  let cap := if s.provingCap then 0x2000 else 0x8000
  let margin := s.reg Obj.GLARE_MARGIN
  let rise := s.reg Obj.GLARE_RISE
  let gain := fun z =>
    let g := s.tabNat Obj.GLARE_GAINS (2 * z) 2
    match s.pipe.lastFrame with
    | none => min g cap
    | some _ => nextGain g (s.estimate s.pipe.lastSums.light z) (s.ceilingAt z) margin rise cap
  let s1 := foldN zones (fun t z => t.setTab Obj.GLARE_GAINS (2 * z) (natLE 2 (gain z))) s
  if (List.range zones).any fun z => s.zonePixels z != 0 && gain z < cap then s1.bump Obj.GLARE_LIMITED_FRAMES else s1

/-! ### The weir (R314 to R316) -/

/-- Group number 64 j + i of a zone. -/
def weirGroupOf (gw gh z : Nat) : Nat := 64 * (z / 64 / gh) + z % 64 / gw

/-- State of a weir group. -/
def State.weirGroup (s : State) (g : Nat) : WeirGroup := Sparse.get (fun _ => {}) s.safety.weir g

/-- The group of a zone offends. -/
def State.offends (s : State) (z : Nat) : Bool := (s.weirGroup (weirGroupOf s.safety.weirW s.safety.weirH z)).offending

/-- The slow mean of a zone and colour. -/
def State.slowMeanOf (s : State) (z c : Nat) : Nat := Sparse.get (fun _ => 0) s.safety.weirMean (z * 4 + c)

/-- Sum over a zone in a table keyed zone × 4 + colour. -/
def zoneSum (m : Sparse Nat) (z c : Nat) : Nat := Sparse.get (fun _ => 0) m (z * 4 + c)

/-- Y of a zone (R314). -/
def State.zoneY (s : State) (sums : ZoneSums) (z : Nat) : Nat := meanOf (zoneSum sums.lum z 0) (s.zonePixels z)

/-- One group after a frame whose boundary stood at grid time `b`, with `p` the objects of the frame (R315). -/
def weirStep (p : State) (sums : ZoneSums) (b : Int) (g : Nat) (s : State) : State :=
  let zs := (List.range zones).filter fun z => weirGroupOf s.safety.weirW s.safety.weirH z == g && s.zonePixels z != 0
  if zs.isEmpty then s
  else
    let area := (zs.map s.zonePixels).sum
    let yOf := fun z => s.zoneY sums z
    let yg := meanOf ((zs.map fun z => s.zonePixels z * yOf z).sum) area
    let col := fun c => (zs.map fun z => zoneSum sums.work z c).sum
    let rho := redShare (col 0) (col 1) (col 2)
    let keepY := fun (m : Sparse Nat) => zs.foldl (fun m z => Sparse.set (fun _ => 0) m z (yOf z)) m
    let x := s.weirGroup g
    let put := fun (x : WeirGroup) (t : State) =>
      { t with safety := { t.safety with weir := Sparse.set (fun _ => {}) t.safety.weir g x } }
    if !x.started then
      put { x with started := true, dir := 0, ext := yg, extRho := rho }
        { s with safety := { s.safety with weirZoneY := keepY s.safety.weirZoneY } }
    else
      let white := p.reg Obj.WEIR_WHITE_NITS
      let ratio := p.reg Obj.WEIR_RED_RATIO + 1
      let isRed := ratio ≤ rho || ratio ≤ x.extRho
      let dY := weirUnits (p.reg (if isRed then Obj.WEIR_RED_DELTA_NITS else Obj.WEIR_DELTA_NITS)) white
      let dark := if isRed then none else some (weirUnits (p.reg Obj.WEIR_DARK_NITS) white)
      let d := weirDecide x.dir x.ext yg dY dark
      let moved := (zs.filter fun z =>
        let y0 := Sparse.get (fun _ => 0) s.safety.weirZoneY z
        if d.1 = 1 then decide (y0 + dY ≤ yOf z) else decide (yOf z + dY ≤ y0)).map s.zonePixels
      let counted := d.1 ≠ 0 && p.reg Obj.WEIR_AREA * area ≤ 65536 * moved.sum
      let held := (if counted then b :: x.transitions else x.transitions).filter fun t => decide (b - t < 1000000000)
      let off := p.flag Obj.WEIR_ENABLE && decide (2 * p.atLeast1 Obj.WEIR_FLASH_LIMIT ≤ held.length)
      let y : WeirGroup :=
        { dir := if d.1 = 0 then x.dir else d.1, ext := if d.1 = 0 then d.2 else yg
          extRho := if d.1 ≠ 0 || d.2 ≠ x.ext then rho else x.extRho
          started := true, transitions := held, offending := off }
      let s1 := put y s
      let s2 := if d.1 = 0 then s1 else { s1 with safety := { s1.safety with weirZoneY := keepY s1.safety.weirZoneY } }
      let s3 := if counted then s2.bump Obj.WEIR_TRANSITIONS else s2
      if off && !x.offending then s3.bump Obj.WEIR_INTERVENTIONS else s3

/-- The slow means after a frame (R316). -/
def updateMeans (p : State) (sums : ZoneSums) (s : State) : State :=
  foldN zones (fun t z =>
    if s.zonePixels z = 0 then t
    else
      let seen := Sparse.get (fun _ => 0) t.safety.weirSeen z ≠ 0
      let means := foldN 3 (fun m c =>
        let new := meanOf (zoneSum sums.pre z c) (s.zonePixels z)
        let v := if seen then slowMean (t.slowMeanOf z c) new (p.reg Obj.WEIR_MEAN_ALPHA) else new
        Sparse.set (fun _ => 0) m (z * 4 + c) v) t.safety.weirMean
      { t with safety := { t.safety with weirMean := means, weirSeen := Sparse.set (fun _ => 0) t.safety.weirSeen z 1 } }) s

/-- The weir after a computed frame: every group, then the slow means (R315, R316). -/
def weirFrame (p : State) (sums : ZoneSums) (b : Int) (s : State) : State :=
  let groups := ceilDiv 64 s.safety.weirW
  let lines := ceilDiv 32 s.safety.weirH
  let s1 := foldN (groups * lines) (fun t n => weirStep p sums b (64 * (n / groups) + n % groups) t) s
  updateMeans p sums s1

/-- A change of WEIR_GROUP_W or WEIR_GROUP_H at a boundary: every group starts afresh (R315). -/
def weirRegroup (s : State) : State :=
  let w := s.limited Obj.WEIR_GROUP_W 1 64
  let h := s.limited Obj.WEIR_GROUP_H 1 32
  if w = s.safety.weirW && h = s.safety.weirH then s
  else { s with safety := { s.safety with weirW := w, weirH := h, weir := [], weirZoneY := [] } }

/-- Scan-drive start: gains at 1.0, groups afresh, slow means and excess counts to come (R312, R313, R315, R316). -/
def restartGlare (s : State) : State :=
  { s.clearTab Obj.GLARE_GAINS with
    safety := { s.safety with weir := [], weirZoneY := [], weirMean := [], weirSeen := [], excess := [] } }

/-- WEIR_ACTIVE_GROUPS (R323 Table 10). -/
def State.weirActive (s : State) : Bytes := maskBytes 256 fun g => (s.weirGroup g).offending

end Sys2Proof.Machine
end

