-- ==== Sys2Proof/Machine/Pipeline.lean ====
section
/-! DEFINITION. The correction pipeline over the state (chapter 03): double-buffered tables, ingest profiles, one output
row from composition to the egress queues with dose, probe flags and sums, and the frozen path. -/

namespace Sys2Proof.Machine

/-! ### Double-buffered tables (R57) -/

/-- A DOMAIN write to a double-buffered table goes to its shadow: entries from offset 0 as far as the write reaches. -/
def writeShadow (obj size : Nat) (data : Bytes) (s : State) : State :=
  let image := (data.take size).map fun b => b.toNat + 1
  { s with pipe := { s.pipe with overlay := Sparse.setList (fun _ => 0) s.pipe.overlay (tabKey obj 0) image } }

/-- The action of a write to a double-buffered table. -/
def actShadow : Action := fun q s =>
  match rowOf q.obj with
  | some r => .done (writeShadow q.obj (imageBytes r) q.data s)
  | none => .abort s abortNoObject

/-- Tables of stages 4, 5, 6, 8 and 9, whose swaps the evacuation display holds (R59). -/
def heldTable (obj : Nat) : Bool :=
  obj == Obj.THERMAL_TABLE || obj == Obj.AGE_TABLE || (Obj.GREY_HIGH_RED ≤ obj && obj ≤ Obj.GREY_LOW_BLUE) ||
  obj == Obj.DITHER_MASK || obj == Obj.DITHER_OFFSETS

/-- Tables whose swap starts a refill (R86): stages 5, 8 and 9. -/
def refillTable (obj : Nat) : Bool := heldTable obj && obj != Obj.AGE_TABLE

/-- Tables whose swap forms EVAC_PEAK_RATIO anew (12 R417). -/
def ceilingTable (obj : Nat) : Bool := obj == Obj.GLARE_MAP || obj == Obj.AMBIENT_TABLE || obj == Obj.TOD_TABLE

/-- Objects with bytes in the shadow. -/
def State.shadowed (s : State) : List Nat := (s.pipe.overlay.map fun e => e.1 / 131072).dedup

/-- Bring the shadow of one object into force. -/
def swapTable (obj : Nat) (s : State) : State :=
  let mine := s.pipe.overlay.filter fun e => e.1 / 131072 == obj
  let s1 := mine.foldl (fun t e => t.setTab obj (e.1 % 131072) [BitVec.ofNat 8 (e.2 - 1)]) s
  { s1 with pipe := { s1.pipe with overlay := s1.pipe.overlay.filter fun e => e.1 / 131072 != obj } }

/-! ### Ingest profiles (R58, R62 to R65) -/

/-- Profile `p`. -/
def State.profile (s : State) (p : Nat) : ProfileState := Sparse.get (fun _ => {}) s.pipe.profiles p

/-- Replace it. -/
def State.setProfile (s : State) (p : Nat) (x : ProfileState) : State :=
  { s with pipe := { s.pipe with profiles := Sparse.set (fun _ => {}) s.pipe.profiles p x } }

/-- INGESTp_MATRIX as written, its shadow first (R65). -/
def State.matrixWritten (s : State) (p : Nat) : List Int :=
  (List.range 9).map fun i =>
    let byte := fun o =>
      match Sparse.get (fun _ => 0) s.pipe.overlay (tabKey (Obj.INGEST_MATRIX p) o) with
      | 0 => (s.tabByte (Obj.INGEST_MATRIX p) o).toNat
      | v + 1 => v
    signed 16 (byte (2 * i) + 256 * byte (2 * i + 1))

/-- TARGET_PRIMARIES; values above 3 act as 3. -/
def State.targetPrimaries (s : State) : Nat := s.atMost Obj.TARGET_PRIMARIES 3

/-- What a recomputation of a profile gives (R64, R65). -/
def State.computeProfile (s : State) (p : Nat) : ProfileForce :=
  let tr := s.reg (Obj.INGEST_TRANSFER p)
  let prim := s.atMost (Obj.INGEST_PRIMARIES p) 3
  let target := s.targetPrimaries
  { bits := s.reg (Obj.INGEST_BITS p), range := s.reg (Obj.INGEST_RANGE p)
    table :=
      if tr = 0 then .pq (s.reg (Obj.INGEST_PQ_WHITE p))
      else if tr = 1 then .hlg (s.reg (Obj.INGEST_HLG_SCALE p))
      else if tr = 3 then (s.profile p).custom
      else .linear (s.reg (Obj.INGEST_LINEAR_SCALE p))
    matrix :=
      if target = 3 then s.matrixWritten p
      else if prim = target || prim = 3 then identityMatrix
      else primariesMatrix prim target }

/-- Start a recomputation, or note that another must follow the one that runs (R58). -/
def recompute (p : Nat) (s : State) : State :=
  let x := s.profile p
  match x.working with
  | none => s.setProfile p { x with working := some (s.computeProfile p) }
  | some _ => s.setProfile p { x with again := true }

/-- Every profile is recomputed (R58). -/
def recomputeAll (s : State) : State := foldN 4 (fun t p => recompute p t) s

/-- A recomputation completes: its result is a table write in the shadow (R58). -/
def recomputeDone (p : Nat) (s : State) : State :=
  let x := s.profile p
  match x.working with
  | none => s
  | some r =>
    let s1 := s.setProfile p { x with working := none, again := false, ready := some r }
    if x.again then recompute p s1 else s1

/-- The profile that L7 names (R86). -/
def State.l7Profile (s : State) : Nat := (s.viewOf 7).profile

/-- Entries of a table as 32-bit words. -/
def TransferTable.words : TransferTable → List Nat
  | .custom es => (List.range 1025).map (natAt es)
  | t => (List.range 1025).map t.entry

/-- A custom table with its bytes replaced from offset 0 (R57, R64). -/
def replaceEntries (t : TransferTable) (data : Bytes) : TransferTable :=
  let bs := data.take 4100
  let old := t.words.flatMap (natLE 4)
  let new := bs ++ old.drop bs.length
  .custom ((List.range 1025).map fun i => leNat ((new.drop (4 * i)).take 4))

/-- A write to an RW object of an ingest profile (R57, R58, R64, R86). -/
def actIngest : Action := fun q s =>
  let p := q.obj / 256 - 0x3010
  let start := fun (t : State) => if s.l7Profile = p then noteFillInput (recompute p t) else recompute p t
  if q.obj = Obj.INGEST_TABLE p then
    .done (start (s.setProfile p { s.profile p with custom := replaceEntries (s.profile p).custom q.data }))
  else if q.obj = Obj.INGEST_MATRIX p then .done (start (writeShadow q.obj 18 q.data s))
  else match storeAction q s with
    | .done s1 => .done (start s1)
    | .later s1 => .later s1
    | .abort s1 code => .abort s1 code

/-- A write to TARGET_PRIMARIES (R58, R86). -/
def actTargetPrimaries : Action := fun q s =>
  match storeAction q s with
  | .done s1 => .done (noteFillInput (recomputeAll s1))
  | .later s1 => .later s1
  | .abort s1 code => .abort s1 code

/-- A write to a plain object that the frozen path reads: the refill of R86 starts on a change. -/
def actFrozenInput : Action := fun q s =>
  match storeAction q s with
  | .done s1 => .done (if s1.reg q.obj = s.reg q.obj then s1 else noteFillInput s1)
  | .later s1 => .later s1
  | .abort s1 code => .abort s1 code

/-- The swaps of a pipeline start (R57 to R59): tables first, INGESTp_MATRIX as written among them, then the profiles
whose recomputation has completed; each adds one to TABLE_SWAPS. -/
def swapTables (s : State) : State :=
  let evac := s.safety.evacActive
  let due := s.shadowed.filter fun o => !(evac && heldTable o)
  let s1 := due.foldl (fun t o =>
    let t1 := (swapTable o t).bump Obj.TABLE_SWAPS
    if refillTable o then noteFillInput t1 else t1) s
  foldN 4 (fun t p =>
    let x := t.profile p
    match x.ready with
    | none => t
    | some r =>
      let t1 := (t.setProfile p { x with force := r, ready := none }).bump Obj.TABLE_SWAPS
      if t1.l7Profile = p then noteFillInput t1 else t1) s1

/-- Values recomputed at each geometry apply (R58): THERMAL_ALPHA, DOSE_STEP, every profile. -/
def applyDerived (num den : Nat) (s : State) : State :=
  let s1 := s.setReg Obj.THERMAL_ALPHA (thermalAlphaOf (s.reg Obj.THERMAL_TAU) num den)
  recomputeAll (s1.setReg Obj.DOSE_STEP (doseStepOf (s.reg Obj.DOSE_DECIMATION) num den))

/-! ### The frame in computation -/

/-- The state with the objects and tables of a frame's pipeline start (R56). -/
def State.ofFrame (s : State) (f : FrameWork) : State := { s with regs := f.regs, tabs := f.tabs }

/-- Change the frame in computation. -/
def State.modFrame (s : State) (g : FrameWork → FrameWork) : State :=
  { s with pipe := { s.pipe with frame := s.pipe.frame.map g } }

/-- Sum of clips. -/
def Clips.add (a b : Clips) : Clips :=
  { gamut := a.gamut + b.gamut, work := a.work + b.work, emitHigh := a.emitHigh + b.emitHigh
    emitLow := a.emitLow + b.emitLow, code := a.code + b.code }

/-- Add clips to their counters (R55). -/
def State.countClips (s : State) (c : Clips) : State :=
  ((((s.bumpAt Obj.GAMUT_CLIPS 0 c.gamut).bumpAt Obj.WORK_SATURATIONS 0 c.work).bumpAt Obj.EMITTER_SATURATIONS 0
    c.emitHigh).bumpAt Obj.EMITTER_NEGATIVE_CLIPS 0 c.emitLow).bumpAt Obj.CODE_SATURATIONS 0 c.code

/-- Three values with the clips that formed them. -/
abbrev Triple := List Nat × Clips

/-- Stage 1 on a pixel's codes (R62, R63, R65). -/
def ingest (pf : ProfileForce) (codes : List Nat) : Triple :=
  let n := bitsOf pf.bits
  let v := codes.map fun c => ingestMap pf.table.entry (ingestNorm pf.range n c)
  if pf.matrix = identityMatrix then (v, {})
  else
    let p := fun i => pf.matrix.getD i 0
    let r := (List.range 3).map fun i => matrixRow (p (3 * i)) (p (3 * i + 1)) (p (3 * i + 2)) (natAt v 0) (natAt v 1) (natAt v 2)
    (r.map (·.value), { gamut := (r.map (·.low)).sum, work := (r.map (·.high)).sum })

/-- The code of a colour field of `w` bits under a profile of `n` bits (04 R95). -/
def fieldCode (w n v : Nat) : Nat := if n ≤ w then v / 2 ^ (w - n) else v * 2 ^ (n - w)

/-- Codes and pixel alpha of a buffer pixel (04 R95 Table 1). -/
def pixelCodes (format n : Nat) (bs : Bytes) : List Nat × Nat :=
  if format = 1 then
    let w := leNat (bs.take 4)
    ((List.range 3).map fun c => fieldCode 10 n (field w (10 * c) 10), 0xFFFF)
  else
    ((List.range 3).map fun c => fieldCode 16 n (leNat ((bs.drop (2 * c)).take 2)),
     if format = 2 then leNat ((bs.drop 6).take 2) else 0xFFFF)

/-- What one layer gives at a tile pixel: working values and effective alpha; transparent; or missing (R60). -/
inductive Sampled where
  | clear
  | missing
  | value (v : List Nat) (a : Nat) (clips : Clips)
  deriving DecidableEq, Repr

/-- A layer's contribution at a covered tile pixel (04 R94 to R97, R60). -/
def State.sampleLayer (s : State) (f : FrameWork) (sails : List Sail) (lost : Bool) (v : LayerView) (x y : Nat) :
    Sampled :=
  match v.sourceOf x y with
  | (u, w) =>
    if v.source = 2 then
      if 2048 ≤ u || 1024 ≤ w then .clear
      else match canvasPixel sails u w with
        | (c, a) => if a = 0 then .clear else .value (c.map Int.toNat) (v.effectiveAlpha a) {}
    else if v.width ≤ u || v.height ≤ w then
      if v.layer = 7 then .value [0, 0, 0] 65536 {} else .clear
    else
      let n := bytesPerPixel v.format
      let a := (v.address + w * v.stride + u * n) % 2 ^ 40
      if lost || s.isMissing 0 a n || s.isMissing (64 + v.layer) 0 1 then .missing
      else match s.deviceRead a n with
        | none => .missing
        | some bs =>
          let pf := f.profiles.getD v.profile {}
          match pixelCodes v.format (bitsOf pf.bits) bs with
          | (codes, alpha) =>
            let i := ingest pf codes
            .value i.1 (v.effectiveAlpha alpha) i.2

/-- The composed pixel with what it counted: values, clips, missing layer reads (04 R98). -/
structure Composed where
  value : List Nat := [0, 0, 0]
  clips : Clips := {}
  missing : Nat := 0
  deriving DecidableEq, Repr

/-- Stage 2 at a tile pixel: the views that cover it, bottom first (04 R98). -/
def State.compose (s : State) (f : FrameWork) (views : List LayerView) (sails : List Sail) (lost : Nat → Bool)
    (x y : Nat) : Composed :=
  (views.filter fun v => v.covers x y).foldl (fun o v =>
    match s.sampleLayer f sails (lost v.layer) v x y with
    | .clear => o
    | .missing => { o with missing := o.missing + 1 }
    | .value w a c =>
      let mixed := (List.range 3).map fun i => (blend a (natAt w i) (natAt o.value i)).toNat
      { o with value := mixed.map (min workMax), clips := (o.clips.add c).add
                 { work := (mixed.filter fun m => workMax < m).length } }) {}

/-! ### Calibration records (R67, R68) -/

/-- A record's CRC matches (R68). -/
def calCrcOk (bs : Bytes) : Bool := crc32 (bs.take 28) == leNat ((bs.drop 28).take 4)

/-- Decode a record (R67 Table 3). -/
def calFields (bs : Bytes) : CalRecord :=
  { m := (List.range 9).map fun i => signed 16 (leNat ((bs.drop (2 * i)).take 2))
    age := (List.range 3).map fun i => leNat ((bs.drop (18 + 2 * i)).take 2)
    black := (List.range 3).map fun i => signed 8 (leNat ((bs.drop (24 + i)).take 1))
    flags := leNat ((bs.drop 27).take 1) }

/-- The record of pixel `px` in a frame with objects `p` (R60, R68). -/
def State.calRecord (s p : State) (lost : Bool) (px : Nat) : CalRecord × CalOutcome :=
  if !p.flag Obj.CAL_ENABLE then ({}, .disabled)
  else if lost || s.isMissing 0 (s.calAddr px) 32 then ({}, .missing)
  else match s.deviceRead (s.calAddr px) 32 with
    | none => ({}, .missing)
    | some bs => if calCrcOk bs then (calFields bs, .good) else ({}, .badCrc)

/-! ### Stages 3 to 9 -/

/-- Stages 4 to 9 differ on the frozen path (R86 Table 5). -/
abbrev Frozen := Bool

/-- A stage is bypassed (R61). -/
def State.bypass (p : State) (stage : Nat) : Bool := bitAt (p.reg Obj.STAGE_BYPASS) stage

/-- Stage 3 (R66): the weir where it attenuates, then the gain. -/
def State.stage3 (s p : State) (frozen : Frozen) (z : Nat) (v : List Nat) : Triple :=
  let w := if !frozen && s.offends z && p.flag Obj.WEIR_ENABLE then
      (List.range 3).map fun c => weirApply (p.reg Obj.WEIR_ATTENUATION) (natAt v c) (s.slowMeanOf z c)
    else v
  let g := if frozen then p.reg Obj.EVAC_GAIN else p.tabNat Obj.GLARE_GAINS (2 * z) 2
  let r := w.map fun x => glareApply x g
  (r.map (·.value), { work := (r.map (·.high)).sum })

/-- Stage 4 (R69, R61). -/
def State.stage4 (p : State) (rc : CalRecord) (v : List Nat) : Triple :=
  if p.bypass 4 then (v.map (16 * ·), {})
  else
    let m := fun i => rc.m.getD i 0
    let r := (List.range 3).map fun e => calRow (m (3 * e)) (m (3 * e + 1)) (m (3 * e + 2)) (natAt v 0) (natAt v 1) (natAt v 2)
    (r.map (·.value), { emitLow := (r.map (·.low)).sum, emitHigh := (r.map (·.high)).sum })

/-- Stage 5 at a zone temperature (R73, R61). -/
def State.stage5 (p : State) (t : Int) (d : List Nat) : Triple :=
  if p.bypass 5 then (d, {})
  else
    let ix := thermalIndex t
    let entry := fun i k => signed 16 (p.tabNat Obj.THERMAL_TABLE (18 * i + 2 * k) 2)
    let th := fun k => thermalCoef (entry ix.1 k) (entry (min (ix.1 + 1) 63) k) ix.2
    let r := (List.range 3).map fun e => thermalRow (th (3 * e)) (th (3 * e + 1)) (th (3 * e + 2)) (natAt d 0) (natAt d 1) (natAt d 2)
    (r.map (·.value), { emitLow := (r.map (·.low)).sum, emitHigh := (r.map (·.high)).sum })

/-- Stage 6 (R77, R78): `dose` none stands for a model term of 1.0. -/
def State.stage6 (p : State) (rc : CalRecord) (dose : Nat → Option Nat) (d : List Nat) : Triple :=
  if p.bypass 6 then (d, {})
  else
    let r := (List.range 3).map fun c =>
      let model := match dose c with
        | none => 0x8000
        | some n => ageModel (fun i => p.tabNat Obj.AGE_TABLE (512 * c + 2 * i) 2) (p.reg Obj.AGE_SHIFT) n
      let m := if bitAt rc.flags c then 0x8000 else model
      ageApply (natAt d c) (ageGain m (natAt rc.age c))
    (r.map (·.value), { emitHigh := (r.map (·.high)).sum })

/-- The zone temperature in force at a frame's pipeline start (R72). -/
def State.zoneTemperature (p : State) (z : Nat) : Int := signed 16 (p.tabNat Obj.THERMAL_ZONE_TEMPS (2 * z) 2)

/-- Stages 8 and 9 on one emitter (R80 to R84): range, code and the clips of stage 8. -/
def State.stage89 (p : State) (rc : CalRecord) (c x y k d : Nat) : Bool × Nat × Nat :=
  let tab := fun (obj : Nat) i => p.tabNat obj (4 * i) 4
  let sp := rangeSplit (tab (Obj.GREY_LOW_RED + c)) (tab (Obj.GREY_HIGH_RED + c)) (p.reg (Obj.SPLIT_RED + c))
    (bitAt rc.flags 3) (rc.black.getD c 0) d
  let off := fun i => (p.tabByte Obj.DITHER_OFFSETS (2 * c + i)).toNat
  let xm := ditherPos x (off 0) k (p.reg Obj.DITHER_STEP_X)
  let ym := ditherPos y (off 1) k (p.reg Obj.DITHER_STEP_Y)
  let t := if p.bypass 9 then 8
    else ditherThreshold (p.tabByte Obj.DITHER_MASK (64 * ym + xm)).toNat k (p.reg Obj.DITHER_ROT)
  (sp.high, ditherCode sp.c20 t, sp.clips)

/-! ### One pixel -/

/-- Faults of a row at a column (R60, 02 R49). -/
structure PixelFaults where
  cal : Bool := false
  dose : Nat → Bool := fun _ => false
  layer : Nat → Bool := fun _ => false
  dead : Bool := false

/-- The dose of an emitter as the row reads it (R60, R74). -/
def State.doseRead (s : State) (lost : Bool) (e : Nat) : Option Nat :=
  if lost || s.isMissing 1 (s.doseAddr e) 4 then none else (s.deviceRead (s.doseAddr e) 4).map leNat

/-- A pixel through stages 1 to 6 (R54): `views` are the layers composed. -/
def State.pixel (s : State) (f : FrameWork) (p : State) (sails : List Sail) (views : List LayerView) (frozen : Frozen)
    (x y : Nat) (ft : PixelFaults) : PixelOut :=
  let px := s.pixelIx x y
  let z := s.zone x y
  let c0 := s.compose f views sails ft.layer x y
  let v := if ft.dead then [0, 0, 0] else c0.value
  let w := s.stage3 p frozen z v
  let rc := s.calRecord p ft.cal px
  let a := p.stage4 rc.1 w.1
  let b := p.stage5 (if frozen then signed 16 (p.reg Obj.BEACON_FILL_TEMP) else p.zoneTemperature z) a.1
  let driven := s.driven x y
  let doses := (List.range 3).map fun c => if frozen || !driven then none else s.doseRead (ft.dose c) (3 * px + c)
  let d := p.stage6 rc.1 (fun c => doses.getD c none) b.1
  { composed := v, work := w.1, d6 := d.1, record := rc.1, cal := rc.2, doses := doses
    clips := (((c0.clips.add w.2).add a.2).add b.2).add d.2, missing := c0.missing }

/-! ### Concealment (06 R169, R170) -/

/-- Offsets of the neighbours (06 Table 6). -/
def neighbours : List (Int × Int) := [(-1, -1), (0, -1), (1, -1), (-1, 0), (1, 0), (-1, 1), (0, 1), (1, 1)]

/-- The entry of an emitter with CONCEAL set and the emitter driven. -/
def State.concealed (s : State) (f : FrameWork) (e : Nat) : Option Nat :=
  let v := Sparse.get (fun _ => 0) f.subst e
  match s.placeOf e with
  | (x, y, _) => if bitAt v 24 && s.driven x y then some v else none

/-- The shares that an emitter receives, by neighbour position (06 R170). -/
def State.shares (s : State) (f : FrameWork) (p : State) (d6 : Nat → Nat → List Nat) (x y c : Nat) : List Nat :=
  (List.range 8).filterMap fun i =>
    let o := neighbours.getD i (0, 0)
    let sx := (x : Int) - o.1
    let sy := (y : Int) - o.2
    if sx < 0 || sy < 0 || (s.width : Int) ≤ sx || (s.height : Int) ≤ sy then none
    else match s.concealed f (3 * s.pixelIx sx.toNat sy.toNat + c) with
      | none => none
      | some e =>
        if bitAt e (32 + i) then
          let w := p.tabNat Obj.CONCEAL_WEIGHTS (16 * field e 28 2 + 2 * i) 2
          some ((natAt (d6 sx.toNat sy.toNat) c * w + 16384) / 32768)
        else none

/-- Stage 7 on one emitter: its value, and whether it clipped and was capped (06 R170). -/
def State.stage7 (s : State) (f : FrameWork) (p : State) (d6 : Nat → Nat → List Nat) (x y c : Nat) : Nat × Nat × Nat :=
  let own := natAt (d6 x y) c
  if p.bypass 7 || f.subst.isEmpty then (own, 0, 0)
  else match s.concealed f (3 * s.pixelIx x y + c) with
    | some _ => (0, 0, 0)
    | none =>
      if !s.driven x y then (own, 0, 0)
      else
        let sh := s.shares f p d6 x y c
        if sh.isEmpty then (own, 0, 0)
        else
          let sum := own + sh.sum
          let clipped := min sum emitMax
          let lim := max own (p.reg Obj.CONCEAL_CAP)
          (min clipped lim, b2n (emitMax < sum), b2n (lim < clipped))

/-! ### One pixel of a row into the egress queues -/

/-- The column of a fault of a row. -/
def faultColumn : RowFault → Option Nat
  | .calMissing x => some x
  | .doseMissing x _ => some x
  | .layerMissing _ x => some x
  | .bufferCorrected x => some x
  | .bufferUncorrectable x _ => some x
  | .tableCorrected => none
  | .tableUncorrectable _ _ _ => none
  | .zoneUncorrectable _ _ => none

/-- Faults of a row at column `x`. -/
def faultsAt (fs : List RowFault) (x : Nat) : PixelFaults :=
  { cal := fs.any fun | .calMissing a => a == x | _ => false
    dose := fun c => fs.any fun | .doseMissing a b => a == x && b == c | _ => false
    layer := fun l => fs.any fun | .layerMissing a b => a == l && b == x | _ => false
    dead := fs.any fun | .bufferUncorrectable a _ => a == x | _ => false }

/-- Count a calibration outcome (R68, FS24, FS27). -/
def State.countCal (s : State) (px : Nat) : CalOutcome → State
  | .good => s
  | .disabled => s
  | .badCrc => ((s.bump Obj.CAL_CRC_FAILS).setReg Obj.CAL_LAST_FAIL_PIXEL px).occur 24
  | .missing => (((s.bump Obj.CAL_CRC_FAILS).setReg Obj.CAL_LAST_FAIL_PIXEL px).occur 24).occur 27

/-- Repeat an operation on the state. -/
def times (n : Nat) (op : State → State) (s : State) : State := foldN n (fun t _ => op t) s

/-- Add to a zone sum. -/
def addZone (m : Sparse Nat) (z c v : Nat) : Sparse Nat :=
  if v = 0 then m else Sparse.set (fun _ => 0) m (z * 4 + c) (Sparse.get (fun _ => 0) m (z * 4 + c) + v)

/-- Add a pixel to the sums of its frame (12 R314, R316). -/
def addSums (p : State) (z : Nat) (o : PixelOut) (m : ZoneSums) : ZoneSums :=
  let lum := (p.photoK 0 * natAt o.work 0 + p.photoK 1 * natAt o.work 1 + p.photoK 2 * natAt o.work 2) / 65536
  let add3 := fun (t : Sparse Nat) (v : List Nat) => foldN 3 (fun t c => addZone t z c (natAt v c)) t
  { m with work := add3 m.work o.work, pre := add3 m.pre o.composed, lum := addZone m.lum z 0 lum }

/-- The emitter is due for a probe in the frame (06 R156). -/
def State.probeFlag (s : State) (f : FrameWork) (p : State) (x y c code : Nat) : Bool :=
  let rf := max (p.reg Obj.ROUND_FRAMES) 1
  let due := (f.k + x + y) % rf == 0 || f.suspects.contains (3 * s.pixelIx x y + c)
  let deferred := p.flag Obj.BLACK_SAFE && code == 0 && !f.black
  !f.evac && p.flag Obj.PROBE_ENABLE && s.driven x y && due && !deferred

/-- Accumulate a dose for a final code (R74 to R76): the plain write of the value read plus the increment. -/
def accumulate (p : State) (e dose word : Nat) (s : State) : State :=
  let q := doseIncrement word (p.reg Obj.DOSE_STEP)
  let new := doseAdd dose q (s.free % 2 ^ 24)
  let s1 := s.drawn.pixelWrite (s.doseAddr e) (natLE 4 new)
  if new = 0xFFFFFFFF && dose < new then (s1.bump Obj.DOSE_SATURATIONS).occur 28 else s1

/-- One emitter of a row: stages 7 to 10. In an accumulating frame the dose read is kept until the code shown is known
(R74, 05 R141). -/
def emitterOut (f : FrameWork) (p : State) (d6 : Nat → Nat → List Nat) (frozen : Frozen) (o : PixelOut) (x y c : Nat)
    (s : State) : State :=
  let e := 3 * s.pixelIx x y + c
  let d7 := if frozen || f.evac then (natAt o.d6 c, 0, 0) else s.stage7 f p d6 x y c
  let g := p.stage89 o.record c x y (if frozen then 0 else f.k) d7.1
  let word := if f.evac && !frozen then 0 else driveWord g.1 (s.probeFlag f p x y c g.2.1) g.2.1
  let s1 := (s.countClips { emitHigh := d7.2.1, code := g.2.2 }).bumpAt Obj.CONCEAL_CAPPED 0 d7.2.2
  if !s.driven x y then s1
  else
    let s2 := match s.emitterKey x y c with
      | some k => { s1 with pipe := { s1.pipe with words := Sparse.set (fun _ => 0) s1.pipe.words k word } }
      | none => s1
    match o.doses.getD c none with
    | none => s2
    | some dose =>
      if f.accumulate then s2.modFrame fun fr => { fr with doses := Sparse.set (fun _ => 0) fr.doses e (dose + 1) } else s2

/-- Doses that failed to arrive for a driven pixel outside the frozen path (R60, FS27). -/
def missedDoses (driven frozen : Bool) (o : PixelOut) : Nat :=
  if driven && !frozen then (o.doses.filter (·.isNone)).length else 0

/-- The dose is read in every frame for every driven emitter (R74), the frozen path included. -/
def State.frozenDoses (s : State) (x y : Nat) (ft : PixelFaults) : List (Option Nat) :=
  (List.range 3).map fun c => s.doseRead (ft.dose c) (3 * s.pixelIx x y + c)

/-- Tap of the echo (04 R118): after stage 2, or after stage 3. -/
def tapEcho (p : State) (o : PixelOut) (x y : Nat) (s : State) : State :=
  let v := if p.reg Obj.ECHO_TAP = 0 then o.composed else o.work
  let tap := foldN 3 (fun m c => Sparse.set (fun _ => 0) m ((y * 2048 + x) * 3 + c) (natAt v c)) s.layers.echoTap
  { s with layers := { s.layers with echoTap := tap } }

/-- The pixel as its frame has computed it, none before its composition. -/
def FrameWork.out (f : FrameWork) (px : Nat) : Option PixelOut := Sparse.get (fun _ => none) f.outs px

/-- Compute a pixel up to stage 6 and keep it for the frame: its record and doses are read once, its clips and failed
reads counted once (R55, R60, R68, R87). -/
def composePixel (f : FrameWork) (p : State) (sails : List Sail) (ft : PixelFaults) (x y : Nat) (s : State) : State :=
  let views := if f.cutoff then f.views.filter (·.layer == 7) else f.views
  let frozen := f.evac && s.inRegion x y
  let o0 := s.pixel f p sails views frozen x y ft
  let o := if frozen && s.driven x y then { o0 with doses := s.frozenDoses x y ft } else o0
  let s1 := ((s.countClips o.clips).countCal (s.pixelIx x y) o.cal).bumpAt Obj.MISSING_READS 0 o.missing
  let missed := missedDoses (s.driven x y) false o
  let s2 := times (o.missing + missed) (·.occur 27) (s1.bumpAt Obj.DOSE_MISSED 0 missed)
  s2.modFrame fun fr =>
    { fr with outs := Sparse.set (fun _ => none) fr.outs (s.pixelIx x y) (some { o with cut := f.cutoff }) }

/-- A pixel of the row whose turn has come: computed now, unless concealment has needed it before, nothing failed for
it, and the cut-off has not come between (assumption log 96). -/
def composeOwn (f : FrameWork) (p : State) (sails : List Sail) (fs : List RowFault) (y : Nat) (s : State) (x : Nat) : State :=
  match f.out (s.pixelIx x y) with
  | none => composePixel f p sails (faultsAt fs x) x y s
  | some o =>
    if (fs.any fun e => faultColumn e == some x) || (f.cutoff && !o.cut) then composePixel f p sails (faultsAt fs x) x y s else s

/-- Pixels of the rows above and below whose stage-6 values concealment needs for row `y` (06 R169, R170). -/
def State.aheadOf (s : State) (f : FrameWork) (p : State) (y : Nat) : List (Nat × Nat) :=
  if f.evac || p.bypass 7 then []
  else f.subst.filterMap fun e =>
    match s.placeOf e.1 with
    | (x, b, _) => if (s.concealed f e.1).isSome && (b + 1 == y || b == y + 1) then some (x, b) else none

/-- Compute a pixel that concealment needs, unless it has been. -/
def composeAhead (p : State) (sails : List Sail) (s : State) (at' : Nat × Nat) : State :=
  match s.pipe.frame with
  | none => s
  | some f => if (f.out (s.pixelIx at'.1 at'.2)).isSome then s else composePixel f p sails {} at'.1 at'.2 s

/-- A pixel of the row leaves stage 6: sums, echo tap, and its emitters through stages 7 to 10. -/
def emitPixel (f : FrameWork) (p : State) (y : Nat) (s : State) (x : Nat) : State :=
  match f.out (s.pixelIx x y) with
  | none => s
  | some o =>
    let d6 := fun a b => ((f.out (s.pixelIx a b)).map (·.d6)).getD [0, 0, 0]
    let s1 := s.modFrame fun fr => { fr with sums := addSums p (s.zone x y) o fr.sums }
    let s2 := if f.echo then tapEcho p o x y s1 else s1
    foldN 3 (fun t c => emitterOut f p d6 (f.evac && s.inRegion x y) o x y c t) s2

/-- The pixels of a row: stages 1 to 6, the neighbours that concealment needs, then stages 7 to 10. -/
def computeRow (f : FrameWork) (p : State) (sails : List Sail) (fs : List RowFault) (y : Nat) (s : State) : State :=
  let s1 := (List.range s.width).foldl (composeOwn f p sails fs y) s
  let s2 := (s.aheadOf f p y).foldl (composeAhead p sails) s1
  (List.range s.width).foldl (emitPixel (s2.pipe.frame.getD f) p y) s2

/-! ### Rows and frames (02 R52) -/

/-- PIXEL clock of a level, MHz (14 R339). -/
def pixelClock (level : Nat) : Nat := natAt [800, 600, 400, 200] level

/-- T_sc of the timing in force, ns, exact. -/
def State.scanPeriod (s : State) : Rat := (1000000000 * s.scan.timing.den : Nat) / (max 1 (s.scan.timing.num * s.scan.timing.cycles) : Nat)

/-- Pixels of row y that a view covers. -/
def State.coveredIn (s : State) (v : LayerView) (y : Nat) : Nat := ((List.range s.width).filter fun x => v.covers x y).length

/-- Pixel rows still to be composed, in the order of 02 R52, from (row, band). -/
def State.rowsLeft (s : State) (row band : Nat) : List Nat :=
  (List.range (s.scan.rows * s.bandCount)).filterMap fun i =>
    let r := i / s.bandCount
    let b := i % s.bandCount
    let y := b * s.scan.rows + r
    if row * s.bandCount + band ≤ i && y < s.height then some y else none

/-- Pixels that this row and every later one need: the compositor takes the covered pixels of every view, the correction
stages W pixels a row, each four per PIXEL clock and one behind the other (02 R52). -/
def State.pixelsLeft (s : State) (f : FrameWork) : Nat :=
  let rows := s.rowsLeft f.row f.band
  max (rows.map fun y => (f.views.map fun v => s.coveredIn v y).sum).sum (rows.length * s.width)

/-- The time left to the frame deadline is too short for this row and every later one (02 R52). -/
def State.tooLate (s : State) (f : FrameWork) : Bool :=
  let need := s.pixelsLeft f
  let left : Rat := ((f.showTime : Rat) + (s.time.catchGen.offset : Rat) - (s.now : Rat)) / 4294967296 - s.scanPeriod
  decide (left * (4 * pixelClock s.power.clockLevel : Nat) < ((1000 * need : Nat) : Rat))

/-- Cut composition off: every visible layer but L7 is omitted and counts a miss, the frame is late (04 R103). -/
def cutOff (f : FrameWork) (s : State) : State :=
  let gone := (f.views.filter (·.layer != 7)).map (·.layer)
  let s1 := gone.foldl (fun t l => t.bump (Obj.LAYER_MISSES l)) s
  ((s1.bump Obj.COMPOSE_LATE_FRAMES).occur 26).modFrame fun fr => { fr with cutoff := true, omitted := gone }

/-- Bytes of an entry of a table of PIXEL (03 R73, R77, R81, R84, 06 R170, 12 R311). -/
def tableStep (obj : Nat) : Nat :=
  if obj = Obj.THERMAL_TABLE then 18
  else if Obj.GREY_HIGH_RED ≤ obj && obj ≤ Obj.GREY_LOW_BLUE then 4
  else if obj = Obj.DITHER_MASK || obj = Obj.DITHER_OFFSETS then 1
  else 2

/-- The affected entry of a table is reset to its default value, in force and in the frame in computation (02 R49). -/
def resetEntry (obj entry : Nat) (s : State) : State :=
  if islandOf obj ≠ 1 then s
  else
    let o := entry * tableStep obj
    let bs := (List.range (tableStep obj)).map fun i => domDefault (tabKey obj (o + i))
    (s.setTab obj o bs).modFrame fun fr => { fr with tabs := Sparse.setList domDefault fr.tabs (tabKey obj o) bs }

/-- Errors of the PIXEL regions that a row met: its line and tile buffers, the zone statistics and tables (02 R49). -/
def rowEcc (fs : List RowFault) (s : State) : State :=
  fs.foldl (fun t e =>
    match e with
    | .bufferCorrected _ => t.bumpAt Obj.SRAM_CORRECTED 0 1
    | .bufferUncorrectable _ o => t.sramUncorrectable 0 o
    | .tableCorrected => t.bumpAt Obj.SRAM_CORRECTED 5 1
    | .tableUncorrectable obj entry o => resetEntry obj entry (t.sramUncorrectable 5 o)
    | .zoneUncorrectable z o =>
      let t1 := t.sramUncorrectable 5 o
      { t1 with pipe := { t1.pipe with rise := Sparse.set (fun _ => 0) t1.pipe.rise z 0 } }
    | .calMissing _ => t
    | .doseMissing _ _ => t
    | .layerMissing _ _ => t) s

/-- Mean of a block of the echo tap, U4.12 (04 R118). -/
def State.echoPixel (s : State) (d i j c : Nat) : Nat :=
  let xs := (List.range d).map (d * i + ·) |>.filter (· < s.width)
  let ys := (List.range d).map (d * j + ·) |>.filter (· < s.height)
  let vals := ys.flatMap fun y => xs.map fun x => Sparse.get (fun _ => 0) s.layers.echoTap ((y * 2048 + x) * 3 + c)
  min ((meanOf vals.sum vals.length + 8) / 16) 0xFFFF

/-- The echo frame of a computed frame (04 R118, R119). -/
def State.echoFrame (s : State) (f : FrameWork) (p : State) : EchoFrame :=
  let code := p.reg Obj.ECHO_DECIMATION
  let code' := min code 3
  let d := 2 ^ code'
  let w := ceilDiv s.width d
  let h := ceilDiv s.height d
  let pixels := (List.range (w * h)).flatMap fun n => (List.range 3).flatMap fun c =>
    natLE 2 (s.echoPixel d (n % w) (n / w) c)
  let flags := b2n (p.reg Obj.ECHO_TAP != 0) + 2 * b2n f.evac + 4 * b2n (f.cutoff || f.missed) + 8 * b2n f.linkLoss
  let head := natLE 2 1 ++ natLE 2 w ++ natLE 2 h ++ natLE 1 code' ++ natLE 1 flags ++ natLE 4 f.k ++
    natLE 10 (packTime f.showTime.toNat) ++ natLE 2 0 ++ natLE 4 (crc32 pixels)
  { buffer := s.layers.echoBuffer, frame := f.k, width := w, height := h, bytes := head ++ natLE 4 (crc32 head) ++ pixels }

/-- The echo frame is written to its buffer in LPDDR5 and waits for its boundary (04 R120); a burst that faults drops it
(11 R288). -/
def formEcho (f : FrameWork) (p : State) (s : State) : State :=
  let e := s.echoFrame f p
  let w := writeBursts (burstsAt (p.reg Obj.ECHO_BUFFER_ADDR + 8388608 * e.buffer) e.bytes.length) e.bytes
    ({ s with layers := { s.layers with echoTap := [] } }.crossed 3)
  if w.1 then { w.2 with layers := { w.2.layers with echoReady := some e } } else w.2.bump Obj.ECHO_FRAMES_DROPPED

/-- The last row has left stage 10: counters, the weir's decision, the echo frame (R88, 12 R315, 04 R118). -/
def finishFrame (s : State) : State :=
  match s.pipe.frame with
  | none => s
  | some f =>
    let p := s.ofFrame f
    let s1 := (s.bump Obj.PIPELINE_FRAMES).setReg Obj.DITHER_FRAME (f.k % 256)
    let s2 := weirFrame p f.sums f.startTime s1
    let s3 := if f.echo then formEcho f p s2 else s2
    s3.modFrame fun fr => { fr with finished := true }

/-- Move on to the next row of the frame. -/
def nextRow (s : State) : State :=
  match s.pipe.frame with
  | none => s
  | some f =>
    let s1 := { s with pipe := { s.pipe with readyRows := (f.band * 32 + f.row) :: s.pipe.readyRows } }
    if f.band + 1 < s.bandCount then s1.modFrame fun fr => { fr with band := f.band + 1 }
    else if f.row + 1 < s.scan.rows then s1.modFrame fun fr => { fr with band := 0, row := f.row + 1 }
    else finishFrame s1

/-- First byte and length that a row takes of a layer's buffer in memory (04 R94); none for an engine or outside it. -/
def State.layerRun (s : State) (v : LayerView) (y : Nat) : Nat × Nat :=
  let us := (List.range s.width).filterMap fun x =>
    match v.sourceOf x y with
    | (u, w) => if v.covers x y && v.source ≠ 2 && u < v.width && w < v.height then
        some ((v.address + w * v.stride + u * bytesPerPixel v.format) % 2 ^ 40) else none
  match us with
  | [] => (0, 0)
  | a :: rest =>
    let lo := rest.foldl min a
    (lo, rest.foldl max a - lo + bytesPerPixel v.format)

/-- What the reads of rings 0 and 1 for a row count: calibration records, doses and layer pixels (03 R87, 11 R269, R272). -/
def noteRow (p : State) (views : List LayerView) (y : Nat) (s : State) : State :=
  let first := s.pixelIx 0 y
  let s1 := if p.flag Obj.CAL_ENABLE then pixelRead (s.calAddr first) (32 * s.width) s else s
  let s2 := pixelRead (s1.doseAddr (3 * first)) (12 * s.width) s1
  views.foldl (fun t v => pixelRead (s.layerRun v y).1 (s.layerRun v y).2 t) s2

/-- One output row (02 R52): composition, the stages, the egress queues; its reads come over H02 and its words leave
over H04 (02 R42, assumption log 138). -/
def rowCompute (fs : List RowFault) (s : State) : State :=
  match s.pipe.frame with
  | none => s
  | some f0 =>
    if f0.finished then s
    else
      let y := f0.band * s.scan.rows + f0.row
      let s1 := rowEcc fs (if !f0.cutoff && !f0.evac && s.tooLate f0 then cutOff f0 s else s)
      let f := s1.pipe.frame.getD f0
      let p := s1.ofFrame f
      let sails := (List.range 16).map fun n => p.sail n f.showTime
      let views := if f.cutoff then f.views.filter (·.layer == 7) else f.views
      let s2 := if y < s.height then (noteRow p views y (computeRow f p sails fs y s1)).crossed 4 else s1
      nextRow { s2 with pipe := { s2.pipe with missing := s2.pipe.missing.filter fun m => m.1 < 64 } }

/-! ### The thermal model (R71, R72) -/

/-- Publish a zone temperature. -/
def setZoneTemp (z : Nat) (t : Int) (s : State) : State := s.setTab Obj.THERMAL_ZONE_TEMPS (2 * z) (natLE 2 (image 16 t))

/-- Every ΔT is 0 and every temperature the base, at scan-drive start (R72, assumption log 30). -/
def restartThermal (s : State) : State :=
  let t := zoneTemp (signed 16 (s.reg Obj.THERMAL_BASE)) 0
  let s1 := s.setTab Obj.THERMAL_ZONE_TEMPS 0 ((List.range zones).flatMap fun _ => natLE 2 (image 16 t))
  { s1 with pipe := { s1.pipe with rise := [] } }

/-- The update of every zone from mean drives m(z, c) (R72), with the objects of the frame. -/
def thermalUpdate (p : State) (m : Nat → Nat → Nat) (s : State) : State :=
  let k := fun c => signed 16 (p.reg (Obj.THERMAL_K_RED + c))
  let base := signed 16 (p.reg Obj.THERMAL_BASE)
  foldN zones (fun t z =>
    let dt := thermalStep (p.reg Obj.THERMAL_ALPHA) (k 0) (k 1) (k 2) (m z 0) (m z 1) (m z 2)
      (Sparse.get (fun _ => 0) t.pipe.rise z)
    setZoneTemp z (zoneTemp base dt)
      { t with pipe := { t.pipe with rise := Sparse.set (fun _ => 0) t.pipe.rise z dt } }) s

/-- THERMAL_RESET (R72). DESIGN CHOICE: the published temperatures follow at the next update (assumption log 148). -/
def actThermalReset : Action := fun _ s => .done { s with pipe := { s.pipe with rise := [] } }

/-- PIPELINE_COUNTERS_CLEAR (R88). -/
def actPipelineCountersClear : Action := fun _ s =>
  .done (s.clearRegs [Obj.PIPELINE_FRAMES, Obj.PIPELINE_LATE_FRAMES, Obj.TABLE_SWAPS, Obj.MISSING_READS,
    Obj.CAL_CRC_FAILS, Obj.CAL_WRITEBACKS, Obj.DOSE_SATURATIONS, Obj.DOSE_MISSED, Obj.CODE_SATURATIONS, Obj.GAMUT_CLIPS,
    Obj.WORK_SATURATIONS, Obj.EMITTER_SATURATIONS, Obj.BEACON_FILLS, Obj.EMITTER_NEGATIVE_CLIPS])

/-! ### The meanings -/

/-- PIPELINE_ROW_COMPUTE (02 R52). -/
def execPipelineRowCompute (faults : List RowFault) : State → Host.Outcome State Fault Refusal :=
  onIsland 1 (rowCompute faults)

/-- INGEST_PROFILE_WRITE (R58). -/
def execIngestProfileWrite (rq : Req) (profile sub : Nat) (data : Bytes) : State → Host.Outcome State Fault Refusal :=
  hostWrite actIngest rq ((0x3010 + profile) * 256 + sub) data

/-- TARGET_PRIMARIES_WRITE (R58). -/
def execTargetPrimariesWrite (rq : Req) (data : Bytes) : State → Host.Outcome State Fault Refusal :=
  hostWrite actTargetPrimaries rq Obj.TARGET_PRIMARIES data

/-- INGEST_RECOMPUTE_COMPLETE (R58). -/
def execIngestRecomputeComplete (profile : Nat) : State → Host.Outcome State Fault Refusal :=
  onIsland 1 (recomputeDone profile)

/-- THERMAL_RESET (R72). DESIGN CHOICE: the published temperatures follow at the next update (assumption log 148). -/
def execThermalReset (rq : Req) (data : Bytes) : State → Host.Outcome State Fault Refusal :=
  hostWrite actThermalReset rq Obj.THERMAL_RESET data

/-- PIPELINE_COUNTERS_CLEAR (R88). -/
def execPipelineCountersClear (rq : Req) (data : Bytes) : State → Host.Outcome State Fault Refusal :=
  hostWrite actPipelineCountersClear rq Obj.PIPELINE_COUNTERS_CLEAR data

end Sys2Proof.Machine
end

