-- ==== Sys2Proof/Machine/Diagnosis.lean ====
section
/-! DEFINITION. Emitter diagnosis (chapter 06): probe rounds, probe results, the defect map, suspects, the substitution
table, Vf trends and the refinement of the ageing gain. -/

namespace Sys2Proof.Machine

/-! ### Packets on a band link (05 R131 Table 3) -/

/-- The bytes of a packet between SOP and EOP: TYPE, ADDR, payload, and the CRC over them, little-endian. -/
def bandFrame (code addr : Nat) (payload : Bytes) : Bytes :=
  let body := natLE 1 code ++ natLE 1 addr ++ payload
  body ++ natLE 2 (crc16 body)

/-- A downstream packet leaves on a band link. -/
def sendBand (b code addr : Nat) (payload : Bytes) (s : State) : State := s.emit (.bandPacket b (bandFrame code addr payload))

/-- WRITE_REG to a node, or to all with 0xFF. -/
def sendReg (b addr reg v : Nat) (s : State) : State := sendBand b 0x01 addr (natLE 1 reg ++ natLE 2 v) s

/-- Apply an operation to every used band that has not failed. -/
def eachBand (op : Nat → State → State) (s : State) : State :=
  foldN s.bandCount (fun t b => if (t.band b).step = .failed then t else op b t) s

/-! ### The defect map (R163, R164) -/

/-- The state of an emitter in the map; none when the map cannot be read. -/
def State.mapState (s : State) (e : Nat) : Option Nat :=
  (s.deviceRead (s.defectAddr e) 1).map fun bs => field (leNat bs) (4 * (e % 2)) 4

/-- Write the state of an emitter, when it changes: byte read, nibble replaced, byte written (R164). -/
def setMapState (e v : Nat) (s : State) : State :=
  let s1 := pixelRead (s.defectAddr e) 1 s
  match s.deviceRead (s.defectAddr e) 1 with
  | none => s1
  | some bs =>
    let old := leNat bs
    let new := if e % 2 = 0 then old / 16 * 16 + v else old % 16 + 16 * v
    if new = old then s1 else s1.pixelWrite (s.defectAddr e) (natLE 1 new)

/-- Code of a verdict (Table 5). -/
def verdictCode : Verdict → Nat
  | .opn => 0
  | .short => 1
  | .leak => 2
  | .weak => 3

/-- A table-full state (Table 4). -/
def tableFull (v : Nat) : Bool := decide (0xC ≤ v)

/-- The rebuild of the map before strokes begin; the suspect table is emptied (R164). -/
def rebuildMap (s : State) : State :=
  let blank := s.pixelWrite (s.defectAddr 0) (List.replicate (ceilDiv s.emitters 2) 0#8)
  let s1 := s.diag.subst.foldl (fun t e => if e.1 < s.emitters then setMapState e.1 (4 + field e.2 22 2) t else t) blank
  { s1 with diag := { s1.diag with suspects := [] } }

/-! ### Suspects and the substitution table (R161, R165 to R168) -/

/-- The suspect entry of an emitter. -/
def State.suspect (s : State) (e : Nat) : Option Suspect := s.diag.suspects.find? (·.emitter == e)

/-- Remove the suspect entry of an emitter. -/
def dropSuspect (e : Nat) (s : State) : State :=
  { s with diag := { s.diag with suspects := s.diag.suspects.filter (·.emitter != e) } }

/-- Enter or replace a suspect. -/
def putSuspect (x : Suspect) (s : State) : State :=
  { s with diag := { s.diag with suspects := s.diag.suspects.filter (·.emitter != x.emitter) ++ [x] } }

/-- The substitution entry of an emitter, 0 for none: an entry is stored with bit 64 set. -/
def State.entry (s : State) (e : Nat) : Nat := Sparse.get (fun _ => 0) s.diag.subst e

/-- An emitter has an entry. -/
def State.confirmed (s : State) (e : Nat) : Bool := s.entry e != 0

/-- Put an entry. -/
def putEntry (e v : Nat) (s : State) : State :=
  { s with diag := { s.diag with subst := Sparse.set (fun _ => 0) s.diag.subst e (v % 2 ^ 64 + 2 ^ 64) } }

/-- Remove an entry. -/
def dropEntry (e : Nat) (s : State) : State :=
  { s with diag := { s.diag with subst := Sparse.set (fun _ => 0) s.diag.subst e 0 } }

/-- Bits of an entry that are not reserved (Table 5). -/
abbrev entryMask : Nat := 0xFF37FFFFFF

/-- An entry written by the host: reserved bits dropped, HOST set (R167). -/
def hostEntry (v : Nat) : Nat := putBit (Nat.land v entryMask) 26 true

/-- The entry and the map state of a confirmed defect, or the table-full state (R166 steps 1 and 2). -/
def enterDefect (e : Nat) (v : Verdict) (s : State) : State :=
  let code := verdictCode v
  if 8192 ≤ s.diag.subst.length then setMapState e (0xC + code) (s.bump Obj.DEFECT_TABLE_FULL)
  else
    let conceal := b2n (bitAt (s.reg Obj.CONCEAL_VERDICTS) code)
    let set := s.reg Obj.CONCEAL_DEFAULT_SET
    let image := e + code * 2 ^ 22 + conceal * 2 ^ 24 + (if 3 < set then 0 else set) * 2 ^ 28 +
      s.reg Obj.CONCEAL_DEFAULT_MASK * 2 ^ 32
    setMapState e (4 + code) (putEntry e image s)

/-- A defect is confirmed (R166). -/
def confirm (e : Nat) (v : Verdict) (s : State) : State :=
  let s1 := enterDefect e v (dropSuspect e s)
  let s2 := ((s1.bump Obj.DEFECTS_CONFIRMED).setReg Obj.DEFECT_LAST_EMITTER e).setReg Obj.DEFECT_LAST_TIME s.stampA
  (s2.occur 40).event 0x0003 (natLE 4 e ++ natLE 1 (verdictCode v))

/-- CONFIRM_COUNT in force. -/
def State.confirmCount (s : State) : Nat := s.limited Obj.CONFIRM_COUNT 1 7

/-- An OK verdict (R162). -/
def applyOk (e : Nat) (s : State) : State :=
  if s.confirmed e then putEntry e (putBit (s.entry e % 2 ^ 64) 25 true) s
  else if tableFull ((s.mapState e).getD 0) then s
  else setMapState e 1 (dropSuspect e s)

/-- A failure verdict (R161, R162). -/
def applyFail (e : Nat) (v : Verdict) (s : State) : State :=
  if s.confirmed e || tableFull ((s.mapState e).getD 0) then s
  else
    match s.suspect e with
    | none =>
      if 16384 ≤ s.diag.suspects.length then (s.bump Obj.SUSPECT_OVERFLOWS).occur 42
      else if s.confirmCount = 1 then confirm e v s
      else setMapState e 2 (putSuspect ⟨e, v, 1⟩ s)
    | some x =>
      let n := if x.verdict = v then x.count + 1 else 1
      if s.confirmCount ≤ n then confirm e v s else setMapState e 2 (putSuspect ⟨e, v, n⟩ s)

/-! ### Probe requests and results (R149, R159, R160) -/

/-- Put one request into its set. -/
def addRequest (b n frame cycle : Nat) (req : Nat × Nat × Nat) (l : List ProbeSet) : List ProbeSet :=
  if l.any fun x => x.band == b && x.node == n && x.frame == frame && x.cycle == cycle then
    l.map fun x => if x.band == b && x.node == n && x.frame == frame && x.cycle == cycle then
      { x with expected := x.expected ++ [req] } else x
  else l ++ [{ band := b, node := n, frame := frame, cycle := cycle, expected := [req], left := cycle + 2 }]

/-- The requests of frame `k` from the words now shown on the nodes that swapped it in (R149, R159). -/
def openProbes (k : Nat) (s : State) : State :=
  if !s.flag Obj.PROBE_ENABLE then s
  else
    let sets := s.scan.shown.foldl (fun l w =>
      let ch := w.1 % 192
      let r := w.1 / 192 % 32
      let n := w.1 / 6144 % 64
      let b := w.1 / 393216
      let x := s.node b n
      if bitAt w.2 16 && x.shownFrame == some k && !x.blackNow then
        match s.emitterAt b n r ch with
        | some e => addRequest b n k ((ch + 7 * r) % max 1 s.scan.timing.cycles) (ch, r, e) l
        | none => l
      else l) s.diag.probes
    { s with diag := { s.diag with probes := sets } }

/-- A band that sends BLANK expects no results of the cycle (R159). -/
def dropProbes (b cycle : Nat) (s : State) : State :=
  { s with diag := { s.diag with probes := s.diag.probes.filter fun x => !(x.band == b && x.cycle == cycle && !x.closed) } }

/-- Every packet from SEQ 0 to the one with LAST is held, and PROBED is the number of requests (05 R145). -/
def ProbeSet.complete (x : ProbeSet) : Bool :=
  match x.packets.find? (·.isLast) with
  | none => false
  | some p => (List.range (p.seq + 1)).all (fun i => x.packets.any (·.seq == i)) &&
      x.packets.all fun q => q.probed == x.expected.length

/-- Results of a frame. -/
def State.resultsOf (s : State) (frame : Nat) : Results :=
  (s.diag.results.find? (·.frame == frame)).getD { frame := frame }

/-- Keep the results of a frame. -/
def putResults (r : Results) (s : State) : State :=
  { s with diag := { s.diag with results := s.diag.results.filter (·.frame != r.frame) ++ [r] } }

/-- The results of a set are accepted (R160). -/
def acceptSet (x : ProbeSet) (s : State) : State :=
  let listed := x.packets.flatMap (·.fails)
  let emitterOf := fun (ch r : Nat) => (x.expected.find? fun q => q.1 == ch && q.2.1 == r).map (·.2.2)
  let fails := listed.filterMap fun f => (emitterOf f.1 f.2.1).map fun e => (e, f.2.2)
  let vfs := (x.packets.flatMap (·.vfs)).filterMap fun v => (emitterOf v.1 v.2.1).map fun e => (e, v.2.2)
  let oks := (x.expected.map (·.2.2)).filter fun e => !(fails.any (·.1 == e))
  let r := s.resultsOf x.frame
  putResults { r with ok := r.ok ++ oks, fails := r.fails ++ fails, vfs := r.vfs ++ vfs }
    (s.bumpAt Obj.PROBES_TAKEN 0 x.expected.length)

/-- The results of a set are lost (R159). -/
def loseSet (x : ProbeSet) (s : State) : State :=
  times x.expected.length (·.occur 43) (s.bumpAt Obj.PROBE_RESULTS_LOST 0 x.expected.length)

/-- A catch is issued: sets whose acceptance ends are judged (R159). -/
def closeProbes (s : State) : State :=
  let aged := s.diag.probes.map fun x => { x with left := x.left - 1 }
  let due := aged.filter fun x => !x.closed && x.left == 0
  let kept := aged.map fun x => if x.left = 0 then { x with closed := true } else x
  due.foldl (fun t x => if x.complete then acceptSet x t else loseSet x t)
    { s with diag := { s.diag with probes := kept } }

/-- A PROBE packet of a band whose CRC was good (R145, R159). -/
def takeProbe (b n : Nat) (p : ProbePacket) (s0 : State) : State :=
  let s := s0.crossed 6
  let mine := fun (x : ProbeSet) => x.band == b && x.node == n && x.frame % 256 == p.frameTag && x.cycle == p.cycle
  match s.diag.probes.find? mine with
  | none => s.bump Obj.PROBE_STRAY
  | some x =>
    let probes := s.diag.probes.map fun y => if mine y then { y with packets := y.packets ++ [p] } else y
    if x.closed then s else { s with diag := { s.diag with probes := probes } }

/-- Crossing H06 timed out: the results of that node and cycle are lost (02 R42, R159). -/
def loseProbe (b n frame cycle : Nat) (s : State) : State :=
  match s.diag.probes.find? fun x => x.band == b && x.node == n && x.frame == frame && x.cycle == cycle && !x.closed with
  | none => s
  | some x =>
    let probes := s.diag.probes.map fun y => if y = x then { y with closed := true } else y
    loseSet x { s with diag := { s.diag with probes := probes } }

/-- Frame catch F_m: the verdicts of frames up to m − 2 act together, and their Vf codes become samples (R160). -/
def applyVerdicts (m : Nat) (s : State) : State :=
  let due := s.diag.results.filter fun r => r.frame + 2 ≤ m
  let s1 := { s with diag := { s.diag with
    results := s.diag.results.filter fun r => !decide (r.frame + 2 ≤ m)
    probes := s.diag.probes.filter fun x => !(x.closed && decide (x.frame + 2 ≤ m))
    vfWaiting := s.diag.vfWaiting ++ due.flatMap (·.vfs) } }
  due.foldl (fun t r => r.fails.foldl (fun t f => applyFail f.1 f.2 t) (r.ok.foldl (fun t e => applyOk e t) t)) s1

/-! ### Rounds and Vf sets (R155, R157, R158, R174) -/

/-- Rf of the objects held (R155). -/
def State.roundFramesOf (s : State) (cycles : Nat) : Nat := max 1 (ceilDiv (s.limited Obj.PROBE_ROUND 16 16384) (max 1 cycles))

/-- Rf in force. -/
def State.roundFrames (s : State) : Nat := max 1 (s.reg Obj.ROUND_FRAMES)

/-- dwell (R158). -/
def State.dwellRounds (s : State) : Nat :=
  max 1 (min (s.atLeast1 Obj.VF_DWELL) (600 * s.scan.timing.num / (s.scan.timing.den * 48 * s.roundFrames)))

/-- A Vf trend entry (Table 7). -/
structure VfEntry where
  ref : Nat
  filt : Nat
  last : Nat
  samples : Nat
  weakRun : Nat
  refSet : Bool
  ageBase : Nat
  second : Nat
  rest7 : Nat
  rest10 : Nat
  flagsHigh : Nat
  deriving DecidableEq, Repr

/-- Decode an entry. -/
def vfFields (bs : Bytes) : VfEntry :=
  let at' := fun o n => leNat ((bs.drop o).take n)
  { ref := at' 0 2, filt := at' 2 2, last := at' 4 1, samples := at' 5 1, weakRun := field (at' 6 1) 0 3
    refSet := bitAt (at' 6 1) 3, ageBase := at' 8 2, second := at' 12 4, rest7 := at' 7 1, rest10 := at' 10 2
    flagsHigh := field (at' 6 1) 4 4 }

/-- Encode an entry; reserved bytes are kept. -/
def VfEntry.bytes (v : VfEntry) : Bytes :=
  natLE 2 v.ref ++ natLE 2 v.filt ++ natLE 1 v.last ++ natLE 1 v.samples ++
  natLE 1 (v.weakRun + 8 * b2n v.refSet + 16 * v.flagsHigh) ++ natLE 1 v.rest7 ++ natLE 2 v.ageBase ++
  natLE 2 v.rest10 ++ natLE 4 v.second

/-- The entry of an emitter, none when it cannot be read. -/
def State.vfEntry (s : State) (e : Nat) : Option VfEntry := (s.deviceRead (s.vfAddr e) 16).map vfFields

/-- Write the entry of an emitter. -/
def putVf (e : Nat) (v : VfEntry) (s : State) : State := s.pixelWrite (s.vfAddr e) v.bytes

/-- VF_FILT of the driven emitters of rail `n` with REF_SET (R174). -/
def State.railVfs (s : State) (n : Nat) : List Nat :=
  (List.range s.emitters).filterMap fun e =>
    match s.placeOf e with
    | (x, y, c) =>
      if 3 * (y / s.scan.rows / 2) + c = n && s.driven x y then
        match s.vfEntry e with
        | some v => if v.refSet then some v.filt else none
        | none => none
      else none

/-- A Vf value in mV (R174). -/
def vfMillivolts (v : Nat) : Nat := (256000 + 15 * v + 128) / 256

/-- Publish VF_RAIL_STATS (R174), then re-plan the safe voltages (07 R204). -/
def publishStats (s : State) : State :=
  let bytes := (List.range 48).flatMap fun n =>
    let l := s.railVfs n
    if l.isEmpty then natLE 4 0
    else natLE 2 (vfMillivolts (l.foldl max 0)) ++ natLE 2 (vfMillivolts (meanOf l.sum l.length))
  replanVSafe ((pixelRead (s.vfAddr 0) (16 * s.emitters) s).setTab Obj.VF_RAIL_STATS 0 bytes)

/-- A round ends: the counter of its Vf set advances; a sweep ends when vn wraps (R158, R174). -/
def endRound (s : State) : State :=
  let d := s.diag
  let s1 := s.bump Obj.ROUNDS_COMPLETED
  if d.blackNow then { s1 with diag := { s1.diag with vb := (d.vb + 1) % 48 } }
  else if d.dwell + 1 < s.dwellRounds then { s1 with diag := { s1.diag with dwell := d.dwell + 1 } }
  else
    let s2 := { s1 with diag := { s1.diag with dwell := 0, vn := (d.vn + 1) % 48 } }
    if (d.vn + 1) % 48 = 0 then publishStats (s2.bump Obj.VF_SWEEPS) else s2

/-- Frame `k` starts a black window: round 0, or BLACK_SAFE_PERIOD after the last (R157). -/
def State.blackDue (s : State) (k : Nat) : Bool :=
  let frames := ceilDiv (s.limited Obj.BLACK_SAFE_PERIOD 1 12 * s.scan.timing.num) s.scan.timing.den
  k == 0 || decide (frames ≤ k - s.diag.kBlack)

/-- The pipeline start of frame `k` (R155 to R158): at a round's first frame the round before it ends, and the new
round's kind and Vf set are chosen and broadcast. -/
def startRound (k : Nat) (s : State) : State :=
  if k % s.roundFrames ≠ 0 then s
  else
    let s1 := if k = 0 then s else endRound s
    let black := s1.blackDue k
    let set := if black then s1.diag.vb else s1.diag.vn
    let s2 := if black then s1.bump Obj.BLACK_WINDOWS else s1
    let first := if black then k else s2.diag.kBlack
    let s3 := { s2 with diag := { s2.diag with blackNow := black, kBlack := first, vfSet := set } }
    eachBand (fun b t => sendReg b 0xFF 0x42 set t) s3

/-- Diagnosis at scan-drive start: rounds and sets from 0, the map rebuilt (R155, R158, R164). -/
def restartDiagnosis (s : State) : State :=
  let s1 := (s.setReg Obj.ROUNDS_COMPLETED 0).setReg Obj.BLACK_WINDOWS 0
  rebuildMap { s1 with diag := { s1.diag with probes := [], results := [], kBlack := 0, blackNow := false, vn := 0, vb := 0,
                                              dwell := 0, vfSet := 0, vfWaiting := [], writebacks := [] } }

/-! ### Vf samples and the ageing gain (R172, R173, R175) -/

/-- The calibration record of the emitter's pixel as read for a sample, none when it did not arrive sound. -/
def State.recordFor (s : State) (arrives : Bool) (e : Nat) : Option Bytes :=
  if !arrives then none
  else match s.deviceRead (s.calAddr (e / 3)) 32 with
    | none => none
    | some bs => if calCrcOk bs then some bs else none

/-- The filter and the reference of R172. -/
def VfEntry.sampled (v : VfEntry) (code alpha refSamples second : Nat) (age : Option Nat) : VfEntry :=
  let d : Int := 256 * (code : Int) - v.filt
  let filt := if v.samples = 0 then 256 * code else ((v.filt : Int) + (d * alpha + 128) / 256).toNat
  let n := min (v.samples + 1) 255
  let w := { v with filt := filt, last := code, samples := n, second := second % 2 ^ 32 }
  match age with
  | some a => if !v.refSet && refSamples ≤ n then { w with ref := filt, ageBase := a, refSet := true } else w
  | none => w

/-- The refined gain of R175. -/
def refinedGain (delta : Int) (k : Int) (limit ageBase : Nat) : Nat :=
  let dq := clampI (-(limit : Int)) limit ((delta * k + 64) / 128)
  (clampI 0 0xFFFF ((ageBase : Int) + ((ageBase : Int) * dq + 16384) / 32768)).toNat

/-- The objects that a sample acts under: those of the frame computed from its frame catch (R160, R176). -/
def State.sampleRegs (s : State) : State := (s.pipe.frame.map s.ofFrame).getD s

/-- What the reads of a sample count: its Vf entry, and the record when it arrives (11 R269, R272). -/
def noteSample (e : Nat) (arrives : Bool) (s : State) : State :=
  let s1 := pixelRead (s.vfAddr e) 16 s
  if arrives then pixelRead (s.calAddr (e / 3)) 32 s1 else s1

/-- One sample of an emitter (R172, R173, R175). -/
def sampleVf (e code : Nat) (arrives : Bool) (s0 : State) : State :=
  let s := noteSample e arrives s0
  match s.vfEntry e with
  | none => s
  | some v0 =>
    let c := e % 3
    let p := s.sampleRegs
    let record := s.recordFor arrives e
    let age := record.map fun bs => natAt (calFields bs).age c
    let alpha := p.atLeast1 Obj.VF_ALPHA
    let v1 := v0.sampled code alpha (p.atLeast1 Obj.VF_REF_SAMPLES) (timeNs s.stampA / 1000000000) age
    if !v1.refSet then putVf e v1 s
    else
      let delta := (v1.filt : Int) - v1.ref
      let exceeds := decide (256 * (p.reg (Obj.WEAK_LIMIT_RED + c)) < 15 * delta.natAbs)
      let v2 := { v1 with weakRun := if exceeds then min (v1.weakRun + 1) 7 else 0 }
      let s1 := putVf e v2 s
      let weak := exceeds && s.confirmCount ≤ v2.weakRun && !s.confirmed e && !tableFull ((s.mapState e).getD 0)
      let s2 := if weak then confirm e .weak s1 else s1
      if !p.flag Obj.AGE_REFINE_ENABLE || s.safety.evacActive then s2
      else match age with
        | none => s2
        | some a =>
          let g := refinedGain delta (p.sreg (Obj.VF_AGE_K_RED + c) 16) (p.reg Obj.AGE_REFINE_MAX) v2.ageBase
          if p.atLeast1 Obj.AGE_WRITE_STEP ≤ ((g : Int) - a).natAbs then
            { s2 with diag := { s2.diag with writebacks := s2.diag.writebacks ++ [(e, g)] } }
          else s2

/-- A defect confirmed by a sample of the last frame catch takes part in the frame computed from that catch (R160). -/
def joinFrame (e : Nat) (s : State) : State :=
  match s.pipe.frame with
  | none => s
  | some f =>
    { s with pipe := { s.pipe with frame := some { f with subst := Sparse.set (fun _ => 0) f.subst e (s.entry e) } } }

/-- VF_SAMPLE: a code that waits since its frame catch (R160). -/
def takeVf (e code : Nat) (arrives : Bool) (s : State) : State :=
  if s.diag.vfWaiting.contains (e, code) then
    let t := sampleVf e code arrives { s with diag := { s.diag with vfWaiting := s.diag.vfWaiting.erase (e, code) } }
    if s.confirmed e == t.confirmed e then t else joinFrame e t
  else s

/-- A record with one CAL_AGE replaced and its CRC recomputed (03 R70). -/
def withAge (bs : Bytes) (c g : Nat) : Bytes :=
  let body := bs.take (18 + 2 * c) ++ natLE 2 g ++ (bs.take 28).drop (20 + 2 * c)
  body ++ natLE 4 (crc32 body)

/-- CAL_WRITEBACK: a requested write-back from a record that arrived sound; none while held (R59, R70, R175). -/
def writeBack (e : Nat) (arrives : Bool) (s : State) : State :=
  match s.diag.writebacks.find? (·.1 == e) with
  | none => s
  | some w =>
    let s1 := { s with diag := { s.diag with writebacks := s.diag.writebacks.erase w } }
    if s.safety.evacActive then s1
    else
      let s2 := if arrives then pixelRead (s.calAddr (e / 3)) 32 s1 else s1
      match s.recordFor arrives e with
      | none => s2
      | some bs =>
        (s2.pixelWrite (s.calAddr (e / 3)) (withAge bs (e % 3) w.2)).bump Obj.CAL_WRITEBACKS

/-! ### Host commands (R167, R172) -/

/-- The WEAK_RUN of an emitter becomes 0. -/
def clearWeakRun (e : Nat) (s : State) : State :=
  let s1 := pixelRead (s.vfAddr e) 16 s
  match s.vfEntry e with
  | none => s1
  | some v => if v.weakRun = 0 then s1 else putVf e { v with weakRun := 0 } s1

/-- Back to UNTESTED: entry, suspect entry and map state. -/
def clearDefect (e : Nat) (s : State) : State := setMapState e 0 (dropSuspect e (dropEntry e s))

/-- DEFECT_ADD (R167). DESIGN CHOICE: an EMITTER beyond 3 × W × H is entered like any other, its map nibble beyond the map
included (01 R32, assumption log 147). -/
def actDefectAdd : Action := fun q s =>
  let v := hostEntry q.arg
  let e := field v 0 22
  if 8192 ≤ s.diag.subst.length && !s.confirmed e then .abort s abortBusy
  else .done (setMapState e (4 + field v 22 2) (putEntry e v (dropSuspect e s)))

/-- DEFECT_CLEAR (R167). -/
def actDefectClear : Action := fun q s =>
  let e := q.arg % 2 ^ 32
  if s.emitters ≤ e then .done s else .done (clearWeakRun e (clearDefect e s))

/-- DEFECT_CLEAR_ALL (R167). -/
def actDefectClearAll : Action := fun _ s =>
  .done (foldN s.emitters (fun t e =>
    clearWeakRun e (if t.confirmed e || (t.suspect e).isSome || tableFull ((t.mapState e).getD 0) then clearDefect e t
      else t)) { s with diag := { s.diag with subst := s.diag.subst.filter (·.1 < s.emitters)
                                              suspects := s.diag.suspects.filter (·.emitter < s.emitters) } })

/-- DEFECT_TABLE written: the whole table is replaced, sorted, the last of equal emitters kept, HOST set (R167). -/
def actDefectTable : Action := fun q s =>
  let n := min (q.data.length / 8) 8192
  let table := foldN n (fun m i =>
    let v := hostEntry (leNat ((q.data.drop (8 * i)).take 8))
    Sparse.set (fun _ => 0) m (field v 0 22) (v + 2 ^ 64)) []
  .done { s with diag := { s.diag with subst := table } }

/-- DEFECT_TABLE as read: the entries in ascending order of EMITTER (R165). -/
def State.defectTable (s : State) : Bytes := s.diag.subst.flatMap fun e => natLE 8 e.2

/-- REF_SET and SAMPLES of an emitter become 0. -/
def resetVf (e : Nat) (s : State) : State :=
  let s1 := pixelRead (s.vfAddr e) 16 s
  match s.vfEntry e with
  | none => s1
  | some v => putVf e { v with refSet := false, samples := 0 } s1

/-- VF_REF_RESET (R172). -/
def actVfRefReset : Action := fun q s =>
  let e := q.arg % 2 ^ 32
  if e = 0xFFFFFFFF then .done (foldN s.emitters (fun t e => resetVf e t) s)
  else if s.emitters ≤ e then .done s
  else .done (resetVf e s)

/-! ### The meanings -/

/-- VF_SAMPLE (R172). -/
def execVfSample (emitter code : Nat) (arrives : Bool) : State → Host.Outcome State Fault Refusal :=
  onIsland 1 (takeVf emitter code arrives)

/-- CAL_WRITEBACK (03 R70). -/
def execCalWriteback (emitter : Nat) (arrives : Bool) : State → Host.Outcome State Fault Refusal :=
  onIsland 1 (writeBack emitter arrives)

/-- DEFECT_ADD (R167). DESIGN CHOICE: an EMITTER beyond 3 × W × H is entered like any other, its map nibble beyond the map
included (01 R32, assumption log 147). -/
def execDefectAdd (rq : Req) (data : Bytes) : State → Host.Outcome State Fault Refusal :=
  hostWrite actDefectAdd rq Obj.DEFECT_ADD data

/-- DEFECT_CLEAR (R167). -/
def execDefectClear (rq : Req) (data : Bytes) : State → Host.Outcome State Fault Refusal :=
  hostWrite actDefectClear rq Obj.DEFECT_CLEAR data

/-- DEFECT_CLEAR_ALL (R167). -/
def execDefectClearAll (rq : Req) (data : Bytes) : State → Host.Outcome State Fault Refusal :=
  hostWrite actDefectClearAll rq Obj.DEFECT_CLEAR_ALL data

/-- DEFECT_TABLE_WRITE (R167). -/
def execDefectTableWrite (rq : Req) (data : Bytes) : State → Host.Outcome State Fault Refusal :=
  hostWrite actDefectTable rq Obj.DEFECT_TABLE data

/-- VF_REF_RESET (R172). -/
def execVfRefReset (rq : Req) (data : Bytes) : State → Host.Outcome State Fault Refusal :=
  hostWrite actVfRefReset rq Obj.VF_REF_RESET data

end Sys2Proof.Machine
end

