-- ==== Sys2Proof/Machine/Beacon.lean ====
section
/-! DEFINITION. The beacon store (chapter 12, R302 to R309, R417; 04 R108, R110; 03 R86): its layout, the fill pass, the
band references, the words of a region, the settings block and the patrol. -/

namespace Sys2Proof.Machine

/-! ### Reading the store (R305 Table 3) -/

/-- `n` bytes of the store as a number. -/
def State.beaconNat (s : State) (a n : Nat) : Nat := leNat (s.beaconBytes a n)

/-- What the header holds. -/
structure BeaconHead where
  version : Nat
  valid : Bool
  rows : Nat
  x0 : Nat
  y0 : Nat
  w : Nat
  h : Nat
  count : Nat
  settings : Nat
  deriving DecidableEq, Repr

/-- The header of the store. -/
def State.beaconHead (s : State) : BeaconHead :=
  let at' := s.beaconNat
  { version := at' 0 2, valid := at' 2 1 != 0, rows := at' 3 1, x0 := at' 4 2, y0 := at' 6 2, w := at' 8 2, h := at' 10 2
    count := at' 12 4, settings := at' 28 4 }

/-- Band record: reference, region nodes (bit n − 1 for node n), found nodes. -/
def State.bandRef (s : State) (b : Nat) : Nat := s.beaconNat (0x100 + 16 * b) 4
def State.regionNodes (s : State) (b : Nat) : Nat := s.beaconNat (0x104 + 16 * b) 4
def State.foundNodes (s : State) (b : Nat) : Nat := s.beaconNat (0x108 + 16 * b) 4

/-- Region word `i`, packed four words to nine bytes (R305, 05 R132). -/
def State.storedWord (s : State) (i : Nat) : Nat := field (s.beaconNat (0x28000 + 9 * (i / 4)) 9) (18 * (i % 4)) 18

/-- The settings block as records: object and value (R308). -/
def settingsOf : Nat → Bytes → List (Nat × Bytes)
  | 0, _ => []
  | fuel + 1, bs =>
    if bs.length < 8 then []
    else
      let n := leNat ((bs.drop 4).take 4)
      let obj := leNat (bs.take 2) * 256 + leNat ((bs.drop 2).take 1)
      (obj, (bs.drop 8).take n) :: settingsOf fuel (bs.drop (8 + ceilDiv n 4 * 4))

/-- The settings block of the store. -/
def State.settings (s : State) : List (Nat × Bytes) :=
  settingsOf 4096 (s.beaconBytes 0x1300 (min s.beaconHead.settings 0x26D00))

/-- A value of the block. -/
def setting (l : List (Nat × Bytes)) (obj : Nat) : Option Bytes := (l.find? (·.1 == obj)).map (·.2)

/-- Columns of the region as stored, keyed node × 64 + group, value i + 1 of the highest region column. -/
def State.storedColumns (s : State) (w : Nat) : Sparse Nat :=
  foldN w (fun m i =>
    match decodeMapEntry (s.beaconNat (0x300 + 2 * i) 2) with
    | some (n, g) => Sparse.set (fun _ => 0) m (n * 64 + g) (i + 1)
    | none => m) []

/-- The stored word of a channel of a node in a row of a band: a region word, every other word 0 (R302, R304). -/
def State.replayWord (s : State) (hd : BeaconHead) (columns : Sparse Nat) (order b n r ch : Nat) : Nat :=
  match Sparse.get (fun _ => 0) columns (n * 64 + ch / 3) with
  | 0 => 0
  | i + 1 =>
    let y := b * hd.rows + r
    if hd.y0 ≤ y && y < hd.y0 + hd.h then s.storedWord (((y - hd.y0) * hd.w + i) * 3 + colourAt order (ch % 3)) else 0

/-- COLOUR_ORDER of the block. -/
def State.storedOrder (s : State) : Nat := leNat ((setting s.settings Obj.COLOUR_ORDER).getD [])

/-- The bytes of a band's tap: `found` nodes, rows, channels, three bytes a word (R302). -/
def tapBytes (found rows : Nat) (word : Nat → Nat → Nat → Nat) : Bytes :=
  (List.range found).flatMap fun n => (List.range rows).flatMap fun r => (List.range 192).flatMap fun ch =>
    natLE 3 (word (n + 1) r ch)

/-- Number of nodes in a mask of found nodes. -/
def maskCount (m : Nat) : Nat := ((List.range 32).filter (bitAt m)).length

/-- A band's reference from the stored words (R302, R306). -/
def State.referenceOf (s : State) (b : Nat) : Nat :=
  let hd := s.beaconHead
  let columns := s.storedColumns hd.w
  let order := s.storedOrder
  crc32 (tapBytes (maskCount (s.foundNodes b)) hd.rows fun n r ch => s.replayWord hd columns order b n r ch)

/-! ### The region (04 R108) -/

/-- X0, Y0, width and height of the protected region. -/
def State.regionRect (s : State) : Nat × Nat × Nat × Nat :=
  let v := s.viewOf 7
  let x0 := (max v.posX 0).toNat
  let y0 := (max v.posY 0).toNat
  let x1 := (min (v.posX + v.scale * v.cropW) s.width).toNat
  let y1 := (min (v.posY + v.scale * v.cropH) s.height).toNat
  (x0, y0, x1 - x0, y1 - y0)

/-- Pixels of the region. -/
def State.regionCount (s : State) : Nat :=
  match s.regionRect with
  | (_, _, w, h) => w * h

/-- The region is counted at the pipeline start that begins the pass (R108 step 2): cause 1 empty, 2 too large. -/
def State.regionCause (s : State) : Nat :=
  if s.regionCount = 0 then 1 else if 131072 < s.regionCount then 2 else 0

/-! ### The fill pass -/

/-- The frame that a fill pass computes: L7 alone, with the objects and tables in force (03 R86). -/
def State.fillFrame (s : State) : FrameWork :=
  { k := 0, evac := true, startTime := 0, showTime := 0, regs := s.regs, tabs := s.tabs, accumulate := false
    profiles := (List.range 4).map fun p => (s.profile p).force, views := [s.viewOf 7] }

/-- What a region pixel gives in a fill pass: its words, its clips, the layer reads that were missing, and its record
with what its read found. -/
structure FillPixel where
  words : List Nat
  clips : Clips
  missing : Nat
  px : Nat
  cal : CalOutcome
  deriving DecidableEq, Repr

/-- A read of the pixel failed to arrive: the pass is spoiled (03 R60, 04 R108). -/
def FillPixel.spoils (o : FillPixel) : Bool := o.missing != 0 || o.cal == .missing

/-- A region pixel through the frozen path (03 R86, 04 R108). -/
def State.fillPixel (s : State) (f : FrameWork) (x y : Nat) : FillPixel :=
  let o := s.pixel f s [] f.views true x y {}
  let out := (List.range 3).map fun c => s.stage89 o.record c x y 0 (natAt o.d6 c)
  { words := out.map fun g => driveWord g.1 false g.2.1, clips := o.clips.add { code := (out.map fun g => g.2.2).sum }
    missing := o.missing, px := s.pixelIx x y, cal := o.cal }

/-- What the reads of ring 0 for a fill pass count, row by row of the region (11 R269, R272). -/
def noteFill (s : State) : State :=
  match s.regionRect with
  | (x0, y0, w, h) =>
    foldN h (fun t j =>
      let t1 := if t.flag Obj.CAL_ENABLE then pixelRead (t.calAddr (t.pixelIx x0 (y0 + j))) (32 * w) t else t
      pixelRead (t1.layerRun (t1.viewOf 7) (y0 + j)).1 (t1.layerRun (t1.viewOf 7) (y0 + j)).2 t1) s

/-- What the reads of a fill pass found is counted, as in a frame: missing layer pixels, failed records (03 R60, R68). -/
def countFill (pixels : List FillPixel) (s : State) : State :=
  pixels.foldl (fun t o => times o.missing (·.occur 27) ((t.countCal o.px o.cal).bumpAt Obj.MISSING_READS 0 o.missing)) s

/-- Pack 18-bit words four to nine bytes (05 R132). -/
def packWords : List Nat → Bytes
  | a :: b :: c :: d :: rest => natLE 9 (a + b * 2 ^ 18 + c * 2 ^ 36 + d * 2 ^ 54) ++ packWords rest
  | [a, b, c] => natLE 9 (a + b * 2 ^ 18 + c * 2 ^ 36)
  | [a, b] => natLE 9 (a + b * 2 ^ 18)
  | [a] => natLE 9 a
  | [] => []

/-- A record of the settings block (R308). -/
def settingRecord (obj : Nat) (v : Bytes) : Bytes :=
  natLE 2 (obj / 256) ++ natLE 1 obj ++ natLE 1 0 ++ natLE 4 v.length ++ v ++ List.replicate ((4 - v.length % 4) % 4) 0#8

/-- The scan timing in force in place of the timing objects, which hold a rejected or a later timing too (05 R122); every
other object as it is held. -/
def State.forceReg (s : State) (obj : Nat) : Nat :=
  let t := s.scan.timing
  if obj = Obj.FRAME_RATE_NUM then t.num
  else if obj = Obj.FRAME_RATE_DEN then t.den
  else if obj = Obj.SCAN_CYCLES then t.cycles
  else if obj = Obj.FEATHER_TIME then t.feather
  else if obj = Obj.STAGGER_STEP then t.stagger
  else if obj = Obj.TIMING_MARGIN then t.margin
  else s.reg obj

/-- The value in force of an object as bytes (R308). -/
def State.imageOf (s : State) (obj : Nat) : Bytes :=
  match rowOf obj with
  | none => []
  | some r => match r.ty with
    | .domain n => s.tabBytes obj 0 n
    | .bool => natLE 1 (s.reg obj)
    | .fixed n => natLE n (s.forceReg obj)
    | .cmd => []

/-- Rails of the groups that feed a range of bands. -/
def railsOfBands (b0 b1 : Nat) : List Nat := (List.range 48).filter fun n => decide (b0 / 2 ≤ n / 3) && decide (n / 3 ≤ b1 / 2)

/-- The RW and RWS objects of a rail (07 Table 9). -/
def railSettings (n : Nat) : List Nat :=
  match groupOf (0x4100 + n) with
  | none => []
  | some g => (g.rows.filter fun r => r.access == .rw || r.access == .rws).map fun r => (0x4100 + n) * 256 + r.sub

/-- Objects of the settings block, in its order (R308). -/
def settingObjects (rails : List Nat) : List Nat :=
  [Obj.TILE_WIDTH, Obj.TILE_HEIGHT, Obj.ROWS_PER_BAND, Obj.ROW_REVERSE, Obj.COLOUR_ORDER, Obj.X_MAP, Obj.FRAME_RATE_NUM,
   Obj.FRAME_RATE_DEN, Obj.SCAN_CYCLES, Obj.FEATHER_TIME, Obj.STAGGER_STEP, Obj.TIMING_MARGIN, Obj.CHANNEL_CURRENT,
   Obj.FEATHER_VOLTAGE] ++ rails.flatMap railSettings ++ [0x401001, 0x401002, 0x402001, 0x420001]

/-- Bands that hold region rows. -/
def regionBands (rows y0 h : Nat) : List Nat := (List.range 32).filter fun b => decide (b * rows < y0 + h) && decide (y0 < (b + 1) * rows)

/-- Bytes at an address as the entries of a store. -/
def cellsAt (a : Nat) (bs : Bytes) : Sparse Byte := (bs.zipIdx.filter fun p => p.1 != 0#8).map fun p => (a + p.2, p.1)

/-- The store without band references and header CRC, from region words. -/
def State.draftStore (s : State) (words : List Nat) : Sparse Byte :=
  match s.regionRect with
  | (x0, y0, w, h) =>
    let bands := regionBands s.scan.rows y0 h
    let rails := railsOfBands (bands.headD 0) (bands.getLastD 0)
    let block := (settingObjects rails).flatMap fun o => settingRecord o (s.imageOf o)
    let entries := (List.range w).map fun i => s.mapEntry (x0 + i)
    let nodes := entries.foldl (fun m e => match decodeMapEntry e with
      | some (n, _) => putBit m (n - 1) true
      | none => m) 0
    let head := natLE 2 1 ++ natLE 1 1 ++ natLE 1 s.scan.rows ++ natLE 2 x0 ++ natLE 2 y0 ++ natLE 2 w ++ natLE 2 h ++
      natLE 4 words.length ++ natLE 10 s.stampA ++ natLE 2 (s.reg Obj.EVAC_GAIN) ++ natLE 4 block.length
    let records := (List.range 32).flatMap fun b =>
      natLE 4 0 ++ natLE 4 (if bands.contains b then nodes else 0) ++
      natLE 4 (2 ^ s.regAt Obj.BAND_NODES_FOUND b - 1) ++ natLE 4 0
    cellsAt 0 head ++ cellsAt 0x100 records ++ cellsAt 0x300 (entries.flatMap (natLE 2)) ++ cellsAt 0x1300 block ++
      cellsAt 0x28000 (packWords words)

/-- Form the band references and the header CRC of the store held (R302, R305). -/
def sealStore (s : State) : State :=
  let refs := (List.range 32).map s.referenceOf
  let s1 := foldN 32 (fun t b => t.setBeacon (0x100 + 16 * b) (natLE 4 (natAt refs b))) s
  s1.setBeacon 252 (natLE 4 (crc32 (s1.beaconBytes 0 252)))

/-- The whole content that a pass over the present state forms, and its pixels. -/
def State.fillContent (s : State) : Sparse Byte × List FillPixel :=
  match s.regionRect with
  | (x0, y0, w, h) =>
    let f := s.fillFrame
    let px := (List.range (w * h)).map fun i => s.fillPixel f (x0 + i % w) (y0 + i / w)
    let store := s.draftStore (px.flatMap (·.words))
    ((sealStore { s with beacon := store }).beacon, px)

/-! ### EVAC_PEAK_RATIO (R417) -/

/-- Current of a band and colour in force at the fill, as the settings block records CHANNEL_CURRENT, limited (R308, R417,
05 Table 12). -/
def storedCurrent (block : Bytes) (b c : Nat) : Nat := clampN 500 20000 (leNat ((block.drop (2 * (3 * b + c))).take 2))

/-- Light of the stored words of a zone by colour, at the band currents of the fill, over driven emitters (R313, R417). -/
def State.storedLight (s : State) : Sparse Nat :=
  let hd := s.beaconHead
  let currents := (setting s.settings Obj.CHANNEL_CURRENT).getD []
  foldN (hd.w * hd.h) (fun m i =>
    let x := hd.x0 + i % hd.w
    let y := hd.y0 + i / hd.w
    if s.driven x y then
      foldN 3 (fun m c => addZone m (s.zone x y) c (driveOf (s.storedWord (3 * i + c)) * storedCurrent currents (y / hd.rows) c)) m
    else m) []

/-- F_min (R417). -/
def State.lowestGlare (s : State) : Nat := min (lowestFactor (s.factorPoints Obj.AMBIENT_TABLE)) (lowestFactor s.todUsed)

/-- EVAC_PEAK_RATIO is formed anew. -/
def formPeakRatio (s : State) : State :=
  let light := s.storedLight
  let zs := (light.map fun e => e.1 / 4).dedup
  let ratio := fun z =>
    peakRatio (s.estimate light z) (min (s.tabNat Obj.GLARE_MAP (2 * z) 2 * s.lowestGlare / 2 ^ 15) 0xFFFF)
  s.setReg Obj.EVAC_PEAK_RATIO ((zs.map ratio).foldl max 0)

/-! ### Arming and refills (04 R108, R110) -/

/-- The content has changed: a saved image is stale (R309). -/
def noteStale (s : State) : State := if s.reg Obj.EVAC_IMAGE_STATE = 1 then s.setReg Obj.EVAC_IMAGE_STATE 2 else s

/-- A pipeline start begins the pass that is wanted, unless the display is active or demanded (R108 step 2, R110); the
region of an arming is counted. -/
def startFill (s : State) : State :=
  if !s.layers.fillWanted || s.safety.evacActive || s.safety.evacFrom.isSome then s
  else
    let begun := { s with layers := { s.layers with filling := true, fillWanted := false } }
    if s.reg Obj.L7_ARM_STATE = 1 then
      let cause := s.regionCause
      (if cause = 0 then begun else refuseArming cause s).setReg Obj.L7_REGION_PIXELS s.regionCount
    else if s.reg Obj.L7_ARM_STATE = 3 then begun
    else s

/-- A pass completes (R108, R110, 03 R86). A spoiled one is repeated at the next pipeline start; the third spoiled pass
of an arming ends it. A display that has begun has abandoned the pass (R110). DESIGN CHOICE: a spoiled pass that ran to
its end counts its failed reads, but neither its clips nor itself in BEACON_FILLS (assumption log 139). -/
def fillComplete (spoiled : Bool) (s : State) : State :=
  if !s.layers.filling || s.safety.evacActive then s
  else
    let content := s.fillContent
    let s1 := countFill content.2 (noteFill { s with layers := { s.layers with filling := false } })
    let st := s.reg Obj.L7_ARM_STATE
    if spoiled || content.2.any (·.spoils) then
      if st = 1 && 3 ≤ s.layers.spoiled + 1 then refuseArming 3 s1
      else { s1 with layers := { s1.layers with fillWanted := true, spoiled := if st = 1 then s.layers.spoiled + 1 else 0 } }
    else
      let s2 := (s1.countClips (content.2.foldl (fun c o => c.add o.clips) {})).bump Obj.BEACON_FILLS
      if st = 1 then
        let s3 := noteStale (formPeakRatio { s2 with beacon := content.1 })
        ((s3.setFlag Obj.BEACON_VALID true).setReg Obj.L7_ARM_STATE 2).setReg Obj.L7_ARM_TIME s.stampA |>.event 0x0002
          (natLE 4 (s.reg (Obj.LAYER_HANDLE 7)))
      else
        let ratio := (formPeakRatio { s2 with beacon := content.1 }).reg Obj.EVAC_PEAK_RATIO
        let s3 := s2.setReg Obj.EVAC_PEAK_RATIO ratio
        { s3 with layers := { s3.layers with refillReady := true, refillStore := content.1 } }

/-- The frame boundary at which a completed refill comes into force (R110); `b` is its grid time in ns. -/
def bringRefill (b : Int) (s : State) : State :=
  if !s.layers.refillReady || s.reg Obj.L7_ARM_STATE ≠ 3 then s
  else
    let s1 := noteStale { s with beacon := s.layers.refillStore
                                 layers := { s.layers with refillReady := false, refillStore := [] } }
    (((s1.setFlag Obj.BEACON_VALID true).setReg Obj.L7_ARM_STATE 2).setReg Obj.L7_ARM_TIME
      (packTime (b.toNat * 4294967296))).bump Obj.L7_REFILLS

/-- An evacuation demand abandons a pass that runs; it is restarted after the display (R110). -/
def abandonFill (s : State) : State :=
  if s.layers.filling || s.layers.refillReady then
    { s with layers := { s.layers with filling := false, refillReady := false, fillWanted := true } }
  else s

/-! ### Validity and patrol (R306) -/

/-- The store holds no valid content: its VALID byte and BEACON_VALID read 0 (R305, R306). -/
def clearStore (s : State) : State := (s.setBeacon 2 [0#8]).setFlag Obj.BEACON_VALID false

/-- The content becomes invalid; while L7 is ARMED this starts a refill. -/
def invalidate (s : State) : State := noteFillInput (clearStore s)

/-- The next boundary after L7_DISARM: UNARMED, and the beacon store holds no valid content (04 R111). -/
def finishDisarm (s : State) : State :=
  if s.layers.disarming then
    { (clearStore s).setReg Obj.L7_ARM_STATE 0 with layers := { s.layers with disarming := false } }
  else s

/-- The store passes the check of a patrol: VALID, header CRC, band references. -/
def State.storeSound (s : State) : Bool :=
  let hd := s.beaconHead
  hd.version == 1 && hd.valid && crc32 (s.beaconBytes 0 252) == s.beaconNat 252 4 &&
    (List.range 32).all fun b => s.referenceOf b == s.bandRef b

/-- Uncorrectable errors of the store are counted, each with its own fault occurrence (R306, FS16). -/
def noteBeaconErrors (offsets : List Nat) (s : State) : State :=
  offsets.foldl (fun t o => (t.bump Obj.BEACON_UNCORRECTED).sramUncorrectable 6 o) s

/-- The store holds content that is valid, or that the patrol in progress has not judged yet (R306). -/
def State.holdsContent (s : State) : Bool := s.flag Obj.BEACON_VALID || s.beaconHead.valid

/-- A patrol starts: every 10 s, at the release of RESET_N, at a wake from S2 (R306). -/
def startPatrol (s : State) : State := { s with safety := { s.safety with patrolling := true } }

/-- A patrol completes (R306). -/
def patrolComplete (errors : List Nat) (s : State) : State :=
  if !s.safety.patrolling then s
  else
    let s1 := noteBeaconErrors errors ({ s with safety := { s.safety with patrolling := false } }.bump Obj.BEACON_PATROLS)
    if errors.isEmpty && s.storeSound then s1.setFlag Obj.BEACON_VALID true
    else if s.holdsContent then invalidate s1
    else s1

/-- The tile model in force equals the one of the settings block (R306). -/
def State.tileModelSame (s : State) : Bool :=
  [Obj.TILE_WIDTH, Obj.TILE_HEIGHT, Obj.ROWS_PER_BAND, Obj.ROW_REVERSE, Obj.COLOUR_ORDER, Obj.X_MAP].all fun o =>
    setting s.settings o == some (s.imageOf o)

/-- The scan timing in force equals the one of the block (R308). -/
def State.timingSame (s : State) : Bool :=
  [Obj.FRAME_RATE_NUM, Obj.FRAME_RATE_DEN, Obj.SCAN_CYCLES, Obj.FEATHER_TIME, Obj.STAGGER_STEP, Obj.TIMING_MARGIN].all
    fun o => setting s.settings o == some (s.imageOf o)

/-- L7 is armed, or its content in force is: ARMED or REFILLING. -/
def State.l7Armed (s : State) : Bool := s.reg Obj.L7_ARM_STATE == 2 || s.reg Obj.L7_ARM_STATE == 3

/-- The geometry apply of a scan-drive start (R306): a refill while armed, else a comparison of tile models. -/
def checkTileModel (s : State) : State :=
  if s.l7Armed then noteFillInput s
  else if s.holdsContent && !s.tileModelSame then clearStore s
  else s

/-- The enumeration of a start has ended (R306): the nodes found are compared with those of the store. -/
def checkNodes (s : State) : State :=
  let same := (List.range s.bandCount).all fun b => s.foundNodes b == 2 ^ s.regAt Obj.BAND_NODES_FOUND b - 1
  if same then s
  else if s.l7Armed then noteFillInput s
  else if s.holdsContent then clearStore s
  else s

/-- EVAC_GAIN: values above 0x8000 act as 0x8000; a change starts a refill (R306, R323). -/
def actEvacGain : Action := actFrozenInput

/-! ### The meanings -/

/-- BEACON_FILL_COMPLETE (04 R108). -/
def execBeaconFillComplete (spoiled : Bool) : State → Host.Outcome State Fault Refusal := onIsland 1 (fillComplete spoiled)

/-- BEACON_PATROL (R306). -/
def execBeaconPatrol : State → Host.Outcome State Fault Refusal := onIsland 7 startPatrol

end Sys2Proof.Machine
end

