-- ==== Sys2Proof/Machine/Permit.lean ====
section
/-! DEFINITION. Rail permissions, trips and the end of a safe blank (chapter 12, R292, R297 to R299): what follows
whenever an input, a latched trip or a BLANK reaction changes. -/

namespace Sys2Proof.Machine

/-- The safety functions run: the device is out of reset and awake (R292, R298). -/
def State.safetyRuns (s : State) : Bool := s.device.phase == .running && s.reg Obj.SLEEP_STATE ≤ 1

/-- A pulse in progress is abandoned without a verdict (R318). -/
def abandonTest (c : Channel) (s : State) : State :=
  let x := s.chan c
  if x.test = .pulse then (s.setChan c { x with test := .idle }).bump Obj.OUTPUT_TEST_ABANDONS
  else if x.test = .readback then s.setChan c { x with test := .idle }
  else s

/-- A channel withdraws its rail permission: its output drops, and every rail ramps down (R292, R297, R318, 07 R200). -/
def withdraw (c : Channel) (s : State) : State :=
  if !(s.chan c).permission then s
  else
    let s1 := abandonTest c s
    rampDownAll (s1.setChan c { s1.chan c with permission := false, railen := false })

/-- A channel grants its rail permission once no safe blank holds (R292, R298). -/
def grant (c : Channel) (s : State) : State :=
  if s.safeBlank || (s.chan c).permission || !s.safetyRuns then s
  else s.setChan c { s.chan c with permission := true, railen := true }

/-- Each channel withdraws or grants by its own view (R292, R297, R298). -/
def applyPermissions (s : State) : State :=
  let step (t : State) (c : Channel) : State := if s.mayPermit c then grant c t else withdraw c t
  step (step s .a) .b

/-- An evacuation demand acts from time `t` of the active domain, unless one acts already (R299, R301); it aborts a fill
pass (04 R110). -/
def startDemand (t : Int) (s : State) : State :=
  if s.safety.evacFrom.isSome || s.safety.evacActive then s
  else abandonFill { s with safety := { s.safety with evacFrom := some t } }

/-- The display ends: replay stops and the held swaps take place (R310, 03 R59). -/
def endDisplay (s : State) : State :=
  { (s.setReg Obj.EVAC_STATE 0).setReg Obj.REPLAY_BANDS 0 with
    safety := { s.safety with evacActive := false, evacEnding := false, evacFrom := none, cold := .none } }

/-- A safe blank begins: nothing is shown while it lasts (R299). DESIGN CHOICE: a demand that waits for its boundary, a cold
start and an active display end here; the demand stays recorded, and acts anew at the end (assumption log 173). -/
def hideEvac (s : State) : State :=
  if s.safety.evacActive || s.safety.evacFrom.isSome then endDisplay s else s

/-- A change of the safety inputs, trips or reactions, with all that follows it: the permissions, the begin of a safe
blank, which hides an evacuation display (R299), its end at the next frame catch (R298), and an evacuation demand that
still stands then (R299). -/
def withSafety (op : State → State) (s : State) : State :=
  let s1 := applyPermissions (op s)
  if s.safeBlank && !s1.safeBlank then
    let s2 := { s1 with safety := { s1.safety with blankUntilCatch := true } }
    if s2.evacDemand then startDemand s2.nowNs s2 else s2
  else if !s.safeBlank && s1.safeBlank then hideEvac s1
  else s1

/-- A trip: latched with its cause (R298). A cause that is latched already trips no second time. -/
def trip (cause : Nat) (s : State) : State :=
  if s.safety.trips.contains cause then s
  else withSafety (fun t => { t.setReg Obj.SAFETY_TRIP_CAUSE cause with
    safety := { t.safety with trips := insertOnce cause t.safety.trips } }) s

end Sys2Proof.Machine
end

