-- ==== Sys2Proof/Machine/Scan.lean ====
section
/-! DEFINITION. The scan drive and the band links (chapter 05): start, enumeration, latency, node registers, timing
symbols, delivery of slices, the acknowledge deadline, headroom reports and stop; with them the checks of the millbrake
at the deadline (12 R302 to R304, R313). -/

namespace Sys2Proof.Machine

/-! ### Timing (R122, R124) -/

/-- The timing that the objects of 0x3800 ask for. -/
def State.timingHeld (s : State) : Timing :=
  { num := s.reg Obj.FRAME_RATE_NUM, den := s.reg Obj.FRAME_RATE_DEN, cycles := s.reg Obj.SCAN_CYCLES
    feather := s.limited Obj.FEATHER_TIME 100 2000, stagger := s.reg Obj.STAGGER_STEP
    margin := s.atMost Obj.TIMING_MARGIN 1000 }

/-- The timing is accepted (R122). -/
def Timing.accepted (t : Timing) : Bool :=
  t.den != 0 && decide (24000 * t.den ≤ 1001 * t.num) && decide (t.num ≤ 300 * t.den) &&
  decide (4 ≤ t.cycles) && decide (t.cycles ≤ 256) &&
  decide (1920 * t.den ≤ t.num * t.cycles) && decide (t.num * t.cycles ≤ 15360 * t.den)

/-- F_eff in ps (R124). -/
def State.featherPs (s : State) : Nat :=
  let f : Rat := min ((1000 * s.scan.timing.feather : Nat) : Rat) (s.strokePs / 2)
  6250 * (f / 6250).floor.toNat

/-- D_ticks (R124). -/
def State.driveTicks (s : State) : Nat := ((s.strokePs - (s.featherPs + 6250 : Nat)) / 4000).floor.toNat

/-- The shortening budget of a scan cycle in ps, not negative (08 R218). -/
def State.shortenBudget (s : State) : Rat :=
  max 0 (s.scan.rows * (s.strokePs - (s.featherPs + 6250 + 4000 * s.driveTicks : Nat)))

/-- Apply the timing with the geometry (R122): a rejected one leaves the previous timing in force. DESIGN CHOICE:
STROKE_TIME_PS and SCAN_RATE_MHZ are rounded half up to whole units (R124, assumption log 149). -/
def applyTiming (s : State) : State :=
  let s1 :=
    if s.timingHeld.accepted then { s with scan := { s.scan with timing := s.timingHeld } }
    else (s.bump Obj.REJECTED_APPLIES).occur 37
  let t := s1.scan.timing
  (((s1.setReg Obj.STROKE_TIME_PS (roundRat s1.strokePs).toNat).setReg Obj.FEATHER_IN_FORCE_PS s1.featherPs).setReg
    Obj.DRIVE_TICKS s1.driveTicks).setReg Obj.SCAN_RATE_MHZ (roundDiv ((1000 * t.num * t.cycles : Nat) : Int) t.den).toNat

/-! ### What a band sends (R126, R132, R146, 12 R300) -/

/-- The display is active without content, so that every band sends BLANK (12 R307). -/
def State.noContent (s : State) : Bool := s.reg Obj.EVAC_STATE == 3

/-- The frame of BLANK after a stop request runs (R147). -/
def State.stopFrame (s : State) : Bool := s.reg Obj.SCAN_STATE == 3 && s.scan.stopCatches != 0

/-- A band blanks (R146): a safe blank or its end before the next frame catch (12 R297, R298), a display without content,
a lost replay (02 R42), S1 (14 R354), an entry to S2 or S3 (14 R355), an orderly stop (14 R350), a re-anchor (08 R219), or the frame after a stop. -/
def State.bandBlank (s : State) (b : Nat) : Bool :=
  s.safeBlank || s.safety.blankUntilCatch || s.noContent || s.safety.replayBlank.contains b || s.power.inS1 ||
  s.power.s1Blank || s.power.entering.isSome || s.power.stopping || s.time.catchGen.reanchor || s.stopFrame

/-- Band b is replayed from the beacon store (12 R303, R308). -/
def State.replayed (s : State) (b : Nat) : Bool := bitAt (s.reg Obj.REPLAY_BANDS) b

/-- Words of a node in a map of words. -/
def nodeWords (m : Sparse Nat) (b n : Nat) : Sparse Nat :=
  m.filter fun e => wordKey b n 0 0 ≤ e.1 && e.1 < wordKey b (n + 1) 0 0

/-- Replace the words of a node. -/
def putNodeWords (m : Sparse Nat) (b n : Nat) (w : Sparse Nat) : Sparse Nat :=
  m.filter (fun e => e.1 < wordKey b n 0 0) ++ w ++ m.filter (fun e => wordKey b (n + 1) 0 0 ≤ e.1)

/-- The word that a node shows on a channel in a band row (R140, R141). -/
def State.shownWord (s : State) (b n r ch : Nat) : Nat :=
  if (s.node b n).blackNow then 0 else Sparse.get (fun _ => 0) s.scan.shown (wordKey b n r ch)

/-- On-time of a code in scan cycle j (R126). -/
def onTicks (code q cycles j : Nat) : Nat :=
  let total := (code * q + 32768) / 65536
  (j + 1) * total / cycles - j * total / cycles

/-- S(b, c) of the stroke of row `r` in the band's present scan cycle, over every channel that emits (07 R188). -/
def State.strokeSums (s : State) (b r : Nat) : List Nat :=
  let x := s.band b
  let cycles := max 1 s.scan.timing.cycles
  let q := cycles * s.driveTicks
  if s.bandBlank b || x.step ≠ .running then [0, 0, 0]
  else (List.range 3).map fun c => (List.range (s.regAt Obj.BAND_NODES_FOUND b)).foldl (fun acc n =>
    (List.range 64).foldl (fun acc g =>
      let w := s.shownWord b (n + 1) r (3 * g + colourOffset s.scan.colourOrder c)
      acc + onTicks (field w 0 16) q cycles x.cycle * (if bitAt w 17 then 16 else 1)) acc) 0

/-! ### Band errors and failures (R131, R135, R148) -/

/-- An upstream packet or report is taken, or discarded by its CRC or a code violation (R129, R131, R148, FS35). -/
def takeUp (b : Nat) (check : UpCheck) (take : State → State) (s : State) : State :=
  match check with
  | .good => take s
  | .badCrc => (s.bumpAt Obj.BAND_CRC_ERRORS b 1).occur 35
  | .violation => (s.bumpAt Obj.BAND_CODE_ERRORS b 1).occur 35

/-- Some used band is still aligning or enumerating (steps 2 to 4). -/
def State.enumeratingAny (s : State) : Bool :=
  (List.range s.bandCount).any fun b => (s.band b).step == .aligning || (s.band b).step == .enumerating

/-- Every used band has finished step 5 or failed. -/
def State.allReady (s : State) : Bool :=
  (List.range s.bandCount).all fun b => (s.band b).step == .ready || (s.band b).step == .failed

/-- After a step of one band: the comparison of nodes when the enumeration of the start has ended (12 R306), and the end
of step 5 for all. -/
def afterBandStep (before : State) (s : State) : State :=
  let s1 := if before.enumeratingAny && !s.enumeratingAny then checkNodes s else s
  { s1 with scan := { s1.scan with configured := s1.allReady } }

/-- A band becomes FAILED with a cause (R135). -/
def failBand (b cause : Nat) (s : State) : State :=
  let s1 := s.setBand b { s.band b with step := .failed, awaiting := [] }
  (s1.setRegAt Obj.BAND_FAIL_CAUSE b cause).setReg Obj.BANDS_FAILED (putBit (s1.reg Obj.BANDS_FAILED) b true)

/-! ### Start (R135) -/

/-- The apply and the states of a start (R30, R122, 06 R155, R164, 12 R306). -/
def scanStart (s : State) : State :=
  let s1 := applyTiming (applyGeometry s)
  let s2 := applyDerived s1.scan.timing.num s1.scan.timing.den s1
  let s3 := (s2.setReg Obj.ROUND_FRAMES (s2.roundFramesOf s2.scan.timing.cycles)).setReg Obj.CATCH_SHORTEN_BUDGET
    s2.shortenBudget.floor.toNat
  let s4 := checkTileModel (restartThermal (restartGlare s3))
  let bands : Sparse BandState := (List.range s4.bandCount).map fun b => (b, { step := .aligning })
  let s5 := s4.clearRegs [Obj.BAND_FAIL_CAUSE, Obj.BAND_NODES_FOUND, Obj.BAND_ADVANCE_PS, Obj.BANDS_FAILED,
    Obj.BANDS_RUNNING]
  let scan := { s5.scan with bands := bands, readyCatches := 0, configured := false, strokes := false, shownFrame := none
                             deadlinePassed := false, stopCatches := 0, stopReady := false, sent := [], shown := [] }
  let pipe := { s5.pipe with nextFrame := 0, frame := none, words := [], readyRows := [], lastSums := {}, lastFrame := none
                             missing := [] }
  let catchGen := { s5.time.catchGen with issuing := false, offset := 0, reanchor := false, unaligned := false, lastTick := none }
  restartDiagnosis { s5.setReg Obj.SCAN_STATE 1 with scan := scan, pipe := pipe, time := { s5.time with catchGen := catchGen } }

/-- SCAN_START (R135, 14 R351). -/
def actScanStart : Action := fun _ s =>
  if s.reg Obj.SCAN_STATE ≠ 0 || s.power.tripped then .abort s abortBusy else .done (scanStart s)

/-- Upstream comma alignment: NODE_RESET twice, then enumeration from address 0 (steps 2 to 4). -/
def alignBand (b : Nat) (s : State) : State :=
  if (s.band b).step ≠ .aligning then s
  else
    let s1 := sendBand b 0x22 0xFF [] (sendBand b 0x22 0xFF [] s)
    sendBand b 0x20 0xFE (natLE 1 0) (s1.setBand b { s1.band b with step := .enumerating, next := 0 })

/-- A band is not aligned within 1 ms: cause 2. -/
def alignTimeout (b : Nat) (s : State) : State :=
  if (s.band b).step = .aligning then afterBandStep s (failBand b 2 s) else s

/-- Enumeration of a band ends with `n` nodes at addresses 0 … n − 1: measurement of node 0 begins (R136, R137). -/
def startMeasuring (b : Nat) (s : State) : State :=
  sendBand b 0x21 0 [] (s.setBand b { s.band b with step := .measuring, next := 0 })

/-- An ENUM_REPLY is taken (R136). -/
def enumReply (b : Nat) (e : EnumReply) (s : State) : State :=
  let x := s.band b
  if x.step ≠ .enumerating then s
  else if x.next = 0 && e.nodeType ≠ 0 then afterBandStep s (failBand b 3 s)
  else if x.next ≠ 0 && e.nodeType ≠ 1 then afterBandStep s (startMeasuring b (sendReg b x.next 0x10 0xFE s))
  else
    let s1 := s.setNode b x.next { present := true, kind := e.nodeType, vendor := e.vendor, part := e.part
                                   revision := e.revision, dsRepeat := e.dsRepeat, outDelay := e.outDelay
                                   turnaround := e.turnaround }
    let s2 := s1.setRegAt Obj.BAND_NODES_FOUND b x.next
    if x.next = 32 then afterBandStep s (startMeasuring b s2)
    else sendBand b 0x20 0xFE (natLE 1 (x.next + 1)) (s2.setBand b { s2.band b with next := x.next + 1 })

/-- No ENUM_REPLY within 20 µs (R136). -/
def enumTimeout (b : Nat) (s : State) : State :=
  if (s.band b).step ≠ .enumerating then s
  else if (s.band b).next = 0 then afterBandStep s (failBand b 4 s)
  else afterBandStep s (startMeasuring b s)

/-! ### Latency (R137) -/

/-- Twice L(n) in 625 ps units. -/
def State.latency2 (s : State) (b n : Nat) : Int :=
  let hops := (List.range (n + 1)).map fun i =>
    ((((s.node b i).roundTrip.getD 0 : Nat) : Int) - (s.node b i).turnaround)
  let reps := (List.range n).map fun i => (2 * (s.node b i).dsRepeat : Nat)
  hops.sum + (reps.sum : Nat)

/-- ADV in symbols of 6.25 ns: the largest L(n) + OUT_DELAY(n), plus TIMING_MARGIN, rounded up. -/
def State.advanceOf (s : State) (b : Nat) : Nat :=
  let far := (List.range (s.regAt Obj.BAND_NODES_FOUND b + 1)).map fun n =>
    (s.latency2 b n * 625 + (1250 * (s.node b n).outDelay : Nat) : Int)
  ceilDiv ((far.foldl max 0).toNat + 2000 * s.scan.timing.margin) 12500

/-- EXEC_DELAY(n). -/
def State.execDelayOf (s : State) (b adv n : Nat) : Nat :=
  (roundDiv (((20 * adv : Nat) : Int) - s.latency2 b n - (2 * (s.node b n).outDelay : Nat)) 2).toNat % 65536

/-- The probe registers of a column driver (06 R154 Table 2). -/
def State.probeRegs (s : State) : List (Nat × Nat) :=
  [(0x40, s.reg Obj.PROBE_ENABLE), (0x41, s.limited Obj.PROBE_CURRENT 10 1000), (0x42, s.diag.vfSet)] ++
  (List.range 3).flatMap fun c => [(0x48 + c, s.reg (0x3A0801 + c)), (0x4C + c, s.reg (0x3A0804 + c)), (0x50 + c, s.reg (0x3A0807 + c))]

/-- Currents and feather voltages of a band (R127). -/
def State.driveRegs (s : State) (b : Nat) : List (Nat × Nat) :=
  (List.range 3).flatMap fun c =>
    [(0x18 + c, s.current b c), (0x1C + c, min 5000 (s.tabNat Obj.FEATHER_VOLTAGE (2 * (3 * b + c)) 2))]

/-- Every RW register of a node with its value (R133 Table 5). -/
def State.nodeRegs (s : State) (b n : Nat) : List (Nat × Nat) :=
  let common := [(0x10, n), (0x11, (s.node b n).execDelay), (0x12, b2n (n == s.regAt Obj.BAND_NODES_FOUND b)),
    (0x13, s.scan.rows)]
  if n = 0 then common ++ [(0x14, b2n (bitAt s.scan.rowReverse b))]
  else common ++ [(0x15, s.scan.timing.cycles), (0x16, s.driveTicks), (0x17, s.scan.colourOrder)] ++ s.driveRegs b ++ s.probeRegs

/-- Latency is known: ADV and the delays, then every register is written (R135 step 5, R137). -/
def configureBand (b : Nat) (s : State) : State :=
  let adv := s.advanceOf b
  let s0 := s.setRegAt Obj.BAND_ADVANCE_PS b (6250 * adv)
  let nodes := List.range (s.regAt Obj.BAND_NODES_FOUND b + 1)
  let s1 := nodes.foldl (fun t n => t.setNode b n { t.node b n with
    latency2 := s.latency2 b n, execDelay := s.execDelayOf b adv n }) s0
  if 1600 < adv then failBand b 6 s1
  else
    let writes := nodes.flatMap fun n => (s1.nodeRegs b n).map fun p => (n, p.1, p.2)
    let currents := (List.range 3).map (s1.current b)
    let s2 := s1.setBand b { s1.band b with step := .writing, advance := adv, awaiting := writes, written := currents }
    writes.foldl (fun t w => sendReg b w.1 w.2.1 w.2.2 t) s2

/-- A MARKER completes the round trip of the hop that ends at the node (R137). PRESUMED: the value that node n − 1
records in HOP_RT reaches the device with the MARKER, as the manual names no READ_REG of it (assumption log 150). -/
def marker (b n roundTrip : Nat) (s : State) : State :=
  let x := s.band b
  if x.step ≠ .measuring || x.next ≠ n then s
  else
    let s1 := s.setNode b n { s.node b n with roundTrip := some roundTrip }
    if n < s.regAt Obj.BAND_NODES_FOUND b then
      sendBand b 0x21 (n + 1) [] (s1.setBand b { s1.band b with next := n + 1 })
    else afterBandStep s (configureBand b s1)

/-- A REG_DATA is checked against the value written (R133, R135 step 5). -/
def regData (b n reg v : Nat) (s : State) : State :=
  let x := s.band b
  match x.awaiting.find? fun w => w.1 == n && w.2.1 == reg with
  | none => s
  | some w =>
    if w.2.2 ≠ v then afterBandStep s (failBand b 5 s)
    else
      let rest := x.awaiting.erase w
      let s1 := s.setBand b { x with awaiting := rest, step := if rest.isEmpty then .ready else x.step }
      if rest.isEmpty then afterBandStep s s1 else s1

/-! ### Timing symbols (R123, R130, R135, R146) -/

/-- The y of the K28.y symbol (R129 Table 2). -/
abbrev symScanCatch : Nat := 1
abbrev symFrameCatch : Nat := 3
abbrev symStroke : Nat := 0
abbrev symFeather : Nat := 2
abbrev symBlank : Nat := 6

/-- A stroke is driven: its headroom report is accepted from now on (R143, R144). -/
def BandState.opened (x : BandState) (stroke : Nat) : BandState :=
  { x with strokes := x.strokes ++ [{ stroke := stroke, cycle := x.cycle % 8 }] }

/-- The next timing symbol of a band's scan cycle: the catch when one is due, then FEATHER and STROKE in turn. BLANK
stands in place of every symbol of a blanking band, and at every stroke of a FAILED band and of the frame of BLANK after
a stop (R135, R146, R147). -/
def timingSymbol (b : Nat) (s : State) : State :=
  let x := s.band b
  if !s.scan.strokes || s.bandCount ≤ b then s
  else
    let next := if x.position + 1 = 2 * s.scan.rows then 0 else x.position + 1
    let blanks (t : State) (y : BandState) : State :=
      dropProbes b y.cycle ((t.setBand b { y with blanked := true }).emit (.symbol b symBlank))
    match x.position, x.catches with
    | 0, [] => if s.time.catchGen.reanchor then blanks s x else s
    | 0, c :: rest =>
      let y := { x with position := 1, catches := rest, cycle := if c then 0 else x.cycle + 1 }
      if x.step = .failed then (s.setBand b y).emit (.symbol b symBlank)
      else if s.bandBlank b then blanks s y
      else (s.setBand b ({ y with blanked := false }.opened 0)).emit (.symbol b (if c then symFrameCatch else symScanCatch))
    | p + 1, _ =>
      let y := { x with position := next }
      let isFeather := (p + 1) % 2 == 1
      if x.step = .failed then (if isFeather then s.setBand b y else (s.setBand b y).emit (.symbol b symBlank))
      else if s.stopFrame && isFeather then s.setBand b y
      else if s.bandBlank b then blanks s y
      else if isFeather then (s.setBand b y).emit (.symbol b symFeather)
      else (s.setBand b (y.opened ((p + 1) / 2))).emit (.symbol b symStroke)

/-! ### Delivery (R132, R139, 12 R304) -/

/-- The words of one row as a DATA payload. -/
def dataPayload (tag row : Nat) (words : List Nat) : Bytes := natLE 1 tag ++ natLE 1 row ++ packWords words

/-- A band that takes frames. -/
def State.delivering (s : State) (b : Nat) : Bool := (s.band b).step == .running

/-- The word for a channel of a row in delivery: from the egress queues, or from the store for a replayed band. -/
def State.rowWords (s : State) (b n r : Nat) : List Nat :=
  if s.replayed b then
    let hd := s.beaconHead
    let columns := s.storedColumns hd.w
    let order := s.storedOrder
    (List.range 192).map fun ch => s.replayWord hd columns order b n r ch
  else (List.range 192).map fun ch => Sparse.get (fun _ => 0) s.pipe.words (wordKey b n r ch)

/-- The next row of a node's slice has its words: computed, or in the store for a node of a replayed band with region
columns. -/
def State.rowReady (s : State) (b n r : Nat) : Bool :=
  if s.replayed b then bitAt (s.regionNodes b) (n - 1) else s.pipe.readyRows.contains (b * 32 + r)

/-- A DATA packet with the next row of a node's slice (R139). `corrected` counts the single-bit errors met on the way, in
the egress queues or in the beacon store (02 R49, R53); `errors` are the channels whose words met an uncorrectable
error in the egress queues and leave as word 0 (02 R49); the offset of such an error is not placed by the manual (assumption
log 31). A replayed band whose words met one sends BLANK for the rest of the frame, and the content is invalid (12 R306). -/
def sliceRow (b n corrected : Nat) (errors : List Nat) (s0 : State) : State :=
  let x := s0.node b n
  match s0.pipe.frame with
  | none => s0
  | some f =>
    let r := x.rowsSent
    if !s0.delivering b || n = 0 || !x.present || s0.scan.deadlinePassed || s0.scan.rows ≤ r || !s0.rowReady b n r then s0
    else
      let s := (if s0.replayed b then s0.crossed 11 else s0).bumpAt Obj.SRAM_CORRECTED (if s0.replayed b then 6 else 1) corrected
      let lost := if s.replayed b then [] else errors
      let words := (s.rowWords b n r).zipIdx.map fun w => if lost.contains w.2 then 0 else w.1
      let s1 := lost.foldl (fun t _ => (t.sramUncorrectable 1 (t.free % 4194304)).drawn) s
      let s2 := if s.replayed b && !errors.isEmpty then
          let bad := invalidate (noteBeaconErrors errors s1)
          { bad with safety := { bad.safety with replayBlank := insertOnce b bad.safety.replayBlank } }
        else s1
      let sent := words.zipIdx.foldl (fun m w => Sparse.set (fun _ => 0) m (wordKey b n r w.2) w.1) s2.scan.sent
      let s3 := { s2 with scan := { s2.scan with sent := sent } }
      sendBand b 0x10 n (dataPayload f.k r words) (s3.setNode b n { s3.node b n with rowsSent := r + 1 })

/-- A SLICE_STATUS (R139): the acknowledge, or the missing rows again with a poll. -/
def sliceStatus (b n tag mask : Nat) (s : State) : State :=
  let x := s.node b n
  match s.pipe.frame with
  | none => s
  | some f =>
    if !s.delivering b || !x.present || s.scan.deadlinePassed || tag ≠ f.k % 256 then s
    else
      let missing := (List.range s.scan.rows).filter fun r => !bitAt mask r
      let held := missing.filter (· < x.rowsSent)
      if missing.isEmpty && x.rowsSent = s.scan.rows && !x.spoilt then s.setNode b n { x with acked := true, dark := false }
      else
        let row := fun (r : Nat) => (List.range 192).map fun ch => Sparse.get (fun _ => 0) s.scan.sent (wordKey b n r ch)
        let s1 := held.foldl (fun t r => sendBand b 0x10 n (dataPayload f.k r (row r)) t) s
        sendBand b 0x11 n (natLE 1 f.k) (s1.bumpAt Obj.BAND_RESENDS b held.length)

/-- Crossing H04 dropped a segment: the slice of that node stays incomplete (02 R42). -/
def spoilSlice (b n : Nat) (s : State) : State := s.setNode b n { s.node b n with spoilt := true, acked := false }

/-! ### The acknowledge deadline (R140 to R142) -/

/-- Column drivers found on a band. -/
def State.columnNodes (s : State) (b : Nat) : List Nat := (List.range (s.regAt Obj.BAND_NODES_FOUND b)).map (· + 1)

/-- A mask of nodes with bit n for node n. -/
def nodeMask (l : List Nat) : Nat := l.foldl (fun m n => putBit m n true) 0

/-- SWAP, sent twice, with the nodes that swap and those that go dark (R140). -/
def sendSwap (b tag : Nat) (swap dark : List Nat) (s : State) : State :=
  let body := fun (copy : Nat) => natLE 1 tag ++ natLE 5 (nodeMask swap) ++ natLE 5 (nodeMask dark) ++ natLE 1 copy
  let s1 := s.columnNodes b |>.foldl (fun t n => t.setNode b n { t.node b n with
    swap := swap.contains n, darkSwap := dark.contains n }) s
  sendBand b 0x12 0xFF (body 1) (sendBand b 0x12 0xFF (body 0) s1)

/-- A node has not acknowledged by the deadline (R141, R142). -/
def lateNode (b n : Nat) (s : State) : State :=
  let x := s.node b n
  let limit := s.reg Obj.LATE_DARK_LIMIT
  let late := x.lateRun + 1
  let s1 := (s.bumpAt Obj.NODE_LATE_FRAMES (b * 64 + n) 1).occur 33
  s1.setNode b n { x with lateRun := late, dark := x.dark || (limit != 0 && decide (limit ≤ late)) }

/-- The tap of a band as sent (12 R302). -/
def State.tapCrc (s : State) (b : Nat) : Nat :=
  crc32 (tapBytes (s.regAt Obj.BAND_NODES_FOUND b) s.scan.rows fun n r ch => Sparse.get (fun _ => 0) s.scan.sent (wordKey b n r ch))

/-- Every row of the band has been sent. -/
def State.tapComplete (s : State) (b : Nat) : Bool :=
  (s.columnNodes b).all fun n => (s.node b n).rowsSent == s.scan.rows

/-- A checked band frame of the display fails (12 R302). -/
def State.tapFailed (s : State) (b : Nat) : Bool :=
  s.safety.tapLost.contains b || !s.tapComplete b || s.tapCrc b != s.bandRef b

/-- The deadline on one band: the SWAP of R140, of a failed band (12 R303), or of a replayed one (12 R304). -/
def bandDeadline (f : FrameWork) (b : Nat) (s0 : State) : State :=
  if !s0.delivering b then s0
  else
    let s := if s0.safety.tapLost.contains b then s0 else s0.crossed 10
    let nodes := s.columnNodes b
    if s.replayed b then
      let region := nodes.filter fun n => bitAt (s.regionNodes b) (n - 1)
      sendSwap b f.k region (nodes.filter fun n => !region.contains n) s
    else
      let late := nodes.filter fun n => !(s.node b n).acked
      let dark := nodes.filter fun n => (s.node b n).dark && !(s.node b n).acked
      let s1 := late.foldl (fun t n => lateNode b n t) s
      let s2 := (nodes.filter fun n => !late.contains n).foldl (fun t n => t.setNode b n { t.node b n with lateRun := 0 }) s1
      let s3 := if late.isEmpty then s2 else s2.bumpAt Obj.BAND_LATE_FRAMES b 1
      if f.evac && !s.noContent && s.tapFailed b then
        let s4 := (s3.bump Obj.BEACON_MISMATCHES).occur 79
        let s5 := { s4 with safety := { s4.safety with failedBands := insertOnce b s4.safety.failedBands } }
        sendSwap b f.k [] nodes s5
      else sendSwap b f.k (nodes.filter fun n => !late.contains n) dark s3

/-- What a node will show in the frame: its new slice, word 0, or its buffer in force again (R140, R141). -/
inductive Shown where
  | fresh | nothing | again
  deriving DecidableEq, Repr

/-- The outcome of the SWAP for a node. -/
def State.willShow (s : State) (b n : Nat) : Shown :=
  let x := s.node b n
  if x.darkSwap then .nothing else if x.swap && x.rowsSent = s.scan.rows then .fresh else .again

/-- Sums of d' and numbers of driven emitters by zone and colour (03 R71): the codes of nodes that show their new slice,
and 0 for those of dark nodes; codes repeated at a late node and replayed words do not enter (assumption log 52). -/
def State.meanSums (s : State) : Sparse Nat × Sparse Nat :=
  let enters := fun b n => s.willShow b n == .fresh && !s.replayed b
  let sums := s.pipe.words.foldl (fun m w =>
    let b := w.1 / 393216
    let n := w.1 / 6144 % 64
    match s.emitterAt b n (w.1 / 192 % 32) (w.1 % 192) with
    | some e => if enters b n then
        match s.placeOf e with
        | (x, y, c) => addZone m (s.zone x y) c (driveOf w.2)
      else m
    | none => m) []
  let counts := foldN (s.width * s.height) (fun m i =>
    let x := i % s.width
    let y := i / s.width
    match s.slotOf x with
    | some (n, _) => if s.driven x y && s.willShow (y / s.scan.rows) n != .again && !s.replayed (y / s.scan.rows) then
        foldN 3 (fun m c => addZone m (s.zone x y) c 1) m else m
    | none => m) []
  (sums, counts)

/-- m_c(z) (03 R71). -/
def meanDrive (sums counts : Sparse Nat) (z c : Nat) : Nat :=
  let n := Sparse.get (fun _ => 0) counts (z * 4 + c)
  if n = 0 then 0 else meanOf (Sparse.get (fun _ => 0) sums (z * 4 + c)) (16 * n)

/-- Sums of d' × I over driven emitters of a map of words, with the currents of the frame (12 R312, R313). -/
def State.lightOf (s : State) (p : State) (words : Sparse Nat) (keep : Nat → Bool) : Sparse Nat :=
  words.foldl (fun m w =>
    let b := w.1 / 393216
    match s.emitterAt b (w.1 / 6144 % 64) (w.1 / 192 % 32) (w.1 % 192) with
    | some e => match s.placeOf e with
      | (x, y, c) => if keep b && s.driven x y then addZone m (s.zone x y) c (driveOf w.2 * p.current b c) else m
    | none => m) []

/-- The doses read in an accumulating frame are written, once each, from the codes shown (R141, 03 R74, R76, R87). -/
def writeDoses (f : FrameWork) (p : State) (s : State) : State :=
  f.doses.foldl (fun t d =>
    match t.placeOf d.1 with
    | (x, y, c) =>
      match t.slotOf x with
      | none => t
      | some (n, g) =>
        let b := y / t.scan.rows
        let r := y % t.scan.rows
        let ch := 3 * g + colourOffset t.scan.colourOrder c
        let word := match t.willShow b n with
          | .fresh => Sparse.get (fun _ => 0) t.scan.sent (wordKey b n r ch)
          | .nothing => 0
          | .again => t.shownWord b n r ch
        accumulate p d.1 (d.2 - 1) word t) s

/-- The millbrake's estimate and excess counts (12 R313). -/
def checkLuminance (f : FrameWork) (p : State) (s : State) : State :=
  let light := s.lightOf p s.scan.sent fun b => !s.safety.tapLost.contains b
  let e := fun z => s.estimate light z
  let lost := !s.safety.tapLost.isEmpty
  let hot := (List.range zones).filter fun z => s.zonePixels z != 0 && (lost || inExcess (e z) (s.ceilingAt z))
  let counts := hot.foldl (fun m z => Sparse.set (fun _ => 0) m z (Sparse.get (fun _ => 0) s.safety.excess z + 1)) []
  let s1 := s.setTab Obj.MB_ESTIMATES 0 ((List.range zones).flatMap fun z => natLE 2 (min (e z) 0xFFFF))
  let s2 := { s1 with safety := { s1.safety with excess := counts } }
  let s3 := if hot.isEmpty then s2 else s2.bump Obj.MB_EXCESS_FRAMES
  let _ := f
  match hot.find? fun z => Sparse.get (fun _ => 0) counts z == 3 with
  | some z => trip 1 (s3.setReg Obj.GLARE_TRIP_ZONE z)
  | none => s3

/-- F_k − T_sc (R140): lateness, SWAP, the checks of the millbrake, E_A, the dose and the thermal update. -/
def ackDeadline (s : State) : State :=
  match s.pipe.frame with
  | none => s
  | some f =>
    if s.scan.deadlinePassed || !s.scan.strokes then s
    else
      let p := s.ofFrame f
      let s0 := if f.finished then s else (s.bump Obj.PIPELINE_LATE_FRAMES).occur 25
      let s1 := foldN s.bandCount (fun t b => bandDeadline f b t) { s0 with scan := { s0.scan with deadlinePassed := true } }
      let s2 := checkLuminance f p s1
      let light := s1.lightOf p s1.pipe.words fun _ => true
      let s3 := { s2 with pipe := { s2.pipe with lastSums := { f.sums with light := light }, lastFrame := some f.k } }
      let s4 := writeDoses f p s3
      match s1.meanSums with
      | (sums, counts) =>
        let s5 := thermalUpdate p (meanDrive sums counts) s4
        { s5 with safety := { s5.safety with tapLost := [] } }

/-- Band b sends BLANK in place of this frame catch, so that its nodes do not swap (R146): as S1 begins or a stop's frame
of BLANK does, but not where the blanking ends with this catch. -/
def State.blanksCatch (s : State) (b : Nat) : Bool :=
  let ended : State :=
    { s with safety := { s.safety with blankUntilCatch := false, replayBlank := [] }
             power := { s.power with s1Blank := s.power.s1Blank && s.power.s1Wake.isSome } }
  ended.bandBlank b || s.reg Obj.SCAN_STATE == 3 || s.power.s1Wanted

/-- Frame catch: each node shows what its SWAP made of it (R140), unless its band blanks (R146); the second buffers start
afresh. -/
def swapNodes (k : Option Nat) (s : State) : State :=
  foldN s.bandCount (fun t b => (t.columnNodes b).foldl (fun t n =>
    let x := t.node b n
    let fresh := { x with rowsSent := 0, acked := false, spoilt := false, swap := false, darkSwap := false }
    if s.blanksCatch b then { t with scan := { t.scan with sent := putNodeWords t.scan.sent b n [] } }.setNode b n fresh
    else match t.willShow b n with
    | .fresh =>
      let shown := putNodeWords t.scan.shown b n (nodeWords t.scan.sent b n)
      let t1 := { t with scan := { t.scan with shown := shown, sent := putNodeWords t.scan.sent b n [] } }
      t1.setNode b n { fresh with shownFrame := k, blackNow := false }
    | .nothing =>
      let t1 := { t with scan := { t.scan with sent := putNodeWords t.scan.sent b n [] } }
      t1.setNode b n { fresh with blackNow := true }
    | .again =>
      let t1 := { t with scan := { t.scan with sent := putNodeWords t.scan.sent b n [] } }
      t1.setNode b n { fresh with blackNow := false }) t) s

/-! ### Node settings (R127, 06 R154) -/

/-- Every used band has settings to send. -/
def noteSettings (s : State) : State :=
  if s.reg Obj.SCAN_STATE = 0 then s
  else foldN s.bandCount (fun t b => t.setBand b { t.band b with settingsDue := true }) s

/-- A write of an object that the node registers follow. -/
def actNodeSetting : Action := fun q s =>
  match storeAction q s with
  | .done s1 => .done (noteSettings s1)
  | .later s1 => .later s1
  | .abort s1 code => .abort s1 code

/-- CHANNEL_CURRENT or FEATHER_VOLTAGE: entries from offset 0 as far as the write reaches (R127, 15 R415). -/
def actBandTable : Action := fun q s => .done (noteSettings (s.setTab q.obj 0 (q.data.take 192)))

/-- The changed settings go to the band's column drivers. -/
def sendSettings (b : Nat) (s : State) : State :=
  let x := s.band b
  if !x.settingsDue || !s.delivering b then s
  else (s.columnNodes b).foldl (fun t n => (s.driveRegs b ++ s.probeRegs).foldl (fun t p => sendReg b n p.1 p.2 t) t)
    (s.setBand b { x with settingsDue := false, written := (List.range 3).map (s.current b) })

/-! ### Headroom (R143, R144, 07 R182, R188) -/

/-- A report counts for a band that runs and does not blank (07 R182). -/
def State.counted (s : State) (b : Nat) : Bool := decide (b < s.bandCount) && s.delivering b && !s.bandBlank b

/-- A report is that of an open stroke, by its STROKE_TAG (R143 Table 8). -/
def OpenStroke.tagged (x : OpenStroke) (r : HeadroomReport) : Bool := x.stroke == r.stroke && x.cycle == r.cycle % 8

/-- A report is received (R144): it belongs to the open stroke of its tag, and a late one to none; one with a wrong CRC is
missing. -/
def headroomReport (b : Nat) (r : HeadroomReport) (s : State) : State :=
  if !s.counted b then s
  else takeUp b r.check (fun t =>
    let x := t.band b
    t.setBand b { x with strokes := x.strokes.map fun y => if y.tagged r then { y with report := some r } else y }) s

/-- Least value of a colour over reports. -/
def reportMin (c : Nat) (r : HeadroomReport) : Nat := if c = 0 then r.red.value else if c = 1 then r.green.value else r.blue.value

/-- The sample of every rail of a group once each counted band has been judged (07 R182). -/
def groupSample (g : Nat) (s : State) : State :=
  let bands := [2 * g, 2 * g + 1].filter s.counted
  if bands.isEmpty then foldN 3 (fun t c => headroomIdle (3 * g + c) t) s
  else if bands.any fun b => (s.band b).judged.isNone then s
  else
    let reports := bands.map fun b => ((s.band b).judged).getD none
    let s1 := bands.foldl (fun t b => t.setBand b { t.band b with judged := none }) s
    foldN 3 (fun t c =>
      if reports.any (·.isNone) then headroomMissing (3 * g + c) t
      else headroomPresent (3 * g + c) ((reports.filterMap id).foldl (fun m r => min m (reportMin c r)) 0xFF) t) s1

/-- The acceptance of a band's oldest open stroke ends with its report taken as missing, or as held (R144). -/
def judge (b : Nat) (r : Option HeadroomReport) (s : State) : State :=
  let x := s.band b
  groupSample (b / 2) (s.setBand b { x with strokes := x.strokes.drop 1, judged := some r })

/-- The acceptance time of the oldest open stroke of a band ends (R144); a band without one has driven no stroke. -/
def headroomDeadline (b : Nat) (s : State) : State :=
  let x := s.band b
  if !s.counted b then groupSample (b / 2) (s.setBand b { x with strokes := x.strokes.drop 1 })
  else match x.strokes with
    | [] => s
    | o :: _ =>
      judge b o.report (if o.report.isNone then (s.bumpAt Obj.BAND_HEADROOM_MISSING b 1).occur 36 else s.crossed 5)

/-- Crossing H05 timed out: prediction zero, the report of the oldest open stroke missing (02 R42). -/
def loseStroke (b : Nat) (s : State) : State :=
  let s1 := ffPrediction b [0, 0, 0] s
  if s.counted b && !(s.band b).strokes.isEmpty then judge b none s1 else s1

/-- A stroke's load sums reach the control engine (07 R188). -/
def strokeLoad (b r : Nat) (s : State) : State :=
  if b < s.bandCount then ffPrediction b (s.strokeSums b r) (s.crossed 5) else s

/-! ### Stop (R147) -/

/-- SCAN_STOP. -/
def actScanStop : Action := fun _ s =>
  if s.reg Obj.SCAN_STATE = 1 || s.reg Obj.SCAN_STATE = 2 then
    .done { s.setReg Obj.SCAN_STATE 3 with scan := { s.scan with stopCatches := 0, stopReady := false } }
  else .abort s abortBusy

/-- The bands send IDLE only: STOPPED. A FAILED band keeps its state (assumption log 32). -/
def stopScan (s : State) : State :=
  let s1 := foldN 32 (fun t b =>
    let x := t.band b
    t.setBand b { x with step := if x.step = .failed then .failed else .idle, catches := [], position := 0, strokes := []
                         judged := none, awaiting := [], settingsDue := false }) s
  let s2 := ((s1.setReg Obj.SCAN_STATE 0).setReg Obj.BANDS_RUNNING 0)
  { s2 with scan := { s2.scan with strokes := false, configured := false, shownFrame := none, stopCatches := 0
                                   stopReady := false, deadlinePassed := false }
            pipe := { s2.pipe with frame := none, words := [], readyRows := [] }
            safety := { s2.safety with blankUntilCatch := false, replayBlank := [], failedBands := [], tapLost := [] } }

/-- SCAN_COUNTERS_CLEAR (R148). -/
def actScanCountersClear : Action := fun _ s =>
  .done (s.clearRegs [Obj.REJECTED_APPLIES, Obj.BAND_CRC_ERRORS, Obj.BAND_CODE_ERRORS, Obj.BAND_RESENDS,
    Obj.BAND_LATE_FRAMES, Obj.BAND_HEADROOM_MISSING, Obj.NODE_LATE_FRAMES])

/-! ### The meanings -/

/-- SCAN_START (R135). -/
def execScanStart (rq : Req) (data : Bytes) : State → Host.Outcome State Fault Refusal :=
  hostWrite actScanStart rq Obj.SCAN_START data

/-- BAND_ALIGN_TIMEOUT (R135). -/
def execBandAlignTimeout (band : Nat) : State → Host.Outcome State Fault Refusal := onIsland 4 (alignTimeout band)

/-- ENUM_REPLY_RX (R136). -/
def execEnumReplyRx (band : Nat) (reply : EnumReply) (check : UpCheck) : State → Host.Outcome State Fault Refusal :=
  onIsland 4 (takeUp band check (enumReply band reply))

/-- ENUM_REPLY_TIMEOUT (R136). -/
def execEnumReplyTimeout (band : Nat) : State → Host.Outcome State Fault Refusal := onIsland 4 (enumTimeout band)

/-- MARKER_RX (R137). -/
def execMarkerRx (band node roundTrip : Nat) : State → Host.Outcome State Fault Refusal :=
  onIsland 4 (marker band node roundTrip)

/-- REG_DATA_RX (R133). -/
def execRegDataRx (band node reg value : Nat) (check : UpCheck) : State → Host.Outcome State Fault Refusal :=
  onIsland 4 (takeUp band check (regData band node reg value))

/-- TIMING_SYMBOL_SEND (R130). -/
def execTimingSymbolSend (band : Nat) : State → Host.Outcome State Fault Refusal := onIsland 4 (timingSymbol band)

/-- SLICE_ROW_SEND (R139). -/
def execSliceRowSend (band node corrected : Nat) (errors : List Nat) : State → Host.Outcome State Fault Refusal :=
  onIsland 4 (sliceRow band node corrected errors)

/-- SLICE_STATUS_RX (R139). -/
def execSliceStatusRx (band node frameTag rowMask : Nat) (check : UpCheck) : State → Host.Outcome State Fault Refusal :=
  onIsland 4 (takeUp band check (sliceStatus band node frameTag rowMask))

/-- ACK_DEADLINE (R140). -/
def execAckDeadline : State → Host.Outcome State Fault Refusal := onIsland 4 ackDeadline

/-- NODE_SETTINGS_SEND (R127). -/
def execNodeSettingsSend (band : Nat) : State → Host.Outcome State Fault Refusal := onIsland 4 (sendSettings band)

/-- HEADROOM_REPORT_RX (R143). -/
def execHeadroomReportRx (band : Nat) (report : HeadroomReport) : State → Host.Outcome State Fault Refusal :=
  onIsland 4 (headroomReport band report)

/-- HEADROOM_ACCEPT_DEADLINE (R144). -/
def execHeadroomAcceptDeadline (band : Nat) : State → Host.Outcome State Fault Refusal :=
  onIsland 4 (headroomDeadline band)

/-- PROBE_PACKET_RX (R145). -/
def execProbePacketRx (band node : Nat) (packet : ProbePacket) : State → Host.Outcome State Fault Refusal :=
  onIsland 4 (takeUp band packet.check (takeProbe band node packet))

/-- SCAN_STOP (R147). -/
def execScanStop (rq : Req) (data : Bytes) : State → Host.Outcome State Fault Refusal :=
  hostWrite actScanStop rq Obj.SCAN_STOP data

/-- SCAN_COUNTERS_CLEAR (R148). -/
def execScanCountersClear (rq : Req) (data : Bytes) : State → Host.Outcome State Fault Refusal :=
  hostWrite actScanCountersClear rq Obj.SCAN_COUNTERS_CLEAR data

/-- UPSTREAM_COMMA_ALIGNMENT (R135). -/
def execUpstreamCommaAlignment (band : Nat) : State → Host.Outcome State Fault Refusal := onIsland 4 (alignBand band)

/-- FF_PREDICTION_RX (07 R188). -/
def execFfPredictionRx (band row : Nat) : State → Host.Outcome State Fault Refusal := onIsland 3 (strokeLoad band row)

end Sys2Proof.Machine
end

