-- ==== Sys2Proof/Machine/Signature.lean ====
section
/-! DEFINITION. SHA-256 and ECDSA P-256 of firmware images (chapter 15, R381; 00 Standards). The public keys are Ibtik's
and stand in Config. -/

namespace Sys2Proof.Machine

/-! ### SHA-256 -/

/-- Round constants 0 to 31. -/
def shaConstantsLow : List (BitVec 32) :=
  [0x428A2F98#32, 0x71374491#32, 0xB5C0FBCF#32, 0xE9B5DBA5#32, 0x3956C25B#32, 0x59F111F1#32,
   0x923F82A4#32, 0xAB1C5ED5#32, 0xD807AA98#32, 0x12835B01#32, 0x243185BE#32, 0x550C7DC3#32,
   0x72BE5D74#32, 0x80DEB1FE#32, 0x9BDC06A7#32, 0xC19BF174#32, 0xE49B69C1#32, 0xEFBE4786#32,
   0x0FC19DC6#32, 0x240CA1CC#32, 0x2DE92C6F#32, 0x4A7484AA#32, 0x5CB0A9DC#32, 0x76F988DA#32,
   0x983E5152#32, 0xA831C66D#32, 0xB00327C8#32, 0xBF597FC7#32, 0xC6E00BF3#32, 0xD5A79147#32,
   0x06CA6351#32, 0x14292967#32]

/-- Round constants 32 to 63. -/
def shaConstantsHigh : List (BitVec 32) :=
  [0x27B70A85#32, 0x2E1B2138#32, 0x4D2C6DFC#32, 0x53380D13#32, 0x650A7354#32, 0x766A0ABB#32,
   0x81C2C92E#32, 0x92722C85#32, 0xA2BFE8A1#32, 0xA81A664B#32, 0xC24B8B70#32, 0xC76C51A3#32,
   0xD192E819#32, 0xD6990624#32, 0xF40E3585#32, 0x106AA070#32, 0x19A4C116#32, 0x1E376C08#32,
   0x2748774C#32, 0x34B0BCB5#32, 0x391C0CB3#32, 0x4ED8AA4A#32, 0x5B9CCA4F#32, 0x682E6FF3#32,
   0x748F82EE#32, 0x78A5636F#32, 0x84C87814#32, 0x8CC70208#32, 0x90BEFFFA#32, 0xA4506CEB#32,
   0xBEF9A3F7#32, 0xC67178F2#32]

/-- The hash of nothing yet. -/
def shaStart : List (BitVec 32) :=
  [0x6A09E667#32, 0xBB67AE85#32, 0x3C6EF372#32, 0xA54FF53A#32, 0x510E527F#32, 0x9B05688C#32,
   0x1F83D9AB#32, 0x5BE0CD19#32]

/-- A big-endian number of bytes. -/
def beNat (bs : Bytes) : Nat := bs.foldl (fun m b => 256 * m + b.toNat) 0

/-- A message padded to whole blocks of 64 bytes. -/
def shaPad (bs : Bytes) : Bytes :=
  bs ++ [0x80#8] ++ List.replicate ((119 - bs.length % 64) % 64) 0#8 ++ (natLE 8 (8 * bs.length)).reverse

/-- The message schedule, newest word first: the next word comes from the words 2, 7, 15 and 16 before it. -/
def shaExpand (w : List (BitVec 32)) : List (BitVec 32) :=
  let at' := fun i => w.getD i 0#32
  let a := at' 1
  let b := at' 14
  let s1 := a.rotateRight 17 ^^^ a.rotateRight 19 ^^^ (a >>> 10)
  let s0 := b.rotateRight 7 ^^^ b.rotateRight 18 ^^^ (b >>> 3)
  (s1 + at' 6 + s0 + at' 15) :: w

/-- One round with its word and constant. -/
def shaRound (h : List (BitVec 32)) (kw : BitVec 32 × BitVec 32) : List (BitVec 32) :=
  match h with
  | [a, b, c, d, e, f, g, h8] =>
    let s1 := e.rotateRight 6 ^^^ e.rotateRight 11 ^^^ e.rotateRight 25
    let t1 := h8 + s1 + ((e &&& f) ^^^ (~~~e &&& g)) + kw.1 + kw.2
    let s0 := a.rotateRight 2 ^^^ a.rotateRight 13 ^^^ a.rotateRight 22
    let t2 := s0 + ((a &&& b) ^^^ (a &&& c) ^^^ (b &&& c))
    [t1 + t2, a, b, c, d + t1, e, f, g]
  | other => other

/-- One block of 64 bytes. -/
def shaBlock (h : List (BitVec 32)) (block : Bytes) : List (BitVec 32) :=
  let first := (List.range 16).map fun i => BitVec.ofNat 32 (beNat ((block.drop (4 * i)).take 4))
  let words := ((List.range 48).foldl (fun w _ => shaExpand w) first.reverse).reverse
  List.zipWith (· + ·) h (((shaConstantsLow ++ shaConstantsHigh).zip words).foldl shaRound h)

/-- SHA-256, 32 bytes. -/
def sha256 (bs : Bytes) : Bytes :=
  let m := shaPad bs
  let h := (List.range (m.length / 64)).foldl (fun h i => shaBlock h ((m.drop (64 * i)).take 64)) shaStart
  h.flatMap fun w => (natLE 4 w.toNat).reverse

/-! ### ECDSA P-256 -/

/-- The field, the order of the base point and the base point of P-256. -/
def p256Field : Nat := 2 ^ 256 - 2 ^ 224 + 2 ^ 192 + 2 ^ 96 - 1
def p256Order : Nat := 0xFFFFFFFF00000000FFFFFFFFFFFFFFFFBCE6FAADA7179E84F3B9CAC2FC632551
def p256Base : Nat × Nat :=
  (0x6B17D1F2E12C4247F8BCE6E563A440F277037D812DEB33A0F4A13945D898C296,
   0x4FE342E2FE1A7F9B8EE7EB4A7C0F9E162BCE33576B315ECECBB6406837BF51F5)

/-- b to the power e modulo m, from the `fuel` low bits of e. -/
def powMod (m : Nat) : Nat → Nat → Nat → Nat
  | 0, _, _ => 1 % m
  | fuel + 1, b, e =>
    let half := powMod m fuel (b * b % m) (e / 2)
    if e % 2 = 1 then b * half % m else half

/-- The inverse of a number modulo a prime below 2^256. -/
def inverseMod (m a : Nat) : Nat := powMod m 256 (a % m) (m - 2)

/-- A point of the curve; none is the point at infinity. -/
abbrev CurvePoint : Type := Option (Nat × Nat)

/-- The point of slope `l` through two points. -/
def chordPoint (l x1 y1 x2 : Nat) : CurvePoint :=
  let p := p256Field
  let x := (l * l + 2 * p - x1 - x2) % p
  some (x, (l * (x1 + p - x) + p - y1) % p)

/-- The sum of two points of the curve with a = -3. -/
def addPoints (u v : CurvePoint) : CurvePoint :=
  let p := p256Field
  match u, v with
  | none, w => w
  | w, none => w
  | some (x1, y1), some (x2, y2) =>
    if x1 = x2 then
      if (y1 + y2) % p = 0 then none
      else chordPoint ((3 * x1 * x1 + p - 3) * inverseMod p (2 * y1) % p) x1 y1 x2
    else chordPoint ((y2 + p - y1) * inverseMod p (x2 + p - x1) % p) x1 y1 x2

/-- k times a point, from the `fuel` low bits of k. -/
def timesPoint : Nat → Nat → CurvePoint → CurvePoint
  | 0, _, _ => none
  | fuel + 1, k, u =>
    let rest := timesPoint fuel (k / 2) (addPoints u u)
    if k % 2 = 1 then addPoints u rest else rest

/-- The signature (r, s) of a digest verifies under a public key. -/
def ecdsaVerifies (key : Nat × Nat) (digest : Bytes) (r s : Nat) : Bool :=
  let n := p256Order
  let w := inverseMod n s
  let sum := addPoints (timesPoint 256 (beNat digest * w % n) (some p256Base)) (timesPoint 256 (r * w % n) (some key))
  decide (1 ≤ r) && decide (r < n) && decide (1 ≤ s) && decide (s < n) && (sum.map fun u => u.1 % n == r).getD false

/-! ### An image (R381) -/

/-- The body of an image has the hash of its header, and the signature over the SHA-256 of bytes 0 to 47 verifies under the
public key of the key slot. -/
def imageSigned (header body : Bytes) (key : Nat) : Bool :=
  let r := beNat ((header.drop 48).take 32)
  let s := beNat ((header.drop 80).take 32)
  sha256 body == (header.drop 16).take 32 && ecdsaVerifies (Config.publicKey key) (sha256 (header.take 48)) r s

end Sys2Proof.Machine
end

