-- ==== Sys2Proof/Machine/BootFlash.lean ====
section
/-! DEFINITION. The boot flash (chapter 15, R378 to R384): its areas, operations in progress, boot record, firmware
images, what the boot ROM decides, and fault log records. -/

namespace Sys2Proof.Machine

/-! ### Areas (Table 6) -/

/-- Start of a firmware slot. -/
def slotBase (slot : Nat) : Nat := 0x100000 + 0x800000 * slot

/-- Size of a firmware slot. -/
abbrev slotSize : Nat := 0x800000

/-- Start of the evacuation image area. -/
abbrev evacArea : Nat := 0x1100000

/-- Start of the calibration copy header and of its records. -/
abbrev calHeader : Nat := 0x1200000
abbrev calRecords : Nat := 0x1210000

/-- Bytes as a number at a flash offset. -/
def State.flashNat (s : State) (a n : Nat) : Nat := leNat (s.flashBytes a n)

/-- Program bytes that replace what the area held. -/
def State.programFlash (s : State) (a : Nat) (bs : Bytes) : State := s.setFlash a bs

/-! ### Operations, one at a time (R378) -/

/-- Why an operation on an area that ends at `last` cannot start: 0 when it can. -/
def State.flashAbort (s : State) (last : Nat) : Nat :=
  if Config.flashSize < last then abortFlash else if s.cop.flashJob.isSome then abortBusy else 0

/-- Start an operation. -/
def beginJob (work : FlashWork) (answer : Option Request) (s : State) : State :=
  { s.setReg Obj.FLASH_STATE 1 with cop := { s.cop with flashJob := some { work := work, answer := answer } } }

/-- A command whose operation is answered on completion; an entry of a batch has no answer. -/
def jobLater (work : FlashWork) (last : Nat) (q : Request) (s : State) : Answer :=
  if s.flashAbort last ≠ 0 then .abort s (s.flashAbort last)
  else .later (beginJob work (if q.opcode = 2 then some q else none) s)

/-- A command whose operation goes on after its answer. -/
def jobDone (work : FlashWork) (last : Nat) (s : State) : Answer :=
  if s.flashAbort last ≠ 0 then .abort s (s.flashAbort last) else .done (beginJob work none s)

/-- A fault log write pre-empts any other operation. -/
def logFault (reason : Nat) (s : State) : State :=
  let paused := match s.cop.flashJob with
    | some j => j :: s.cop.flashPaused
    | none => s.cop.flashPaused
  beginJob (.faultLog reason) none { s with cop := { s.cop with flashPaused := paused } }

/-- The operation in progress ends, and a pre-empted one goes on. -/
def endJob (ok : Bool) (s : State) : State :=
  match s.cop.flashPaused with
  | j :: rest => { s with cop := { s.cop with flashJob := some j, flashPaused := rest } }
  | [] => { s.setReg Obj.FLASH_STATE (if ok then 0 else 2) with cop := { s.cop with flashJob := none } }

/-! ### Fault log (R383) -/

/-- Record `i` of the fault log. -/
def State.logRecord (s : State) (i : Nat) : Bytes := s.flashBytes (0x30000 + 64 * i) 64

/-- A record is valid: its CRC-32 is right. -/
def logValid (r : Bytes) : Bool := crc32 (r.take 60) == leNat ((r.drop 60).take 4)

/-- The valid record with the highest sequence: its sequence and index. -/
def State.lastLog (s : State) : Option (Nat × Nat) :=
  (List.range 3072).foldl (fun m i =>
    let r := s.logRecord i
    let q := leNat (r.take 4)
    if !logValid r then m
    else match m with
      | none => some (q, i)
      | some (b, j) => if b < q then some (q, i) else some (b, j)) none

/-- FAULT_LOG_NEXT at a reset. -/
def State.nextLog (s : State) : Nat := (s.lastLog.map fun p => (p.2 + 1) % 3072).getD 0

/-- A record with its reason, of the state as it stands. -/
def State.faultRecord (s : State) (reason : Nat) : Bytes :=
  let sequence := (s.lastLog.map fun p => (p.1 + 1) % 2 ^ 32).getD 0
  let body := natLE 4 sequence ++ natLE 10 s.stampA ++ maskBytes 12 s.fault.latched.contains ++ natLE 1 reason ++ natLE 1 0 ++
    natLE 2 (s.reg Obj.TJ) ++ natLE 30 0
  body ++ natLE 4 (crc32 body)

/-- Write a record; a sector is erased when it is reached. -/
def writeLog (reason : Nat) (s : State) : State :=
  let n := s.reg Obj.FAULT_LOG_NEXT % 3072
  let record := s.faultRecord reason
  let s1 := if n % 64 = 0 then s.eraseFlash (0x30000 + 64 * n) 4096 else s
  (s1.programFlash (0x30000 + 64 * n) record).setReg Obj.FAULT_LOG_NEXT ((n + 1) % 3072)

/-! ### Boot record (R379) -/

/-- A copy of the boot record. -/
structure BootRecord where
  seq : Nat
  active : Nat
  trial : Nat
  started : Nat
  deriving DecidableEq, Repr

/-- The bytes of a boot record. -/
def BootRecord.bytes (r : BootRecord) : Bytes :=
  let body := [0x42#8, 0x52#8, 0x45#8, 0x43#8] ++ natLE 4 r.seq ++ natLE 1 r.active ++ natLE 1 r.trial ++
    natLE 1 r.started ++ natLE 1 0
  body ++ natLE 4 (crc32 body)

/-- Copy `c` of the record, if it is valid. -/
def State.bootCopy (s : State) (c : Nat) : Option BootRecord :=
  let bs := s.flashBytes (0x8000 * c) 16
  if bs.take 4 == [0x42#8, 0x52#8, 0x45#8, 0x43#8] && crc32 (bs.take 12) == leNat (bs.drop 12) then
    some { seq := leNat ((bs.drop 4).take 4), active := leNat ((bs.drop 8).take 1), trial := leNat ((bs.drop 9).take 1)
           started := leNat ((bs.drop 10).take 1) }
  else none

/-- The copy in use: valid, with the higher SEQ. -/
def State.bootUsed (s : State) : Option (Nat × BootRecord) :=
  match s.bootCopy 0, s.bootCopy 1 with
  | some a, some b => if a.seq < b.seq then some (1, b) else some (0, a)
  | some a, none => some (0, a)
  | none, some b => some (1, b)
  | none, none => none

/-- The boot record; without a valid copy slot A is active and none is on trial (assumption log 33). -/
def State.bootRecord (s : State) : BootRecord :=
  (s.bootUsed.map (·.2)).getD { seq := 0, active := 0, trial := 0xFF, started := 0 }

/-- Update the record: the other copy is written with SEQ + 1. -/
def writeBoot (r : BootRecord) (s : State) : State :=
  let c := match s.bootUsed with
    | some (0, _) => 1
    | _ => 0
  (s.eraseFlash (0x8000 * c) 4096).programFlash (0x8000 * c) { r with seq := s.bootRecord.seq + 1 }.bytes

/-! ### Firmware images (R381) -/

/-- FW_ROLLBACK_MIN in force. -/
def State.rollbackMin (s : State) : Nat := max Config.fusedRollbackMin s.cop.rollbackRaised

/-- Field of a slot's header. -/
def State.slotField (s : State) (slot o n : Nat) : Nat := s.flashNat (slotBase slot + o) n

/-- The image of a slot passes. -/
def State.imageOk (s : State) (slot : Nat) : Bool :=
  let len := s.slotField slot 8 4
  let key := s.slotField slot 14 1
  s.flashBytes (slotBase slot) 4 == [0x4B#8, 0x46#8, 0x57#8, 0x31#8] && decide (len ≤ 8388096) && decide (key ≤ 1) &&
  !(key == 0 && s.cop.slot0Revoked) && decide (s.rollbackMin ≤ s.slotField slot 12 2) &&
  imageSigned (s.flashBytes (slotBase slot) 512) (s.flashBytes (slotBase slot + 512) len) key

/-- A slot is erased: its header bytes read 0xFF. -/
def State.slotEmpty (s : State) (slot : Nat) : Bool := (s.flashBytes (slotBase slot) 512).all (· == 0xFF#8)

/-- State of a slot as checked: 0 empty, 1 valid, 2 invalid. -/
def State.slotState (s : State) (slot : Nat) : Nat :=
  if s.slotEmpty slot then 0 else if s.imageOk slot then 1 else 2

/-- Set the nibble of a slot in FW_SLOT_STATES. -/
def setSlotState (slot v : Nat) (s : State) : State :=
  let old := s.reg Obj.FW_SLOT_STATES
  s.setReg Obj.FW_SLOT_STATES (if slot = 0 then old / 16 * 16 + v else v * 16 + old % 16)

/-! ### What the boot ROM does (R380) -/

/-- The slot that the boot record names, with the record updated and FS19 for a trial that was not confirmed. -/
def bootChoice (s : State) : Nat × State :=
  let r := s.bootRecord
  if r.trial ≤ 1 && r.started == 0 then (r.trial, writeBoot { r with started := 1 } s)
  else if r.trial ≤ 1 then (min r.active 1, (writeBoot { r with trial := 0xFF, started := 0 } s).occur 19)
  else (min r.active 1, s)

/-- The slot booted, 2 for the recovery agent: the other slot when an image fails (R380); STRAP_RECOVERY boots neither
(16 R400). -/
def bootSlot (s : State) : Nat × State :=
  if bitAt (s.reg Obj.STRAPS) 1 then (2, s)
  else match bootChoice s with
    | (slot, s1) =>
      if s1.imageOk slot then (slot, s1)
      else if s1.imageOk (1 - slot) then (1 - slot, s1.occur 19)
      else (2, s1.occur 19)

/-- Firmware, or the recovery agent, runs: the identity of what runs (Tables 7 and 11), and the settings of the flash
(R385). -/
def bootFirmware (s : State) : State :=
  match bootSlot s with
  | (slot, s1) =>
    let states := s1.slotState 0 + 16 * s1.slotState 1
    let s2 := ((s1.setReg Obj.FW_SLOT_RUNNING slot).setReg Obj.FW_SLOT_STATES states).setReg Obj.FAULT_LOG_NEXT s1.nextLog
    let s3 := if s1.bootRecord.trial ≤ 1 && slot == s1.bootRecord.trial then setSlotState slot 3 s2 else s2
    let s4 := s3.setReg Obj.FW_VERSION (if slot = 2 then 0 else s3.slotField slot 4 4)
    let k := s4.cop.record
    let s5 := (((((s4.setReg Obj.IPV4_ADDRESS k.ipv4).setReg Obj.IPV4_NETMASK k.netmask).setReg Obj.COP_UDP_PORT k.udpPort).setReg
      Obj.PLCA_NODE_ID k.plcaId).setReg Obj.PLCA_NODE_COUNT k.plcaCount).setTab Obj.TILE_IDENTITY 0 (s4.flashBytes 0x20000 256)
    { s5 with
      cop := { s5.cop with keys := k, runKeySlot := if slot = 2 then 0 else s5.slotField slot 14 1
                           runRollback := if slot = 2 then 0 else s5.slotField slot 12 2 }
      device := { s5.device with phase := if slot = 2 then .recovery else .running } }

/-! ### Evacuation image (12 R309) -/

/-- An image is saved: the area holds a header with its version and VALID set. -/
def State.imageSaved (s : State) : Bool := s.flashNat evacArea 2 == 1 && s.flashNat (evacArea + 2) 1 != 0

/-- Start the load of the saved image, after the operations that run. -/
def loadImage (s : State) : State :=
  if s.cop.flashJob.isNone then beginJob .evacLoad none s
  else { s with cop := { s.cop with flashPaused := s.cop.flashPaused ++ [{ work := .evacLoad, answer := none }] } }

/-- EVAC_IMAGE_SAVE. -/
def actEvacImageSave : Action := fun _ s =>
  if !s.flag Obj.BEACON_VALID then .abort s abortBusy else jobDone .evacSave (evacArea + 0x100000) s

end Sys2Proof.Machine
end

