-- ==== Sys2Proof/Machine/Wake.lean ====
section
/-! DEFINITION. Wake records (14 R360), memory rings around a sleep (R354, R355), and the start and end of S1 (R354),
which safety functions, the frame boundary and the sleep commands share. -/

namespace Sys2Proof.Machine

/-- WAKE_COUNTS of source `k`, saturating. -/
def countWake (k : Nat) (s : State) : State :=
  s.setTab Obj.WAKE_COUNTS (2 * (k - 1)) (natLE 2 (min (s.tabNat Obj.WAKE_COUNTS (2 * (k - 1)) 2 + 1) 0xFFFF))

/-- The record of a wake from state `left` by the sources present (R360). -/
def recordWake (sources : List Nat) (left ledger : Nat) (s : State) : State :=
  let first := ((List.range 9).find? sources.contains).getD 0
  let s1 := (((s.setReg Obj.LAST_WAKE_SOURCES (maskNat 9 sources.contains)).setReg Obj.LAST_WAKE_SOURCE first).setReg
    Obj.LAST_WAKE_STATE left).setReg Obj.LAST_WAKE_LEDGER ledger
  ((List.range 9).filter sources.contains).foldl (fun t k => countWake k t) s1

/-- Host rings with a descriptor in progress are suspended as by pre-emption (R354, 11 R282). -/
def suspendRings (s : State) : State :=
  foldN 64 (fun t r =>
    if 8 ≤ r && t.ringState r == 2 && !(t.ring r).suspended && t.reg (Obj.RING_PROGRESS r) ≠ 0 then
      (t.bump (Obj.RING_PREEMPTIONS r)).setRing r { t.ring r with suspended := true }
    else t) s

/-- Every host ring halts with cause 0x09 and its write-back (R350, R355, 11 R286). -/
def haltRings (s : State) : State :=
  foldN 64 (fun t r =>
    if r < 8 then t
    else if t.ringState r = 1 then t.setReg (Obj.RING_STATE r) 3
    else if t.ringState r = 2 then stopRing r t
    else t) { s with memory := { s.memory with inflight := [] } }

/-- LPDDR5 enters self-refresh. -/
def enterSelfRefresh (s : State) : State :=
  if s.reg Obj.MEM_STATE = 2 then (s.setReg Obj.MEM_STATE 3).emit (.selfRefresh true) else s

/-- LPDDR5 leaves self-refresh. -/
def leaveSelfRefresh (s : State) : State :=
  if s.reg Obj.MEM_STATE = 3 then (s.setReg Obj.MEM_STATE 2).emit (.selfRefresh false) else s

/-- The frame catch at which S1 is entered (R354): PIXEL and MEM are asked to gate (02 R48). -/
def enterS1 (s : State) : State :=
  let s1 := enterSelfRefresh (suspendRings s)
  { s1.setReg Obj.SLEEP_STATE 1 with
    power := { s1.power with s1Wanted := false, inS1 := true, s1Wake := none, s1Blank := true
                             blankStood := s1.blankDemand }
    device := { s1.device with gating := [1, 2], holds := [] } }

/-- S1 ends: PIXEL and MEM run, LPDDR5 leaves self-refresh, and the picture returns after the wake (R354). -/
def leaveS1 (s : State) : State :=
  let s1 := (leaveSelfRefresh ((s.setIsland 1 .running).setIsland 2 .running)).setReg Obj.SLEEP_STATE 0
  { s1 with
    power := { s1.power with inS1 := false, s1Wake := some s1.ticks, s1Blank := true }
    device := { s1.device with gating := [], holds := [] } }

/-- A wake condition during S1 ends it with its record; during the entry it abandons the entry (R354, R359). -/
def wakeS1 (sources : List Nat) (s : State) : State :=
  if s.power.inS1 then recordWake sources 1 0 (leaveS1 s)
  else if s.power.s1Wanted then { s with power := { s.power with s1Wanted := false } }
  else s

end Sys2Proof.Machine
end

