-- ==== Sys2Proof/Machine/Evac.lean ====
section
/-! DEFINITION. The dual inputs, the evacuation display and its cold start, channel supervision, trips and output tests
(chapter 12, R291 to R310, R317, R318). -/

namespace Sys2Proof.Machine

/-! ### Cold start (R308) -/

/-- The beacon content is valid: BEACON_VALID, or the content kept through S2 while the patrol of that wake runs
(R306, R308, assumption log 34). -/
def State.beaconReady (s : State) : Bool :=
  s.flag Obj.BEACON_VALID || (s.safety.patrolling && !s.safety.loadDue && s.beaconHead.valid)

/-- Bands that hold the stored region. -/
def State.storedBands (s : State) : List Nat :=
  let hd := s.beaconHead
  regionBands hd.rows hd.y0 hd.h

/-- Rails of the groups that feed the stored region. -/
def State.storedRails (s : State) : List Nat :=
  match s.storedBands with
  | [] => []
  | b :: rest => railsOfBands b (rest.getLastD b)

/-- A cold start is needed: L7 is not armed, the scan drive is not RUNNING, or a rail of the region is OFF (R308). -/
def State.coldNeeded (s : State) : Bool :=
  !s.l7Armed || s.reg Obj.SCAN_STATE != 2 || s.storedRails.any fun n => (s.rail n).mode == .off

/-- The rail of a rail object. -/
def railOfObj (obj : Nat) : Option Nat :=
  if 0x410000 ≤ obj && obj < 0x413000 then some (obj / 256 - 0x4100) else none

/-- A RAILn_MODE put in force is a request of that mode to a rail that is on (07 R191). -/
def noteMode (obj : Nat) (s : State) : State :=
  match railOfObj obj with
  | some n =>
    if obj = Obj.RAIL_MODE n then s.setRail n { s.rail n with modeDue := (s.rail n).on, forced := false } else s
  | none => s

/-- Put one object image of the block in force. -/
def applyImage (s : State) (p : Nat × Bytes) : State :=
  match rowOf p.1 with
  | some r => (match r.ty with
    | .domain _ => s.setTab p.1 0 p.2
    | .bool => s.setReg p.1 (leNat p.2)
    | .fixed _ => noteMode p.1 (s.setReg p.1 (leNat p.2))
    | .cmd => s)
  | none => s

/-- Every object image of the block, those of rails that stay as they are included (R308 step 2); ADC_TRIMS is restored
with the rails that start (step 3). -/
def applyBlock (s : State) : State :=
  (s.settings.filter fun p => p.1 != Obj.ADC_TRIMS).foldl applyImage s

/-- ADC_TRIMS of a rail's two ADCs from the block, unless a full rotation has calibrated them (R308 step 3). -/
def restoreTrims (block : List (Nat × Bytes)) (n : Nat) (s : State) : State :=
  match setting block Obj.ADC_TRIMS with
  | some bs =>
    if s.reg Obj.ADC_TRIMS_STATE = 2 then s
    else [adcNumber .voltage n, adcNumber .current n].foldl
      (fun t a => t.setTab Obj.ADC_TRIMS (4 * a) ((bs.drop (4 * a)).take 4)) s
  | none => s

/-- Start every rail in OFF of the region's groups with its objects from the block (R308 steps 3 and 6). -/
def startStoredRails (s : State) : State :=
  let block := s.settings
  s.storedRails.foldl (fun t n =>
    if t.mayStart n then
      let t1 := (block.filter fun p => railOfObj p.1 == some n).foldl applyImage t
      startRail n (restoreTrims block n t1)
    else t) s

/-- Where the cold start stands. -/
def setCold (c : ColdStep) (s : State) : State := { s with safety := { s.safety with cold := c } }

/-- Channel A's part of a cold start (R308 steps 1 to 6); with another tile model or timing in force, or a stop in
progress, the scan drive stops first. -/
def coldStart (s : State) : State :=
  let st := s.reg Obj.SCAN_STATE
  if st = 2 && s.tileModelSame && s.timingSame then setCold .scanning (startStoredRails s)
  else if st = 2 then
    setCold .stopping { s.setReg Obj.SCAN_STATE 3 with scan := { s.scan with stopCatches := 0, stopReady := false } }
  else if st = 3 then setCold .stopping s
  else setCold .scanning (startStoredRails (scanStart (applyBlock s)))

/-- A cold start that waited for the end of a scan stop goes on. -/
def resumeCold (s : State) : State := if s.safety.cold = .stopping then coldStart s else s

/-! ### Start and end of the display (R300, R301, R307, R310) -/

/-- The display without content (R307). -/
def showNothing (s : State) : State :=
  abandonFill { s.setReg Obj.EVAC_STATE 3 with safety := { s.safety with evacActive := true, evacEnding := false, cold := .none } }

/-- A demand has been recognised outside a safe blank: it is held under a thermal trip (14 R351), ends S1 (R301), and
leads to the scheduled display, a cold start, the load of a saved image or NO_CONTENT (R307 to R309, 17 R409). -/
def decideEvac (s : State) : State :=
  if s.power.tripped then { s with safety := { s.safety with evacFrom := none, evacHeld := true } }
  else
    let s1 := wakeS1 [1] s
    if s1.beaconReady then (if s1.coldNeeded then coldStart s1 else s1)
    else if s1.l7Armed then s1
    else if s1.imageSaved then setCold .loading (loadImage s1)
    else showNothing s1

/-- The loaded image is checked, and the cold start goes on or there is no content (R309). -/
def coldLoaded (s : State) : State :=
  if s.safety.cold ≠ .loading then s
  else if s.storeSound then coldStart (s.setFlag Obj.BEACON_VALID true)
  else showNothing (s.setFlag Obj.BEACON_VALID false)

/-- The frame boundary at grid time `b` (ns) starts or ends the display (R301, R308, R310). -/
def evacBoundary (b : Int) (s : State) : State :=
  if s.safety.evacActive then (if s.safety.evacEnding then endDisplay s else s)
  else match s.safety.evacFrom with
    | none => s
    | some t =>
      if b < t + 500000 || s.safety.cold == .stopping || s.safety.cold == .loading || s.safety.evacHeld || s.safeBlank then s
      else
        let cold := s.safety.cold == .scanning
        let s1 := s.setReg Obj.EVAC_STATE (if cold then 2 else 1)
        let s2 := if cold then s1.setReg Obj.REPLAY_BANDS (maskNat 32 s.storedBands.contains) else s1
        abandonFill { s2 with safety := { s2.safety with evacActive := true, cold := if cold then .shown else s.safety.cold } }

/-- No demand stands any more (R310): an active display ends at the next boundary, or at once without frame catches; one
that has not begun is cancelled (assumption log 35). -/
def releaseDemand (s : State) : State :=
  if s.safety.evacActive then
    if s.reg Obj.SCAN_STATE = 2 then { s with safety := { s.safety with evacEnding := true } } else endDisplay s
  else { s with safety := { s.safety with evacFrom := none, evacHeld := false, cold := .none } }

/-- A change of inputs, trips or reactions with all that follows, the choice of R307 and R308 included. -/
def safetyEvent (op : State → State) (s : State) : State :=
  let s1 := withSafety op s
  if s.safety.evacFrom.isNone && s1.safety.evacFrom.isSome then decideEvac s1 else s1

/-! ### Dual inputs (R294 to R296) -/

/-- A dual input of a channel. -/
def ChannelState.input (x : ChannelState) : DualInput → InputState
  | .safeBlank => x.safeBlank
  | .evac => x.evac

/-- Replace a dual input of a channel. -/
def ChannelState.setInput (x : ChannelState) (d : DualInput) (i : InputState) : ChannelState :=
  match d with
  | .safeBlank => { x with safeBlank := i }
  | .evac => { x with evac := i }

/-- A pin of a dual input takes a level at tick `now`: the disagreement and the proving cycle advance (R295, R296);
50 ms are 12 500 000 ticks. -/
def InputState.take (i : InputState) (isB level : Bool) (now : Nat) : InputState :=
  let j := if isB then { i with pinB := level } else { i with pinA := level }
  if i.agree && !j.agree then { j with since := some now }
  else if !i.agree && j.agree then
    let clean := !i.discrepant && ((i.since.map fun t => decide (now ≤ t + 12500000)).getD false)
    let k := { j with since := none, discrepant := false, discCounted := false, lastDemand := j.pinA }
    if j.pinA then { k with entered := clean && (i.entered || !i.lastDemand) }
    else { k with entered := false, cycled := i.cycled || (i.lastDemand && i.entered && clean) }
  else j

/-- An input is proven once both channels have seen a complete cycle (R296). -/
def noteProven (s : State) : State :=
  let blank := s.safety.chanA.safeBlank.cycled && s.safety.chanB.safeBlank.cycled
  let evac := s.safety.chanA.evac.cycled && s.safety.chanB.evac.cycled
  { s with safety := { s.safety with blankProven := s.safety.blankProven || blank, evacProven := s.safety.evacProven || evac } }

/-- A demand is recognised by channel `c`: it is counted and timed unless the other channel counted it (R295). -/
def countDemand (c : Channel) (d : DualInput) (s : State) : State :=
  let s1 := s.setChan c ((s.chan c).setInput d { (s.chan c).input d with counted := true })
  if ((s.chan (otherChannel c)).input d).counted then
    s.setChan c ((s.chan c).setInput d { (s.chan c).input d with counted := false })
  else
    (s1.bump (match d with
      | .safeBlank => Obj.SAFE_BLANK_DEMANDS
      | .evac => Obj.EVAC_DEMANDS)).setReg Obj.LAST_DEMAND_TIME s.stampA

/-- A channel takes a new level on a pin of a dual input. -/
def takePin (c : Channel) (d : DualInput) (isB level : Bool) (s : State) : State :=
  let i := (s.chan c).input d
  let j := i.take isB level s.ticks
  let s1 := s.setChan c { (s.chan c).setInput d j with evaluated := true }
  let s2 := if !i.demand && j.demand then countDemand c d s1
    else if i.demand && !j.demand then s1.setChan c ((s1.chan c).setInput d { j with counted := false })
    else s1
  noteProven s2

/-- An evacuation demand that appears acts outside a safe blank (R299, R301); one that ends ends the display (R310). -/
def followEvac (before s : State) : State :=
  if !before.evacDemand && s.evacDemand then
    if s.safety.evacActive then { s with safety := { s.safety with evacEnding := false } }
    else if s.safeBlank then s
    else startDemand s.nowNs s
  else if before.evacDemand && !s.evacDemand then releaseDemand s
  else s

/-- A safe-blank demand that stood at the entry to S1 and has been released wakes the device when it comes again (14
R358). -/
def noteStanding (s : State) : State :=
  { s with power := { s.power with blankStood := s.power.blankStood && s.blankDemand } }

/-- SAFETY_INPUT_RECOGNISED (R294). -/
def recognise (c : Channel) (pin : SafetyPin) (level : Bool) (s : State) : State :=
  match pin with
  | .safeBlankA => noteStanding (safetyEvent (takePin c .safeBlank false level) s)
  | .safeBlankB => noteStanding (safetyEvent (takePin c .safeBlank true level) s)
  | .evacA => safetyEvent (fun t => followEvac t (takePin c .evac false level t)) s
  | .evacB => safetyEvent (fun t => followEvac t (takePin c .evac true level t)) s
  | .railfbA =>
    s.setChan c (match c with
      | .a => { s.chan c with railfb := level }
      | .b => { s.chan c with otherfb := level })
  | .railfbB =>
    s.setChan c (match c with
      | .b => { s.chan c with railfb := level }
      | .a => { s.chan c with otherfb := level })

/-- A discrepancy is recorded: the input is unproven in both channels (R295, R296). -/
def discrepancy (c : Channel) (d : DualInput) (s : State) : State :=
  let i := (s.chan c).input d
  if i.agree || i.discrepant then s
  else
    let first := !((s.chan (otherChannel c)).input d).discCounted
    let mark (x : ChannelState) : ChannelState := x.setInput d { x.input d with cycled := false, entered := false }
    let s1 := s.setChan c ((s.chan c).setInput d { i with discrepant := true, discCounted := first })
    let s2 := { s1 with safety := { s1.safety with chanA := mark s1.safety.chanA, chanB := mark s1.safety.chanB } }
    let s3 := match d with
      | .safeBlank => { s2 with safety := { s2.safety with blankProven := false } }
      | .evac => { s2 with safety := { s2.safety with evacProven := false } }
    if first then s3.bump Obj.DISCREPANCIES else s3

/-! ### Supervision and trips (R293, R298) -/

/-- MILLBRAKE_STATUS_READ: a read that times out or finds no advance trips channel A with cause 4 (R293). -/
def statusRead (answered : Bool) (s : State) : State :=
  let count := s.reg Obj.MILLBRAKE_COUNT
  if answered && s.safety.lastCount != some count then
    { s with safety := { s.safety with statusBad := false, lastCount := some count } }
  else trip 4 { s with safety := { s.safety with statusBad := true } }

/-- The cause of a trip is present (R298, assumption log 36). -/
def State.causePresent (s : State) (cause : Nat) : Bool :=
  match cause with
  | 1 => !s.safety.excess.isEmpty
  | 2 => s.safety.chanA.railfb != s.safety.chanA.railen || s.safety.chanB.railfb != s.safety.chanB.railen
  | 3 => s.fault.heartbeatLost
  | 4 => s.safety.statusBad
  | 5 => s.fault.clockFault
  | _ => false

/-- SAFETY_TRIP_CLEAR: each latched trip whose cause is absent ends (R298). -/
def actTripClear : Action := fun _ s =>
  .done (safetyEvent (fun t => { t with safety := { t.safety with trips := t.safety.trips.filter t.causePresent } }) s)

/-! ### Luminance inputs (R311) -/

/-- AMBIENT_LUX. -/
def actAmbientLux : Action := fun q s =>
  .done { s.setReg Obj.AMBIENT_LUX (leNat q.data) with safety := { s.safety with ambientFresh := true } }

/-! ### Output tests (R317, R318) -/

/-- A channel starts an off-pulse while its output is high and the other RAILFB reads high. -/
def pulseStart (c : Channel) (s : State) : State :=
  let x := s.chan c
  if x.permission && x.railen && x.otherfb && x.test == .idle then s.setChan c { x with railen := false, test := .pulse }
  else s

/-- The pulse ends with RAILFB read. -/
def pulseEnd (c : Channel) (feedback : Bool) (s : State) : State :=
  let x := s.chan c
  if x.test = .pulse then s.setChan c { x with railen := true, test := .readback, readLow := !feedback } else s

/-- A test fails: counted, and the second in a row trips with cause 2 (R317). -/
def failTest (c : Channel) (s : State) : State :=
  let x := s.chan c
  let s1 := (s.setChan c { x with test := .idle, fails := x.fails + 1 }).bump Obj.OUTPUT_TEST_FAILS
  if 2 ≤ x.fails + 1 then trip 2 s1 else s1

/-- 50 µs after the pulse: the verdict. -/
def testReadback (c : Channel) (feedback : Bool) (s : State) : State :=
  let x := s.chan c
  if x.test ≠ .readback then s
  else if x.readLow && feedback then
    let s1 := s.setChan c { x with test := .idle, fails := 0, overdue := false }
    (s1.bump Obj.OUTPUT_TEST_PASSES).setReg (match c with
      | .a => Obj.LAST_TEST_A
      | .b => Obj.LAST_TEST_B) s.stampA
  else failTest c s

/-- RAILFB has differed from its output for 1 ms outside a pulse. -/
def feedbackMismatch (c : Channel) (s : State) : State :=
  let x := s.chan c
  if x.test == .idle && x.railfb != x.railen then failTest c s else s

/-- An output has stayed high for 12 s without a passed test. -/
def testOverdue (c : Channel) (s : State) : State :=
  if (s.chan c).permission then s.setChan c { s.chan c with overdue := true } else s

/-! ### The meanings -/

/-- The island of a channel: COX for A, SAFE for B (Table 1). -/
def channelIsland : Channel → Nat
  | .a => 6
  | .b => 7

/-- An event of a channel, while the safety functions run (R319). -/
def onChannel (c : Channel) (op : State → State) : State → Host.Outcome State Fault Refusal :=
  onIslandIf (channelIsland c) (fun s => s.safetyRuns) op

/-- SAFETY_INPUT_RECOGNISED (R294). -/
def execSafetyInputRecognised (channel : Channel) (pin : SafetyPin) (level : Bool) :
    State → Host.Outcome State Fault Refusal :=
  onChannel channel (recognise channel pin level)

/-- DISCREPANCY_TIMEOUT (R295). -/
def execDiscrepancyTimeout (channel : Channel) (input : DualInput) : State → Host.Outcome State Fault Refusal :=
  onChannel channel (discrepancy channel input)

/-- EVAC_IMAGE_SAVE (R309). -/
def execEvacImageSave (rq : Req) (data : Bytes) : State → Host.Outcome State Fault Refusal :=
  hostWrite actEvacImageSave rq Obj.EVAC_IMAGE_SAVE data

/-- WATCHDOG_TIMEOUT (R293): no heartbeat inversion for 5 ms, trip with cause 3. -/
def execWatchdogTimeout : State → Host.Outcome State Fault Refusal :=
  onChannel .b fun s => trip 3 { s with fault := { s.fault with heartbeatLost := true } }

/-- WATCHDOG_PAIR_INVERSION (R293, 13 R325), with the single-bit errors of the Cox's program and data that its reads met
since the last one (02 R49, R53, assumption log 151). -/
def execWatchdogPairInversion (corrected : Nat) : State → Host.Outcome State Fault Refusal :=
  onIsland 7 fun s => { s.bumpAt Obj.SRAM_CORRECTED 4 corrected with fault := { s.fault with heartbeatLost := false } }

/-- MILLBRAKE_STATUS_READ (R293). -/
def execMillbrakeStatusRead (answered : Bool) : State → Host.Outcome State Fault Refusal :=
  onChannel .a (statusRead answered)

/-- MILLBRAKE_CYCLE (R293). -/
def execMillbrakeCycle : State → Host.Outcome State Fault Refusal := onIsland 7 fun s => s.bump Obj.MILLBRAKE_COUNT

/-- SAFETY_TRIP_CLEAR (R298). -/
def execSafetyTripClear (rq : Req) (data : Bytes) : State → Host.Outcome State Fault Refusal :=
  hostWrite actTripClear rq Obj.SAFETY_TRIP_CLEAR data

/-- AMBIENT_LUX_WRITE (R311). -/
def execAmbientLuxWrite (rq : Req) (data : Bytes) : State → Host.Outcome State Fault Refusal :=
  hostWrite actAmbientLux rq Obj.AMBIENT_LUX data

/-- AMBIENT_TIMEOUT (R311). -/
def execAmbientTimeout : State → Host.Outcome State Fault Refusal :=
  onIsland 6 fun s => { s with safety := { s.safety with ambientFresh := false } }

/-- OUTPUT_TEST_PULSE_START (R317). -/
def execOutputTestPulseStart (channel : Channel) : State → Host.Outcome State Fault Refusal :=
  onChannel channel (pulseStart channel)

/-- OUTPUT_TEST_PULSE_END (R317). -/
def execOutputTestPulseEnd (channel : Channel) (feedback : Bool) : State → Host.Outcome State Fault Refusal :=
  onChannel channel (pulseEnd channel feedback)

/-- OUTPUT_TEST_READBACK (R317). -/
def execOutputTestReadback (channel : Channel) (feedback : Bool) : State → Host.Outcome State Fault Refusal :=
  onChannel channel (testReadback channel feedback)

/-- RAILFB_MISMATCH (R317). -/
def execRailfbMismatch (channel : Channel) : State → Host.Outcome State Fault Refusal :=
  onChannel channel (feedbackMismatch channel)

/-- OUTPUT_TEST_OVERDUE (R318). -/
def execOutputTestOverdue (channel : Channel) : State → Host.Outcome State Fault Refusal :=
  onChannel channel (testOverdue channel)

/-- BEACON_PATROL_COMPLETE (R306); after a release of RESET_N, content found invalid makes channel A load a saved image
(R309). `corrected` counts the single-bit errors of the store (02 R53). -/
def execBeaconPatrolComplete (corrected : Nat) (uncorrectable : List Nat) : State → Host.Outcome State Fault Refusal :=
  onIslandIf 7 (fun s => s.safety.patrolling) fun s =>
    let s1 := patrolComplete uncorrectable (s.bumpAt Obj.SRAM_CORRECTED 6 corrected)
    let s2 := { s1 with safety := { s1.safety with loadDue := false } }
    if s.safety.loadDue && !s1.flag Obj.BEACON_VALID && s.imageSaved then loadImage s2 else s2

end Sys2Proof.Machine
end

