-- ==== Sys2Proof/Machine/Faults.lean ====
section
/-! DEFINITION. Fault collection, the FAULT pin, freeze and JTAG (chapter 13, 16 R402), and the clock and PLL checks
(02 R38, 13 R332). -/

namespace Sys2Proof.Machine

/-! ### Live, latched, count and time (R326 to R329) -/

/-- The live bit of source `n` rises (R327 step 2) with its event (R329). -/
def rise (n : Nat) (s : State) : State :=
  let s1 := s.bumpSatAt Obj.FAULT_COUNT n
  let s2 := if s.fault.latched.contains n then s1 else s1.setRegAt Obj.FAULT_FIRST_TIME n s.stampA
  let s3 := s2.setRegAt Obj.FAULT_LAST_TIME n s.stampA
  let s4 := { s3 with fault := { s3.fault with live := s3.fault.live ++ [n], latched := insertOnce n s3.fault.latched } }
  if 1 ≤ s4.reaction n then s4.event (0x100 + n) (natLE 2 (s4.regAt Obj.FAULT_COUNT n)) else s4

/-- The origin of a pulse source starts the pulse of an occurrence that it holds (R326). -/
def startPulse (n : Nat) (s : State) : State :=
  let held := Sparse.get (fun _ => 0) s.fault.waiting n
  if pulseSource n && 0 < held && !s.fault.pulsing.contains n then
    { s with fault := { s.fault with waiting := Sparse.set (fun _ => 0) s.fault.waiting n (held - 1)
                                     pulsing := s.fault.pulsing ++ [n] } }
  else s

/-- FAULT_SOURCE_RISE (R327): a BLANK reaction withdraws the permissions (R329). -/
def sourceRise (n : Nat) (s : State) : State :=
  safetyEvent (fun t =>
    let t1 := startPulse n t
    if t1.reporting n && !t1.fault.live.contains n then rise n t1 else t1) s

/-- A pulse has lasted 1 µs (R326). -/
def pulseOver (n : Nat) (s : State) : State := { s with fault := { s.fault with pulsing := remove n s.fault.pulsing } }

/-- Clear one source (R327 step 3, R334 step 3): only a latched bit whose live bit is 0. -/
def clearSource (n : Nat) (s : State) : State :=
  if s.fault.live.contains n || !s.fault.latched.contains n then s
  else
    let s1 := { s with fault := { s.fault with latched := remove n s.fault.latched, held := remove n s.fault.held } }
    if 1 ≤ s.reaction n then s1.event (0x180 + n) [] else s1

/-- FAULT_CLEAR: a mask with missing bytes 0 (15 R415). A BLANK reaction that ends so ends its safe blank (R329). -/
def actFaultClear : Action := fun q s =>
  let mask := leNat (q.data.take 12)
  .done (safetyEvent (fun t => foldN 96 (fun u n => if bitAt mask n then clearSource n u else u) t) s)

/-- FAULT_FORCE (R331). -/
def actFaultForce : Action := fun q s => .done (s.setTab Obj.FAULT_FORCE 0 (q.data.take 12))

/-- FAULT_REACTION (R330): it applies to a latched bit that is already set. -/
def actFaultReaction : Action := fun q s =>
  .done (safetyEvent (fun t => t.setTab Obj.FAULT_REACTION 0 (q.data.take 96)) s)

/-- FAULT_COUNTERS_CLEAR (R328). -/
def actFaultCountersClear : Action := fun _ s =>
  .done (s.clearRegs [Obj.FAULT_COUNT, Obj.FAULT_FIRST_TIME, Obj.FAULT_LAST_TIME])

/-! ### Report pairs (R324) -/

/-- A pair reads discrepant on the 16th sample in a row. -/
def confirmPair (n : Nat) (s : State) : State :=
  if 95 ≤ n then s else { s with fault := { s.fault with discrepant := insertOnce n s.fault.discrepant } }

/-- A pair reads 0b01 or 0b10 again. -/
def pairAgain (n : Nat) (s : State) : State := { s with fault := { s.fault with discrepant := remove n s.fault.discrepant } }

/-! ### FAULT_HELD (R334) -/

/-- AON copies the mask of latched alarm-class sources; sources that it holds already stay until cleared. -/
def holdFaults (s : State) : State :=
  let alarms := s.fault.latched.filter fun n => 2 ≤ s.reaction n
  { s with fault := { s.fault with held := (List.range 96).filter fun n => alarms.contains n || s.fault.held.contains n } }

/-- The collector runs again: every source held is latched, its count 1 and its times 0. -/
def takeHeld (s : State) : State :=
  s.fault.held.foldl (fun t n => t.setRegAt Obj.FAULT_COUNT n 1)
    { s with fault := { s.fault with latched := s.fault.held, live := [], waiting := [], pulsing := [] } }

/-! ### Freeze (R335, R336) -/

/-- Both outputs drop at once, whatever the permissions (R292). -/
def dropOutputs (s : State) : State :=
  let s1 := abandonTest .b (abandonTest .a s)
  (s1.setChan .a { s1.chan .a with railen := false }).setChan .b { s1.chan .b with railen := false }

/-- Where a freeze holds a crossing: `v` is a free value, its steps 1 to 4 a handshake in flight, 0 an idle crossing,
and the requester cycles elapsed (02 R39, R44, assumption log 137). -/
def Crossing.heldAt (x : Crossing) (v : Nat) : Crossing :=
  let step := v % 5
  if step = 0 then x
  else
    { x with req := decide (step ≤ 2), ack := step == 2 || step == 3, step := step, elapsed := v / 5
             reqTag := !x.reqTag, ackTag := if 2 ≤ step then !x.reqTag else x.ackTag }

/-- The island that raises the requests of crossing Hh (02 R42 Table 2). -/
def crossingSender (h : Nat) : Nat := natAt [0, 2, 1, 1, 4, 4, 5, 5, 6, 4, 7] (h - 1)

/-- The handshakes in flight at a freeze are held where they stand (02 R44): which ones, and how far, no command says. -/
def holdHandshakes (s : State) : State :=
  (List.range 11).foldl (fun t i =>
    if t.runs (crossingSender (i + 1)) then (t.setCrossing (i + 1) ((t.crossing (i + 1)).heldAt t.free)).drawn else t) s

/-- A freeze: the outputs drop, every island stops with its handshakes held, AON sets its latch (R336). -/
def freeze (s : State) : State :=
  let s1 := holdHandshakes (dropOutputs s)
  { s1 with device := { s1.device with frozen := true } }

/-- The device is held in reset: there is nothing to freeze. -/
def State.inReset (s : State) : Bool := s.device.phase == .powerOnReset || s.device.phase == .resetHeld

/-! ### The freeze read-out chain (R337) -/

/-- `n` bits of a number, least significant first. -/
def bitsLow (n v : Nat) : List Bool := (List.range n).map (bitAt v)

/-- One crossing record (Table 3). -/
def crossingRecord (h : Nat) (x : Crossing) : List Bool :=
  bitsLow 32 (b2n x.req + 2 * b2n x.ack + 4 * b2n x.reqTag + 8 * b2n x.ackTag + 16 * (x.step % 16) + 256 * h +
    65536 * min x.elapsed 0xFFFF)

/-- The chain of a frozen device (Table 2); outside a freeze it reads zeros. -/
def State.freezeChain (s : State) : List Bool :=
  if !s.device.frozen then List.replicate 896 false
  else
    bitsLow 16 0x465A ++ bitsLow 8 1 ++ List.replicate 9 true ++ List.replicate 31 false ++
    (List.range 11).flatMap (fun h => crossingRecord (h + 1) (s.crossing (h + 1))) ++
    (List.range 96).map s.fault.live.contains ++ (List.range 96).map s.fault.latched.contains ++
    (List.range 9).flatMap fun i =>
      let l := Config.islandStateBits i s.freeCtr
      bitsLow 32 l.length ++ l

/-! ### JTAG (16 R402): the TAP depends neither on RESET_N nor on a freeze -/

/-- The current instruction of the TAP. -/
def setTap (opcode : Nat) (s : State) : State := { s with device := { s.device with tap := opcode } }

/-- An instruction of the TAP, in any state of the device but the power-on reset. -/
def onTap (op : State → State) (s : State) : Host.Outcome State Fault Refusal :=
  if s.device.phase = .powerOnReset then .next s else .next (op s)

/-- EXTEST holds the outputs low and leaves the functional state undefined until the next release of RESET_N. -/
def extest (s : State) : State :=
  let s1 := setTap 0 s
  { s1 with device := { s1.device with extest := true } }

/-- KEYS_CLEAR erases the stored keys; those in force stay until the next reset (15 R366, assumption log 37). -/
def clearKeys (s : State) : State :=
  let s1 := setTap 0x2C s
  if s.alive 6 then
    { s1 with cop := { s1.cop with record := { s1.cop.record with keyOperator := 0, keyService := 0, keyOwner := 0 } } }
  else s1

/-! ### Clock and PLL checks -/

/-- The counts of a window lie within ±10 % of 25 000 and 32.768 (02 R38). -/
def clocksGood (ref xtal : Nat) : Bool :=
  decide (22500 ≤ ref) && decide (ref ≤ 27500) && decide (294912 ≤ 10000 * xtal) && decide (10000 * xtal ≤ 360448)

/-- CLOCK_CHECK_WINDOW: a count out of tolerance is a clock fault, trip cause 5 (02 R38, 12 R293). -/
def clockCheck (ref xtal : Nat) (s : State) : State :=
  let bad := !clocksGood ref xtal
  let s1 := { s with fault := { s.fault with clockFault := bad } }
  if bad then trip 5 s1 else s1

/-- A REFCLK-derived PLL of an island loses or regains lock (FS17). -/
def pllLock (i : Nat) (locked : Bool) (s : State) : State :=
  if 6 < i then s
  else { s with fault := { s.fault with
    pllUnlocked := if locked then remove i s.fault.pllUnlocked else insertOnce i s.fault.pllUnlocked } }

/-- The Cox takes a machine check on an uncorrectable error of its SRAM: FS18, and channel A drops its output (02 R49). -/
def machineCheck (offset : Nat) (s : State) : State :=
  let s1 := (s.sramUncorrectable 4 offset).occur 18
  withdraw .a { s1 with safety := { s1.safety with coxChecked := true } }

/-! ### The meanings -/

/-- FAULT_SOURCE_RISE (R327). -/
def execFaultSourceRise (source : Nat) : State → Host.Outcome State Fault Refusal := onIsland 7 (sourceRise source)

/-- FAULT_PULSE_END (R326). -/
def execFaultPulseEnd (source : Nat) : State → Host.Outcome State Fault Refusal := onIsland 7 (pulseOver source)

/-- PAIR_DISCREPANT_CONFIRM (R324). -/
def execPairDiscrepantConfirm (source : Nat) : State → Host.Outcome State Fault Refusal := onIsland 7 (confirmPair source)

/-- PAIR_DISCREPANCY_END (R324). -/
def execPairDiscrepancyEnd (source : Nat) : State → Host.Outcome State Fault Refusal := onIsland 7 (pairAgain source)

/-- FAULT_CLEAR (R327). -/
def execFaultClear (rq : Req) (data : Bytes) : State → Host.Outcome State Fault Refusal :=
  hostWrite actFaultClear rq Obj.FAULT_CLEAR data

/-- FAULT_FORCE_WRITE (R331). -/
def execFaultForceWrite (rq : Req) (data : Bytes) : State → Host.Outcome State Fault Refusal :=
  hostWrite actFaultForce rq Obj.FAULT_FORCE data

/-- FAULT_REACTION_WRITE (R330). -/
def execFaultReactionWrite (rq : Req) (data : Bytes) : State → Host.Outcome State Fault Refusal :=
  hostWrite actFaultReaction rq Obj.FAULT_REACTION data

/-- FAULT_COUNTERS_CLEAR (R328). -/
def execFaultCountersClear (rq : Req) (data : Bytes) : State → Host.Outcome State Fault Refusal :=
  hostWrite actFaultCountersClear rq Obj.FAULT_COUNTERS_CLEAR data

/-- FREEZE_PIN (R335): ignored while FREEZE_PIN_ENABLE is 0. -/
def execFreezePin : State → Host.Outcome State Fault Refusal :=
  onAon (fun s => !s.inReset && s.flag Obj.FREEZE_PIN_ENABLE) freeze

/-- JTAG_FREEZE (R335, R336): a frozen device, or one held in reset, only takes the instruction. -/
def execJtagFreeze (s : State) : Host.Outcome State Fault Refusal :=
  gate (s.device.phase != .powerOnReset)
    (fun t => if t.device.frozen || t.inReset then setTap 0x2A t else freeze (setTap 0x2A t)) s

/-- JTAG_FRZ_READ (R337). -/
def execJtagFrzRead : State → Host.Outcome State Fault Refusal :=
  onTap fun s => ((setTap 0x2B s).emit (.jtag s.freezeChain)).drawn

/-- JTAG_KEYS_CLEAR (15 R366). -/
def execJtagKeysClear : State → Host.Outcome State Fault Refusal := onTap clearKeys

/-- JTAG_EXTEST (16 R402). -/
def execJtagExtest : State → Host.Outcome State Fault Refusal := onTap extest

/-- JTAG_SAMPLE_PRELOAD (16 R402). -/
def execJtagSamplePreload : State → Host.Outcome State Fault Refusal :=
  onTap fun s => ((setTap 1 s).emit (.jtag (Config.boundaryScan s.freeCtr))).drawn

/-- JTAG_IDCODE (16 R402). -/
def execJtagIdcode : State → Host.Outcome State Fault Refusal :=
  onTap fun s => (setTap 2 s).emit (.jtag (bitsLow 32 Config.idcode))

/-- JTAG_BYPASS (16 R402): every other opcode acts as BYPASS. -/
def execJtagBypass (opcode : Nat) : State → Host.Outcome State Fault Refusal := onTap (setTap opcode)

/-- JTAG_TAP_RESET (16 R402): the TAP selects IDCODE (assumption log 12). -/
def execJtagTapReset : State → Host.Outcome State Fault Refusal := onTap (setTap 2)

/-- CLOCK_CHECK_WINDOW (02 R38). -/
def execClockCheckWindow (refCount xtalCount : Nat) : State → Host.Outcome State Fault Refusal :=
  onIsland 7 (clockCheck refCount xtalCount)

/-- PLL_UNLOCK (13 R332). -/
def execPllUnlock (island : Nat) : State → Host.Outcome State Fault Refusal := onIsland island (pllLock island false)

/-- PLL_RELOCK (13 R332). -/
def execPllRelock (island : Nat) : State → Host.Outcome State Fault Refusal := onIsland island (pllLock island true)

/-- COX_MACHINE_CHECK (02 R49). -/
def execCoxMachineCheck (offset : Nat) : State → Host.Outcome State Fault Refusal := onIsland 6 (machineCheck offset)

end Sys2Proof.Machine
end

