-- ==== Sys2Proof/Machine/Lanes.lean ====
section
/-! DEFINITION. What the lanes of a Rovan port carry (chapter 09): what each transmitter sends, training frames and READY
frames, codewords out of the delay line of the outgoing stream, and received codewords (10 R249, R251). -/

namespace Sys2Proof.Machine

/-! ### Ports -/

/-- The hidden state of a port. -/
def State.portLink (s : State) : Port → PortLink
  | .a => s.link.portA
  | .b => s.link.portB

/-- Replace it. -/
def State.setPort (s : State) (p : Port) (x : PortLink) : State :=
  match p with
  | .a => { s with link := { s.link with portA := x } }
  | .b => { s with link := { s.link with portB := x } }

/-- Change a port's hidden state. -/
def State.modPort (s : State) (p : Port) (f : PortLink → PortLink) : State := s.setPort p (f (s.portLink p))

/-- The streams of a port. -/
def State.stream (s : State) : Port → PortStream
  | .a => s.link.streamA
  | .b => s.link.streamB

/-- Replace them. -/
def State.setStream (s : State) (p : Port) (x : PortStream) : State :=
  match p with
  | .a => { s with link := { s.link with streamA := x } }
  | .b => { s with link := { s.link with streamB := x } }

/-- Change the streams of a port. -/
def State.modStream (s : State) (p : Port) (f : PortStream → PortStream) : State := s.setStream p (f (s.stream p))

/-- PORTp_STATE. -/
def State.portState (s : State) (p : Port) : Nat := s.reg (Obj.PORT_STATE (portIx p))

/-- Set PORTp_STATE. -/
def State.setPortState (s : State) (p : Port) (v : Nat) : State := s.setReg (Obj.PORT_STATE (portIx p)) v

/-- Number of lane `l` of a port among the objects of Table 8. -/
def laneIx (p : Port) (l : Nat) : Nat := 2 * portIx p + l

/-- LANE_ID, PORT_ID, TX_STATE, SEQ and SERIAL of a control word (R232 Table 1). -/
def wordLane (w : Nat) : Nat := w % 2
def wordPort (w : Nat) : Nat := field w 1 1
def wordTxState (w : Nat) : Nat := field w 2 2
def wordSeq (w : Nat) : Nat := field w 16 8
def wordSerial (w : Nat) : Nat := field w 24 32

/-! ### What a transmitter sends (R234 Table 2, R241, R244, 10 R266) -/

/-- What both transmit lanes of a port carry. -/
inductive Transmit where
  | electricalIdle | training | data | prbs13 | prbs31 | wakePattern
  deriving DecidableEq, Repr

/-- What the transmitters of a port send now: nothing while LINK does not run; the wake pattern overrides training; in
TEST the pattern of PORTp_TEST_MODE, where values above 2 act as 2. -/
def State.sends (s : State) (p : Port) : Transmit :=
  if !s.runs 0 then .electricalIdle
  else if (s.portLink p).waking then .wakePattern
  else if s.portState p = 0 || s.portState p = 8 then .electricalIdle
  else if s.portState p = 9 then (if s.reg (Obj.PORT_TEST_MODE (portIx p)) = 1 then .prbs13 else .prbs31)
  else if s.portState p = 6 || s.portState p = 7 || (s.portLink p).ownData then .data
  else .training

/-! ### Training frames (R231 to R233, R236) -/

/-- The control word that transmit lane `l`, which is logical lane `l`, sends next (R226, R232 Table 1): in HANDOFF the
READY frames count down from 3. -/
def State.ownWord (s : State) (p : Port) (l : Nat) : Nat :=
  let x := s.portLink p
  let ready := s.portState p == 5
  let seq := if ready then 3 - x.ready else (s.stream p).frames % 256
  controlWord (l + 2 * portIx p + 4 * b2n ready + 256 * b2n x.rxLocked + 512 * b2n x.rxAdapted + 1024 * b2n x.rxVerified +
    2048 * b2n x.bodyPrbs31 + 65536 * seq + 16777216 * (Config.deviceSerial % 4294967296))

/-- The body of the next frame of a lane, and the lane's registers after it: PRBS13Q goes on from its seed, PRBS31Q from
`first` when it has not been sent yet. -/
def bodyOf (long : Bool) (r13 : Nat) (r31 : Option Nat) (first : Nat) : List Nat × Nat × Option Nat :=
  if long then
    let b := patternOf prbs31 4000 (r31.getD first)
    (b.1, r13, some b.2)
  else
    let b := patternOf prbs13 4000 r13
    (b.1, b.2, r31)

/-- One training frame leaves on both lanes. -/
def sendFrame (p : Port) (s : State) : State :=
  let x := s.stream p
  let long := (s.portLink p).bodyPrbs31
  let first := s.free % 2147483647 + 1
  let a := bodyOf long x.body0 x.long0 first
  let b := bodyOf long x.body1 x.long1 first
  let s1 := s.emit (.trainingFrame p (trainingFrame (s.ownWord p 0) a.1) (trainingFrame (s.ownWord p 1) b.1))
  let s2 := s1.setStream p { x with frames := (x.frames + 1) % 256, body0 := a.2.1, long0 := a.2.2, body1 := b.2.1, long1 := b.2.2 }
  let s3 := if s.portState p = 5 then s2.modPort p fun y => { y with ready := y.ready + 1 } else s2
  if long && x.long0.isNone then s3.drawn else s3

/-- A frame may leave: the port trains, and its four READY frames have not all left. -/
def State.framing (s : State) (p : Port) : Bool := s.sends p == .training && !(s.portState p == 5 && 4 ≤ (s.portLink p).ready)

/-! ### Codewords sent (R228, R230) -/

/-- A codeword of 20 blocks leaves. -/
def emitCodeword (p : Port) (blocks : List Block) (s : State) : State :=
  let x := s.stream p
  let l := sendLevels blocks x.sent0 x.sent1
  (s.setStream p { x with sent0 := l.1.getLastD x.sent0, sent1 := l.2.getLastD x.sent1, codewords := x.codewords + 1 }).emit
    (.codeword p l.1 l.2)

/-- The first codeword of data mode, and every 8 192nd, is an alignment codeword. -/
def alignIfDue (p : Port) (s : State) : State :=
  let n := (s.stream p).codewords
  if n % 8192 = 0 then
    emitCodeword p (alignmentBlocks (portIx p) (n / 8192 % 256) (Config.deviceSerial % 4294967296)) s
  else s

/-- The next 20 blocks leave as a codeword, behind an alignment codeword that is due. -/
def sendCodeword (p : Port) (s : State) : State :=
  let x := s.stream p
  emitCodeword p (x.forming.take 20) (alignIfDue p (s.setStream p { x with forming := x.forming.drop 20 }))

/-- A local packet has left whole (10 R252, R257, 04 R120). -/
def packetLeft (p : Port) (k : LocalPacket) (s : State) : State :=
  let s1 := s.bump (Obj.PKT_LOCAL_SENT (portIx p))
  let s2 := if k.kind = 0x04 then s1.bump Obj.EVENTS_SENT else s1
  if k.lastEcho then { s2.bump Obj.ECHO_FRAMES_SENT with layers := { s2.layers with echoSending := none } } else s2

/-- A block leaves the delay line: it joins the codeword in formation. -/
def leaveLine (p : Port) (s : State) (b : LineBlock) : State :=
  let s1 := (b.ends.map fun k => packetLeft p k s).getD s
  let x := s1.stream p
  let s2 := s1.setStream p { x with forming := x.forming ++ [b.block]
                                    sinceIdle := if b.block = {} then 0 else x.sinceIdle + 1 }
  if 20 ≤ x.forming.length + 1 then sendCodeword p s2 else s2

/-- Blocks enter the delay line of an outgoing stream, and as many leave it (10 R251). -/
def carry (p : Port) (blocks : List Block) (s : State) : State :=
  let x := s.stream p
  let all := x.line ++ blocks.map fun b => { block := b }
  (all.take blocks.length).foldl (leaveLine p) (s.setStream p { x with line := all.drop blocks.length })

/-- IDLE blocks. -/
def idles (n : Nat) : List Block := List.replicate n {}

/-! ### The passing of time (assumption log 166) -/

/-- Training frames that end as `n` ticks of 4 ns pass from tick `t`: 4 096 symbols of 28 GBd are 256/7 ticks. -/
def framesIn (t n : Nat) : Nat := (t + n) * 7 / 256 - t * 7 / 256

/-- Codewords that end: 1 360 symbols are 85/7 ticks. -/
def codewordsIn (t n : Nat) : Nat := (t + n) * 7 / 85 - t * 7 / 85

/-- What a port sends as `n` ticks pass: training frames; and codewords of IDLE where no stream from the other port moves
its delay line. -/
def transmit (n : Nat) (s : State) (p : Port) : State :=
  if s.sends p = .training then foldN (framesIn s.ticks n) (fun t _ => if t.framing p then sendFrame p t else t) s
  else if s.sends p = .data && !s.up (otherPort p) then foldN (codewordsIn s.ticks n) (fun t _ => carry p (idles 20) t) s
  else s

/-- What both ports send as `n` ticks pass. -/
def transmitBoth (n : Nat) (s : State) : State := transmit n (transmit n s .a) .b

/-! ### Codewords received (R228, R229, R235, 10 R249) -/

/-- The levels of logical lanes 0 and 1: each lane upright, and the two in the order resolved. -/
def State.logicalLevels (s : State) (p : Port) (levels0 levels1 : List Nat) : List Nat × List Nat :=
  let x := s.portLink p
  let a := upright x.inv0 levels0
  let b := upright x.inv1 levels1
  if wordLane x.word0 = 1 then (b, a) else (a, b)

/-- A codeword is decoded: symbols corrected, none when uncorrectable, and its blocks. -/
def hearCodeword (p : Port) (levels0 levels1 : List Nat) (s : State) : (Option Nat × List RxBlock) × State :=
  let x := s.stream p
  let l := s.logicalLevels p levels0 levels1
  (readLevels l.1 l.2 x.heard0 x.heard1,
    s.setStream p { x with heard0 := l.1.getLastD x.heard0, heard1 := l.2.getLastD x.heard1 })

/-- The elastic buffer passes blocks on at a fill: an IDLE is deleted above 24 blocks, and one is inserted beside it below
8. The blocks passed on, the fill and the adjustments. -/
def elastic : Nat → List RxBlock → List RxBlock × Nat × Nat
  | fill, [] => ([], fill, 0)
  | fill, b :: bs =>
    if b.block = {} && !b.bad && 24 < fill then
      let r := elastic (fill - 1) bs
      (r.1, r.2.1, r.2.2 + 1)
    else if b.block = {} && !b.bad && fill < 8 then
      let r := elastic (fill + 1) bs
      (b :: {} :: r.1, r.2.1, r.2.2 + 1)
    else
      let r := elastic fill bs
      (b :: r.1, r.2)

end Sys2Proof.Machine
end

