-- ==== Sys2Proof/Machine/Time.lean ====
section
/-! DEFINITION. Network time (chapter 08): the counters and their ticks, the servo and domain states, the choice of the
active domain, link delays, PTP on the T1S port, and sleep accounting. -/

namespace Sys2Proof.Machine

/-! ### The counters (R206) -/

/-- A counter holds 48 bits of seconds: its modulus in 2^-32 ns. -/
abbrev counterSpan : Nat := 281474976710656 * 1000000000 * 4294967296

/-- A counter value within its 48 bits of seconds. -/
def wrapCounter (c : Int) : Nat := (c % (counterSpan : Nat)).toNat

/-- INC of a fractional frequency correction `y` in ppb: INC_NOM + round(INC_NOM × y) (R206). -/
def incOf (y : Rat) : Nat := (0x400000000 + roundRat (17179869184 * y / 1000000000)).toNat

/-- One host command on a counter at a tick (R213). -/
def TickAction.act : TickAction → Nat → Nat
  | .set v, _ => wrapCounter ((v.sec * 1000000000 + v.ns : Nat) * 4294967296 : Int)
  | .adjust n, c => wrapCounter (c + n * 4294967296)

/-- One TIME tick of a domain: the increment, the servo step, then the host commands in order (R206, R213). The second
part is what the steps moved the counter by. -/
def DomState.tick (x : DomState) : DomState × Int :=
  let inc := x.nextInc.getD x.inc
  let c0 := wrapCounter (x.counter + inc)
  let c1 := wrapCounter (c0 + x.step)
  let c2 := x.actions.foldl (fun c a => a.act c) c1
  ({ x with counter := c2, inc := inc, nextInc := none, step := 0, actions := [] }, x.step + ((c2 : Int) - c1))

/-- Move the catch offset by a step of the active domain (R218). -/
def shiftOffset (d : Dom) (by' : Int) (s : State) : State :=
  if s.active = d then
    { s with time := { s.time with catchGen := { s.time.catchGen with offset := s.time.catchGen.offset + by' } } }
  else s

/-- Tokens of the upstream bucket fill by one tick of 4 ns: R Mbit/s are R / 64 000 blocks of 256 bits, at most 48
blocks (10 R252). -/
def fillTokens (s : State) : State :=
  let r := s.atMost Obj.UPSTREAM_RESERVE 100000
  { s with traffic := { s.traffic with tokens := min (s.traffic.tokens + r) 3072000 } }

/-- One tick of the TIME clock, 4 ns (R206, assumption log 2). -/
def timeTick (s : State) : State :=
  let a := s.time.domA.tick
  let b := s.time.domB.tick
  let s0 := transmitBoth 1 s
  let s1 := { s0 with time := { s0.time with domA := a.1, domB := b.1 }, ticks := s.ticks + 1 }
  fillTokens (shiftOffset .b b.2 (shiftOffset .a a.2 s1))

/-! ### The active domain (R220, R221) -/

/-- Catches are issued: ACTIVE_DOMAIN takes effect at the next of them. -/
def State.issuing (s : State) : Bool := s.time.catchGen.issuing

/-- Change the generator's fields. -/
def State.modCatch (s : State) (f : CatchState → CatchState) : State :=
  { s with time := { s.time with catchGen := f s.time.catchGen } }

/-- Follow a domain at once; each change is counted. -/
def followDomain (d : Nat) (s : State) : State :=
  if s.time.catchGen.dom = d then s else (s.modCatch fun g => { g with dom := d }).bump Obj.DOMAIN_SWITCHES

/-- ACTIVE_DOMAIN (R220). -/
def actActiveDomain : Action := fun q s =>
  let v := leNat q.data
  let d := if v = 1 then 1 else 0
  let s1 := s.setReg Obj.ACTIVE_DOMAIN v
  .done (if s.issuing then s1.modCatch fun g => { g with hostDom := some d } else followDomain d s1)

/-- The scan drive stops: no catch is issued, and a switch that waited for one takes effect at once (R220, R221). -/
def stopCatches (s : State) : State :=
  let g := s.time.catchGen
  let s1 := s.modCatch fun x => { x with issuing := false, hostDom := none, autoDom := none, reanchor := false, unaligned := false }
  let s2 := (g.autoDom.map fun d => followDomain d s1).getD s1
  (g.hostDom.map fun d => followDomain d s2).getD s2

/-- The active domain has entered HOLDOVER while the other is LOCKED: an automatic switch (R221). -/
def autoSwitch (d : Dom) (s : State) : State :=
  let o : Dom := match d with
    | .a => .b
    | .b => .a
  if s.flag Obj.AUTO_SWITCH && s.active = d && (s.dom o).mode == .locked then
    if s.issuing then
      let s1 := s.modCatch fun g => { g with autoDom := some (domIx o) }
      if s.time.catchGen.hostDom.isNone then s1.setReg Obj.ACTIVE_DOMAIN (domIx o) else s1
    else followDomain (domIx o) (s.setReg Obj.ACTIVE_DOMAIN (domIx o))
  else s

/-! ### The servo (R212 to R214) -/

/-- L of R212, ppb. -/
def State.freqLimit (s : State) (d : Dom) : Rat := (s.limited (Obj.DOM_FREQ_LIMIT (domIx d)) 1000 500000 : Nat)

/-- A value held within ±l. -/
def within (l v : Rat) : Rat := min (max v (-l)) l

/-- y of a free domain: DOMx_FREQ_TRIM within ±L (R225). -/
def State.trim (s : State) (d : Dom) : Rat := within (s.freqLimit d) (s.sreg (Obj.DOM_FREQ_TRIM (domIx d)) 32 : Int)

/-- An I32 object takes a value, saturating. -/
def State.setI32 (s : State) (obj : Nat) (v : Int) : State :=
  s.setReg obj (image 32 (min (max v (-2147483648)) 2147483647))

/-- y and I take effect: INC from the next tick, DOMx_FREQ at once (R212). -/
def setFrequency (d : Dom) (y i : Rat) (s : State) : State :=
  (s.setDom d { s.dom d with y := y, integral := i, nextInc := some (incOf y) }).setI32 (Obj.DOM_FREQ (domIx d)) (roundRat y)

/-- The state of a domain becomes HOLDOVER (R214), and the active domain may switch (R221). -/
def enterHoldover (d : Dom) (s : State) : State :=
  autoSwitch d (s.setDom d { s.dom d with mode := .holdover, lockRun := 0, outlier := false })

/-- τ of R212 in seconds: time since the last processed measurement, 0.1 … 10 s, 1 s for the first. -/
def State.sinceMeasured (s : State) (d : Dom) : Rat :=
  match (s.dom d).lastTick with
  | none => 1
  | some t => min (max ((4 * ((s.ticks : Int) - t) : Int) / 1000000000 : Rat) (1 / 10)) 10

/-- The servo update without a step (R212), θ in ns. -/
def servoUpdate (d : Dom) (theta : Rat) (s : State) : State :=
  let l := s.freqLimit d
  let r := theta / s.sinceMeasured d
  let i := within l ((s.dom d).integral - (s.reg (Obj.DOM_KI (domIx d)) : Rat) / 65536 * r)
  setFrequency d (within l (i - (s.reg (Obj.DOM_KP (domIx d)) : Rat) / 65536 * r)) i s

/-- The servo steps the counter by −θ within ±STEP_MAX at the next tick; y := I (R212, R213). -/
def servoStep (d : Dom) (theta : Rat) (s : State) : State :=
  let m : Rat := (s.reg (Obj.DOM_STEP_MAX (domIx d)) : Nat)
  let s1 := setFrequency d (s.dom d).integral (s.dom d).integral s
  (s1.setDom d { s1.dom d with step := roundRat (4294967296 * within m (-theta)) }).bump (Obj.DOM_STEPS (domIx d))

/-- The state after a processed measurement (R214 Table 1): 8 in a row within the lock threshold lock the domain; the
first of them may be the one that leaves FREE. -/
def lockState (d : Dom) (theta : Rat) (s : State) : State :=
  let x := s.dom d
  let near := |theta| ≤ (s.reg (Obj.DOM_LOCK_THRESHOLD (domIx d)) : Nat)
  let run := if near then x.lockRun + 1 else 0
  match x.mode with
  | .locked => s
  | .free => s.setDom d { x with mode := .acquiring, lockRun := run }
  | .acquiring => s.setDom d { x with mode := if 8 ≤ run then .locked else .acquiring, lockRun := run }
  | .holdover => s.setDom d { x with mode := if 8 ≤ run then .locked else .holdover, lockRun := run }

/-- A measurement θ, in ns (R212 to R214). -/
def measure (d : Dom) (theta : Rat) (s : State) : State :=
  let n := domIx d
  let x := s.dom d
  let far := (s.reg (Obj.DOM_STEP_THRESHOLD n) : Rat) < |theta|
  let s1 := s.setI32 (Obj.DOM_OFFSET n) (roundRat theta)
  if x.mode = .locked && far && !x.outlier then (s1.setDom d { x with outlier := true }).bump (Obj.DOM_OUTLIERS n)
  else
    let stepping := far && s.reg (Obj.DOM_STEP_MAX n) != 0
    let s2 := if stepping then servoStep d theta s1 else servoUpdate d theta s1
    let s3 := (s2.setDom d { s2.dom d with lastTick := some s.ticks, present := true, valueSet := true, outlier := false }).bump
      (Obj.DOM_MEASUREMENTS n)
    if x.mode = .locked && far then enterHoldover d s3 else lockState d theta s3

/-- The source is no longer present (R214). -/
def sourceLost (d : Dom) (s : State) : State :=
  let x := s.dom d
  let s1 := s.setDom d { x with present := false }
  if x.mode = .acquiring || x.mode = .locked then enterHoldover d (setFrequency d x.integral x.integral s1) else s1

/-- DOMx_SOURCE: a written 0 frees the domain (R214); values above 2 act as 0 (R225). -/
def actDomSource (d : Dom) : Action := fun q s =>
  let v := leNat q.data
  let s1 := s.setReg (Obj.DOM_SOURCE (domIx d)) v
  if v = 1 || v = 2 then .done s1
  else .done (setFrequency d (s.trim d) 0
    (s1.setDom d { s.dom d with mode := .free, lockRun := 0, outlier := false }))

/-- DOMx_FREQ_TRIM and DOMx_FREQ_LIMIT: a free domain runs with the trim (R208, R225). -/
def actDomTrim (d : Dom) : Action := fun q s =>
  match storeAction q s with
  | .done s1 => .done (if (s1.dom d).mode == .free then setFrequency d (s1.trim d) (s1.dom d).integral s1 else s1)
  | .later s1 => .later s1
  | .abort s1 code => .abort s1 code

/-- A host command waits for the next tick and gives the counter a value (R213, Table 5). -/
def queueAction (d : Dom) (a : TickAction) (s : State) : State :=
  s.setDom d { s.dom d with actions := (s.dom d).actions ++ [a], valueSet := true }

/-- DOMx_SET. -/
def actDomSet (d : Dom) : Action := fun q s =>
  .done (queueAction d (.set ⟨leNat (q.data.take 6), leNat (q.data.drop 6)⟩) s)

/-- DOMx_ADJUST. -/
def actDomAdjust (d : Dom) : Action := fun q s => .done (queueAction d (.adjust (signed 32 (leNat q.data))) s)

/-- TIME_COUNTERS_CLEAR (R225). -/
def actTimeCountersClear : Action := fun _ s =>
  .done (s.clearRegs ([Obj.DOMAIN_SWITCHES, Obj.CATCH_REANCHORS, Obj.CATCHES_UNALIGNED, Obj.SYNC_FORWARDED,
    Obj.PTP_TXQ_OVERFLOWS] ++ [0, 1].flatMap fun x => [Obj.DOM_MEASUREMENTS x, Obj.DOM_STEPS x, Obj.DOM_OUTLIERS x]))

/-! ### Link delay (R210) -/

/-- The delay exchange of a port. -/
def State.delayOf (s : State) : Port → DelayState
  | .a => s.time.delayA
  | .b => s.time.delayB

/-- Replace the delay exchange of a port; its LD is shown as a U32. -/
def State.setDelay (s : State) (p : Port) (x : DelayState) : State :=
  let shown := min x.delay.toNat 0xFFFFFFFF
  match p with
  | .a => { s with time := { s.time with delayA := x } }.setReg Obj.LINK_DELAY_A shown
  | .b => { s with time := { s.time with delayB := x } }.setReg Obj.LINK_DELAY_B shown

/-- A DELAY_REQ is sent (R210, 10 R259). -/
def delayMeasure (p : Port) (s : State) : State :=
  let x := s.delayOf p
  let seq := (x.seq + 1) % 65536
  (s.setDelay p { x with seq := seq, waiting := some seq }).enqueue
    { port := p, cls := 1, kind := 0x11, dest := 0xFFFD, fields := natLE 2 seq ++ natLE 18 0, payload := [] }

/-- A DELAY_RESP of the request in flight gives a sample; times in ps (R210). -/
def delaySample (p : Port) (seq turnaround roundTrip : Nat) (s : State) : State :=
  let x := s.delayOf p
  if x.waiting ≠ some seq then s
  else
    let asymmetry := s.sreg (match p with
      | .a => Obj.ASYMMETRY_A
      | .b => Obj.ASYMMETRY_B) 32
    let sample := roundDiv ((roundTrip : Int) - turnaround) 2 + asymmetry
    let ld := if x.sampled then x.delay + rsh (sample - x.delay) 4 else sample
    s.setDelay p { x with waiting := none, sampled := true, delay := ld }

/-! ### Sync and PTP (R209, R211, R215, R216) -/

/-- The domain of a number. -/
def domOf (n : Nat) : Dom := if n = 1 then .b else .a

/-- The device originates SYNC messages for a domain (R209). -/
def State.originating (s : State) (d : Dom) : Bool := s.flag Obj.COX_DEVICE && s.reg (Obj.DOM_SOURCE (domIx d)) != 1

/-- SYNC packets leave both ports that are UP (R209, 10 R259). -/
def originate (d : Dom) (s : State) : State :=
  if !s.originating d then s
  else [Port.a, Port.b].foldl (fun t p =>
    if t.up p then t.enqueue { port := p, cls := 1, kind := 0x10, dest := 0xFFFF
                               fields := natLE 1 (domIx d) ++ natLE 1 0 ++ natLE 10 (packTime (t.dom d).counter) ++ natLE 8 0
                               payload := [] }
    else t) s

/-! #### The slave-only ordinary clock (R215, assumption log 163) -/

/-- The domain in which PTP takes its timestamps. -/
def State.ptpDom (s : State) : Dom := domOf (s.reg Obj.PTP_TIME_DOMAIN)

/-- The time of that domain now, 2^-32 ns: a hardware timestamp. -/
def State.ptpNow (s : State) : Int := ((s.dom s.ptpDom).counter : Int)

/-- Change what the Cox holds of PTP. -/
def State.modPtp (s : State) (f : PtpState → PtpState) : State :=
  { s with time := { s.time with ptp := f s.time.ptp } }

/-- A TIME80 in 2^-32 ns. -/
def fineTime (t : Time80) : Int := ((t.sec * 1000000000 + t.ns : Nat) : Int) * 4294967296

/-- The port identity of the device: the EUI-64 of its MAC address, and port 1. -/
def ownPtpPort : PtpPort :=
  { clock := Config.macAddress / 16777216 * 1099511627776 + 0xFFFE * 16777216 + Config.macAddress % 16777216, number := 1 }

/-- TIME ticks of `k` message intervals. -/
def announceSpan (x : PtpDataset) (k : Nat) : Nat :=
  if 0 ≤ x.logInterval then k * 250000000 * 2 ^ x.logInterval.toNat else k * 250000000 / 2 ^ (-x.logInterval).toNat

/-- A master takes part in the choice: two Announce messages within four intervals, the last no more than three ago. -/
def PtpMaster.qualified (m : PtpMaster) (now : Nat) : Bool :=
  decide (now ≤ m.last + announceSpan m.data 3) && (m.before.map fun t => decide (m.last ≤ t + announceSpan m.data 4)).getD false

/-- Lexicographic order of two lists of numbers. -/
def lexLess : List Nat → List Nat → Bool
  | a :: as, b :: bs => a < b || (a == b && lexLess as bs)
  | [], _ :: _ => true
  | _, [] => false

/-- The data set comparison: by the attributes of two grandmasters, by steps removed and sender under one. -/
def PtpMaster.better (a b : PtpMaster) : Bool :=
  let key (x : PtpDataset) := [x.priority1, x.clockClass, x.accuracy, x.variance, x.priority2, x.grandmaster]
  if a.data.grandmaster = b.data.grandmaster then
    lexLess [a.data.steps, a.port.clock, a.port.number] [b.data.steps, b.port.clock, b.port.number]
  else lexLess (key a.data) (key b.data)

/-- The master that the default best master clock algorithm chooses over the Announce messages received. -/
def State.ptpParent (s : State) : Option PtpPort :=
  ((s.time.ptp.masters.filter (·.qualified s.ticks)).foldl (fun w m =>
    match w with
    | none => some m
    | some b => if m.better b then some m else w) none).map (·.port)

/-- An Announce message is taken. -/
def takePtpAnnounce (from' : PtpPort) (x : PtpDataset) (s : State) : State :=
  let known := (s.time.ptp.masters.find? (·.port == from')).map (·.last)
  s.modPtp fun p => { p with
    masters := p.masters.filter (·.port != from') ++ [{ port := from', data := x, last := s.ticks, before := known }] }

/-- Each offset computed is a measurement of the domain, when its source is 2 (R215). -/
def ptpMeasure (offset : Int) (s : State) : State :=
  if s.reg (Obj.DOM_SOURCE (domIx s.ptpDom)) = 2 then measure s.ptpDom ((offset : Rat) / 4294967296) s else s

/-- A Sync is complete: received at `received`, sent at `origin`, with the corrections of its messages; the offset follows
once the path delay to its master is known. -/
def ptpSynced (from' : PtpPort) (received origin correction : Int) (s : State) : State :=
  let difference := received - origin - correction
  let s1 := s.modPtp fun p => { p with waiting := none, lastSync := some (from', difference) }
  match s.time.ptp.delay with
  | some (m, delay) => if m = from' then ptpMeasure (difference - delay) s1 else s1
  | none => s1

/-- A Delay_Resp gives the path delay: half of what Sync and Delay_Req took together (end-to-end mechanism). -/
def ptpDelay (from' : PtpPort) (seq : Nat) (received correction : Int) (s : State) : State :=
  match s.time.ptp.request, s.time.ptp.sent, s.time.ptp.lastSync with
  | some n, some t3, some (m, difference) =>
    if n = seq && m = from' then
      s.modPtp fun p => { p with request := none, sent := none, delay := some (from', (difference + (received - t3 - correction)) / 2) }
    else s
  | _, _, _ => s

/-- A message of the PTP domain in use; all but Announce count from the chosen master only (R215). -/
def ptpMessage (m : PtpMessage) (s : State) : State :=
  let c := m.correction * 65536
  if m.domain ≠ s.reg Obj.PTP_DOMAIN_NUMBER then s
  else match m.body with
    | .announce x => takePtpAnnounce m.sender x s
    | body =>
      if s.ptpParent ≠ some m.sender then s
      else match body with
        | .sync (some origin) => ptpSynced m.sender s.ptpNow (fineTime origin) c s
        | .sync none => s.modPtp fun p => { p with waiting := some (m.sender, m.seq, s.ptpNow, c) }
        | .followUp origin => match s.time.ptp.waiting with
          | some (f, n, t2, c1) => if f = m.sender && n = m.seq then ptpSynced m.sender t2 (fineTime origin) (c1 + c) s else s
          | none => s
        | .delayResp received asked =>
          if asked = ownPtpPort then ptpDelay m.sender m.seq (fineTime received) c s else s
        | .announce _ => s

/-- A Delay_Req leaves. -/
def ptpRequest (s : State) : State :=
  let n := s.time.ptp.nextSeq
  (s.modPtp fun p => { p with nextSeq := (n + 1) % 65536, request := some n, sent := none }).emit (.ptpDelayReq n)

/-- The transmit timestamp of the Delay_Req in flight is its t3. -/
def noteSent (seq messageType : Nat) (s : State) : State :=
  if messageType = 1 && s.time.ptp.request = some seq then s.modPtp fun p => { p with sent := some s.ptpNow } else s

/-- A transmit timestamp enters the queue, or is dropped (R216). -/
def pushStamp (seq messageType : Nat) (s : State) : State :=
  if 16 ≤ s.time.txq.length then (s.bump Obj.PTP_TXQ_OVERFLOWS).occur 59
  else noteSent seq messageType { s with time := { s.time with txq := s.time.txq ++
    [{ seq := seq, dom := domIx s.ptpDom, messageType := messageType, time := packTime (s.dom s.ptpDom).counter }] } }

/-- An entry of the queue (Table 2). -/
def TxStamp.bytes (x : TxStamp) : Bytes :=
  natLE 2 x.seq ++ natLE 1 (x.dom + 2 * (x.messageType % 16) + 128) ++ natLE 1 0 ++ natLE 10 x.time ++ natLE 2 0

/-- The oldest entry, removed by the read; an empty queue gives VALID 0. -/
def popStamp (s : State) : Value :=
  match s.time.txq with
  | x :: rest => .ok { s with time := { s.time with txq := rest } } x.bytes
  | [] => .ok s (natLE 16 0)

/-- PTP runs on the T1S port (R215, 16 R400). -/
def State.ptpRuns (s : State) : Bool :=
  s.flag Obj.PTP_ENABLE && s.device.phase == .running && s.alive 6 && !s.device.t1sOff

/-! ### Sleep accounting (R223) -/

/-- TIME latches counters and increments into AON; the ledger restarts. -/
def latchTime (s : State) : State :=
  { s.setReg Obj.SLEEP_LEDGER 0 with
    time := { s.time with snapshot := some (s.time.domA.counter, s.time.domA.inc, s.time.domB.counter, s.time.domB.inc) } }

/-- One XTAL32 edge counted. -/
def ledgerEdge (s : State) : State := s.setReg Obj.SLEEP_LEDGER ((s.reg Obj.SLEEP_LEDGER + 1) % 2 ^ 48)

/-- A domain after wake: its snapshot advanced by `n` periods of 30 517.578 125 ns; one that was not FREE is in
HOLDOVER. -/
def DomState.woken (x : DomState) (counter inc n : Nat) : DomState :=
  { x with counter := wrapCounter ((counter + n * 30517578125 * 4294967296 / 1000000 : Nat) : Int), inc := inc
           nextInc := none, step := 0, actions := [], valueSet := true, lockRun := 0, outlier := false
           lastTick := x.lastTick.map fun t => t - (n * 30517578125 / 4000000 : Nat)
           mode := if x.mode = .free then .free else .holdover }

/-- The counters are advanced by the ledger at the first XTAL32 edge after the TIME clock runs again. -/
def advanceTime (s : State) : State :=
  match s.time.snapshot with
  | none => s
  | some (a, ia, b, ib) =>
    let n := s.reg Obj.SLEEP_LEDGER
    { s.setReg Obj.SLEEP_ADVANCE (n * 30517578125 / 1000000) with
      time := { s.time with snapshot := none, domA := s.time.domA.woken a ia n, domB := s.time.domB.woken b ib n } }

/-- One XTAL32 edge between the latch and the advance: the ledger counts it, and the first one with the TIME clock
running advances the counters. -/
def sleepEdge (s : State) : State :=
  let s1 := ledgerEdge s
  if s1.runs 5 then advanceTime s1 else s1

/-! ### The meanings -/

/-- SYNC_ORIGINATE (R209). -/
def execSyncOriginate (dom : Dom) : State → Host.Outcome State Fault Refusal := onIsland 5 (originate dom)

/-- DELAY_MEASURE (R210). -/
def execDelayMeasure (port : Port) : State → Host.Outcome State Fault Refusal :=
  onIslandIf 5 (fun s => s.up port) (delayMeasure port)

/-- PTP_MESSAGE_RX (R215). -/
def execPtpMessageRx (message : PtpMessage) : State → Host.Outcome State Fault Refusal :=
  onIslandIf 5 (fun s => s.ptpRuns) (ptpMessage message)

/-- PTP_TX_TIMESTAMP (R216). -/
def execPtpTxTimestamp (seq messageType : Nat) : State → Host.Outcome State Fault Refusal :=
  onIslandIf 5 (fun s => s.ptpRuns) (pushStamp seq messageType)

/-- PTP_DELAY_REQ_SEND (R215): while a master is chosen. -/
def execPtpDelayReqSend : State → Host.Outcome State Fault Refusal :=
  onIslandIf 5 (fun s => s.ptpRuns && s.ptpParent.isSome) ptpRequest

/-- PTP_TXQ_POP (R216): a read. -/
def execPtpTxqPop (rq : Req) : State → Host.Outcome State Fault Refusal :=
  hostRequest (executeRead popStamp) (wholeRead rq Obj.PTP_TXQ_POP)

/-- SOURCE_TIMEOUT (R214). -/
def execSourceTimeout (dom : Dom) : State → Host.Outcome State Fault Refusal := onIsland 5 (sourceLost dom)

/-- DOM_SET (R213). -/
def execDomSet (rq : Req) (dom : Dom) (data : Bytes) : State → Host.Outcome State Fault Refusal :=
  hostWrite (actDomSet dom) rq (Obj.DOM_SET (domIx dom)) data

/-- DOM_ADJUST (R213). -/
def execDomAdjust (rq : Req) (dom : Dom) (data : Bytes) : State → Host.Outcome State Fault Refusal :=
  hostWrite (actDomAdjust dom) rq (Obj.DOM_ADJUST (domIx dom)) data

/-- DOM_SOURCE_WRITE (R214). -/
def execDomSourceWrite (rq : Req) (dom : Dom) (data : Bytes) : State → Host.Outcome State Fault Refusal :=
  hostWrite (actDomSource dom) rq (Obj.DOM_SOURCE (domIx dom)) data

/-- ACTIVE_DOMAIN_WRITE (R220). -/
def execActiveDomainWrite (rq : Req) (data : Bytes) : State → Host.Outcome State Fault Refusal :=
  hostWrite actActiveDomain rq Obj.ACTIVE_DOMAIN data

/-- TIME_COUNTERS_CLEAR (R225). -/
def execTimeCountersClear (rq : Req) (data : Bytes) : State → Host.Outcome State Fault Refusal :=
  hostWrite actTimeCountersClear rq Obj.TIME_COUNTERS_CLEAR data

end Sys2Proof.Machine
end

