-- ==== Sys2Proof/Machine/Link.lean ====
section
/-! DEFINITION. The Rovan ports below the packet layer (chapter 09): bring-up, what goes down with a port, FEC counters
and test mode, with the failover and the BREAK that a port going down brings about (10 R264, R265). -/

namespace Sys2Proof.Machine

/-! ### Ports and lanes -/

/-- Signal on both receive lanes (Table 6 bit 0). -/
def State.signal (s : State) (p : Port) : Bool :=
  s.flag (Obj.LANE_SIGNAL_DETECT (laneIx p 0)) && s.flag (Obj.LANE_SIGNAL_DETECT (laneIx p 1))

/-- PORTp_STATUS as it is read: bits 5 to 1 of the last resolution are stored (Table 6). -/
def State.portStatus (s : State) (p : Port) : Nat :=
  s.reg (Obj.PORT_STATUS (portIx p)) + b2n (s.signal p) + 64 * b2n (s.portState p == 7) +
    128 * s.reg (Obj.PORT_DEGRADED (portIx p)) + 256 * (s.portLink p).attempts

/-- The port is enabled. -/
def State.portEnabled (s : State) (p : Port) : Bool := bitAt (s.reg Obj.LINK_PORT_ENABLE) (portIx p)

/-! ### Packets of the device's own (10 R246, R247, R252) -/

/-- SOURCE of the device's packets: its chain position, 0x00FF before it has one (10 R246). -/
def State.ownSource (s : State) : Nat :=
  if s.reg Obj.CHAIN_POSITION = 0 then 0x00FF else s.reg Obj.CHAIN_POSITION

/-- A header block (10 R246 Table 1): bytes 0 to 27 and their CRC. -/
def headerBlock (kind hops length dest source : Nat) (fields : Bytes) : Block :=
  let bs := natLE 1 kind ++ natLE 1 hops ++ natLE 2 length ++ natLE 2 dest ++ natLE 2 source ++ fields
  { head := true, bytes := bs ++ natLE 4 (crc32 bs) }

/-- Payload blocks of a packet with `n` bytes of payload (10 R247). -/
def payloadCount (n : Nat) : Nat := if n = 0 then 0 else (n + 35) / 32

/-- The payload blocks: the bytes, their CRC, and zeros to the end of the last block (10 R247). -/
def payloadBlocks (payload : Bytes) : List Block :=
  let n := payloadCount payload.length
  let bs := payload ++ natLE 4 (crc32 payload)
  (groupsOf 32 n (bs ++ List.replicate (32 * n - bs.length) 0#8)).map fun b => { head := false, bytes := b }

/-- The blocks of a local packet. -/
def LocalPacket.blocks (k : LocalPacket) : List Block :=
  headerBlock k.kind 0 k.payload.length k.dest k.source k.fields :: payloadBlocks k.payload

/-- A block of the delay line in whose place a local packet may leave. -/
def LineBlock.free (b : LineBlock) : Bool := b.block == {} && b.ends.isNone

/-- A local packet of `n` blocks may start (10 R252, R249): the next `n` blocks to leave are all IDLE, and an IDLE has left
recently enough. -/
def State.lineFree (s : State) (p : Port) (n : Nat) : Bool :=
  ((s.stream p).line.take n).all LineBlock.free && decide ((s.stream p).sinceIdle + n < 1024)

/-- What a packet says of the moment at which it starts to leave: its SOURCE, and ORIGIN of a SYNC (10 R246, 08 R209). -/
def LocalPacket.starting (k : LocalPacket) (s : State) : LocalPacket :=
  let now := (s.dom (if leNat (k.fields.take 1) = 1 then .b else .a)).counter
  { k with
    source := s.ownSource
    fields := if k.kind = 0x10 then k.fields.take 2 ++ natLE 10 (packTime now) ++ k.fields.drop 12 else k.fields }

/-- A local packet starts to leave: it takes the place of the next blocks of the delay line. -/
def startPacket (k : LocalPacket) (s : State) : State :=
  let own := k.starting s
  let blocks := own.blocks.map fun b => ({ block := b } : LineBlock)
  let marked := blocks.dropLast ++ blocks.getLast?.toList.map fun b => { b with ends := some own }
  s.modStream k.port fun x => { x with line := marked ++ x.line.drop blocks.length }

/-- The packets of a port that wait, of classes 1 and 2, in the order in which they leave (10 R252). -/
def State.waitingOn (s : State) (p : Port) : List LocalPacket :=
  let mine := s.traffic.queue.filter (·.port == p)
  mine.filter (·.cls == 1) ++ mine.filter (·.cls != 1)

/-- Every waiting packet of a port leaves to its last block: the port that is about to go down sends the response first
(R242). -/
def flushPort (p : Port) (s : State) : State :=
  let s1 := (s.waitingOn p).foldl (fun t k => carry p (idles 48) (startPacket k t)) (carry p (idles 48) s)
  carry p (idles 20) { s1 with traffic := { s1.traffic with queue := s1.traffic.queue.filter (·.port != p) } }

/-! ### Failover and BREAK (10 R264, R265) -/

/-- Every stream frame in progress is abandoned (04 R105); its stream resumes at another frame number. -/
def abandonStreams (s : State) : State :=
  foldN 7 (fun t l =>
    match (t.layer l).filling with
    | none => t
    | some f =>
      let t1 := (t.setLayer l { t.layer l with filling := none }).bump (Obj.LAYER_DISCARDED l)
      { t1 with traffic := { t1.traffic with abandoned := t1.traffic.abandoned.filter (·.1 != l) ++ [(l, f.frame)] } }) s

/-- A ring device changes its source port from `p` to the other one when that is UP, else to none (10 R264). -/
def failover (p : Port) (s : State) : State :=
  let o := otherPort p
  if s.up o then
    let s1 := (abandonStreams (s.setReg Obj.SOURCE_PORT (portIx o))).bump Obj.FAILOVERS
    (s1.occur 63).event 5 (natLE 1 (portIx o) ++ natLE 1 (s.reg Obj.CHAIN_POSITION))
  else s.setReg Obj.SOURCE_PORT 2

/-- BREAK leaves the other port of a ring device, when that is UP (10 R265). -/
def sendBreak (p : Port) (s : State) : State :=
  if s.up (otherPort p) then
    s.enqueue { port := otherPort p, cls := 2, kind := 0x23, dest := 0xFFFF, payload := []
                fields := natLE 1 (s.reg Obj.CHAIN_POSITION) ++ natLE 1 (s.reg Obj.CHAIN_REVERSE_POSITION) ++ natLE 18 0 }
  else s

/-- What the packet layer does as a port goes down (R239, 10 R252, R258, R264, R265): local packets that have started and
not left whole are cut off, those that wait for the port are lost, an echo frame being sent out of it ends, and a ring
device switches and tells its neighbours (assumption log 167). -/
def packetLayerDown (p : Port) (s : State) : State :=
  let n := ((s.stream p).line.filter (·.ends.isSome)).length
  let s1 := { s.bumpAt (Obj.PKT_LOCAL_DROPS (portIx p)) 0 n with
    traffic := { s.traffic with queue := s.traffic.queue.filter (·.port != p) } }
  let isSource := s.reg Obj.SOURCE_PORT == portIx p
  let s2 := if isSource then { s1 with layers := { s1.layers with echoSending := none } } else s1
  if s.flag Obj.CHAIN_RING then
    let s3 := if isSource then failover p s2 else s2
    sendBreak p s3
  else s2

/-! ### States (R234, R239, R243) -/

/-- What stays of a port's hidden state when its training starts afresh. -/
def PortLink.fresh (x : PortLink) : PortLink :=
  { attempts := x.attempts, serCount := x.serCount, goodSeconds := x.goodSeconds, ffe0 := x.ffe0, swing0 := x.swing0
    ffe1 := x.ffe1, swing1 := x.swing1, waking := x.waking }

/-- The streams of a port that starts afresh: no packet is in progress, nothing waits to leave, and the body generators
and the frame count go on (R231, R239). -/
def PortStream.fresh (x : PortStream) : PortStream :=
  { frames := x.frames, body0 := x.body0, body1 := x.body1, long0 := x.long0, long1 := x.long1 }

/-- The training state and the streams of a port start afresh. -/
def State.afresh (s : State) (p : Port) : State := (s.setPort p (s.portLink p).fresh).modStream p PortStream.fresh

/-- LANEpl_TX_FFE and LANEpl_TX_SWING take effect (R243, Table 8). -/
def takeTransmit (p : Port) (s : State) : State :=
  s.setPort p { s.portLink p with
    ffe0 := s.reg (Obj.LANE_TX_FFE (laneIx p 0)), swing0 := s.limited (Obj.LANE_TX_SWING (laneIx p 0)) 800 1200
    ffe1 := s.reg (Obj.LANE_TX_FFE (laneIx p 1)), swing1 := s.limited (Obj.LANE_TX_SWING (laneIx p 1)) 800 1200 }

/-- A locked checker has counted up to now (R241): 224 bits a tick of 4 ns at 28 GBd, and among them as many errors as
there were, a free value (assumption log 4). -/
def countPrbs (p : Port) (l : Nat) (s : State) : State :=
  let i := laneIx p l
  let x := s.portLink p
  if !s.flag (Obj.LANE_PRBS_LOCKED i) then s
  else
    let bits := 224 * (s.ticks - (if l = 0 then x.checked0At else x.checked1At))
    let s1 := ((s.bumpAt (Obj.LANE_PRBS_BITS i) 0 bits).bumpAt (Obj.LANE_PRBS_ERRORS i) 0 (s.free % (bits + 1))).drawn
    s1.modPort p fun y => if l = 0 then { y with checked0At := s.ticks } else { y with checked1At := s.ticks }

/-- A port leaves TEST: its counters hold what the checkers counted (R241). -/
def leaveTest (p : Port) (s : State) : State :=
  foldN 2 (fun t l => (countPrbs p l t).setFlag (Obj.LANE_PRBS_LOCKED (laneIx p l)) false) s

/-- A port enters SEEK (R234, R243). -/
def enterSeek (p : Port) (s : State) : State :=
  takeTransmit p ((s.afresh p).setPortState p 1)

/-- The cause recorded: the lowest-numbered of the conditions that hold in the same codeword time (R238, R239). -/
def State.downCause (s : State) (p : Port) (cause : Nat) : Nat :=
  let c := if 3 ≤ (s.portLink p).amMissRun then min cause 4 else cause
  if 8 ≤ (s.portLink p).ueRun then min c 3 else c

/-- A port that is UP leaves UP with a cause for the state `next` (R234, R238, R239): what was sent is lost, and what the
packet layer had received. -/
def goDown (p : Port) (cause next : Nat) (s0 : State) : State :=
  let i := portIx p
  let s := packetLayerDown p (s0.setPortState p next)
  let s1 := s.afresh p
  let s2 := ((s1.setReg (Obj.PORT_DOWN_CAUSE i) (s0.downCause p cause)).bump (Obj.PORT_DOWN_COUNT i)).setReg (Obj.PORT_LAST_DOWN i) s.stampA
  (s2.occur (60 + i)).setDelay p { s2.delayOf p with sampled := false, waiting := none }

/-- A port goes down from UP when it is UP (R238). -/
def downIfUp (p : Port) (cause next : Nat) (s : State) : State := if s.up p then goDown p cause next s else s

/-- Training fails with a cause: HOLDOFF (R234). -/
def trainFail (p : Port) (cause : Nat) (s : State) : State :=
  ((s.afresh p).setPortState p 8).setReg (Obj.PORT_DOWN_CAUSE (portIx p)) cause

/-- A port enters IDENTIFY; its training timeout starts (R234). -/
def enterIdentify (p : Port) (inv0 inv1 : Bool) (skew : Int) (attempts : Nat) (s : State) : State :=
  (s.modPort p fun x => { x.fresh with inv0 := inv0, inv1 := inv1, skew := skew, attempts := attempts, trainStart := s.ticks }
    ).setPortState p 2

/-- The training marker is found on both lanes, in either polarity; `skew` is the delay of lane 1 behind lane 0 in ps
(R231, R234, R236). -/
def markerFound (p : Port) (levels0 levels1 : List Nat) (skew : Int) (s : State) : State :=
  match markerPolarity levels0, markerPolarity levels1 with
  | some inv0, some inv1 =>
    if s.portState p = 1 && s.signal p && !(s.portLink p).waking then
      let s1 := (s.setReg (Obj.LANE_SKEW_PS (laneIx p 0)) (-skew).toNat).setReg (Obj.LANE_SKEW_PS (laneIx p 1)) skew.toNat
      enterIdentify p inv0 inv1 skew 0 s1
    else s
  | _, _ => s

/-! ### Control words (R232 to R235) -/

/-- The CRC-8 of a control word is right (R232). -/
def wordOk (w : Nat) : Bool := crc8 (natLE 7 w) == field w 56 8

/-- The neighbour has restarted: IDENTIFY again, an attempt more (R234). -/
def restarted (p : Port) (s : State) : State :=
  let x := s.portLink p
  enterIdentify p x.inv0 x.inv1 x.skew (min (x.attempts + 1) 255) s

/-- Three words of each lane resolve the port (R235, R236). -/
def resolve (p : Port) (s : State) : State :=
  let x := s.portLink p
  let i := portIx p
  if wordLane x.word0 = wordLane x.word1 || wordPort x.word0 ≠ wordPort x.word1 ||
      wordSerial x.word0 ≠ wordSerial x.word1 || 20000 < x.skew.natAbs then trainFail p 9 s
  else if wordSerial x.word0 = Config.deviceSerial % 4294967296 then trainFail p 8 s
  else
    let peer := wordPort x.word0
    let status := 2 * wordLane x.word0 + 4 * b2n x.inv0 + 8 * b2n x.inv1 + 16 * peer + 32 * b2n (peer == i)
    let s1 := ((s.setPort p { x with rxLocked := true }).setPortState p 3).setReg (Obj.PORT_STATUS i) status
    let s2 := s1.setReg (Obj.PORT_PEER_SERIAL i) (wordSerial x.word0)
    let s3 := (s2.setReg (Obj.LANE_RX_SOURCE_LANE (laneIx p 0)) (wordLane x.word0)).setReg
      (Obj.LANE_RX_SOURCE_LANE (laneIx p 1)) (wordLane x.word1)
    (s3.setFlag (Obj.LANE_RX_POLARITY_INVERTED (laneIx p 0)) x.inv0).setFlag
      (Obj.LANE_RX_POLARITY_INVERTED (laneIx p 1)) x.inv1

/-- HANDOFF follows when verification has passed and the neighbour has reported the same in 3 frames on both lanes; FEC
lock follows own data and the neighbour's countdown 0 (R234). -/
def advance (p : Port) (s : State) : State :=
  let x := s.portLink p
  if s.portState p = 4 && x.rxVerified && 3 ≤ x.verified0 && 3 ≤ x.verified1 then s.setPortState p 5
  else if s.portState p = 5 && x.ownData && x.peerZero then s.setPortState p 6
  else s

/-- What a valid control word of a physical lane tells: BODY_PRBS31 follows RX_ADAPTED, runs of RX_VERIFIED, the word
itself, the countdown (R233 to R236). -/
def PortLink.hear (x : PortLink) (lane w : Nat) : PortLink :=
  let y := { x with bodyPrbs31 := bitAt w 9, peerLocked := x.peerLocked || bitAt w 8
                    peerZero := x.peerZero || (wordTxState w == 1 && wordSeq w == 0) }
  if lane = 0 then
    { y with count0 := min (x.count0 + 1) 3, word0 := w, verified0 := if bitAt w 10 then min (x.verified0 + 1) 3 else 0 }
  else
    { y with count1 := min (x.count1 + 1) 3, word1 := w, verified1 := if bitAt w 10 then min (x.verified1 + 1) 3 else 0 }

/-- A control word arrives while training frames are received (R232 to R235). -/
def hearWord (p : Port) (lane w : Nat) (s : State) : State :=
  let x := s.portLink p
  if !(2 ≤ s.portState p && s.portState p ≤ 5) || !wordOk w then s
  else if x.peerLocked && !bitAt w 8 then restarted p s
  else
    let y := x.hear lane w
    let s1 := s.setPort p y
    if s.portState p = 2 then (if y.count0 = 3 && y.count1 = 3 then resolve p s1 else s1) else advance p s1

/-! ### Adaptation, verification, data mode (R235 to R237) -/

/-- Adaptation is complete (R234); each verification is an attempt (Table 6). -/
def adapted (p : Port) (snr0 snr1 ctle0 ctle1 : Nat) (s : State) : State :=
  if s.portState p ≠ 3 then s
  else
    let s1 := (s.setReg (Obj.LANE_SNR (laneIx p 0)) (snr0 % 65536)).setReg (Obj.LANE_SNR (laneIx p 1)) (snr1 % 65536)
    let s2 := (s1.setReg (Obj.LANE_CTLE (laneIx p 0)) (ctle0 % 256)).setReg (Obj.LANE_CTLE (laneIx p 1)) (ctle1 % 256)
    (s2.modPort p fun x => { x with rxAdapted := true, checked0 := false, checked1 := false
                                    attempts := min (x.attempts + 1) 255 }).setPortState p 4

/-- The window closes on both locked checkers (R235). -/
def windowEnd (p : Port) (errors0 errors1 : Nat) (s : State) : State :=
  let x := s.portLink p
  if s.portState p ≠ 4 || x.rxVerified || !x.checked0 || !x.checked1 then s
  else if errors0 ≤ s.reg Obj.VERIFY_LIMIT && errors1 ≤ s.reg Obj.VERIFY_LIMIT then
    advance p (s.setPort p { x with rxVerified := true })
  else if x.fails = 2 then trainFail p 11 s
  else (s.setPort p { x with rxAdapted := false, fails := x.fails + 1 }).setPortState p 3

/-- Own data starts after the four READY frames, with an alignment codeword (R236). -/
def startData (p : Port) (s : State) : State :=
  if s.portState p ≠ 5 || (s.portLink p).ownData then s
  else
    let s1 := foldN (4 - (s.portLink p).ready) (fun t _ => sendFrame p t) s
    advance p (alignIfDue p (s1.modPort p fun x => { x with ownData := true }))

/-- The AM_COUNT of an alignment codeword of the neighbour, when its 20 blocks are right (R230). -/
def State.alignment (s : State) (p : Port) (blocks : List RxBlock) : Option Nat :=
  let count := leNat (((blocks.headD {}).block.bytes.drop 9).take 1)
  let due := alignmentBlocks (b2n (bitAt (s.reg (Obj.PORT_STATUS (portIx p))) 4)) count (s.reg (Obj.PORT_PEER_SERIAL (portIx p)))
  if blocks = due.map (fun b => { block := b }) then some count else none

/-- The port enters UP (R237). -/
def enterUp (p : Port) (s : State) : State :=
  let i := portIx p
  let s1 := ((s.setPortState p 7).bump (Obj.PORT_UP_COUNT i)).setReg (Obj.PORT_LAST_UP i) s.stampA
  let s2 := s1.setReg (Obj.PORT_TRAIN_TIME i) ((s.ticks - (s.portLink p).trainStart) / 250 % 2 ^ 32)
  s2.modPort p fun x => { x with amMissRun := 0, ueRun := 0 }

/-- An alignment codeword is due, and a codeword of these blocks has come (R237, R238). -/
def alignmentDue (p : Port) (blocks : List RxBlock) (s : State) : State :=
  let x := s.portLink p
  let found := s.alignment p blocks
  if s.portState p = 6 then
    match found, x.amLast with
    | none, _ => s.setPort p { x with amLast := none }
    | some c, none => s.setPort p { x with amLast := some c }
    | some c, some l =>
      if c = (l + 1) % 256 then enterUp p (s.setPort p { x with amLast := some c }) else s.setPort p { x with amLast := none }
  else if s.portState p = 7 then
    let expected := (x.amLast.getD 0 + 1) % 256
    if found = some expected then s.setPort p { x with amLast := some expected, amMissRun := 0 }
    else (s.setPort p { x with amLast := some expected, amMissRun := x.amMissRun + 1 }).bump (Obj.FEC_AM_MISSES (portIx p))
  else s

/-! ### In service (R238 to R240) -/

/-- The FEC counters of one codeword of UP: its corrected symbols, or none when it is uncorrectable (R239, R240). -/
def countCodeword (p : Port) (corrected : Option Nat) (s : State) : State :=
  if !s.up p then s
  else
    let i := portIx p
    let s1 := s.bump (Obj.FEC_CODEWORDS i)
    match corrected with
    | none => (s1.bump (Obj.FEC_UNCORRECTABLE i)).modPort p fun x => { x with ueRun := x.ueRun + 1 }
    | some k =>
      let t := if k = 0 then s1 else s1.bump (Obj.FEC_CORRECTED_CW i)
      ((t.bumpAt (Obj.FEC_SYMBOLS_CORRECTED i) 0 k).bumpTab (Obj.FEC_HISTOGRAM i) (8 * k) 1 8).modPort p
        fun x => { x with ueRun := 0, serCount := x.serCount + k }

/-- The neighbour sends data: from its countdown 0 on (R236). -/
def State.hearsData (s : State) (p : Port) : Bool :=
  (s.portState p == 5 && (s.portLink p).peerZero) || s.portState p == 6 || s.portState p == 7

/-- What the SRAM of the link buffers does to the blocks of a codeword (02 R49): an error is corrected and counted, or it
marks its block as the decoder does. -/
def bufferBlocks (trouble : BufferTrouble) (blocks : List RxBlock) (s : State) : List RxBlock × State :=
  match trouble with
  | .none => (blocks, s)
  | .corrected n => (blocks, s.bumpAt Obj.SRAM_CORRECTED 2 n)
  | .uncorrectable i o =>
    ((blocks.zip (List.range blocks.length)).map fun e => if e.2 = i then { e.1 with bad := true } else e.1,
      s.sramUncorrectable 2 o)

/-- A codeword of data mode arrives (R228, R240); `drift` blocks were gained on the local clock since the last one. Those
of UP pass through the elastic buffer to the packet layer (10 R249). -/
def codeword (p : Port) (levels0 levels1 : List Nat) (drift : Int) (trouble : BufferTrouble) (s : State) : State :=
  if !s.hearsData p then s
  else
    let h := hearCodeword p levels0 levels1 s
    let s1 := countCodeword p h.1.1 h.2
    if !s.up p then s1
    else
      let b := bufferBlocks trouble h.1.2 s1
      let r := elastic (((s.stream p).fill : Int) + drift).toNat b.1
      (b.2.bumpAt (Obj.PKT_IDLE_ADJUST (portIx p)) 0 r.2.2).modStream p fun x => { x with rx := x.rx ++ r.1, fill := r.2.1 }

/-- A codeword arrives where an alignment codeword is expected; its blocks never reach the packet layer (R230). -/
def alignmentWord (p : Port) (levels0 levels1 : List Nat) (s : State) : State :=
  if !s.hearsData p then s
  else
    let h := hearCodeword p levels0 levels1 s
    alignmentDue p h.1.2 (countCodeword p h.1.1 h.2)

/-- One second of domain A judged for a port (R240). -/
def judgeSecond (p : Port) (s : State) : State :=
  let i := portIx p
  let x := s.portLink p
  let n := x.serCount % 2 ^ 32
  let s1 := s.setReg (Obj.FEC_SER_1S i) n
  if s.reg Obj.DEGRADE_LIMIT < x.serCount then
    ((s1.setPort p { x with serCount := 0, goodSeconds := 0 }).setFlag (Obj.PORT_DEGRADED i) true).event 4
      (natLE 1 i ++ natLE 4 n)
  else
    let s2 := s1.setPort p { x with serCount := 0, goodSeconds := min (x.goodSeconds + 1) 10 }
    if 10 ≤ x.goodSeconds + 1 then s2.setFlag (Obj.PORT_DEGRADED i) false else s2

/-- A receive lane loses its signal (R234, R238). -/
def signalLost (p : Port) (lane : Nat) (s : State) : State :=
  let s1 := s.setFlag (Obj.LANE_SIGNAL_DETECT (laneIx p lane)) false
  if s.up p then goDown p 2 8 s1
  else if 1 ≤ s.portState p && s.portState p ≤ 5 then enterSeek p s1
  else s1

/-- A checker locks: in TEST it reports and counts, in VERIFY its window opens (R235, R241). -/
def checkerLock (p : Port) (lane : Nat) (s : State) : State :=
  if s.portState p = 9 then
    if s.flag (Obj.LANE_PRBS_LOCKED (laneIx p lane)) then s
    else (s.modPort p fun x => if lane = 0 then { x with checked0At := s.ticks } else { x with checked1At := s.ticks }).setFlag
      (Obj.LANE_PRBS_LOCKED (laneIx p lane)) true
  else if s.portState p = 4 then
    s.modPort p fun x => if lane = 0 then { x with checked0 := true } else { x with checked1 := true }
  else s

/-- A timeout or failure of one training state sends the port to HOLDOFF (R234). -/
def trainTimeout (p : Port) (state cause : Nat) (s : State) : State :=
  if s.portState p = state then trainFail p cause s else s

/-! ### Host writes (R238, R241 to R243) -/

/-- Perform a write that may take down the port on which its request came: the response leaves first (R242). -/
def afterResponse (q : Request) (downs : List Port) (op : State → State) (s : State) : Answer :=
  match viaPort q.rq.via with
  | none => .done (op s)
  | some p =>
    if q.opcode = 2 && downs.contains p && s.up p then .later (op (flushPort p (s.respond q 0 0 []))) else .done (op s)

/-- The ports of a mask. -/
def maskPorts (m : Nat) : List Port := [Port.a, Port.b].filter fun p => bitAt m (portIx p)

/-- A port is disabled (R234, R238). -/
def disablePort (p : Port) (s : State) : State :=
  if s.up p then goDown p 1 0 s
  else
    let s1 := if s.portState p = 9 then leaveTest p s else s
    (s1.afresh p).setPortState p 0

/-- LINK_PORT_ENABLE (R234, R238). -/
def actPortEnable : Action := fun q s =>
  let v := leNat q.data % 4
  let cleared := maskPorts (3 - v)
  afterResponse q cleared (fun t =>
    let t1 := t.setReg Obj.LINK_PORT_ENABLE v
    let t2 := (maskPorts v).foldl (fun u p => if u.portState p = 0 then enterSeek p u else u) t1
    cleared.foldl (fun u p => disablePort p u) t2) s

/-- LINK_RETRAIN: ports in UP only (Table 4). -/
def actRetrain : Action := fun q s =>
  let ports := maskPorts (q.arg % 256)
  afterResponse q ports (fun t => ports.foldl (fun u p => downIfUp p 5 8 u) t) s

/-- A port enters TEST: counters at 0, checkers out of lock (R238, R241). -/
def enterTest (p : Port) (s : State) : State :=
  let s1 := if s.up p then goDown p 6 9 s else (s.afresh p).setPortState p 9
  foldN 2 (fun t l =>
    let i := laneIx p l
    ((t.setReg (Obj.LANE_PRBS_ERRORS i) 0).setReg (Obj.LANE_PRBS_BITS i) 0).setFlag (Obj.LANE_PRBS_LOCKED i) false) s1

/-- PORTp_TEST_MODE (R241). -/
def actTestMode (p : Port) : Action := fun q s =>
  let v := leNat q.data
  let obj := Obj.PORT_TEST_MODE (portIx p)
  if v = 0 then
    let s1 := s.setReg obj 0
    .done (if s.portState p = 9 then enterSeek p (leaveTest p s1) else s1)
  else afterResponse q [p] (fun t => enterTest p (t.setReg obj v)) s

/-- LANEpl_TX_FFE and LANEpl_TX_SWING: in force at once up to SEEK, else held until SEEK is entered (R243). -/
def actLane : Action := fun q s =>
  match storeAction q s with
  | .done s1 =>
    let p := portOf ((q.obj / 256 - 0x5030) / 2)
    .done (if s.portState p ≤ 1 then takeTransmit p s1 else s1)
  | .later s1 => .later s1
  | .abort s1 code => .abort s1 code

/-- LINK_COUNTERS_CLEAR: every counter of Tables 5, 7 and 8 (R245). -/
def actLinkCountersClear : Action := fun _ s =>
  let s1 := s.clearRegs (repeated 2 [Obj.PORT_UP_COUNT 0, Obj.PORT_DOWN_COUNT 0, Obj.FEC_CODEWORDS 0, Obj.FEC_CORRECTED_CW 0,
    Obj.FEC_UNCORRECTABLE 0, Obj.FEC_SYMBOLS_CORRECTED 0, Obj.FEC_AM_MISSES 0, Obj.FEC_SER_1S 0] ++
    repeated 4 [Obj.LANE_PRBS_ERRORS 0, Obj.LANE_PRBS_BITS 0])
  .done ((s1.clearTab (Obj.FEC_HISTOGRAM 0)).clearTab (Obj.FEC_HISTOGRAM 1))

/-! ### The wake pattern (10 R266) -/

/-- The wake pattern starts on a port and overrides its training; a port in UP or TEST keeps its state. -/
def startWake (p : Port) (s : State) : State :=
  let s1 := if 1 ≤ s.portState p && s.portState p ≤ 6 then enterSeek p s else s
  (s1.modPort p fun x => { x with waking := true }).emit (.wakePattern p)

/-- WAKE_SEND. -/
def actWakeSend : Action := fun q s => .done ((maskPorts (q.arg % 256)).foldl (fun t p => startWake p t) s)

/-- The pattern ends and training resumes. -/
def endWake (p : Port) (s : State) : State := s.modPort p fun x => { x with waking := false }

/-- LINK runs: every enabled port enters SEEK, and a wake by pattern is relayed first (R234, 10 R266). -/
def startPorts (s : State) : State :=
  let s1 := [Port.a, Port.b].foldl (fun t p => if t.portEnabled p then enterSeek p t else t) s
  match s.traffic.relay with
  | none => s1
  | some p => startWake p { s1 with traffic := { s1.traffic with relay := none } }

/-! ### The meanings -/

/-- LINK_PORT_ENABLE_WRITE (R234). -/
def execLinkPortEnableWrite (rq : Req) (data : Bytes) : State → Host.Outcome State Fault Refusal :=
  hostWrite actPortEnable rq Obj.LINK_PORT_ENABLE data

/-- LINK_RETRAIN (R238). -/
def execLinkRetrain (rq : Req) (data : Bytes) : State → Host.Outcome State Fault Refusal :=
  hostWrite actRetrain rq Obj.LINK_RETRAIN data

/-- PORT_TEST_ENTER (R241). -/
def execPortTestEnter (rq : Req) (port : Port) (data : Bytes) : State → Host.Outcome State Fault Refusal :=
  hostWrite (actTestMode port) rq (Obj.PORT_TEST_MODE (portIx port)) data

/-- PORT_TEST_EXIT (R241). -/
def execPortTestExit (rq : Req) (port : Port) (data : Bytes) : State → Host.Outcome State Fault Refusal :=
  hostWrite (actTestMode port) rq (Obj.PORT_TEST_MODE (portIx port)) data

/-- SIGNAL_DETECT (R234). -/
def execSignalDetect (port : Port) (lane : Nat) : State → Host.Outcome State Fault Refusal :=
  onIsland 0 fun s => s.setFlag (Obj.LANE_SIGNAL_DETECT (laneIx port lane)) true

/-- LOSS_OF_SIGNAL (R238). -/
def execLossOfSignal (port : Port) (lane : Nat) : State → Host.Outcome State Fault Refusal :=
  onIsland 0 (signalLost port lane)

/-- MARKER_LOCK (R234). -/
def execMarkerLock (port : Port) (levels0 levels1 : List Nat) (skew : Int) : State → Host.Outcome State Fault Refusal :=
  onIsland 0 (markerFound port levels0 levels1 skew)

/-- TRAINING_CONTROL_WORD_RX (R235). -/
def execTrainingControlWordRx (port : Port) (lane word : Nat) : State → Host.Outcome State Fault Refusal :=
  onIsland 0 (hearWord port lane word)

/-- ADAPT_COMPLETE (R234). -/
def execAdaptComplete (port : Port) (snr0 snr1 ctle0 ctle1 : Nat) : State → Host.Outcome State Fault Refusal :=
  onIsland 0 (adapted port snr0 snr1 ctle0 ctle1)

/-- VERIFY_WINDOW_END (R235). -/
def execVerifyWindowEnd (port : Port) (errors0 errors1 : Nat) : State → Host.Outcome State Fault Refusal :=
  onIsland 0 (windowEnd port errors0 errors1)

/-- DATA_MODE_START (R236). -/
def execDataModeStart (port : Port) : State → Host.Outcome State Fault Refusal := onIsland 0 (startData port)

/-- ALIGNMENT_CODEWORD_RX (R237). -/
def execAlignmentCodewordRx (port : Port) (levels0 levels1 : List Nat) : State → Host.Outcome State Fault Refusal :=
  onIsland 0 (alignmentWord port levels0 levels1)

/-- FEC_CODEWORD_RX (R228). -/
def execFecCodewordRx (port : Port) (levels0 levels1 : List Nat) (drift : Int) (trouble : BufferTrouble) :
    State → Host.Outcome State Fault Refusal :=
  onIsland 0 (codeword port levels0 levels1 drift trouble)

/-- UNCORRECTABLE_RUN (R238). -/
def execUncorrectableRun (port : Port) : State → Host.Outcome State Fault Refusal :=
  onIslandIf 0 (fun s => 8 ≤ (s.portLink port).ueRun) (downIfUp port 3 8)

/-- ALIGNMENT_LOST (R238). -/
def execAlignmentLost (port : Port) : State → Host.Outcome State Fault Refusal :=
  onIslandIf 0 (fun s => 3 ≤ (s.portLink port).amMissRun) (downIfUp port 4 8)

/-- IDENTIFY_TIMEOUT (R234). -/
def execIdentifyTimeout (port : Port) : State → Host.Outcome State Fault Refusal := onIsland 0 (trainTimeout port 2 7)

/-- ADAPT_TIMEOUT (R234). -/
def execAdaptTimeout (port : Port) : State → Host.Outcome State Fault Refusal := onIsland 0 (trainTimeout port 3 10)

/-- FEC_LOCK_TIMEOUT (R237). -/
def execFecLockTimeout (port : Port) : State → Host.Outcome State Fault Refusal := onIsland 0 (trainTimeout port 6 12)

/-- TRAIN_TIMEOUT (R234): in any state from IDENTIFY to FEC_LOCK. -/
def execTrainTimeout (port : Port) : State → Host.Outcome State Fault Refusal :=
  onIslandIf 0 (fun s => 2 ≤ s.portState port && s.portState port ≤ 6) (trainFail port 14)

/-- HOLDOFF_EXPIRY (R234). -/
def execHoldoffExpiry (port : Port) : State → Host.Outcome State Fault Refusal :=
  onIslandIf 0 (fun s => s.portState port == 8) (enterSeek port)

/-- SER_SECOND (R240). -/
def execSerSecond : State → Host.Outcome State Fault Refusal := onIsland 0 fun s => judgeSecond .b (judgeSecond .a s)

/-- LINK_COUNTERS_CLEAR (R245). -/
def execLinkCountersClear (rq : Req) (data : Bytes) : State → Host.Outcome State Fault Refusal :=
  hostWrite actLinkCountersClear rq Obj.LINK_COUNTERS_CLEAR data

/-- PRBS_CHECKER_LOCK (R241): it locks in either polarity. -/
def execPrbsCheckerLock (port : Port) (lane : Nat) (_inverted : Bool) : State → Host.Outcome State Fault Refusal :=
  onIsland 0 (checkerLock port lane)

/-- WAKE_SEND (10 R266). -/
def execWakeSend (rq : Req) (data : Bytes) : State → Host.Outcome State Fault Refusal :=
  hostWrite actWakeSend rq Obj.WAKE_SEND data

/-- WAKE_PATTERN_END (10 R266). -/
def execWakePatternEnd (port : Port) : State → Host.Outcome State Fault Refusal := onIsland 0 (endWake port)

end Sys2Proof.Machine
end

