-- ==== Sys2Proof/Machine/Traffic.lean ====
section
/-! DEFINITION. The packet layer (chapter 10): taking and forwarding, video streams, fences, time messages, chain
enumeration and the cox device, breaks, and the sending of local packets. A CONTROL packet's message goes to the object
agent in Cop.lean. -/

namespace Sys2Proof.Machine

/-! ### Packets (R246 to R251) -/

/-- `n` bytes of the kind fields from byte `o` of the header, 8 ≤ o (Table 1). -/
def Packet.num (k : Packet) (o n : Nat) : Nat := leNat ((k.fields.drop (o - 8)).take n)

/-- The kind fields with bytes from byte `o` of the header replaced. -/
def Packet.patched (k : Packet) (o : Nat) (bs : Bytes) : Bytes :=
  k.fields.take (o - 8) ++ bs ++ k.fields.drop (o - 8 + bs.length)

/-- Fields of a VIDEO packet (Table 4). -/
def Packet.frameNumber (k : Packet) : Nat := k.num 12 4
def Packet.format (k : Packet) : Nat := k.num 10 1

/-- Pixels of the payload. -/
def Packet.pixels (k : Packet) : Nat := k.payload.length / bytesPerPixel k.format

/-- The checks of R253. -/
def Packet.videoOk (k : Packet) : Bool :=
  k.format ≤ 2 && k.payload.length % bytesPerPixel k.format == 0 && k.num 20 2 != 0 && k.num 22 2 != 0

/-- The header of a packet as it is sent with its kind fields, LENGTH and HOPS. -/
def Packet.header (k : Packet) (length : Nat) : Block := headerBlock k.kind k.hops length k.dest k.source k.fields

/-- LENGTH of a header block. -/
def headerLength (b : Block) : Nat := leNat ((b.bytes.drop 2).take 2)

/-- The HEADER_CRC and LENGTH of a header block are right (R247, R248). -/
def headerGood (b : Block) : Bool :=
  crc32 (b.bytes.take 28) == leNat (b.bytes.drop 28) && decide (headerLength b ≤ 1500)

/-- The POISON block (R251). -/
def poisonBlock : Block := { head := true, bytes := 0xFE#8 :: List.replicate 31 0#8 }

/-- The packet of a header block and its payload blocks (R246, R247). -/
def packetOf (h : Block) (payload : List RxBlock) : Packet :=
  let num := fun o n => leNat ((h.bytes.drop o).take n)
  let bs := payload.flatMap (·.block.bytes)
  let n := headerLength h
  { kind := num 0 1, hops := num 1 1, dest := num 4 2, source := num 6 2, fields := (h.bytes.drop 8).take 20
    payload := bs.take n, bodyOk := n == 0 || crc32 (bs.take n) == leNat ((bs.drop n).take 4)
    marked := (payload.filter (·.bad)).length }

/-! ### The receiver (R248; assumption log 168) -/

/-- What stands next among the blocks received: nothing whole; a block marked in error with no packet in progress, which
is a header when its type bit says so; a header that fails; an orphan payload block; POISON; a packet cut off by a header
block, or by POISON; or a whole packet. -/
inductive Found where
  | nothing
  | marked (header : Bool)
  | badHeader
  | orphan
  | poison
  | cut (byPoison : Bool)
  | packet (k : Packet)
  deriving DecidableEq, Repr

/-- What stands next behind `idles` IDLE blocks, the blocks it takes, and those behind it. -/
structure Front where
  idles : Nat
  found : Found
  blocks : List RxBlock
  rest : List RxBlock
  deriving DecidableEq, Repr

/-- A block that may be a payload block of a packet in progress. -/
def RxBlock.body (b : RxBlock) : Bool := b.bad || !b.block.head

/-- The packet that a good header starts. -/
def frontPacket (h : RxBlock) (bs : List RxBlock) : Found × List RxBlock × List RxBlock :=
  let n := payloadCount (headerLength h.block)
  let payload := (bs.take n).takeWhile RxBlock.body
  let rest := bs.drop payload.length
  if payload.length = n then (.packet (packetOf h.block payload), h :: payload, rest)
  else match rest with
    | [] => (.nothing, [], h :: bs)
    | b :: more => if b.block = poisonBlock then (.cut true, h :: payload ++ [b], more) else (.cut false, h :: payload, rest)

/-- What stands next among received blocks. -/
def frontOf : List RxBlock → Front
  | [] => { idles := 0, found := .nothing, blocks := [], rest := [] }
  | b :: bs =>
    if b.bad then { idles := 0, found := .marked (b.block.head && b.block != {}), blocks := [b], rest := bs }
    else if !b.block.head then { idles := 0, found := .orphan, blocks := [b], rest := bs }
    else if b.block = {} then
      match frontOf bs with
      | ⟨n, found, blocks, rest⟩ => ⟨n + 1, found, blocks, rest⟩
    else if b.block = poisonBlock then { idles := 0, found := .poison, blocks := [b], rest := bs }
    else if !headerGood b.block then { idles := 0, found := .badHeader, blocks := [b], rest := bs }
    else
      let r := frontPacket b bs
      { idles := 0, found := r.1, blocks := r.2.1, rest := r.2.2 }

/-- What stands next among the blocks received on a port. -/
def State.front (s : State) (p : Port) : Front := frontOf (s.stream p).rx

/-- A KIND of Table 2 that a device takes; POISON is no packet. -/
def knownKind (n : Nat) : Bool :=
  (1 ≤ n && n ≤ 5) || (0x10 ≤ n && n ≤ 0x12) || (0x20 ≤ n && n ≤ 0x23)

/-- The tile address in force, none when TILE_ADDRESS holds none (Table 6). -/
def State.tileAddress (s : State) : Option Nat :=
  let a := s.reg Obj.TILE_ADDRESS
  if 0x0100 ≤ a && a ≤ 0xFEFF then some a else none

/-- The device is addressed (R250 Table 3). -/
def State.addressed (s : State) (dest : Nat) : Bool :=
  if dest = 0xFFFF || dest = 0xFFFD then true
  else if dest = 0xFFFE then s.flag Obj.COX_DEVICE
  else if 1 ≤ dest && dest ≤ 0x40 then dest == s.reg Obj.CHAIN_POSITION
  else s.tileAddress == some dest

/-- A packet is removed, not forwarded: one addressed to this device alone (R250); a packet of an unknown KIND is never
taken (R248), so only the neighbour's address stops it. -/
def State.removes (s : State) (k : Packet) : Bool :=
  k.dest == 0xFFFD || (knownKind k.kind && s.addressed k.dest && k.dest != 0xFFFF)

/-- The port is the source port. -/
def State.fromSource (s : State) (p : Port) : Bool := s.reg Obj.SOURCE_PORT == portIx p

/-- The blocks in front are taken; the IDLE blocks before them go into the other port's stream. -/
def takeFront (p : Port) (s : State) : State :=
  let f := s.front p
  let s1 := s.modStream p fun x => { x with rx := f.rest }
  if s.up (otherPort p) then carry (otherPort p) (idles f.idles) s1 else s1

/-- What is sent in place of received blocks goes out of the other port, when that is UP; `poisoned` of them are POISON. -/
def pass (p : Port) (blocks : List Block) (poisoned : Nat) (s : State) : State :=
  if s.up (otherPort p) then (carry (otherPort p) blocks s).bumpAt (Obj.PKT_POISON_SENT (portIx p)) 0 poisoned else s

/-- What is sent in place of a received payload block of a forwarded packet (R251). -/
def RxBlock.sent (b : RxBlock) : Block := if b.bad then poisonBlock else b.block

/-- Forward a packet that is not removed, with HOPS one more (R250, R251); a removed packet, and one that is dropped, leaves
IDLE blocks in its place. -/
def forward (p : Port) (k sent : Packet) (blocks : List RxBlock) (s : State) : State :=
  if s.removes sent then pass p (idles blocks.length) 0 s
  else if 64 ≤ k.hops || !s.up (otherPort p) then pass p (idles blocks.length) 0 (s.bump (Obj.PKT_FORWARD_DROPS (portIx p)))
  else
    let h := ({ sent with hops := min (k.hops + 1) 255 } : Packet).header k.payload.length
    pass p (h :: (blocks.drop 1).map RxBlock.sent) k.marked (s.bump (Obj.PKT_FORWARDED (portIx p)))

/-- A packet is discarded (R248). -/
def discard (p : Port) (s : State) : State := s.bump (Obj.PKT_DISCARDED (portIx p))

/-- The packet `k` in front of a port is taken from the blocks received: forwarding as `sent`, and `use` when it is taken;
`valid` says whether the kind's own checks pass, `takes` whether this kind is taken on this port. -/
def arrive (p : Port) (k sent : Packet) (valid takes : Bool) (use : State → State) (s : State) : State :=
  let s1 := (takeFront p s).bump (Obj.PKT_RX (portIx p))
  let s2 := forward p k sent (s.front p).blocks s1
  if !k.bodyOk || k.marked ≠ 0 then discard p s2
  else if knownKind k.kind && s.addressed k.dest then
    if !valid then discard p s2
    else if takes then use (s2.bump (Obj.PKT_TAKEN (portIx p)))
    else s2
  else s2

/-- The header of a packet that something cut off, and its forwarding up to there (R248, R251). -/
def cutOffPacket (p : Port) (byPoison : Bool) (s : State) : State :=
  let f := s.front p
  let s1 := discard p ((takeFront p s).bump (Obj.PKT_RX (portIx p)))
  match f.blocks with
  | h :: payload =>
    let k := packetOf h.block []
    let body := if byPoison then payload.dropLast else payload
    let tail := if byPoison then [poisonBlock] else []
    let s2 := forward p { k with marked := (body.filter (·.bad)).length } { k with payload := [] } (h :: body) s1
    pass p tail 0 s2
  | [] => s1

/-- What stands in front is no whole packet (R248, R251). -/
def passFront (p : Port) (s : State) : State :=
  match (s.front p).found with
  | .nothing => s
  | .marked header => pass p [poisonBlock] 1 (if header then discard p (takeFront p s) else takeFront p s)
  | .badHeader => pass p [poisonBlock] 1 (discard p (takeFront p s))
  | .orphan => pass p (idles 1) 0 (takeFront p s)
  | .poison => pass p [poisonBlock] 0 (takeFront p s)
  | .cut byPoison => cutOffPacket p byPoison s
  | .packet k => arrive p k k true true id s

/-- The packet in front of a port. -/
def State.arrived (s : State) (p : Port) : Option Packet :=
  match (s.front p).found with
  | .packet k => some k
  | _ => none

/-- The packet of kind `kind` in front of a port that is UP is dealt with. -/
def onPacket (p : Port) (kind : Nat) (op : Packet → State → State) : State → Host.Outcome State Fault Refusal :=
  onIslandIf 0 (fun s => s.up p && (s.arrived p).any (·.kind == kind)) fun s => ((s.arrived p).map fun k => op k s).getD s

/-! ### Video streams (R253, R254, 04 R105) -/

/-- The layers that use a stream, by their objects taken at the last boundary (04 R121). -/
def State.streamLayers (s : State) (stream : Nat) : List Nat :=
  (List.range 7).filter fun l => s.reg (Obj.LAYER_STATE l) == 1 && (s.layer l).stream == some stream

/-- A buffer neither in force nor pending (04 R105). -/
def LayerState.freeBuffer (x : LayerState) (current : Nat) : Nat :=
  ((List.range 3).find? fun n => !((x.bound && n == current) || x.streamPending.map (·.1) == some n)).getD 0

/-- The frame that a packet belongs to is the one in progress, or it starts a new one and the old is abandoned. -/
def openFrame (l : Nat) (k : Packet) (s : State) : StreamFill × State :=
  let x := s.layer l
  let fresh : StreamFill :=
    { buffer := x.freeBuffer (s.reg (Obj.LAYER_CURRENT_BUFFER l)), frame := k.frameNumber, format := k.format
      width := k.num 20 2, height := k.num 22 2, received := 0, lost := false, stream := k.num 8 2 }
  match x.filling with
  | none => (fresh, s)
  | some f => if f.frame = k.frameNumber && f.stream = k.num 8 2 then (f, s) else (fresh, s.bump (Obj.LAYER_DISCARDED l))

/-- The pixels of a packet that lie inside buffer `n` of a layer: how many, from the first on (R254). -/
def State.inside (s : State) (l n : Nat) (k : Packet) : Nat :=
  if k.num 16 2 < s.reg (Obj.LAYER_BUF_HEIGHT l n) then min k.pixels (s.reg (Obj.LAYER_BUF_WIDTH l n) - k.num 18 2) else 0

/-- Write the pixels inside the buffer, and whether every burst was written (04 R95, 11 R288). -/
def writePixels (l n : Nat) (k : Packet) (s : State) : Bool × State :=
  let bytes := k.payload.take (s.inside l n k * bytesPerPixel k.format)
  let a := s.reg (Obj.LAYER_BUF_ADDR l n) % 2 ^ 40 + k.num 16 2 * s.reg (Obj.LAYER_BUF_STRIDE l n) +
    k.num 18 2 * bytesPerPixel k.format
  writeBursts (burstsAt a bytes.length) bytes (if bytes.isEmpty then s else s.crossed 3)

/-- A frame whose pixels have all arrived becomes pending; it replaces an older one (04 R105). -/
def closeFrame (l : Nat) (f : StreamFill) (s : State) : State :=
  let x := s.layer l
  if f.ended && !f.lost && f.received = f.width * f.height then
    let s1 := if x.streamPending.isSome then s.bump (Obj.LAYER_DISCARDED l) else s
    s1.setLayer l { x with filling := none, streamPending := some (f.buffer, f.frame, f.stream), lastPending := some s.ticks
                           streamFormat := Sparse.set (fun _ => (0, 0, 0)) x.streamFormat f.buffer (f.format, f.width, f.height) }
  else s.setLayer l { x with filling := some f }

/-- One layer uses a packet (R254); a frame abandoned at a failover is not resumed (R264). -/
def useVideo (k : Packet) (s : State) (l : Nat) : State :=
  if s.traffic.abandoned.contains (l, k.frameNumber) then s
  else
    let s1 := { s with traffic := { s.traffic with abandoned := s.traffic.abandoned.filter (·.1 != l) } }
    let o := openFrame l k s1
    let w := writePixels l o.1.buffer k o.2
    let f := { o.1 with received := o.1.received + k.pixels, lost := o.1.lost || !w.1
                        ended := o.1.ended || bitAt (k.num 11 1) 0 }
    closeFrame l f (if s.inside l o.1.buffer k < k.pixels then w.2.bump Obj.VIDEO_OUTSIDE else w.2)

/-- The layers that use this packet: none takes a frame that it abandoned at a failover (R254, R264). -/
def State.videoUsers (s : State) (k : Packet) : List Nat :=
  (s.streamLayers (k.num 8 2)).filter fun l => !s.traffic.abandoned.contains (l, k.frameNumber)

/-- A VIDEO packet is taken from the source port. -/
def takeVideo (k : Packet) (s : State) : State :=
  let users := s.videoUsers k
  users.foldl (useVideo k) (if users.isEmpty then s else (s.bump Obj.VIDEO_PACKETS).crossed 1)

/-- A VIDEO or FENCE packet for this device alone on the other port is removed and counted (R254, R256). -/
def notSource (p : Port) (k : Packet) (s : State) : State :=
  if k.bodyOk && k.marked = 0 && !s.fromSource p && k.dest ≠ 0xFFFF && s.addressed k.dest then
    s.bump Obj.VIDEO_NOT_SOURCE
  else s

/-- VIDEO (R253, R254). -/
def videoArrives (p : Port) (k : Packet) (s : State) : State :=
  (if k.videoOk then notSource p k else id) (arrive p k k k.videoOk (s.fromSource p) (takeVideo k) s)

/-- FENCE (R256): a fence signal that arrives now. -/
def fenceArrives (p : Port) (k : Packet) (s : State) : State :=
  notSource p k (arrive p k k true (s.fromSource p)
    (fun t => if 15 < k.num 8 1 then t else fenceSignal (k.num 8 1) (k.num 12 4) (some t.nowNs) t) s)

/-! ### Time messages (R259, 08 R210, R211) -/

/-- Picoseconds as 2^-16 ns, rounded. -/
def psUnits (ps : Int) : Int := roundDiv (ps * 65536) 1000

/-- The SYNC as it is forwarded: the CORRECTION of 08 R211. -/
def State.syncSent (s : State) (p : Port) (k : Packet) (residence : Nat) : Packet :=
  let c := signed 64 (k.num 20 8) + psUnits (s.delayOf p).delay + psUnits residence
  { k with fields := k.patched 20 (natLE 8 (image 64 c)) }

/-- θ of 08 R211 in ns: domain time at ingress less origin, correction and link delay. -/
def State.syncTheta (s : State) (p : Port) (k : Packet) : Rat :=
  (((s.dom (domOf (k.num 8 1))).counter : Int) : Rat) / 4294967296 - (timeNs (k.num 10 10) : Int) -
    (signed 64 (k.num 20 8) : Rat) / 65536 - ((s.delayOf p).delay : Rat) / 1000

/-- The measurement of a SYNC taken from the source port (08 R211 step 2). -/
def syncMeasure (p : Port) (k : Packet) (s : State) : State :=
  let d := domOf (k.num 8 1)
  if s.reg (Obj.DOM_SOURCE (domIx d)) = 1 then measure d (s.syncTheta p k) s else s

/-- The port has lost the correction of this SYNC: it leaves no packet (02 R42 H08). -/
def dropSync (p : Port) (s : State) : State :=
  { s with traffic := { s.traffic with syncLost := remove (portIx p) s.traffic.syncLost } }

/-- Will a SYNC of a domain of the device be forwarded with its correction. -/
def State.forwardsSync (s : State) (p : Port) (k : Packet) : Bool :=
  !s.removes k && k.hops < 64 && s.up (otherPort p)

/-- SYNC (R259, 08 R211): forwarded with its correction, measured from the source port; a DOMAIN above 1 is only
forwarded. -/
def syncArrives (p : Port) (k : Packet) (residence : Nat) (s : State) : State :=
  if 1 < k.num 8 1 then arrive p k k true false id s
  else if s.traffic.syncLost.contains (portIx p) then
    -- removed from the stream: it arrives as one for the neighbour, which no device forwards
    arrive p k { k with dest := 0xFFFD } true (s.fromSource p) (syncMeasure p k) (dropSync p s)
  else
    let s1 := arrive p k (s.syncSent p k residence) true (s.fromSource p) (syncMeasure p k) s
    if s.forwardsSync p k then
      ((s1.bump Obj.SYNC_FORWARDED).crossed 8).setReg Obj.RESIDENCE_MAX (min (max (s1.reg Obj.RESIDENCE_MAX) residence) 0xFFFFFFFF)
    else s1

/-- DELAY_REQ is answered with t3 − t2 in ps (R259). -/
def answerDelay (p : Port) (k : Packet) (turnaround : Nat) (s : State) : State :=
  s.enqueue { port := p, cls := 1, kind := 0x12, dest := 0xFFFD, payload := []
              fields := natLE 2 (k.num 8 2) ++ natLE 2 0 ++ natLE 4 turnaround ++ natLE 12 0 }

/-! ### Enumeration and the cox device (R260 to R263) -/

/-- The class to announce: a COX_ROLE of never, the strap, prefer, automatic (R261). -/
def State.coxClass (s : State) : Nat :=
  if s.reg Obj.COX_ROLE = 2 then 3
  else if bitAt (s.reg Obj.STRAPS) 0 then 0
  else if s.reg Obj.COX_ROLE = 1 then 1 else 2

/-- The device's own ANNOUNCE. -/
def State.ownAnnounce (s : State) : Announce :=
  { serial := Config.deviceSerial, tile := s.tileAddress.getD 0, position := s.reg Obj.CHAIN_POSITION
    reverse := s.reg Obj.CHAIN_REVERSE_POSITION, cls := s.coxClass }

/-- A packet of class 2 leaves both ports that are UP. -/
def bothPorts (kind dest : Nat) (fields payload : Bytes) (s : State) : State :=
  [Port.a, Port.b].foldl (fun t p =>
    if t.up p then t.enqueue { port := p, cls := 2, kind := kind, dest := dest, fields := fields, payload := payload } else t) s

/-- ANNOUNCE leaves both ports (R261); COX_CLASS shows the class announced (R267). -/
def announce (s0 : State) : State :=
  let s := s0.setReg Obj.COX_CLASS s0.coxClass
  let a := s.ownAnnounce
  bothPorts 0x21 0xFFFF (natLE 4 (s.reg Obj.CHAIN_ENUM_ID) ++ natLE 8 a.serial ++ natLE 2 a.tile ++ natLE 1 a.position ++
    natLE 1 a.reverse ++ natLE 1 a.cls ++ natLE 3 0) [] s

/-- A new enumeration begins (R260): the cox role ends, no choice is made for the old one (R262). -/
def beginEnum (id : Nat) (s : State) : State :=
  let s1 := ((s.setReg Obj.CHAIN_ENUM_ID id).setFlag Obj.CHAIN_RING false).setFlag Obj.COX_DEVICE false
  { s1 with traffic := { s1.traffic with announces := [], electing := true, primary := none, secondary := none } }

/-- An end of the chain has been taken under the ENUM_ID in force (R260): the secondary end alone makes its arrival port
the source port, with position 0. -/
def takeEnd (p : Port) (secondary ring : Bool) (hops : Nat) (s : State) : State :=
  let position := min (hops + 1) 255
  if secondary then
    let s1 := (s.setReg Obj.CHAIN_REVERSE_POSITION position)
    let s2 := if s.traffic.primary.isNone then (s1.setReg Obj.CHAIN_POSITION 0).setReg Obj.SOURCE_PORT (portIx p) else s1
    { s2 with traffic := { s2.traffic with secondary := some ring } }
  else
    let s1 := (s.setReg Obj.CHAIN_POSITION position).setReg Obj.SOURCE_PORT (portIx p)
    { s1 with traffic := { s1.traffic with primary := some ring } }

/-- CHAIN_ENUM is taken (R260, R261): END above 1 sets nothing. -/
def takeEnum (p : Port) (k : Packet) (s : State) : State :=
  let id := k.num 8 4
  let whichEnd := k.num 12 1
  let ring := bitAt (k.num 13 1) 0
  let first := s.traffic.primary.isNone && s.traffic.secondary.isNone
  if 1 < whichEnd then s
  else
    let s1 := if first || id ≠ s.reg Obj.CHAIN_ENUM_ID then beginEnum id s else s
    let already := if whichEnd = 1 then s1.traffic.secondary.isSome else s1.traffic.primary.isSome
    let s2 := if already then s1 else takeEnd p (whichEnd == 1) ring k.hops s1
    announce (if s2.traffic.primary = some true && s2.traffic.secondary = some true then s2.setFlag Obj.CHAIN_RING true else s2)

/-- Two ANNOUNCE packets come from one device, which sends one for each end of the chain: the same serial, and the same
position from an end that both know (R260, R261; assumption log 169). -/
def Announce.same (a b : Announce) : Bool :=
  a.serial == b.serial && ((a.position == b.position && a.position != 0) || (a.reverse == b.reverse && a.reverse != 0))

/-- ANNOUNCE is taken: kept until the election, or late (R262); another device's same tile address (R250). -/
def takeAnnounce (k : Packet) (s : State) : State :=
  let a : Announce :=
    { serial := k.num 12 8, tile := k.num 20 2, position := k.num 22 1, reverse := k.num 23 1, cls := k.num 24 1 }
  if !s.traffic.electing || k.num 8 4 ≠ s.reg Obj.CHAIN_ENUM_ID then s.bump Obj.ANNOUNCES_LATE
  else
    let s1 := { s with traffic := { s.traffic with
      announces := s.traffic.announces.filter (fun b => !b.same a) ++ [a] } }
    if s.tileAddress = some a.tile && !a.same s.ownAnnounce then s1.setFlag Obj.ADDRESS_DUPLICATE true else s1

/-- Announce `a` wins over `b` (R262). -/
def Announce.beats (a b : Announce) : Bool :=
  a.cls < b.cls || (a.cls == b.cls && (a.serial < b.serial || (a.serial == b.serial && a.position < b.position)))

/-- Every announce of the enumeration, the device's own included. -/
def State.candidates (s : State) : List Announce :=
  s.ownAnnounce :: s.traffic.announces.filter fun a => !a.same s.ownAnnounce

/-- The winner of the election (R262): class 3 never wins. -/
def State.winner (s : State) : Option Announce :=
  (s.candidates.filter (·.cls < 3)).foldl (fun w a =>
    match w with
    | none => some a
    | some b => if a.beats b then some a else some b) none

/-- One entry of the ROSTER (R263). -/
def rosterEntry (all : List Announce) (a : Announce) : Bytes :=
  let twice := all.any fun b => !b.same a && b.tile == a.tile && a.tile != 0 && b != a
  natLE 8 a.serial ++ natLE 2 a.tile ++ natLE 1 a.position ++ natLE 1 a.reverse ++ natLE 1 a.cls ++ natLE 1 (b2n twice) ++
    natLE 2 0

/-- The ROSTER leaves both ports (R263), entries in ascending POSITION. -/
def sendRoster (s : State) : State :=
  let all := s.candidates.mergeSort (fun a b => a.position ≤ b.position)
  bothPorts 0x22 0x0000 (natLE 4 (s.reg Obj.CHAIN_ENUM_ID) ++ natLE 1 all.length ++ natLE 15 0)
    (all.flatMap (rosterEntry all)) s

/-- The election (R262, R263). -/
def elect (s : State) : State :=
  let s0 := { s with traffic := { s.traffic with electing := false } }
  match s.winner with
  | none => (s0.setReg Obj.COX_SERIAL 0).setFlag Obj.COX_DEVICE false
  | some w =>
    let s1 := s0.setReg Obj.COX_SERIAL w.serial
    if w = s.ownAnnounce then
      sendRoster ((s1.setFlag Obj.COX_DEVICE true).event 6 (natLE 8 w.serial))
    else s1.setFlag Obj.COX_DEVICE false

/-- BREAK is taken: a ring device whose source port it arrived on switches (R264). -/
def takeBreak (p : Port) (s : State) : State :=
  if s.flag Obj.CHAIN_RING && s.fromSource p then failover p s else s

/-! ### Local packets (R252, R257, R258) -/

/-- Tokens of a packet with a payload of `n` bytes, in 1/64 000 block. -/
def tokensOf (n : Nat) : Nat := 64000 * (1 + payloadCount n)

/-- Spend tokens. -/
def spend (n : Nat) (s : State) : State := { s with traffic := { s.traffic with tokens := s.traffic.tokens - n } }

/-- An event as a packet (R257): EVENT_SEQ is EVENT_SEQUENCE at sending. -/
def Event.packet (e : Event) (p : Port) (dest seq : Nat) : LocalPacket :=
  { port := p, cls := 3, kind := 0x04, dest := dest, payload := e.data
    fields := natLE 2 e.code ++ natLE 2 seq ++ natLE 10 e.time ++ natLE 6 0 }

/-- The next ECHO packet: 1 500 bytes of the frame (R258). -/
def EchoFrame.packet (e : EchoFrame) (sent : Nat) (p : Port) (dest : Nat) : LocalPacket :=
  { port := p, cls := 4, kind := 0x05, dest := dest, payload := (e.bytes.drop sent).take 1500
    fields := natLE 4 e.frame ++ natLE 4 sent ++ natLE 4 e.bytes.length ++ natLE 8 0
    lastEcho := decide (e.bytes.length ≤ sent + 1500) }

/-- The packet that leaves a port next (R252): class 1, class 2, then the oldest event and the echo frame being sent, which
use the source port. -/
def State.nextPacket (s : State) (p : Port) : Option LocalPacket :=
  match s.waitingOn p with
  | x :: _ => some x
  | [] =>
    if !s.fromSource p then none
    else match s.traffic.events, s.layers.echoSending with
      | e :: _, _ => some (e.packet p (s.reg Obj.EVENT_DEST) (s.reg Obj.EVENT_SEQUENCE))
      | [], some (e, sent) => if e.bytes.length ≤ sent then none else some (e.packet sent p (s.reg Obj.ECHO_DEST))
      | [], none => none

/-- A packet leaves the queue that it waited in; classes 3 and 4 spend their tokens. -/
def dequeue (k : LocalPacket) (s : State) : State :=
  if k.cls ≤ 2 then { s with traffic := { s.traffic with queue := s.traffic.queue.erase k } }
  else
    let s1 := spend (tokensOf k.payload.length) s
    if k.cls = 3 then { s1.bump Obj.EVENT_SEQUENCE with traffic := { s1.traffic with events := s1.traffic.events.drop 1 } }
    else { s1 with layers := { s1.layers with echoSending := s1.layers.echoSending.map fun x => (x.1, x.2 + 1500) } }

/-- The next local packet of a port starts, when the blocks that it would replace are IDLE and, for classes 3 and 4, the
bucket holds its blocks (R252). -/
def sendNext (p : Port) (s : State) : State :=
  match s.nextPacket p with
  | none => s
  | some k =>
    if s.lineFree p k.blocks.length && (k.cls ≤ 2 || tokensOf k.payload.length ≤ s.traffic.tokens) then
      startPacket k (dequeue k s)
    else s

/-- TRAFFIC_COUNTERS_CLEAR: every counter of Tables 6, 8 and 9 (R267). -/
def actTrafficCountersClear : Action := fun _ s =>
  .done (s.clearRegs ([Obj.FAILOVERS, Obj.ANNOUNCES_LATE, Obj.VIDEO_PACKETS, Obj.VIDEO_OUTSIDE, Obj.VIDEO_NOT_SOURCE,
    Obj.EVENTS_SENT, Obj.EVENTS_DROPPED] ++
    repeated 2 [Obj.PKT_RX 0, Obj.PKT_TAKEN 0, Obj.PKT_FORWARDED 0, Obj.PKT_DISCARDED 0, Obj.PKT_POISON_SENT 0,
      Obj.PKT_FORWARD_DROPS 0, Obj.PKT_LOCAL_SENT 0, Obj.PKT_LOCAL_DROPS 0, Obj.PKT_IDLE_ADJUST 0]))

/-- Kinds that have a row of their own when they are taken. -/
def ownRow (kind : Nat) : Bool :=
  (1 ≤ kind && kind ≤ 3) || (0x10 ≤ kind && kind ≤ 0x12) || kind == 0x20 || kind == 0x21 || kind == 0x23

/-! ### The meanings -/

/-- VIDEO_PACKET_RX (R254). -/
def execVideoPacketRx (port : Port) : State → Host.Outcome State Fault Refusal := onPacket port 0x01 (videoArrives port)

/-- FENCE_PACKET_RX (R256). -/
def execFencePacketRx (port : Port) : State → Host.Outcome State Fault Refusal := onPacket port 0x03 (fenceArrives port)

/-- SYNC_RX (08 R211); `residence` is t_out − t_in in ps. -/
def execSyncRx (port : Port) (residence : Nat) : State → Host.Outcome State Fault Refusal :=
  onPacket port 0x10 fun k => syncArrives port k residence

/-- DELAY_REQ_RX (R259); `turnaround` is t3 − t2 in ps. -/
def execDelayReqRx (port : Port) (turnaround : Nat) : State → Host.Outcome State Fault Refusal :=
  onPacket port 0x11 fun k => arrive port k k true true (answerDelay port k turnaround)

/-- DELAY_RESP_RX (08 R210); `roundTrip` is t4 − t1 in ps, and the packet holds t3 − t2. -/
def execDelayRespRx (port : Port) (roundTrip : Nat) : State → Host.Outcome State Fault Refusal :=
  onPacket port 0x12 fun k => arrive port k k true true (delaySample port (k.num 8 2) (k.num 12 4) roundTrip)

/-- CHAIN_ENUM_RX (R260). -/
def execChainEnumRx (port : Port) : State → Host.Outcome State Fault Refusal :=
  onPacket port 0x20 fun k => arrive port k k true true (takeEnum port k)

/-- ANNOUNCE_RX (R262). -/
def execAnnounceRx (port : Port) : State → Host.Outcome State Fault Refusal :=
  onPacket port 0x21 fun k => arrive port k k true true (takeAnnounce k)

/-- COX_ELECTION (R262). -/
def execCoxElection : State → Host.Outcome State Fault Refusal := onIslandIf 6 (fun s => s.traffic.electing) elect

/-- BREAK_RX (R264). -/
def execBreakRx (port : Port) : State → Host.Outcome State Fault Refusal :=
  onPacket port 0x23 fun k => arrive port k k true true (takeBreak port)

/-- POISON_RX (R248): POISON, and the packet that it ends. -/
def execPoisonRx (port : Port) : State → Host.Outcome State Fault Refusal :=
  onIslandIf 0 (fun s => s.up port && ((s.front port).found == .poison || (s.front port).found == .cut true)) (passFront port)

/-- What stands in front of a port has no row of its own: a packet that this device does not take, or takes without a row,
a packet cut off by a header, a block that is no packet. -/
def State.forwardsOnly (s : State) (p : Port) : Bool :=
  match (s.front p).found with
  | .nothing => false
  | .poison => false
  | .cut byPoison => !byPoison
  | .packet k => !(ownRow k.kind && s.addressed k.dest)
  | _ => true

/-- PACKET_FORWARD (R251). -/
def execPacketForward (port : Port) : State → Host.Outcome State Fault Refusal :=
  onIslandIf 0 (fun s => s.up port && s.forwardsOnly port) (passFront port)

/-- LOCAL_PACKET_SEND (R252). -/
def execLocalPacketSend (port : Port) : State → Host.Outcome State Fault Refusal :=
  onIslandIf 0 (fun s => s.up port) (sendNext port)

/-- TRAFFIC_COUNTERS_CLEAR (R267). -/
def execTrafficCountersClear (rq : Req) (data : Bytes) : State → Host.Outcome State Fault Refusal :=
  hostWrite actTrafficCountersClear rq Obj.TRAFFIC_COUNTERS_CLEAR data

end Sys2Proof.Machine
end

