-- ==== Sys2Proof/Machine/Islands.lean ====
section
/-! DEFINITION. Islands and crossings (chapter 02): the outcomes of crossing timeouts, late acknowledges, gating and
wake holds, and the SRAM counters. -/

namespace Sys2Proof

/-- Number, sending island and receiving island of a transfer (Table 2). -/
def Transfer.crossing : Transfer → Nat × Nat × Nat
  | .videoFlit _ => (1, 0, 1)
  | .readResponse _ => (2, 2, 1)
  | .writeRequest _ => (3, 1, 2)
  | .sliceSegment _ _ => (4, 1, 4)
  | .strokeLoad _ => (5, 4, 3)
  | .probeResult _ _ _ _ => (6, 4, 1)
  | .catchTime => (7, 5, 4)
  | .syncCorrection _ => (8, 5, 0)
  | .copAccess _ _ index sub => (9, 6, Machine.islandOf (index * 256 + sub))
  | .egressTap _ => (10, 4, 7)
  | .beaconReplay _ => (11, 7, 4)

end Sys2Proof

namespace Sys2Proof.Machine

/-! ### Crossings (R39 to R42) -/

/-- A crossing times out: the request is withdrawn, the timeout counted with its time, and the fault source of the
receiving island raised (R41, R42). -/
def noteTimeout (h receiver : Nat) (s : State) : State :=
  let s1 := s.setCrossing h (s.crossing h).withdraw
  let s2 := (s1.bumpAt Obj.CROSSING_TIMEOUTS h 1).setRegAt Obj.CROSSING_LAST_TIMEOUT h s.stampA
  (s2.setReg Obj.CROSSING_TIMEOUT_MASK (putBit (s.reg Obj.CROSSING_TIMEOUT_MASK) (h - 1) true)).occur receiver

/-- Requested data are marked missing (H02). -/
def readMissing : PixelRead → State → State
  | .calRecord px, s => s.noteMissing 0 (s.calAddr px) 32
  | .dose e, s => s.noteMissing 1 (s.doseAddr e) 4
  | .layerPixels l, s => s.noteMissing (64 + l) 0 1

/-- A flit of a layer's stream frame is lost: the frame never completes (H01, 04 R105). -/
def loseFlit (l : Nat) (s : State) : State :=
  match (s.layer l).filling with
  | none => s
  | some f => s.setLayer l { s.layer l with filling := some { f with lost := true } }

/-- An access whose crossing times out aborts once its rights and island are in order (H09). -/
def accessTimeout (receiver : Nat) (q : Request) (s : State) : State :=
  match s.findObj q.obj with
  | none => s.respond q abortNoObject 0 []
  | some r =>
    let right := if q.opcode = 1 then readRight r else s.writeAbort r q.obj q.rq.role
    if right ≠ 0 then s.respond q right 0 []
    else match s.reach r q.obj with
      | .ready => (noteTimeout 9 receiver s).respond q abortTimeout 0 []
      | .asleep => s.respond q abortAsleep 0 []
      | .hold i => s.hold i q

/-- The outcome of a timeout (Table 2). -/
def timeoutOutcome : Transfer → State → State
  | .videoFlit l, s => loseFlit l s
  | .readResponse what, s => readMissing what s
  | .writeRequest a, s => { s with pipe := { s.pipe with dropped := s.pipe.dropped ++ [a] } }
  | .sliceSegment b n, s => spoilSlice b n s
  | .strokeLoad b, s => loseStroke b s
  | .probeResult b n f j, s => loseProbe b n f j s
  | .catchTime, s => s.modCatch fun g => { g with unaligned := true }
  | .syncCorrection p, s => { s with traffic := { s.traffic with syncLost := insertOnce (portIx p) s.traffic.syncLost } }
  | .copAccess _ _ _ _, s => s
  | .egressTap b, s => { s with safety := { s.safety with tapLost := insertOnce b s.safety.tapLost } }
  | .beaconReplay b, s => { s with safety := { s.safety with replayBlank := insertOnce b s.safety.replayBlank } }

/-- The request of a COP access that times out. -/
def timedRequest (rq : Req) (opcode index sub : Nat) : Request :=
  { rq := rq, opcode := opcode, obj := index * 256 + sub, seg := { isFirst := true, isLast := true, offset := 0 }
    snapshot := false, data := [] }

/-- A crossing times out (R41). -/
def crossTimeout (x : Transfer) (s : State) : State :=
  match x with
  | .copAccess rq opcode index sub => request (accessTimeout x.crossing.2.2) (timedRequest rq opcode index sub) s
  | .videoFlit _ => noteTimeout x.crossing.1 x.crossing.2.2 (timeoutOutcome x s)
  | .readResponse _ => noteTimeout x.crossing.1 x.crossing.2.2 (timeoutOutcome x s)
  | .writeRequest _ => noteTimeout x.crossing.1 x.crossing.2.2 (timeoutOutcome x s)
  | .sliceSegment _ _ => noteTimeout x.crossing.1 x.crossing.2.2 (timeoutOutcome x s)
  | .strokeLoad _ => noteTimeout x.crossing.1 x.crossing.2.2 (timeoutOutcome x s)
  | .probeResult _ _ _ _ => noteTimeout x.crossing.1 x.crossing.2.2 (timeoutOutcome x s)
  | .catchTime => noteTimeout x.crossing.1 x.crossing.2.2 (timeoutOutcome x s)
  | .syncCorrection _ => noteTimeout x.crossing.1 x.crossing.2.2 (timeoutOutcome x s)
  | .egressTap _ => noteTimeout x.crossing.1 x.crossing.2.2 (timeoutOutcome x s)
  | .beaconReplay _ => noteTimeout x.crossing.1 x.crossing.2.2 (timeoutOutcome x s)

/-- The device can time the crossing: its sender runs; for H09 the object agent does, with no access held before it. -/
def State.timesCrossing (s : State) (x : Transfer) : Bool :=
  match x with
  | .copAccess rq _ _ _ => s.agentRuns rq.via && s.cop.held.isEmpty
  | .videoFlit _ => s.alive x.crossing.2.1
  | .readResponse _ => s.alive x.crossing.2.1
  | .writeRequest _ => s.alive x.crossing.2.1
  | .sliceSegment _ _ => s.alive x.crossing.2.1
  | .strokeLoad _ => s.alive x.crossing.2.1
  | .probeResult _ _ _ _ => s.alive x.crossing.2.1
  | .catchTime => s.alive x.crossing.2.1
  | .syncCorrection _ => s.alive x.crossing.2.1
  | .egressTap _ => s.alive x.crossing.2.1
  | .beaconReplay _ => s.alive x.crossing.2.1

/-- An acknowledge with the withdrawn tag is discarded and counted (R41). -/
def lateAck (h : Nat) (tag : Bool) (s : State) : State :=
  if (s.crossing h).withdrawn.contains tag then
    (s.setCrossing h { s.crossing h with withdrawn := (s.crossing h).withdrawn.erase tag }).bumpAt Obj.CROSSING_LATE_ACKS h 1
  else s

/-! ### Gating (R46, R48) -/

/-- An island acknowledges its gate request and its clock stops (R48). -/
def gateAck (i : Nat) (s : State) : State :=
  let s1 := s.setIsland i .gated
  { s1 with device := { s1.device with gating := remove i s.device.gating, holds := remove i s.device.holds } }

/-- WAKE_HOLD ends: in S1 the island is gated again, LPDDR5 back in self-refresh (R46, 14 R354). -/
def holdEnd (i : Nat) (s : State) : State :=
  let s1 := { s with device := { s.device with holds := remove i s.device.holds } }
  if s.power.inS1 then
    let s2 := if i = 2 then enterSelfRefresh s1 else s1
    { s2 with device := { s2.device with gating := insertOnce i s2.device.gating } }
  else s1

/-- SRAM_COUNTERS_CLEAR (R53). -/
def actSramCountersClear : Action := fun _ s =>
  .done (s.clearRegs [Obj.SRAM_CORRECTED, Obj.SRAM_UNCORRECTED, Obj.SRAM_LAST_OFFSET])

/-! ### The meanings -/

/-- CROSSING_TIMEOUT (R41). -/
def execCrossingTimeout (x : Transfer) (s : State) : Host.Outcome State Fault Refusal :=
  gate (s.timesCrossing x) (crossTimeout x) s

/-- LATE_ACKNOWLEDGE (R41). -/
def execLateAcknowledge (crossing : Nat) (tag : Bool) : State → Host.Outcome State Fault Refusal :=
  onIsland 6 (lateAck crossing tag)

/-- WAKE_HOLD_EXPIRY (R46). -/
def execWakeHoldExpiry (island : Nat) : State → Host.Outcome State Fault Refusal :=
  onIslandIf 6 (fun s => s.device.holds.contains island && s.runs island) (holdEnd island)

/-- GATE_ACKNOWLEDGE (R48). -/
def execGateAcknowledge (island : Nat) : State → Host.Outcome State Fault Refusal :=
  onIslandIf 6 (fun s => s.device.gating.contains island && s.runs island) (gateAck island)

/-- SRAM_COUNTERS_CLEAR (R53). -/
def execSramCountersClear (rq : Req) (data : Bytes) : State → Host.Outcome State Fault Refusal :=
  hostWrite actSramCountersClear rq Obj.SRAM_COUNTERS_CLEAR data

end Sys2Proof.Machine
end

