-- ==== Sys2Proof/Machine/Power.lean ====
section
/-! DEFINITION. Performance levels, the AVSBus requests, and the ageing margin (chapter 14, R339 to R345). -/

namespace Sys2Proof.Machine

/-! ### Clocks (R339) -/

/-- Clock of the memory controller at a level, MHz. -/
def memClock (level : Nat) : Nat := natAt [800, 800, 533, 400] level

/-- Highest LPDDR5 rate of a level, MT/s. -/
def highestRate (level : Nat) : Nat := natAt [6400, 6400, 4267, 3200] level

/-- Clocks of CTRL and bit clock of BAND, MHz, the same at every level (R339, 02 R43). -/
def ctrlClock : Nat := 400
def bandBitClock : Nat := 1600

/-- The rate that MEM_DATA_RATE selects, MT/s; values above 3 act as 3 (11 R268, Table 4). -/
def State.selectedRate (s : State) : Nat := natAt [3200, 4267, 5500, 6400] (s.atMost Obj.MEM_DATA_RATE 3)

/-- The LPDDR5 rate in force: the lower of MEM_DATA_RATE and the highest rate of the level whose clocks run (R339). -/
def State.memRate (s : State) : Nat := min s.selectedRate (highestRate s.power.clockLevel)

/-- The clocks of a level are switched in (R341). -/
def switchClocks (level : Nat) (s : State) : State := { s with power := { s.power with clockLevel := level } }

/-! ### Voltages (R339, R340) -/

/-- V(Pk) in mV: nominal and margin (R340). -/
def State.levelVoltage (s : State) (level : Nat) : Nat := natAt [800, 720, 650, 600] level + s.reg Obj.MARGIN_MV

/-- LEVEL_VOLTAGES (Table 11). -/
def State.levelVoltages (s : State) : Bytes := (List.range 4).flatMap fun k => natLE 2 (s.levelVoltage k)

/-- A voltage write with commit on AVSBus, to the rail address AVS_RAIL, of which values above 15 act as 15 (R340). -/
def requestVoltage (mv : Nat) (wait : AvsWait) (s : State) : State :=
  let s1 := (s.setReg Obj.CORE_VOLTAGE_REQUEST mv).emit (.avsWrite (s.atMost Obj.AVS_RAIL 15) mv)
  { s1 with power := { s1.power with avs := some wait } }

/-- A transition is in progress. -/
def State.changing (s : State) : Bool := s.reg Obj.PERF_STATE == 1 || s.reg Obj.PERF_STATE == 2

/-- Start a transition to a level (R341): up, the voltage goes first and the clocks wait for its acknowledge; down, the
clocks go first. To the level in force only a HELD one has something to acknowledge (R342). -/
def startLevel (level : Nat) (s : State) : State :=
  let old := s.reg Obj.PERF_LEVEL_IN_FORCE
  let held := s.reg Obj.PERF_STATE == 3
  let s1 := { s with power := { s.power with wasHeld := held } }
  if level < old || (level = old && held) then
    requestVoltage (s.levelVoltage level) (.raising level) (s1.setReg Obj.PERF_STATE 1)
  else if old < level then
    requestVoltage (s.levelVoltage level) (.lowering level old (s.levelVoltage old))
      (switchClocks level (s1.setReg Obj.PERF_STATE 2))
  else s

/-- PERF_LEVEL (R341): stored during a transition (R343). -/
def actPerfLevel : Action := fun q s =>
  let v := leNat q.data
  let s1 := s.setReg Obj.PERF_LEVEL v
  .done (if s.changing then { s1 with power := { s1.power with storedLevel := some (min v 3) } } else startLevel (min v 3) s1)

/-- What waits for the end of a transition: a stored request, then a margin increase (R343); after a trip no stored
request is acted on, and the P3 voltage of an orderly stop is requested instead (R350, assumption log 177). `mayWrite` is
false after a timeout, when only a request leads to another write (R342). -/
def afterLevel (mayWrite : Bool) (s : State) : State :=
  let stored := if s.power.tripped then none else s.power.storedLevel
  let s1 := { s with power := { s.power with storedLevel := none, levelEnd := some s.ticks } }
  let s2 := match stored with
    | some l => startLevel l s1
    | none => s1
  let s3 := { s2 with power := { s2.power with marginDue := false, stopDue := false } }
  if s.power.stopDue then requestVoltage (s3.levelVoltage 3) .plain s3
  else if s.power.marginDue && mayWrite && s2.power.avs.isNone then
    requestVoltage (s3.levelVoltage (s3.reg Obj.PERF_LEVEL_IN_FORCE)) .margin s3
  else s3

/-- The transition ends with the level and its clocks in force, and PERF_STATE. -/
def endLevel (level state : Nat) (s : State) : State :=
  let s1 := switchClocks level ((s.setReg Obj.PERF_LEVEL_IN_FORCE level).setReg Obj.PERF_STATE state)
  { s1 with power := { s1.power with avs := none, wasHeld := false } }

/-- The regulator acknowledges (R341 step 3). -/
def avsAcknowledge (s : State) : State :=
  match s.power.avs with
  | none => s
  | some (.raising l) => afterLevel true ((endLevel l 0 s).bump Obj.LEVEL_CHANGES)
  | some (.lowering l _ _) => afterLevel true ((endLevel l 0 s).bump Obj.LEVEL_CHANGES)
  | some .margin => { s with power := { s.power with avs := none } }
  | some .plain => { s with power := { s.power with avs := none } }

/-- HK_VALUES of a channel (R346). -/
def setHk (ch : Nat) (v : Int) (s : State) : State := s.setTab Obj.HK_VALUES (4 * ch) (natLE 4 (satImage 32 v))

/-- No acknowledge within 2 ms (R342); `core` is what the core monitor reads. -/
def avsTimeout (core : Nat) (s : State) : State :=
  let idle := if s.power.wasHeld then 3 else 0
  match s.power.avs with
  | none => s
  | some w =>
    let s1 := (s.bump Obj.AVS_TIMEOUTS).occur 89
    match w with
    | .raising _ => afterLevel false (endLevel (s.reg Obj.PERF_LEVEL_IN_FORCE) idle s1)
    | .lowering l old mv =>
      if mv ≤ core + 10 then afterLevel false (endLevel old idle (setHk 2 core s1))
      else afterLevel false (endLevel l 3 (setHk 2 core s1))
    | .margin => { s1 with power := { s1.power with avs := none } }
    | .plain => { s1 with power := { s1.power with avs := none } }

/-! ### Margin (R344, R345) -/

/-- s_i of pair `i`: 1 less the mean ratio over its baseline. -/
def State.slowdownOf (s : State) (i : Nat) : Rat :=
  1 - ((Sparse.get (fun _ => 0) s.power.ratioSum i : Nat) : Rat) / s.power.ratioRounds / (Config.factoryBaseline i : Nat)

/-- s of R345. -/
def State.slowdown (s : State) : Rat :=
  (List.range 4).foldl (fun m i => max m (s.slowdownOf i)) 0

/-- ceil_to_5mV of MARGIN_BASE + 100 s × MARGIN_SLOPE, SLOPE in U8.8. -/
def State.plannedMargin (s : State) : Nat :=
  let m : Rat := (s.reg Obj.MARGIN_BASE : Nat) + 100 * s.slowdown * (s.reg Obj.MARGIN_SLOPE : Nat) / 256
  5 * (m / 5).ceil.toNat

/-- MARGIN_PLAN (R345): the margin never falls; an increase is applied at once, or after a transition (R343). -/
def planMargin (s : State) : State :=
  let margin := max (s.reg Obj.MARGIN_MV) (min s.plannedMargin (s.atMost Obj.MARGIN_CEILING 50))
  let s1 := (s.setReg Obj.SLOWDOWN (min (roundRat (65536 * s.slowdown)).toNat 0xFFFF)).setReg Obj.MARGIN_MV margin
  let s2 := { s1 with power := { s1.power with ratioSum := [], ratioRounds := 0, planned := true } }
  if s.reg Obj.MARGIN_MV < margin || !s.power.planned then
    if s.changing then { s2 with power := { s2.power with marginDue := true } }
    else requestVoltage (s2.levelVoltage (s2.reg Obj.PERF_LEVEL_IN_FORCE)) .margin s2
  else s2

/-! ### The meanings -/

/-- PERF_LEVEL_WRITE (R341). -/
def execPerfLevelWrite (rq : Req) (data : Bytes) : State → Host.Outcome State Fault Refusal :=
  hostWrite actPerfLevel rq Obj.PERF_LEVEL data

/-- AVS_ACKNOWLEDGE (R340). -/
def execAvsAcknowledge : State → Host.Outcome State Fault Refusal := onIsland 6 avsAcknowledge

/-- AVS_TIMEOUT (R342). -/
def execAvsTimeout (coreMillivolts : Nat) : State → Host.Outcome State Fault Refusal := onIsland 6 (avsTimeout coreMillivolts)

/-- MARGIN_PLAN (R345), on the rounds since the last plan. -/
def execMarginPlan : State → Host.Outcome State Fault Refusal :=
  onIslandIf 6 (fun s => s.power.ratioRounds != 0) planMargin

end Sys2Proof.Machine
end

