-- ==== Sys2Proof/Machine/Firmware.lean ====
section
/-! DEFINITION. The actions of the objects of the boot flash (chapter 15, R366, R370, R378 to R384), of SLEEP_REQUEST
(14 R354 to R356) and of THERMAL_CLEAR (14 R352). What an operation of the flash does on completion stands with
FLASH_WRITE_COMPLETE. -/

namespace Sys2Proof.Machine

/-! ### Keys, T1S settings, identity (R366, R370, R385) -/

/-- KEY_OPERATOR, KEY_SERVICE, KEY_OWNER: answered once the record is written (R366). -/
def actKey (role : Nat) : Action := fun q s => jobLater (.key role (leNat q.data)) 0x20000 q s

/-- A T1S setting: held at once and stored in the record (R370, assumption log 38). -/
def actT1s (sub : Nat) : Action := fun q s =>
  match jobDone (.t1s sub (leNat q.data)) 0x20000 s with
  | .done t => storeAction q t
  | .later t => .later t
  | .abort t code => .abort t code

/-- TILE_IDENTITY: 256 bytes, replaced as far as the write reaches (R385, R415). -/
def actIdentity : Action := fun q s =>
  let t := s.setTab Obj.TILE_IDENTITY 0 (q.data.take 256)
  match jobDone (.identity (t.tabBytes Obj.TILE_IDENTITY 0 256)) 0x30000 t with
  | .done u => .done u
  | .later u => .later u
  | .abort _ code => .abort s code

/-! ### Firmware (R381, R382) -/

/-- The slot that is not running; under the recovery agent slot A (assumption log 39). -/
def State.idleSlot (s : State) : Nat := if s.reg Obj.FW_SLOT_RUNNING = 0 then 1 else 0

/-- End of a slot's area. -/
def slotEnd (slot : Nat) : Nat := slotBase slot + slotSize

/-- A slot is written: it has not passed the check since. -/
def State.unverified (s : State) : State := { s with cop := { s.cop with verified := none } }

/-- FW_UPDATE_BEGIN: erase the slot that is not running (R382 step 1). -/
def actFwBegin : Action := fun q s =>
  if slotSize < q.arg then .abort s abortImageLong
  else jobLater (.eraseSlot s.idleSlot) (slotEnd s.idleSlot) q s.unverified

/-- FW_IMAGE: a segment is programmed at its OFFSET as it arrives (R371, R382 step 2, assumption log 40). -/
def actFwImage : Action := fun q s =>
  if slotSize < q.seg.offset + q.data.length then .abort s abortImageLong
  else jobLater (.program s.idleSlot q.seg.offset q.data) (slotEnd s.idleSlot) q s.unverified

/-- FW_UPDATE_VERIFY: check the slot (R382 step 3). -/
def actFwVerify : Action := fun q s => jobLater (.verify s.idleSlot) (slotEnd s.idleSlot) q s

/-- FW_ACTIVATE: 1 at the next reset, 2 now; the slot must have passed the check since its last write (R382 step 4). -/
def actFwActivate : Action := fun q s =>
  if q.arg ≠ 1 && q.arg ≠ 2 then .abort s abortBusy
  else match s.cop.verified with
    | none => .abort s abortBusy
    | some slot => jobLater (.activate slot (q.arg == 2)) 0x10000 q s

/-- The running firmware is a trial (R380, R382 step 5). -/
def State.trialRuns (s : State) : Bool :=
  decide (s.bootRecord.trial ≤ 1) && s.bootRecord.started == 1 && s.reg Obj.FW_SLOT_RUNNING == s.bootRecord.trial

/-- FW_CONFIRM: "resource busy" when no trial runs (R382 step 5). -/
def actFwConfirm : Action := fun q s => if s.trialRuns then jobLater .confirm 0x10000 q s else .abort s abortBusy

/-- FW_ROLLBACK_COMMIT: FW_ROLLBACK_MIN rises to the running image's ROLLBACK, for good (R381). -/
def actRollbackCommit : Action := fun _ s =>
  .done { s with cop := { s.cop with rollbackRaised := max s.cop.rollbackRaised s.cop.runRollback } }

/-- FW_KEY_REVOKE: key slot 0 is revoked for good, if the running image was signed with slot 1 (R381). -/
def actKeyRevoke : Action := fun _ s =>
  if s.reg Obj.FW_SLOT_RUNNING ≤ 1 && s.cop.runKeySlot == 1 then .done { s with cop := { s.cop with slot0Revoked := true } }
  else .abort s abortBusy

/-! ### Calibration copy and fault log (R383, R384) -/

/-- End of the calibration copy area. -/
abbrev calEnd : Nat := calRecords + 0x2000000

/-- Start a save or a load of the calibration copy with its state (R384). -/
def calJob (work : FlashWork) (code : Nat) (s : State) : Answer :=
  match jobDone work calEnd s with
  | .done t => .done (t.setReg Obj.CAL_FLASH_STATE code)
  | .later t => .later t
  | .abort t c => .abort t c

/-- CAL_FLASH_SAVE, answered at once. -/
def actCalSave : Action := fun _ s => calJob .calSave 1 s

/-- CAL_FLASH_LOAD. -/
def actCalLoad : Action := fun _ s => calJob .calLoad 2 s

/-- FAULT_LOG_WRITE: pre-empts any other operation (R378, R383). -/
def actFaultLog : Action := fun _ s => if Config.flashSize < 0x60000 then .abort s abortFlash else .done (logFault 3 s)

/-! ### SLEEP_REQUEST (14 R354 to R356) -/

/-- No batch any more. -/
def dropBatch (s : State) : State := { s with cop := { s.cop with batch := none } }

/-- Entry to S2 or S3 discards an open or committed batch, which counts (R376). -/
def discardBatch (s : State) : State := if s.cop.batch.isNone then s else dropBatch (s.bump Obj.BATCH_ABANDONED)

/-- What the S2 configuration image holds (14 R356 Table 8). -/
def State.sleepImage (s : State) : SleepImage :=
  { regs := s.regs, tabs := s.tabs, profiles := s.pipe.profiles, layers := s.layers, rings := s.memory.rings
    subst := s.diag.subst, overlay := s.pipe.overlay, primary := s.traffic.primary, secondary := s.traffic.secondary
    ambientFresh := s.safety.ambientFresh }

/-- The image stands at SLEEP_IMAGE_ADDR, at most 4 MiB of bytes whose layout is not given, and LPDDR5 goes to
self-refresh (14 R355 step 3, R356); with no running memory there is no image. -/
def saveSleepImage (s : State) : State :=
  if s.reg Obj.MEM_STATE ≠ 2 then { s with power := { s.power with image := none } }
  else
    let bytes := (Config.sleepImage s.freeCtr).take 4194304
    let s1 := (s.deviceWrite (s.reg Obj.SLEEP_IMAGE_ADDR / 256 * 256 % 2 ^ 40) bytes).drawn
    enterSelfRefresh { s1 with power := { s1.power with image := some s.sleepImage } }

/-- Entry to S2 or S3 begins (14 R355 steps 1 to 3): BLANK, rails ramp down, rings halt, the image is written; a fault
log record is written (R383) and the batch discarded (R376). -/
def beginSleep (n : Nat) (s : State) : State :=
  let running := s.reg Obj.SCAN_STATE == 2
  let s0 := abandonFill (if s.power.inS1 then leaveS1 s else s)
  let s1 := haltRings (rampDownAll (logFault 2 (discardBatch s0)))
  let s2 := if n = 2 then saveSleepImage s1 else { s1 with power := { s1.power with image := none } }
  { s2.setReg Obj.SLEEP_STATE 2 with
    power := { s2.power with entering := some n, wasRunning := running, s1Wake := none, s1Blank := false, wakes := [],
                               blankStood := s2.blankDemand } }

/-- S1 is requested: it is entered at the next frame catch (R354). DESIGN CHOICE: with the scan drive STOPPED, when no frame
catch is issued, at once (assumption log 178). -/
def requestS1 (s : State) : State :=
  if s.power.inS1 then s
  else if s.reg Obj.SCAN_STATE = 0 then enterS1 s
  else { s with power := { s.power with s1Wanted := true } }

/-- SLEEP_REQUEST (14 R354). -/
def actSleepRequest : Action := fun q s =>
  let n := leNat q.data
  if 3 < n then .abort s abortNoObject
  else if n = 0 then .done (wakeS1 [8] s)
  else if s.evacDemand || s.safety.evacActive || 2 ≤ s.reg Obj.SLEEP_STATE || s.power.s1Wanted then .abort s abortBusy
  else if n = 1 then .done (requestS1 s)
  else .done (beginSleep n s)

/-! ### THERMAL_CLEAR (14 R352) -/

/-- THERMAL_CLEAR arms the restart; without a trip, or armed already, it has no effect. -/
def actThermalClear : Action := fun _ s =>
  if s.power.tripped && !s.power.clearArmed && s.reg Obj.THERMAL_STATE == 1 then
    .done { s with power := { s.power with clearArmed := true } }
  else .done s

/-! ### The meanings -/

/-- KEY_WRITE (R366). -/
def execKeyWrite (rq : Req) (role : Nat) (data : Bytes) : State → Host.Outcome State Fault Refusal :=
  hostWrite (actKey (clampN 1 3 role)) rq (0x111000 + clampN 1 3 role) data

/-- T1S_CONFIG_WRITE (R370): subindices 01 and 03 to 06 of 0x1120. -/
def execT1sConfigWrite (rq : Req) (sub : Nat) (data : Bytes) : State → Host.Outcome State Fault Refusal :=
  hostWrite (actT1s (sub % 256)) rq (0x112000 + sub % 256) data

/-- FW_UPDATE_BEGIN (R382). -/
def execFwUpdateBegin (rq : Req) (data : Bytes) : State → Host.Outcome State Fault Refusal :=
  hostWrite actFwBegin rq Obj.FW_UPDATE_BEGIN data

/-- FW_IMAGE (R371). -/
def execFwImage (rq : Req) (seg : Segment) (data : Bytes) (s : State) : Host.Outcome State Fault Refusal :=
  hostRequest (executeWrite actFwImage) { wholeWrite rq Obj.FW_IMAGE data with seg := seg } s

/-- FW_UPDATE_VERIFY (R382). -/
def execFwUpdateVerify (rq : Req) (data : Bytes) : State → Host.Outcome State Fault Refusal :=
  hostWrite actFwVerify rq Obj.FW_UPDATE_VERIFY data

/-- FW_ACTIVATE_NEXT_RESET (R382): argument 1. -/
def execFwActivateNextReset (rq : Req) : State → Host.Outcome State Fault Refusal :=
  hostWrite actFwActivate rq Obj.FW_ACTIVATE (natLE 1 1)

/-- FW_ACTIVATE_NOW (R382): argument 2. -/
def execFwActivateNow (rq : Req) : State → Host.Outcome State Fault Refusal :=
  hostWrite actFwActivate rq Obj.FW_ACTIVATE (natLE 1 2)

/-- FW_CONFIRM (R382). -/
def execFwConfirm (rq : Req) (data : Bytes) : State → Host.Outcome State Fault Refusal :=
  hostWrite actFwConfirm rq Obj.FW_CONFIRM data

/-- FW_ROLLBACK_COMMIT (R381). -/
def execFwRollbackCommit (rq : Req) (data : Bytes) : State → Host.Outcome State Fault Refusal :=
  hostWrite actRollbackCommit rq Obj.FW_ROLLBACK_COMMIT data

/-- FW_KEY_REVOKE (R381). -/
def execFwKeyRevoke (rq : Req) (data : Bytes) : State → Host.Outcome State Fault Refusal :=
  hostWrite actKeyRevoke rq Obj.FW_KEY_REVOKE data

/-- CAL_FLASH_SAVE (R384). -/
def execCalFlashSave (rq : Req) (data : Bytes) : State → Host.Outcome State Fault Refusal :=
  hostWrite actCalSave rq Obj.CAL_FLASH_SAVE data

/-- CAL_FLASH_LOAD (R384). -/
def execCalFlashLoad (rq : Req) (data : Bytes) : State → Host.Outcome State Fault Refusal :=
  hostWrite actCalLoad rq Obj.CAL_FLASH_LOAD data

/-- FAULT_LOG_WRITE (R383). -/
def execFaultLogWrite (rq : Req) (data : Bytes) : State → Host.Outcome State Fault Refusal :=
  hostWrite actFaultLog rq Obj.FAULT_LOG_WRITE data

/-- SLEEP_ENTER_S1 (14 R354): argument 1. -/
def execSleepEnterS1 (rq : Req) : State → Host.Outcome State Fault Refusal :=
  hostWrite actSleepRequest rq Obj.SLEEP_REQUEST (natLE 1 1)

/-- SLEEP_ENTER_S2 (14 R355): argument 2. -/
def execSleepEnterS2 (rq : Req) : State → Host.Outcome State Fault Refusal :=
  hostWrite actSleepRequest rq Obj.SLEEP_REQUEST (natLE 1 2)

/-- SLEEP_ENTER_S3 (14 R355): argument 3. -/
def execSleepEnterS3 (rq : Req) : State → Host.Outcome State Fault Refusal :=
  hostWrite actSleepRequest rq Obj.SLEEP_REQUEST (natLE 1 3)

/-- SLEEP_EXIT_S1 (14 R354): argument 0. -/
def execSleepExitS1 (rq : Req) : State → Host.Outcome State Fault Refusal :=
  hostWrite actSleepRequest rq Obj.SLEEP_REQUEST (natLE 1 0)

/-- THERMAL_CLEAR (14 R352). -/
def execThermalClear (rq : Req) (data : Bytes) : State → Host.Outcome State Fault Refusal :=
  hostWrite actThermalClear rq Obj.THERMAL_CLEAR data

end Sys2Proof.Machine
end

