-- ==== Sys2Proof/Machine/Reads.lean ====
section
/-! DEFINITION. What a READ of each object gives (15 R365, R372): the held value, a value formed at the read from the
state it stands for, the value under a selector object, or data that the read removes. -/

namespace Sys2Proof.Machine

/-! ### Objects under a selector -/

/-- An index within `lo … hi`, or none (R377: "a selector out of range"). -/
def selector (lo hi v : Nat) : Option Nat := if lo ≤ v && v ≤ hi then some v else none

/-- The selector under which a banked object is held; none while its index is out of range (02 R53, 05 R148, 13 R338). -/
def State.bankOf (s : State) (obj : Nat) : Option Nat :=
  if Obj.CROSSING_TIMEOUTS ≤ obj && obj ≤ Obj.CROSSING_LAST_TIMEOUT then selector 1 11 (s.reg Obj.CROSSING_INDEX)
  else if Obj.SRAM_CORRECTED ≤ obj && obj ≤ Obj.SRAM_LAST_OFFSET then selector 0 6 (s.reg Obj.SRAM_REGION_INDEX)
  else if Obj.BAND_LINK_STATE ≤ obj && obj ≤ Obj.BAND_HEADROOM_MISSING then selector 0 31 (s.reg Obj.BAND_INDEX)
  else if Obj.NODE_PRESENT ≤ obj && obj ≤ Obj.NODE_DARK then
    (selector 0 31 (s.reg Obj.BAND_INDEX)).bind fun b => (selector 0 32 (s.reg Obj.NODE_INDEX)).map fun n => 64 * b + n
  else if Obj.FAULT_COUNT ≤ obj && obj ≤ Obj.FAULT_LAST_TIME then selector 0 95 (s.reg Obj.FAULT_INDEX)
  else some 0

/-! ### Numbers formed at the read -/

/-- RAILn_STATE (07 R205 Table 9). -/
def RailMode.code : RailMode → Nat
  | .off => 0
  | .starting => 1
  | .auto => 2
  | .manualV => 3
  | .manualDuty => 4
  | .hold => 5
  | .rampDown => 6
  | .faultOff => 7

/-- RAILn_HEADROOM_STATE (07 R205). -/
def HeadroomMode.code : HeadroomMode → Nat
  | .idle => 0
  | .running => 1
  | .frozen => 2
  | .safe => 3

/-- BAND_LINK_STATE (05 R148): a link between alignment and its first stroke enumerates; a running one that blanks reads 5. -/
def State.bandLinkState (s : State) (b : Nat) : Nat :=
  match (s.band b).step with
  | .idle => 0
  | .aligning => 1
  | .enumerating => 2
  | .measuring => 2
  | .writing => 2
  | .ready => 2
  | .running => if s.bandBlank b then 5 else 3
  | .failed => 4

/-- Status of rail `n`, by subindex (07 R205 Table 9): a Q2.22 signal in mV, mA or U0.16. -/
def State.railReading (s : State) (n sub : Nat) : Option Nat :=
  let r := s.rail n
  let volts := fun q => (clampI 0 0xFFFF (ofBase q (s.vFs n))).toNat
  let amps := fun q => satImage 16 (ofBase q (s.iFs n))
  match sub with
  | 0x01 => some r.mode.code
  | 0x20 => some (volts r.v)
  | 0x21 => some (amps r.i)
  | 0x22 => some (volts r.vSet)
  | 0x23 => some (amps (clampI (s.railAmp n (Obj.RAIL_I_MIN n)) (s.railAmp n (Obj.RAIL_I_MAX n)) (r.iV + r.iFf)))
  | 0x24 => some (amps r.iFf)
  | 0x25 => some (clampI 0 0xFFFF (rsh r.duty 6)).toNat
  | 0x26 => some r.setIndex
  | 0x27 => some r.headroom.code
  | _ => none

/-- Status of node `n` of band `b`, by subindex (05 R148 Table 14); NODE_LATE_FRAMES is held. -/
def State.nodeReading (s : State) (b n sub : Nat) : Option Nat :=
  let x := s.node b n
  match sub with
  | 2 => some (b2n x.present)
  | 3 => some (x.kind % 256 * 2 ^ 48 + x.revision % 65536 * 2 ^ 32 + x.part % 65536 * 65536 + x.vendor % 65536)
  | 4 => some (clampI 0 0xFFFFFFFF (rsh (x.latency2 * 625) 1)).toNat
  | 5 => some x.execDelay
  | 7 => some (b2n x.dark)
  | _ => none

/-- DOMx_STATUS (08 R225 Table 5). -/
def State.domStatus (s : State) (d : Dom) : Nat :=
  let x := s.dom d
  let mode := match x.mode with
    | .free => 0
    | .acquiring => 1
    | .locked => 2
    | .holdover => 3
  mode + 4 * b2n x.valueSet + 8 * b2n x.present + 16 * b2n (s.originating d)

/-- CATCH_OFFSET: D in ns, rounded half up, saturating (08 R225). -/
def State.catchOffset (s : State) : Nat := satImage 32 (rsh s.time.catchGen.offset 32)

/-- Code of an island's state (02 R53 Table 7). -/
def IslandMode.code : IslandMode → Nat
  | .running => 0
  | .gated => 1
  | .off => 2
  | .waking => 3

/-- ISLAND_STATE (02 R53 Table 7). -/
def State.islandStates (s : State) : Nat := (List.range 9).foldl (fun v i => v + (s.island i).code * 4 ^ i) 0

/-- ADC in step in a bank; 0 before the first step (07 R205, assumption log 41). -/
def RotationState.shown (x : RotationState) (b : Bank) : Nat := if x.stage = 0 then 0 else adcNumber b x.adc

/-- IPV4_ADDRESS_IN_FORCE (15 R370). -/
def State.addressInForce (s : State) : Nat :=
  if s.reg Obj.IPV4_ADDRESS ≠ 0 then s.reg Obj.IPV4_ADDRESS
  else 0xA9FE0000 + 256 * (1 + field Config.deviceSerial 8 8 % 254) + Config.deviceSerial % 256

/-- BATCH_STATE (15 R373). -/
def State.batchState (s : State) : Nat :=
  match s.cop.batch with
  | none => 0
  | some b => if b.committed then 2 else 1

/-- Fixed, fused and counted values of the system objects. -/
def State.systemReading (s : State) (obj : Nat) : Option Nat :=
  if obj = Obj.DEVICE_SERIAL then some Config.deviceSerial
  else if obj = Obj.SILICON_REVISION then some Config.siliconRevision
  else if obj = Obj.ROM_VERSION then some Config.romVersion
  else if obj = Obj.MAC_ADDRESS then some (Config.macAddress % 2 ^ 48)
  else if obj = Obj.IPV4_ADDRESS_IN_FORCE then some s.addressInForce
  else if obj = Obj.BATCH_STATE then some s.batchState
  else if obj = Obj.BATCH_ENTRIES then some ((s.cop.batch.map fun b => b.entries.length).getD 0)
  else if obj = Obj.FLASH_SIZE then some Config.flashSize
  else if obj = Obj.FW_ROLLBACK_MIN then some s.rollbackMin
  else if obj = Obj.ISLAND_STATE then some s.islandStates
  else if obj = Obj.FAULT_ALARM_ACTIVE then some (b2n s.alarm)
  else none

/-- Values of the picture path formed at the read. -/
def State.pictureReading (s : State) (obj : Nat) : Option Nat :=
  if obj = Obj.X_MAP_ENTRY then
    (if s.reg Obj.X_MAP_INDEX < 2048 then some (s.mapEntry (s.reg Obj.X_MAP_INDEX)) else none)
  else if obj = Obj.SWAPS_HELD then some (b2n s.safety.evacActive)
  else if obj / 256 / 8 = 0x3410 / 8 && obj % 256 = 0x22 then
    let x := s.layer (obj / 256 - 0x3410)
    some (b2n (x.pending.isSome || x.streamPending.isSome))
  else if obj = Obj.BAND_LINK_STATE then some (s.bandLinkState (s.reg Obj.BAND_INDEX))
  else if Obj.NODE_PRESENT ≤ obj && obj ≤ Obj.NODE_DARK then
    s.nodeReading (s.reg Obj.BAND_INDEX) (s.reg Obj.NODE_INDEX) (obj % 256)
  else if obj = Obj.DEFECT_COUNT then some s.diag.subst.length
  else if obj = Obj.SUSPECT_COUNT then some s.diag.suspects.length
  else if obj = Obj.SAFETY_STATUS then some s.safetyStatus
  else if obj = Obj.SAFETY_PINS then some s.safetyPins
  else none

/-- Values of rails, time, links and memory formed at the read. -/
def State.unitReading (s : State) (obj : Nat) : Option Nat :=
  if 0x410000 ≤ obj && obj < 0x413000 then s.railReading (obj / 256 - 0x4100) (obj % 256)
  else if obj = Obj.RAILS_RUNNING then some (maskNat 48 fun n => (s.rail n).on)
  else if obj = Obj.RAILS_FAULTED then some (maskNat 48 fun n => (s.rail n).mode == .faultOff)
  else if obj = Obj.ENGINE_LOAD then some s.engineLoad
  else if obj = Obj.ROTATION_POSITION then
    some ((s.bank .voltage).shown .voltage + 256 * (s.bank .current).shown .current)
  else if obj = Obj.CATCH_OFFSET then some s.catchOffset
  else if obj = Obj.DOM_TIME 0 then some (packTime s.time.domA.counter)
  else if obj = Obj.DOM_TIME 1 then some (packTime s.time.domB.counter)
  else if obj = Obj.DOM_STATUS 0 then some (s.domStatus .a)
  else if obj = Obj.DOM_STATUS 1 then some (s.domStatus .b)
  else if obj = Obj.PTP_TXQ_DEPTH then some s.time.txq.length
  else if obj = Obj.PORT_STATUS 0 then some (s.portStatus .a)
  else if obj = Obj.PORT_STATUS 1 then some (s.portStatus .b)
  else if 0x584000 ≤ obj && obj < 0x588000 && obj % 256 = 0x0B then some (s.ring (obj / 256 - 0x5840)).fifo.length
  else none

/-- A number formed at the read. -/
def State.formed (s : State) (obj : Nat) : Option Nat :=
  match s.systemReading obj with
  | some v => some v
  | none => match s.pictureReading obj with
    | some v => some v
    | none => s.unitReading obj

/-! ### Byte strings formed at the read -/

/-- DOMAIN values that are not a table in force. -/
def State.formedBytes (s : State) (obj : Nat) : Option Bytes :=
  if 0x301000 ≤ obj && obj < 0x301400 && obj % 256 = 8 then
    some ((s.profile (obj / 256 - 0x3010)).force.table.words.flatMap (natLE 4))
  else if 0x301000 ≤ obj && obj < 0x301400 && obj % 256 = 0x0A then
    some ((s.profile (obj / 256 - 0x3010)).force.matrix.flatMap fun v => natLE 2 (image 16 v))
  else if obj = Obj.FENCE_VALUES then some ((List.range 16).flatMap fun k => natLE 4 (s.fence k).value)
  else if obj = Obj.DEFECT_TABLE then some s.defectTable
  else if obj = Obj.WEIR_ACTIVE_GROUPS then some s.weirActive
  else if obj = Obj.FAULT_LIVE then some (maskBytes 12 s.fault.live.contains)
  else if obj = Obj.FAULT_LATCHED then some (maskBytes 12 s.fault.latched.contains)
  else if obj = Obj.PAIR_DISCREPANT then some (maskBytes 12 s.fault.discrepant.contains)
  else if obj = Obj.FAULT_HELD then some (maskBytes 12 s.fault.held.contains)
  else if obj = Obj.LEVEL_VOLTAGES then some s.levelVoltages
  else if obj = Obj.REGION_ENTRY then some (s.tabBytes Obj.REGION_TABLE (16 * s.reg Obj.REGION_INDEX) 16)
  else if obj = Obj.FAULT_LOG_RECORD then some (s.logRecord (s.atMost Obj.FAULT_LOG_INDEX 3071))
  else none

/-! ### Reads with a free value or an effect -/

/-- A value that stands outside the device at the read: the levels of the WAKE_N, FREEZE_N and TRST_N pins in PIN_LEVELS
(16 R407). -/
def State.openReading (s : State) (obj : Nat) : Option Nat :=
  if obj = Obj.PIN_LEVELS then
    some (Nat.land s.free 0x13 + 4 * b2n (!s.faultPinLow) + 8 * b2n s.device.corePwrEn)
  else none

/-- A read of PRBS_ERRORS or PRBS_BITS finds what the lane's checker has counted up to now (09 R241). -/
def countedBy (obj : Nat) (s : State) : State :=
  if 0x503000 ≤ obj && obj < 0x503400 && (obj % 256 = 0x0A || obj % 256 = 0x0B) then
    countPrbs (portOf ((obj / 256 - 0x5030) / 2)) ((obj / 256 - 0x5030) % 2) s
  else s

/-- The value of an object that is no DOMAIN, `n` bytes long (R363), under its selector (R377). -/
def readNumber (obj n : Nat) (s0 : State) : Value :=
  let s := countedBy obj s0
  match s.bankOf obj with
  | none => .abort abortNoObject
  | some sel =>
    if obj = Obj.X_MAP_ENTRY && 2048 ≤ s.reg Obj.X_MAP_INDEX then .abort abortNoObject
    else match s.openReading obj with
      | some v => .ok s.drawn (natLE n v)
      | none => .ok s (natLE n ((s.formed obj).getD (s.regAt obj sel)))

/-- The value of an object that exists and may be read, as its type's image (R363). -/
def readValue (obj : Nat) (s : State) : Value :=
  match rowOf obj with
  | none => .abort abortNoObject
  | some r =>
    match r.ty with
    | .domain n =>
      if obj = Obj.PTP_TXQ_POP then popStamp s
      else if removesData obj then readRingFifo (obj / 256 - 0x5840) s
      else .ok s ((s.formedBytes obj).getD (s.tabBytes obj 0 n))
    | .cmd => .abort abortWriteOnly
    | .bool => readNumber obj 1 s
    | .fixed n => readNumber obj n s

end Sys2Proof.Machine
end

