-- ==== Sys2Proof/Machine/Writes.lean ====
section
/-! DEFINITION. What a WRITE of each object does once its access, RWS condition and length are in order: the one
dispatcher through which COP_WRITE, batches and held requests act (15 R365, R375, R415). -/

namespace Sys2Proof.Machine

/-- A register or table without a rule of its own: a number is held (R365); a DOMAIN replaces bytes from offset 0 as far
as the write reaches (R415). -/
def actPlain : Action := fun q s =>
  match rowOf q.obj with
  | none => .abort s abortNoObject
  | some r =>
    match r.ty with
    | .domain n => .done (s.setTab q.obj 0 (q.data.take n))
    | .bool => storeAction q s
    | .fixed _ => storeAction q s
    | .cmd => .done s

/-- WAKE_ENABLE: bits 1, 2 and 8 read 1 and ignore writes (14 R362). -/
def actWakeEnable : Action := fun q s =>
  match rowOf q.obj with
  | some r => .done (s.setReg q.obj (Nat.lor (heldValue r (leNat q.data)) 0x106))
  | none => .abort s abortNoObject

/-- The first entry of a list for an object. -/
def lookup (obj : Nat) (l : List (Nat × Action)) : Option Action := (l.find? fun p => p.1 == obj).map (·.2)

/-- System objects: identity, keys, T1S settings, boot flash (chapter 15), islands (chapter 02). -/
def systemAction (obj : Nat) : Option Action :=
  if 0x111001 ≤ obj && obj ≤ 0x111003 then some (actKey (obj - 0x111000))
  else if obj / 256 = 0x1120 then some (actT1s (obj % 256))
  else lookup obj
    [(Obj.TILE_IDENTITY, actIdentity), (Obj.FW_UPDATE_BEGIN, actFwBegin), (Obj.FW_IMAGE, actFwImage),
     (Obj.FW_UPDATE_VERIFY, actFwVerify), (Obj.FW_ACTIVATE, actFwActivate), (Obj.FW_CONFIRM, actFwConfirm),
     (Obj.FW_ROLLBACK_COMMIT, actRollbackCommit), (Obj.FW_KEY_REVOKE, actKeyRevoke), (Obj.CAL_FLASH_SAVE, actCalSave),
     (Obj.CAL_FLASH_LOAD, actCalLoad), (Obj.FAULT_LOG_WRITE, actFaultLog),
     (Obj.SRAM_COUNTERS_CLEAR, actSramCountersClear)]

/-- Tile model, pipeline and layers (chapters 01, 03, 04). -/
def pictureAction (obj : Nat) : Option Action :=
  if 0x301000 ≤ obj && obj < 0x301400 then some actIngest
  else if 0x341000 ≤ obj && obj < 0x341800 then some actLayerObject
  else if Obj.GREY_HIGH_RED ≤ obj && obj ≤ Obj.GREY_LOW_BLUE then some actShadow
  else lookup obj
    [(Obj.X_MAP, actXMap), (Obj.X_MAP_ENTRY, actXMapEntry), (Obj.X_MAP_FILL, actXMapFill),
     (Obj.STAGE_BYPASS, actFrozenInput), (Obj.TARGET_PRIMARIES, actTargetPrimaries), (Obj.CAL_ENABLE, actFrozenInput),
     (Obj.THERMAL_TABLE, actShadow), (Obj.THERMAL_RESET, actThermalReset), (Obj.AGE_TABLE, actShadow),
     (Obj.SPLIT_RED, actFrozenInput), (Obj.SPLIT_GREEN, actFrozenInput), (Obj.SPLIT_BLUE, actFrozenInput),
     (Obj.DITHER_MASK, actShadow), (Obj.DITHER_OFFSETS, actShadow), (Obj.BEACON_FILL_TEMP, actFrozenInput),
     (Obj.PIPELINE_COUNTERS_CLEAR, actPipelineCountersClear), (Obj.LAYER_CREATE, actLayerCreate),
     (Obj.LAYER_DESTROY, actLayerDestroy), (Obj.LAYER_SUBMIT, actLayerSubmit),
     (Obj.LAYER_COUNTERS_CLEAR, actLayerCountersClear), (Obj.FENCE_SIGNAL, actFenceSignal), (Obj.L7_ARM, actL7Arm),
     (Obj.L7_DISARM, actL7Disarm)]

/-- Scan drive, diagnosis and rails (chapters 05 to 07). -/
def driveAction (obj : Nat) : Option Action :=
  if obj / 256 = 0x3A08 then some actNodeSetting
  else if 0x410000 ≤ obj && obj < 0x413000 && obj % 256 = 2 then some actRailMode
  else lookup obj
    [(Obj.SCAN_START, actScanStart), (Obj.SCAN_STOP, actScanStop), (Obj.SCAN_COUNTERS_CLEAR, actScanCountersClear),
     (Obj.CHANNEL_CURRENT, actBandTable), (Obj.FEATHER_VOLTAGE, actBandTable), (Obj.PROBE_ENABLE, actNodeSetting),
     (Obj.PROBE_CURRENT, actNodeSetting), (Obj.DEFECT_TABLE, actDefectTable), (Obj.DEFECT_ADD, actDefectAdd),
     (Obj.DEFECT_CLEAR, actDefectClear), (Obj.DEFECT_CLEAR_ALL, actDefectClearAll), (Obj.VF_REF_RESET, actVfRefReset), (Obj.CONCEAL_WEIGHTS, actShadow),
     (Obj.RAIL_START, actRailStart), (Obj.RAIL_STOP, actRailStop), (Obj.RAIL_CLEAR, actRailClear),
     (Obj.COEF_COMMIT, actCoefCommit), (Obj.COEF_TABLE, actCoefShadow), (Obj.COEF_MAP, actCoefShadow),
     (Obj.ADC_TRIMS, actAdcTrims), (Obj.RAIL_COUNTERS_CLEAR, actRailCountersClear)]

/-- Network time and links (chapters 08 to 10). -/
def linkAction (obj : Nat) : Option Action :=
  if 0x503000 ≤ obj && obj < 0x503400 then some actLane
  else lookup obj
    [(Obj.ACTIVE_DOMAIN, actActiveDomain), (Obj.TIME_COUNTERS_CLEAR, actTimeCountersClear),
     (Obj.DOM_SOURCE 0, actDomSource .a), (Obj.DOM_SOURCE 1, actDomSource .b), (Obj.DOM_FREQ_LIMIT 0, actDomTrim .a),
     (Obj.DOM_FREQ_LIMIT 1, actDomTrim .b), (Obj.DOM_FREQ_TRIM 0, actDomTrim .a), (Obj.DOM_FREQ_TRIM 1, actDomTrim .b),
     (Obj.DOM_SET 0, actDomSet .a), (Obj.DOM_SET 1, actDomSet .b), (Obj.DOM_ADJUST 0, actDomAdjust .a),
     (Obj.DOM_ADJUST 1, actDomAdjust .b), (Obj.LINK_PORT_ENABLE, actPortEnable), (Obj.LINK_RETRAIN, actRetrain),
     (Obj.LINK_COUNTERS_CLEAR, actLinkCountersClear), (Obj.PORT_TEST_MODE 0, actTestMode .a),
     (Obj.PORT_TEST_MODE 1, actTestMode .b), (Obj.WAKE_SEND, actWakeSend),
     (Obj.TRAFFIC_COUNTERS_CLEAR, actTrafficCountersClear)]

/-- Memory and rings (chapter 11). -/
def memoryAction (obj : Nat) : Option Action :=
  if 0x584000 ≤ obj && obj < 0x588000 then
    (if obj % 256 = 7 then some actRingTail else if obj % 256 = 0x0A then some actRingFifo else some actRingObject)
  else lookup obj
    [(Obj.MEM_START, actMemStart), (Obj.MEM_COUNTERS_CLEAR, actMemCountersClear), (Obj.REGION_ENTRY, actRegionEntry),
     (Obj.REGION_TABLE, actRegionTable), (Obj.RING_CREATE, actRingCreate), (Obj.RING_DESTROY, actRingDestroy),
     (Obj.RING_HALT, actRingHalt), (Obj.RING_RESUME, actRingResume)]

/-- Safety, faults, power and sleep (chapters 12 to 14). -/
def safetyAction (obj : Nat) : Option Action :=
  lookup obj
    [(Obj.SAFETY_TRIP_CLEAR, actTripClear), (Obj.EVAC_GAIN, actEvacGain), (Obj.EVAC_IMAGE_SAVE, actEvacImageSave),
     (Obj.GLARE_MAP, actShadow), (Obj.PHOTO_WEIGHTS, actShadow), (Obj.AMBIENT_TABLE, actShadow),
     (Obj.TOD_TABLE, actShadow), (Obj.AMBIENT_LUX, actAmbientLux), (Obj.FAULT_CLEAR, actFaultClear),
     (Obj.FAULT_FORCE, actFaultForce), (Obj.FAULT_REACTION, actFaultReaction),
     (Obj.FAULT_COUNTERS_CLEAR, actFaultCountersClear), (Obj.PERF_LEVEL, actPerfLevel),
     (Obj.SLEEP_REQUEST, actSleepRequest), (Obj.THERMAL_CLEAR, actThermalClear), (Obj.WAKE_ENABLE, actWakeEnable)]

/-- The action of an object; none for one without a rule of its own. -/
def actionOf (obj : Nat) : Option Action :=
  (systemAction obj).orElse fun _ => (pictureAction obj).orElse fun _ => (driveAction obj).orElse fun _ =>
    (linkAction obj).orElse fun _ => (memoryAction obj).orElse fun _ => safetyAction obj

/-- What writing an object does. -/
def writeAction : Action := fun q s => (actionOf q.obj).getD actPlain q s

/-- Execute a request: a READ, or a WRITE. -/
def runRequest (q : Request) (s : State) : State :=
  if q.opcode = 1 then executeRead (readValue q.obj) q s else executeWrite writeAction q s

end Sys2Proof.Machine
end

