-- ==== Sys2Proof/Machine/Cop.lean ====
section
/-! DEFINITION. The Copigen Object Protocol (chapter 15): requests of every opcode, batches, held requests, CONTROL
packets, the answers of the T1S port to ARP and ICMP; and the end of a scan stop, at which a waiting batch is applied. -/

namespace Sys2Proof.Machine

/-! ### Batches (R373 to R376) -/

/-- Bytes of data staged. -/
def Batch.size (b : Batch) : Nat := (b.entries.map fun e => e.data.length).sum

/-- The batch that a STAGE works on: the first opens it (R373). -/
def State.openBatch (s : State) (w : Requester) : State :=
  match s.cop.batch with
  | some _ => s
  | none =>
    { s with cop := { s.cop with
      batch := some { owner := w, entries := [], committed := false, notBefore := none, commitTick := 0 } } }

/-- A batch refuses a STAGE: another's, or committed (R373). -/
def State.batchRefuses (s : State) (w : Requester) : Bool :=
  match s.cop.batch with
  | none => false
  | some b => b.committed || b.owner != w

/-- Enter a complete write into the batch: the RWS condition and length as for a WRITE, then the limits (R373). -/
def stageEntry (r : ObjRow) (q : Request) (s : State) : State :=
  match s.cop.batch with
  | none => s
  | some b =>
    if s.barred r q.obj then s.respond q abortRunning 0 []
    else if !lengthOk r q.data.length then s.respond q abortLength 0 []
    else if 4096 ≤ b.entries.length || 262144 < b.size + q.data.length then s.respond q abortBatchFull 0 []
    else
      let longer : Batch := { b with entries := b.entries ++ [{ rq := q.rq, obj := q.obj, data := q.data }] }
      State.respond { s with cop := { s.cop with batch := some longer } } q 0 0 []

/-- STAGE past its key: handles and islands are not checked (R373). -/
def executeStage (q : Request) (s0 : State) : State :=
  if s0.batchRefuses q.rq.who then s0.respond q abortBatchHeld 0 []
  else
    let s := s0.openBatch q.rq.who
    match s.findObj q.obj with
    | none => s.respond q abortNoObject 0 []
    | some r =>
      if rightsDue r q && s.writeAbort r q.obj q.rq.role ≠ 0 then s.respond q (s.writeAbort r q.obj q.rq.role) 0 []
      else if segmented r q.obj then
        match s.assemble q with
        | .abort s1 code => s1.respond q code 0 []
        | .more s1 => s1.respond q 0 0 []
        | .whole s1 data => stageEntry r { q with data := data } s1
      else stageEntry r q s

/-- The action of an entry: a fence signal takes part at the batch's boundary (R99). -/
def entryAction (obj : Nat) : Action := if obj = Obj.FENCE_SIGNAL then actFenceSignalBatch else writeAction

/-- Apply an entry as a WRITE arriving now: the state and the abort code, 0 when applied (R375). -/
def applyEntry (e : BatchEntry) (s : State) : State × Nat :=
  let q : Request := { rq := e.rq, opcode := 3, obj := e.obj, seg := { isFirst := true, isLast := true, offset := 0 }
                       snapshot := false, data := e.data }
  match s.findObj e.obj with
  | none => (s, abortNoObject)
  | some r =>
    if s.writeAbort r e.obj e.rq.role ≠ 0 then (s, s.writeAbort r e.obj e.rq.role)
    else match s.reach r e.obj with
      | .asleep => (s, abortAsleep)
      | .hold _ => (s, abortAsleep)
      | .ready => match performWrite (entryAction e.obj) r q s with
        | .done t => (t, 0)
        | .later t => (t, 0)
        | .abort t code => (t, code)

/-- What the entries did: state, entries applied and skipped, number and code of the first skipped. -/
structure Applied where
  state : State
  number : Nat
  count : Nat
  failed : Nat
  first : Nat × Nat

/-- One entry more. -/
def Applied.step (a : Applied) (e : BatchEntry) : Applied :=
  match applyEntry e a.state with
  | (t, 0) => { a with state := t, number := a.number + 1, count := a.count + 1 }
  | (t, code) =>
    { state := t, number := a.number + 1, count := a.count, failed := a.failed + 1
      first := if a.failed = 0 then (a.number + 1, code) else a.first }

/-- Apply the committed batch at a time of the active domain (R375). -/
def applyBatch (time : Nat) (s : State) : State :=
  match s.cop.batch with
  | none => s
  | some b =>
    let s0 := { s with cop := { s.cop with batch := none } }
    let a := b.entries.foldl Applied.step { state := s0, number := 0, count := 0, failed := 0, first := (0, 0) }
    let s1 := (a.state.setReg Obj.BATCH_LAST_APPLIED (s.reg Obj.BATCH_SEQUENCE)).setReg Obj.BATCH_LAST_COUNT a.count
    let s2 := (s1.setReg Obj.BATCH_LAST_FAILED a.failed).setReg Obj.BATCH_LAST_TIME time
    let s3 := s2.setTab Obj.BATCH_FIRST_FAILURE 0 (natLE 2 a.first.1 ++ natLE 2 0 ++ natLE 4 a.first.2)
    { s3 with cop := { s3.cop with batch := none } }

/-- NOT_BEFORE is absent, 0, or reached at a time in ns (R374, 08 R207). -/
def Batch.reached (b : Batch) (ns : Int) : Bool :=
  match b.notBefore with
  | none => true
  | some t => decide (((t.sec * 1000000000 + t.ns : Nat) : Int) ≤ ns)

/-- With the scan drive STOPPED a committed batch waits for NOT_BEFORE alone (R374). -/
def applyIdle (s : State) : State :=
  match s.cop.batch with
  | none => s
  | some b =>
    if b.committed && s.reg Obj.SCAN_STATE == 0 && b.reached s.nowNs then applyBatch s.stamp s else s

/-- The boundary at grid time `b` (ns) qualifies for the committed batch: BATCH_SETUP after the COMMIT, NOT_BEFORE
reached (R374); 1 µs is 250 ticks. -/
def applyAtBoundary (b : Int) (s : State) : State :=
  match s.cop.batch with
  | none => s
  | some x =>
    if x.committed && decide (x.commitTick + 250 * s.limited Obj.BATCH_SETUP 50 2000 ≤ s.ticks) && x.reached b then
      applyBatch (packTime (b.toNat * 4294967296)) s
    else s

/-- Commit the batch with the next sequence (R374). -/
def commit (b : Batch) (notBefore : Option Time80) (s : State) : State :=
  let s1 := s.bump Obj.BATCH_SEQUENCE
  { s1 with cop := { s1.cop with batch := some { b with committed := true, notBefore := notBefore, commitTick := s.ticks } } }

/-- NOT_BEFORE of a COMMIT: none, or a TIME80. -/
def notBeforeOf (data : Bytes) : Option Time80 :=
  if data.length = 10 then some { sec := leNat (data.take 6), ns := leNat (data.drop 6) } else none

/-- The data of a COMMIT. -/
def notBeforeBytes : Option Time80 → Bytes
  | none => []
  | some t => natLE 6 t.sec ++ natLE 4 t.ns

/-- COMMIT past its key (R374). -/
def executeCommit (q : Request) (s : State) : State :=
  match s.cop.batch with
  | none => s.respond q abortNoBatch 0 []
  | some b =>
    if b.committed || b.owner ≠ q.rq.who then s.respond q abortBatchHeld 0 []
    else if q.data.length ≠ 0 && q.data.length ≠ 10 then s.respond q abortLength 0 []
    else
      let s1 := commit b (notBeforeOf q.data) s
      let s2 := s1.respond q 0 0 (natLE 4 (s1.reg Obj.BATCH_SEQUENCE))
      let s3 := applyIdle s2
      -- an entry that takes down the port of the request: the response leaves first (09 R242)
      match viaPort q.rq.via with
      | some p => if s2.up p && !s3.up p then applyIdle (flushPort p s2) else s3
      | none => s3

/-- ABANDON past its key: the open batch is discarded, and BATCH_ABANDONED does not count it (R376). -/
def executeAbandon (q : Request) (s : State) : State :=
  match s.cop.batch with
  | none => s.respond q abortNoBatch 0 []
  | some b =>
    if b.committed || b.owner ≠ q.rq.who then s.respond q abortBatchHeld 0 []
    else (dropBatch s).respond q 0 0 []

/-- An idle open batch is committed as staged (R376). -/
def idleCommit (s : State) : State :=
  match s.cop.batch with
  | none => s
  | some b => if b.committed then s else applyIdle ((commit b none s).bump Obj.BATCH_AUTO_COMMITS)

/-! ### Requests of every opcode -/

/-- Execute a request past its key (Table 3). -/
def runAny (q : Request) (s : State) : State :=
  if q.opcode = 3 then executeStage q s
  else if q.opcode = 4 then executeCommit q s
  else if q.opcode = 5 then executeAbandon q s
  else runRequest q s

/-- A request without an object. -/
def bareRequest (rq : Req) (opcode : Nat) (data : Bytes) : Request :=
  { rq := rq, opcode := opcode, obj := 0, seg := { isFirst := false, isLast := false, offset := 0 }, snapshot := false,
    data := data }

/-! ### Held requests (02 R46) -/

/-- Execute held requests in order, as far as their islands run; those on island `i` complete through its wake. -/
def pump (i : Nat) : Nat → State → State
  | 0, s => s
  | n + 1, s =>
    match s.cop.held with
    | [] => s
    | q :: rest =>
      let go := fun (t : State) => pump i n (runAny q { t with cop := { t.cop with held := rest } })
      match rowOf q.obj with
      | none => go s
      | some r => match s.reach r q.obj with
        | .hold j => if q.opcode ≤ 2 then s.setIsland j .waking else go s
        | .asleep => go s
        | .ready => if q.opcode ≤ 2 && islandOf q.obj == i then go (s.completedWake i) else go s

/-- Every held request that can be answered is. -/
def pumpAll (i : Nat) (s : State) : State := pump i s.cop.held.length s

/-- The clock of a woken island runs; MEM brings LPDDR5 out of self-refresh (14 R354). -/
def clockRunning (i : Nat) (s : State) : State :=
  if s.island i = .waking then
    let s1 := s.setIsland i .running
    pumpAll i (if i = 2 then leaveSelfRefresh s1 else s1)
  else pumpAll i s

/-! ### The end of a scan stop (05 R147) -/

/-- S1 that waits for a frame catch is entered as the scan drive stops (14 R354, assumption log 178). -/
def enterWaitingS1 (s : State) : State := if s.power.s1Wanted then enterS1 s else s

/-- The scan drive is STOPPED: a waiting batch is applied (R374), a cold start goes on (12 R308), a display that was to end
at a boundary ends (12 R310), and S1 that was wanted is entered (14 R354). -/
def scanStopped (s : State) : State :=
  let s1 := resumeCold (enterWaitingS1 (applyIdle (stopCatches (stopScan s))))
  if s1.safety.evacActive && s1.safety.evacEnding then endDisplay s1 else s1

/-! ### Messages of CONTROL packets (R368, 10 R255) -/

/-- The request of a message; bytes beyond its end read as 0. -/
def parseMessage (via : Via) (who : Requester) (m : Bytes) : Request :=
  let num := fun o n => leNat ((m.drop o).take n)
  let flags := num 7 1
  { rq := { via := via, who := who, tid := num 2 2, role := flags % 4, key := num 8 8 }
    opcode := num 1 1, obj := num 4 2 * 256 + num 6 1
    seg := { isFirst := bitAt flags 2, isLast := bitAt flags 3, offset := num 16 4 }
    snapshot := bitAt flags 4, data := m.drop 24 }

/-- A message is malformed: VERSION, OPCODE, DATA_LENGTH or reserved FLAGS bits. -/
def malformed (m : Bytes) : Bool :=
  let num := fun o n => leNat ((m.drop o).take n)
  num 0 1 != 1 || !(1 ≤ num 1 1 && num 1 1 ≤ 5) || decide (1448 < num 20 2) || num 20 2 + 24 != m.length ||
  num 7 1 / 32 != 0

/-- A malformed request aborts, before its key is looked at. -/
def rejectMessage (q : Request) (s : State) : State :=
  match s.record q with
  | some r => (s.bump Obj.COP_DUPLICATES).sendResponse r
  | none => (s.bump Obj.COP_REQUESTS).respond q abortMalformed 0 []

/-- A message reaches the object agent; one with bit 7 of OPCODE set is ignored, and so is any while the agent is off. -/
def deliver (via : Via) (who : Requester) (m : Bytes) (s : State) : State :=
  let q := parseMessage via who m
  if !s.agentRuns via || 128 ≤ q.opcode then s
  else if malformed m then rejectMessage q s
  else request runAny q s

/-- The path of a port. -/
def portVia : Port → Via
  | .a => .portA
  | .b => .portB

/-! ### The T1S port (R370) -/

/-- An ARP request for the address in force is answered. -/
def answerArp (target mac ip : Nat) (s : State) : State :=
  if target = s.addressInForce then s.emit (.arpReply mac ip) else s

/-- An ICMP echo request for the address in force is answered. -/
def answerEcho (target ip : Nat) (payload : Bytes) (s : State) : State :=
  if target = s.addressInForce then s.emit (.echoReply ip payload) else s

/-! ### The meanings -/

/-- COP_READ (R368). -/
def execCopRead (rq : Req) (index sub offset : Nat) (snapshot : Bool) : State → Host.Outcome State Fault Refusal :=
  hostRequest runAny { rq := rq, opcode := 1, obj := index * 256 + sub, snapshot := snapshot, data := []
                       seg := { isFirst := false, isLast := false, offset := offset } }

/-- COP_WRITE (R365). -/
def execCopWrite (rq : Req) (index sub : Nat) (seg : Segment) (data : Bytes) : State → Host.Outcome State Fault Refusal :=
  hostRequest runAny { rq := rq, opcode := 2, obj := index * 256 + sub, seg := seg, snapshot := false, data := data }

/-- COP_STAGE (R373). -/
def execCopStage (rq : Req) (index sub : Nat) (seg : Segment) (data : Bytes) : State → Host.Outcome State Fault Refusal :=
  hostRequest runAny { rq := rq, opcode := 3, obj := index * 256 + sub, seg := seg, snapshot := false, data := data }

/-- COP_COMMIT (R374). -/
def execCopCommit (rq : Req) (notBefore : Option Time80) : State → Host.Outcome State Fault Refusal :=
  hostRequest runAny (bareRequest rq 4 (notBeforeBytes notBefore))

/-- COP_ABANDON (R376). -/
def execCopAbandon (rq : Req) : State → Host.Outcome State Fault Refusal := hostRequest runAny (bareRequest rq 5 [])

/-- BATCH_IDLE_TIMEOUT (R376). -/
def execBatchIdleTimeout : State → Host.Outcome State Fault Refusal := onIsland 6 idleCommit

/-- BATCH_NOT_BEFORE_REACHED (R374). -/
def execBatchNotBeforeReached : State → Host.Outcome State Fault Refusal := onIsland 6 applyIdle

/-- ROLE_LOCK_EXPIRY (R366). -/
def execRoleLockExpiry (role : Nat) : State → Host.Outcome State Fault Refusal :=
  onIslandIf 6 (fun s => s.roleLocked role)
    fun s => (s.setReg Obj.ROLES_LOCKED (putBit (s.reg Obj.ROLES_LOCKED) role false)).setKeyFail role 0

/-- RESPONSE_RECORD_EXPIRY (R369): the oldest record ages out. -/
def execResponseRecordExpiry : State → Host.Outcome State Fault Refusal :=
  onIsland 6 fun s => { s with cop := { s.cop with responses := s.cop.responses.dropLast } }

/-- ISLAND_CLOCK_RUNNING (02 R46). -/
def execIslandClockRunning (island : Nat) : State → Host.Outcome State Fault Refusal :=
  onIslandIf 6 (fun s => s.island island == .waking || (s.runs island && !s.cop.held.isEmpty)) (clockRunning island)

/-- SCAN_STOP_COMPLETE (05 R147). -/
def execScanStopComplete : State → Host.Outcome State Fault Refusal :=
  onIslandIf 4 (fun s => s.reg Obj.SCAN_STATE == 3 && s.scan.stopReady) scanStopped

/-- CONTROL_PACKET_RX (10 R255). -/
def execControlPacketRx (port : Port) : State → Host.Outcome State Fault Refusal :=
  onPacket port 0x02 fun k => arrive port k k true true (deliver (portVia port) (.rovan k.source) k.payload)

/-- ARP_REQUEST_RX (R370). -/
def execArpRequestRx (target senderMac senderIp : Nat) : State → Host.Outcome State Fault Refusal :=
  onIslandIf 6 (fun s => s.agentRuns .t1s) (answerArp target senderMac senderIp)

/-- ICMP_ECHO_REQUEST_RX (R370). -/
def execIcmpEchoRequestRx (target senderIp : Nat) (payload : Bytes) : State → Host.Outcome State Fault Refusal :=
  onIslandIf 6 (fun s => s.agentRuns .t1s) (answerEcho target senderIp payload)

end Sys2Proof.Machine
end

