-- ==== Sys2Proof/Machine/Thermal.lean ====
section
/-! DEFINITION. The housekeeping round, supply supervision, the temperature trip, its stops and its restart (chapter 14,
R344, R346 to R352). -/

namespace Sys2Proof.Machine

/-! ### Stops (R350) -/

/-- A flash write of the trip's record that is unfinished is abandoned. -/
def abandonLog (s : State) : State :=
  match s.cop.flashJob with
  | some j => if j.work = .faultLog 1 then endJob false s else s
  | none => s

/-- An evacuation demand is recorded but not shown while the trip is latched (R351). -/
def holdDemand (s : State) : State :=
  if !(s.safety.evacActive || s.safety.evacFrom.isSome) then s
  else
    let s1 := endDisplay s
    { s1 with safety := { s1.safety with evacHeld := s.evacDemand } }

/-- What the SRAM of PIXEL, MEM, CTRL and BAND loses as they turn off (02 R50): staging and ring FIFOs, table shadows, zone
statistics, echo tap, egress queues. Objects keep their values (assumption log 42). -/
def loseSram (s : State) : State :=
  { s with
    staging := []
    memory := { s.memory with
      inflight := [], stagingUe := []
      rings := (List.range 64).foldl (fun m r =>
        Sparse.set (fun _ => {}) m r { s.ring r with fifo := [], descriptor := none, suspended := false }) [] }
    pipe := { s.pipe with
      overlay := [], rise := [], lastSums := {}, lastFrame := none, missing := [], dropped := []
      profiles := (List.range 4).foldl (fun m p =>
        Sparse.set (fun _ => {}) m p { s.profile p with working := none, again := false, ready := none }) [] }
    layers := { s.layers with echoTap := [], echoReady := none, echoSending := none }
    scan := { s.scan with sent := [], shown := [] }
    rails := { s.rails with shadow := [] } }

/-- PIXEL, MEM, CTRL and BAND go off: scan drive, rails and frame stop, and held accesses are answered (Table 5 step 5,
R351). -/
def stopIslands (s : State) : State :=
  let s1 := holdDemand (abandonFill s)
  let s2 := if s1.reg Obj.SCAN_STATE = 0 then s1 else applyIdle (stopCatches (stopScan s1))
  let s3 := foldN 48 (fun t n => if (t.rail n).on then t.setRail n ((t.rail n).stop .off) else t) s2
  let s4 := [1, 2, 3, 4].foldl (fun t i => t.setIsland i .off) s3
  let s5 : State :=
    { s4 with
      pipe := { s4.pipe with frame := none, words := [], readyRows := [] }
      device := { s4.device with gating := [], holds := [] }
      power := { s4.power with stopping := false } }
  pumpAll 0 (loseSram s5)

/-- The orderly stop begins (Table 5 steps 1 to 4). -/
def beginOrderly (s : State) : State :=
  let s1 := logFault 1 (enterSelfRefresh (haltRings (rampDownAll s)))
  { s1 with power := { s1.power with stopping := true } }

/-- The hard stop (Table 5). -/
def hardStop (s : State) : State :=
  let s1 := withdraw .b (withdraw .a s)
  stopIslands { s1.setReg Obj.MEM_STATE 0 with mem := [], memory := { s1.memory with ueWords := [] } }

/-- The trip, by the second of two samples at or above the level (R349, R350). A transition of the performance level in
progress completes or times out in the background (R343). -/
def thermalTrip (t : Int) (valid : Bool) (s : State) : State :=
  let hard := !valid || decide (0x4380 ≤ t)
  let s1 := (s.setReg Obj.THERMAL_TRIP_READING (if valid then image 16 t else 0x7FFF)).setReg Obj.THERMAL_TRIP_TIME s.stampA
  let s2 := ((s1.setReg Obj.THERMAL_STOP_KIND (if hard then 2 else 1)).bumpSat Obj.THERMAL_TRIPS).setReg Obj.THERMAL_STATE 1
  let s3 := holdFaults { s2 with power := { s2.power with tripped := true, clearArmed := false, hotRun := 0 } }
  let s4 := if s3.power.inS1 then leaveS1 s3 else s3
  let s5 := { s4 with power := { s4.power with s1Wanted := false, s1Wake := none, s1Blank := false } }
  if hard then hardStop s5 else beginOrderly s5

/-- 5 ms after the trip an orderly stop ends, with P3's voltage requested (Table 5 step 5), after a transition that is still
in progress. -/
def orderlyEnd (s : State) : State :=
  let s1 := stopIslands (abandonLog s)
  if s1.changing then { s1 with power := { s1.power with stopDue := true } } else requestVoltage (s1.levelVoltage 3) .plain s1

/-! ### The hover rule (R352) -/

/-- A sample while the restart counts or holds. -/
def hover (cool : Bool) (s : State) : State :=
  let st := s.reg Obj.THERMAL_STATE
  if st ≠ 2 && st ≠ 3 then s
  else if !cool then (s.setReg Obj.HOVER_COUNT 0).setReg Obj.THERMAL_STATE 2
  else
    let n := min (s.reg Obj.HOVER_COUNT + 1) 255
    (s.setReg Obj.HOVER_COUNT n).setReg Obj.THERMAL_STATE (if 8 ≤ n then 3 else 2)

/-- The restart that THERMAL_CLEAR armed begins at a round start. -/
def beginCounting (s : State) : State :=
  if !s.power.clearArmed then s
  else
    let s1 := (s.setReg Obj.THERMAL_STATE 2).setReg Obj.HOVER_COUNT 0
    { s1 with power := { s1.power with clearArmed := false } }

/-- The trip ends: the four islands are powered at the level in PERF_LEVEL, and a demand that still stands leads to a
cold start, timed from now (R351, R352). -/
def tripEnds (s : State) : State :=
  let level := s.atMost Obj.PERF_LEVEL 3
  let s1 := [1, 2, 3, 4].foldl (fun t i => t.setIsland i .running) s
  let s2 := (((s1.setReg Obj.THERMAL_STATE 0).setReg Obj.MEM_STATE 0).setReg Obj.PERF_LEVEL_IN_FORCE level).setReg
    Obj.PERF_STATE 0
  let held := s2.safety.evacHeld
  let s3 := { s2 with power := { s2.power with tripped := false, clockLevel := level, stopDue := false }, safety := { s2.safety with evacHeld := false } }
  let s4 := applyPermissions (requestVoltage (s3.levelVoltage level) .plain s3)
  if held && s4.evacDemand && !s4.safeBlank then decideEvac (startDemand s4.nowNs s4) else s4

/-! ### The round (R346 to R348) -/

/-- Raw value of a channel in HK_VALUES. -/
def State.hk (s : State) (ch : Nat) : Int := signed 32 (s.tabNat Obj.HK_VALUES (4 * ch) 4)

/-- The temperature sample of the round is judged with its diode-current ratio (R348, R349). -/
def judgeTemperature (ratio : Int) (s : State) : State :=
  let t := s.hk 0
  let valid := decide (-7680 ≤ t) && decide (t ≤ 25600) && Config.ratioInWindow ratio
  let s1 := s.setFlag Obj.TJ_VALID valid
  let s2 := if !valid then s1.bump Obj.SENSOR_INVALID_SAMPLES
    else if s1.sreg Obj.TJ_MAX 16 < t then s1.setReg Obj.TJ_MAX (image 16 t) else s1
  let hot := !valid || decide (0x3E80 ≤ t)
  let s3 := { s2 with power := { s2.power with sensorBad := !valid, hotRun := if hot then s.power.hotRun + 1 else 0 } }
  if s.power.tripped then hover (!hot) s3
  else if hot && 1 ≤ s.power.hotRun then thermalTrip t valid s3
  else s3

/-- Channel 2 is not judged from the start of a transition until 2 ms after its end (R347). -/
def State.coreUnjudged (s : State) : Bool :=
  s.changing || (s.power.levelEnd.map fun t => decide (s.ticks < t + 500000)).getD false

/-- A supply lies inside its window; channel 2's is about V(level in force) (R347, Table 13). -/
def State.supplyInside (s : State) (ch : Nat) (v : Int) : Bool :=
  let low : Int := s.tabNat Obj.SUPPLY_WINDOWS (4 * (ch - 2)) 2
  let high : Int := s.tabNat Obj.SUPPLY_WINDOWS (4 * (ch - 2) + 2) 2
  if ch = 2 then
    let nominal : Int := s.levelVoltage (s.reg Obj.PERF_LEVEL_IN_FORCE)
    decide (nominal - low ≤ v) && decide (v ≤ nominal + high)
  else decide (low ≤ v) && decide (v ≤ high)

/-- A supply is judged: two rounds outside set its bit, two inside clear it (R347). -/
def judgeSupply (ch : Nat) (v : Int) (s : State) : State :=
  if ch = 2 && s.coreUnjudged then s
  else
    let inside := s.supplyInside ch v
    let runs (m : Sparse Nat) (go : Bool) : Sparse Nat :=
      Sparse.set (fun _ => 0) m ch (if go then min (Sparse.get (fun _ => 0) m ch + 1) 2 else 0)
    let outRun := runs s.power.outRun (!inside)
    let inRun := runs s.power.inRun inside
    let mask := s.reg Obj.SUPPLY_FAULT_MASK
    let s1 := { s with power := { s.power with outRun := outRun, inRun := inRun } }
    if Sparse.get (fun _ => 0) outRun ch = 2 then s1.setReg Obj.SUPPLY_FAULT_MASK (putBit mask (ch - 2) true)
    else if Sparse.get (fun _ => 0) inRun ch = 2 then s1.setReg Obj.SUPPLY_FAULT_MASK (putBit mask (ch - 2) false)
    else s1

/-- r_i of a pair as U1.15, aged over fresh; with a fresh oscillator at 0 it is a free value (R344, assumption log 43). -/
def takeRatio (s : State) (i : Nat) : State :=
  let fresh := (s.hk (14 + i)).toNat
  let aged := (s.hk (18 + i)).toNat
  let r := if fresh = 0 then s.free % 65536 else min (roundDiv (aged * 32768 : Nat) fresh).toNat 65535
  let s1 := (if fresh = 0 then s.drawn else s).setTab Obj.RO_RATIOS (2 * i) (natLE 2 r)
  { s1 with power := { s1.power with
    ratioSum := Sparse.set (fun _ => 0) s1.power.ratioSum i (Sparse.get (fun _ => 0) s1.power.ratioSum i + r) } }

/-- The ratios of a round. -/
def takeRatios (s : State) : State :=
  let s1 := foldN 4 takeRatio s
  { s1 with power := { s1.power with ratioRounds := s1.power.ratioRounds + 1 } }

/-- What one channel's sample does. -/
def channelSample (ch : Nat) (v : Int) (s : State) : State :=
  if ch = 0 then beginCounting (s.setReg Obj.TJ (satImage 16 v))
  else if ch = 1 then judgeTemperature v s
  else if ch ≤ 13 then judgeSupply ch v s
  else if ch = 21 then takeRatios s
  else if ch = 31 then s.bump Obj.HK_ROUNDS
  else s

/-- One sample of the housekeeping sequencer; reserved channels show no value (R346). -/
def hkSample (v : Int) (s : State) : State :=
  let ch := s.power.hkChannel
  let s1 := channelSample ch v (if 23 ≤ ch then s else setHk ch v s)
  { s1 with power := { s1.power with hkChannel := (ch + 1) % 32 } }

/-! ### The meanings -/

/-- HK_SAMPLE (R346). -/
def execHkSample (value : Int) : State → Host.Outcome State Fault Refusal := onIsland 6 (hkSample value)

/-- ORDERLY_STOP_END (R350). -/
def execOrderlyStopEnd : State → Host.Outcome State Fault Refusal := onIslandIf 6 (fun s => s.power.stopping) orderlyEnd

/-- HOVER_HOLD_END (R352). -/
def execHoverHoldEnd : State → Host.Outcome State Fault Refusal :=
  onIslandIf 6 (fun s => s.power.tripped && s.reg Obj.THERMAL_STATE == 3) tripEnds

end Sys2Proof.Machine
end

