-- ==== Sys2Proof/Machine/FlashDone.lean ====
section
/-! DEFINITION. What an operation of the boot flash does on completion (chapter 15, R366, R370, R378 to R384, 12 R309)
and the answers that waited for it, with the reset that FW_ACTIVATE now leads to left to the caller. -/

namespace Sys2Proof.Machine

/-! ### Settings of the record -/

/-- The record with a key replaced (R366). -/
def KeyRecord.withKey (k : KeyRecord) (role v : Nat) : KeyRecord :=
  if role = 1 then { k with keyOperator := v }
  else if role = 2 then { k with keyService := v }
  else if role = 3 then { k with keyOwner := v }
  else k

/-- The record with a T1S setting replaced (R370 Table 9). -/
def KeyRecord.withT1s (k : KeyRecord) (sub v : Nat) : KeyRecord :=
  if sub = 1 then { k with ipv4 := v }
  else if sub = 3 then { k with netmask := v }
  else if sub = 4 then { k with udpPort := v }
  else if sub = 5 then { k with plcaId := v }
  else if sub = 6 then { k with plcaCount := v }
  else k

/-! ### The calibration copy (R384) -/

/-- The geometry that a save or load takes: the one in force, before the first apply the one held (assumption log 44). -/
def State.calGeometry (s : State) : Nat × Nat :=
  if s.reg Obj.GEOMETRY_APPLIES = 0 then
    let g := effective (s.reg Obj.TILE_WIDTH) (s.reg Obj.TILE_HEIGHT) (s.reg Obj.ROWS_PER_BAND)
    (g.w, g.h)
  else (s.width, s.height)

/-- Address of a record for a save or load (assumption log 44). -/
def State.calCopyAddr (s : State) (p : Nat) : Nat :=
  if s.reg Obj.GEOMETRY_APPLIES = 0 then s.reg Obj.CAL_STORE_ADDR / 256 * 256 + 32 * p else s.calAddr p

/-- The records of a save, none when one cannot be read. -/
def State.calRecordsRead (s : State) : Option Bytes :=
  let g := s.calGeometry
  (List.range (g.1 * g.2)).foldl (fun acc p =>
    match acc, s.deviceRead (s.calCopyAddr p) 32 with
    | some bs, some r => some (bs ++ r)
    | _, _ => none) (some [])

/-- The header of a copy. -/
def State.calHeaderOf (s : State) (records : Bytes) : Bytes :=
  let g := s.calGeometry
  let body := [0x43#8, 0x41#8, 0x4C#8, 0x31#8] ++ natLE 2 g.1 ++ natLE 2 g.2 ++ natLE 4 (g.1 * g.2) ++
    natLE 4 (crc32 records) ++ natLE 10 s.stampA ++ natLE 2 0
  body ++ natLE 4 (crc32 body)

/-- A save completes; with unreadable records nothing is saved (assumption log 45). -/
def saveCal (s : State) : State :=
  let s1 := noteRead (s.calCopyAddr 0) (32 * (s.calGeometry.1 * s.calGeometry.2)) s
  match s.calRecordsRead with
  | none => s1.setReg Obj.CAL_FLASH_STATE 0
  | some records =>
    ((s1.programFlash calRecords records).programFlash calHeader (s.calHeaderOf records)).setReg Obj.CAL_FLASH_STATE 3

/-- The header of the copy is valid. -/
def State.calHeaderOk (s : State) : Bool :=
  s.flashBytes calHeader 4 == [0x43#8, 0x41#8, 0x4C#8, 0x31#8] &&
  crc32 (s.flashBytes calHeader 28) == s.flashNat (calHeader + 28) 4

/-- A load completes. -/
def loadCal (s : State) : State :=
  if !s.calHeaderOk then s.setReg Obj.CAL_FLASH_STATE 5
  else
    let g := s.calGeometry
    let same := s.flashNat (calHeader + 4) 2 == g.1 && s.flashNat (calHeader + 6) 2 == g.2
    let n := min (s.flashNat (calHeader + 8) 4) (g.1 * g.2)
    let s1 := foldN n (fun t p => t.deviceWrite (s.calCopyAddr p) (s.flashBytes (calRecords + 32 * p) 32)) s
    s1.setReg Obj.CAL_FLASH_STATE (if same then 3 else 4)

/-! ### Completion -/

/-- What the operation leaves, with the abort code of its answer. -/
def workDone (w : FlashWork) (s : State) : State × Nat :=
  match w with
  | .key role v =>
    ({ s with cop := { s.cop with record := s.cop.record.withKey role v, keys := s.cop.keys.withKey role v } }, 0)
  | .t1s sub v => ({ s with cop := { s.cop with record := s.cop.record.withT1s sub v } }, 0)
  | .identity data => (s.programFlash 0x20000 data, 0)
  | .eraseSlot slot => (setSlotState slot 0 (s.eraseFlash (slotBase slot) slotSize), 0)
  | .program slot o data => (setSlotState slot 2 (s.programFlash (slotBase slot + o) data), 0)
  | .verify slot =>
    if s.imageOk slot then (setSlotState slot 1 { s with cop := { s.cop with verified := some slot } }, 0)
    else (setSlotState slot 2 s, abortImage)
  | .activate slot _ => (setSlotState slot 3 (writeBoot { s.bootRecord with trial := slot, started := 0 } s), 0)
  | .confirm =>
    let trial := s.bootRecord.trial
    (setSlotState trial 1 (writeBoot { s.bootRecord with active := trial, trial := 0xFF, started := 0 } s), 0)
  | .faultLog reason => (writeLog reason s, 0)
  | .calSave => (saveCal s, 0)
  | .calLoad => (loadCal s, 0)
  | .evacSave => ((s.programFlash evacArea (s.beaconBytes 0 0x100000)).setReg Obj.EVAC_IMAGE_STATE 1, 0)
  | .evacLoad => (startPatrol { s with beacon := Sparse.setList ramDefault s.beacon 0 (s.flashBytes evacArea 0x100000) }, 0)

/-- What a failed operation leaves: its area is as it was (assumption log 45), and source 20 pulses for the failed access
(13 R332). -/
def workFailed (w : FlashWork) (before : State) : State × Nat :=
  let s := before.occur 20
  match w with
  | .evacSave => (s.setReg Obj.EVAC_IMAGE_STATE 3, abortFlash)
  | .calSave => (s.setReg Obj.CAL_FLASH_STATE 0, abortFlash)
  | .calLoad => (s.setReg Obj.CAL_FLASH_STATE 0, abortFlash)
  | _ => (s, abortFlash)

/-- Operations of the calibration copy end by CAL_FLASH_COMPLETE. -/
def FlashWork.isCal : FlashWork → Bool
  | .calSave => true
  | .calLoad => true
  | _ => false

/-- The operation in progress completes: its effect, the end of the operation, its answer, and the cold start that
waited for a loaded image. -/
def completeJob (ok : Bool) (j : FlashJob) (s : State) : State :=
  let done := if ok then workDone j.work s else workFailed j.work s
  let s1 := endJob ok done.1
  let s2 := match j.answer with
    | some q => s1.respond q done.2 0 []
    | none => s1
  if j.work = .evacLoad then coldLoaded s2 else s2

/-- An operation of the kind `cal` is in progress. -/
def State.flashBusy (s : State) (cal : Bool) : Bool := (s.cop.flashJob.map fun j => j.work.isCal == cal).getD false

/-- The operation in progress, if any, completes. -/
def flashComplete (ok : Bool) (s : State) : State :=
  match s.cop.flashJob with
  | none => s
  | some j => completeJob ok j s

/-! ### The meaning -/

/-- CAL_FLASH_COMPLETE (R384). -/
def execCalFlashComplete (ok : Bool) : State → Host.Outcome State Fault Refusal :=
  onIslandIf 6 (fun s => s.flashBusy true) (flashComplete ok)

end Sys2Proof.Machine
end

