-- ==== Sys2Proof/Machine/Reset.lean ====
section
/-! DEFINITION. Resets and the release sequence (chapter 16, R397 to R401, R407, 14 R361), the end of a sleep entry, the
wake sources and the exit from S2 and S3 (14 R355 to R360), and FLASH_WRITE_COMPLETE, which a firmware activation lets
end in a reset. -/

namespace Sys2Proof.Machine

/-! ### What a reset of the switched islands leaves (R12, 02 R44, 04 R89) -/

/-- The layers all FREE, the generation of each that was not advanced (04 R89). -/
def State.layersFreed (s : State) : LayersState :=
  let layer (l : Nat) : LayerState :=
    { gen := if s.reg (Obj.LAYER_STATE l) = 0 then (s.layer l).gen else nextGen (s.layer l).gen }
  { layers := (List.range 8).foldl (fun m l => Sparse.set (fun _ => {}) m l (layer l)) [] }

/-- The host rings all FREE, likewise; what the memory holds, its bad words included, is untouched. -/
def State.memoryFreed (s : State) : MemoryState :=
  let ring (r : Nat) : RingState :=
    { gen := if r < 8 || s.ringState r = 0 then (s.ring r).gen else nextGen (s.ring r).gen }
  { rings := (List.range 64).foldl (fun m r => Sparse.set (fun _ => {}) m r (ring r)) [], ueWords := s.memory.ueWords }

/-- An object that keeps its value when the switched islands lose theirs: those of AON (R12), and STRAPS until the next
sampling (R400). -/
def persists (obj : Nat) : Bool := isAon obj || obj == Obj.STRAPS

/-- Every island other than AON is reset: its objects take their defaults and its state is that of a reset; `keep` names
further register keys that stay. What AON holds stays: generations, FAULT_HELD, trips, proven inputs, the temperature
trip; and what is fused or stands in the flash. -/
def resetSwitched (keep : Nat → Bool) (s : State) : State :=
  { s with
    regs := Sparse.clearIf s.regs fun k => !(persists (k / 65536) || keep k)
    tabs := Sparse.clearIf s.tabs fun k => !isAon (k / 131072)
    staging := []
    device := { s.device with holds := [], gating := [], crossings := [] }
    cop := { record := s.cop.record, slot0Revoked := s.cop.slot0Revoked, rollbackRaised := s.cop.rollbackRaised }
    fault := { held := s.fault.held }
    time := {}
    pipe := {}
    layers := s.layersFreed
    scan := {}
    diag := {}
    rails := {}
    link := {}
    traffic := {}
    memory := s.memoryFreed
    safety := { trips := s.safety.trips, blankProven := s.safety.blankProven, evacProven := s.safety.evacProven }
    power := { tripped := s.power.tripped, planned := s.power.planned } }

/-- Every island but AON is off or held in reset. -/
def islandsOff (s : State) : State := (List.range 8).foldl (fun t i => t.setIsland i .off) s

/-- The islands come out of reset; 1 to 4 stay off under a temperature trip (14 R351). -/
def islandsOn (s : State) : State :=
  (List.range 8).foldl (fun t i => if s.power.tripped && 1 ≤ i && i ≤ 4 then t else t.setIsland i .running) s

/-- Set the phase. -/
def State.setPhase (s : State) (p : Phase) : State := { s with device := { s.device with phase := p } }

/-! ### The release sequence (R400, R401) -/

/-- The straps are sampled; STRAP_T1S_OFF is ignored while STRAP_RECOVERY is set (R400). -/
def sampleStraps (straps : Nat) (s : State) : State :=
  let s1 := s.setReg Obj.STRAPS (straps % 16)
  { s1 with device := { s1.device with t1sOff := bitAt straps 2 && !bitAt straps 1 } }

/-- CORE_PWR_EN is high and the sequence waits for step 3, with the cause that step 4 records. -/
def awaitCore (cause : Nat) (s : State) : State :=
  { s with device := { s.device with corePwrEn := true, phase := .waitCore, resetCause := cause } }

/-- The reset of R399 at a release: defaults, inputs unproven (12 R296), and the freeze and EXTEST left (13 R336,
R402). -/
def releaseReset (s : State) : State :=
  let frozen := s.device.frozen
  let s1 := resetSwitched (fun _ => false) (islandsOff s)
  let s2 := { s1 with
    safety := { s1.safety with blankProven := false, evacProven := false }
    device := { s1.device with frozen := false, extest := false } }
  if frozen then s2.bumpSat Obj.FREEZES else s2

/-- A filtered release of RESET_N (R399 to R401, 14 R361). -/
def resetRelease (straps : Nat) (s : State) : State :=
  let s1 := sampleStraps straps (releaseReset s)
  let s2 := match s.device.longHold with
    | some ms => s1.setReg Obj.RESET_HOLD_TIME (min ms 0xFFFFFFFF)
    | none => s1
  awaitCore 1 s2

/-- FW_ACTIVATE now resets the device as at a release of RESET_N (15 R382 step 4); the straps keep their values (R400). -/
def activateReset (s : State) : State := awaitCore 3 (releaseReset (holdFaults (dropOutputs s)))

/-- RESET_CAUSE and its count, saturating (R407). -/
def recordReset (cause : Nat) (s : State) : State :=
  let s1 := s.setReg Obj.RESET_CAUSE cause
  s1.setTab Obj.RESET_COUNTS (2 * cause) (natLE 2 (min (s1.tabNat Obj.RESET_COUNTS (2 * cause) 2 + 1) 0xFFFF))

/-- Every release of RESET_N and wake from S2 runs a patrol at once; after a release a saved image replaces content
found invalid (12 R306, R309). -/
def firstPatrol (s : State) : State :=
  if s.power.leaving = some 2 then startPatrol s
  else if s.power.leaving.isNone && (s.device.resetCause = 1 || s.device.resetCause = 3) then
    startPatrol { s with safety := { s.safety with loadDue := true } }
  else s

/-! ### Leaving S2 and S3 (14 R356, R357) -/

/-- The image of an exit will be restored. -/
def State.imageUsed (s : State) : Option SleepImage :=
  if s.power.leaving = some 2 && s.power.imageCheck == .good then s.power.image else none

/-- A register of the image, or its default when nothing is restored (assumption log 46). -/
def State.wakeReg (s : State) (obj : Nat) : Nat :=
  match s.imageUsed with
  | some m => Sparse.get regDefault m.regs (regKey obj 0)
  | none => objDefault obj

/-- Step 3 of Table 9: V(PERF_LEVEL) is requested; the counters are advanced at the next XTAL32 edge (08 R223). -/
def wakeTimes (s : State) : State :=
  let level := min (s.wakeReg Obj.PERF_LEVEL) 3
  let s1 := switchClocks level (s.setReg Obj.PERF_LEVEL_IN_FORCE level)
  requestVoltage (s1.levelVoltage level) .plain s1

/-- The relay of a wake pattern is dropped with WAKE_RELAY at 0 (10 R266). -/
def judgeRelay (s : State) : State :=
  if s.power.leaving.isSome && s.wakeReg Obj.WAKE_RELAY = 0 then { s with traffic := { s.traffic with relay := none } } else s

/-- Step 4 of the release sequence, and step 2 of a sleep exit: islands out of reset, the collector and LINK run; the
cause is recorded, except at a wake; a long hold of RESET_N pulses FS92. -/
def coreInWindow (s : State) : State :=
  let s1 := firstPatrol (startPorts (judgeRelay (takeHeld (islandsOn s))))
  let s2 := if s1.power.leaving.isSome then wakeTimes s1 else recordReset s1.device.resetCause s1
  let s3 := if s2.device.longHold.isSome then s2.occur 92 else s2
  { s3 with device := { s3.device with phase := .waitFirmware, longHold := none } }

/-- Objects of 14 Table 8 that S2 restores whatever their access: handles and states of layers and rings, the fence
values, L7_ARM_STATE, the chain, and the capacity of the memory that left self-refresh (assumption log 47). -/
def restoredState (obj : Nat) : Bool :=
  (Obj.LAYER_HANDLE 0 ≤ obj && obj ≤ Obj.LAYER_STATE 7 && (obj % 256 == 1 || obj % 256 == 2)) ||
  (Obj.RING_HANDLE 0 ≤ obj && obj ≤ Obj.RING_STATE 63 && (obj % 256 == 1 || obj % 256 == 2)) ||
  [Obj.L7_ARM_STATE, Obj.CHAIN_POSITION, Obj.CHAIN_REVERSE_POSITION, Obj.CHAIN_RING, Obj.CHAIN_ENUM_ID, Obj.COX_DEVICE,
    Obj.COX_SERIAL, Obj.SOURCE_PORT, Obj.MEM_STATE, Obj.MEM_INSTALLED_BYTES, Obj.MEM_USABLE_BYTES].contains obj

/-- Objects that the flash reloads and ADC_TRIMS, which are not restored (Table 8). -/
def notRestored (obj : Nat) : Bool :=
  (0x111001 ≤ obj && obj ≤ 0x111003) || (0x112001 ≤ obj && obj ≤ 0x112006) || obj == Obj.TILE_IDENTITY || obj == Obj.ADC_TRIMS

/-- An object that S2 restores from the image (Table 8). -/
def restored (obj : Nat) : Bool :=
  match rowOf obj with
  | none => false
  | some r =>
    !r.aon && !notRestored obj && (r.access == .rw || r.access == .rws || restoredState obj || obj == Obj.FENCE_VALUES)

/-- A sparse map with the keys that `f` names taken from `image`. -/
def takeKeys {α : Type} [DecidableEq α] (d : Nat → α) (f : Nat → Bool) (image m : Sparse α) : Sparse α :=
  (image.filter fun e => f e.1).foldl (fun n e => Sparse.set d n e.1 e.2) (Sparse.clearIf m f)

/-- Layers of the image: generations, fences and the lock of L7; submissions and stream frames are gone, and a fill pass
starts again. -/
def LayersState.asRestored (x : LayersState) : LayersState :=
  { layers := x.layers.map fun e => (e.1, { gen := e.2.gen })
    fences := x.fences.map fun e => (e.1, { value := e.2.value, base := e.2.value })
    l7Locked := x.l7Locked
    fillWanted := x.fillWanted || x.filling || x.refillReady }

/-- A profile of the image: what is in force and its custom table. -/
def ProfileState.asRestored (x : ProfileState) : ProfileState := { force := x.force, custom := x.custom }

/-- A recomputation of a profile had not reached its swap. -/
def ProfileState.unfinished (x : ProfileState) : Bool := x.working.isSome || x.again || x.ready.isSome

/-- Host rings of the image are HALTED (Table 8). -/
def haltRestored (s : State) : State :=
  foldN 64 (fun t r => if 8 ≤ r && t.ringState r ≠ 0 then t.setReg (Obj.RING_STATE r) 3 else t) s

/-- Ports whose bit LINK_PORT_ENABLE does not hold are disabled (09 R234). -/
def disableUnwanted (s : State) : State :=
  [Port.a, Port.b].foldl (fun t p => if !t.portEnabled p && t.portState p ≠ 0 then disablePort p t else t) s

/-- The image is restored (R356 Table 8), and LPDDR5 has left self-refresh. -/
def restoreImage (m : SleepImage) (s : State) : State :=
  let s1 : State :=
    { s with
      regs := takeKeys regDefault (fun k => restored (k / 65536)) m.regs s.regs
      tabs := takeKeys domDefault (fun k => restored (k / 131072)) m.tabs s.tabs
      pipe := { s.pipe with overlay := m.overlay, profiles := m.profiles.map fun e => (e.1, e.2.asRestored) }
      layers := m.layers.asRestored
      memory := { s.memory with rings := m.rings.map fun e => (e.1, { gen := e.2.gen }) }
      diag := { s.diag with subst := m.subst }
      traffic := { s.traffic with primary := m.primary, secondary := m.secondary }
      safety := { s.safety with ambientFresh := m.ambientFresh } }
  let s2 := leaveSelfRefresh (haltRestored (takeStreams s1))
  let s3 := s2.modCatch fun g => { g with dom := if s2.reg Obj.ACTIVE_DOMAIN = 1 then 1 else 0 }
  let s4 := foldN 4 (fun t p => if (Sparse.get (fun _ => {}) m.profiles p).unfinished then recompute p t else t) s3
  (disableUnwanted s4).setReg Obj.SLEEP_IMAGE_RESULT 1

/-- SRAM counters of the beacon store region, which S2 keeps (Table 8, 02 R50). -/
def beaconCounter (k : Nat) : Bool :=
  decide (Obj.SRAM_CORRECTED ≤ k / 65536) && decide (k / 65536 ≤ Obj.SRAM_LAST_OFFSET) && k % 65536 == 6

/-- Nothing is restored: the device goes on as after S3. -/
def dropImage (result : Nat) (s : State) : State :=
  ({ s with regs := Sparse.clearIf s.regs beaconCounter }).setReg Obj.SLEEP_IMAGE_RESULT result

/-- Steps 5 and 6 of Table 9. -/
def finishExit (s : State) : State :=
  let s1 :=
    if s.power.leaving ≠ some 2 then s
    else match s.imageUsed with
      | some m => restoreImage m s
      | none => dropImage (if s.power.imageCheck = .crcBad then 2 else 3) s
  let resume := s.power.leaving = some 2 && bitAt (s1.reg Obj.WAKE_RESUME) 0 && s.power.wasRunning && !s1.power.tripped
  let s2 := { s1.setReg Obj.SLEEP_STATE 0 with power := { s1.power with leaving := none, wasRunning := false } }
  if resume then scanStart s2 else s2

/-- The exit from a sleep can be completed: firmware runs. -/
def State.exitDue (s : State) : Bool := s.power.leaving.isSome && s.device.phase == .running

/-- Firmware, or the recovery agent, runs; the agent of a wake answers EXITING until the exit is complete. -/
def firmwareRuns (s : State) : State := bootFirmware s

/-! ### Entry to S2 and S3 is complete (14 R355 step 5) -/

/-- Everything but AON turns off: time is latched, alarms are held, unfinished flash work is lost. S2 keeps the beacon
store with its counters and LPDDR5 in self-refresh; S3 keeps neither. -/
def asleepNow (s : State) : State :=
  let n := s.power.entering.getD 3
  let s1 := islandsOff (holdFaults (dropOutputs (latchTime s)))
  let s2 := resetSwitched (fun k => n == 2 && beaconCounter k) s1
  let s3 := if n = 2 then s2 else { s2 with beacon := [], mem := [], memory := { s2.memory with ueWords := [] } }
  let t := s1.time
  { s3 with
    time := { s3.time with domA := t.domA, domB := t.domB, snapshot := t.snapshot }
    traffic := { s3.traffic with relay := s.traffic.relay }
    power := { s3.power with asleep := some n, wakes := s.power.wakes, wasRunning := s.power.wasRunning
                             image := s.power.image, blankStood := s.power.blankStood }
    device := { s3.device with corePwrEn := false, phase := .asleep } }

/-! ### Wakes (14 R358 to R360) -/

/-- Sources 1, 2 and 8 always act; the others while their bit in WAKE_ENABLE is set. -/
def State.wakeEnabled (s : State) (k : Nat) : Bool := k == 1 || k == 2 || k == 8 || bitAt (s.reg Obj.WAKE_ENABLE) k

/-- A wake condition is present: it is latched during entry to S2 or S3 and asleep, and acts at once in S1. -/
def wake (k : Nat) (s : State) : State :=
  if !s.wakeEnabled k then s
  else if s.power.entering.isSome || s.power.asleep.isSome then
    { s with power := { s.power with wakes := insertOnce k s.power.wakes } }
  else if k = 5 then s
  else wakeS1 [k] s

/-- The squelch detector recognises the wake pattern in the lengths of bursts and gaps in turn, the last one a burst: 4
bursts and the 3 gaps between them, each 12 to 20 XTAL32 periods (10 R266). -/
def wakePattern (lengths : List Nat) : Bool :=
  lengths.length % 2 == 1 && decide (7 ≤ lengths.length) &&
    (lengths.drop (lengths.length - 7)).all fun n => 12 ≤ n && n ≤ 20

/-- The wake pattern on a port: a device woken from S1 relays it at once, LINK running; it has no effect on one beyond SEEK, and marks the relay to the other port (10 R266). -/
def patternWake (p : Port) (lengths : List Nat) (s : State) : State :=
  if !wakePattern lengths || (s.runs 0 && 2 ≤ s.portState p) then s
  else
    let s1 := wake 4 s
    if s.power.inS1 && !s1.power.inS1 then (if s.flag Obj.WAKE_RELAY then startWake (otherPort p) s1 else s1)
    else if s1.power.wakes.contains 4 && !s.power.wakes.contains 4 then
      { s1 with traffic := { s1.traffic with relay := some (otherPort p) } }
    else s1

/-- The wake timer: WAKE_TIMER × 32 768 counts of the ledger have passed. -/
def timerWake (s : State) : State :=
  if s.reg Obj.WAKE_TIMER = 0 then s
  else
    let n := max (s.reg Obj.SLEEP_LEDGER) (s.reg Obj.WAKE_TIMER * 32768 % 2 ^ 48)
    wake 7 (if s.power.asleep.isSome then s.setReg Obj.SLEEP_LEDGER n else s)

/-- The wake edge: the record of R360, CORE_PWR_EN high, SLEEP_STATE EXITING. -/
def sleepExit (image : ImageCheck) (s : State) : State :=
  let n := s.power.asleep.getD 3
  let s1 := (recordWake s.power.wakes n (s.reg Obj.SLEEP_LEDGER) s).setReg Obj.SLEEP_STATE 3
  awaitCore s1.device.resetCause
    { s1 with power := { s1.power with asleep := none, leaving := some n, wakes := [], imageCheck := image } }

/-! ### Resets from outside (R397 to R399, 14 R361) -/

/-- A low of RESET_N that acts: every island other than AON is held in reset. -/
def resetLow (s : State) : State :=
  let s1 := (islandsOff (holdFaults (dropOutputs s))).setPhase .resetHeld
  { s1 with device := { s1.device with holdCounted := false } }

/-- A low that the filter ignores. -/
def resetGlitch (s : State) : State := s.bumpSat Obj.RESET_GLITCHES

/-- A low longer than 262 144 XTAL32 periods, counted once. -/
def longHold (ms : Nat) (s : State) : State :=
  let s1 := if s.device.holdCounted then s else (s.setFlag Obj.RESET_HELD true).bumpSat Obj.RESET_HELD_COUNT
  { s1 with device := { s1.device with longHold := some ms, holdCounted := true } }

/-- A core brown-out: the islands are held in reset, CORE_PWR_EN stays high (R397). -/
def brownOut (s : State) : State :=
  (resetSwitched (fun _ => false) (islandsOff (holdFaults (dropOutputs s)))).setPhase .brownOut

/-- The device can meet a brown-out: CORE_PWR_EN has been high long enough. -/
def State.coreOn (s : State) : Bool :=
  s.device.corePwrEn &&
  (s.device.phase == .running || s.device.phase == .recovery || s.device.phase == .waitFirmware)

/-- The internal power-on reset: everything takes its default; the flash, its record, the fuses and the JTAG TAP keep
what they hold (R398, R402, assumption log 48). -/
def powerOn (s : State) : State :=
  { State.reset with
    pending := s.pending
    flash := s.flash
    cop := { record := s.cop.record, slot0Revoked := s.cop.slot0Revoked, rollbackRaised := s.cop.rollbackRaised }
    device := { State.reset.device with tap := s.device.tap }
    out := s.out
    ticks := s.ticks
    freeCtr := s.freeCtr }

/-- XTAL32 oscillates: the sequence goes on with the straps, or AON leaves its internal oscillator (R398, R400). -/
def xtalStart (straps : Nat) (s : State) : State :=
  let s1 := { s with device := { s.device with internalOsc := false } }
  if s.device.phase = .waitXtal then awaitCore 0 (sampleStraps straps s1) else s1

/-- XTAL32 has not started within 2 s. -/
def xtalTimeout (straps : Nat) (s : State) : State :=
  awaitCore 0 (sampleStraps straps { s with device := { s.device with internalOsc := true } })

/-! ### FLASH_WRITE_COMPLETE -/

/-- The operation completes; an activation that resets the device does so once its answer has left (15 R382). -/
def flashWriteDone (ok : Bool) (s : State) : State :=
  match s.cop.flashJob with
  | some ⟨.activate slot true, q⟩ =>
    let s1 := completeJob ok ⟨.activate slot true, q⟩ s
    if ok then activateReset (flushPort .b (flushPort .a s1)) else s1
  | _ => flashComplete ok s

/-! ### The meanings -/

/-- FLASH_WRITE_COMPLETE (15 R378). -/
def execFlashWriteComplete (ok : Bool) : State → Host.Outcome State Fault Refusal :=
  onIslandIf 6 (fun s => s.flashBusy false) (flashWriteDone ok)

/-- SLEEP_ENTRY_COMPLETE (14 R355). -/
def execSleepEntryComplete : State → Host.Outcome State Fault Refusal :=
  onAon (fun s => s.power.entering.isSome) asleepNow

/-- A wake source of AON acts while the device runs or sleeps (R399). -/
def onWake (op : State → State) : State → Host.Outcome State Fault Refusal :=
  onAon (fun s => s.device.phase == .running || s.device.phase == .asleep) op

/-- WAKE_N_LOW (14 R358). -/
def execWakeNLow : State → Host.Outcome State Fault Refusal := onWake (wake 3)

/-- EVAC_PIN_WAKE (14 R358): a demand that stands already does not wake; entry is refused while one stands. -/
def execEvacPinWake (_channel : Channel) : State → Host.Outcome State Fault Refusal := onWake (wake 1)

/-- SAFE_BLANK_PIN_WAKE (14 R358): a demand that stood at the entry wakes the device only once its pins have been released
since. -/
def execSafeBlankPinWake (_channel : Channel) (released : Bool) : State → Host.Outcome State Fault Refusal :=
  onWake fun s => if s.power.blankStood && !released then s else wake 2 s

/-- WAKE_PATTERN_DETECT (10 R266). -/
def execWakePatternDetect (port : Port) (lengths : List Nat) : State → Host.Outcome State Fault Refusal :=
  onWake (patternWake port lengths)

/-- LINK_ACTIVITY_DETECT (10 R266): a signal present for 64 XTAL32 periods; S2 and S3 only. -/
def execLinkActivityDetect (_port : Port) (periods : Nat) : State → Host.Outcome State Fault Refusal :=
  onWake fun s => if 64 ≤ periods then wake 5 s else s

/-- T1S_ACTIVITY_DETECT (14 R358): never with STRAP_T1S_OFF (R400). -/
def execT1sActivityDetect : State → Host.Outcome State Fault Refusal :=
  onWake fun s => if s.device.t1sOff then s else wake 6 s

/-- WAKE_TIMER_EXPIRY (14 R358). -/
def execWakeTimerExpiry : State → Host.Outcome State Fault Refusal := onWake timerWake

/-- SLEEP_EXIT (14 R357, R360). -/
def execSleepExit (image : ImageCheck) : State → Host.Outcome State Fault Refusal :=
  onAon (fun s => s.device.phase == .asleep && !s.power.wakes.isEmpty) (sleepExit image)

/-- CORE_SUPPLY_IN_WINDOW (R401 steps 3 and 4). -/
def execCoreSupplyInWindow : State → Host.Outcome State Fault Refusal :=
  onAon (fun s => s.device.phase == .waitCore) coreInWindow

/-- FIRMWARE_RUNNING (R401 step 5, 15 R380). -/
def execFirmwareRunning : State → Host.Outcome State Fault Refusal :=
  onIslandIf 6 (fun s => s.device.phase == .waitFirmware) firmwareRuns

/-- POWER_ON_RESET (R398). -/
def execPowerOnReset : State → Host.Outcome State Fault Refusal := onReset (fun _ => true) powerOn

/-- POWER_ON_RESET_RELEASE (R398). -/
def execPowerOnResetRelease : State → Host.Outcome State Fault Refusal :=
  onReset (fun s => s.device.phase == .powerOnReset) fun s => s.setPhase .waitXtal

/-- XTAL32_START (R398, R400). -/
def execXtal32Start (straps : Nat) : State → Host.Outcome State Fault Refusal :=
  onAon (fun s => s.device.phase == .waitXtal || s.device.internalOsc) (xtalStart straps)

/-- XTAL32_START_TIMEOUT (R398, R400). -/
def execXtal32StartTimeout (straps : Nat) : State → Host.Outcome State Fault Refusal :=
  onAon (fun s => s.device.phase == .waitXtal) (xtalTimeout straps)

/-- A low of RESET_N through its filter, by its length so far: below 7 µs it is ignored, from 10 µs it acts, between them
it does either, by a free value (R399). -/
def filterReset (nanoseconds : Nat) (s : State) : State :=
  if 10000 ≤ nanoseconds then resetLow s
  else if nanoseconds < 7000 then resetGlitch s
  else if s.free % 2 = 0 then resetGlitch s.drawn
  else resetLow s.drawn

/-- RESET_N_LOW (R399). -/
def execResetNLow (nanoseconds : Nat) : State → Host.Outcome State Fault Refusal :=
  onReset (fun s => s.device.phase != .powerOnReset && s.device.phase != .resetHeld) (filterReset nanoseconds)

/-- RESET_N_RELEASE (R399 to R401). -/
def execResetNRelease (straps : Nat) : State → Host.Outcome State Fault Refusal :=
  onReset (fun s => s.device.phase == .resetHeld) (resetRelease straps)

/-- RESET_HOLD_LONG (14 R361). -/
def execResetHoldLong (milliseconds : Nat) : State → Host.Outcome State Fault Refusal :=
  onReset (fun s => s.device.phase == .resetHeld) (longHold milliseconds)

/-- CORE_BROWN_OUT (R397). -/
def execCoreBrownOut : State → Host.Outcome State Fault Refusal := onAon (fun s => s.coreOn) brownOut

/-- CORE_SUPPLY_RESTORED (R397). -/
def execCoreSupplyRestored : State → Host.Outcome State Fault Refusal :=
  onAon (fun s => s.device.phase == .brownOut) (awaitCore 2)

end Sys2Proof.Machine
end

