-- ==== Sys2Proof/Machine/Frame.lean ====
section
/-! DEFINITION. The catch generator (chapter 08, R217 to R222) and what each catch does: the frame boundary of 04 R99, the
swap of the frame computed (05 R140), scan-drive start and stop (05 R135, R147), and the pipeline start (03 R56). -/

namespace Sys2Proof.Machine

/-! ### The grid (R217), in 2^-32 ns -/

/-- P_f, exact. -/
def Timing.framePeriod (t : Timing) : Rat := (1000000000 * t.den * 4294967296 : Nat) / (max 1 t.num : Nat)

/-- CATCH_ORIGIN. -/
def State.gridOrigin (s : State) : Int := ((timeNs (s.reg Obj.CATCH_ORIGIN) * 4294967296 : Nat) : Int)

/-- G(m). -/
def State.gridFrame (s : State) (m : Int) : Int := s.gridOrigin + ((m : Rat) * s.scan.timing.framePeriod).floor

/-- G(m, j). -/
def State.gridCatch (s : State) (m : Int) (j : Nat) : Int :=
  s.gridFrame m + (j : Int) * (s.gridFrame (m + 1) - s.gridFrame m) / (max 1 s.scan.timing.cycles : Nat)

/-- The first grid frame at or after a time of the domain. -/
def State.frameFrom (s : State) (t : Int) : Int :=
  let m := (((t - s.gridOrigin : Int) : Rat) / s.scan.timing.framePeriod).floor
  if t ≤ s.gridFrame m then m else m + 1

/-- The first grid catch at or after a time of the domain. -/
def State.catchFrom (s : State) (t : Int) : Int × Nat :=
  let m := s.frameFrom t - 1
  match (List.range s.scan.timing.cycles).find? fun j => decide (t ≤ s.gridCatch m j) with
  | some j => (m, j)
  | none => (m + 1, 0)

/-! ### Scheduling (R218 to R221) -/

/-- The first catch after a scan-drive start: crossing H07 carries it 2 µs ahead (02 R42); D was set to 0 at the start. -/
def startCatches (s : State) : State :=
  let first := s.catchFrom ((s.now : Int) + 2000 * 4294967296)
  s.modCatch fun g => { g with issuing := true, m := first.1, j := first.2 }

/-- Domain time of the next catch: G + D. -/
def State.catchTime (s : State) : Int := s.gridCatch s.time.catchGen.m s.time.catchGen.j + s.time.catchGen.offset

/-- CATCH_REANCHOR in 2^-32 ns. -/
def State.reanchorLimit (s : State) : Nat := s.limited Obj.CATCH_REANCHOR 10000 1000000000 * 4294967296

/-- D moved towards 0 over a grid interval (R218). -/
def State.slewed (s : State) (interval : Int) : Int :=
  let d := s.time.catchGen.offset
  let ppm : Rat := (s.limited Obj.CATCH_SLEW_PPM 1 100 * interval : Int) / 1000000
  let budget := s.shortenBudget * 4294967296 / 1000
  let most := if 0 < d then min ppm budget else ppm
  let step := min (d.natAbs : Int) most.floor
  if 0 < d then d - step else d + step

/-- The next frame catch is re-anchored (R219): no catch before the first grid frame catch at or after t_r + P_f. -/
def reanchor (s : State) : State :=
  let s1 := s.modCatch fun g => { g with offset := 0, reanchor := true }
  let m := s1.frameFrom ((s1.now : Int) + s1.scan.timing.framePeriod.ceil)
  s1.modCatch fun g => { g with m := m, j := 0 }

/-- Schedule the catch that follows the one just issued (R218, R219). -/
def scheduleNext (s : State) : State :=
  let g := s.time.catchGen
  let m := if g.j + 1 < s.scan.timing.cycles then g.m else g.m + 1
  let j := if g.j + 1 < s.scan.timing.cycles then g.j + 1 else 0
  let s1 := s.modCatch fun x => { x with m := m, j := j }
  if j = 0 && s.reanchorLimit < g.offset.natAbs then reanchor s1
  else s1.modCatch fun x => { x with offset := s1.slewed (s1.gridCatch m j - s.gridCatch g.m g.j) }

/-- A switch of the active domain right after a catch: D takes the difference (R220). -/
def switchAfterCatch (d : Nat) (s : State) : State :=
  if s.time.catchGen.dom = d then s
  else
    let old := s.now
    let s1 := followDomain d s
    s1.modCatch fun g => { g with offset := g.offset + ((s1.now : Int) - old) }

/-- The switches that waited for the catch, the automatic one first (R220, R221). -/
def switchDomains (s : State) : State :=
  let g := s.time.catchGen
  let s1 := s.modCatch fun x => { x with hostDom := none, autoDom := none }
  let s2 := (g.autoDom.map fun d => switchAfterCatch d s1).getD s1
  (g.hostDom.map fun d => switchAfterCatch d s2).getD s2

/-! ### Time up to the catch (assumption log 49) -/

/-- `n` ticks of TIME with nothing to add or step. -/
def tickMany (n : Nat) (s : State) : State :=
  let run (x : DomState) : DomState := { x with counter := wrapCounter (x.counter + n * x.inc : Nat) }
  let rate := s.atMost Obj.UPSTREAM_RESERVE 100000
  let s := transmitBoth n s
  { s with
    time := { s.time with domA := run s.time.domA, domB := run s.time.domB }
    ticks := s.ticks + n
    traffic := { s.traffic with tokens := min (s.traffic.tokens + n * rate) 3072000 } }

/-- TIME tick at which BAND issues an unaligned catch: one nominal scan cycle, counted in strokes, after the last catch (02
R42 H07); none without a catch to count from. -/
def State.strokeCountTick (s : State) : Option Nat :=
  if s.time.catchGen.unaligned then s.time.catchGen.lastTick.map fun t => t + (s.scanPeriod / 4).ceil.toNat else none

/-- TIME ticks until the domain time of the next catch is reached, or until BAND's stroke count is. -/
def runToCatch (s : State) : State :=
  match s.strokeCountTick with
  | some t =>
    let s1 := if s.ticks < t then timeTick s else s
    tickMany (t - s1.ticks) s1
  | none =>
    let s1 := if decide ((s.now : Int) < s.catchTime) then timeTick s else s
    let left := s1.catchTime - s1.now
    tickMany (ceilDiv left.toNat (max 1 (s1.dom s1.active).inc)) s1

/-! ### The frame shown -/

/-- Bands that failed are replayed from the next frame on, while the content is valid (12 R303). -/
def replayFailed (s : State) : State :=
  let bits := s.safety.failedBands.foldl (fun v b => putBit v b true) (s.reg Obj.REPLAY_BANDS)
  let s1 := if s.flag Obj.BEACON_VALID then s.setReg Obj.REPLAY_BANDS bits else s
  { s1 with safety := { s1.safety with failedBands := [] } }

/-- The echo frame of the frame now shown starts to be sent, or is dropped behind the one being sent (04 R120). -/
def startEcho (s : State) : State :=
  match s.layers.echoReady, s.layers.echoSending with
  | none, _ => s
  | some e, none =>
    { s with layers := { s.layers with echoReady := none, echoSending := some (e, 0), echoBuffer := 1 - s.layers.echoBuffer } }
  | some _, some _ => { s.bump Obj.ECHO_FRAMES_DROPPED with layers := { s.layers with echoReady := none } }

/-- The frame in computation is swapped in (05 R140): its deadline has passed, the nodes show it, its probes open, and
the verdicts of the frames before it act (06 R160). -/
def showFrame (s : State) : State :=
  match s.pipe.frame with
  | none => s
  | some f =>
    let s1 := swapNodes (some f.k) (ackDeadline s)
    let s2 : State :=
      { s1 with
        scan := { s1.scan with shownFrame := some f.k, deadlinePassed := false }
        pipe := { s1.pipe with frame := none, words := [], readyRows := [] } }
    let s3 := applyVerdicts f.k (openProbes f.k (startEcho (replayFailed s2)))
    if s3.reg Obj.SCAN_STATE = 1 then s3.setReg Obj.SCAN_STATE 2 else s3

/-- Blanking that lasts until a frame catch ends (12 R298, 02 R42 H11). -/
def endBlanking (s : State) : State := { s with safety := { s.safety with blankUntilCatch := false, replayBlank := [] } }

/-! ### The frame boundary (04 R99, R108 to R111, 12 R301, R310) -/

/-- Steps 1 to 3 of R99 at grid time `b`, ns: the batch, the buffers released (R104), destructions, the streams received,
link loss. DESIGN CHOICE: a LAYER_DESTROY that the batch carries takes effect at this boundary (assumption log 146). -/
def boundaryHead (b : Int) (s : State) : State :=
  evaluateLinkLoss (takeStreams (destroyLayers (releaseBuffers (applyAtBoundary b s))))

/-- Step 4 of R99, then L7; the next boundary is at `b1`. -/
def boundaryTail (b b1 : Int) (s : State) : State := bringRefill b (finishDisarm (decideFlips b b1 s))

/-- The boundary at grid time `b`, the next at `b1`, ns. -/
def boundary (b b1 : Int) (s : State) : State := boundaryTail b b1 (boundaryHead b s)

/-! ### Scan-drive progress (05 R135 steps 6 and 7, R147) -/

/-- Strokes begin: every band that finished step 5 runs. -/
def beginStrokes (s : State) : State :=
  let s1 := foldN s.bandCount (fun t b =>
    let x := t.band b
    if x.step = .ready then
      (t.setBand b { x with step := .running }).setReg Obj.BANDS_RUNNING (putBit (t.reg Obj.BANDS_RUNNING) b true)
    else t) s
  { s1 with scan := { s1.scan with strokes := true } }

/-- What a frame catch means for a start or a stop in progress. -/
def scanProgress (s : State) : State :=
  if s.reg Obj.SCAN_STATE = 3 then
    { s with scan := { s.scan with stopCatches := s.scan.stopCatches + 1, stopReady := s.scan.stopCatches != 0 } }
  else if s.reg Obj.SCAN_STATE = 1 && s.scan.configured && !s.scan.strokes then
    let s1 := { s with scan := { s.scan with readyCatches := s.scan.readyCatches + 1 } }
    if s.scan.readyCatches = 1 then beginStrokes s1 else s1
  else s

/-! ### S1 at the frame catch (14 R354) -/

/-- S1 is entered, or its end goes on: the pipeline restarts 500 µs after the wake, blanking ends one frame later. -/
def sleepBoundary (s : State) : State :=
  if s.power.s1Wanted then enterS1 s
  else if s.power.inS1 then s
  else match s.power.s1Wake with
    | some t => if t + 125000 ≤ s.ticks then { s with power := { s.power with s1Wake := none } } else s
    | none => { s with power := { s.power with s1Blank := false } }

/-! ### The pipeline start (03 R56) -/

/-- A pipeline start takes place at this frame catch. -/
def State.startsPipeline (s : State) : Bool :=
  s.scan.strokes && s.reg Obj.SCAN_STATE ≤ 2 && !s.power.inS1 && s.power.s1Wake.isNone && s.power.entering.isNone && s.runs 1

/-- SAILn_PHASE: the last ph of the engines in breathing mode for a frame shown at `showTime`, 2^-32 ns (04 R116). -/
def showPhases (showTime : Int) (s : State) : State :=
  foldN 16 (fun t n =>
    if t.reg (Obj.SAIL_MODE n) = 2 then
      t.setReg (Obj.SAIL_PHASE n) (sailPhase (sailTime showTime (t.reg (Obj.SAIL_START n))) (t.sailPeriod n))
    else t) s

/-- Tables swap, with what their swap leads to (03 R57, 12 R417). -/
def swapAll (s : State) : State :=
  let glare := s.shadowed.any ceilingTable
  let s1 := swapTables s
  if glare && s1.flag Obj.BEACON_VALID then formPeakRatio s1 else s1

/-- The frame accumulates doses (03 R74). -/
def State.accumulates (s : State) (k : Nat) : Bool := s.flag Obj.DOSE_ENABLE && k % s.limited Obj.DOSE_DECIMATION 1 16 == 0

/-- The frame is echoed (04 R118). -/
def State.echoes (s : State) (k : Nat) : Bool := s.flag Obj.ECHO_ENABLE && k % s.atLeast1 Obj.ECHO_FRAME_DIVIDER == 0

/-- The frame computed from the boundary at grid time `b`, ns, shown from `b1`, 2^-32 ns: every parameter as it stands
now. -/
def newFrame (k : Nat) (b b1 : Int) (missed : Bool) (s : State) : FrameWork :=
  { k := k, evac := s.safety.evacActive, startTime := b, showTime := b1, regs := s.regs, tabs := s.tabs
    profiles := (List.range 4).map fun p => (s.profile p).force
    views := s.views s.safety.evacActive
    subst := s.diag.subst, suspects := s.diag.suspects.map (·.emitter), black := s.diag.blackNow
    missed := missed, linkLoss := s.flag Obj.LINK_LOSS_ACTIVE
    accumulate := s.accumulates k, echo := s.echoes k }

/-- The pipeline start of the next frame: swaps, the weir's groups, ceilings and gains (12 R311, R312, R315), a fill pass
(04 R108), the round (06 R155), then the frame. -/
def pipelineStart (b b1 : Int) (missed : Bool) (s : State) : State :=
  let k := s.pipe.nextFrame
  let s1 := showPhases b1 (startRound k (startFill (updateGains (setCeilings b (weirRegroup (swapAll s))))))
  { s1 with
    pipe := { s1.pipe with frame := some (newFrame k b b1 missed s1), nextFrame := k + 1, words := [], readyRows := []
                           missing := [] }
    layers := { s1.layers with echoTap := [] } }

/-- Everything a frame catch does, at grid time `g` with the next frame catch at `g1`, 2^-32 ns; decisions take their
whole ns (08 R207, R222). -/
def frameCatch (g g1 : Int) (s : State) : State :=
  let b := g / 4294967296
  let b1 := g1 / 4294967296
  let s1 := boundaryHead b (endBlanking (showFrame s))
  let s2 := boundaryTail b b1 s1
  let s3 := sleepBoundary (scanProgress s2)
  let s4 := if s3.scan.strokes then evacBoundary b s3 else s3
  if s4.startsPipeline then pipelineStart b g1 (s1.someMiss b b1) s4 else s4

/-! ### CATCH_ISSUE -/

/-- A band has a catch to send; at a frame catch that its nodes see they apply the settings written (05 R127). -/
def BandState.caught (x : BandState) (isFrame blanks : Bool) : BandState :=
  { x with catches := x.catches ++ [isFrame], currents := if isFrame && !blanks then x.written else x.currents }

/-- Every band that sends timing symbols has a catch to send (05 R123, R130). -/
def passCatch (isFrame : Bool) (s : State) : State :=
  if !s.scan.strokes || s.scan.stopReady then s
  else foldN s.bandCount (fun t b => t.setBand b ((t.band b).caught isFrame (s.bandBlank b))) s

/-- Records of an issued catch: an unaligned one (02 R42), a re-anchor (R219), the grid time of a frame catch (R222). -/
def noteCatch (isFrame : Bool) (b : Int) (s : State) : State :=
  let g := s.time.catchGen
  let s1 := if g.unaligned then (s.bump Obj.CATCHES_UNALIGNED).occur 58 else s.crossed 7
  let s2 := if g.reanchor then (s1.bump Obj.CATCH_REANCHORS).occur 57 else s1
  let s3 := s2.modCatch fun x => { x with unaligned := false, reanchor := false, lastTick := some s2.ticks }
  if isFrame then s3.setReg Obj.LAST_FRAME_CATCH (packTime (b.toNat * 4294967296)) else s3

/-- The catch itself, its time reached. -/
def doCatch (s : State) : State :=
  let g := s.time.catchGen
  let isFrame := g.j == 0
  let at' := s.gridCatch g.m g.j
  let s1 := closeProbes (noteCatch isFrame (at' / 4294967296) s)
  let s2 := passCatch isFrame (if isFrame then frameCatch at' (s.gridFrame (g.m + 1)) s1 else s1)
  scheduleNext (switchDomains s2)

/-- The next catch is issued at its time. -/
def issueCatch (s : State) : State := doCatch (runToCatch (if s.issuing then s else startCatches s))

/-! ### The meaning -/

/-- CATCH_ISSUE (08 R218). -/
def execCatchIssue : State → Host.Outcome State Fault Refusal :=
  onIslandIf 5 (fun s => s.reg Obj.SCAN_STATE != 0) issueCatch

end Sys2Proof.Machine
end

