-- ==== Sys2Proof/Machine/Dispatch.lean ====
section
/-! DEFINITION. The dispatch: one arm per command of the manual, each one call of its meaning. -/

namespace Sys2Proof.Machine

/-- The effect of a command on everything but the queue. -/
def exec (i : Instr) (s : State) : Host.Outcome State Fault Refusal :=
  match i with
  | .copRead rq index sub offset snapshot => Sys2Proof.Machine.execCopRead rq index sub offset snapshot s
  | .copWrite rq index sub seg data => Sys2Proof.Machine.execCopWrite rq index sub seg data s
  | .copStage rq index sub seg data => Sys2Proof.Machine.execCopStage rq index sub seg data s
  | .copCommit rq notBefore => Sys2Proof.Machine.execCopCommit rq notBefore s
  | .copAbandon rq => Sys2Proof.Machine.execCopAbandon rq s
  | .batchIdleTimeout => Sys2Proof.Machine.execBatchIdleTimeout s
  | .batchNotBeforeReached => Sys2Proof.Machine.execBatchNotBeforeReached s
  | .roleLockExpiry role => Sys2Proof.Machine.execRoleLockExpiry role s
  | .responseRecordExpiry => Sys2Proof.Machine.execResponseRecordExpiry s
  | .keyWrite rq role data => Sys2Proof.Machine.execKeyWrite rq role data s
  | .t1sConfigWrite rq sub data => Sys2Proof.Machine.execT1sConfigWrite rq sub data s
  | .flashWriteComplete ok => Sys2Proof.Machine.execFlashWriteComplete ok s
  | .crossingTimeout x => Sys2Proof.Machine.execCrossingTimeout x s
  | .lateAcknowledge crossing tag => Sys2Proof.Machine.execLateAcknowledge crossing tag s
  | .islandClockRunning island => Sys2Proof.Machine.execIslandClockRunning island s
  | .wakeHoldExpiry island => Sys2Proof.Machine.execWakeHoldExpiry island s
  | .gateAcknowledge island => Sys2Proof.Machine.execGateAcknowledge island s
  | .clockCheckWindow refCount xtalCount => Sys2Proof.Machine.execClockCheckWindow refCount xtalCount s
  | .sramCountersClear rq data => Sys2Proof.Machine.execSramCountersClear rq data s
  | .catchIssue => Sys2Proof.Machine.execCatchIssue s
  | .pipelineRowCompute faults => Sys2Proof.Machine.execPipelineRowCompute faults s
  | .ingestProfileWrite rq profile sub data => Sys2Proof.Machine.execIngestProfileWrite rq profile sub data s
  | .targetPrimariesWrite rq data => Sys2Proof.Machine.execTargetPrimariesWrite rq data s
  | .ingestRecomputeComplete profile => Sys2Proof.Machine.execIngestRecomputeComplete profile s
  | .thermalReset rq data => Sys2Proof.Machine.execThermalReset rq data s
  | .pipelineCountersClear rq data => Sys2Proof.Machine.execPipelineCountersClear rq data s
  | .beaconFillComplete spoiled => Sys2Proof.Machine.execBeaconFillComplete spoiled s
  | .xMapFill rq data => Sys2Proof.Machine.execXMapFill rq data s
  | .layerCreate rq data => Sys2Proof.Machine.execLayerCreate rq data s
  | .layerDestroy rq data => Sys2Proof.Machine.execLayerDestroy rq data s
  | .layerSubmit rq data => Sys2Proof.Machine.execLayerSubmit rq data s
  | .fenceSignal rq data => Sys2Proof.Machine.execFenceSignal rq data s
  | .l7Arm rq data => Sys2Proof.Machine.execL7Arm rq data s
  | .l7Disarm rq data => Sys2Proof.Machine.execL7Disarm rq data s
  | .layerCountersClear rq data => Sys2Proof.Machine.execLayerCountersClear rq data s
  | .scanStart rq data => Sys2Proof.Machine.execScanStart rq data s
  | .bandAlignTimeout band => Sys2Proof.Machine.execBandAlignTimeout band s
  | .enumReplyRx band reply check => Sys2Proof.Machine.execEnumReplyRx band reply check s
  | .enumReplyTimeout band => Sys2Proof.Machine.execEnumReplyTimeout band s
  | .markerRx band node roundTrip => Sys2Proof.Machine.execMarkerRx band node roundTrip s
  | .regDataRx band node reg value check => Sys2Proof.Machine.execRegDataRx band node reg value check s
  | .timingSymbolSend band => Sys2Proof.Machine.execTimingSymbolSend band s
  | .sliceRowSend band node corrected errors => Sys2Proof.Machine.execSliceRowSend band node corrected errors s
  | .sliceStatusRx band node frameTag rowMask check => Sys2Proof.Machine.execSliceStatusRx band node frameTag rowMask check s
  | .ackDeadline => Sys2Proof.Machine.execAckDeadline s
  | .nodeSettingsSend band => Sys2Proof.Machine.execNodeSettingsSend band s
  | .headroomReportRx band report => Sys2Proof.Machine.execHeadroomReportRx band report s
  | .headroomAcceptDeadline band => Sys2Proof.Machine.execHeadroomAcceptDeadline band s
  | .probePacketRx band node packet => Sys2Proof.Machine.execProbePacketRx band node packet s
  | .scanStop rq data => Sys2Proof.Machine.execScanStop rq data s
  | .scanStopComplete => Sys2Proof.Machine.execScanStopComplete s
  | .scanCountersClear rq data => Sys2Proof.Machine.execScanCountersClear rq data s
  | .vfSample emitter code arrives => Sys2Proof.Machine.execVfSample emitter code arrives s
  | .calWriteback emitter arrives => Sys2Proof.Machine.execCalWriteback emitter arrives s
  | .defectAdd rq data => Sys2Proof.Machine.execDefectAdd rq data s
  | .defectClear rq data => Sys2Proof.Machine.execDefectClear rq data s
  | .defectClearAll rq data => Sys2Proof.Machine.execDefectClearAll rq data s
  | .defectTableWrite rq data => Sys2Proof.Machine.execDefectTableWrite rq data s
  | .vfRefReset rq data => Sys2Proof.Machine.execVfRefReset rq data s
  | .railStart rq data => Sys2Proof.Machine.execRailStart rq data s
  | .railStop rq data => Sys2Proof.Machine.execRailStop rq data s
  | .railClear rq data => Sys2Proof.Machine.execRailClear rq data s
  | .coefCommit rq data => Sys2Proof.Machine.execCoefCommit rq data s
  | .railModeWrite rq rail data => Sys2Proof.Machine.execRailModeWrite rq rail data s
  | .railFastSample rail rawV rawI => Sys2Proof.Machine.execRailFastSample rail rawV rawI s
  | .engineJobComplete rail job => Sys2Proof.Machine.execEngineJobComplete rail job s
  | .jobOverrun rail job => Sys2Proof.Machine.execJobOverrun rail job s
  | .ffPredictionRx band row => Sys2Proof.Machine.execFfPredictionRx band row s
  | .feedbackLossDetect rail => Sys2Proof.Machine.execFeedbackLossDetect rail s
  | .holdRecovery rail => Sys2Proof.Machine.execHoldRecovery rail s
  | .holdTimeout rail => Sys2Proof.Machine.execHoldTimeout rail s
  | .overVoltage rail => Sys2Proof.Machine.execOverVoltage rail s
  | .overCurrentTrip rail => Sys2Proof.Machine.execOverCurrentTrip rail s
  | .railStartTimeout rail => Sys2Proof.Machine.execRailStartTimeout rail s
  | .rampDownEnd rail => Sys2Proof.Machine.execRampDownEnd rail s
  | .headroomSafe rail => Sys2Proof.Machine.execHeadroomSafe rail s
  | .headroomResume rail => Sys2Proof.Machine.execHeadroomResume rail s
  | .adcRotationStep bank => Sys2Proof.Machine.execAdcRotationStep bank s
  | .adcHandover bank meanDiff => Sys2Proof.Machine.execAdcHandover bank meanDiff s
  | .adcCalibrationDone bank low high => Sys2Proof.Machine.execAdcCalibrationDone bank low high s
  | .adcTrimsWrite rq data => Sys2Proof.Machine.execAdcTrimsWrite rq data s
  | .railCountersClear rq data => Sys2Proof.Machine.execRailCountersClear rq data s
  | .syncOriginate dom => Sys2Proof.Machine.execSyncOriginate dom s
  | .delayMeasure port => Sys2Proof.Machine.execDelayMeasure port s
  | .delayReqRx port turnaround => Sys2Proof.Machine.execDelayReqRx port turnaround s
  | .delayRespRx port roundTrip => Sys2Proof.Machine.execDelayRespRx port roundTrip s
  | .syncRx port residence => Sys2Proof.Machine.execSyncRx port residence s
  | .ptpMessageRx message => Sys2Proof.Machine.execPtpMessageRx message s
  | .ptpTxTimestamp seq messageType => Sys2Proof.Machine.execPtpTxTimestamp seq messageType s
  | .ptpTxqPop rq => Sys2Proof.Machine.execPtpTxqPop rq s
  | .sourceTimeout dom => Sys2Proof.Machine.execSourceTimeout dom s
  | .domSet rq dom data => Sys2Proof.Machine.execDomSet rq dom data s
  | .domAdjust rq dom data => Sys2Proof.Machine.execDomAdjust rq dom data s
  | .domSourceWrite rq dom data => Sys2Proof.Machine.execDomSourceWrite rq dom data s
  | .activeDomainWrite rq data => Sys2Proof.Machine.execActiveDomainWrite rq data s
  | .timeCountersClear rq data => Sys2Proof.Machine.execTimeCountersClear rq data s
  | .linkPortEnableWrite rq data => Sys2Proof.Machine.execLinkPortEnableWrite rq data s
  | .linkRetrain rq data => Sys2Proof.Machine.execLinkRetrain rq data s
  | .portTestEnter rq port data => Sys2Proof.Machine.execPortTestEnter rq port data s
  | .portTestExit rq port data => Sys2Proof.Machine.execPortTestExit rq port data s
  | .signalDetect port lane => Sys2Proof.Machine.execSignalDetect port lane s
  | .lossOfSignal port lane => Sys2Proof.Machine.execLossOfSignal port lane s
  | .markerLock port levels0 levels1 skew => Sys2Proof.Machine.execMarkerLock port levels0 levels1 skew s
  | .trainingControlWordRx port lane word => Sys2Proof.Machine.execTrainingControlWordRx port lane word s
  | .adaptComplete port snr0 snr1 ctle0 ctle1 => Sys2Proof.Machine.execAdaptComplete port snr0 snr1 ctle0 ctle1 s
  | .verifyWindowEnd port errors0 errors1 => Sys2Proof.Machine.execVerifyWindowEnd port errors0 errors1 s
  | .dataModeStart port => Sys2Proof.Machine.execDataModeStart port s
  | .alignmentCodewordRx port levels0 levels1 => Sys2Proof.Machine.execAlignmentCodewordRx port levels0 levels1 s
  | .fecCodewordRx port levels0 levels1 drift trouble => Sys2Proof.Machine.execFecCodewordRx port levels0 levels1 drift trouble s
  | .uncorrectableRun port => Sys2Proof.Machine.execUncorrectableRun port s
  | .alignmentLost port => Sys2Proof.Machine.execAlignmentLost port s
  | .identifyTimeout port => Sys2Proof.Machine.execIdentifyTimeout port s
  | .adaptTimeout port => Sys2Proof.Machine.execAdaptTimeout port s
  | .fecLockTimeout port => Sys2Proof.Machine.execFecLockTimeout port s
  | .trainTimeout port => Sys2Proof.Machine.execTrainTimeout port s
  | .holdoffExpiry port => Sys2Proof.Machine.execHoldoffExpiry port s
  | .serSecond => Sys2Proof.Machine.execSerSecond s
  | .linkCountersClear rq data => Sys2Proof.Machine.execLinkCountersClear rq data s
  | .videoPacketRx port => Sys2Proof.Machine.execVideoPacketRx port s
  | .controlPacketRx port => Sys2Proof.Machine.execControlPacketRx port s
  | .fencePacketRx port => Sys2Proof.Machine.execFencePacketRx port s
  | .chainEnumRx port => Sys2Proof.Machine.execChainEnumRx port s
  | .announceRx port => Sys2Proof.Machine.execAnnounceRx port s
  | .coxElection => Sys2Proof.Machine.execCoxElection s
  | .breakRx port => Sys2Proof.Machine.execBreakRx port s
  | .poisonRx port => Sys2Proof.Machine.execPoisonRx port s
  | .packetForward port => Sys2Proof.Machine.execPacketForward port s
  | .localPacketSend port => Sys2Proof.Machine.execLocalPacketSend port s
  | .wakeSend rq data => Sys2Proof.Machine.execWakeSend rq data s
  | .wakePatternEnd port => Sys2Proof.Machine.execWakePatternEnd port s
  | .trafficCountersClear rq data => Sys2Proof.Machine.execTrafficCountersClear rq data s
  | .memStart rq data => Sys2Proof.Machine.execMemStart rq data s
  | .memStartComplete density0 density1 trained => Sys2Proof.Machine.execMemStartComplete density0 density1 trained s
  | .scrubStep corrected uncorrectable newer => Sys2Proof.Machine.execScrubStep corrected uncorrectable newer s
  | .ringCreate rq data => Sys2Proof.Machine.execRingCreate rq data s
  | .ringDestroy rq data => Sys2Proof.Machine.execRingDestroy rq data s
  | .ringHalt rq data => Sys2Proof.Machine.execRingHalt rq data s
  | .ringResume rq data => Sys2Proof.Machine.execRingResume rq data s
  | .ringTailWrite rq ring data => Sys2Proof.Machine.execRingTailWrite rq ring data s
  | .ringFifoWrite rq ring data => Sys2Proof.Machine.execRingFifoWrite rq ring data s
  | .ringFifoRead rq ring => Sys2Proof.Machine.execRingFifoRead rq ring s
  | .regionEntryWrite rq data => Sys2Proof.Machine.execRegionEntryWrite rq data s
  | .descriptorFetch ring trouble writeBack => Sys2Proof.Machine.execDescriptorFetch ring trouble writeBack s
  | .burstIssue device => Sys2Proof.Machine.execBurstIssue device s
  | .burstComplete ring trouble writeBack => Sys2Proof.Machine.execBurstComplete ring trouble writeBack s
  | .memResponseTimeout ring writeBack => Sys2Proof.Machine.execMemResponseTimeout ring writeBack s
  | .fifoTimeout ring writeBack => Sys2Proof.Machine.execFifoTimeout ring writeBack s
  | .memCountersClear rq data => Sys2Proof.Machine.execMemCountersClear rq data s
  | .safetyInputRecognised channel pin level => Sys2Proof.Machine.execSafetyInputRecognised channel pin level s
  | .discrepancyTimeout channel input => Sys2Proof.Machine.execDiscrepancyTimeout channel input s
  | .beaconPatrol => Sys2Proof.Machine.execBeaconPatrol s
  | .beaconPatrolComplete corrected uncorrectable => Sys2Proof.Machine.execBeaconPatrolComplete corrected uncorrectable s
  | .evacImageSave rq data => Sys2Proof.Machine.execEvacImageSave rq data s
  | .watchdogTimeout => Sys2Proof.Machine.execWatchdogTimeout s
  | .millbrakeStatusRead answered => Sys2Proof.Machine.execMillbrakeStatusRead answered s
  | .millbrakeCycle => Sys2Proof.Machine.execMillbrakeCycle s
  | .safetyTripClear rq data => Sys2Proof.Machine.execSafetyTripClear rq data s
  | .ambientLuxWrite rq data => Sys2Proof.Machine.execAmbientLuxWrite rq data s
  | .ambientTimeout => Sys2Proof.Machine.execAmbientTimeout s
  | .outputTestPulseStart channel => Sys2Proof.Machine.execOutputTestPulseStart channel s
  | .outputTestPulseEnd channel feedback => Sys2Proof.Machine.execOutputTestPulseEnd channel feedback s
  | .outputTestReadback channel feedback => Sys2Proof.Machine.execOutputTestReadback channel feedback s
  | .railfbMismatch channel => Sys2Proof.Machine.execRailfbMismatch channel s
  | .outputTestOverdue channel => Sys2Proof.Machine.execOutputTestOverdue channel s
  | .faultSourceRise source => Sys2Proof.Machine.execFaultSourceRise source s
  | .pairDiscrepantConfirm source => Sys2Proof.Machine.execPairDiscrepantConfirm source s
  | .faultPulseEnd source => Sys2Proof.Machine.execFaultPulseEnd source s
  | .faultClear rq data => Sys2Proof.Machine.execFaultClear rq data s
  | .faultForceWrite rq data => Sys2Proof.Machine.execFaultForceWrite rq data s
  | .faultReactionWrite rq data => Sys2Proof.Machine.execFaultReactionWrite rq data s
  | .faultCountersClear rq data => Sys2Proof.Machine.execFaultCountersClear rq data s
  | .freezePin => Sys2Proof.Machine.execFreezePin s
  | .jtagFreeze => Sys2Proof.Machine.execJtagFreeze s
  | .jtagFrzRead => Sys2Proof.Machine.execJtagFrzRead s
  | .jtagKeysClear => Sys2Proof.Machine.execJtagKeysClear s
  | .jtagExtest => Sys2Proof.Machine.execJtagExtest s
  | .jtagSamplePreload => Sys2Proof.Machine.execJtagSamplePreload s
  | .jtagIdcode => Sys2Proof.Machine.execJtagIdcode s
  | .jtagBypass opcode => Sys2Proof.Machine.execJtagBypass opcode s
  | .jtagTapReset => Sys2Proof.Machine.execJtagTapReset s
  | .perfLevelWrite rq data => Sys2Proof.Machine.execPerfLevelWrite rq data s
  | .avsAcknowledge => Sys2Proof.Machine.execAvsAcknowledge s
  | .avsTimeout coreMillivolts => Sys2Proof.Machine.execAvsTimeout coreMillivolts s
  | .hkSample value => Sys2Proof.Machine.execHkSample value s
  | .orderlyStopEnd => Sys2Proof.Machine.execOrderlyStopEnd s
  | .thermalClear rq data => Sys2Proof.Machine.execThermalClear rq data s
  | .hoverHoldEnd => Sys2Proof.Machine.execHoverHoldEnd s
  | .marginPlan => Sys2Proof.Machine.execMarginPlan s
  | .sleepEnterS1 rq => Sys2Proof.Machine.execSleepEnterS1 rq s
  | .sleepEnterS2 rq => Sys2Proof.Machine.execSleepEnterS2 rq s
  | .sleepEnterS3 rq => Sys2Proof.Machine.execSleepEnterS3 rq s
  | .sleepExitS1 rq => Sys2Proof.Machine.execSleepExitS1 rq s
  | .sleepEntryComplete => Sys2Proof.Machine.execSleepEntryComplete s
  | .wakeNLow => Sys2Proof.Machine.execWakeNLow s
  | .evacPinWake channel => Sys2Proof.Machine.execEvacPinWake channel s
  | .safeBlankPinWake channel released => Sys2Proof.Machine.execSafeBlankPinWake channel released s
  | .wakePatternDetect port lengths => Sys2Proof.Machine.execWakePatternDetect port lengths s
  | .linkActivityDetect port periods => Sys2Proof.Machine.execLinkActivityDetect port periods s
  | .t1sActivityDetect => Sys2Proof.Machine.execT1sActivityDetect s
  | .wakeTimerExpiry => Sys2Proof.Machine.execWakeTimerExpiry s
  | .sleepExit image => Sys2Proof.Machine.execSleepExit image s
  | .coreSupplyInWindow => Sys2Proof.Machine.execCoreSupplyInWindow s
  | .firmwareRunning => Sys2Proof.Machine.execFirmwareRunning s
  | .powerOnResetRelease => Sys2Proof.Machine.execPowerOnResetRelease s
  | .xtal32Start straps => Sys2Proof.Machine.execXtal32Start straps s
  | .xtal32StartTimeout straps => Sys2Proof.Machine.execXtal32StartTimeout straps s
  | .resetNLow nanoseconds => Sys2Proof.Machine.execResetNLow nanoseconds s
  | .resetNRelease straps => Sys2Proof.Machine.execResetNRelease straps s
  | .resetHoldLong milliseconds => Sys2Proof.Machine.execResetHoldLong milliseconds s
  | .coreBrownOut => Sys2Proof.Machine.execCoreBrownOut s
  | .coreSupplyRestored => Sys2Proof.Machine.execCoreSupplyRestored s
  | .fwUpdateBegin rq data => Sys2Proof.Machine.execFwUpdateBegin rq data s
  | .fwImage rq seg data => Sys2Proof.Machine.execFwImage rq seg data s
  | .fwUpdateVerify rq data => Sys2Proof.Machine.execFwUpdateVerify rq data s
  | .fwActivateNextReset rq => Sys2Proof.Machine.execFwActivateNextReset rq s
  | .fwActivateNow rq => Sys2Proof.Machine.execFwActivateNow rq s
  | .fwConfirm rq data => Sys2Proof.Machine.execFwConfirm rq data s
  | .fwRollbackCommit rq data => Sys2Proof.Machine.execFwRollbackCommit rq data s
  | .fwKeyRevoke rq data => Sys2Proof.Machine.execFwKeyRevoke rq data s
  | .calFlashSave rq data => Sys2Proof.Machine.execCalFlashSave rq data s
  | .calFlashLoad rq data => Sys2Proof.Machine.execCalFlashLoad rq data s
  | .calFlashComplete ok => Sys2Proof.Machine.execCalFlashComplete ok s
  | .faultLogWrite rq data => Sys2Proof.Machine.execFaultLogWrite rq data s
  | .powerOnReset => Sys2Proof.Machine.execPowerOnReset s
  | .prbsCheckerLock port lane inverted => Sys2Proof.Machine.execPrbsCheckerLock port lane inverted s
  | .upstreamCommaAlignment band => Sys2Proof.Machine.execUpstreamCommaAlignment band s
  | .watchdogPairInversion corrected => Sys2Proof.Machine.execWatchdogPairInversion corrected s
  | .pairDiscrepancyEnd source => Sys2Proof.Machine.execPairDiscrepancyEnd source s
  | .pllUnlock island => Sys2Proof.Machine.execPllUnlock island s
  | .pllRelock island => Sys2Proof.Machine.execPllRelock island s
  | .coxMachineCheck offset => Sys2Proof.Machine.execCoxMachineCheck offset s
  | .arpRequestRx target senderMac senderIp => Sys2Proof.Machine.execArpRequestRx target senderMac senderIp s
  | .icmpEchoRequestRx target senderIp payload => Sys2Proof.Machine.execIcmpEchoRequestRx target senderIp payload s
  | .ptpDelayReqSend => Sys2Proof.Machine.execPtpDelayReqSend s

end Sys2Proof.Machine
end

