-- ==== Sys2Proof/Machine/Step.lean ====
section
/-! DEFINITION. The step of the block: the command at the front of the queue, or one tick on an empty queue. -/

namespace Sys2Proof.Machine

/-- What a step does on an empty queue (assumption log 2): a device that is frozen, or undefined after EXTEST, stands;
from the latch at a sleep to the advance at its wake the ledger counts an XTAL32 edge; an exit from S2 or S3 that is due is
completed; otherwise TIME ticks. -/
def idle (s : State) : State :=
  if s.device.frozen || s.device.extest then s
  else if s.time.snapshot.isSome then settle (sleepEdge s)
  else if s.exitDue then settle (finishExit s)
  else if s.runs 5 then settle (timeTick s)
  else s

/-- One step: take the command at the front and run it on the state with the rest of the queue. -/
def step (s : State) : Host.Outcome State Fault Refusal :=
  match s.pending with
  | [] => .next (idle s)
  | c :: rest => exec c { s with pending := rest }

/-- `s` with the command that a word of the table spells at the front of its queue; no row of the table gives bits. -/
def State.withFetchWord (s : State) (nbits w : Nat) : State :=
  match decodeTableWord nbits w with
  | some c => { s with pending := c :: s.pending }
  | none => s

end Sys2Proof.Machine
end

