-- ==== Sys2Proof/Safety.lean ====
section
/-! DEFINITION. What counts as a safe run, and the terms in which statements about the block are made: canonical
memories, a request that nothing turns away, and an answer. -/

namespace Sys2Proof.Machine

/-! ### Runs -/

/-- The functional state is defined: no EXTEST since the last release of RESET_N (16 R402). -/
def State.defined (s : State) : Bool := !s.device.extest

/-- A step is safe when it ends in a next state: no fault, no refusal. -/
def State.safe (s : State) : Prop := ∃ t, step s = .next t

/-- Both safety outputs are low (12 R292). -/
def State.outputsLow (s : State) : Bool := !s.safety.chanA.railen && !s.safety.chanB.railen

/-! ### Canonical memories -/

/-- The addressed memories are in canonical form: LPDDR5, the staging SRAM, the beacon store and the boot flash. -/
def Memory.wf (s : State) : Bool :=
  Sparse.wf ramDefault s.mem && Sparse.wf ramDefault s.staging && Sparse.wf ramDefault s.beacon &&
  Sparse.wf flashDefault s.flash

/-- Objects and tables in force are in canonical form. -/
def Registers.wf (s : State) : Bool := Sparse.wf regDefault s.regs && Sparse.wf domDefault s.tabs

/-! ### Frames -/

/-- The agent without its answers and its counts of key rejections. -/
def CopState.quiet (x : CopState) : CopState := { x with responses := [], keyFails := [] }

/-- The parts of the state that a frame names: `answer` is what answering a request touches (the kept responses, the
packets of the device's own and the counts of key rejections), `cop` and `traffic` the rest of theirs; `crossing` is
the handshakes of the crossings and `device` the rest of the device; `clock` is the count of ticks and `free` that of free
values drawn. -/
inductive Part where
  | regs | tabs | mem | staging | beacon | flash | device | cop | answer | fault | live | time | pipe | layers | scan | diag
  | rails | link | traffic | memory | safety | power | out | clock | free | crossing
  deriving DecidableEq, Repr

/-- A part is the same in `t` as in `s`: the memories byte by byte, the live bits but for those whose source no longer
reports (13 R326). -/
def State.same (s t : State) : Part → Prop
  | .regs => ∀ o i, i < 65536 → t.regAt o i = s.regAt o i
  | .tabs => ∀ o j, j < 131072 → t.tabByte o j = s.tabByte o j
  | .mem => ∀ a, Sparse.get ramDefault t.mem a = Sparse.get ramDefault s.mem a
  | .staging => ∀ a, Sparse.get ramDefault t.staging a = Sparse.get ramDefault s.staging a
  | .beacon => ∀ a, Sparse.get ramDefault t.beacon a = Sparse.get ramDefault s.beacon a
  | .flash => ∀ a, Sparse.get flashDefault t.flash a = Sparse.get flashDefault s.flash a
  | .device => { t.device with crossings := [] } = { s.device with crossings := [] }
  | .cop => t.cop.quiet = s.cop.quiet
  | .answer =>
    t.cop.responses = s.cop.responses ∧ t.cop.keyFails = s.cop.keyFails ∧ t.traffic.queue = s.traffic.queue
  | .fault => { t.fault with live := [] } = { s.fault with live := [] }
  | .live => t.fault.live = s.fault.live.filter t.reporting
  | .time => t.time = s.time
  | .pipe => t.pipe = s.pipe
  | .layers => t.layers = s.layers
  | .scan => t.scan = s.scan
  | .diag => t.diag = s.diag
  | .rails => t.rails = s.rails
  | .link => t.link = s.link
  | .traffic => { t.traffic with queue := [] } = { s.traffic with queue := [] }
  | .memory => t.memory = s.memory
  | .safety => t.safety = s.safety
  | .power => t.power = s.power
  | .out => t.out = s.out
  | .clock => t.ticks = s.ticks
  | .free => t.freeCtr = s.freeCtr
  | .crossing => ∀ h, t.crossing h = s.crossing h

/-- The frame of a command: the queue of waiting commands is the same, and so is every part that `parts` does not name;
of the objects only those of `objs` may change, of the tables only those of `tables`. -/
def State.frame (s t : State) (parts : List Part) (objs tables : List Nat) : Prop :=
  t.pending = s.pending ∧ (∀ p, p ∉ .regs :: .tabs :: parts → s.same t p) ∧
  (∀ o i, .regs ∉ parts → o ∉ objs → i < 65536 → t.regAt o i = s.regAt o i) ∧
  (∀ o j, .tabs ∉ parts → o ∉ tables → j < 131072 → t.tabByte o j = s.tabByte o j)

/-- The frame of an admitted host request: COP_REQUESTS counts it, its answer leaves (15 R377, R368), and of the crossings
only H09 has carried it (02 R42). -/
def State.hostFrame (s t : State) (parts : List Part) (objs tables : List Nat) : Prop :=
  s.frame t (.answer :: .out :: .crossing :: parts) (Obj.COP_REQUESTS :: objs) tables ∧
  (.crossing ∉ parts → ∀ h, h ≠ 9 → t.crossing h = s.crossing h) ∧
  (.regs ∉ parts → Obj.COP_REQUESTS ∉ objs → t.reg Obj.COP_REQUESTS = (s.reg Obj.COP_REQUESTS + 1) % 2 ^ 32)

/-! ### Requests -/

/-- The request that a host command brings to the object agent; none for an event. -/
def requestOf : Instr → Option Request
  | .copRead rq index sub offset snapshot => some
    { rq := rq, opcode := 1, obj := index * 256 + sub, seg := { isFirst := false, isLast := false, offset := offset }
      snapshot := snapshot, data := [] }
  | .copWrite rq index sub seg data => some
    { rq := rq, opcode := 2, obj := index * 256 + sub, seg := seg, snapshot := false, data := data }
  | .copStage rq index sub seg data => some
    { rq := rq, opcode := 3, obj := index * 256 + sub, seg := seg, snapshot := false, data := data }
  | .copCommit rq notBefore => some (bareRequest rq 4 (notBeforeBytes notBefore))
  | .copAbandon rq => some (bareRequest rq 5 [])
  | .keyWrite rq role data => some (wholeWrite rq (0x111000 + clampN 1 3 role) data)
  | .t1sConfigWrite rq sub data => some (wholeWrite rq (0x112000 + sub % 256) data)
  | .sramCountersClear rq data => some (wholeWrite rq Obj.SRAM_COUNTERS_CLEAR data)
  | .ingestProfileWrite rq profile sub data => some (wholeWrite rq ((0x3010 + profile) * 256 + sub) data)
  | .targetPrimariesWrite rq data => some (wholeWrite rq Obj.TARGET_PRIMARIES data)
  | .thermalReset rq data => some (wholeWrite rq Obj.THERMAL_RESET data)
  | .pipelineCountersClear rq data => some (wholeWrite rq Obj.PIPELINE_COUNTERS_CLEAR data)
  | .xMapFill rq data => some (wholeWrite rq Obj.X_MAP_FILL data)
  | .layerCreate rq data => some (wholeWrite rq Obj.LAYER_CREATE data)
  | .layerDestroy rq data => some (wholeWrite rq Obj.LAYER_DESTROY data)
  | .layerSubmit rq data => some (wholeWrite rq Obj.LAYER_SUBMIT data)
  | .fenceSignal rq data => some (wholeWrite rq Obj.FENCE_SIGNAL data)
  | .l7Arm rq data => some (wholeWrite rq Obj.L7_ARM data)
  | .l7Disarm rq data => some (wholeWrite rq Obj.L7_DISARM data)
  | .layerCountersClear rq data => some (wholeWrite rq Obj.LAYER_COUNTERS_CLEAR data)
  | .scanStart rq data => some (wholeWrite rq Obj.SCAN_START data)
  | .scanStop rq data => some (wholeWrite rq Obj.SCAN_STOP data)
  | .scanCountersClear rq data => some (wholeWrite rq Obj.SCAN_COUNTERS_CLEAR data)
  | .defectAdd rq data => some (wholeWrite rq Obj.DEFECT_ADD data)
  | .defectClear rq data => some (wholeWrite rq Obj.DEFECT_CLEAR data)
  | .defectClearAll rq data => some (wholeWrite rq Obj.DEFECT_CLEAR_ALL data)
  | .defectTableWrite rq data => some (wholeWrite rq Obj.DEFECT_TABLE data)
  | .vfRefReset rq data => some (wholeWrite rq Obj.VF_REF_RESET data)
  | .railStart rq data => some (wholeWrite rq Obj.RAIL_START data)
  | .railStop rq data => some (wholeWrite rq Obj.RAIL_STOP data)
  | .railClear rq data => some (wholeWrite rq Obj.RAIL_CLEAR data)
  | .coefCommit rq data => some (wholeWrite rq Obj.COEF_COMMIT data)
  | .railModeWrite rq rail data => some (wholeWrite rq (Obj.RAIL_MODE rail) data)
  | .adcTrimsWrite rq data => some (wholeWrite rq Obj.ADC_TRIMS data)
  | .railCountersClear rq data => some (wholeWrite rq Obj.RAIL_COUNTERS_CLEAR data)
  | .ptpTxqPop rq => some (wholeRead rq Obj.PTP_TXQ_POP)
  | .domSet rq dom data => some (wholeWrite rq (Obj.DOM_SET (domIx dom)) data)
  | .domAdjust rq dom data => some (wholeWrite rq (Obj.DOM_ADJUST (domIx dom)) data)
  | .domSourceWrite rq dom data => some (wholeWrite rq (Obj.DOM_SOURCE (domIx dom)) data)
  | .activeDomainWrite rq data => some (wholeWrite rq Obj.ACTIVE_DOMAIN data)
  | .timeCountersClear rq data => some (wholeWrite rq Obj.TIME_COUNTERS_CLEAR data)
  | .linkPortEnableWrite rq data => some (wholeWrite rq Obj.LINK_PORT_ENABLE data)
  | .linkRetrain rq data => some (wholeWrite rq Obj.LINK_RETRAIN data)
  | .portTestEnter rq port data => some (wholeWrite rq (Obj.PORT_TEST_MODE (portIx port)) data)
  | .portTestExit rq port data => some (wholeWrite rq (Obj.PORT_TEST_MODE (portIx port)) data)
  | .linkCountersClear rq data => some (wholeWrite rq Obj.LINK_COUNTERS_CLEAR data)
  | .wakeSend rq data => some (wholeWrite rq Obj.WAKE_SEND data)
  | .trafficCountersClear rq data => some (wholeWrite rq Obj.TRAFFIC_COUNTERS_CLEAR data)
  | .memStart rq data => some (wholeWrite rq Obj.MEM_START data)
  | .ringCreate rq data => some (wholeWrite rq Obj.RING_CREATE data)
  | .ringDestroy rq data => some (wholeWrite rq Obj.RING_DESTROY data)
  | .ringHalt rq data => some (wholeWrite rq Obj.RING_HALT data)
  | .ringResume rq data => some (wholeWrite rq Obj.RING_RESUME data)
  | .ringTailWrite rq ring data => some (wholeWrite rq (Obj.RING_TAIL ring) data)
  | .ringFifoWrite rq ring data => some (wholeWrite rq (Obj.RING_FIFO ring) data)
  | .ringFifoRead rq ring => some (wholeRead rq (Obj.RING_FIFO ring))
  | .regionEntryWrite rq data => some (wholeWrite rq Obj.REGION_ENTRY data)
  | .memCountersClear rq data => some (wholeWrite rq Obj.MEM_COUNTERS_CLEAR data)
  | .evacImageSave rq data => some (wholeWrite rq Obj.EVAC_IMAGE_SAVE data)
  | .safetyTripClear rq data => some (wholeWrite rq Obj.SAFETY_TRIP_CLEAR data)
  | .ambientLuxWrite rq data => some (wholeWrite rq Obj.AMBIENT_LUX data)
  | .faultClear rq data => some (wholeWrite rq Obj.FAULT_CLEAR data)
  | .faultForceWrite rq data => some (wholeWrite rq Obj.FAULT_FORCE data)
  | .faultReactionWrite rq data => some (wholeWrite rq Obj.FAULT_REACTION data)
  | .faultCountersClear rq data => some (wholeWrite rq Obj.FAULT_COUNTERS_CLEAR data)
  | .perfLevelWrite rq data => some (wholeWrite rq Obj.PERF_LEVEL data)
  | .thermalClear rq data => some (wholeWrite rq Obj.THERMAL_CLEAR data)
  | .sleepEnterS1 rq => some (wholeWrite rq Obj.SLEEP_REQUEST (natLE 1 1))
  | .sleepEnterS2 rq => some (wholeWrite rq Obj.SLEEP_REQUEST (natLE 1 2))
  | .sleepEnterS3 rq => some (wholeWrite rq Obj.SLEEP_REQUEST (natLE 1 3))
  | .sleepExitS1 rq => some (wholeWrite rq Obj.SLEEP_REQUEST (natLE 1 0))
  | .fwUpdateBegin rq data => some (wholeWrite rq Obj.FW_UPDATE_BEGIN data)
  | .fwImage rq seg data => some { wholeWrite rq Obj.FW_IMAGE data with seg := seg }
  | .fwUpdateVerify rq data => some (wholeWrite rq Obj.FW_UPDATE_VERIFY data)
  | .fwActivateNextReset rq => some (wholeWrite rq Obj.FW_ACTIVATE (natLE 1 1))
  | .fwActivateNow rq => some (wholeWrite rq Obj.FW_ACTIVATE (natLE 1 2))
  | .fwConfirm rq data => some (wholeWrite rq Obj.FW_CONFIRM data)
  | .fwRollbackCommit rq data => some (wholeWrite rq Obj.FW_ROLLBACK_COMMIT data)
  | .fwKeyRevoke rq data => some (wholeWrite rq Obj.FW_KEY_REVOKE data)
  | .calFlashSave rq data => some (wholeWrite rq Obj.CAL_FLASH_SAVE data)
  | .calFlashLoad rq data => some (wholeWrite rq Obj.CAL_FLASH_LOAD data)
  | .faultLogWrite rq data => some (wholeWrite rq Obj.FAULT_LOG_WRITE data)
  | _ => none

/-- The object agent hears a request and executes it at once: the functional state is defined, the agent runs and no
request is held before it, the message is no repeat (15 R369) and its key is right (R366). -/
def State.hears (s : State) (q : Request) : Bool :=
  s.defined && s.agentRuns q.rq.via && (s.record q).isNone && s.keyOk q.rq && s.cop.held.isEmpty

/-- The data of a WRITE or STAGE come whole: the object's writes have no segments, or this one is the first and the last,
at offset 0, of at most 65 536 bytes, and finds assembly space with no transfer of its requester in progress (R371, R372). -/
def State.comesWhole (s : State) (r : ObjRow) (q : Request) : Bool :=
  !segmented r q.obj ||
    (q.seg.isFirst && q.seg.isLast && q.seg.offset == 0 && decide (q.data.length ≤ 65536) && s.hasSpace q.rq.who &&
      s.cop.assemblies.all fun a => a.who != q.rq.who)

/-- Nothing turns the WRITE away before its object acts: the agent hears it, the object exists (R11), the role may write
it and the RWS condition and the length are in order (R365), its island runs (02 R45), and its data come whole. -/
def State.admits (s : State) (q : Request) : Bool :=
  s.hears q &&
  match s.findObj q.obj with
  | none => false
  | some r =>
    s.writeAbort r q.obj q.rq.role == 0 && s.reach r q.obj == .ready && !s.barred r q.obj &&
    lengthOk r q.data.length && s.comesWhole r q

/-- Nothing turns the READ away: the agent hears it, the object exists and may be read, its island runs. -/
def State.admitsRead (s : State) (q : Request) : Bool :=
  s.hears q &&
  match s.findObj q.obj with
  | none => false
  | some r => readRight r == 0 && s.reach r q.obj == .ready

/-- An event of island `i` may occur: the functional state is defined, the device is not frozen, the island runs. -/
def State.acts (s : State) (i : Nat) : Bool := s.defined && s.alive i

/-- A host write of `obj` that nothing turns away. -/
def State.admitsWrite (s : State) (rq : Req) (obj : Nat) (data : Bytes) : Bool := s.admits (wholeWrite rq obj data)

/-- The state after the agent has taken a request past its key: it is counted, and the rejections of its role start
again (R366, R377). -/
def State.taken (s : State) (q : Request) : State :=
  if q.rq.role = 0 then s.bump Obj.COP_REQUESTS else (s.bump Obj.COP_REQUESTS).setKeyFail q.rq.role 0

/-- The state in which a request finds its object: the request is counted, and its access has come through H09. -/
def State.asked (s : State) (q : Request) : State := (s.taken q).accessed q.obj

/-- The newest answer kept is one to the request `rq`, with an abort code, 0 for success (R368, R369). -/
def State.answered (s : State) (rq : Req) (abort : Nat) : Bool :=
  s.cop.responses.head?.any fun r => r.who == rq.who && r.tid == rq.tid && r.abort == abort

/-- The data of the newest answer kept. -/
def State.answerData (s : State) : Bytes := (s.cop.responses.head?.map (·.data)).getD []

/-- The agent without its answers, its flash operation and its verified slot. -/
def CopState.withoutJob (x : CopState) : CopState :=
  { x with responses := [], keyFails := [], flashJob := none, verified := none }

/-- What a host command that starts a flash operation on an area ending at `last` leaves (15 R378): in a flash that
ends before, "flash failed" and nothing else; otherwise the operation in progress with the request it answers, if any,
and FLASH_STATE busy. -/
def State.startsJob (s t : State) (rq : Req) (last : Nat) (work : FlashWork) (answer : Option Request)
    (objs tables : List Nat) : Prop :=
  if Config.flashSize < last then
    t.answered rq abortFlash = true ∧ s.hostFrame t [.cop] [Obj.COP_ABORTS, Obj.COP_LAST_ABORT] [] ∧
      t.cop.withoutJob = s.cop.withoutJob
  else
    t.cop.flashJob = some { work := work, answer := answer } ∧ t.reg Obj.FLASH_STATE = 1 ∧
      (answer = none → t.answered rq 0 = true) ∧ (answer ≠ none → t.cop.responses = s.cop.responses) ∧
      s.hostFrame t [.cop] (Obj.FLASH_STATE :: objs) tables ∧ t.cop.withoutJob = s.cop.withoutJob

/-- The flash operation of which `answer` is the request to answer has ended, `ok` or failed (15 R378): the request is
answered with `abort`, and an operation that it pre-empted goes on, or FLASH_STATE tells the outcome. -/
def State.jobEnded (s t : State) (answer : Option Request) (ok : Bool) (abort : Nat) : Prop :=
  t.cop.flashJob = s.cop.flashPaused.head? ∧ t.cop.flashPaused = s.cop.flashPaused.tail ∧
    (s.cop.flashPaused = [] → t.reg Obj.FLASH_STATE = if ok then 0 else 2) ∧
    answer.all (fun q => t.answered q.rq abort) = true ∧ (answer = none → t.cop.responses = s.cop.responses)

/-- A host write that nothing turns away before its object aborts it with `code`: nothing but the answer and its counts
changes (15 R377). -/
def State.turnsAway (s t : State) (rq : Req) (code : Nat) : Prop :=
  t.answered rq code = true ∧ s.hostFrame t [] [Obj.COP_ABORTS, Obj.COP_LAST_ABORT] []

/-- Of the rails and the control engine only rail `n` may change. -/
def State.onlyRail (s t : State) (n : Nat) : Prop :=
  (∀ k, k ≠ n → t.rail k = s.rail k) ∧ t.rails = { s.rails with rails := t.rails.rails }

/-- Of the rails and the control engine only rail `n` and the lane of its job `j` may change. -/
def State.onlyJob (s t : State) (n : Nat) (j : Job) : Prop :=
  (∀ k, k ≠ n → t.rail k = s.rail k) ∧ (∀ l, l ≠ s.laneOf (Machine.slotOf n j) → t.lane l = s.lane l) ∧
    t.rails = { s.rails with rails := t.rails.rails, lanes := t.rails.lanes }

/-- The bytes of ADC_TRIMS other than those of ADC `a` are the same. -/
def State.otherTrims (s t : State) (a : Nat) : Prop :=
  ∀ j, j < 131072 → j / 4 ≠ a → t.tabByte Obj.ADC_TRIMS j = s.tabByte Obj.ADC_TRIMS j

/-- Rail `n` goes to FAULT_OFF with `cause`, and nothing else changes (07 R195 to R199). -/
def State.goesFaultOff (s t : State) (n cause : Nat) : Prop :=
  t.rail n = (s.rail n).stop .faultOff ∧ t.reg (Obj.RAIL_FAULT_CAUSE n) = cause ∧ s.onlyRail t n ∧
    s.frame t [.rails] [Obj.RAIL_FAULT_CAUSE n] []

/-- Objects that a port going down may change (09 R239, 10 R264, R265). -/
def portDownObjs (p : Port) : List Nat :=
  [Obj.PORT_STATE (portIx p), Obj.PORT_DOWN_CAUSE (portIx p), Obj.PORT_DOWN_COUNT (portIx p), Obj.PORT_LAST_DOWN (portIx p),
    Obj.LINK_DELAY_A, Obj.LINK_DELAY_B, Obj.PKT_LOCAL_DROPS (portIx p), Obj.SOURCE_PORT, Obj.FAILOVERS, Obj.EVENT_SEQUENCE,
    Obj.EVENTS_DROPPED] ++ repeated 7 [Obj.LAYER_DISCARDED 0]

/-- Objects of the codewords of a port (09 R240, 10 R249). -/
def codewordObjs (p : Port) : List Nat :=
  [Obj.FEC_CODEWORDS (portIx p), Obj.FEC_CORRECTED_CW (portIx p), Obj.FEC_UNCORRECTABLE (portIx p),
    Obj.FEC_SYMBOLS_CORRECTED (portIx p)]

/-- The parts that a port going down may change. -/
def portDownParts : List Part := [.link, .time, .fault, .answer, .traffic, .layers]

/-- Port `p` has gone down from UP with `cause` for the state `next` (09 R238, R239): its cause, count and time stamp, its
fault source, no delay measured, and no packet waiting for it. The cause is the lowest-numbered of those that hold. -/
def State.portDown (s t : State) (p : Port) (cause next : Nat) : Prop :=
  t.portState p = next ∧ t.reg (Obj.PORT_DOWN_CAUSE (portIx p)) = s.downCause p cause ∧
    t.reg (Obj.PORT_DOWN_COUNT (portIx p)) = (s.reg (Obj.PORT_DOWN_COUNT (portIx p)) + 1) % 2 ^ 32 ∧
    t.reg (Obj.PORT_LAST_DOWN (portIx p)) = s.stampA ∧ 0 < Sparse.get (fun _ => 0) t.fault.waiting (60 + portIx p) ∧
    (t.delayOf p).sampled = false ∧ (t.delayOf p).waiting = none ∧ (∀ x ∈ t.traffic.queue, x.port ≠ p)

/-- Training of port `p` has failed with `cause`: HOLDOFF, its training state fresh, and nothing else changes (09 R234). -/
def State.trainFailed (s t : State) (p : Port) (cause : Nat) : Prop :=
  t.portState p = 8 ∧ t.reg (Obj.PORT_DOWN_CAUSE (portIx p)) = cause ∧ t.portLink p = (s.portLink p).fresh ∧
    t.portLink (otherPort p) = s.portLink (otherPort p) ∧
    s.frame t [.link] [Obj.PORT_STATE (portIx p), Obj.PORT_DOWN_CAUSE (portIx p)] []

/-- A packet of kind `kind` that arrives sound on a port that is UP and is addressed to the device (10 R248, R250). -/
def State.takes (s : State) (p : Port) (k : Packet) (kind : Nat) : Bool :=
  s.up p && s.arrived p == some k && k.kind == kind && k.bodyOk && k.marked == 0 && s.addressed k.dest

/-- Objects that count what the reads of a device engine find: translation faults and uncorrectable words (11 R269, R272, 02
R49). -/
def readObjs : List Nat :=
  [Obj.TRANSLATION_FAULTS, Obj.LAST_FAULT_ADDR, Obj.MEM_UNCORRECTED, Obj.MEM_LAST_UE_ADDR, Obj.SRAM_UNCORRECTED,
    Obj.SRAM_LAST_OFFSET]

/-- Objects that count local packets which leave (10 R252, R257, 04 R120). -/
def sentObjs : List Nat := [Obj.PKT_LOCAL_SENT 0, Obj.PKT_LOCAL_SENT 1, Obj.EVENTS_SENT, Obj.ECHO_FRAMES_SENT]

/-- Objects that the arrival and forwarding of a packet may change (10 R248, R251): blocks move through the other port's
delay line, out of which local packets leave. -/
def arrivalObjs (p : Port) : List Nat :=
  [Obj.PKT_RX (portIx p), Obj.PKT_TAKEN (portIx p), Obj.PKT_FORWARDED (portIx p), Obj.PKT_FORWARD_DROPS (portIx p),
    Obj.PKT_DISCARDED (portIx p), Obj.PKT_POISON_SENT (portIx p)] ++ sentObjs

/-- The parts that the arrival and forwarding of a packet may change; of the layers only the echo frame being sent. -/
def arrivalParts : List Part := [.link, .out, .layers]

/-- Blocks have gone into the delay line of port `q`, and as many have left it (10 R251). -/
def State.passedOn (s t : State) (q : Port) (blocks : List Block) : Prop :=
  (t.stream q).line.map (·.block) = ((s.stream q).line.map (·.block) ++ blocks).drop blocks.length

/-- The packet `k`, whole and sound and in front of port `p`, has been dealt with (10 R248, R250, R251): its blocks are off
the blocks received, it is counted, and forwarded, dropped or removed as its address and HOPS say. -/
def State.arrives (s t : State) (p : Port) (k : Packet) : Prop :=
  (t.stream p).rx = (s.front p).rest ∧
    t.reg (Obj.PKT_RX (portIx p)) = (s.reg (Obj.PKT_RX (portIx p)) + 1) % 2 ^ 64 ∧
    t.reg (Obj.PKT_DISCARDED (portIx p)) = s.reg (Obj.PKT_DISCARDED (portIx p)) ∧
    t.reg (Obj.PKT_FORWARDED (portIx p)) =
      (if s.removes k = false ∧ k.hops < 64 ∧ s.up (otherPort p) = true then (s.reg (Obj.PKT_FORWARDED (portIx p)) + 1) % 2 ^ 64
       else s.reg (Obj.PKT_FORWARDED (portIx p))) ∧
    t.reg (Obj.PKT_FORWARD_DROPS (portIx p)) =
      (if s.removes k = false ∧ (64 ≤ k.hops ∨ s.up (otherPort p) = false) then
         (s.reg (Obj.PKT_FORWARD_DROPS (portIx p)) + 1) % 2 ^ 64
       else s.reg (Obj.PKT_FORWARD_DROPS (portIx p)))

/-- What has gone out of the other port in place of the packet `k` in front of port `p`, sent on as `sent`. -/
def State.passesOn (s t : State) (p : Port) (k sent : Packet) : Prop :=
  s.up (otherPort p) = true →
    s.passedOn t (otherPort p) (idles (s.front p).idles ++
      (if s.removes sent = false ∧ k.hops < 64 then
        ({ sent with hops := k.hops + 1 } : Packet).header k.payload.length :: ((s.front p).blocks.drop 1).map RxBlock.sent
       else idles (s.front p).blocks.length))

/-- What the packet layer does with a packet that something spoilt: its blocks are off the blocks received, `blocks` have
gone out of the other port in their place, and the counters say so (10 R248, R251). -/
def State.spoilt (s t : State) (p : Port) (blocks : List Block) (discarded poisoned : Nat) : Prop :=
  (t.stream p).rx = (s.front p).rest ∧
    (s.up (otherPort p) = true → s.passedOn t (otherPort p) (idles (s.front p).idles ++ blocks)) ∧
    t.reg (Obj.PKT_DISCARDED (portIx p)) =
      (if discarded = 0 then s.reg (Obj.PKT_DISCARDED (portIx p))
       else (s.reg (Obj.PKT_DISCARDED (portIx p)) + 1) % 2 ^ 32) ∧
    (s.up (otherPort p) = true → poisoned ≠ 0 →
      t.reg (Obj.PKT_POISON_SENT (portIx p)) = (s.reg (Obj.PKT_POISON_SENT (portIx p)) + poisoned) % 2 ^ 32)

/-- The stream frame of layer `l` after the packet `k` (10 R254, 04 R105): the one in progress or a new one, with the
packet's pixels, lost when a burst was not written. -/
def State.fillNext (s : State) (l : Nat) (k : Packet) : StreamFill :=
  { (openFrame l k s).1 with
    received := (openFrame l k s).1.received + k.pixels
    lost := (openFrame l k s).1.lost || !(writePixels l (openFrame l k s).1.buffer k s).1
    ended := (openFrame l k s).1.ended || bitAt (k.num 11 1) 0 }

/-- Objects that a VIDEO packet may change. -/
def videoObjs (p : Port) : List Nat :=
  [Obj.VIDEO_PACKETS, Obj.VIDEO_OUTSIDE, Obj.VIDEO_NOT_SOURCE, Obj.L7_ARM_STATE] ++ repeated 7 [Obj.LAYER_DISCARDED 0] ++
    readObjs ++ arrivalObjs p

/-- The offset of a PTP Sync received at `received` and sent at `origin`, ns (08 R215): less the corrections and the path
delay, in 2^-32 ns. -/
def ptpTheta (received origin correction delay : Int) : Rat := ((received - origin - correction - delay : Int) : Rat) / 4294967296

/-- Objects that a measurement of domain `d` may change (08 R212 to R214, R221). -/
def servoObjs (d : Dom) : List Nat :=
  [Obj.DOM_MEASUREMENTS (domIx d), Obj.DOM_OFFSET (domIx d), Obj.DOM_FREQ (domIx d), Obj.DOM_STEPS (domIx d),
    Obj.DOM_OUTLIERS (domIx d), Obj.ACTIVE_DOMAIN, Obj.DOMAIN_SWITCHES]

/-- Objects that the end of a descriptor of ring `r` may change (11 R277, R284 to R289): those that its outcome and its
write-back count, and those that start again where the ring is destroyed with it. -/
def ringEndObjs (r : Nat) : List Nat :=
  [Obj.RING_LAST_CAUSE r, Obj.RING_COMPLETED r, Obj.RING_PARTIAL r, Obj.RING_NOT_STARTED r, Obj.RING_STATE r,
    Obj.RING_HANDLE r, Obj.FENCE_STALE, Obj.MEM_CORRECTED, Obj.SRAM_CORRECTED] ++ ringObjects r ++ readObjs

/-- The parts that the end of a descriptor may change. -/
def ringEndParts : List Part := [.memory, .mem, .staging, .layers, .fault]

/-- The cause that the write-back of ring `r`'s descriptor meets where the memory answers `wb`, 0 for none (11 R289). -/
def State.writeBackMeets (s : State) (r : Nat) (wb : MemTrouble) : Nat :=
  (s.writeBackCause (s.slotAddr r) (s.translate (s.slotAddr r) 32 true true) wb).1

/-- The descriptor in progress of ring `r` has ended with STATUS and CAUSE (11 R284, R285, R286, R289): HEAD has advanced,
its counter has counted and the cause can be read; or its write-back met a fault, which halts the ring. A ring that is
being destroyed is FREE. -/
def State.descriptorEnds (s t : State) (r status cause : Nat) (wb : MemTrouble) : Prop :=
  (t.ring r).descriptor = none ∧ (∀ k, k ≠ r → t.ring k = s.ring k) ∧
    ((s.ring r).destroyWanted = true →
      t.ringState r = 0 ∧ t.reg (Obj.RING_HANDLE r) = 0 ∧ t.ring r = { gen := nextGen (s.ring r).gen }) ∧
    ((s.ring r).destroyWanted = false →
      t.reg (Obj.RING_HEAD r) = (s.reg (Obj.RING_HEAD r) + 1) % 2 ^ 32 ∧ t.reg (Obj.RING_PROGRESS r) = 0 ∧
      (s.writeBackMeets r wb ≠ 0 → t.ringState r = 3) ∧
      (s.writeBackMeets r wb = 0 → status ≠ 1 → (s.reg (Obj.RING_POLICY r) ≠ 1 ∨ cause = 9 ∨ (s.ring r).haltWanted = true) →
        t.ringState r = 3) ∧
      (s.writeBackMeets r wb = 0 → (s.ring r).haltWanted = false →
        (status = 1 ∨ (s.reg (Obj.RING_POLICY r) = 1 ∧ cause ≠ 9)) →
        t.ringState r = (if (s.reg (Obj.RING_HEAD r) + 1) % 2 ^ 32 = s.reg (Obj.RING_TAIL r) then 1 else 2))) ∧
    t.reg (Obj.RING_LAST_CAUSE r) = (if s.writeBackMeets r wb ≠ 0 then s.writeBackMeets r wb else cause) ∧
    t.reg (Obj.RING_COMPLETED r) =
      (if s.writeBackMeets r wb = 0 ∧ status = 1 then (s.reg (Obj.RING_COMPLETED r) + 1) % 2 ^ 32
       else s.reg (Obj.RING_COMPLETED r)) ∧
    t.reg (Obj.RING_PARTIAL r) =
      (if s.writeBackMeets r wb = 0 ∧ status = 2 then (s.reg (Obj.RING_PARTIAL r) + 1) % 2 ^ 32
       else s.reg (Obj.RING_PARTIAL r)) ∧
    t.reg (Obj.RING_NOT_STARTED r) =
      (if s.writeBackMeets r wb = 0 ∧ status = 3 then (s.reg (Obj.RING_NOT_STARTED r) + 1) % 2 ^ 32
       else s.reg (Obj.RING_NOT_STARTED r)) ∧
    (s.writeBackMeets r wb = 0 → status ≠ 1 → 0 < Sparse.get (fun _ => 0) t.fault.waiting 71) ∧
    (cause = 6 → 0 < Sparse.get (fun _ => 0) t.fault.waiting 70)

/-- The uncorrectable words of the block that the scrub reads next. -/
def State.scrubBad (s : State) : List Nat := (wordsAt (s.memory.scrubBlock * 256) 256).filter s.memory.ueWords.contains

/-- The Vf trend entry `v` of emitter `e` after the filter and the reference of a sample `code` (06 R172), with the ageing
gain of its calibration record where that arrived. -/
def State.filtered (s : State) (e code : Nat) (arrives : Bool) (v : VfEntry) : VfEntry :=
  v.sampled code (s.sampleRegs.atLeast1 Obj.VF_ALPHA) (s.sampleRegs.atLeast1 Obj.VF_REF_SAMPLES)
    (timeNs s.stampA / 1000000000) ((s.recordFor arrives e).map fun bs => natAt (calFields bs).age (e % 3))

/-- Objects that may change as a safe blank begins: a test pulse is abandoned, and an evacuation display hides (12 R318,
R299). -/
def hidingObjs : List Nat := [Obj.OUTPUT_TEST_ABANDONS, Obj.EVAC_STATE, Obj.REPLAY_BANDS]

/-- Trip `cause`, which was not latched, is latched (12 R298): both permissions are withdrawn, and an output that a
permission held high is low. -/
def State.tripTaken (s t : State) (cause : Nat) : Prop :=
  t.safety.trips = s.safety.trips ++ [cause] ∧ t.reg Obj.SAFETY_TRIP_CAUSE = cause ∧ t.safeBlank = true ∧
    ∀ c, (t.chan c).permission = false ∧ ((s.chan c).permission = true → (t.chan c).railen = false)

/-- What a trip may change. -/
def tripParts : List Part := [.rails, .safety, .power]

/-- The pin of a dual input: its A pin, or its B pin (12 R294). -/
def pinOf : DualInput → Bool → SafetyPin
  | .safeBlank, false => .safeBlankA
  | .safeBlank, true => .safeBlankB
  | .evac, false => .evacA
  | .evac, true => .evacB

/-- The permissions are as the channels' views ask (12 R292, R298): a channel that may not permit has withdrawn, with its
output low; outside a safe blank each that may has granted. -/
def State.permissionsFollow (s t : State) : Prop :=
  (∀ x, t.mayPermit x = false → (t.chan x).permission = false ∧ ((s.chan x).permission = true → (t.chan x).railen = false)) ∧
    (t.safeBlank = false → ∀ x, t.mayPermit x = true →
      (t.chan x).permission = true ∧ ((s.chan x).permission = false → (t.chan x).railen = true))

/-- The parts that a demand to show the evacuation image may change: it wakes the device from S1, starts the scan drive and
rails cold, or loads a saved image (12 R301, R307 to R309). -/
def evacParts : List Part :=
  [.regs, .tabs, .safety, .rails, .power, .scan, .cop, .device, .layers, .diag, .memory, .mem, .staging, .fault, .out,
    .crossing, .time, .pipe, .beacon]

/-- An evacuation demand has begun to act (12 R299, R301, R307, R309): held under a thermal trip; timed from now where
there is content, or an image to load; nothing to show otherwise. -/
def State.demandActs (s t : State) : Prop :=
  (s.power.tripped = true → t.safety.evacFrom = none ∧ t.safety.evacHeld = true ∧ t.safety.evacActive = false) ∧
    (s.power.tripped = false → (s.beaconReady = true ∨ s.l7Armed = true ∨ s.imageSaved = true) →
      t.safety.evacFrom = some (s.nowNs : Int) ∧ t.safety.evacActive = false) ∧
    (s.power.tripped = false → s.beaconReady = false → s.l7Armed = false → s.imageSaved = false →
      t.safety.evacActive = true ∧ t.reg Obj.EVAC_STATE = 3 ∧ t.reporting 78 = true)

/-- An event of channel `c` may occur: its island runs, and the safety functions do. -/
def State.supervises (s : State) (c : Channel) : Bool := s.acts (channelIsland c) && s.safetyRuns

/-- The level of the transition that the regulator's acknowledge ends (14 R341). -/
def State.ackLevel (s : State) : Option Nat :=
  match s.power.avs with
  | some (.raising l) => some l
  | some (.lowering l _ _) => some l
  | _ => none

/-- The level and PERF_STATE that a missing acknowledge leaves, with `core` mV read on the core (14 R342). -/
def State.timeoutLevel (s : State) (core : Nat) : Option (Nat × Nat) :=
  match s.power.avs with
  | some (.raising _) => some (s.reg Obj.PERF_LEVEL_IN_FORCE, if s.power.wasHeld then 3 else 0)
  | some (.lowering l old mv) => some (if mv ≤ core + 10 then (old, if s.power.wasHeld then 3 else 0) else (l, 3))
  | _ => none

/-- The request stored during a transition that its end acts on; none under a trip (14 R343, R350). -/
def State.storedRequest (s : State) : Option Nat := if s.power.tripped then none else s.power.storedLevel

/-- A transition has ended with level `l` and PERF_STATE `st`, and what waited for its end follows (14 R341, R343, R350):
the voltage of an orderly stop, else a stored request, else, unless the regulator did not answer, a margin increase. -/
def State.levelEnded (s t : State) (l st : Nat) (mayWrite : Bool) : Prop :=
  t.reg Obj.PERF_LEVEL_IN_FORCE = l ∧ t.power.storedLevel = none ∧ t.power.levelEnd = some s.ticks ∧
    t.power.marginDue = false ∧ t.power.stopDue = false ∧
    (s.power.stopDue = true → t.power.avs = some .plain ∧ t.reg Obj.CORE_VOLTAGE_REQUEST = s.levelVoltage 3) ∧
    (s.power.stopDue = false → (s.storedRequest = none ∨ (s.storedRequest = some l ∧ st ≠ 3)) →
      t.reg Obj.PERF_STATE = st ∧ t.power.clockLevel = l ∧
      t.power.avs = (if s.power.marginDue = true ∧ mayWrite = true then some .margin else none) ∧
      t.reg Obj.CORE_VOLTAGE_REQUEST =
        (if s.power.marginDue = true ∧ mayWrite = true then s.levelVoltage l else s.reg Obj.CORE_VOLTAGE_REQUEST)) ∧
    (s.power.stopDue = false → ∀ k, s.storedRequest = some k →
      ((k < l ∨ (k = l ∧ st = 3)) → t.reg Obj.PERF_STATE = 1 ∧ t.power.avs = some (.raising k) ∧
        t.reg Obj.CORE_VOLTAGE_REQUEST = s.levelVoltage k ∧ t.power.clockLevel = l) ∧
      (l < k → t.reg Obj.PERF_STATE = 2 ∧ t.power.avs = some (.lowering k l (s.levelVoltage l)) ∧
        t.reg Obj.CORE_VOLTAGE_REQUEST = s.levelVoltage k ∧ t.power.clockLevel = k))

/-- A temperature sample of the round is valid, with diode-current ratio `v` (14 R348). -/
def State.sampleValid (s : State) (v : Int) : Bool :=
  decide (-7680 ≤ s.hk 0) && decide (s.hk 0 ≤ 25600) && Config.ratioInWindow v

/-- It counts as at or above the trip level (14 R348, R349). -/
def State.sampleHot (s : State) (v : Int) : Bool := !s.sampleValid v || decide (0x3E80 ≤ s.hk 0)

/-- Wake source `k` acts (14 R354, R358 to R360): latched during an entry to S2 or S3 and asleep; in S1 the sleep ends with
its record; an entry to S1 that waits is abandoned. -/
def State.wakeTaken (s t : State) (k : Nat) : Prop :=
  ((s.power.entering.isSome = true ∨ s.power.asleep.isSome = true) →
    t.power = { s.power with wakes := insertOnce k s.power.wakes } ∧ s.frame t [.power] [Obj.SLEEP_LEDGER] []) ∧
    (s.power.entering = none → s.power.asleep = none → s.power.inS1 = true →
      t.power.inS1 = false ∧ t.power.s1Wake = some s.ticks ∧ t.reg Obj.SLEEP_STATE = 0 ∧ t.runs 1 = true ∧
      t.runs 2 = true ∧ t.reg Obj.LAST_WAKE_SOURCES = 2 ^ k ∧ t.reg Obj.LAST_WAKE_SOURCE = k ∧
      t.reg Obj.LAST_WAKE_STATE = 1 ∧ s.frame t [.power, .device, .out] [Obj.SLEEP_STATE, Obj.MEM_STATE,
        Obj.LAST_WAKE_SOURCES, Obj.LAST_WAKE_SOURCE, Obj.LAST_WAKE_STATE, Obj.LAST_WAKE_LEDGER] [Obj.WAKE_COUNTS]) ∧
    (s.power.entering = none → s.power.asleep = none → s.power.inS1 = false →
      t.power = { s.power with s1Wanted := false } ∧ s.frame t [.power] [] [])

/-- The device runs or sleeps, and AON with it: a wake condition can be recognised (16 R399). -/
def State.canWake (s : State) : Bool :=
  s.defined && !s.device.frozen && (s.device.phase == .running || s.device.phase == .asleep)

/-- The parts that a reset of the islands other than AON may change: all but the clock, the free values, what has left the
device, and the memories of which the caller speaks. -/
def resetParts : List Part :=
  [.regs, .tabs, .staging, .device, .crossing, .cop, .answer, .fault, .live, .time, .pipe, .layers, .scan, .diag, .rails,
    .link, .traffic, .memory, .safety, .power]

/-- Commands that act whatever the device does: the resets and the JTAG port (13 R336, 16 R402). -/
def alwaysActs : Instr → Bool
  | .powerOnReset => true
  | .powerOnResetRelease => true
  | .resetNLow _ => true
  | .resetNRelease _ => true
  | .resetHoldLong _ => true
  | .jtagFreeze => true
  | .jtagFrzRead => true
  | .jtagKeysClear => true
  | .jtagExtest => true
  | .jtagSamplePreload => true
  | .jtagIdcode => true
  | .jtagBypass _ => true
  | .jtagTapReset => true
  | _ => false

/-- The command `c` of object `obj` completes wherever nothing turns its request away: it is answered with success and
puts exactly the objects of `objs` back to their defaults, under every selector. -/
def ClearsExactly (c : Req → Bytes → Instr) (obj : Nat) (objs : List Nat) : Prop :=
  ∀ (rq : Req) (data : Bytes) (s : State), s.admitsWrite rq obj data = true →
    ∃ t, exec (c rq data) s = .next t ∧ t.answered rq 0 = true ∧
      (∀ o i, o ∈ objs → i < 65536 → t.regAt o i = objDefault o) ∧ s.hostFrame t [] objs []

end Sys2Proof.Machine
end

