-- ==== Sys2Proof/Certificates/Slice0/Obligations.lean ====
section
/-! DEFINITION. The statements for the provers. Each docstring says what a statement claims, and names the entries of
the assumption log where a clause rests on a choice of the model; OBLIGATIONS.json names the rules. -/

open Sys2Proof Sys2Proof.Machine

/-- One step of the block: with a command at the front of the queue, step is exec of it on the state with the rest.
Clauses rest on choices of the model: assumption log 1. -/
def Obligations.StepRunsTheFrontCommand : Prop :=
  (∀ (c : Instr) (s : State), step { s with pending := c :: s.pending } = exec c s) ∧
  (∀ (c : Instr) (rest : List Instr) (s : State), s.pending = c :: rest → step s = exec c { s with pending := rest })

/-- After the internal power-on reset every object and every table reads its default. Clauses rest on choices of the
model: assumption log 5, 6, 7. -/
def Obligations.ResetHoldsEveryDefault : Prop :=
  (∀ obj sel, sel < 65536 → State.reset.regAt obj sel = objDefault obj) ∧
  (∀ obj j, j < 131072 → State.reset.tabByte obj j = domDefault (tabKey obj j)) ∧
  (∀ i, i < 8 → State.reset.island i = .off) ∧ State.reset.pending = [] ∧ State.reset.outputsLow = true ∧
  State.reset.device.phase = .powerOnReset ∧ Memory.wf State.reset = true

/-- Every step keeps the invariant of the collector (13 R324, R326): in any state in which each live bit belongs to a
source that reports, it still does after a step. -/
def Obligations.EveryStepKeepsLiveBitsReporting : Prop :=
  ∀ s t : State, s.fault.live.all s.reporting = true → step s = .next t → t.fault.live.all t.reporting = true

/-- The state after the power-on reset meets the invariant of the live bits (13 R324, R326). -/
def Obligations.ResetLiveBitsReport : Prop := State.reset.fault.live.all State.reset.reporting = true

/-- A frozen device (02 R44, 13 R336) is left unchanged by every command but the resets, the reset pins and the JTAG
port, and by a step on an empty queue: its islands are stopped, its handshakes stay held, and no timeout runs. -/
def Obligations.FrozenDeviceIgnoresCommands : Prop :=
  (∀ (c : Instr) (s : State), s.device.frozen = true → s.device.extest = false → alwaysActs c = false →
    exec c s = .next s) ∧
  (∀ s : State, s.device.frozen = true → s.pending = [] → step s = .next s)

/-- After JTAG_EXTEST the functional state is undefined until a reset (16 R402): every command but the resets, the reset
pins and the JTAG port stops with a fault. These, and without EXTEST every command of the table, answer a next
state. -/
def Obligations.ExtestLeavesStateUndefined : Prop :=
  (∀ (c : Instr) (s : State), s.device.extest = true → alwaysActs c = false →
    exec c s = .fault .functionalStateUndefined) ∧
  (∀ (c : Instr) (s : State), (s.device.extest = false ∨ alwaysActs c = true) → ∃ t, exec c s = .next t)

/-- Lock expiry ends the lock of one role and starts its count again; the oldest kept response ages out; an idle open
batch is committed as staged; a committed batch whose NOT_BEFORE has come is applied with the scan drive stopped. -/
def Obligations.AgentTimersAct : Prop :=
  (∀ (s : State) (role : Nat), s.acts 6 = true → s.roleLocked role = true →
    ∃ t, exec (.roleLockExpiry role) s = .next t ∧ t.roleLocked role = false ∧ t.keyFail role = 0 ∧
      (∀ r, r ≠ role → t.roleLocked r = s.roleLocked r ∧ t.keyFail r = s.keyFail r) ∧
      s.frame t [.answer] [Obj.ROLES_LOCKED] [] ∧ t.cop.responses = s.cop.responses ∧ t.traffic = s.traffic) ∧
  (∀ s : State, s.acts 6 = true →
    ∃ t, exec .responseRecordExpiry s = .next t ∧ t.cop = { s.cop with responses := s.cop.responses.dropLast } ∧
      s.frame t [.answer] [] [] ∧ t.traffic = s.traffic) ∧
  (∀ (s : State) (b : Batch), s.acts 6 = true → s.cop.batch = some b → b.committed = false →
    ∃ t, exec .batchIdleTimeout s = .next t ∧
      (s.reg Obj.SCAN_STATE ≠ 0 →
        t.cop = { s.cop with batch := some { b with committed := true, notBefore := none, commitTick := s.ticks } } ∧
        t.reg Obj.BATCH_SEQUENCE = (s.reg Obj.BATCH_SEQUENCE + 1) % 2 ^ 32 ∧
        t.reg Obj.BATCH_AUTO_COMMITS = (s.reg Obj.BATCH_AUTO_COMMITS + 1) % 2 ^ 32 ∧
        s.frame t [.cop] [Obj.BATCH_SEQUENCE, Obj.BATCH_AUTO_COMMITS] []) ∧
      (s.reg Obj.SCAN_STATE = 0 →
        t.cop.batch = none ∧ t.reg Obj.BATCH_LAST_APPLIED = (s.reg Obj.BATCH_SEQUENCE + 1) % 2 ^ 32 ∧
        t.reg Obj.BATCH_LAST_COUNT + t.reg Obj.BATCH_LAST_FAILED = b.entries.length ∧
        t.reg Obj.BATCH_LAST_TIME = s.stamp ∧
        (b.entries = [] → t.cop = { s.cop with batch := none } ∧
          t.reg Obj.BATCH_AUTO_COMMITS = (s.reg Obj.BATCH_AUTO_COMMITS + 1) % 2 ^ 32 ∧
          s.frame t [.cop] [Obj.BATCH_SEQUENCE, Obj.BATCH_AUTO_COMMITS, Obj.BATCH_LAST_APPLIED, Obj.BATCH_LAST_COUNT,
            Obj.BATCH_LAST_FAILED, Obj.BATCH_LAST_TIME] [Obj.BATCH_FIRST_FAILURE]))) ∧
  (∀ (s : State) (b : Batch), s.acts 6 = true → s.cop.batch = some b → b.committed = true → s.reg Obj.SCAN_STATE = 0 →
    b.reached s.nowNs = true →
    ∃ t, exec .batchNotBeforeReached s = .next t ∧ t.cop.batch = none ∧
      t.reg Obj.BATCH_LAST_APPLIED = s.reg Obj.BATCH_SEQUENCE ∧
      t.reg Obj.BATCH_LAST_COUNT + t.reg Obj.BATCH_LAST_FAILED = b.entries.length ∧
      t.reg Obj.BATCH_LAST_TIME = s.stamp ∧
      (b.entries = [] → t.cop = { s.cop with batch := none } ∧
        s.frame t [.cop] [Obj.BATCH_LAST_APPLIED, Obj.BATCH_LAST_COUNT, Obj.BATCH_LAST_FAILED, Obj.BATCH_LAST_TIME]
          [Obj.BATCH_FIRST_FAILURE]))

/-- Every counters-clear command clears its counters, under every selector, and nothing else. -/
def Obligations.CounterClearsClearTheirCounters : Prop :=
  ClearsExactly .sramCountersClear Obj.SRAM_COUNTERS_CLEAR
    [Obj.SRAM_CORRECTED, Obj.SRAM_UNCORRECTED, Obj.SRAM_LAST_OFFSET] ∧
  ClearsExactly .pipelineCountersClear Obj.PIPELINE_COUNTERS_CLEAR
    [Obj.PIPELINE_FRAMES, Obj.PIPELINE_LATE_FRAMES, Obj.TABLE_SWAPS, Obj.MISSING_READS, Obj.CAL_CRC_FAILS,
      Obj.CAL_WRITEBACKS, Obj.DOSE_SATURATIONS, Obj.DOSE_MISSED, Obj.CODE_SATURATIONS, Obj.GAMUT_CLIPS,
      Obj.WORK_SATURATIONS, Obj.EMITTER_SATURATIONS, Obj.BEACON_FILLS, Obj.EMITTER_NEGATIVE_CLIPS] ∧
  ClearsExactly .layerCountersClear Obj.LAYER_COUNTERS_CLEAR
    ([Obj.COMPOSE_LATE_FRAMES, Obj.FENCE_STALE, Obj.ECHO_FRAMES_SENT, Obj.ECHO_FRAMES_DROPPED, Obj.L7_REFILLS,
      Obj.L7_RING_REFUSALS] ++ repeated 8 [Obj.LAYER_FLIPS 0, Obj.LAYER_MISSES 0, Obj.LAYER_DISCARDED 0]) ∧
  ClearsExactly .scanCountersClear Obj.SCAN_COUNTERS_CLEAR
    [Obj.REJECTED_APPLIES, Obj.BAND_CRC_ERRORS, Obj.BAND_CODE_ERRORS, Obj.BAND_RESENDS, Obj.BAND_LATE_FRAMES,
      Obj.BAND_HEADROOM_MISSING, Obj.NODE_LATE_FRAMES] ∧
  ClearsExactly .railCountersClear Obj.RAIL_COUNTERS_CLEAR
    ([Obj.COEF_COMMITS, Obj.ENGINE_OVERRUNS, Obj.ROTATIONS, Obj.HANDOVERS_ABANDONED] ++
      repeated 48 [Obj.RAIL_OVERRUNS 0, Obj.RAIL_HEADROOM_MISSING 0, Obj.RAIL_FEEDBACK_LOSSES 0, Obj.RAIL_OC_EVENTS 0]) ∧
  ClearsExactly .timeCountersClear Obj.TIME_COUNTERS_CLEAR
    [Obj.DOMAIN_SWITCHES, Obj.CATCH_REANCHORS, Obj.CATCHES_UNALIGNED, Obj.SYNC_FORWARDED, Obj.PTP_TXQ_OVERFLOWS,
      Obj.DOM_MEASUREMENTS 0, Obj.DOM_STEPS 0, Obj.DOM_OUTLIERS 0, Obj.DOM_MEASUREMENTS 1, Obj.DOM_STEPS 1,
      Obj.DOM_OUTLIERS 1] ∧
  ClearsExactly .trafficCountersClear Obj.TRAFFIC_COUNTERS_CLEAR
    ([Obj.FAILOVERS, Obj.ANNOUNCES_LATE, Obj.VIDEO_PACKETS, Obj.VIDEO_OUTSIDE, Obj.VIDEO_NOT_SOURCE, Obj.EVENTS_SENT,
      Obj.EVENTS_DROPPED] ++
      repeated 2 [Obj.PKT_RX 0, Obj.PKT_TAKEN 0, Obj.PKT_FORWARDED 0, Obj.PKT_DISCARDED 0, Obj.PKT_POISON_SENT 0,
        Obj.PKT_FORWARD_DROPS 0, Obj.PKT_LOCAL_SENT 0, Obj.PKT_LOCAL_DROPS 0, Obj.PKT_IDLE_ADJUST 0]) ∧
  ClearsExactly .memCountersClear Obj.MEM_COUNTERS_CLEAR
    ([Obj.MEM_CORRECTED, Obj.MEM_UNCORRECTED, Obj.SCRUB_PASSES, Obj.TRANSLATION_FAULTS] ++
      repeated 64 [Obj.RING_COMPLETED 0, Obj.RING_PARTIAL 0, Obj.RING_NOT_STARTED 0, Obj.RING_PREEMPTIONS 0,
        Obj.RING_BYTES 0]) ∧
  ClearsExactly .faultCountersClear Obj.FAULT_COUNTERS_CLEAR [Obj.FAULT_COUNT, Obj.FAULT_FIRST_TIME, Obj.FAULT_LAST_TIME] ∧
  (∀ (rq : Req) (data : Bytes) (s : State), s.admitsWrite rq Obj.LINK_COUNTERS_CLEAR data = true →
    ∃ t, exec (.linkCountersClear rq data) s = .next t ∧ t.answered rq 0 = true ∧
      (∀ o i, o ∈ repeated 2 [Obj.PORT_UP_COUNT 0, Obj.PORT_DOWN_COUNT 0, Obj.FEC_CODEWORDS 0, Obj.FEC_CORRECTED_CW 0,
          Obj.FEC_UNCORRECTABLE 0, Obj.FEC_SYMBOLS_CORRECTED 0, Obj.FEC_AM_MISSES 0, Obj.FEC_SER_1S 0] ++
        repeated 4 [Obj.LANE_PRBS_ERRORS 0, Obj.LANE_PRBS_BITS 0] → i < 65536 → t.regAt o i = objDefault o) ∧
      (∀ j, j < 131072 → t.tabByte (Obj.FEC_HISTOGRAM 0) j = domDefault (tabKey (Obj.FEC_HISTOGRAM 0) j) ∧
        t.tabByte (Obj.FEC_HISTOGRAM 1) j = domDefault (tabKey (Obj.FEC_HISTOGRAM 1) j)) ∧
      s.hostFrame t [] (repeated 2 [Obj.PORT_UP_COUNT 0, Obj.PORT_DOWN_COUNT 0, Obj.FEC_CODEWORDS 0,
          Obj.FEC_CORRECTED_CW 0, Obj.FEC_UNCORRECTABLE 0, Obj.FEC_SYMBOLS_CORRECTED 0, Obj.FEC_AM_MISSES 0,
          Obj.FEC_SER_1S 0] ++ repeated 4 [Obj.LANE_PRBS_ERRORS 0, Obj.LANE_PRBS_BITS 0])
        [Obj.FEC_HISTOGRAM 0, Obj.FEC_HISTOGRAM 1])

/-- A crossing that times out counts the timeout with its time, raises the fault source of its receiving island,
withdraws the request and keeps its tag; what the transfer carried is lost as the crossing's outcome says. A late
acknowledge with a withdrawn tag is discarded and counted, any other is nothing. An access that the agent hears and
whose object it may reach aborts with "crossing timeout". Clauses rest on choices of the model: assumption log 113,
138. -/
def Obligations.CrossingsTimeOutAndRecover : Prop :=
  (∀ (s : State) (x : Transfer), s.defined = true → s.timesCrossing x = true → x.crossing.1 ≠ 9 →
    ∃ t, exec (.crossingTimeout x) s = .next t ∧
      t.regAt Obj.CROSSING_TIMEOUTS x.crossing.1 = (s.regAt Obj.CROSSING_TIMEOUTS x.crossing.1 + 1) % 2 ^ 32 ∧
      t.regAt Obj.CROSSING_LAST_TIMEOUT x.crossing.1 = s.stampA ∧
      bitAt (t.reg Obj.CROSSING_TIMEOUT_MASK) (x.crossing.1 - 1) = true ∧
      t.crossing x.crossing.1 = (s.crossing x.crossing.1).withdraw ∧
      (t.crossing x.crossing.1).req = false ∧
      (∀ h, h ≠ x.crossing.1 → t.crossing h = s.crossing h) ∧
      0 < Sparse.get (fun _ => 0) t.fault.waiting x.crossing.2.2 ∧
      s.frame t [.fault, .crossing, .pipe, .layers, .scan, .diag, .rails, .time, .traffic, .safety]
        (Obj.CROSSING_TIMEOUTS :: Obj.CROSSING_LAST_TIMEOUT :: Obj.CROSSING_TIMEOUT_MASK :: Obj.PROBE_RESULTS_LOST ::
          repeated 48 [Obj.RAIL_HEADROOM_MISSING 0]) []) ∧
  (∀ (s : State) (l : Nat) (f : StreamFill), s.acts 0 = true → (s.layer l).filling = some f →
    ∃ t, exec (.crossingTimeout (.videoFlit l)) s = .next t ∧ (t.layer l).filling = some { f with lost := true }) ∧
  (∀ (s : State) (a : Nat), s.acts 1 = true →
    ∃ t, exec (.crossingTimeout (.writeRequest a)) s = .next t ∧
      t.pipe = { s.pipe with dropped := s.pipe.dropped ++ [a] }) ∧
  (∀ (s : State) (e : Nat), s.acts 2 = true →
    ∃ t, exec (.crossingTimeout (.readResponse (.dose e))) s = .next t ∧
      t.pipe = { s.pipe with missing := (1, s.doseAddr e, 4) :: s.pipe.missing }) ∧
  (∀ (s : State) (b n : Nat), s.acts 1 = true →
    ∃ t, exec (.crossingTimeout (.sliceSegment b n)) s = .next t ∧ (t.node b n).spoilt = true ∧
      (t.node b n).acked = false) ∧
  (∀ (s : State), s.acts 5 = true →
    ∃ t, exec (.crossingTimeout .catchTime) s = .next t ∧
      t.time = { s.time with catchGen := { s.time.catchGen with unaligned := true } }) ∧
  (∀ (s : State) (p : Port), s.acts 5 = true →
    ∃ t, exec (.crossingTimeout (.syncCorrection p)) s = .next t ∧ t.traffic.syncLost.contains (portIx p) = true) ∧
  (∀ (s : State) (b : Nat), s.acts 4 = true →
    ∃ t, exec (.crossingTimeout (.egressTap b)) s = .next t ∧ t.safety.tapLost.contains b = true) ∧
  (∀ (s : State) (b : Nat), s.acts 7 = true →
    ∃ t, exec (.crossingTimeout (.beaconReplay b)) s = .next t ∧ t.safety.replayBlank.contains b = true) ∧
  (∀ (s : State) (h : Nat) (tag : Bool), s.acts 6 = true → h < 65536 →
    ∃ t, exec (.lateAcknowledge h tag) s = .next t ∧
      ((s.crossing h).withdrawn.contains tag = true →
        t.crossing h = { s.crossing h with withdrawn := (s.crossing h).withdrawn.erase tag } ∧
        (∀ k, k ≠ h → t.crossing k = s.crossing k) ∧
        t.regAt Obj.CROSSING_LATE_ACKS h = (s.regAt Obj.CROSSING_LATE_ACKS h + 1) % 2 ^ 32 ∧
        s.frame t [.crossing] [Obj.CROSSING_LATE_ACKS] []) ∧
      ((s.crossing h).withdrawn.contains tag = false → s.frame t [] [] [])) ∧
  (∀ (s : State) (rq : Req) (opcode index sub : Nat) (r : ObjRow),
    s.hears (timedRequest rq opcode index sub) = true → s.findObj (index * 256 + sub) = some r →
    (if opcode = 1 then readRight r else s.writeAbort r (index * 256 + sub) rq.role) = 0 →
    s.reach r (index * 256 + sub) = .ready →
    ∃ t, exec (.crossingTimeout (.copAccess rq opcode index sub)) s = .next t ∧ t.answered rq abortTimeout = true ∧
      t.regAt Obj.CROSSING_TIMEOUTS 9 = (s.regAt Obj.CROSSING_TIMEOUTS 9 + 1) % 2 ^ 32 ∧
      t.crossing 9 = (s.crossing 9).withdraw ∧ (∀ h, h ≠ 9 → t.crossing h = s.crossing h) ∧
      0 < Sparse.get (fun _ => 0) t.fault.waiting (islandOf (index * 256 + sub)) ∧
      s.hostFrame t [.crossing, .fault]
        [Obj.COP_ABORTS, Obj.COP_LAST_ABORT, Obj.CROSSING_TIMEOUTS, Obj.CROSSING_LAST_TIMEOUT,
          Obj.CROSSING_TIMEOUT_MASK] [])

/-- The clock of a woken island runs, and MEM brings LPDDR5 out of self-refresh; an access that was held for it is
carried out and counted. The end of WAKE_HOLD gates an island again in S1 only; a gated island stops. -/
def Obligations.IslandClocksStartAndStop : Prop :=
  (∀ (s : State) (i : Nat), s.acts 6 = true → s.island i = .waking → s.cop.held = [] →
    ∃ t, exec (.islandClockRunning i) s = .next t ∧ t.island i = .running ∧ (∀ j, j ≠ i → t.island j = s.island j) ∧
      t.device = { s.device with islands := t.device.islands } ∧
      (i = 2 → s.reg Obj.MEM_STATE = 3 → t.reg Obj.MEM_STATE = 2 ∧ t.out = .selfRefresh false :: s.out ∧
        s.frame t [.device, .out] [Obj.MEM_STATE] []) ∧
      (¬(i = 2 ∧ s.reg Obj.MEM_STATE = 3) → s.frame t [.device] [] [])) ∧
  (∀ (s u : State) (i n sel : Nat) (q : Request) (r : ObjRow), s.acts 6 = true → s.device.phase = .running →
    s.island i = .waking → s.cop.held = [q] →
    q.opcode = 1 → islandOf q.obj = i → rowOf q.obj = some r → r.ty = .fixed n → readRight r = 0 →
    s.reg Obj.SLEEP_STATE ≠ 3 → s.power.tripped = false →
    u = (State.completedWake { s.setIsland i .running with cop := { s.cop with held := [] } } i).accessed q.obj →
    u.bankOf q.obj = some sel → u.openReading q.obj = none → countedBy q.obj u = u →
    (q.obj = Obj.X_MAP_ENTRY → u.reg Obj.X_MAP_INDEX < 2048) → i ≠ 2 →
    ∃ t, exec (.islandClockRunning i) s = .next t ∧ t.island i = .running ∧ (∀ j, j ≠ i → t.island j = s.island j) ∧
      t.cop.held = [] ∧ t.reg Obj.ACCESS_WAKES = (s.reg Obj.ACCESS_WAKES + 1) % 2 ^ 32 ∧
      t.device.holds = insertOnce i s.device.holds ∧ t.answered q.rq 0 = true ∧
      t.answerData = natLE n ((u.formed q.obj).getD (u.regAt q.obj sel)) ∧
      (∀ h, h ≠ 9 → t.crossing h = s.crossing h) ∧
      s.frame t [.answer, .out, .crossing, .cop, .device] [Obj.ACCESS_WAKES] []) ∧
  (∀ (s : State) (i : Nat), s.acts 6 = true → s.runs i = true → s.device.holds.contains i = true →
    ∃ t, exec (.wakeHoldExpiry i) s = .next t ∧ t.device.holds = remove i s.device.holds ∧ t.island i = .running ∧
      (s.power.inS1 = false → t.device.gating = s.device.gating ∧ s.frame t [.device] [] []) ∧
      (s.power.inS1 = true → t.device.gating = insertOnce i s.device.gating) ∧
      (s.power.inS1 = true → i = 2 → s.reg Obj.MEM_STATE = 2 →
        t.reg Obj.MEM_STATE = 3 ∧ t.out = .selfRefresh true :: s.out ∧ s.frame t [.device, .out] [Obj.MEM_STATE] []) ∧
      (¬(s.power.inS1 = true ∧ i = 2 ∧ s.reg Obj.MEM_STATE = 2) → s.frame t [.device] [] [])) ∧
  (∀ (s : State) (i : Nat), s.acts 6 = true → s.runs i = true → s.device.gating.contains i = true →
    ∃ t, exec (.gateAcknowledge i) s = .next t ∧ t.island i = .gated ∧ (∀ j, j ≠ i → t.island j = s.island j) ∧
      t.device.gating = remove i s.device.gating ∧ t.device.holds = remove i s.device.holds ∧ s.frame t [.device] [] [])

/-- The millbrake's clock check: counts in tolerance end the clock fault; a count out of tolerance sets it and latches
trip cause 5, both outputs low. Bringing a PLL out of lock and back moves its condition only; a machine check of the
Cox counts the error, raises FS18 and takes channel A low. Clauses rest on choices of the model: assumption log 107. -/
def Obligations.ClockFaultsAreSeen : Prop :=
  (∀ (s : State) (r x : Nat), s.acts 7 = true → clocksGood r x = true →
    ∃ t, exec (.clockCheckWindow r x) s = .next t ∧ t.fault.clockFault = false ∧ t.reporting 9 = s.forced 9 ∧
      s.frame t [.fault] [] [] ∧ t.fault = { s.fault with clockFault := false, live := t.fault.live }) ∧
  (∀ (s : State) (r x : Nat), s.acts 7 = true → clocksGood r x = false →
    ∃ t, exec (.clockCheckWindow r x) s = .next t ∧ t.fault.clockFault = true ∧ t.reporting 9 = true ∧
      t.safety.trips = insertOnce 5 s.safety.trips ∧
      (s.safety.trips.contains 5 = false →
        s.tripTaken t 5 ∧ s.frame t [.fault, .rails, .safety] (Obj.SAFETY_TRIP_CAUSE :: hidingObjs) []) ∧
      (s.safety.trips.contains 5 = true → s.frame t [.fault] [] [])) ∧
  (∀ (s : State) (i : Nat), s.acts i = true → i ≤ 6 →
    ∃ t, exec (.pllUnlock i) s = .next t ∧ t.fault.pllUnlocked = insertOnce i s.fault.pllUnlocked ∧
      t.reporting 17 = true ∧ s.frame t [.fault] [] []) ∧
  (∀ (s : State) (i : Nat), s.acts i = true → i ≤ 6 →
    ∃ t, exec (.pllRelock i) s = .next t ∧ t.fault.pllUnlocked = remove i s.fault.pllUnlocked ∧ s.frame t [.fault] [] []) ∧
  (∀ (s : State) (offset : Nat), s.acts 6 = true →
    ∃ t, exec (.coxMachineCheck offset) s = .next t ∧ t.safety.coxChecked = true ∧ t.safety.chanA.permission = false ∧
      (s.safety.chanA.permission = true → t.safety.chanA.railen = false) ∧ t.safety.chanB = s.safety.chanB ∧
      0 < Sparse.get (fun _ => 0) t.fault.waiting 18 ∧
      t.regAt Obj.SRAM_UNCORRECTED 4 = (s.regAt Obj.SRAM_UNCORRECTED 4 + 1) % 2 ^ 32 ∧
      t.regAt Obj.SRAM_LAST_OFFSET 4 = offset ∧
      s.frame t [.fault, .rails, .safety] [Obj.SRAM_UNCORRECTED, Obj.SRAM_LAST_OFFSET, Obj.OUTPUT_TEST_ABANDONS] [])

/-- A repeated request is answered from its record: COP_DUPLICATES counts it and nothing else changes. -/
def Obligations.RepeatedRequestsAreAnsweredFromTheirRecord : Prop :=
  ∀ (c : Instr) (q : Request) (r : Response) (s : State), requestOf c = some q → s.defined = true →
    s.agentRuns q.rq.via = true → s.record q = some r →
    ∃ t, exec c s = .next t ∧ t.reg Obj.COP_DUPLICATES = (s.reg Obj.COP_DUPLICATES + 1) % 2 ^ 32 ∧
      t.cop = s.cop ∧ s.frame t [.answer, .out] [Obj.COP_DUPLICATES] []

/-- A wrong key turns every request away and has no other effect than its counts; the sixteenth in a row locks the role.
Clauses rest on choices of the model: assumption log 24, 73. -/
def Obligations.WrongKeysAreRejectedAndLockTheRole : Prop :=
  ∀ (c : Instr) (q : Request) (s : State), requestOf c = some q → s.defined = true → s.agentRuns q.rq.via = true →
    s.record q = none → s.keyOk q.rq = false →
    ∃ t, exec c s = .next t ∧ t.answered q.rq abortKey = true ∧
      (s.roleLocked q.rq.role = false →
        t.reg Obj.KEY_REJECTIONS = (s.reg Obj.KEY_REJECTIONS + 1) % 2 ^ widthOf Obj.KEY_REJECTIONS ∧
        t.roleLocked q.rq.role = decide (16 ≤ s.keyFail q.rq.role + 1)) ∧
      s.hostFrame t [] [Obj.COP_ABORTS, Obj.COP_LAST_ABORT, Obj.KEY_REJECTIONS, Obj.ROLES_LOCKED] []

/-- Access checks of every READ and WRITE past its key: no object, an object that a locked L7 closes, read only, access
denied, write only, an island that sleeps, a subsystem that runs, a wrong length. The request is answered with its
abort code and does nothing else; one for an island that must wake is held. -/
def Obligations.AccessChecksTurnRequestsAway : Prop :=
  ∀ (c : Instr) (q : Request) (s : State), requestOf c = some q → q.opcode ≤ 2 → s.hears q = true →
    (s.findObj q.obj = none → ∃ t, exec c s = .next t ∧ s.turnsAway t q.rq abortNoObject) ∧
    (∀ r, s.findObj q.obj = some r →
      (q.opcode = 2 → rightsDue r q = true → s.layers.l7Locked = true → closedByLock q.obj = true →
        ∃ t, exec c s = .next t ∧ s.turnsAway t q.rq abortDenied) ∧
      (q.opcode = 2 → rightsDue r q = true → (s.layers.l7Locked = false ∨ closedByLock q.obj = false) →
        (r.access = .ro → ∃ t, exec c s = .next t ∧ s.turnsAway t q.rq abortReadOnly) ∧
        (r.access ≠ .ro → q.rq.role < r.role → ∃ t, exec c s = .next t ∧ s.turnsAway t q.rq abortDenied)) ∧
      (q.opcode = 1 → (r.access = .wo ∨ r.access = .cmd) →
        ∃ t, exec c s = .next t ∧ s.turnsAway t q.rq abortWriteOnly) ∧
      (∀ right, right = (if q.opcode = 1 then readRight r else s.writeAbort r q.obj q.rq.role) → right = 0 →
        (s.reach r q.obj = .asleep → ∃ t, exec c s = .next t ∧ t.answered q.rq abortAsleep = true ∧
          t.reg Obj.ASLEEP_ABORTS = (s.reg Obj.ASLEEP_ABORTS + 1) % 2 ^ 32 ∧
          s.hostFrame t [] [Obj.COP_ABORTS, Obj.COP_LAST_ABORT, Obj.ASLEEP_ABORTS] []) ∧
        (∀ i, s.reach r q.obj = .hold i → ∃ t, exec c s = .next t ∧ t.cop.held = [q] ∧ t.island i = .waking ∧
          (∀ j, j ≠ i → t.island j = s.island j) ∧ t.cop.responses = s.cop.responses ∧
          s.hostFrame t [.cop, .device] [] [])) ∧
      (q.opcode = 2 → s.writeAbort r q.obj q.rq.role = 0 → s.reach r q.obj = .ready → s.comesWhole r q = true →
        (s.barred r q.obj = true → ∃ t, exec c s = .next t ∧ s.turnsAway t q.rq abortRunning) ∧
        (s.barred r q.obj = false → lengthOk r q.data.length = false →
          ∃ t, exec c s = .next t ∧ s.turnsAway t q.rq abortLength)))

/-- READ and WRITE of an object without a rule of its own: a read gives the number or the bytes of the object, from
OFFSET and at most 1 448 of them, and changes nothing; a write holds the value with reserved bits dropped, a whole
table write replaces bytes as far as it reaches, and a segment that is not the last joins its transfer. Clauses rest
on choices of the model: assumption log 130. -/
def Obligations.PlainObjectsAreReadAndHeld : Prop :=
  (∀ (s u : State) (rq : Req) (index sub offset n sel : Nat) (snapshot : Bool) (r : ObjRow) (q : Request),
    q = { rq := rq, opcode := 1, obj := index * 256 + sub, seg := { isFirst := false, isLast := false, offset := offset }
          snapshot := snapshot, data := [] } →
    s.admitsRead q = true → u = s.asked q → rowOf q.obj = some r →
    (r.ty = .fixed n ∨ r.ty = .bool ∧ n = 1) → u.bankOf q.obj = some sel →
    u.openReading q.obj = none → countedBy q.obj u = u →
    (q.obj = Obj.X_MAP_ENTRY → u.reg Obj.X_MAP_INDEX < 2048) →
    ∃ t, exec (.copRead rq index sub offset snapshot) s = .next t ∧ t.answered rq 0 = true ∧
      t.answerData = natLE n ((u.formed q.obj).getD (u.regAt q.obj sel)) ∧ s.hostFrame t [] [] []) ∧
  (∀ (s u : State) (rq : Req) (index sub offset n : Nat) (snapshot : Bool) (r : ObjRow) (q : Request),
    q = { rq := rq, opcode := 1, obj := index * 256 + sub, seg := { isFirst := false, isLast := false, offset := offset }
          snapshot := snapshot, data := [] } →
    s.admitsRead q = true → u = s.asked q → rowOf q.obj = some r → r.ty = .domain n → removesData q.obj = false →
    (snapshot = true → offset = 0 ∧ s.hasSpace rq.who = true) →
    ∃ t, exec (.copRead rq index sub offset snapshot) s = .next t ∧ t.answered rq 0 = true ∧
      t.answerData = (((u.formedBytes q.obj).getD (u.tabBytes q.obj 0 n)).drop offset).take 1448 ∧
      (snapshot = false → s.hostFrame t [] [] []) ∧
      (snapshot = true → s.hostFrame t [.cop] [] [] ∧ { t.cop.quiet with snapshots := s.cop.snapshots } = s.cop.quiet ∧
        ∃ x, x ∈ t.cop.snapshots ∧ x.who = rq.who ∧ x.obj = q.obj ∧
          x.data = (u.formedBytes q.obj).getD (u.tabBytes q.obj 0 n))) ∧
  (∀ (s : State) (rq : Req) (index sub : Nat) (seg : Segment) (data : Bytes) (r : ObjRow),
    s.admits { rq := rq, opcode := 2, obj := index * 256 + sub, seg := seg, snapshot := false, data := data } = true →
    rowOf (index * 256 + sub) = some r → (r.ty = .bool ∨ ∃ n, r.ty = .fixed n) →
    (actionOf (index * 256 + sub)).isNone = true →
    ∃ t, exec (.copWrite rq index sub seg data) s = .next t ∧ t.answered rq 0 = true ∧
      t.reg (index * 256 + sub) = (if r.ty = .bool then min (leNat data) 1 else Nat.land (leNat data) r.mask) ∧
      s.hostFrame t [] [index * 256 + sub] []) ∧
  (∀ (s : State) (rq : Req) (index sub n : Nat) (seg : Segment) (data : Bytes) (r : ObjRow),
    s.admits { rq := rq, opcode := 2, obj := index * 256 + sub, seg := seg, snapshot := false, data := data } = true →
    rowOf (index * 256 + sub) = some r → r.ty = .domain n → n ≤ 131072 → (actionOf (index * 256 + sub)).isNone = true →
    ∃ t, exec (.copWrite rq index sub seg data) s = .next t ∧
      t.answered rq 0 = true ∧
      (∀ j, j < 131072 → t.tabByte (index * 256 + sub) j =
        if j < min n data.length then (heldBytes (index * 256 + sub) data).getD j 0#8
        else s.tabByte (index * 256 + sub) j) ∧ s.hostFrame t [] [] [index * 256 + sub]) ∧
  (∀ (s : State) (rq : Req) (index sub : Nat) (data : Bytes) (r : ObjRow) (q : Request),
    q = { rq := rq, opcode := 2, obj := index * 256 + sub, seg := { isFirst := true, isLast := false, offset := 0 }
          snapshot := false, data := data } →
    s.hears q = true → s.findObj q.obj = some r → s.writeAbort r q.obj rq.role = 0 → s.reach r q.obj = .ready →
    segmented r q.obj = true → s.hasSpace rq.who = true → (∀ a ∈ s.cop.assemblies, a.who ≠ rq.who) →
    ∃ t, exec (.copWrite rq index sub q.seg data) s = .next t ∧ t.answered rq 0 = true ∧
      t.cop.quiet = { s.cop.quiet with assemblies := s.cop.assemblies ++
        [{ who := rq.who, obj := q.obj, opcode := 2, data := data, lastTick := s.ticks }] } ∧
      s.hostFrame t [.cop] [] [])

/-- STAGE enters a whole write into the sender's batch, which the first one opens, and writes nothing; COMMIT gives the
batch the next sequence and answers it, and applies it at once when no frame boundary is to come and NOT_BEFORE is
reached; ABANDON discards it. Another requester's batch, a committed one and a missing one turn the request away.
Clauses rest on choices of the model: assumption log 75, 76. -/
def Obligations.BatchesAreStagedCommittedAndAbandoned : Prop :=
  (∀ (s : State) (rq : Req) (index sub : Nat) (seg : Segment) (data : Bytes) (r : ObjRow) (b : Batch) (q : Request),
    q = { rq := rq, opcode := 3, obj := index * 256 + sub, seg := seg, snapshot := false, data := data } →
    s.hears q = true → s.findObj q.obj = some r → s.writeAbort r q.obj rq.role = 0 → s.barred r q.obj = false →
    lengthOk r data.length = true → s.comesWhole r q = true →
    (s.cop.batch = some b ∨ s.cop.batch = none ∧
      b = { owner := rq.who, entries := [], committed := false, notBefore := none, commitTick := 0 }) →
    b.owner = rq.who → b.committed = false → b.entries.length < 4096 → b.size + data.length ≤ 262144 →
    ∃ t, exec (.copStage rq index sub seg data) s = .next t ∧ t.answered rq 0 = true ∧
      t.cop.quiet = { s.cop.quiet with
        batch := some { b with entries := b.entries ++ [{ rq := rq, obj := q.obj, data := data }] } } ∧
      s.hostFrame t [.cop] [] []) ∧
  (∀ (s : State) (rq : Req) (index sub : Nat) (seg : Segment) (data : Bytes) (b : Batch) (q : Request),
    q = { rq := rq, opcode := 3, obj := index * 256 + sub, seg := seg, snapshot := false, data := data } →
    s.hears q = true → s.cop.batch = some b → (b.owner ≠ rq.who ∨ b.committed = true) →
    ∃ t, exec (.copStage rq index sub seg data) s = .next t ∧ s.turnsAway t rq abortBatchHeld) ∧
  (∀ (s : State) (rq : Req) (notBefore : Option Time80) (b : Batch),
    s.hears (bareRequest rq 4 (notBeforeBytes notBefore)) = true → s.cop.batch = some b → b.owner = rq.who →
    b.committed = false →
    ∃ t, exec (.copCommit rq notBefore) s = .next t ∧
      (s.reg Obj.SCAN_STATE ≠ 0 ∨
          ({ b with notBefore := notBeforeOf (notBeforeBytes notBefore) } : Batch).reached s.nowNs = false →
        t.answered rq 0 = true ∧ t.reg Obj.BATCH_SEQUENCE = (s.reg Obj.BATCH_SEQUENCE + 1) % 2 ^ 32 ∧
        t.answerData = natLE 4 (t.reg Obj.BATCH_SEQUENCE) ∧
        t.cop.quiet = { s.cop.quiet with
          batch := some { b with committed := true, notBefore := notBeforeOf (notBeforeBytes notBefore)
                                 commitTick := s.ticks } } ∧
        s.hostFrame t [.cop] [Obj.BATCH_SEQUENCE] []) ∧
      (s.reg Obj.SCAN_STATE = 0 →
          ({ b with notBefore := notBeforeOf (notBeforeBytes notBefore) } : Batch).reached s.nowNs = true →
        t.cop.batch = none ∧ t.reg Obj.BATCH_LAST_APPLIED = (s.reg Obj.BATCH_SEQUENCE + 1) % 2 ^ 32 ∧
        t.reg Obj.BATCH_LAST_COUNT + t.reg Obj.BATCH_LAST_FAILED = b.entries.length ∧
        t.reg Obj.BATCH_LAST_TIME = s.stamp ∧
        (b.entries = [] → t.answered rq 0 = true ∧ t.answerData = natLE 4 (t.reg Obj.BATCH_SEQUENCE) ∧
          t.reg Obj.BATCH_SEQUENCE = (s.reg Obj.BATCH_SEQUENCE + 1) % 2 ^ 32 ∧
          t.cop.quiet = { s.cop.quiet with batch := none } ∧
          s.hostFrame t [.cop] [Obj.BATCH_SEQUENCE, Obj.BATCH_LAST_APPLIED, Obj.BATCH_LAST_COUNT, Obj.BATCH_LAST_FAILED,
            Obj.BATCH_LAST_TIME] [Obj.BATCH_FIRST_FAILURE]))) ∧
  (∀ (s : State) (rq : Req) (b : Batch), s.hears (bareRequest rq 5 []) = true → s.cop.batch = some b → b.owner = rq.who →
    b.committed = false →
    ∃ t, exec (.copAbandon rq) s = .next t ∧ t.answered rq 0 = true ∧
      t.cop.quiet = { s.cop.quiet with batch := none } ∧ s.hostFrame t [.cop] [] []) ∧
  (∀ (s : State) (rq : Req) (notBefore : Option Time80),
    (s.hears (bareRequest rq 4 (notBeforeBytes notBefore)) = true →
      (s.cop.batch = none → ∃ t, exec (.copCommit rq notBefore) s = .next t ∧ s.turnsAway t rq abortNoBatch) ∧
      (∀ b, s.cop.batch = some b → (b.owner ≠ rq.who ∨ b.committed = true) →
        ∃ t, exec (.copCommit rq notBefore) s = .next t ∧ s.turnsAway t rq abortBatchHeld)) ∧
    (s.hears (bareRequest rq 5 []) = true →
      (s.cop.batch = none → ∃ t, exec (.copAbandon rq) s = .next t ∧ s.turnsAway t rq abortNoBatch) ∧
      (∀ b, s.cop.batch = some b → (b.owner ≠ rq.who ∨ b.committed = true) →
        ∃ t, exec (.copAbandon rq) s = .next t ∧ s.turnsAway t rq abortBatchHeld)))

/-- Commands of the boot flash start an operation, and one is in progress at a time: keys, T1S settings, the firmware
slot that is not running, the calibration copy, the evacuation image. Clauses rest on choices of the model:
assumption log 38, 39. -/
def Obligations.FlashCommandsStartOneOperation : Prop :=
  (∀ (s : State) (rq : Req) (role : Nat) (data : Bytes), 1 ≤ role → role ≤ 3 →
    s.admitsWrite rq (0x111000 + role) data = true → s.cop.flashJob = none →
    ∃ t, exec (.keyWrite rq role data) s = .next t ∧
      s.startsJob t rq 0x20000 (.key role (leNat data)) (some (wholeWrite rq (0x111000 + role) data)) [] []) ∧
  (∀ (s : State) (rq : Req) (sub : Nat) (data : Bytes), sub < 256 → s.admitsWrite rq (0x112000 + sub) data = true →
    s.cop.flashJob = none →
    ∃ t, exec (.t1sConfigWrite rq sub data) s = .next t ∧
      s.startsJob t rq 0x20000 (.t1s sub (leNat data)) none [0x112000 + sub] [] ∧
      (Config.flashSize < 0x20000 ∨ ∀ r, rowOf (0x112000 + sub) = some r →
        t.reg (0x112000 + sub) = heldValue r (leNat data))) ∧
  (∀ (s : State) (rq : Req) (data : Bytes), s.admitsWrite rq Obj.FW_UPDATE_BEGIN data = true → s.cop.flashJob = none →
    leNat data ≤ slotSize →
    ∃ t, exec (.fwUpdateBegin rq data) s = .next t ∧
      s.startsJob t rq (slotEnd s.idleSlot) (.eraseSlot s.idleSlot) (some (wholeWrite rq Obj.FW_UPDATE_BEGIN data)) [] []) ∧
  (∀ (s : State) (rq : Req) (seg : Segment) (data : Bytes),
    s.admits { wholeWrite rq Obj.FW_IMAGE data with seg := seg } = true → s.cop.flashJob = none →
    seg.offset + data.length ≤ slotSize →
    ∃ t, exec (.fwImage rq seg data) s = .next t ∧
      s.startsJob t rq (slotEnd s.idleSlot) (.program s.idleSlot seg.offset data)
        (some { wholeWrite rq Obj.FW_IMAGE data with seg := seg }) [] []) ∧
  (∀ (s : State) (rq : Req) (data : Bytes), s.admitsWrite rq Obj.FW_UPDATE_VERIFY data = true → s.cop.flashJob = none →
    ∃ t, exec (.fwUpdateVerify rq data) s = .next t ∧
      s.startsJob t rq (slotEnd s.idleSlot) (.verify s.idleSlot) (some (wholeWrite rq Obj.FW_UPDATE_VERIFY data)) [] []) ∧
  (∀ (s : State) (rq : Req) (slot : Nat), s.admitsWrite rq Obj.FW_ACTIVATE (natLE 1 1) = true → s.cop.flashJob = none →
    s.cop.verified = some slot →
    ∃ t, exec (.fwActivateNextReset rq) s = .next t ∧
      s.startsJob t rq 0x10000 (.activate slot false) (some (wholeWrite rq Obj.FW_ACTIVATE (natLE 1 1))) [] []) ∧
  (∀ (s : State) (rq : Req) (slot : Nat), s.admitsWrite rq Obj.FW_ACTIVATE (natLE 1 2) = true → s.cop.flashJob = none →
    s.cop.verified = some slot →
    ∃ t, exec (.fwActivateNow rq) s = .next t ∧
      s.startsJob t rq 0x10000 (.activate slot true) (some (wholeWrite rq Obj.FW_ACTIVATE (natLE 1 2))) [] []) ∧
  (∀ (s : State) (rq : Req) (data : Bytes), s.admitsWrite rq Obj.FW_CONFIRM data = true → s.cop.flashJob = none →
    s.trialRuns = true →
    ∃ t, exec (.fwConfirm rq data) s = .next t ∧
      s.startsJob t rq 0x10000 .confirm (some (wholeWrite rq Obj.FW_CONFIRM data)) [] []) ∧
  (∀ (s : State) (rq : Req) (data : Bytes), s.admitsWrite rq Obj.CAL_FLASH_SAVE data = true → s.cop.flashJob = none →
    ∃ t, exec (.calFlashSave rq data) s = .next t ∧
      s.startsJob t rq calEnd .calSave none [Obj.CAL_FLASH_STATE] [] ∧
      (Config.flashSize < calEnd ∨ t.reg Obj.CAL_FLASH_STATE = 1)) ∧
  (∀ (s : State) (rq : Req) (data : Bytes), s.admitsWrite rq Obj.CAL_FLASH_LOAD data = true → s.cop.flashJob = none →
    ∃ t, exec (.calFlashLoad rq data) s = .next t ∧
      s.startsJob t rq calEnd .calLoad none [Obj.CAL_FLASH_STATE] [] ∧
      (Config.flashSize < calEnd ∨ t.reg Obj.CAL_FLASH_STATE = 2)) ∧
  (∀ (s : State) (rq : Req) (data : Bytes), s.admitsWrite rq Obj.EVAC_IMAGE_SAVE data = true → s.cop.flashJob = none →
    s.flag Obj.BEACON_VALID = true →
    ∃ t, exec (.evacImageSave rq data) s = .next t ∧ s.startsJob t rq (evacArea + 0x100000) .evacSave none [] [])

/-- A fault log write goes before an operation in progress, which waits; rolling the minimum forward and revoking key
slot 0 are for good; firmware commands out of their conditions answer "resource busy" or "image too long". -/
def Obligations.FirmwareFusesAndTheFaultLog : Prop :=
  (∀ (s : State) (rq : Req) (data : Bytes), s.admitsWrite rq Obj.FAULT_LOG_WRITE data = true → s.cop.flashJob = none →
    ∃ t, exec (.faultLogWrite rq data) s = .next t ∧ s.startsJob t rq 0x60000 (.faultLog 3) none [] []) ∧
  (∀ (s : State) (rq : Req) (data : Bytes) (j : FlashJob), s.admitsWrite rq Obj.FAULT_LOG_WRITE data = true →
    s.cop.flashJob = some j →
    ∃ t, exec (.faultLogWrite rq data) s = .next t ∧
      (Config.flashSize < 0x60000 ∨ t.cop.flashJob = some { work := .faultLog 3, answer := none } ∧
        t.cop.flashPaused = j :: s.cop.flashPaused ∧ t.answered rq 0 = true ∧ s.hostFrame t [.cop] [Obj.FLASH_STATE] [])) ∧
  (∀ (s : State) (rq : Req) (data : Bytes), s.admitsWrite rq Obj.FW_ROLLBACK_COMMIT data = true →
    ∃ t, exec (.fwRollbackCommit rq data) s = .next t ∧ t.answered rq 0 = true ∧
      t.cop.rollbackRaised = max s.cop.rollbackRaised s.cop.runRollback ∧ s.rollbackMin ≤ t.rollbackMin ∧
      { t.cop.withoutJob with rollbackRaised := 0 } = { s.cop.withoutJob with rollbackRaised := 0 } ∧
      s.hostFrame t [.cop] [] []) ∧
  (∀ (s : State) (rq : Req) (data : Bytes), s.admitsWrite rq Obj.FW_KEY_REVOKE data = true → s.cop.runKeySlot = 1 →
    s.reg Obj.FW_SLOT_RUNNING ≤ 1 →
    ∃ t, exec (.fwKeyRevoke rq data) s = .next t ∧ t.answered rq 0 = true ∧ t.cop.slot0Revoked = true ∧
      { t.cop.withoutJob with slot0Revoked := false } = { s.cop.withoutJob with slot0Revoked := false } ∧
      s.hostFrame t [.cop] [] []) ∧
  (∀ (s : State) (rq : Req) (data : Bytes), s.admitsWrite rq Obj.FW_KEY_REVOKE data = true → s.cop.runKeySlot ≠ 1 →
    ∃ t, exec (.fwKeyRevoke rq data) s = .next t ∧ s.turnsAway t rq abortBusy) ∧
  (∀ (s : State) (rq : Req) (data : Bytes), s.admitsWrite rq Obj.FW_UPDATE_BEGIN data = true → slotSize < leNat data →
    ∃ t, exec (.fwUpdateBegin rq data) s = .next t ∧ s.turnsAway t rq abortImageLong) ∧
  (∀ (s : State) (rq : Req) (data : Bytes), s.admitsWrite rq Obj.FW_CONFIRM data = true → s.trialRuns = false →
    ∃ t, exec (.fwConfirm rq data) s = .next t ∧ s.turnsAway t rq abortBusy) ∧
  (∀ (s : State) (rq : Req), s.admitsWrite rq Obj.FW_ACTIVATE (natLE 1 1) = true → s.cop.verified = none →
    ∃ t, exec (.fwActivateNextReset rq) s = .next t ∧ s.turnsAway t rq abortBusy)

/-- The end of a flash operation: what one that succeeds writes to the record, the slots, the boot record, the log and
the saved images; one that fails changes nothing of these. The operation is over, its request is answered, and one
that it pre-empted goes on; FW_ACTIVATE now leads to a reset. Clauses rest on choices of the model: assumption log
40, 44, 45. -/
def Obligations.FlashOperationsTakeEffectOnCompletion : Prop :=
  (∀ (s : State) (role v : Nat) (answer : Option Request), s.acts 6 = true →
    s.cop.flashJob = some { work := .key role v, answer := answer } →
    ∃ t, exec (.flashWriteComplete true) s = .next t ∧ t.cop.keys = s.cop.keys.withKey role v ∧
      t.cop.record = s.cop.record.withKey role v ∧ s.jobEnded t answer true 0 ∧
      s.frame t [.cop, .answer, .out] [Obj.FLASH_STATE] []) ∧
  (∀ (s : State) (sub v : Nat) (answer : Option Request), s.acts 6 = true →
    s.cop.flashJob = some { work := .t1s sub v, answer := answer } →
    ∃ t, exec (.flashWriteComplete true) s = .next t ∧ t.cop.keys = s.cop.keys ∧
      t.cop.record = s.cop.record.withT1s sub v ∧ s.jobEnded t answer true 0 ∧
      s.frame t [.cop, .answer, .out] [Obj.FLASH_STATE] []) ∧
  (∀ (s : State) (data : Bytes) (answer : Option Request), s.acts 6 = true →
    s.cop.flashJob = some { work := .identity data, answer := answer } →
    ∃ t, exec (.flashWriteComplete true) s = .next t ∧ t.flashBytes 0x20000 data.length = data ∧
      (∀ a, a < 0x20000 ∨ 0x20000 + data.length ≤ a →
        Sparse.get flashDefault t.flash a = Sparse.get flashDefault s.flash a) ∧
      s.jobEnded t answer true 0 ∧ s.frame t [.cop, .flash, .answer, .out] [Obj.FLASH_STATE] []) ∧
  (∀ (s : State) (slot o : Nat) (data : Bytes) (answer : Option Request), s.acts 6 = true →
    s.cop.flashJob = some { work := .program slot o data, answer := answer } →
    ∃ t, exec (.flashWriteComplete true) s = .next t ∧ t.flashBytes (slotBase slot + o) data.length = data ∧
      (∀ a, a < slotBase slot + o ∨ slotBase slot + o + data.length ≤ a →
        Sparse.get flashDefault t.flash a = Sparse.get flashDefault s.flash a) ∧
      s.jobEnded t answer true 0 ∧ s.frame t [.cop, .flash, .answer, .out] [Obj.FLASH_STATE, Obj.FW_SLOT_STATES] []) ∧
  (∀ (s : State) (slot : Nat) (answer : Option Request), s.acts 6 = true →
    s.cop.flashJob = some { work := .eraseSlot slot, answer := answer } →
    ∃ t, exec (.flashWriteComplete true) s = .next t ∧
      (∀ a, Sparse.get flashDefault t.flash a =
        if slotBase slot ≤ a ∧ a < slotEnd slot then 0xFF#8 else Sparse.get flashDefault s.flash a) ∧
      s.jobEnded t answer true 0 ∧ s.frame t [.cop, .flash, .answer, .out] [Obj.FLASH_STATE, Obj.FW_SLOT_STATES] []) ∧
  (∀ (s : State) (slot : Nat) (answer : Option Request), s.acts 6 = true →
    s.cop.flashJob = some { work := .verify slot, answer := answer } →
    ∃ t, exec (.flashWriteComplete true) s = .next t ∧
      (s.imageOk slot = true → t.cop.verified = some slot ∧ s.jobEnded t answer true 0) ∧
      (s.imageOk slot = false → t.cop.verified = s.cop.verified ∧ s.jobEnded t answer true abortImage) ∧
      s.frame t [.cop, .answer, .out]
        [Obj.FLASH_STATE, Obj.FW_SLOT_STATES, Obj.COP_ABORTS, Obj.COP_LAST_ABORT] []) ∧
  (∀ (s : State) (slot : Nat) (answer : Option Request), s.acts 6 = true →
    s.cop.flashJob = some { work := .activate slot false, answer := answer } →
    ∃ t, exec (.flashWriteComplete true) s = .next t ∧
      (∀ a, 0x10000 ≤ a → Sparse.get flashDefault t.flash a = Sparse.get flashDefault s.flash a) ∧
      t.flash = (writeBoot { s.bootRecord with trial := slot, started := 0 } s).flash ∧
      s.jobEnded t answer true 0 ∧ s.frame t [.cop, .flash, .answer, .out] [Obj.FLASH_STATE, Obj.FW_SLOT_STATES] []) ∧
  (∀ (s : State) (slot : Nat) (answer : Option Request), s.acts 6 = true →
    s.cop.flashJob = some { work := .activate slot true, answer := answer } →
    ∃ t, exec (.flashWriteComplete true) s = .next t ∧
      t.flash = (writeBoot { s.bootRecord with trial := slot, started := 0 } s).flash ∧ t.device.resetCause = 3 ∧
      t.device.phase ≠ .running) ∧
  (∀ (s : State) (answer : Option Request), s.acts 6 = true →
    s.cop.flashJob = some { work := .confirm, answer := answer } →
    ∃ t, exec (.flashWriteComplete true) s = .next t ∧
      t.flash = (writeBoot { s.bootRecord with active := s.bootRecord.trial, trial := 0xFF, started := 0 } s).flash ∧
      s.jobEnded t answer true 0 ∧ s.frame t [.cop, .flash, .answer, .out] [Obj.FLASH_STATE, Obj.FW_SLOT_STATES] []) ∧
  (∀ (s : State) (reason : Nat) (answer : Option Request), s.acts 6 = true →
    s.cop.flashJob = some { work := .faultLog reason, answer := answer } →
    ∃ t, exec (.flashWriteComplete true) s = .next t ∧
      t.flashBytes (0x30000 + 64 * (s.reg Obj.FAULT_LOG_NEXT % 3072)) 64 = s.faultRecord reason ∧
      t.reg Obj.FAULT_LOG_NEXT = (s.reg Obj.FAULT_LOG_NEXT % 3072 + 1) % 3072 ∧ s.jobEnded t answer true 0 ∧
      s.frame t [.cop, .flash, .answer, .out] [Obj.FLASH_STATE, Obj.FAULT_LOG_NEXT] []) ∧
  (∀ (s : State) (answer : Option Request), s.acts 6 = true →
    s.cop.flashJob = some { work := .evacSave, answer := answer } →
    ∃ t, exec (.flashWriteComplete true) s = .next t ∧ t.reg Obj.EVAC_IMAGE_STATE = 1 ∧
      t.flash = (s.programFlash evacArea (s.beaconBytes 0 0x100000)).flash ∧
      s.jobEnded t answer true 0 ∧ s.frame t [.cop, .flash, .answer, .out] [Obj.FLASH_STATE, Obj.EVAC_IMAGE_STATE] []) ∧
  (∀ (s : State) (work : FlashWork) (answer : Option Request), s.acts 6 = true →
    s.cop.flashJob = some { work := work, answer := answer } → work.isCal = false → work ≠ .evacLoad →
    ∃ t, exec (.flashWriteComplete false) s = .next t ∧ t.cop.keys = s.cop.keys ∧ t.cop.record = s.cop.record ∧
      t.cop.verified = s.cop.verified ∧ 0 < Sparse.get (fun _ => 0) t.fault.waiting 20 ∧
      (work = .evacSave → t.reg Obj.EVAC_IMAGE_STATE = 3) ∧ s.jobEnded t answer false abortFlash ∧
      s.frame t [.cop, .fault, .answer, .out]
        [Obj.FLASH_STATE, Obj.EVAC_IMAGE_STATE, Obj.COP_ABORTS, Obj.COP_LAST_ABORT] []) ∧
  (∀ (s : State) (answer : Option Request), s.acts 6 = true →
    s.cop.flashJob = some { work := .calLoad, answer := answer } →
    ∃ t, exec (.calFlashComplete true) s = .next t ∧
      (s.calHeaderOk = false → t.reg Obj.CAL_FLASH_STATE = 5 ∧ s.jobEnded t answer true 0 ∧
        s.frame t [.cop, .answer, .out] [Obj.FLASH_STATE, Obj.CAL_FLASH_STATE] []) ∧
      (s.calHeaderOk = true → t.reg Obj.CAL_FLASH_STATE =
          (if s.flashNat (calHeader + 4) 2 = s.calGeometry.1 ∧ s.flashNat (calHeader + 6) 2 = s.calGeometry.2
            then 3 else 4) ∧
        s.jobEnded t answer true 0 ∧ t.flash = s.flash)) ∧
  (∀ (s : State) (answer : Option Request) (records : Bytes), s.acts 6 = true →
    s.cop.flashJob = some { work := .calSave, answer := answer } → s.calRecordsRead = some records →
    ∃ t, exec (.calFlashComplete true) s = .next t ∧ t.reg Obj.CAL_FLASH_STATE = 3 ∧ t.mem = s.mem ∧
      t.flash = ((s.programFlash calRecords records).programFlash calHeader (s.calHeaderOf records)).flash ∧
      s.jobEnded t answer true 0)

/-- A scan catch whose grid time has come is issued: the next catch of the grid is due, every band that sends timing
symbols has it to send, and H07 has carried it. A catch that H07 left unaligned is counted and raises FS58, one that
is re-anchored raises FS57; a frame catch leaves its grid time in LAST_FRAME_CATCH, and the second one after
configuration begins the strokes. Clauses rest on choices of the model: assumption log 49, 129. -/
def Obligations.CatchesAreIssuedOnTheGrid : Prop :=
  (∀ s : State, s.acts 5 = true → s.reg Obj.SCAN_STATE ≠ 0 → s.issuing = true → s.catchTime ≤ s.now →
    s.time.catchGen.j ≠ 0 → s.time.catchGen.unaligned = false →
    ∃ t, exec .catchIssue s = .next t ∧
      (s.time.catchGen.j + 1 < s.scan.timing.cycles →
        t.time.catchGen.m = s.time.catchGen.m ∧ t.time.catchGen.j = s.time.catchGen.j + 1) ∧
      (s.scan.timing.cycles ≤ s.time.catchGen.j + 1 →
        t.time.catchGen.j = 0 ∧ (t.time.catchGen.reanchor = false → t.time.catchGen.m = s.time.catchGen.m + 1)) ∧
      t.time.catchGen.lastTick = some s.ticks ∧ t.time.catchGen.hostDom = none ∧ t.time.catchGen.autoDom = none ∧
      t.ticks = s.ticks ∧ t.crossing 7 = (s.crossing 7).completed ∧ (∀ h, h ≠ 7 → t.crossing h = s.crossing h) ∧
      (s.time.catchGen.reanchor = true → t.reg Obj.CATCH_REANCHORS = (s.reg Obj.CATCH_REANCHORS + 1) % 2 ^ 32 ∧
        0 < Sparse.get (fun _ => 0) t.fault.waiting 57) ∧
      (∀ b, t.band b = if s.scan.strokes = true ∧ s.scan.stopReady = false ∧ b < s.bandCount then
        (s.band b).caught false (s.bandBlank b) else s.band b) ∧
      s.frame t [.time, .scan, .crossing, .fault, .diag, .traffic]
        [Obj.CATCH_REANCHORS, Obj.DOMAIN_SWITCHES, Obj.PROBE_RESULTS_LOST, Obj.PROBES_TAKEN] []) ∧
  (∀ s : State, s.acts 5 = true → s.reg Obj.SCAN_STATE ≠ 0 → s.issuing = true → s.time.catchGen.j ≠ 0 →
    s.time.catchGen.unaligned = true → s.strokeCountTick = some s.ticks →
    ∃ t, exec .catchIssue s = .next t ∧
      t.reg Obj.CATCHES_UNALIGNED = (s.reg Obj.CATCHES_UNALIGNED + 1) % 2 ^ 32 ∧
      0 < Sparse.get (fun _ => 0) t.fault.waiting 58 ∧ t.time.catchGen.unaligned = false ∧ t.ticks = s.ticks ∧
      (∀ h, t.crossing h = s.crossing h) ∧
      (∀ b, t.band b = if s.scan.strokes = true ∧ s.scan.stopReady = false ∧ b < s.bandCount then
        (s.band b).caught false (s.bandBlank b) else s.band b) ∧
      s.frame t [.time, .scan, .fault, .diag, .traffic]
        [Obj.CATCHES_UNALIGNED, Obj.CATCH_REANCHORS, Obj.DOMAIN_SWITCHES, Obj.PROBE_RESULTS_LOST, Obj.PROBES_TAKEN] []) ∧
  (∀ s : State, s.acts 5 = true → s.reg Obj.SCAN_STATE = 1 → s.issuing = true → s.catchTime ≤ s.now →
    s.time.catchGen.j = 0 → s.time.catchGen.unaligned = false → s.cop.batch = none → s.pipe.frame = none →
    s.scan.strokes = false → s.scan.configured = true →
    ∃ t, exec .catchIssue s = .next t ∧
      t.reg Obj.LAST_FRAME_CATCH =
        packTime ((s.gridCatch s.time.catchGen.m 0 / 4294967296).toNat * 4294967296) ∧
      t.scan.readyCatches = s.scan.readyCatches + 1 ∧ t.scan.strokes = decide (s.scan.readyCatches = 1) ∧
      (s.scan.readyCatches = 1 → ∀ b, b < s.bandCount → (s.band b).step = .ready → (t.band b).step = .running))

/-- The row in computation is finished and the next is due: every band of a row output, then the next row output, then
the frame is complete and counted. A row of a complete frame computes nothing. Clauses rest on choices of the model:
assumption log 51. -/
def Obligations.PipelineRowsFollowInOrder : Prop :=
  (∀ (s : State) (faults : List RowFault) (f : FrameWork), s.acts 1 = true → s.pipe.frame = some f →
    f.finished = false →
    ∃ t g, exec (.pipelineRowCompute faults) s = .next t ∧ t.pipe.frame = some g ∧ g.k = f.k ∧
      t.pipe.readyRows = (f.band * 32 + f.row) :: s.pipe.readyRows ∧
      (f.band + 1 < s.bandCount → g.band = f.band + 1 ∧ g.row = f.row ∧ g.finished = false) ∧
      (s.bandCount ≤ f.band + 1 → f.row + 1 < s.scan.rows → g.band = 0 ∧ g.row = f.row + 1 ∧ g.finished = false) ∧
      (s.bandCount ≤ f.band + 1 → s.scan.rows ≤ f.row + 1 →
        g.finished = true ∧ t.reg Obj.PIPELINE_FRAMES = (s.reg Obj.PIPELINE_FRAMES + 1) % 2 ^ 32 ∧
        t.reg Obj.DITHER_FRAME = f.k % 256) ∧
      (∀ h, h ∉ [2, 3, 4] → t.crossing h = s.crossing h) ∧
      s.frame t [.regs, .tabs, .mem, .staging, .answer, .fault, .pipe, .layers, .diag, .traffic, .memory, .safety, .free,
        .crossing] [] []) ∧
  (∀ (s : State) (faults : List RowFault) (f : FrameWork), s.acts 1 = true → s.pipe.frame = some f → f.finished = true →
    ∃ t, exec (.pipelineRowCompute faults) s = .next t ∧ s.frame t [] [] [])

/-- Ingest profiles: a write holds its value and starts a recomputation of the profile, or another after the one that
runs; TARGET_PRIMARIES does so for all four. The result waits in the shadow for a pipeline start. THERMAL_RESET
zeroes the rises; X_MAP_FILL fills the column map with the scan drive stopped, and is turned away otherwise. Clauses
rest on choices of the model: assumption log 148. -/
def Obligations.IngestProfilesAreRecomputed : Prop :=
  (∀ (s : State) (rq : Req) (p sub : Nat) (data : Bytes) (r : ObjRow), p < 4 → sub < 256 →
    s.admitsWrite rq ((0x3010 + p) * 256 + sub) data = true → rowOf ((0x3010 + p) * 256 + sub) = some r →
    ∃ t, exec (.ingestProfileWrite rq p sub data) s = .next t ∧ t.answered rq 0 = true ∧
      (∀ n, r.ty = .fixed n → t.reg ((0x3010 + p) * 256 + sub) = Nat.land (leNat data) r.mask) ∧
      ((0x3010 + p) * 256 + sub = Obj.INGEST_TABLE p →
        (t.profile p).custom = replaceEntries (s.profile p).custom data) ∧
      ((0x3010 + p) * 256 + sub ≠ Obj.INGEST_TABLE p → (t.profile p).custom = (s.profile p).custom) ∧
      ((s.profile p).working = none →
        (t.profile p).working = some (t.computeProfile p) ∧ (t.profile p).again = (s.profile p).again) ∧
      ((s.profile p).working ≠ none →
        (t.profile p).working = (s.profile p).working ∧ (t.profile p).again = true) ∧
      (t.profile p).force = (s.profile p).force ∧ (∀ k, k ≠ p → t.profile k = s.profile k) ∧
      s.hostFrame t [.pipe, .layers] [(0x3010 + p) * 256 + sub, Obj.L7_ARM_STATE] []) ∧
  (∀ (s : State) (rq : Req) (data : Bytes), s.admitsWrite rq Obj.TARGET_PRIMARIES data = true →
    ∃ t, exec (.targetPrimariesWrite rq data) s = .next t ∧ t.answered rq 0 = true ∧
      t.reg Obj.TARGET_PRIMARIES = leNat data ∧
      (∀ p, p < 4 → (s.profile p).working = none → (t.profile p).working = some (t.computeProfile p)) ∧
      (∀ p, p < 4 → (s.profile p).working ≠ none → (t.profile p).again = true) ∧
      s.hostFrame t [.pipe, .layers] [Obj.TARGET_PRIMARIES, Obj.L7_ARM_STATE] []) ∧
  (∀ (s : State) (p : Nat) (w : ProfileForce), s.acts 1 = true → (s.profile p).working = some w →
    ∃ t, exec (.ingestRecomputeComplete p) s = .next t ∧ (t.profile p).ready = some w ∧
      (t.profile p).force = (s.profile p).force ∧ (t.profile p).again = false ∧
      (t.profile p).working = (if (s.profile p).again then some (s.computeProfile p) else none) ∧
      (∀ k, k ≠ p → t.profile k = s.profile k) ∧ s.frame t [.pipe] [] []) ∧
  (∀ (s : State) (rq : Req) (data : Bytes), s.admitsWrite rq Obj.THERMAL_RESET data = true →
    ∃ t, exec (.thermalReset rq data) s = .next t ∧ t.answered rq 0 = true ∧ t.pipe = { s.pipe with rise := [] } ∧
      s.hostFrame t [.pipe] [] []) ∧
  (∀ (s : State) (rq : Req) (data : Bytes), s.admitsWrite rq Obj.X_MAP_FILL data = true →
    ∃ t, exec (.xMapFill rq data) s = .next t ∧ t.answered rq 0 = true ∧
      (∀ x, x < 2048 → t.mapEntry x = fillEntry (leNat data) (min (s.reg Obj.TILE_WIDTH) 2048) x) ∧
      s.hostFrame t [] [] [Obj.X_MAP]) ∧
  (∀ (s : State) (rq : Req) (data : Bytes) (r : ObjRow) (q : Request), q = wholeWrite rq Obj.X_MAP_FILL data →
    s.hears q = true → s.findObj Obj.X_MAP_FILL = some r → s.writeAbort r Obj.X_MAP_FILL rq.role = 0 →
    s.reach r Obj.X_MAP_FILL = .ready → s.reg Obj.SCAN_STATE ≠ 0 →
    ∃ t, exec (.xMapFill rq data) s = .next t ∧ s.turnsAway t rq abortRunning)

/-- LAYER_CREATE, LAYER_DESTROY and LAYER_SUBMIT: a free layer is created with its handle and every other object of its
group at its default; a destruction waits for its boundary and discards a pending submission; a submission takes the
NEXT objects and replaces one that waits. Stale handles, taken layers and wrong sources are turned away. Clauses
rest on choices of the model: assumption log 140. -/
def Obligations.LayersAreCreatedDestroyedAndSubmitted : Prop :=
  (∀ (s : State) (rq : Req) (data : Bytes) (l : Nat), s.admitsWrite rq Obj.LAYER_CREATE data = true → leNat data = l →
    l ≤ 7 → (l = 7 → rq.role = 3) → s.layerFree l = true →
    ∃ t, exec (.layerCreate rq data) s = .next t ∧ t.answered rq 0 = true ∧ t.reg (Obj.LAYER_STATE l) = 1 ∧
      t.reg (Obj.LAYER_HANDLE l) = handleOf 0x10 (s.layer l).gen l ∧ t.layer l = { gen := (s.layer l).gen, stream := if l = 0 then some 0 else none } ∧
      (∀ o, o ∈ layerObjects l → o ≠ Obj.LAYER_STATE l → o ≠ Obj.LAYER_HANDLE l → t.reg o = objDefault o) ∧
      (∀ k, k ≠ l → t.layer k = s.layer k) ∧
      s.hostFrame t [.layers] (Obj.LAYER_STATE l :: Obj.LAYER_HANDLE l :: layerObjects l) []) ∧
  (∀ (s : State) (rq : Req) (data : Bytes), s.admitsWrite rq Obj.LAYER_CREATE data = true →
    (7 < leNat data → ∃ t, exec (.layerCreate rq data) s = .next t ∧ s.turnsAway t rq abortNoObject) ∧
    (leNat data = 7 → rq.role ≠ 3 → ∃ t, exec (.layerCreate rq data) s = .next t ∧ s.turnsAway t rq abortDenied) ∧
    (leNat data < 7 → s.layerFree (leNat data) = false →
      ∃ t, exec (.layerCreate rq data) s = .next t ∧ s.turnsAway t rq abortBusy)) ∧
  (∀ (s : State) (rq : Req) (data : Bytes) (l : Nat), s.admitsWrite rq Obj.LAYER_DESTROY data = true →
    s.layerOf (leNat data) = some l → (l = 7 → s.layers.l7Locked = false) →
    ∃ t, exec (.layerDestroy rq data) s = .next t ∧ t.answered rq 0 = true ∧ t.reg (Obj.LAYER_STATE l) = 2 ∧
      t.layer l = { s.layer l with pending := none } ∧ (∀ k, k ≠ l → t.layer k = s.layer k) ∧
      s.hostFrame t [.layers] [Obj.LAYER_STATE l] []) ∧
  (∀ (s : State) (rq : Req) (data : Bytes), s.admitsWrite rq Obj.LAYER_DESTROY data = true →
    s.layerOf (leNat data) = none → ∃ t, exec (.layerDestroy rq data) s = .next t ∧ s.turnsAway t rq abortStale) ∧
  (∀ (s : State) (rq : Req) (data : Bytes), s.admitsWrite rq Obj.LAYER_DESTROY data = true →
    s.layerOf (leNat data) = some 7 → s.layers.l7Locked = true →
    ∃ t, exec (.layerDestroy rq data) s = .next t ∧ s.turnsAway t rq abortDenied) ∧
  (∀ (s : State) (rq : Req) (data : Bytes) (l : Nat), s.admitsWrite rq Obj.LAYER_SUBMIT data = true →
    s.layerOf (leNat data) = some l → l ≠ 7 → s.layerSource l = 0 →
    ∃ t, exec (.layerSubmit rq data) s = .next t ∧ t.answered rq 0 = true ∧
      (t.layer l).pending = some
        { buffer := if 2 < s.reg (Obj.LAYER_NEXT_BUFFER l) then 0 else s.reg (Obj.LAYER_NEXT_BUFFER l)
          timeline := s.reg (Obj.LAYER_NEXT_FENCE_TIMELINE l), value := s.reg (Obj.LAYER_NEXT_FENCE_VALUE l)
          notBefore := s.reg (Obj.LAYER_NEXT_NOT_BEFORE l) } ∧
      t.reg (Obj.LAYER_DISCARDED l) =
        (if (s.layer l).pending.isSome then (s.reg (Obj.LAYER_DISCARDED l) + 1) % 2 ^ 32
         else s.reg (Obj.LAYER_DISCARDED l)) ∧
      (∀ k, k ≠ l → t.layer k = s.layer k) ∧ s.hostFrame t [.layers] [Obj.LAYER_DISCARDED l] []) ∧
  (∀ (s : State) (rq : Req) (data : Bytes) (l : Nat), s.admitsWrite rq Obj.LAYER_SUBMIT data = true →
    s.layerOf (leNat data) = some l → (l = 7 ∨ s.layerSource l ≠ 0) →
    ∃ t, exec (.layerSubmit rq data) s = .next t ∧ s.turnsAway t rq abortBusy) ∧
  (∀ (s : State) (rq : Req) (data : Bytes), s.admitsWrite rq Obj.LAYER_SUBMIT data = true →
    s.layerOf (leNat data) = none → ∃ t, exec (.layerSubmit rq data) s = .next t ∧ s.turnsAway t rq abortStale)

/-- A flip at a frame boundary: a memory layer whose pending submission finds its fence condition satisfied and its
NOT_BEFORE reached takes the buffer; one whose fence is not reached counts a miss and keeps its buffer. A stream
layer flips in its completed frame in the same way. A fence value counts the signals that arrived FENCE_SETUP
before, and those of a batch. Clauses rest on choices of the model: assumption log 141, 144. -/
def Obligations.LayersFlipAtTheBoundary : Prop :=
  (∀ (s : State) (l : Nat) (p : Submission) (b b1 : Int), l < 7 → s.reg (Obj.LAYER_STATE l) = 1 → s.layerSource l = 0 →
    (s.layer l).pending = some p → s.fenceMet p.timeline p.value b = true →
    (p.notBefore = 0 ∨ (timeNs p.notBefore : Int) ≤ b1) →
    (decideFlip l b b1 s).reg (Obj.LAYER_CURRENT_BUFFER l) = p.buffer ∧
      (decideFlip l b b1 s).reg (Obj.LAYER_FLIPS l) = (s.reg (Obj.LAYER_FLIPS l) + 1) % 2 ^ 32 ∧
      (decideFlip l b b1 s).reg (Obj.LAYER_LAST_FLIP_TIME l) = packTime (b.toNat * 4294967296) ∧
      ((decideFlip l b b1 s).layer l).pending = none ∧
      ((decideFlip l b b1 s).layer l).releasing =
        (if s.reg (Obj.LAYER_CURRENT_BUFFER l) = p.buffer then none else some (s.reg (Obj.LAYER_CURRENT_BUFFER l)))) ∧
  (∀ (s : State) (l : Nat) (p : Submission) (b b1 : Int), l < 7 → s.reg (Obj.LAYER_STATE l) = 1 → s.layerSource l = 0 →
    (s.layer l).pending = some p → s.fenceMet p.timeline p.value b = false →
    decideFlip l b b1 s = s.bump (Obj.LAYER_MISSES l)) ∧
  (∀ (s : State) (l : Nat) (p : Submission) (b b1 : Int), l < 7 → s.reg (Obj.LAYER_STATE l) = 1 → s.layerSource l = 0 →
    (s.layer l).pending = some p → s.fenceMet p.timeline p.value b = true → p.notBefore ≠ 0 →
    b1 < (timeNs p.notBefore : Int) → decideFlip l b b1 s = s) ∧
  (∀ (s : State) (l n frame stream : Nat) (b b1 : Int), l < 7 → s.reg (Obj.LAYER_STATE l) = 1 → s.layerSource l = 1 →
    (s.layer l).streamPending = some (n, frame, stream) →
    (s.fenceMet (s.reg (Obj.LAYER_STREAM_FENCE l)) frame b = true →
      (decideFlip l b b1 s).reg (Obj.LAYER_CURRENT_BUFFER l) = n ∧
      (decideFlip l b b1 s).reg (Obj.LAYER_FLIPS l) = (s.reg (Obj.LAYER_FLIPS l) + 1) % 2 ^ 32 ∧
      ((decideFlip l b b1 s).layer l).streamPending = none ∧ ((decideFlip l b b1 s).layer l).bound = true ∧
      ((s.layer l).stream = some stream → ((decideFlip l b b1 s).layer l).inLoss = false)) ∧
    (s.fenceMet (s.reg (Obj.LAYER_STREAM_FENCE l)) frame b = false →
      decideFlip l b b1 s = s.bump (Obj.LAYER_MISSES l))) ∧
  (∀ (s : State) (k v value : Nat) (arrival : Option Int) (rest : List (Nat × Option Int)) (b : Int), k ≤ 15 →
    (s.fence k).signals = (v, arrival) :: rest →
    (∀ a, arrival = some a → a ≤ b - 1000 * (s.limited Obj.FENCE_SETUP 1 1000 : Nat)) →
    s.fenceMet k value b = decide (0 ≤ signed 32 (image 32 ((v : Int) - value))))

/-- Fence signals newer than their timeline's value are taken, others counted stale; L7_ARM locks the protected layer
until L7_DISARM, whose state follows at the next boundary. Clauses rest on choices of the model: assumption log 54,
145. -/
def Obligations.FencesAndTheProtectedLayer : Prop :=
  (∀ (s : State) (rq : Req) (data : Bytes) (k v : Nat), s.admitsWrite rq Obj.FENCE_SIGNAL data = true →
    k = s.atMost Obj.FENCE_SIGNAL_INDEX 15 → v = leNat data % 2 ^ 32 →
    ∃ t, exec (.fenceSignal rq data) s = .next t ∧ t.answered rq 0 = true ∧
      (0 < signed 32 (image 32 ((v : Int) - (s.fence k).value)) →
        t.fence k = { s.fence k with value := v, signals := (v, some (s.nowNs : Int)) :: (s.fence k).signals } ∧
        (∀ j, j ≠ k → t.fence j = s.fence j) ∧ s.hostFrame t [.layers] [] []) ∧
      (signed 32 (image 32 ((v : Int) - (s.fence k).value)) ≤ 0 →
        t.reg Obj.FENCE_STALE = (s.reg Obj.FENCE_STALE + 1) % 2 ^ 32 ∧ s.hostFrame t [] [Obj.FENCE_STALE] [])) ∧
  (∀ (s : State) (rq : Req) (data : Bytes), s.admitsWrite rq Obj.L7_ARM data = true → s.layerOf (leNat data) = some 7 →
    s.safety.evacActive = false → (s.reg Obj.L7_ARM_STATE = 0 ∨ s.reg Obj.L7_ARM_STATE = 4) →
    ∃ t, exec (.l7Arm rq data) s = .next t ∧ t.answered rq 0 = true ∧ t.reg Obj.L7_ARM_STATE = 1 ∧
      t.reg Obj.L7_REFUSE_CAUSE = 0 ∧ t.layers.l7Locked = true ∧ t.layers.fillWanted = true ∧
      t.layers.layers = s.layers.layers ∧ s.hostFrame t [.layers] [Obj.L7_ARM_STATE, Obj.L7_REFUSE_CAUSE] []) ∧
  (∀ (s : State) (rq : Req) (data : Bytes), s.admitsWrite rq Obj.L7_ARM data = true → s.layerOf (leNat data) = some 7 →
    (s.safety.evacActive = true ∨ s.reg Obj.L7_ARM_STATE = 1 ∨ s.reg Obj.L7_ARM_STATE = 2 ∨ s.reg Obj.L7_ARM_STATE = 3) →
    ∃ t, exec (.l7Arm rq data) s = .next t ∧ s.turnsAway t rq abortBusy) ∧
  (∀ (s : State) (rq : Req) (data : Bytes), s.admitsWrite rq Obj.L7_DISARM data = true → s.layerOf (leNat data) = some 7 →
    ∃ t, exec (.l7Disarm rq data) s = .next t ∧ t.answered rq 0 = true ∧ t.layers.l7Locked = false ∧
      t.layers.disarming = true ∧ t.layers.filling = false ∧ t.reg Obj.L7_ARM_STATE = s.reg Obj.L7_ARM_STATE ∧
      s.hostFrame t [.layers] [] []) ∧
  (∀ (s : State) (rq : Req) (data : Bytes) (l : Option Nat), s.admitsWrite rq Obj.L7_DISARM data = true →
    s.layerOf (leNat data) = l → l ≠ some 7 →
    ∃ t, exec (.l7Disarm rq data) s = .next t ∧ s.turnsAway t rq abortStale)

/-- The end of a fill pass: a clean pass of an arming brings the content into force, L7 ARMED with its event, and a
clean refill waits for its boundary; a spoiled pass is repeated, and the third of an arming ends it REFUSED with
cause 3 and without the lock. With no pass in progress nothing happens. Clauses rest on choices of the model:
assumption log 53, 139. -/
def Obligations.BeaconFillPassesArmOrRefuse : Prop :=
  (∀ s : State, s.acts 1 = true → s.layers.filling = true → s.safety.evacActive = false →
    s.fillContent.2.any (·.spoils) = false →
    ∃ t, exec (.beaconFillComplete false) s = .next t ∧ t.layers.filling = false ∧
      t.reg Obj.BEACON_FILLS = (s.reg Obj.BEACON_FILLS + 1) % 2 ^ 32 ∧
      (s.reg Obj.L7_ARM_STATE = 1 → t.reg Obj.L7_ARM_STATE = 2 ∧ t.reg Obj.BEACON_VALID = 1 ∧
        t.reg Obj.L7_ARM_TIME = s.stampA ∧ t.beacon = s.fillContent.1) ∧
      (s.reg Obj.L7_ARM_STATE ≠ 1 → t.reg Obj.L7_ARM_STATE = s.reg Obj.L7_ARM_STATE ∧ t.layers.refillReady = true ∧
        t.layers.refillStore = s.fillContent.1 ∧ t.beacon = s.beacon) ∧
      (∀ h, h ≠ 2 → t.crossing h = s.crossing h) ∧
      s.frame t [.regs, .beacon, .layers, .crossing, .memory, .fault, .traffic] [] []) ∧
  (∀ (s : State) (spoiled : Bool), s.acts 1 = true → s.layers.filling = true → s.safety.evacActive = false →
    (spoiled = true ∨ s.fillContent.2.any (·.spoils) = true) →
    ∃ t, exec (.beaconFillComplete spoiled) s = .next t ∧ t.layers.filling = false ∧ t.beacon = s.beacon ∧
      (s.reg Obj.L7_ARM_STATE = 1 → 2 ≤ s.layers.spoiled →
        t.reg Obj.L7_ARM_STATE = 4 ∧ t.reg Obj.L7_REFUSE_CAUSE = 3 ∧ t.layers.l7Locked = false ∧
        t.layers.fillWanted = false) ∧
      (s.reg Obj.L7_ARM_STATE = 1 → s.layers.spoiled < 2 →
        t.layers = { s.layers with filling := false, fillWanted := true, spoiled := s.layers.spoiled + 1 } ∧
        t.reg Obj.L7_ARM_STATE = 1) ∧
      (s.reg Obj.L7_ARM_STATE ≠ 1 →
        t.layers = { s.layers with filling := false, fillWanted := true, spoiled := 0 } ∧
        t.reg Obj.L7_ARM_STATE = s.reg Obj.L7_ARM_STATE) ∧
      (∀ h, h ≠ 2 → t.crossing h = s.crossing h) ∧
      s.frame t [.layers, .crossing, .memory, .fault]
        (Obj.L7_ARM_STATE :: Obj.L7_REFUSE_CAUSE :: Obj.MISSING_READS :: Obj.CAL_CRC_FAILS :: Obj.CAL_LAST_FAIL_PIXEL ::
          readObjs) []) ∧
  (∀ (s : State) (spoiled : Bool), s.acts 1 = true → (s.layers.filling = false ∨ s.safety.evacActive = true) →
    ∃ t, exec (.beaconFillComplete spoiled) s = .next t ∧ s.frame t [] [] [])

/-- SCAN_START and SCAN_STOP: a start from STOPPED puts every used band to align and forgets the frame in computation; a
stop goes through STOPPING; both are turned away out of turn, and a start under a latched thermal trip. As the stop
completes the bands send IDLE only, and the switches of domain that waited for a catch, S1 and the end of a display
follow at once. Clauses rest on choices of the model: assumption log 32, 178. -/
def Obligations.ScanDriveStartsAndStops : Prop :=
  (∀ (s : State) (rq : Req) (data : Bytes), s.admitsWrite rq Obj.SCAN_START data = true → s.reg Obj.SCAN_STATE = 0 →
    s.power.tripped = false →
    ∃ t, exec (.scanStart rq data) s = .next t ∧ t.answered rq 0 = true ∧ t.reg Obj.SCAN_STATE = 1 ∧
      (∀ b, b < t.bandCount → (t.band b).step = .aligning) ∧ t.pipe.frame = none ∧ t.pipe.nextFrame = 0 ∧
      t.scan.strokes = false ∧ t.reg Obj.BANDS_FAILED = 0 ∧
      t.scan.timing = (if s.timingHeld.accepted then s.timingHeld else s.scan.timing) ∧
      s.frame t [.regs, .tabs, .mem, .staging, .beacon, .answer, .out, .fault, .time, .pipe, .layers, .scan, .diag,
        .memory, .safety, .traffic, .crossing] [] []) ∧
  (∀ (s : State) (rq : Req) (data : Bytes), s.admitsWrite rq Obj.SCAN_START data = true →
    (s.reg Obj.SCAN_STATE ≠ 0 ∨ s.power.tripped = true) →
    ∃ t, exec (.scanStart rq data) s = .next t ∧ s.turnsAway t rq abortBusy) ∧
  (∀ (s : State) (rq : Req) (data : Bytes), s.admitsWrite rq Obj.SCAN_STOP data = true →
    (s.reg Obj.SCAN_STATE = 1 ∨ s.reg Obj.SCAN_STATE = 2) →
    ∃ t, exec (.scanStop rq data) s = .next t ∧ t.answered rq 0 = true ∧ t.reg Obj.SCAN_STATE = 3 ∧
      t.scan = { s.scan with stopCatches := 0, stopReady := false } ∧ s.hostFrame t [.scan] [Obj.SCAN_STATE] []) ∧
  (∀ (s : State) (rq : Req) (data : Bytes), s.admitsWrite rq Obj.SCAN_STOP data = true →
    s.reg Obj.SCAN_STATE ≠ 1 → s.reg Obj.SCAN_STATE ≠ 2 →
    ∃ t, exec (.scanStop rq data) s = .next t ∧ s.turnsAway t rq abortBusy) ∧
  (∀ s : State, s.acts 4 = true → s.reg Obj.SCAN_STATE = 3 → s.scan.stopReady = true → s.cop.batch = none →
    s.safety.cold ≠ .stopping →
    ∃ t, exec .scanStopComplete s = .next t ∧ t.reg Obj.SCAN_STATE = 0 ∧ t.reg Obj.BANDS_RUNNING = 0 ∧
      t.scan.strokes = false ∧ t.pipe.frame = none ∧ t.issuing = false ∧ t.time.catchGen.hostDom = none ∧
      t.time.catchGen.autoDom = none ∧
      (∀ b, b < 32 → (t.band b).step = (if (s.band b).step = .failed then .failed else .idle)) ∧
      (s.power.s1Wanted = true → t.power.inS1 = true ∧ t.reg Obj.SLEEP_STATE = 1) ∧
      (s.safety.evacActive = true → s.safety.evacEnding = true → t.safety.evacActive = false ∧ t.reg Obj.EVAC_STATE = 0) ∧
      s.frame t [.scan, .pipe, .safety, .time, .power, .memory, .device, .out]
        ([Obj.SCAN_STATE, Obj.BANDS_RUNNING, Obj.DOMAIN_SWITCHES, Obj.EVAC_STATE, Obj.REPLAY_BANDS, Obj.SLEEP_STATE,
          Obj.MEM_STATE] ++ repeated 64 [Obj.RING_STATE 0]) [])

/-- Band links at a start: alignment, enumeration node by node, the round trips, the registers read back; what goes
wrong fails the band with its cause. A reply with a wrong CRC or a code violation is discarded and counted with
FS35. Clauses rest on choices of the model: assumption log 150. -/
def Obligations.BandLinksComeUpOrFail : Prop :=
  (∀ (s : State) (b : Nat), s.acts 4 = true → (s.band b).step = .aligning →
    ∃ t, exec (.upstreamCommaAlignment b) s = .next t ∧ t.band b = { s.band b with step := .enumerating, next := 0 } ∧
      t.out = .bandPacket b (bandFrame 0x20 0xFE (natLE 1 0)) :: .bandPacket b (bandFrame 0x22 0xFF []) ::
        .bandPacket b (bandFrame 0x22 0xFF []) :: s.out ∧
      (∀ k, k ≠ b → t.band k = s.band k) ∧ s.frame t [.scan, .out] [] []) ∧
  (∀ (s : State) (b : Nat), s.acts 4 = true → b < 32 → (s.band b).step = .aligning →
    ∃ t, exec (.bandAlignTimeout b) s = .next t ∧ (t.band b).step = .failed ∧ t.regAt Obj.BAND_FAIL_CAUSE b = 2 ∧
      bitAt (t.reg Obj.BANDS_FAILED) b = true ∧ (∀ k, k ≠ b → t.band k = s.band k) ∧
      s.frame t [.scan, .beacon, .layers] [Obj.BAND_FAIL_CAUSE, Obj.BANDS_FAILED, Obj.BEACON_VALID, Obj.L7_ARM_STATE] []) ∧
  (∀ (s : State) (b : Nat) (e : EnumReply), s.acts 4 = true → b < 32 → (s.band b).step = .enumerating →
    ∃ t, exec (.enumReplyRx b e .good) s = .next t ∧
      ((s.band b).next = 0 → e.nodeType ≠ 0 → (t.band b).step = .failed ∧ t.regAt Obj.BAND_FAIL_CAUSE b = 3 ∧
        bitAt (t.reg Obj.BANDS_FAILED) b = true ∧ t.out = s.out) ∧
      ((s.band b).next ≠ 0 → e.nodeType ≠ 1 → t.band b = { s.band b with step := .measuring, next := 0 } ∧
        t.out = .bandPacket b (bandFrame 0x21 0 []) ::
          .bandPacket b (bandFrame 0x01 (s.band b).next (natLE 1 0x10 ++ natLE 2 0xFE)) :: s.out) ∧
      (e.nodeType = (if (s.band b).next = 0 then 0 else 1) →
        t.node b (s.band b).next = { present := true, kind := e.nodeType, vendor := e.vendor, part := e.part
                                     revision := e.revision, dsRepeat := e.dsRepeat, outDelay := e.outDelay
                                     turnaround := e.turnaround } ∧
        t.regAt Obj.BAND_NODES_FOUND b = (s.band b).next ∧
        ((s.band b).next = 32 → (t.band b).step = .measuring ∧ (t.band b).next = 0 ∧
          t.out = .bandPacket b (bandFrame 0x21 0 []) :: s.out) ∧
        ((s.band b).next ≠ 32 → (t.band b).step = .enumerating ∧ (t.band b).next = (s.band b).next + 1 ∧
          t.out = .bandPacket b (bandFrame 0x20 0xFE (natLE 1 ((s.band b).next + 1))) :: s.out)) ∧
      (∀ k, k ≠ b → t.band k = s.band k) ∧
      s.frame t [.scan, .out, .beacon, .layers]
        [Obj.BAND_NODES_FOUND, Obj.BAND_FAIL_CAUSE, Obj.BANDS_FAILED, Obj.BEACON_VALID, Obj.L7_ARM_STATE] []) ∧
  (∀ (s : State) (b : Nat), s.acts 4 = true → b < 32 → (s.band b).step = .enumerating →
    ∃ t, exec (.enumReplyTimeout b) s = .next t ∧
      ((s.band b).next = 0 → (t.band b).step = .failed ∧ t.regAt Obj.BAND_FAIL_CAUSE b = 4 ∧ t.out = s.out) ∧
      ((s.band b).next ≠ 0 → t.band b = { s.band b with step := .measuring, next := 0 } ∧
        t.out = .bandPacket b (bandFrame 0x21 0 []) :: s.out) ∧
      (∀ k, k ≠ b → t.band k = s.band k) ∧
      s.frame t [.scan, .out, .beacon, .layers]
        [Obj.BAND_FAIL_CAUSE, Obj.BANDS_FAILED, Obj.BEACON_VALID, Obj.L7_ARM_STATE] []) ∧
  (∀ (s u : State) (b n rt : Nat), s.acts 4 = true → b < 32 → (s.band b).step = .measuring → (s.band b).next = n →
    u = s.setNode b n { s.node b n with roundTrip := some rt } →
    ∃ t, exec (.markerRx b n rt) s = .next t ∧ (t.node b n).roundTrip = some rt ∧
      (n < s.regAt Obj.BAND_NODES_FOUND b → (t.band b).next = n + 1 ∧ (t.band b).step = .measuring ∧
        t.out = .bandPacket b (bandFrame 0x21 (n + 1) []) :: s.out) ∧
      (s.regAt Obj.BAND_NODES_FOUND b ≤ n → u.advanceOf b ≤ 1600 → (t.band b).step = .writing) ∧
      (s.regAt Obj.BAND_NODES_FOUND b ≤ n → 1600 < u.advanceOf b →
        (t.band b).step = .failed ∧ t.regAt Obj.BAND_FAIL_CAUSE b = 6) ∧
      (s.regAt Obj.BAND_NODES_FOUND b ≤ n → t.regAt Obj.BAND_ADVANCE_PS b = 6250 * u.advanceOf b) ∧
      (∀ k, k ≠ b → t.band k = s.band k) ∧
      s.frame t [.scan, .out, .beacon, .layers]
        [Obj.BAND_ADVANCE_PS, Obj.BAND_FAIL_CAUSE, Obj.BANDS_FAILED, Obj.BEACON_VALID, Obj.L7_ARM_STATE] []) ∧
  (∀ (s : State) (b n reg v : Nat) (w : Nat × Nat × Nat), s.acts 4 = true → b < 32 →
    (s.band b).awaiting.find? (fun w => w.1 == n && w.2.1 == reg) = some w →
    ∃ t, exec (.regDataRx b n reg v .good) s = .next t ∧
      (w.2.2 ≠ v → (t.band b).step = .failed ∧ t.regAt Obj.BAND_FAIL_CAUSE b = 5) ∧
      (w.2.2 = v → t.band b = { s.band b with
        awaiting := (s.band b).awaiting.erase w
        step := if (s.band b).awaiting.erase w = [] then .ready else (s.band b).step }) ∧
      (∀ k, k ≠ b → t.band k = s.band k) ∧
      s.frame t [.scan, .beacon, .layers]
        [Obj.BAND_FAIL_CAUSE, Obj.BANDS_FAILED, Obj.BEACON_VALID, Obj.L7_ARM_STATE] []) ∧
  (∀ (s : State) (b n reg v : Nat) (e : EnumReply), s.acts 4 = true → b < 32 →
    (∃ t, exec (.enumReplyRx b e .badCrc) s = .next t ∧
      t.regAt Obj.BAND_CRC_ERRORS b = (s.regAt Obj.BAND_CRC_ERRORS b + 1) % 2 ^ 32 ∧
      0 < Sparse.get (fun _ => 0) t.fault.waiting 35 ∧ s.frame t [.fault] [Obj.BAND_CRC_ERRORS] []) ∧
    (∃ t, exec (.enumReplyRx b e .violation) s = .next t ∧
      t.regAt Obj.BAND_CODE_ERRORS b = (s.regAt Obj.BAND_CODE_ERRORS b + 1) % 2 ^ 32 ∧
      0 < Sparse.get (fun _ => 0) t.fault.waiting 35 ∧ s.frame t [.fault] [Obj.BAND_CODE_ERRORS] []) ∧
    (∃ t, exec (.regDataRx b n reg v .badCrc) s = .next t ∧
      t.regAt Obj.BAND_CRC_ERRORS b = (s.regAt Obj.BAND_CRC_ERRORS b + 1) % 2 ^ 32 ∧
      0 < Sparse.get (fun _ => 0) t.fault.waiting 35 ∧ s.frame t [.fault] [Obj.BAND_CRC_ERRORS] []))

/-- Timing symbols of a band: the catch that waits, then FEATHER and STROKE in turn; BLANK in place of every symbol of a
band that blanks, and at the strokes of a FAILED one and of the frame of BLANK after a stop. Clauses rest on choices
of the model: assumption log 101. -/
def Obligations.TimingSymbolsFollowTheScanCycle : Prop :=
  (∀ (s : State) (b : Nat) (c : Bool) (rest : List Bool) (y : BandState), s.acts 4 = true → s.scan.strokes = true →
    b < s.bandCount → (s.band b).position = 0 → (s.band b).catches = c :: rest →
    y = { s.band b with position := 1, catches := rest, cycle := if c then 0 else (s.band b).cycle + 1 } →
    ∃ t, exec (.timingSymbolSend b) s = .next t ∧
      ((s.band b).step = .failed → t.band b = y ∧ t.out = .symbol b symBlank :: s.out) ∧
      ((s.band b).step ≠ .failed → s.bandBlank b = true →
        t.band b = { y with blanked := true } ∧ t.out = .symbol b symBlank :: s.out) ∧
      ((s.band b).step ≠ .failed → s.bandBlank b = false →
        t.band b = { y with blanked := false, strokes := y.strokes ++ [{ stroke := 0, cycle := y.cycle % 8 }] } ∧
        t.out = .symbol b (if c then symFrameCatch else symScanCatch) :: s.out) ∧
      (∀ k, k ≠ b → t.band k = s.band k) ∧ s.frame t [.scan, .out, .diag] [] []) ∧
  (∀ (s : State) (b : Nat), s.acts 4 = true → s.scan.strokes = true → b < s.bandCount → (s.band b).position = 0 →
    (s.band b).catches = [] →
    ∃ t, exec (.timingSymbolSend b) s = .next t ∧
      (s.time.catchGen.reanchor = true →
        t.band b = { s.band b with blanked := true } ∧ t.out = .symbol b symBlank :: s.out) ∧
      (s.time.catchGen.reanchor = false → s.frame t [] [] []) ∧ s.frame t [.scan, .out, .diag] [] []) ∧
  (∀ (s : State) (b p : Nat) (y : BandState), s.acts 4 = true → s.scan.strokes = true → b < s.bandCount →
    (s.band b).position = p + 1 →
    y = { s.band b with position := if p + 2 = 2 * s.scan.rows then 0 else p + 2 } →
    ∃ t, exec (.timingSymbolSend b) s = .next t ∧
      ((s.band b).step = .failed →
        t.band b = y ∧ t.out = (if p % 2 = 0 then s.out else .symbol b symBlank :: s.out)) ∧
      ((s.band b).step ≠ .failed → s.stopFrame = true → p % 2 = 0 → t.band b = y ∧ t.out = s.out) ∧
      ((s.band b).step ≠ .failed → (s.stopFrame = false ∨ p % 2 = 1) → s.bandBlank b = true →
        t.band b = { y with blanked := true } ∧ t.out = .symbol b symBlank :: s.out) ∧
      ((s.band b).step ≠ .failed → s.bandBlank b = false → p % 2 = 0 →
        t.band b = y ∧ t.out = .symbol b symFeather :: s.out) ∧
      ((s.band b).step ≠ .failed → s.bandBlank b = false → p % 2 = 1 →
        t.band b = { y with strokes := y.strokes ++ [{ stroke := (p + 1) / 2, cycle := y.cycle % 8 }] } ∧
        t.out = .symbol b symStroke :: s.out) ∧
      (∀ k, k ≠ b → t.band k = s.band k) ∧ s.frame t [.scan, .out, .diag] [] []) ∧
  (∀ (s : State) (b : Nat), s.acts 4 = true → (s.scan.strokes = false ∨ s.bandCount ≤ b) →
    ∃ t, exec (.timingSymbolSend b) s = .next t ∧ s.frame t [] [] [])

/-- Delivery of slices: a computed row leaves as a DATA packet, its single-bit errors counted and a word with an
uncorrectable error sent as 0; a row of a replayed band comes from the beacon store over H11. A status with every
row is the acknowledge, one with gaps has the rows sent again with a poll; a wrong CRC is counted with FS35; the
deadline closes the delivery once. Clauses rest on choices of the model: assumption log 56, 151. -/
def Obligations.SlicesAreDeliveredAndAcknowledged : Prop :=
  (∀ (s : State) (b n corrected : Nat) (errors : List Nat) (f : FrameWork), s.acts 4 = true → s.pipe.frame = some f →
    s.delivering b = true → n ≠ 0 → (s.node b n).present = true → s.scan.deadlinePassed = false →
    (s.node b n).rowsSent < s.scan.rows → s.rowReady b n (s.node b n).rowsSent = true → s.replayed b = false →
    ∃ t, exec (.sliceRowSend b n corrected errors) s = .next t ∧
      t.node b n = { s.node b n with rowsSent := (s.node b n).rowsSent + 1 } ∧
      t.out = .bandPacket b (bandFrame 0x10 n (dataPayload f.k (s.node b n).rowsSent
        ((s.rowWords b n (s.node b n).rowsSent).zipIdx.map fun w => if errors.contains w.2 then 0 else w.1))) :: s.out ∧
      t.regAt Obj.SRAM_CORRECTED 1 = (s.regAt Obj.SRAM_CORRECTED 1 + corrected) % 2 ^ 32 ∧
      t.regAt Obj.SRAM_UNCORRECTED 1 = (s.regAt Obj.SRAM_UNCORRECTED 1 + errors.length) % 2 ^ 32 ∧
      s.frame t [.scan, .out, .fault, .free] [Obj.SRAM_CORRECTED, Obj.SRAM_UNCORRECTED, Obj.SRAM_LAST_OFFSET] []) ∧
  (∀ (s : State) (b n corrected : Nat) (errors : List Nat) (f : FrameWork), s.acts 4 = true → s.pipe.frame = some f →
    s.delivering b = true → n ≠ 0 → (s.node b n).present = true → s.scan.deadlinePassed = false →
    (s.node b n).rowsSent < s.scan.rows → s.rowReady b n (s.node b n).rowsSent = true → s.replayed b = true →
    ∃ t, exec (.sliceRowSend b n corrected errors) s = .next t ∧
      t.node b n = { s.node b n with rowsSent := (s.node b n).rowsSent + 1 } ∧
      t.out = .bandPacket b (bandFrame 0x10 n (dataPayload f.k (s.node b n).rowsSent
        (s.rowWords b n (s.node b n).rowsSent))) :: s.out ∧
      t.crossing 11 = (s.crossing 11).completed ∧ (∀ h, h ≠ 11 → t.crossing h = s.crossing h) ∧
      (errors ≠ [] → t.flag Obj.BEACON_VALID = false ∧ t.safety.replayBlank.contains b = true) ∧
      (errors = [] → s.frame t [.scan, .out, .crossing] [Obj.SRAM_CORRECTED] [])) ∧
  (∀ (s : State) (b n mask : Nat) (f : FrameWork), s.acts 4 = true → b < 32 → s.pipe.frame = some f →
    s.delivering b = true → (s.node b n).present = true → s.scan.deadlinePassed = false →
    ∃ t, exec (.sliceStatusRx b n (f.k % 256) mask .good) s = .next t ∧
      ((s.node b n).rowsSent = s.scan.rows → (s.node b n).spoilt = false → (∀ r, r < s.scan.rows → bitAt mask r = true) →
        t.node b n = { s.node b n with acked := true, dark := false } ∧ s.frame t [.scan] [] []) ∧
      (((s.node b n).rowsSent ≠ s.scan.rows ∨ (s.node b n).spoilt = true) →
        t.node b n = s.node b n ∧ t.out.head? = some (.bandPacket b (bandFrame 0x11 n (natLE 1 f.k)))) ∧
      (∀ r, r < s.scan.rows → bitAt mask r = false →
        t.node b n = s.node b n ∧ t.out.head? = some (.bandPacket b (bandFrame 0x11 n (natLE 1 f.k)))) ∧
      s.frame t [.scan, .out] [Obj.BAND_RESENDS] []) ∧
  (∀ (s : State) (b n tag mask : Nat), s.acts 4 = true → b < 32 →
    ∃ t, exec (.sliceStatusRx b n tag mask .badCrc) s = .next t ∧
      t.regAt Obj.BAND_CRC_ERRORS b = (s.regAt Obj.BAND_CRC_ERRORS b + 1) % 2 ^ 32 ∧
      0 < Sparse.get (fun _ => 0) t.fault.waiting 35 ∧ s.frame t [.fault] [Obj.BAND_CRC_ERRORS] []) ∧
  (∀ (s : State) (f : FrameWork), s.acts 4 = true → s.pipe.frame = some f → s.scan.deadlinePassed = false →
    s.scan.strokes = true →
    ∃ t, exec .ackDeadline s = .next t ∧ t.scan.deadlinePassed = true ∧ t.pipe.lastFrame = some f.k ∧
      t.reg Obj.PIPELINE_LATE_FRAMES =
        (if f.finished then s.reg Obj.PIPELINE_LATE_FRAMES else (s.reg Obj.PIPELINE_LATE_FRAMES + 1) % 2 ^ 32) ∧
      t.safety.tapLost = [] ∧
      s.frame t [.regs, .tabs, .mem, .staging, .out, .fault, .pipe, .scan, .rails, .memory, .safety, .crossing, .layers] [] []) ∧
  (∀ (s : State) (b : Nat), s.acts 4 = true → s.delivering b = true → (s.band b).settingsDue = true →
    ∃ t, exec (.nodeSettingsSend b) s = .next t ∧
      t.band b = { s.band b with settingsDue := false, written := (List.range 3).map (s.current b) } ∧
      t.out.length = s.out.length + (s.columnNodes b).length * ((s.driveRegs b).length + s.probeRegs.length) ∧
      (∀ k, k ≠ b → t.band k = s.band k) ∧ s.frame t [.scan, .out] [] [])

/-- Reports of the nodes: a headroom report is held for the open stroke of its tag, a missing one counted at the
acceptance deadline with FS36; a probe packet joins its set, one of no set is stray; a stroke's load reaches the
rails of its group. A wrong CRC is counted with FS35. Clauses rest on choices of the model: assumption log 99. -/
def Obligations.NodeReportsAreTaken : Prop :=
  (∀ (s : State) (b : Nat) (r : HeadroomReport), s.acts 4 = true → s.counted b = true → r.check = .good →
    ∃ t, exec (.headroomReportRx b r) s = .next t ∧
      t.band b = { s.band b with strokes := (s.band b).strokes.map fun y =>
        if y.stroke = r.stroke ∧ y.cycle = r.cycle % 8 then { y with report := some r } else y } ∧
      (∀ k, k ≠ b → t.band k = s.band k) ∧ s.frame t [.scan] [] []) ∧
  (∀ (s : State) (b : Nat) (r : HeadroomReport), s.acts 4 = true → b < 32 → s.counted b = true → r.check = .badCrc →
    ∃ t, exec (.headroomReportRx b r) s = .next t ∧
      t.regAt Obj.BAND_CRC_ERRORS b = (s.regAt Obj.BAND_CRC_ERRORS b + 1) % 2 ^ 32 ∧
      0 < Sparse.get (fun _ => 0) t.fault.waiting 35 ∧ s.frame t [.fault] [Obj.BAND_CRC_ERRORS] []) ∧
  (∀ (s : State) (b : Nat) (o : OpenStroke) (rest : List OpenStroke), s.acts 4 = true → b < 32 → s.counted b = true →
    (s.band b).strokes = o :: rest →
    ∃ t, exec (.headroomAcceptDeadline b) s = .next t ∧ (t.band b).strokes = rest ∧
      (o.report = none → t.regAt Obj.BAND_HEADROOM_MISSING b = (s.regAt Obj.BAND_HEADROOM_MISSING b + 1) % 2 ^ 32 ∧
        0 < Sparse.get (fun _ => 0) t.fault.waiting 36 ∧ (∀ h, t.crossing h = s.crossing h)) ∧
      (o.report ≠ none → t.regAt Obj.BAND_HEADROOM_MISSING b = s.regAt Obj.BAND_HEADROOM_MISSING b ∧
        t.fault.waiting = s.fault.waiting ∧ t.crossing 5 = (s.crossing 5).completed ∧
        (∀ h, h ≠ 5 → t.crossing h = s.crossing h)) ∧
      s.frame t [.scan, .rails, .fault, .crossing]
        (Obj.BAND_HEADROOM_MISSING :: repeated 48 [Obj.RAIL_HEADROOM_MISSING 0, Obj.RAIL_LAST_HEADROOM 0]) []) ∧
  (∀ (s : State) (b : Nat), s.acts 4 = true → s.counted b = false →
    ∃ t, exec (.headroomAcceptDeadline b) s = .next t ∧ (t.band b).strokes = (s.band b).strokes.drop 1 ∧
      s.frame t [.scan, .rails] (repeated 48 [Obj.RAIL_HEADROOM_MISSING 0, Obj.RAIL_LAST_HEADROOM 0]) []) ∧
  (∀ (s : State) (b n : Nat) (p : ProbePacket) (x : ProbeSet), s.acts 4 = true → p.check = .good →
    s.diag.probes.find? (fun x => x.band == b && x.node == n && x.frame % 256 == p.frameTag && x.cycle == p.cycle) =
      some x →
    ∃ t, exec (.probePacketRx b n p) s = .next t ∧ t.crossing 6 = (s.crossing 6).completed ∧
      (∀ h, h ≠ 6 → t.crossing h = s.crossing h) ∧
      t.diag = { s.diag with
        probes := s.diag.probes.map fun y =>
          if x.closed = false ∧ y.band = b ∧ y.node = n ∧ y.frame % 256 = p.frameTag ∧ y.cycle = p.cycle then
            { y with packets := y.packets ++ [p] }
          else y } ∧ s.frame t [.diag, .crossing] [] []) ∧
  (∀ (s : State) (b n : Nat) (p : ProbePacket), s.acts 4 = true → p.check = .good →
    s.diag.probes.find? (fun x => x.band == b && x.node == n && x.frame % 256 == p.frameTag && x.cycle == p.cycle) = none →
    ∃ t, exec (.probePacketRx b n p) s = .next t ∧ t.crossing 6 = (s.crossing 6).completed ∧
      (∀ h, h ≠ 6 → t.crossing h = s.crossing h) ∧
      t.reg Obj.PROBE_STRAY = (s.reg Obj.PROBE_STRAY + 1) % 2 ^ 32 ∧ s.frame t [.crossing] [Obj.PROBE_STRAY] []) ∧
  (∀ (s : State) (b n : Nat) (p : ProbePacket), s.acts 4 = true → b < 32 → p.check = .badCrc →
    ∃ t, exec (.probePacketRx b n p) s = .next t ∧
      t.regAt Obj.BAND_CRC_ERRORS b = (s.regAt Obj.BAND_CRC_ERRORS b + 1) % 2 ^ 32 ∧
      0 < Sparse.get (fun _ => 0) t.fault.waiting 35 ∧ s.frame t [.fault] [Obj.BAND_CRC_ERRORS] []) ∧
  (∀ (s : State) (b r : Nat), s.acts 3 = true → b < s.bandCount →
    ∃ t, exec (.ffPredictionRx b r) s = .next t ∧
      (∀ n, n / 3 ≠ b / 2 → t.rail n = s.rail n) ∧
      (∀ c n, c < 3 → n = 3 * (b / 2) + c →
        t.rail n = (if b % 2 = 0 then
            { s.rail n with ffEven := ffTerm (s.reg (Obj.RAIL_FF_GAIN n)) (natAt (s.strokeSums b r) c)
                              (natAt (s.band b).currents c) (s.iFs n) s.strokePs }
          else
            { s.rail n with ffOdd := ffTerm (s.reg (Obj.RAIL_FF_GAIN n)) (natAt (s.strokeSums b r) c)
                              (natAt (s.band b).currents c) (s.iFs n) s.strokePs })) ∧
      t.crossing 5 = (s.crossing 5).completed ∧ (∀ h, h ≠ 5 → t.crossing h = s.crossing h) ∧
      s.frame t [.rails, .crossing] [] [])

/-- Verdicts (06 R161 to R166): a first failure makes a suspect, CONFIRM_COUNT equal failures confirm the defect, which
enters the substitution table, or with a full one the map alone, with FS40 and its event in either case; an OK
verdict ends a suspicion. Clauses rest on choices of the model: assumption log 97. -/
def Obligations.VerdictsLeadToConfirmedDefects : Prop :=
  (∀ (s : State) (e : Nat) (v : Verdict), s.confirmed e = false → tableFull ((s.mapState e).getD 0) = false →
    s.suspect e = none → s.diag.suspects.length < 16384 → s.confirmCount ≠ 1 →
    (applyFail e v s).suspect e = some ⟨e, v, 1⟩ ∧ (applyFail e v s).diag.subst = s.diag.subst) ∧
  (∀ (s : State) (e : Nat) (v : Verdict) (n : Nat), s.confirmed e = false →
    tableFull ((s.mapState e).getD 0) = false → s.suspect e = some ⟨e, v, n⟩ → s.confirmCount ≤ n + 1 →
    (applyFail e v s).suspect e = none ∧ (s.diag.subst.length < 8192 → (applyFail e v s).confirmed e = true) ∧
      (8192 ≤ s.diag.subst.length → (applyFail e v s).diag.subst = s.diag.subst ∧
        (applyFail e v s).reg Obj.DEFECT_TABLE_FULL = (s.reg Obj.DEFECT_TABLE_FULL + 1) % 2 ^ 32) ∧
      (applyFail e v s).reg Obj.DEFECTS_CONFIRMED = (s.reg Obj.DEFECTS_CONFIRMED + 1) % 2 ^ 32 ∧
      (applyFail e v s).reg Obj.DEFECT_LAST_EMITTER = e ∧ (applyFail e v s).reg Obj.DEFECT_LAST_TIME = s.stampA ∧
      0 < Sparse.get (fun _ => 0) (applyFail e v s).fault.waiting 40) ∧
  (∀ (s : State) (e : Nat) (v w : Verdict) (n : Nat), s.confirmed e = false →
    tableFull ((s.mapState e).getD 0) = false → s.suspect e = some ⟨e, w, n⟩ → w ≠ v → s.confirmCount ≠ 1 →
    (applyFail e v s).suspect e = some ⟨e, v, 1⟩ ∧ (applyFail e v s).diag.subst = s.diag.subst) ∧
  (∀ (s : State) (e : Nat), s.confirmed e = false → tableFull ((s.mapState e).getD 0) = false →
    (applyOk e s).suspect e = none ∧ (applyOk e s).diag.subst = s.diag.subst) ∧
  (∀ (s : State) (e : Nat), s.confirmed e = true → bitAt (s.entry e % 2 ^ 64) 25 = false →
    (applyOk e s).entry e = s.entry e % 2 ^ 64 + 2 ^ 25 + 2 ^ 64 ∧
      (∀ k, k ≠ e → (applyOk e s).entry k = s.entry k))

/-- Vf samples and calibration write-backs: a waiting code is filtered into its trend entry; a requested write-back
replaces one ageing gain of a sound record, none while the evacuation display is active. Clauses rest on choices of
the model: assumption log 98. -/
def Obligations.VfSamplesAndWriteBacks : Prop :=
  (∀ (s : State) (e code a : Nat) (arrives : Bool), s.acts 1 = true → s.diag.vfWaiting.contains (e, code) = true →
    a = s.vfAddr e % 2 ^ 40 →
    ∃ t, exec (.vfSample e code arrives) s = .next t ∧ t.diag.vfWaiting = s.diag.vfWaiting.erase (e, code) ∧
      (∀ v, s.vfEntry e = some v → (s.translate a 16 true false).cause = 0 →
        (s.pipe.dropped.all fun d => !decide (a ≤ d ∧ d < a + 16)) = true →
        (s.filtered e code arrives v).refSet = false →
        t.targetBytes (s.translate a 16 true false) 16 = (s.filtered e code arrives v).bytes) ∧
      (s.vfEntry e = none → t.diag = { s.diag with vfWaiting := s.diag.vfWaiting.erase (e, code) } ∧
        s.frame t [.diag, .memory, .fault, .crossing] readObjs []) ∧
      s.frame t [.diag, .mem, .staging, .memory, .layers, .pipe, .fault, .crossing, .answer]
        (readObjs ++ [Obj.L7_ARM_STATE, Obj.DEFECT_TABLE_FULL, Obj.DEFECTS_CONFIRMED, Obj.DEFECT_LAST_EMITTER,
          Obj.DEFECT_LAST_TIME, Obj.EVENT_SEQUENCE, Obj.EVENTS_DROPPED]) []) ∧
  (∀ (s : State) (e code : Nat) (arrives : Bool), s.acts 1 = true → s.diag.vfWaiting.contains (e, code) = false →
    ∃ t, exec (.vfSample e code arrives) s = .next t ∧ s.frame t [] [] []) ∧
  (∀ (s : State) (e a : Nat) (w : Nat × Nat) (arrives : Bool), s.acts 1 = true →
    s.diag.writebacks.find? (·.1 == e) = some w → a = s.calAddr (e / 3) % 2 ^ 40 →
    ∃ t, exec (.calWriteback e arrives) s = .next t ∧ t.diag = { s.diag with writebacks := s.diag.writebacks.erase w } ∧
      (∀ bs, s.recordFor arrives e = some bs → s.safety.evacActive = false →
        t.reg Obj.CAL_WRITEBACKS = (s.reg Obj.CAL_WRITEBACKS + 1) % 2 ^ 32 ∧
        ((s.translate a 32 true false).cause = 0 → (s.pipe.dropped.all fun d => !decide (a ≤ d ∧ d < a + 32)) = true →
          t.targetBytes (s.translate a 32 true false) 32 = withAge bs (e % 3) w.2)) ∧
      (s.safety.evacActive = true → s.frame t [.diag] [] []) ∧
      (s.recordFor arrives e = none → s.frame t [.diag, .memory, .fault, .crossing] readObjs []) ∧
      s.frame t [.diag, .mem, .staging, .memory, .layers, .pipe, .fault, .crossing]
        (readObjs ++ [Obj.CAL_WRITEBACKS, Obj.L7_ARM_STATE]) []) ∧
  (∀ (s : State) (e : Nat) (arrives : Bool), s.acts 1 = true → s.diag.writebacks.find? (·.1 == e) = none →
    ∃ t, exec (.calWriteback e arrives) s = .next t ∧ s.frame t [] [] [])

/-- The substitution table by command: entries added with HOST set, cleared one by one or all, replaced as a table; Vf
references reset. An addition to a full table is turned away. Clauses rest on choices of the model: assumption log
97, 147. -/
def Obligations.DefectsAreEditedByTheHost : Prop :=
  (∀ (s : State) (rq : Req) (data : Bytes) (e : Nat), s.admitsWrite rq Obj.DEFECT_ADD data = true →
    e = field (hostEntry (leNat data)) 0 22 → (s.diag.subst.length < 8192 ∨ s.confirmed e = true) →
    ∃ t, exec (.defectAdd rq data) s = .next t ∧ t.answered rq 0 = true ∧
      t.entry e = hostEntry (leNat data) % 2 ^ 64 + 2 ^ 64 ∧ t.suspect e = none ∧
      (∀ k, k ≠ e → t.entry k = s.entry k ∧ t.suspect k = s.suspect k) ∧
      s.hostFrame t [.diag, .mem, .staging, .memory, .pipe, .layers, .fault, .crossing] (Obj.L7_ARM_STATE :: readObjs) []) ∧
  (∀ (s : State) (rq : Req) (data : Bytes), s.admitsWrite rq Obj.DEFECT_ADD data = true →
    8192 ≤ s.diag.subst.length → s.confirmed (field (hostEntry (leNat data)) 0 22) = false →
    ∃ t, exec (.defectAdd rq data) s = .next t ∧ s.turnsAway t rq abortBusy) ∧
  (∀ (s : State) (rq : Req) (data : Bytes) (e : Nat), s.admitsWrite rq Obj.DEFECT_CLEAR data = true →
    e = leNat data % 2 ^ 32 → e < s.emitters →
    ∃ t, exec (.defectClear rq data) s = .next t ∧ t.answered rq 0 = true ∧ t.entry e = 0 ∧ t.suspect e = none ∧
      (∀ k, k ≠ e → t.entry k = s.entry k ∧ t.suspect k = s.suspect k) ∧
      s.hostFrame t [.diag, .mem, .staging, .memory, .pipe, .layers, .fault, .crossing] (Obj.L7_ARM_STATE :: readObjs) []) ∧
  (∀ (s : State) (rq : Req) (data : Bytes), s.admitsWrite rq Obj.DEFECT_CLEAR data = true →
    s.emitters ≤ leNat data % 2 ^ 32 →
    ∃ t, exec (.defectClear rq data) s = .next t ∧ t.answered rq 0 = true ∧ s.hostFrame t [] [] []) ∧
  (∀ (s : State) (rq : Req) (data : Bytes), s.admitsWrite rq Obj.DEFECT_CLEAR_ALL data = true →
    ∃ t, exec (.defectClearAll rq data) s = .next t ∧ t.answered rq 0 = true ∧ (∀ e, t.entry e = 0) ∧
      (∀ e, t.suspect e = none) ∧
      s.hostFrame t [.diag, .mem, .staging, .memory, .pipe, .layers, .fault, .crossing] (Obj.L7_ARM_STATE :: readObjs) []) ∧
  (∀ (s : State) (rq : Req) (data : Bytes), s.admitsWrite rq Obj.DEFECT_TABLE data = true →
    ∃ t, exec (.defectTableWrite rq data) s = .next t ∧ t.answered rq 0 = true ∧
      t.diag = { s.diag with subst := t.diag.subst } ∧
      (∀ e, t.entry e ≠ 0 → bitAt (t.entry e % 2 ^ 64) 26 = true ∧ field (t.entry e) 0 22 = e) ∧
      (∀ n, data.length = 8 * (n + 1) → n < 8192 →
        t.entry (field (hostEntry (leNat (data.drop (8 * n)))) 0 22) = hostEntry (leNat (data.drop (8 * n))) + 2 ^ 64) ∧
      (data.length < 8 → t.diag.subst = []) ∧ s.hostFrame t [.diag] [] []) ∧
  (∀ (s : State) (rq : Req) (data : Bytes) (e a : Nat), s.admitsWrite rq Obj.VF_REF_RESET data = true →
    e = leNat data % 2 ^ 32 → a = s.vfAddr e % 2 ^ 40 →
    ∃ t, exec (.vfRefReset rq data) s = .next t ∧ t.answered rq 0 = true ∧
      (∀ v, s.vfEntry e = some v → e < s.emitters → e ≠ 0xFFFFFFFF → (s.translate a 16 true false).cause = 0 →
        (s.pipe.dropped.all fun d => !decide (a ≤ d ∧ d < a + 16)) = true →
        t.targetBytes (s.translate a 16 true false) 16 = ({ v with refSet := false, samples := 0 } : VfEntry).bytes) ∧
      (s.emitters ≤ e → e ≠ 0xFFFFFFFF → s.hostFrame t [] [] []) ∧
      s.hostFrame t [.mem, .staging, .memory, .layers, .pipe, .fault, .crossing] (Obj.L7_ARM_STATE :: readObjs) [])

/-- Starting and stopping rails (07 R199 to R201): RAIL_START starts every masked rail that may start and records the
others in START_SKIPPED; RAIL_STOP takes every masked rail that is on into RAMP_DOWN, whose end is OFF; RAIL_CLEAR
takes masked rails from FAULT_OFF to OFF; RAILn_MODE is held and due at the next fast sample; COEF_COMMIT brings the
shadows into force. -/
def Obligations.RailsStartStopAndAreConfigured : Prop :=
  (∀ (s : State) (rq : Req) (data : Bytes), s.admitsWrite rq Obj.RAIL_START data = true → s.power.tripped = false →
    ∃ t, exec (.railStart rq data) s = .next t ∧ t.answered rq 0 = true ∧
      (∀ n, n < 48 → bitAt (leNat data) n = true → s.mayStart n = true →
        (t.rail n).mode = .starting ∧ (t.rail n).vSet = (s.rail n).v ∧ (t.rail n).duty = 0 ∧ (t.rail n).setIndex = 0 ∧
        (t.rail n).headPreset = true ∧ t.reg (Obj.RAIL_V_SAFE_IN_FORCE n) = s.reg (Obj.RAIL_V_SAFE n)) ∧
      (∀ n, n < 48 → (bitAt (leNat data) n = false ∨ s.mayStart n = false) →
        t.rail n = s.rail n ∧ t.reg (Obj.RAIL_V_SAFE_IN_FORCE n) = s.reg (Obj.RAIL_V_SAFE_IN_FORCE n)) ∧
      (∀ n, n < 48 → bitAt (t.reg Obj.START_SKIPPED) n = (bitAt (leNat data) n && !s.mayStart n)) ∧
      s.hostFrame t [.rails] (Obj.START_SKIPPED :: repeated 48 [Obj.RAIL_V_SAFE_IN_FORCE 0]) []) ∧
  (∀ (s : State) (rq : Req) (data : Bytes), s.admitsWrite rq Obj.RAIL_START data = true → s.power.tripped = true →
    ∃ t, exec (.railStart rq data) s = .next t ∧ s.turnsAway t rq abortBusy) ∧
  (∀ (s : State) (rq : Req) (data : Bytes), s.admitsWrite rq Obj.RAIL_STOP data = true →
    ∃ t, exec (.railStop rq data) s = .next t ∧ t.answered rq 0 = true ∧
      (∀ n, n < 48 → bitAt (leNat data) n = true → (s.rail n).on = true → (s.rail n).mode ≠ .rampDown →
        (t.rail n).mode = .rampDown ∧ (t.rail n).rampFrom = (s.rail n).vSet ∧ (t.rail n).rampSamples = 0) ∧
      (∀ n, (bitAt (leNat data) n = false ∨ (s.rail n).on = false ∨ (s.rail n).mode = .rampDown) → t.rail n = s.rail n) ∧
      s.hostFrame t [.rails] [] []) ∧
  (∀ (s : State) (rq : Req) (data : Bytes), s.admitsWrite rq Obj.RAIL_CLEAR data = true →
    ∃ t, exec (.railClear rq data) s = .next t ∧ t.answered rq 0 = true ∧
      (∀ n, n < 48 → t.rail n = if bitAt (leNat data) n = true ∧ (s.rail n).mode = .faultOff then
        { s.rail n with mode := .off } else s.rail n) ∧ s.hostFrame t [.rails] [] []) ∧
  (∀ (s : State) (rq : Req) (n : Nat) (data : Bytes), n < 48 → s.admitsWrite rq (Obj.RAIL_MODE n) data = true →
    ∃ t, exec (.railModeWrite rq n data) s = .next t ∧ t.answered rq 0 = true ∧
      t.reg (Obj.RAIL_MODE n) = leNat data % 256 ∧
      t.rail n = { s.rail n with modeDue := (s.rail n).on, forced := false } ∧ (∀ k, k ≠ n → t.rail k = s.rail k) ∧
      s.hostFrame t [.rails] [Obj.RAIL_MODE n] []) ∧
  (∀ (s : State) (rq : Req) (data : Bytes), s.admitsWrite rq Obj.COEF_COMMIT data = true →
    ∃ t, exec (.coefCommit rq data) s = .next t ∧ t.answered rq 0 = true ∧
      (∀ p ∈ s.rails.shadow, (∀ q ∈ s.rails.shadow, q.1 = p.1 → q.2 = p.2) →
        Sparse.get domDefault t.tabs p.1 = BitVec.ofNat 8 (p.2 - 1)) ∧
      (∀ o j, j < 131072 → (∀ p ∈ s.rails.shadow, p.1 ≠ tabKey o j) → t.tabByte o j = s.tabByte o j) ∧
      t.rails = { s.rails with shadow := [] } ∧
      t.reg Obj.COEF_COMMITS = (s.reg Obj.COEF_COMMITS + 1) % 2 ^ 32 ∧ s.hostFrame t [.rails, .tabs] [Obj.COEF_COMMITS] []) ∧
  (∀ (s : State) (n : Nat), s.acts 3 = true →
    ∃ t, exec (.rampDownEnd n) s = .next t ∧
      ((s.rail n).mode = .rampDown → t.rail n = (s.rail n).stop .off ∧ s.onlyRail t n) ∧
      ((s.rail n).mode ≠ .rampDown → s.frame t [] [] []) ∧ s.frame t [.rails] [] [])

/-- Samples and engine jobs of a rail (07 R178 to R195): a fast sample corrects the codes, filters the current and
counts the limits passed, and releases the fast pair of a rail whose loops run; a lane completes the job that it is
at work on, a fast pair with a duty within DUTY_MAX; a missed job is counted, the fourth in a row falls back to a
manual mode. Clauses rest on choices of the model: assumption log 85, 152, 153, 154. -/
def Obligations.RailsAreSampledAndRegulated : Prop :=
  (∀ (s : State) (n rawV rawI : Nat), s.acts 3 = true → (s.rail n).on = false →
    ∃ t, exec (.railFastSample n rawV rawI) s = .next t ∧
      t.rail n = { s.rail n with v := (s.sense n rawV rawI).1, i := (s.sense n rawV rawI).2, rawV := rawV, rawI := rawI } ∧
      s.onlyJob t n .fast ∧ s.frame t [.rails] [] []) ∧
  (∀ (s : State) (n rawV rawI : Nat), s.acts 3 = true → n < 48 → (s.rail n).on = true →
    ∃ t, exec (.railFastSample n rawV rawI) s = .next t ∧
      ((t.rail n).v, (t.rail n).i) = s.sense n rawV rawI ∧ (t.rail n).periods = (s.rail n).periods + 1 ∧
      (t.rail n).iFilt = filterCurrent (s.rail n).iFilt (s.sense n rawV rawI).2 ∧
      (t.rail n).history = ((s.rail n).duty :: (s.rail n).history).take 257 ∧
      (t.rail n).ovRun = (if s.railVolt n (Obj.RAIL_OV_LIMIT n) < (s.sense n rawV rawI).1 then (s.rail n).ovRun + 1 else 0) ∧
      (perBase (s.reg (Obj.RAIL_OC_LIMIT n)) (s.iFs n) < |(s.sense n rawV rawI).2| →
        (t.rail n).forceOff = true ∧ (t.rail n).ocRun = (s.rail n).ocRun + 1 ∧
        t.reg (Obj.RAIL_OC_EVENTS n) = (s.reg (Obj.RAIL_OC_EVENTS n) + 1) % 2 ^ 32 ∧
        0 < Sparse.get (fun _ => 0) t.fault.waiting 55) ∧
      (|(s.sense n rawV rawI).2| ≤ perBase (s.reg (Obj.RAIL_OC_LIMIT n)) (s.iFs n) →
        (t.rail n).forceOff = false ∧ (t.rail n).ocRun = 0 ∧ s.frame t [.rails] [] []) ∧
      s.onlyJob t n .fast ∧ s.frame t [.rails, .fault] [Obj.RAIL_OC_EVENTS n] []) ∧
  (∀ (s : State) (n rawV rawI : Nat), s.acts 3 = true → (s.rail n).modeDue = false →
    ∃ t, exec (.railFastSample n rawV rawI) s = .next t ∧
      ((s.rail n).mode = .auto → (s.rail n).headroom ≠ .safe →
        (t.rail n).mode = .auto ∧ (t.rail n).vSet = (s.rail n).vSet ∧ (t.rail n).pairSet = (s.rail n).vSet ∧
        (t.rail n).pairIndex = (s.rail n).setIndex ∧
        (t.rail n).duty = (s.rail n).nextDuty.getD (s.rail n).duty ∧ (t.rail n).fastDue = true) ∧
      ((s.rail n).mode = .manualV → (s.rail n).forced = false →
        (t.rail n).mode = .manualV ∧ (t.rail n).vSet = s.railVolt n (Obj.RAIL_MANUAL_V n) ∧ (t.rail n).fastDue = true) ∧
      ((s.rail n).mode = .manualDuty → (s.rail n).forced = false →
        (t.rail n).mode = .manualDuty ∧ (t.rail n).duty = s.manualDuty n ∧ (t.rail n).fastDue = false)) ∧
  (∀ (s : State) (n : Nat), s.acts 3 = true → (s.rail n).fastDue = true → s.running n .fast = true →
    ∃ t, exec (.engineJobComplete n .fast) s = .next t ∧ t.rail n = s.fastPair n (s.rail n) ∧
      (t.rail n).fastDue = false ∧ (t.rail n).overFast = 0 ∧ (t.rail n).mode = (s.rail n).mode ∧
      (bitAt (s.reg (Obj.RAIL_TIMING_MODE n)) 2 = true →
        0 ≤ (t.rail n).duty ∧ (t.rail n).duty ≤ s.dutyMax n ∧ (t.rail n).nextDuty = none) ∧
      (bitAt (s.reg (Obj.RAIL_TIMING_MODE n)) 2 = false → (t.rail n).duty = (s.rail n).duty ∧
        ∃ d, (t.rail n).nextDuty = some d ∧ 0 ≤ d ∧ d ≤ s.dutyMax n) ∧
      s.onlyJob t n .fast ∧ s.frame t [.rails] [] []) ∧
  (∀ (s : State) (n h : Nat), s.acts 3 = true → (s.rail n).sample = some h → s.running n .headroom = true →
    ∃ t, exec (.engineJobComplete n .headroom) s = .next t ∧ t.rail n = s.headroomJob n h (s.rail n) ∧
      (t.rail n).sample = none ∧ (t.rail n).overHead = 0 ∧ (t.rail n).duty = (s.rail n).duty ∧
      s.onlyJob t n .headroom ∧ s.frame t [.rails] [] []) ∧
  (∀ (s : State) (n : Nat) (j : Job), s.acts 3 = true → s.laneBusy (s.laneOf (slotOf n j)) = true →
    s.running n j = false → ∃ t, exec (.engineJobComplete n j) s = .next t ∧ s.frame t [] [] []) ∧
  (∀ (s : State) (n : Nat), s.acts 3 = true → n < 48 → (s.rail n).fastDue = true →
    ∃ t, exec (.jobOverrun n .fast) s = .next t ∧ (t.rail n).fastDue = false ∧
      t.reg (Obj.RAIL_OVERRUNS n) = (s.reg (Obj.RAIL_OVERRUNS n) + 1) % 2 ^ 32 ∧
      t.reg Obj.ENGINE_OVERRUNS = (s.reg Obj.ENGINE_OVERRUNS + 1) % 2 ^ 32 ∧
      (((s.rail n).overFast < 3 ∨ (s.rail n).mode = .rampDown) →
        t.rail n = { s.rail n with fastDue := false, overFast := (s.rail n).overFast + 1 } ∧
        s.frame t [.rails] [Obj.RAIL_OVERRUNS n, Obj.ENGINE_OVERRUNS] []) ∧
      (3 ≤ (s.rail n).overFast → (s.rail n).mode ≠ .rampDown →
        (t.rail n).mode = .manualDuty ∧ (t.rail n).forced = true ∧
        (t.rail n).duty = min (dutyQ (s.reg (Obj.RAIL_FALLBACK_DUTY n))) (s.dutyMax n) ∧ t.reg (Obj.RAIL_MODE n) = 2 ∧
        t.reg (Obj.RAIL_FAULT_CAUSE n) = 5) ∧
      s.onlyJob t n .fast ∧
      s.frame t [.rails]
        [Obj.RAIL_OVERRUNS n, Obj.ENGINE_OVERRUNS, Obj.RAIL_MODE n, Obj.RAIL_FAULT_CAUSE n] []) ∧
  (∀ (s : State) (n h : Nat), s.acts 3 = true → n < 48 → (s.rail n).sample = some h →
    ∃ t, exec (.jobOverrun n .headroom) s = .next t ∧ (t.rail n).sample = none ∧
      t.reg (Obj.RAIL_OVERRUNS n) = (s.reg (Obj.RAIL_OVERRUNS n) + 1) % 2 ^ 32 ∧
      t.reg Obj.ENGINE_OVERRUNS = (s.reg Obj.ENGINE_OVERRUNS + 1) % 2 ^ 32 ∧
      (((s.rail n).overHead < 3 ∨ (s.rail n).mode ≠ .auto) →
        t.rail n = { s.rail n with sample := none, overHead := (s.rail n).overHead + 1 } ∧
        s.frame t [.rails] [Obj.RAIL_OVERRUNS n, Obj.ENGINE_OVERRUNS] []) ∧
      (3 ≤ (s.rail n).overHead → (s.rail n).mode = .auto →
        (t.rail n).mode = .manualV ∧ (t.rail n).forced = true ∧ (t.rail n).vSet = s.vSafe n ∧
        t.reg (Obj.RAIL_MODE n) = 1 ∧ t.reg (Obj.RAIL_FAULT_CAUSE n) = 6) ∧
      s.onlyJob t n .headroom ∧
      s.frame t [.rails]
        [Obj.RAIL_OVERRUNS n, Obj.ENGINE_OVERRUNS, Obj.RAIL_MODE n, Obj.RAIL_FAULT_CAUSE n] []) ∧
  (∀ (s : State) (n : Nat) (j : Job), s.acts 3 = true → s.released (slotOf n j) = false →
    ∃ t, exec (.jobOverrun n j) s = .next t ∧ t.rail n = s.rail n ∧ s.onlyJob t n j ∧ s.frame t [.rails] [] [])

/-- Protection of a rail (07 R196 to R200): a frozen sense ADC takes it to HOLD at the duty before the bad run, 64 good
samples that are not all equal bring it back, 5 ms end it in FAULT_OFF; over-voltage on two samples, over-current on
eight, a start of 50 ms and a frozen ADC in RAMP_DOWN end in FAULT_OFF with their causes; missing headroom leads to
SAFE and 64 samples out of it. Where the condition of an event is not met, nothing changes. Clauses rest on choices
of the model: assumption log 155. -/
def Obligations.RailsAreProtected : Prop :=
  (∀ (s : State) (n : Nat), s.acts 3 = true → n < 48 →
    ∃ t, exec (.feedbackLossDetect n) s = .next t ∧
      ((s.rail n).frozenAdc = true → (s.rail n).on = true → (s.rail n).mode ≠ .hold → (s.rail n).mode ≠ .rampDown →
        (t.rail n).mode = .hold ∧
        (t.rail n).duty = (if (s.rail n).mode = .manualDuty then (s.rail n).duty
          else (s.rail n).history.getD (s.rail n).badRun (s.rail n).duty) ∧
        t.reg (Obj.RAIL_FEEDBACK_LOSSES n) = (s.reg (Obj.RAIL_FEEDBACK_LOSSES n) + 1) % 2 ^ 32 ∧
        s.onlyRail t n ∧ s.frame t [.rails] [Obj.RAIL_FEEDBACK_LOSSES n] []) ∧
      ((s.rail n).frozenAdc = true → (s.rail n).mode = .rampDown → s.goesFaultOff t n 2) ∧
      (((s.rail n).frozenAdc = false ∨ (s.rail n).on = false ∨ (s.rail n).mode = .hold) → s.frame t [] [] [])) ∧
  (∀ (s : State) (n : Nat), s.acts 3 = true →
    ∃ t, exec (.holdRecovery n) s = .next t ∧
      ((s.rail n).mode = .hold → (s.rail n).recovered = true →
        (t.rail n).mode = s.wantedMode n ∧ (t.rail n).modeDue = false ∧ s.onlyRail t n) ∧
      (((s.rail n).mode ≠ .hold ∨ (s.rail n).recovered = false) → s.frame t [] [] []) ∧ s.frame t [.rails] [] []) ∧
  (∀ (s : State) (n : Nat), s.acts 3 = true → n < 48 →
    ∃ t, exec (.holdTimeout n) s = .next t ∧ ((s.rail n).mode = .hold → s.goesFaultOff t n 2) ∧
      ((s.rail n).mode ≠ .hold → s.frame t [] [] [])) ∧
  (∀ (s : State) (n : Nat), s.acts 3 = true → n < 48 →
    ∃ t, exec (.overVoltage n) s = .next t ∧
      ((s.rail n).on = true → 2 ≤ (s.rail n).ovRun → s.goesFaultOff t n 3) ∧
      (((s.rail n).on = false ∨ (s.rail n).ovRun < 2) → s.frame t [] [] [])) ∧
  (∀ (s : State) (n : Nat), s.acts 3 = true → n < 48 →
    ∃ t, exec (.overCurrentTrip n) s = .next t ∧
      ((s.rail n).on = true → 8 ≤ (s.rail n).ocRun → s.goesFaultOff t n 4) ∧
      (((s.rail n).on = false ∨ (s.rail n).ocRun < 8) → s.frame t [] [] [])) ∧
  (∀ (s : State) (n : Nat), s.acts 3 = true → n < 48 →
    ∃ t, exec (.railStartTimeout n) s = .next t ∧ ((s.rail n).mode = .starting → s.goesFaultOff t n 1) ∧
      ((s.rail n).mode ≠ .starting → s.frame t [] [] [])) ∧
  (∀ (s : State) (n : Nat), s.acts 3 = true → n < 48 →
    ∃ t, exec (.headroomSafe n) s = .next t ∧
      ((s.rail n).mode = .auto → (s.rail n).headroom = .frozen → (s.rail n).missingSince ≠ none →
        t.rail n = { s.rail n with headroom := .safe, presentRun := 0 } ∧ t.reg (Obj.RAIL_FAULT_CAUSE n) = 7 ∧
        t.reporting 53 = true ∧ s.onlyRail t n) ∧
      (((s.rail n).mode ≠ .auto ∨ (s.rail n).headroom ≠ .frozen ∨ (s.rail n).missingSince = none) →
        s.frame t [] [] []) ∧ s.frame t [.rails] [Obj.RAIL_FAULT_CAUSE n] []) ∧
  (∀ (s : State) (n : Nat), s.acts 3 = true →
    ∃ t, exec (.headroomResume n) s = .next t ∧
      ((s.rail n).headroom = .safe → 64 ≤ (s.rail n).presentRun →
        (t.rail n).headroom = .running ∧ (t.rail n).mode = (s.rail n).mode ∧ (t.rail n).vSet = (s.rail n).vSet ∧
        s.onlyRail t n) ∧
      (((s.rail n).headroom ≠ .safe ∨ (s.rail n).presentRun < 64) → s.frame t [] [] []) ∧ s.frame t [.rails] [] [])

/-- Rotation of the sense ADCs (07 R202, R203): steps in order, handover to the spare and back only on a match, the
measured trims taken at the hand-back; trims written by the host discard a measurement in progress. Clauses rest on
choices of the model: assumption log 26, 41, 156. -/
def Obligations.SenseAdcsRotate : Prop :=
  (∀ (s : State) (b : Bank), s.acts 3 = true → s.flag Obj.ROTATION_ENABLE = true →
    ∃ t, exec (.adcRotationStep b) s = .next t ∧
      (t.bank b).adc = (if (s.bank b).stage = 0 ∨ (s.bank b).adc = 48 then 0 else (s.bank b).adc + 1) ∧
      (t.bank b).stage = (if (t.bank b).adc = 48 then 2 else 1) ∧ (t.bank b).spareServes = false ∧
      ((t.bank b).full = true ↔
        (s.bank b).full = true ∨ ((s.bank b).fresh = true ∧ (s.bank b).stage ≠ 0 ∧ (s.bank b).adc = 48)) ∧
      t.reg Obj.ROTATIONS =
        (if (s.bank b).stage ≠ 0 ∧ (s.bank b).adc = 48 then (s.reg Obj.ROTATIONS + 1) % 2 ^ 32 else s.reg Obj.ROTATIONS) ∧
      t.reg Obj.ADC_TRIMS_STATE = (if (t.bank .voltage).full = true ∧ (t.bank .current).full = true then 2
        else s.reg Obj.ADC_TRIMS_STATE) ∧
      (∀ c, c ≠ b → t.bank c = s.bank c) ∧ t.rails.rails = s.rails.rails ∧
      s.frame t [.rails] [Obj.ROTATIONS, Obj.ADC_TRIMS_STATE] []) ∧
  (∀ (s : State) (b : Bank), s.acts 3 = true → s.flag Obj.ROTATION_ENABLE = false →
    exec (.adcRotationStep b) s = .next s) ∧
  (∀ (s : State) (b : Bank) (d : Nat), s.acts 3 = true → (s.bank b).stage = 1 →
    ∃ t, exec (.adcHandover b d) s = .next t ∧
      (d ≤ s.reg Obj.ADC_MATCH_LIMIT → t.bank b = { s.bank b with stage := 2, spareServes := true } ∧
        (∀ k, k ≠ (s.bank b).adc → t.rail k = s.rail k) ∧ s.frame t [.rails] [] []) ∧
      (s.reg Obj.ADC_MATCH_LIMIT < d → t.bank b = { s.bank b with stage := 4 } ∧ t.rails.rails = s.rails.rails ∧
        t.reg Obj.HANDOVERS_ABANDONED = (s.reg Obj.HANDOVERS_ABANDONED + 1) % 2 ^ 32 ∧
        0 < Sparse.get (fun _ => 0) t.fault.waiting 54) ∧
      (∀ c, c ≠ b → t.bank c = s.bank c) ∧ s.frame t [.rails, .fault] [Obj.HANDOVERS_ABANDONED] []) ∧
  (∀ (s : State) (b : Bank) (d : Nat), s.acts 3 = true → (s.bank b).stage = 3 → (s.bank b).adc < 48 →
    ∃ t, exec (.adcHandover b d) s = .next t ∧
      t.bank b = { s.bank b with stage := 4, spareServes := false, result := none } ∧
      (∀ x, (s.bank b).result = some x → d ≤ s.reg Obj.ADC_MATCH_LIMIT → (s.bank b).discarded = false →
        t.tabNat Obj.ADC_TRIMS (4 * adcNumber b (s.bank b).adc) 2 = x.1 % 65536 ∧
        t.adcGain (adcNumber b (s.bank b).adc) = x.2 % 65536 ∧ s.otherTrims t (adcNumber b (s.bank b).adc)) ∧
      ((s.bank b).discarded = true → ∀ j, j < 392 → t.tabByte Obj.ADC_TRIMS j = s.tabByte Obj.ADC_TRIMS j) ∧
      (s.reg Obj.ADC_MATCH_LIMIT < d →
        t.reg Obj.HANDOVERS_ABANDONED = (s.reg Obj.HANDOVERS_ABANDONED + 1) % 2 ^ 32 ∧
        0 < Sparse.get (fun _ => 0) t.fault.waiting 54 ∧ s.frame t [.rails, .fault] [Obj.HANDOVERS_ABANDONED] []) ∧
      (d ≤ s.reg Obj.ADC_MATCH_LIMIT → s.frame t [.rails] [] [Obj.ADC_TRIMS]) ∧
      (∀ k, k ≠ (s.bank b).adc → t.rail k = s.rail k) ∧ (∀ c, c ≠ b → t.bank c = s.bank c)) ∧
  (∀ (s : State) (b : Bank) (d : Nat), s.acts 3 = true → (s.bank b).stage ≠ 1 → (s.bank b).stage ≠ 3 →
    ∃ t, exec (.adcHandover b d) s = .next t ∧ s.frame t [] [] []) ∧
  (∀ (s : State) (b : Bank) (lo hi : Nat), s.acts 3 = true → (s.bank b).stage = 2 →
    ∃ t, exec (.adcCalibrationDone b lo hi) s = .next t ∧
      ((s.bank b).adc ≠ 48 → t.bank b = { s.bank b with stage := 3, result := some (trimsOf lo hi) } ∧
        s.frame t [.rails] [] []) ∧
      ((s.bank b).adc = 48 → t.bank b = { s.bank b with stage := 4 } ∧
        ((s.bank b).discarded = false → t.adcGain (adcNumber b 48) = (trimsOf lo hi).2 ∧
          t.tabNat Obj.ADC_TRIMS (4 * adcNumber b 48) 2 = (trimsOf lo hi).1 ∧ s.otherTrims t (adcNumber b 48)) ∧
        ((s.bank b).discarded = true → s.frame t [.rails] [] [])) ∧
      t.rails.rails = s.rails.rails ∧ (∀ c, c ≠ b → t.bank c = s.bank c) ∧ s.frame t [.rails] [] [Obj.ADC_TRIMS]) ∧
  (∀ (s : State) (b : Bank) (lo hi : Nat), s.acts 3 = true → (s.bank b).stage ≠ 2 →
    ∃ t, exec (.adcCalibrationDone b lo hi) s = .next t ∧ s.frame t [] [] []) ∧
  (∀ (s : State) (rq : Req) (data : Bytes), s.admitsWrite rq Obj.ADC_TRIMS data = true →
    ∃ t, exec (.adcTrimsWrite rq data) s = .next t ∧ t.answered rq 0 = true ∧
      (∀ j, j < 392 → t.tabByte Obj.ADC_TRIMS j = data.getD j (s.tabByte Obj.ADC_TRIMS j)) ∧
      (data ≠ [] → t.reg Obj.ADC_TRIMS_STATE = 1 ∧ ∀ b, (t.bank b).full = false ∧ (t.bank b).fresh = false) ∧
      (∀ b, (s.bank b).adc ≤ 48 → 4 * adcNumber b (s.bank b).adc < data.length → (t.bank b).discarded = true) ∧
      t.rails.rails = s.rails.rails ∧ s.hostFrame t [.rails] [Obj.ADC_TRIMS_STATE] [Obj.ADC_TRIMS])

/-- The domain counters run (08 R206, R213, R223): on an empty queue a running device ticks, each counter gains its
increment, its servo step and the host's commands in their order; from a sleep's latch to its wake the ledger
counts, and its first edge with the TIME clock running advances the counters; a stopped, frozen or undefined device
stands. The tick itself is the model's choice for an empty queue (assumption log 2). Clauses rest on choices of the
model: assumption log 2. -/
def Obligations.CountersTickOnAnEmptyQueue : Prop :=
  (∀ s : State, s.pending = [] → s.acts 5 = true → s.exitDue = false → s.time.snapshot = none →
    ∃ t, step s = .next t ∧ t.ticks = s.ticks + 1 ∧
      (∀ d, (t.dom d).inc = (s.dom d).nextInc.getD (s.dom d).inc ∧ (t.dom d).nextInc = none ∧ (t.dom d).step = 0 ∧
        (t.dom d).actions = [] ∧ (t.dom d).mode = (s.dom d).mode ∧
        ((s.dom d).actions = [] → (t.dom d).counter =
          wrapCounter ((wrapCounter (((s.dom d).counter + (t.dom d).inc : Nat) : Int) : Int) + (s.dom d).step)) ∧
        (∀ v rest, (s.dom d).actions = rest ++ [.set v] →
          (t.dom d).counter = wrapCounter (((v.sec * 1000000000 + v.ns) * 4294967296 : Nat) : Int))) ∧
      t.traffic = { s.traffic with
        tokens := min (s.traffic.tokens + min (s.reg Obj.UPSTREAM_RESERVE) 100000) 3072000 } ∧
      s.frame t [.time, .clock, .traffic, .answer, .link, .layers, .out, .free] sentObjs []) ∧
  (∀ s : State, s.pending = [] → (s.device.frozen = true ∨ s.device.extest = true) → step s = .next s) ∧
  (∀ (s : State) (a ia b ib : Nat), s.pending = [] → s.defined = true → s.device.frozen = false →
    s.time.snapshot = some (a, ia, b, ib) →
    ∃ t, step s = .next t ∧ t.reg Obj.SLEEP_LEDGER = (s.reg Obj.SLEEP_LEDGER + 1) % 2 ^ 48 ∧
      (s.runs 5 = false → s.frame t [] [Obj.SLEEP_LEDGER] []) ∧
      (s.runs 5 = true → t.time.snapshot = none ∧
        t.reg Obj.SLEEP_ADVANCE = t.reg Obj.SLEEP_LEDGER * 30517578125 / 1000000 ∧ (t.dom .a).inc = ia ∧ (t.dom .b).inc = ib ∧
        (t.dom .a).counter = wrapCounter ((a + t.reg Obj.SLEEP_LEDGER * 30517578125 * 4294967296 / 1000000 : Nat) : Int) ∧
        (∀ d, (t.dom d).mode = if (s.dom d).mode = .free then .free else .holdover)) ∧
      s.frame t [.time] [Obj.SLEEP_LEDGER, Obj.SLEEP_ADVANCE] []) ∧
  (∀ s : State, s.pending = [] → s.runs 5 = false → s.time.snapshot = none → s.exitDue = false → step s = .next s)

/-- Measurements and the servo (08 R212 to R215, R220, R221): the offset of a Sync of the chosen PTP master is a
measurement; an outlier of a LOCKED domain is counted and not used, a second one leads to HOLDOVER; a measurement
within the step threshold sets a frequency within the limit; one beyond it steps the counter; eight near ones in a
row lock; a lost source leads to HOLDOVER; the host sets, adjusts and frees domains and chooses the active one.
Clauses rest on choices of the model: assumption log 59, 128, 163, 170. -/
def Obligations.DomainsFollowTheirSources : Prop :=
  (∀ (s : State) (m : PtpMessage) (origin : Time80) (delay : Int) (u : State), s.acts 5 = true → s.ptpRuns = true →
    m.domain = s.reg Obj.PTP_DOMAIN_NUMBER → s.ptpParent = some m.sender → m.body = .sync (some origin) →
    s.time.ptp.delay = some (m.sender, delay) → s.reg (Obj.DOM_SOURCE (domIx s.ptpDom)) = 2 →
    u = measure s.ptpDom (ptpTheta s.ptpNow (fineTime origin) (m.correction * 65536) delay) s →
    ∃ t, exec (.ptpMessageRx m) s = .next t ∧ (∀ d, t.dom d = u.dom d) ∧ t.time.catchGen = u.time.catchGen ∧
      (∀ o, o ∈ servoObjs s.ptpDom → t.reg o = u.reg o) ∧
      t.time.ptp = { s.time.ptp with
        waiting := none, lastSync := some (m.sender, s.ptpNow - fineTime origin - m.correction * 65536) } ∧
      s.frame t [.time] (servoObjs s.ptpDom) []) ∧
  (∀ (s : State) (theta : Rat) (d : Dom), (s.dom d).mode = .locked → (s.dom d).outlier = false →
    (s.reg (Obj.DOM_STEP_THRESHOLD (domIx d)) : Rat) < |theta| →
    (measure d theta s).dom d = { s.dom d with outlier := true } ∧
      (measure d theta s).reg (Obj.DOM_OUTLIERS (domIx d)) = (s.reg (Obj.DOM_OUTLIERS (domIx d)) + 1) % 2 ^ 32 ∧
      (measure d theta s).reg (Obj.DOM_OFFSET (domIx d)) =
        image 32 (min (max (roundRat theta) (-2147483648)) 2147483647) ∧
      s.frame (measure d theta s) [.time, .live] [Obj.DOM_OUTLIERS (domIx d), Obj.DOM_OFFSET (domIx d)] []) ∧
  (∀ (s : State) (theta : Rat) (d : Dom), (s.dom d).mode = .locked → (s.dom d).outlier = true →
    (s.reg (Obj.DOM_STEP_THRESHOLD (domIx d)) : Rat) < |theta| →
    ((measure d theta s).dom d).mode = .holdover ∧ ((measure d theta s).dom d).outlier = false ∧
      (measure d theta s).reg (Obj.DOM_MEASUREMENTS (domIx d)) =
        (s.reg (Obj.DOM_MEASUREMENTS (domIx d)) + 1) % 2 ^ 32) ∧
  (∀ (s t : State) (theta : Rat) (d : Dom), |theta| ≤ (s.reg (Obj.DOM_STEP_THRESHOLD (domIx d)) : Rat) →
    t = measure d theta s →
    (t.dom d).counter = (s.dom d).counter ∧ (t.dom d).step = (s.dom d).step ∧ (t.dom d).y ≤ s.freqLimit d ∧
      -s.freqLimit d ≤ (t.dom d).y ∧ (t.dom d).nextInc = some (incOf (t.dom d).y) ∧
      (t.dom d).lastTick = some (s.ticks : Int) ∧ (t.dom d).present = true ∧
      ((s.dom d).mode = .locked → (t.dom d).mode = .locked) ∧ ((s.dom d).mode = .free → (t.dom d).mode = .acquiring) ∧
      (((s.dom d).mode = .acquiring ∨ (s.dom d).mode = .holdover) →
        (t.dom d).mode = (if 7 ≤ (s.dom d).lockRun ∧ |theta| ≤ (s.reg (Obj.DOM_LOCK_THRESHOLD (domIx d)) : Nat) then .locked
          else (s.dom d).mode)) ∧
      t.reg (Obj.DOM_MEASUREMENTS (domIx d)) = (s.reg (Obj.DOM_MEASUREMENTS (domIx d)) + 1) % 2 ^ 32 ∧
      s.frame t [.time, .live] [Obj.DOM_MEASUREMENTS (domIx d), Obj.DOM_OFFSET (domIx d), Obj.DOM_FREQ (domIx d)] []) ∧
  (∀ (s t : State) (theta : Rat) (d : Dom), (s.dom d).mode ≠ .locked → s.reg (Obj.DOM_STEP_MAX (domIx d)) ≠ 0 →
    (s.reg (Obj.DOM_STEP_THRESHOLD (domIx d)) : Rat) < |theta| → t = measure d theta s →
    (t.dom d).step = roundRat (4294967296 * within (s.reg (Obj.DOM_STEP_MAX (domIx d)) : Nat) (-theta)) ∧
      (t.dom d).y = (s.dom d).integral ∧ (t.dom d).counter = (s.dom d).counter ∧
      t.reg (Obj.DOM_STEPS (domIx d)) = (s.reg (Obj.DOM_STEPS (domIx d)) + 1) % 2 ^ 32 ∧
      s.frame t [.time, .live] [Obj.DOM_MEASUREMENTS (domIx d), Obj.DOM_OFFSET (domIx d), Obj.DOM_FREQ (domIx d),
        Obj.DOM_STEPS (domIx d)] []) ∧
  (∀ (s : State) (d : Dom), s.acts 5 = true → ((s.dom d).mode = .acquiring ∨ (s.dom d).mode = .locked) →
    ∃ t, exec (.sourceTimeout d) s = .next t ∧ (t.dom d).mode = .holdover ∧ (t.dom d).present = false ∧
      (t.dom d).y = (s.dom d).integral ∧ (t.dom d).nextInc = some (incOf (s.dom d).integral) ∧
      (∀ o, o ≠ d → t.dom o = s.dom o ∧
        (s.flag Obj.AUTO_SWITCH = true → s.active = d → (s.dom o).mode = .locked →
          t.reg Obj.ACTIVE_DOMAIN = (if s.issuing = true ∧ s.time.catchGen.hostDom ≠ none
            then s.reg Obj.ACTIVE_DOMAIN else domIx o) ∧
          (s.issuing = true → t.active = d ∧ t.time.catchGen.autoDom = some (domIx o)) ∧
          (s.issuing = false → t.active = o))) ∧
      s.frame t [.time] [Obj.DOM_FREQ (domIx d), Obj.ACTIVE_DOMAIN, Obj.DOMAIN_SWITCHES] []) ∧
  (∀ (s : State) (d : Dom), s.acts 5 = true → ((s.dom d).mode = .free ∨ (s.dom d).mode = .holdover) →
    ∃ t, exec (.sourceTimeout d) s = .next t ∧ t.dom d = { s.dom d with present := false } ∧ s.frame t [.time] [] []) ∧
  (∀ (s : State) (rq : Req) (d : Dom) (data : Bytes), s.admitsWrite rq (Obj.DOM_SET (domIx d)) data = true →
    ∃ t, exec (.domSet rq d data) s = .next t ∧ t.answered rq 0 = true ∧
      t.dom d = { s.dom d with
        actions := (s.dom d).actions ++ [.set ⟨leNat (data.take 6), leNat (data.drop 6)⟩], valueSet := true } ∧
      (∀ o, o ≠ d → t.dom o = s.dom o) ∧ s.hostFrame t [.time] [] []) ∧
  (∀ (s : State) (rq : Req) (d : Dom) (data : Bytes), s.admitsWrite rq (Obj.DOM_ADJUST (domIx d)) data = true →
    ∃ t, exec (.domAdjust rq d data) s = .next t ∧ t.answered rq 0 = true ∧
      t.dom d = { s.dom d with actions := (s.dom d).actions ++ [.adjust (signed 32 (leNat data))], valueSet := true } ∧
      (∀ o, o ≠ d → t.dom o = s.dom o) ∧ s.hostFrame t [.time] [] []) ∧
  (∀ (s : State) (rq : Req) (d : Dom) (data : Bytes), s.admitsWrite rq (Obj.DOM_SOURCE (domIx d)) data = true →
    ∃ t, exec (.domSourceWrite rq d data) s = .next t ∧ t.answered rq 0 = true ∧
      t.reg (Obj.DOM_SOURCE (domIx d)) = leNat data ∧
      ((leNat data = 1 ∨ leNat data = 2) → t.time = s.time) ∧
      (leNat data ≠ 1 → leNat data ≠ 2 → (t.dom d).mode = .free ∧ (t.dom d).y = s.trim d ∧ (t.dom d).integral = 0 ∧
        (t.dom d).present = (s.dom d).present ∧ (t.dom d).counter = (s.dom d).counter ∧
        (∀ o, o ≠ d → t.dom o = s.dom o)) ∧
      s.hostFrame t [.time] [Obj.DOM_SOURCE (domIx d), Obj.DOM_FREQ (domIx d)] []) ∧
  (∀ (s : State) (rq : Req) (data : Bytes), s.admitsWrite rq Obj.ACTIVE_DOMAIN data = true →
    ∃ t, exec (.activeDomainWrite rq data) s = .next t ∧ t.answered rq 0 = true ∧
      t.reg Obj.ACTIVE_DOMAIN = leNat data ∧
      (s.issuing = true → t.time.catchGen = { s.time.catchGen with hostDom := some (if leNat data = 1 then 1 else 0) } ∧
        t.reg Obj.DOMAIN_SWITCHES = s.reg Obj.DOMAIN_SWITCHES) ∧
      (s.issuing = false → t.time.catchGen = { s.time.catchGen with dom := if leNat data = 1 then 1 else 0 } ∧
        t.reg Obj.DOMAIN_SWITCHES =
          (if s.time.catchGen.dom = (if leNat data = 1 then 1 else 0) then s.reg Obj.DOMAIN_SWITCHES
           else (s.reg Obj.DOMAIN_SWITCHES + 1) % 2 ^ 32)) ∧
      s.hostFrame t [.time] [Obj.ACTIVE_DOMAIN, Obj.DOMAIN_SWITCHES] [])

/-- Time messages (08 R209 to R211, R215, R216, 10 R259): SYNC leaves every port that is UP from the device that
originates, and is forwarded with its correction and measured from the source port; a delay exchange gives the link
delay; PTP messages of the chosen master are kept until they give an offset; transmit timestamps queue up to 16.
Clauses rest on choices of the model: assumption log 108, 163. -/
def Obligations.TimeMessagesAreExchanged : Prop :=
  (∀ (s : State) (d : Dom), s.acts 5 = true →
    ∃ t, exec (.syncOriginate d) s = .next t ∧
      t.traffic.queue = s.traffic.queue ++ (if s.originating d = true then ([Port.a, Port.b].filter s.up).map (fun p =>
        ({ port := p, cls := 1, kind := 0x10, dest := 0xFFFF, payload := []
           fields := natLE 1 (domIx d) ++ natLE 1 0 ++ natLE 10 (packTime (s.dom d).counter) ++ natLE 8 0 } : LocalPacket))
        else []) ∧
      t.cop = s.cop ∧ s.frame t [.answer] [] []) ∧
  (∀ (s : State) (p : Port), s.acts 5 = true → s.up p = true →
    ∃ t, exec (.delayMeasure p) s = .next t ∧
      t.delayOf p = { s.delayOf p with seq := ((s.delayOf p).seq + 1) % 65536
                                       waiting := some (((s.delayOf p).seq + 1) % 65536) } ∧
      t.delayOf (otherPort p) = s.delayOf (otherPort p) ∧
      t.traffic.queue = s.traffic.queue ++ [{ port := p, cls := 1, kind := 0x11, dest := 0xFFFD, payload := []
                                              fields := natLE 2 (((s.delayOf p).seq + 1) % 65536) ++ natLE 18 0 }] ∧
      t.cop = s.cop ∧ s.frame t [.time, .answer] [if p = .a then Obj.LINK_DELAY_A else Obj.LINK_DELAY_B] []) ∧
  (∀ (s : State) (p : Port), s.acts 5 = true → s.up p = false →
    ∃ t, exec (.delayMeasure p) s = .next t ∧ s.frame t [] [] []) ∧
  (∀ (s : State) (p : Port) (k : Packet) (turnaround : Nat), s.acts 0 = true → s.takes p k 0x11 = true →
    ∃ t, exec (.delayReqRx p turnaround) s = .next t ∧ s.arrives t p k ∧ s.passesOn t p k k ∧
      t.reg (Obj.PKT_TAKEN (portIx p)) = (s.reg (Obj.PKT_TAKEN (portIx p)) + 1) % 2 ^ 64 ∧
      t.traffic.queue = s.traffic.queue ++ [{ port := p, cls := 1, kind := 0x12, dest := 0xFFFD, payload := []
                                              fields := natLE 2 (k.num 8 2) ++ natLE 2 0 ++ natLE 4 turnaround ++
                                                natLE 12 0 }] ∧
      t.cop = s.cop ∧ s.frame t (.answer :: arrivalParts) (arrivalObjs p) []) ∧
  (∀ (s : State) (p : Port) (k : Packet) (roundTrip : Nat) (sample : Int), s.acts 0 = true → s.takes p k 0x12 = true →
    sample = roundDiv ((roundTrip : Int) - k.num 12 4) 2 + s.sreg (if p = .a then Obj.ASYMMETRY_A else Obj.ASYMMETRY_B) 32 →
    ∃ t, exec (.delayRespRx p roundTrip) s = .next t ∧ s.arrives t p k ∧ s.passesOn t p k k ∧
      t.reg (Obj.PKT_TAKEN (portIx p)) = (s.reg (Obj.PKT_TAKEN (portIx p)) + 1) % 2 ^ 64 ∧
      ((s.delayOf p).waiting = some (k.num 8 2) →
        t.delayOf p = { s.delayOf p with
          waiting := none, sampled := true
          delay := if (s.delayOf p).sampled then (s.delayOf p).delay + rsh (sample - (s.delayOf p).delay) 4 else sample } ∧
        t.delayOf (otherPort p) = s.delayOf (otherPort p) ∧
        t.reg (if p = .a then Obj.LINK_DELAY_A else Obj.LINK_DELAY_B) = min (t.delayOf p).delay.toNat 0xFFFFFFFF) ∧
      ((s.delayOf p).waiting ≠ some (k.num 8 2) → s.frame t arrivalParts (arrivalObjs p) []) ∧
      s.frame t (.time :: arrivalParts) ((if p = .a then Obj.LINK_DELAY_A else Obj.LINK_DELAY_B) :: arrivalObjs p) []) ∧
  (∀ (s : State) (p : Port) (k : Packet) (residence : Nat), s.acts 0 = true → s.takes p k 0x10 = true → k.num 8 1 ≤ 1 →
    s.traffic.syncLost.contains (portIx p) = false →
    ∃ t, exec (.syncRx p residence) s = .next t ∧ s.arrives t p k ∧ s.passesOn t p k (s.syncSent p k residence) ∧
      (s.forwardsSync p k = true →
        t.reg Obj.SYNC_FORWARDED = (s.reg Obj.SYNC_FORWARDED + 1) % 2 ^ 32 ∧
        t.reg Obj.RESIDENCE_MAX = min (max (s.reg Obj.RESIDENCE_MAX) residence) 0xFFFFFFFF ∧
        t.crossing 8 = (s.crossing 8).completed ∧ (∀ h, h ≠ 8 → t.crossing h = s.crossing h)) ∧
      (s.fromSource p = true → s.reg (Obj.DOM_SOURCE (domIx (domOf (k.num 8 1)))) = 1 →
        t.time = (measure (domOf (k.num 8 1)) (s.syncTheta p k) s).time ∧
        (∀ o, o ∈ servoObjs (domOf (k.num 8 1)) → t.reg o = (measure (domOf (k.num 8 1)) (s.syncTheta p k) s).reg o)) ∧
      ((s.fromSource p = false ∨ s.reg (Obj.DOM_SOURCE (domIx (domOf (k.num 8 1)))) ≠ 1) →
        s.frame t (.crossing :: arrivalParts) (Obj.SYNC_FORWARDED :: Obj.RESIDENCE_MAX :: arrivalObjs p) []) ∧
      s.frame t (.time :: .crossing :: arrivalParts)
        (Obj.SYNC_FORWARDED :: Obj.RESIDENCE_MAX :: servoObjs (domOf (k.num 8 1)) ++ arrivalObjs p) []) ∧
  (∀ (s : State) (p : Port) (k : Packet) (residence : Nat), s.acts 0 = true → s.takes p k 0x10 = true → k.num 8 1 ≤ 1 →
    s.traffic.syncLost.contains (portIx p) = true →
    ∃ t, exec (.syncRx p residence) s = .next t ∧ t.traffic.syncLost = remove (portIx p) s.traffic.syncLost ∧
      s.passesOn t p k { k with dest := 0xFFFD } ∧ t.reg Obj.SYNC_FORWARDED = s.reg Obj.SYNC_FORWARDED ∧
      s.frame t (.time :: .traffic :: .answer :: arrivalParts) (servoObjs (domOf (k.num 8 1)) ++ arrivalObjs p) []) ∧
  (∀ (s : State) (p : Port) (k : Packet) (residence : Nat), s.acts 0 = true → s.up p = true → s.arrived p = some k →
    k.kind = 0x10 → k.bodyOk = true → k.marked = 0 → 1 < k.num 8 1 →
    ∃ t, exec (.syncRx p residence) s = .next t ∧ s.arrives t p k ∧ s.passesOn t p k k ∧
      s.frame t arrivalParts (arrivalObjs p) []) ∧
  (∀ (s : State) (m : PtpMessage), s.acts 5 = true → s.ptpRuns = true →
    ∃ t, exec (.ptpMessageRx m) s = .next t ∧
      ((m.domain ≠ s.reg Obj.PTP_DOMAIN_NUMBER ∨ ((∀ x, m.body ≠ .announce x) ∧ s.ptpParent ≠ some m.sender)) →
        s.frame t [] [] []) ∧
      (m.domain = s.reg Obj.PTP_DOMAIN_NUMBER →
        (∀ x, m.body = .announce x →
          t.time.ptp = { s.time.ptp with
            masters := s.time.ptp.masters.filter (·.port != m.sender) ++
              [{ port := m.sender, data := x, last := s.ticks
                 before := (s.time.ptp.masters.find? (·.port == m.sender)).map (·.last) }] } ∧
          (∀ d, t.dom d = s.dom d)) ∧
        (m.body = .sync none → s.ptpParent = some m.sender →
          t.time.ptp = { s.time.ptp with waiting := some (m.sender, m.seq, s.ptpNow, m.correction * 65536) } ∧
          (∀ d, t.dom d = s.dom d)) ∧
        (∀ origin t2 c1, m.body = .followUp origin → s.ptpParent = some m.sender →
          s.time.ptp.waiting = some (m.sender, m.seq, t2, c1) →
          t.time.ptp.waiting = none ∧
          t.time.ptp.lastSync = some (m.sender, t2 - fineTime origin - (c1 + m.correction * 65536))) ∧
        (∀ received n t3 difference, m.body = .delayResp received ownPtpPort → s.ptpParent = some m.sender →
          s.time.ptp.request = some m.seq → n = m.seq → s.time.ptp.sent = some t3 →
          s.time.ptp.lastSync = some (m.sender, difference) →
          t.time.ptp.delay =
            some (m.sender, (difference + (fineTime received - t3 - m.correction * 65536)) / 2))) ∧
      s.frame t [.time] (servoObjs s.ptpDom) []) ∧
  (∀ (s : State) (seq messageType : Nat), s.acts 5 = true → s.ptpRuns = true →
    ∃ t, exec (.ptpTxTimestamp seq messageType) s = .next t ∧
      (s.time.txq.length < 16 →
        t.time.txq = s.time.txq ++ [{ seq := seq, dom := domIx s.ptpDom, messageType := messageType
                                      time := packTime (s.dom s.ptpDom).counter }] ∧
        (messageType = 1 → s.time.ptp.request = some seq → t.time.ptp = { s.time.ptp with sent := some s.ptpNow }) ∧
        (∀ d, t.dom d = s.dom d) ∧ s.frame t [.time] [] []) ∧
      (16 ≤ s.time.txq.length →
        t.reg Obj.PTP_TXQ_OVERFLOWS = (s.reg Obj.PTP_TXQ_OVERFLOWS + 1) % 2 ^ 32 ∧
        0 < Sparse.get (fun _ => 0) t.fault.waiting 59 ∧ s.frame t [.fault] [Obj.PTP_TXQ_OVERFLOWS] [])) ∧
  (∀ (s : State) (rq : Req), s.admitsRead (wholeRead rq Obj.PTP_TXQ_POP) = true → s.hasSpace rq.who = true →
    ∃ t, exec (.ptpTxqPop rq) s = .next t ∧ t.answered rq 0 = true ∧
      t.answerData = (s.time.txq.head?.map TxStamp.bytes).getD (natLE 16 0) ∧
      t.time = { s.time with txq := s.time.txq.drop 1 } ∧ s.hostFrame t [.time, .cop] [] []) ∧
  (∀ s : State, s.acts 5 = true → s.ptpRuns = true →
    ∃ t, exec .ptpDelayReqSend s = .next t ∧
      (s.ptpParent ≠ none → t.out = .ptpDelayReq s.time.ptp.nextSeq :: s.out ∧
        t.time.ptp = { s.time.ptp with nextSeq := (s.time.ptp.nextSeq + 1) % 65536, sent := none
                                       request := some s.time.ptp.nextSeq } ∧
        (∀ d, t.dom d = s.dom d)) ∧
      (s.ptpParent = none → s.frame t [] [] []) ∧ s.frame t [.time, .out] [] []) ∧
  (∀ (s : State) (m : PtpMessage) (seq messageType : Nat), s.defined = true → s.ptpRuns = false →
    exec (.ptpMessageRx m) s = .next s ∧ exec (.ptpTxTimestamp seq messageType) s = .next s ∧
      exec .ptpDelayReqSend s = .next s)

/-- Bring-up of a port (09 R231 to R237): signal, the training marker, three control words of each lane, adaptation,
verification, HANDOFF, and two alignment codewords in sequence lead from SEEK to UP; a conflict of the control
words, or the device's own serial number in them, fails training. Clauses rest on choices of the model: assumption
log 112, 164, 165, 166. -/
def Obligations.PortsTrainUpToData : Prop :=
  (∀ (s : State) (p : Port) (lane : Nat), s.acts 0 = true →
    ∃ t, exec (.signalDetect p lane) s = .next t ∧ t.flag (Obj.LANE_SIGNAL_DETECT (laneIx p lane)) = true ∧
      s.frame t [] [Obj.LANE_SIGNAL_DETECT (laneIx p lane)] []) ∧
  (∀ (s : State) (p : Port) (l0 l1 : List Nat) (i0 i1 : Bool) (skew : Int), s.acts 0 = true → s.portState p = 1 →
    s.signal p = true → (s.portLink p).waking = false → markerPolarity l0 = some i0 → markerPolarity l1 = some i1 →
    ∃ t, exec (.markerLock p l0 l1 skew) s = .next t ∧ t.portState p = 2 ∧
      t.portLink p = { (s.portLink p).fresh with inv0 := i0, inv1 := i1, skew := skew, attempts := 0
                                                 trainStart := s.ticks } ∧
      t.portLink (otherPort p) = s.portLink (otherPort p) ∧ (∀ q, t.stream q = s.stream q) ∧
      t.reg (Obj.LANE_SKEW_PS (laneIx p 0)) = (-skew).toNat ∧ t.reg (Obj.LANE_SKEW_PS (laneIx p 1)) = skew.toNat ∧
      s.frame t [.link]
        [Obj.PORT_STATE (portIx p), Obj.LANE_SKEW_PS (laneIx p 0), Obj.LANE_SKEW_PS (laneIx p 1)] []) ∧
  (∀ (s : State) (p : Port) (l0 l1 : List Nat) (skew : Int), s.acts 0 = true →
    (s.portState p ≠ 1 ∨ s.signal p = false ∨ (s.portLink p).waking = true ∨ markerPolarity l0 = none ∨
      markerPolarity l1 = none) →
    ∃ t, exec (.markerLock p l0 l1 skew) s = .next t ∧ s.frame t [] [] []) ∧
  (∀ (s : State) (p : Port) (lane w : Nat), s.acts 0 = true →
    (s.portState p < 2 ∨ 5 < s.portState p ∨ wordOk w = false) →
    ∃ t, exec (.trainingControlWordRx p lane w) s = .next t ∧ s.frame t [] [] []) ∧
  (∀ (s : State) (p : Port) (lane w : Nat), s.acts 0 = true → s.portState p = 2 → wordOk w = true →
    ((s.portLink p).peerLocked = true → bitAt w 8 = true) →
    (((s.portLink p).hear lane w).count0 < 3 ∨ ((s.portLink p).hear lane w).count1 < 3) →
    ∃ t, exec (.trainingControlWordRx p lane w) s = .next t ∧ t.portLink p = (s.portLink p).hear lane w ∧
      s.frame t [.link] [] []) ∧
  (∀ (s : State) (p : Port) (lane w : Nat) (y : PortLink), s.acts 0 = true → s.portState p = 2 → wordOk w = true →
    ((s.portLink p).peerLocked = true → bitAt w 8 = true) → y = (s.portLink p).hear lane w → y.count0 = 3 → y.count1 = 3 →
    wordLane y.word0 ≠ wordLane y.word1 → wordPort y.word0 = wordPort y.word1 → wordSerial y.word0 = wordSerial y.word1 →
    y.skew.natAbs ≤ 20000 →
    ∃ t, exec (.trainingControlWordRx p lane w) s = .next t ∧
      (if wordSerial y.word0 = Config.deviceSerial % 4294967296 then
        t.portState p = 8 ∧ t.reg (Obj.PORT_DOWN_CAUSE (portIx p)) = 8
      else t.portState p = 3 ∧ t.portLink p = { y with rxLocked := true } ∧
        t.reg (Obj.PORT_PEER_SERIAL (portIx p)) = wordSerial y.word0 ∧
        bitAt (t.reg (Obj.PORT_STATUS (portIx p))) 5 = (wordPort y.word0 == portIx p) ∧
        t.reg (Obj.LANE_RX_SOURCE_LANE (laneIx p 0)) = wordLane y.word0) ∧
      s.frame t [.link] [Obj.PORT_STATE (portIx p), Obj.PORT_DOWN_CAUSE (portIx p), Obj.PORT_STATUS (portIx p),
        Obj.PORT_PEER_SERIAL (portIx p), Obj.LANE_RX_SOURCE_LANE (laneIx p 0), Obj.LANE_RX_SOURCE_LANE (laneIx p 1),
        Obj.LANE_RX_POLARITY_INVERTED (laneIx p 0), Obj.LANE_RX_POLARITY_INVERTED (laneIx p 1)] []) ∧
  (∀ (s : State) (p : Port) (lane w : Nat) (y : PortLink), s.acts 0 = true → s.portState p = 2 → wordOk w = true →
    ((s.portLink p).peerLocked = true → bitAt w 8 = true) → y = (s.portLink p).hear lane w → y.count0 = 3 → y.count1 = 3 →
    (wordLane y.word0 = wordLane y.word1 ∨ wordPort y.word0 ≠ wordPort y.word1 ∨
      wordSerial y.word0 ≠ wordSerial y.word1 ∨ 20000 < y.skew.natAbs) →
    ∃ t, exec (.trainingControlWordRx p lane w) s = .next t ∧ t.portState p = 8 ∧
      t.reg (Obj.PORT_DOWN_CAUSE (portIx p)) = 9 ∧
      s.frame t [.link] [Obj.PORT_STATE (portIx p), Obj.PORT_DOWN_CAUSE (portIx p)] []) ∧
  (∀ (s : State) (p : Port) (lane w : Nat), s.acts 0 = true → 2 ≤ s.portState p → s.portState p ≤ 5 → wordOk w = true →
    (s.portLink p).peerLocked = true → bitAt w 8 = false →
    ∃ t, exec (.trainingControlWordRx p lane w) s = .next t ∧ t.portState p = 2 ∧
      (t.portLink p).attempts = min ((s.portLink p).attempts + 1) 255 ∧ (t.portLink p).trainStart = s.ticks ∧
      s.frame t [.link] [Obj.PORT_STATE (portIx p)] []) ∧
  (∀ (s : State) (p : Port) (lane w : Nat) (y : PortLink), s.acts 0 = true → 3 ≤ s.portState p → s.portState p ≤ 5 →
    wordOk w = true → ((s.portLink p).peerLocked = true → bitAt w 8 = true) → y = (s.portLink p).hear lane w →
    ∃ t, exec (.trainingControlWordRx p lane w) s = .next t ∧ t.portLink p = y ∧
      t.portState p = (if s.portState p = 4 ∧ y.rxVerified = true ∧ 3 ≤ y.verified0 ∧ 3 ≤ y.verified1 then 5
        else if s.portState p = 5 ∧ y.ownData = true ∧ y.peerZero = true then 6 else s.portState p) ∧
      s.frame t [.link] [Obj.PORT_STATE (portIx p)] []) ∧
  (∀ (s : State) (p : Port) (a b c d : Nat), s.acts 0 = true →
    ∃ t, exec (.adaptComplete p a b c d) s = .next t ∧
      (s.portState p = 3 → t.portState p = 4 ∧ (t.portLink p).rxAdapted = true ∧
        t.reg (Obj.LANE_SNR (laneIx p 0)) = a % 65536 ∧ t.reg (Obj.LANE_SNR (laneIx p 1)) = b % 65536 ∧
        t.reg (Obj.LANE_CTLE (laneIx p 0)) = c % 256 ∧ t.reg (Obj.LANE_CTLE (laneIx p 1)) = d % 256) ∧
      (s.portState p ≠ 3 → s.frame t [] [] []) ∧
      s.frame t [.link] [Obj.PORT_STATE (portIx p), Obj.LANE_SNR (laneIx p 0), Obj.LANE_SNR (laneIx p 1),
        Obj.LANE_CTLE (laneIx p 0), Obj.LANE_CTLE (laneIx p 1)] []) ∧
  (∀ (s : State) (p : Port) (lane : Nat) (inv : Bool), s.acts 0 = true →
    ∃ t, exec (.prbsCheckerLock p lane inv) s = .next t ∧
      (s.portState p = 4 → t.portLink p = (if lane = 0 then { s.portLink p with checked0 := true }
        else { s.portLink p with checked1 := true }) ∧ s.frame t [.link] [] []) ∧
      (s.portState p = 9 → t.flag (Obj.LANE_PRBS_LOCKED (laneIx p lane)) = true ∧
        t.reg (Obj.LANE_PRBS_BITS (laneIx p lane)) = s.reg (Obj.LANE_PRBS_BITS (laneIx p lane))) ∧
      (s.portState p ≠ 4 → s.portState p ≠ 9 → s.frame t [] [] []) ∧
      s.frame t [.link] [Obj.LANE_PRBS_LOCKED (laneIx p lane)] []) ∧
  (∀ (s : State) (p : Port) (e0 e1 : Nat), s.acts 0 = true → s.portState p = 4 → (s.portLink p).rxVerified = false →
    (s.portLink p).checked0 = true → (s.portLink p).checked1 = true →
    ∃ t, exec (.verifyWindowEnd p e0 e1) s = .next t ∧
      (e0 ≤ s.reg Obj.VERIFY_LIMIT → e1 ≤ s.reg Obj.VERIFY_LIMIT →
        (t.portLink p).rxVerified = true ∧
        t.portState p = (if 3 ≤ (s.portLink p).verified0 ∧ 3 ≤ (s.portLink p).verified1 then 5 else 4)) ∧
      ((s.reg Obj.VERIFY_LIMIT < e0 ∨ s.reg Obj.VERIFY_LIMIT < e1) → (s.portLink p).fails ≠ 2 →
        t.portState p = 3 ∧ t.portLink p = { s.portLink p with rxAdapted := false, fails := (s.portLink p).fails + 1 }) ∧
      ((s.reg Obj.VERIFY_LIMIT < e0 ∨ s.reg Obj.VERIFY_LIMIT < e1) → (s.portLink p).fails = 2 → s.trainFailed t p 11) ∧
      s.frame t [.link] [Obj.PORT_STATE (portIx p), Obj.PORT_DOWN_CAUSE (portIx p)] []) ∧
  (∀ (s : State) (p : Port) (e0 e1 : Nat), s.acts 0 = true →
    (s.portState p ≠ 4 ∨ (s.portLink p).rxVerified = true ∨ (s.portLink p).checked0 = false ∨
      (s.portLink p).checked1 = false) →
    ∃ t, exec (.verifyWindowEnd p e0 e1) s = .next t ∧ s.frame t [] [] []) ∧
  (∀ (s : State) (p : Port), s.acts 0 = true →
    ∃ t, exec (.dataModeStart p) s = .next t ∧
      (s.portState p = 5 → (s.portLink p).ownData = false →
        (t.portLink p).ownData = true ∧ t.portState p = (if (s.portLink p).peerZero then 6 else 5) ∧
        ((s.stream p).codewords = 0 →
          t.out.length = s.out.length + (4 - (s.portLink p).ready) + 1 ∧
          t.out.head? = some (.codeword p
            (sendLevels (alignmentBlocks (portIx p) 0 (Config.deviceSerial % 4294967296)) (s.stream p).sent0 (s.stream p).sent1).1
            (sendLevels (alignmentBlocks (portIx p) 0 (Config.deviceSerial % 4294967296)) (s.stream p).sent0
              (s.stream p).sent1).2))) ∧
      ((s.portState p ≠ 5 ∨ (s.portLink p).ownData = true) → s.frame t [] [] []) ∧
      t.portLink (otherPort p) = s.portLink (otherPort p) ∧ s.frame t [.link, .out, .free] [Obj.PORT_STATE (portIx p)] []) ∧
  (∀ (s : State) (p : Port) (l0 l1 : List Nat) (found : Option Nat), s.acts 0 = true → s.portState p = 6 →
    found = s.alignment p (hearCodeword p l0 l1 s).1.2 →
    ∃ t, exec (.alignmentCodewordRx p l0 l1) s = .next t ∧
      (∀ c, found = some c → (s.portLink p).amLast.map (fun l => (l + 1) % 256) = some c →
        t.portState p = 7 ∧ t.up p = true ∧ (t.portLink p).amLast = some c ∧
        t.reg (Obj.PORT_UP_COUNT (portIx p)) = (s.reg (Obj.PORT_UP_COUNT (portIx p)) + 1) % 2 ^ 32 ∧
        t.reg (Obj.PORT_LAST_UP (portIx p)) = s.stampA) ∧
      (∀ c, found = some c → (s.portLink p).amLast = none →
        t.portState p = 6 ∧ t.portLink p = { s.portLink p with amLast := some c }) ∧
      ((found = none ∨ ((s.portLink p).amLast ≠ none ∧ (s.portLink p).amLast.map (fun l => (l + 1) % 256) ≠ found)) →
        t.portState p = 6 ∧ t.portLink p = { s.portLink p with amLast := none }) ∧
      s.frame t [.link] [Obj.PORT_STATE (portIx p), Obj.PORT_UP_COUNT (portIx p), Obj.PORT_LAST_UP (portIx p),
        Obj.PORT_TRAIN_TIME (portIx p)] []) ∧
  (∀ (s : State) (p : Port) (l0 l1 : List Nat) (found : Option Nat) (expected : Nat), s.acts 0 = true → s.portState p = 7 →
    found = s.alignment p (hearCodeword p l0 l1 s).1.2 → expected = ((s.portLink p).amLast.getD 0 + 1) % 256 →
    ∃ t, exec (.alignmentCodewordRx p l0 l1) s = .next t ∧ t.portState p = 7 ∧ (t.portLink p).amLast = some expected ∧
      (found = some expected → (t.portLink p).amMissRun = 0 ∧
        t.reg (Obj.FEC_AM_MISSES (portIx p)) = s.reg (Obj.FEC_AM_MISSES (portIx p))) ∧
      (found ≠ some expected → (t.portLink p).amMissRun = (s.portLink p).amMissRun + 1 ∧
        t.reg (Obj.FEC_AM_MISSES (portIx p)) = (s.reg (Obj.FEC_AM_MISSES (portIx p)) + 1) % 2 ^ 32) ∧
      (t.stream p).rx = (s.stream p).rx ∧
      s.frame t [.link] (Obj.FEC_AM_MISSES (portIx p) :: codewordObjs p) [Obj.FEC_HISTOGRAM (portIx p)]) ∧
  (∀ (s : State) (p : Port) (l0 l1 : List Nat), s.acts 0 = true → s.portState p ≠ 6 → s.portState p ≠ 7 →
    ∃ t, exec (.alignmentCodewordRx p l0 l1) s = .next t ∧ t.portState p = s.portState p ∧
      t.portLink p = s.portLink p ∧ s.frame t [.link] [] [])

/-- Ports going down (09 R234, R238, R239): loss of signal, eight uncorrectable codewords, three missing alignments and
a retrain take a port from UP to HOLDOFF with its cause; each training timeout fails with its own; the hold-off ends
in SEEK; disabling ends in DISABLED; TEST is entered and left by command. In any other state of the port the event
changes nothing. Clauses rest on choices of the model: assumption log 109, 110, 167. -/
def Obligations.PortsGoDownWithTheirCause : Prop :=
  (∀ (s : State) (p : Port) (lane : Nat), s.acts 0 = true → lane < 2 →
    ∃ t, exec (.lossOfSignal p lane) s = .next t ∧ t.flag (Obj.LANE_SIGNAL_DETECT (laneIx p lane)) = false ∧
      (s.up p = true → s.portDown t p 2 8 ∧ t.cop = s.cop) ∧
      (1 ≤ s.portState p → s.portState p ≤ 5 → t.portState p = 1 ∧
        s.frame t [.link] [Obj.LANE_SIGNAL_DETECT (laneIx p lane), Obj.PORT_STATE (portIx p)] []) ∧
      ((s.portState p = 0 ∨ s.portState p = 6 ∨ 8 ≤ s.portState p) →
        s.frame t [] [Obj.LANE_SIGNAL_DETECT (laneIx p lane)] []) ∧
      s.frame t portDownParts (Obj.LANE_SIGNAL_DETECT (laneIx p lane) :: portDownObjs p) []) ∧
  (∀ (s : State) (p : Port), s.acts 0 = true →
    ∃ t, exec (.uncorrectableRun p) s = .next t ∧
      (s.up p = true → 8 ≤ (s.portLink p).ueRun → s.portDown t p 3 8 ∧ t.cop = s.cop) ∧
      ((s.up p = false ∨ (s.portLink p).ueRun < 8) → s.frame t [] [] []) ∧ s.frame t portDownParts (portDownObjs p) []) ∧
  (∀ (s : State) (p : Port), s.acts 0 = true →
    ∃ t, exec (.alignmentLost p) s = .next t ∧
      (s.up p = true → 3 ≤ (s.portLink p).amMissRun → s.portDown t p 4 8 ∧ t.cop = s.cop) ∧
      ((s.up p = false ∨ (s.portLink p).amMissRun < 3) → s.frame t [] [] []) ∧
      s.frame t portDownParts (portDownObjs p) []) ∧
  (∀ (s : State) (p : Port), s.acts 0 = true →
    ∃ t, exec (.identifyTimeout p) s = .next t ∧ (s.portState p = 2 → s.trainFailed t p 7) ∧
      (s.portState p ≠ 2 → s.frame t [] [] [])) ∧
  (∀ (s : State) (p : Port), s.acts 0 = true →
    ∃ t, exec (.adaptTimeout p) s = .next t ∧ (s.portState p = 3 → s.trainFailed t p 10) ∧
      (s.portState p ≠ 3 → s.frame t [] [] [])) ∧
  (∀ (s : State) (p : Port), s.acts 0 = true →
    ∃ t, exec (.fecLockTimeout p) s = .next t ∧ (s.portState p = 6 → s.trainFailed t p 12) ∧
      (s.portState p ≠ 6 → s.frame t [] [] [])) ∧
  (∀ (s : State) (p : Port), s.acts 0 = true →
    ∃ t, exec (.trainTimeout p) s = .next t ∧ (2 ≤ s.portState p → s.portState p ≤ 6 → s.trainFailed t p 14) ∧
      ((s.portState p < 2 ∨ 6 < s.portState p) → s.frame t [] [] [])) ∧
  (∀ (s : State) (p : Port), s.acts 0 = true →
    ∃ t, exec (.holdoffExpiry p) s = .next t ∧ t.portState p = (if s.portState p = 8 then 1 else s.portState p) ∧
      t.portLink (otherPort p) = s.portLink (otherPort p) ∧ (s.portState p ≠ 8 → s.frame t [] [] []) ∧
      s.frame t [.link] [Obj.PORT_STATE (portIx p)] []) ∧
  (∀ (s : State) (rq : Req) (data : Bytes), s.admitsWrite rq Obj.LINK_RETRAIN data = true →
    ∃ t, exec (.linkRetrain rq data) s = .next t ∧ t.answered rq 0 = true ∧
      (∀ p, bitAt (leNat data) (portIx p) = true → s.up p = true → s.portDown t p 5 8) ∧
      (∀ p, (bitAt (leNat data) (portIx p) = false ∨ s.up p = false) →
        t.portState p = s.portState p ∧ t.portLink p = s.portLink p) ∧
      s.hostFrame t portDownParts
        (portDownObjs .a ++ portDownObjs .b ++ sentObjs) []) ∧
  (∀ (s : State) (rq : Req) (data : Bytes), s.admitsWrite rq Obj.LINK_PORT_ENABLE data = true →
    ∃ t, exec (.linkPortEnableWrite rq data) s = .next t ∧ t.answered rq 0 = true ∧
      t.reg Obj.LINK_PORT_ENABLE = leNat data % 4 ∧
      (∀ p, bitAt (leNat data) (portIx p) = true → t.portState p = (if s.portState p = 0 then 1 else s.portState p)) ∧
      (∀ p, bitAt (leNat data) (portIx p) = false → s.up p = true → s.portDown t p 1 0) ∧
      (∀ p, bitAt (leNat data) (portIx p) = false → s.up p = false → t.portState p = 0) ∧
      s.hostFrame t (.free :: portDownParts) (Obj.LINK_PORT_ENABLE :: portDownObjs .a ++ portDownObjs .b ++
        sentObjs ++
        repeated 4 [Obj.LANE_PRBS_ERRORS 0, Obj.LANE_PRBS_BITS 0, Obj.LANE_PRBS_LOCKED 0]) []) ∧
  (∀ (s : State) (rq : Req) (p : Port) (data : Bytes), s.admitsWrite rq (Obj.PORT_TEST_MODE (portIx p)) data = true →
    leNat data ≠ 0 →
    ∃ t, exec (.portTestEnter rq p data) s = .next t ∧ t.answered rq 0 = true ∧ t.portState p = 9 ∧
      t.reg (Obj.PORT_TEST_MODE (portIx p)) = leNat data ∧ (s.up p = true → s.portDown t p 6 9) ∧
      (∀ l, l < 2 → t.reg (Obj.LANE_PRBS_ERRORS (laneIx p l)) = 0 ∧ t.reg (Obj.LANE_PRBS_BITS (laneIx p l)) = 0 ∧
        t.flag (Obj.LANE_PRBS_LOCKED (laneIx p l)) = false) ∧
      t.portState (otherPort p) = s.portState (otherPort p) ∧
      s.hostFrame t portDownParts (Obj.PORT_TEST_MODE (portIx p) :: sentObjs ++ portDownObjs p ++
        repeated 4 [Obj.LANE_PRBS_ERRORS 0, Obj.LANE_PRBS_BITS 0, Obj.LANE_PRBS_LOCKED 0]) []) ∧
  (∀ (s : State) (rq : Req) (p : Port) (data : Bytes), s.admitsWrite rq (Obj.PORT_TEST_MODE (portIx p)) data = true →
    leNat data = 0 →
    ∃ t, exec (.portTestExit rq p data) s = .next t ∧ t.answered rq 0 = true ∧
      t.reg (Obj.PORT_TEST_MODE (portIx p)) = 0 ∧ t.portState p = (if s.portState p = 9 then 1 else s.portState p) ∧
      s.hostFrame t [.link, .free] (Obj.PORT_TEST_MODE (portIx p) :: Obj.PORT_STATE (portIx p) ::
        repeated 4 [Obj.LANE_PRBS_ERRORS 0, Obj.LANE_PRBS_BITS 0, Obj.LANE_PRBS_LOCKED 0]) [])

/-- A port in service (09 R239, R240, 10 R249, R266): every codeword is counted, its corrected symbols by number, and
its blocks pass the elastic buffer to the packet layer, a block that the buffer's SRAM spoilt marked; each second is
judged against DEGRADE_LIMIT, ten good ones end a degradation; the wake pattern starts by command and ends. Clauses
rest on choices of the model: assumption log 111, 164, 166, 168. -/
def Obligations.CodewordsAreCountedAndJudged : Prop :=
  (∀ (s : State) (p : Port) (l0 l1 : List Nat) (drift : Int) (trouble : BufferTrouble) (h : Option Nat × List RxBlock),
    s.acts 0 = true → s.up p = true → h = (hearCodeword p l0 l1 s).1 →
    ∃ t, exec (.fecCodewordRx p l0 l1 drift trouble) s = .next t ∧
      t.reg (Obj.FEC_CODEWORDS (portIx p)) = (s.reg (Obj.FEC_CODEWORDS (portIx p)) + 1) % 2 ^ 64 ∧
      (∀ k, h.1 = some k →
        t.reg (Obj.FEC_SYMBOLS_CORRECTED (portIx p)) = (s.reg (Obj.FEC_SYMBOLS_CORRECTED (portIx p)) + k) % 2 ^ 64 ∧
        (k ≠ 0 → t.reg (Obj.FEC_CORRECTED_CW (portIx p)) = (s.reg (Obj.FEC_CORRECTED_CW (portIx p)) + 1) % 2 ^ 64) ∧
        (k ≤ 15 → t.tabNat (Obj.FEC_HISTOGRAM (portIx p)) (8 * k) 8 =
          (s.tabNat (Obj.FEC_HISTOGRAM (portIx p)) (8 * k) 8 + 1) % 2 ^ 64) ∧
        t.portLink p = { s.portLink p with ueRun := 0, serCount := (s.portLink p).serCount + k }) ∧
      (h.1 = none →
        t.reg (Obj.FEC_UNCORRECTABLE (portIx p)) = (s.reg (Obj.FEC_UNCORRECTABLE (portIx p)) + 1) % 2 ^ 64 ∧
        t.portLink p = { s.portLink p with ueRun := (s.portLink p).ueRun + 1 }) ∧
      (trouble = .none →
        (t.stream p).rx = (s.stream p).rx ++ (elastic (((s.stream p).fill : Int) + drift).toNat h.2).1 ∧
        s.frame t [.link] (Obj.PKT_IDLE_ADJUST (portIx p) :: codewordObjs p) [Obj.FEC_HISTOGRAM (portIx p)]) ∧
      (∀ n, trouble = .corrected n →
        t.regAt Obj.SRAM_CORRECTED 2 = (s.regAt Obj.SRAM_CORRECTED 2 + n) % 2 ^ 32 ∧
        (t.stream p).rx = (s.stream p).rx ++ (elastic (((s.stream p).fill : Int) + drift).toNat h.2).1 ∧
        s.frame t [.link] (Obj.SRAM_CORRECTED :: Obj.PKT_IDLE_ADJUST (portIx p) :: codewordObjs p)
          [Obj.FEC_HISTOGRAM (portIx p)]) ∧
      (∀ i o, trouble = .uncorrectable i o →
        t.regAt Obj.SRAM_UNCORRECTED 2 = (s.regAt Obj.SRAM_UNCORRECTED 2 + 1) % 2 ^ 32 ∧
        t.regAt Obj.SRAM_LAST_OFFSET 2 = o ∧ 0 < Sparse.get (fun _ => 0) t.fault.waiting 12) ∧
      s.frame t [.link, .fault] ([Obj.PKT_IDLE_ADJUST (portIx p), Obj.SRAM_CORRECTED, Obj.SRAM_UNCORRECTED,
        Obj.SRAM_LAST_OFFSET] ++ codewordObjs p) [Obj.FEC_HISTOGRAM (portIx p)]) ∧
  (∀ (s : State) (p : Port) (l0 l1 : List Nat) (drift : Int) (trouble : BufferTrouble), s.acts 0 = true → s.up p = false →
    ∃ t, exec (.fecCodewordRx p l0 l1 drift trouble) s = .next t ∧ t.portLink p = s.portLink p ∧
      (t.stream p).rx = (s.stream p).rx ∧ s.frame t [.link] [] []) ∧
  (∀ s : State, s.acts 0 = true →
    ∃ t, exec .serSecond s = .next t ∧
      (∀ p, t.reg (Obj.FEC_SER_1S (portIx p)) = (s.portLink p).serCount % 2 ^ 32 ∧ (t.portLink p).serCount = 0 ∧
        (s.reg Obj.DEGRADE_LIMIT < (s.portLink p).serCount →
          t.flag (Obj.PORT_DEGRADED (portIx p)) = true ∧ (t.portLink p).goodSeconds = 0) ∧
        ((s.portLink p).serCount ≤ s.reg Obj.DEGRADE_LIMIT →
          t.flag (Obj.PORT_DEGRADED (portIx p)) =
            (s.flag (Obj.PORT_DEGRADED (portIx p)) && decide ((s.portLink p).goodSeconds < 9)))) ∧
      s.frame t [.link, .traffic] [Obj.FEC_SER_1S 0, Obj.FEC_SER_1S 1, Obj.PORT_DEGRADED 0, Obj.PORT_DEGRADED 1,
        Obj.EVENT_SEQUENCE, Obj.EVENTS_DROPPED] []) ∧
  (∀ (s : State) (rq : Req) (data : Bytes), s.admitsWrite rq Obj.WAKE_SEND data = true →
    ∃ t, exec (.wakeSend rq data) s = .next t ∧ t.answered rq 0 = true ∧
      (∀ p, bitAt (leNat data) (portIx p) = true → (t.portLink p).waking = true ∧ .wakePattern p ∈ t.out ∧
        t.portState p = (if 1 ≤ s.portState p ∧ s.portState p ≤ 6 then 1 else s.portState p)) ∧
      (∀ p, bitAt (leNat data) (portIx p) = false → t.portLink p = s.portLink p ∧ t.portState p = s.portState p) ∧
      s.hostFrame t [.link] [Obj.PORT_STATE 0, Obj.PORT_STATE 1] []) ∧
  (∀ (s : State) (p : Port), s.acts 0 = true →
    ∃ t, exec (.wakePatternEnd p) s = .next t ∧ t.portLink p = { s.portLink p with waking := false } ∧
      t.portLink (otherPort p) = s.portLink (otherPort p) ∧ s.frame t [.link] [] [])

/-- Packets that pass (10 R248, R250 to R252, R257, R258): a packet not removed goes into the other port's stream with
HOPS one more, one at 64 hops or with no port to leave by is dropped; what is no whole packet gives POISON or IDLE;
waiting packets leave in class order where the stream is IDLE, events and echo when the token bucket holds their
blocks. Clauses rest on choices of the model: assumption log 62, 63, 87, 166, 167, 168. -/
def Obligations.PacketsAreForwardedOrDropped : Prop :=
  (∀ (s : State) (p : Port) (k : Packet), s.acts 0 = true → s.up p = true → s.arrived p = some k →
    (ownRow k.kind = false ∨ s.addressed k.dest = false) →
    ∃ t, exec (.packetForward p) s = .next t ∧ s.passesOn t p k k ∧
      (k.bodyOk = true → k.marked = 0 → s.arrives t p k ∧
        t.reg (Obj.PKT_TAKEN (portIx p)) =
          (if knownKind k.kind = true ∧ s.addressed k.dest = true then (s.reg (Obj.PKT_TAKEN (portIx p)) + 1) % 2 ^ 64
           else s.reg (Obj.PKT_TAKEN (portIx p)))) ∧
      ((k.bodyOk = false ∨ k.marked ≠ 0) →
        t.reg (Obj.PKT_DISCARDED (portIx p)) = (s.reg (Obj.PKT_DISCARDED (portIx p)) + 1) % 2 ^ 32 ∧
        t.reg (Obj.PKT_TAKEN (portIx p)) = s.reg (Obj.PKT_TAKEN (portIx p))) ∧
      t.reg (Obj.PKT_RX (portIx p)) = (s.reg (Obj.PKT_RX (portIx p)) + 1) % 2 ^ 64 ∧
      s.frame t arrivalParts (arrivalObjs p) []) ∧
  (∀ (s : State) (p : Port) (found : Found), s.acts 0 = true → s.up p = true → found = (s.front p).found →
    ∃ t, exec (.packetForward p) s = .next t ∧
      (∀ header, found = .marked header → s.spoilt t p [poisonBlock] (b2n header) 1) ∧
      (found = .badHeader → s.spoilt t p [poisonBlock] 1 1) ∧ (found = .orphan → s.spoilt t p (idles 1) 0 0) ∧
      (found = .cut false → (t.stream p).rx = (s.front p).rest ∧
        t.reg (Obj.PKT_RX (portIx p)) = (s.reg (Obj.PKT_RX (portIx p)) + 1) % 2 ^ 64 ∧
        t.reg (Obj.PKT_DISCARDED (portIx p)) = (s.reg (Obj.PKT_DISCARDED (portIx p)) + 1) % 2 ^ 32) ∧
      ((found = .nothing ∨ found = .poison ∨ found = .cut true) → s.frame t [] [] []) ∧
      s.frame t arrivalParts (arrivalObjs p) []) ∧
  (∀ (s : State) (p : Port) (found : Found), s.acts 0 = true → s.up p = true → found = (s.front p).found →
    ∃ t, exec (.poisonRx p) s = .next t ∧
      (found = .poison → s.spoilt t p [poisonBlock] 0 0 ∧
        t.reg (Obj.PKT_POISON_SENT (portIx p)) % 2 ^ 32 = s.reg (Obj.PKT_POISON_SENT (portIx p)) % 2 ^ 32) ∧
      (found = .cut true → (t.stream p).rx = (s.front p).rest ∧
        t.reg (Obj.PKT_RX (portIx p)) = (s.reg (Obj.PKT_RX (portIx p)) + 1) % 2 ^ 64 ∧
        t.reg (Obj.PKT_DISCARDED (portIx p)) = (s.reg (Obj.PKT_DISCARDED (portIx p)) + 1) % 2 ^ 32) ∧
      (found ≠ .poison → found ≠ .cut true → s.frame t [] [] []) ∧ s.frame t arrivalParts (arrivalObjs p) []) ∧
  (∀ (s : State) (p : Port) (k : LocalPacket), s.acts 0 = true → s.up p = true → s.nextPacket p = some k →
    s.lineFree p k.blocks.length = true → (k.cls ≤ 2 ∨ tokensOf k.payload.length ≤ s.traffic.tokens) →
    ∃ t, exec (.localPacketSend p) s = .next t ∧
      (t.stream p).line.map (·.block) = (k.starting s).blocks ++ ((s.stream p).line.map (·.block)).drop k.blocks.length ∧
      (∀ x, x ∈ s.traffic.queue → x.port = p → k ∈ s.traffic.queue ∧ (x.cls = 1 → k.cls = 1)) ∧
      (k.cls ≤ 2 → t.traffic.queue = s.traffic.queue.erase k ∧ t.cop = s.cop ∧ s.frame t [.link, .answer] [] []) ∧
      (k.cls = 3 → t.traffic = { s.traffic with
          events := s.traffic.events.drop 1, tokens := s.traffic.tokens - tokensOf k.payload.length } ∧
        t.reg Obj.EVENT_SEQUENCE = (s.reg Obj.EVENT_SEQUENCE + 1) % 2 ^ 16 ∧
        s.frame t [.link, .traffic, .answer] [Obj.EVENT_SEQUENCE] []) ∧
      (3 < k.cls → t.traffic = { s.traffic with tokens := s.traffic.tokens - tokensOf k.payload.length } ∧
        t.layers = { s.layers with echoSending := s.layers.echoSending.map fun x => (x.1, x.2 + 1500) } ∧
        s.frame t [.link, .traffic, .answer, .layers] [] [])) ∧
  (∀ (s : State) (p : Port), s.acts 0 = true →
    (s.up p = false ∨ s.nextPacket p = none ∨ ∃ k, s.nextPacket p = some k ∧
      (s.lineFree p k.blocks.length = false ∨ (2 < k.cls ∧ s.traffic.tokens < tokensOf k.payload.length))) →
    ∃ t, exec (.localPacketSend p) s = .next t ∧ s.frame t [] [] [])

/-- Streams, fences and messages that arrive (10 R253 to R256, 04 R101, R105, 15 R368, R370): a VIDEO packet's pixels
belong to the layer's frame in progress, the last of them completes it; a FENCE packet signals its timeline; a
CONTROL packet's message is answered; the T1S port answers ARP and echo requests for its address. Clauses rest on
choices of the model: assumption log 64, 83. -/
def Obligations.StreamsFencesAndMessagesArrive : Prop :=
  (∀ (s : State) (p : Port) (k : Packet) (l : Nat) (f : StreamFill), s.acts 0 = true → s.takes p k 1 = true →
    k.videoOk = true → s.fromSource p = true → s.videoUsers k = [l] → f = s.fillNext l k →
    ∃ t, exec (.videoPacketRx p) s = .next t ∧ s.arrives t p k ∧ s.passesOn t p k k ∧
      t.reg Obj.VIDEO_PACKETS = (s.reg Obj.VIDEO_PACKETS + 1) % 2 ^ 64 ∧
      t.reg (Obj.PKT_TAKEN (portIx p)) = (s.reg (Obj.PKT_TAKEN (portIx p)) + 1) % 2 ^ 64 ∧
      t.crossing 1 = (s.crossing 1).completed ∧ (∀ h, h ≠ 1 → h ≠ 3 → t.crossing h = s.crossing h) ∧
      (f.ended = true → f.lost = false → f.received = f.width * f.height →
        (t.layer l).filling = none ∧ (t.layer l).streamPending = some (f.buffer, f.frame, f.stream) ∧
        (t.layer l).lastPending = some s.ticks) ∧
      ((f.ended = false ∨ f.lost = true ∨ f.received ≠ f.width * f.height) → (t.layer l).filling = some f ∧
        (t.layer l).streamPending = (s.layer l).streamPending) ∧
      (∀ a, a = s.reg (Obj.LAYER_BUF_ADDR l f.buffer) % 2 ^ 40 + k.num 16 2 * s.reg (Obj.LAYER_BUF_STRIDE l f.buffer) +
          k.num 18 2 * bytesPerPixel k.format →
        s.inside l f.buffer k = k.pixels → a % 256 + k.payload.length ≤ 256 → a < 2 ^ 40 → k.payload ≠ [] →
        (writePixels l f.buffer k s).1 = true →
        t.targetBytes (s.translate a k.payload.length true false) k.payload.length = k.payload) ∧
      s.frame t ([.traffic, .mem, .staging, .memory, .crossing, .pipe, .fault] ++ arrivalParts) (videoObjs p) []) ∧
  (∀ (s : State) (p : Port) (k : Packet), s.acts 0 = true → s.takes p k 1 = true →
    ∃ t, exec (.videoPacketRx p) s = .next t ∧
      (k.videoOk = true → s.fromSource p = true → s.videoUsers k = [] →
        t.reg (Obj.PKT_TAKEN (portIx p)) = (s.reg (Obj.PKT_TAKEN (portIx p)) + 1) % 2 ^ 64 ∧
        s.frame t arrivalParts (arrivalObjs p) []) ∧
      (k.videoOk = true → s.fromSource p = false → k.dest ≠ 0xFFFF →
        t.reg Obj.VIDEO_NOT_SOURCE = (s.reg Obj.VIDEO_NOT_SOURCE + 1) % 2 ^ 32 ∧
        s.frame t arrivalParts (Obj.VIDEO_NOT_SOURCE :: arrivalObjs p) []) ∧
      (k.videoOk = true → s.fromSource p = false → k.dest = 0xFFFF → s.frame t arrivalParts (arrivalObjs p) []) ∧
      (k.videoOk = false →
        t.reg (Obj.PKT_DISCARDED (portIx p)) = (s.reg (Obj.PKT_DISCARDED (portIx p)) + 1) % 2 ^ 32 ∧
        s.frame t arrivalParts (arrivalObjs p) []) ∧
      s.frame t ([.traffic, .mem, .staging, .memory, .crossing, .pipe, .fault] ++ arrivalParts) (videoObjs p) []) ∧
  (∀ (s : State) (p : Port) (k : Packet), s.acts 0 = true → s.takes p k 3 = true →
    ∃ t, exec (.fencePacketRx p) s = .next t ∧ s.arrives t p k ∧ s.passesOn t p k k ∧
      (s.fromSource p = true → k.num 8 1 ≤ 15 →
        0 < signed 32 (image 32 ((k.num 12 4 : Int) - (s.fence (k.num 8 1)).value)) →
        (t.fence (k.num 8 1)).value = k.num 12 4 % 2 ^ 32 ∧
        (t.fence (k.num 8 1)).signals = (k.num 12 4 % 2 ^ 32, some (s.nowNs : Int)) :: (s.fence (k.num 8 1)).signals ∧
        (t.fence (k.num 8 1)).base = (s.fence (k.num 8 1)).base ∧ t.reg Obj.FENCE_STALE = s.reg Obj.FENCE_STALE) ∧
      (s.fromSource p = true → k.num 8 1 ≤ 15 →
        signed 32 (image 32 ((k.num 12 4 : Int) - (s.fence (k.num 8 1)).value)) ≤ 0 →
        t.reg Obj.FENCE_STALE = (s.reg Obj.FENCE_STALE + 1) % 2 ^ 32 ∧ t.fence (k.num 8 1) = s.fence (k.num 8 1)) ∧
      (s.fromSource p = false → k.dest ≠ 0xFFFF →
        t.reg Obj.VIDEO_NOT_SOURCE = (s.reg Obj.VIDEO_NOT_SOURCE + 1) % 2 ^ 32) ∧
      (∀ j, (j ≠ k.num 8 1 ∨ s.fromSource p = false ∨ 15 < k.num 8 1) → t.fence j = s.fence j) ∧
      s.frame t arrivalParts (Obj.FENCE_STALE :: Obj.VIDEO_NOT_SOURCE :: arrivalObjs p) []) ∧
  (∀ (s : State) (p : Port) (k : Packet) (q : Request) (r : ObjRow) (n sel : Nat), s.acts 0 = true →
    s.takes p k 2 = true → q = parseMessage (portVia p) (.rovan k.source) k.payload → malformed k.payload = false →
    q.opcode = 1 → s.admitsRead q = true → rowOf q.obj = some r → r.ty = .fixed n → s.bankOf q.obj = some sel →
    s.formed q.obj = none → s.openReading q.obj = none → q.obj ≠ Obj.COP_REQUESTS → q.obj ≠ Obj.X_MAP_ENTRY →
    q.obj ∉ arrivalObjs p →
    ∃ t, exec (.controlPacketRx p) s = .next t ∧ t.answered q.rq 0 = true ∧ s.arrives t p k ∧
      t.answerData = natLE n (s.regAt q.obj sel) ∧ s.hostFrame t arrivalParts (arrivalObjs p) []) ∧
  (∀ (s : State) (p : Port) (k : Packet) (q : Request), s.acts 0 = true → s.takes p k 2 = true →
    q = parseMessage (portVia p) (.rovan k.source) k.payload → malformed k.payload = true → q.opcode < 128 →
    s.agentRuns (portVia p) = true → s.record q = none →
    ∃ t, exec (.controlPacketRx p) s = .next t ∧ t.answered q.rq abortMalformed = true ∧ s.arrives t p k ∧
      s.hostFrame t arrivalParts (Obj.COP_ABORTS :: Obj.COP_LAST_ABORT :: arrivalObjs p) []) ∧
  (∀ (s : State) (p : Port) (k : Packet) (q : Request), s.acts 0 = true → s.takes p k 2 = true →
    q = parseMessage (portVia p) (.rovan k.source) k.payload → (128 ≤ q.opcode ∨ s.agentRuns (portVia p) = false) →
    ∃ t, exec (.controlPacketRx p) s = .next t ∧ s.arrives t p k ∧ s.frame t arrivalParts (arrivalObjs p) []) ∧
  (∀ (s : State) (target mac ip : Nat), s.acts 6 = true →
    ∃ t, exec (.arpRequestRx target mac ip) s = .next t ∧
      t.out = (if s.agentRuns .t1s = true ∧ target = s.addressInForce then .arpReply mac ip :: s.out else s.out) ∧
      s.frame t [.out] [] []) ∧
  (∀ (s : State) (target ip : Nat) (payload : Bytes), s.acts 6 = true →
    ∃ t, exec (.icmpEchoRequestRx target ip payload) s = .next t ∧
      t.out = (if s.agentRuns .t1s = true ∧ target = s.addressInForce then .echoReply ip payload :: s.out else s.out) ∧
      s.frame t [.out] [] [])

/-- The chain (10 R260 to R265): the first end of an enumeration gives the position and the source port and is
announced; both ends with RING set make a ring; announces of the enumeration are kept, others late; the election
leaves the winner's serial; a BREAK on the source port of a ring switches the source. Clauses rest on choices of the
model: assumption log 65, 66, 67, 169. -/
def Obligations.TheChainIsEnumerated : Prop :=
  (∀ (s : State) (p : Port) (k : Packet), s.acts 0 = true → s.takes p k 0x20 = true → k.num 12 1 ≤ 1 →
    ((s.traffic.primary = none ∧ s.traffic.secondary = none) ∨ k.num 8 4 ≠ s.reg Obj.CHAIN_ENUM_ID) →
    ∃ t, exec (.chainEnumRx p) s = .next t ∧ s.arrives t p k ∧ s.passesOn t p k k ∧
      t.reg Obj.CHAIN_ENUM_ID = k.num 8 4 ∧ t.reg Obj.SOURCE_PORT = portIx p ∧
      t.flag Obj.COX_DEVICE = false ∧ t.flag Obj.CHAIN_RING = false ∧ t.traffic.electing = true ∧ t.traffic.announces = [] ∧
      (k.num 12 1 = 0 → t.reg Obj.CHAIN_POSITION = min (k.hops + 1) 255 ∧
        t.reg Obj.CHAIN_REVERSE_POSITION = s.reg Obj.CHAIN_REVERSE_POSITION ∧
        t.traffic.primary = some (bitAt (k.num 13 1) 0) ∧ t.traffic.secondary = none) ∧
      (k.num 12 1 = 1 → t.reg Obj.CHAIN_POSITION = 0 ∧ t.reg Obj.CHAIN_REVERSE_POSITION = min (k.hops + 1) 255 ∧
        t.traffic.secondary = some (bitAt (k.num 13 1) 0) ∧ t.traffic.primary = none) ∧
      (∀ o, s.up o = true → ∃ x ∈ t.traffic.queue, x.port = o ∧ x.kind = 0x21 ∧ x.dest = 0xFFFF) ∧ t.cop = s.cop ∧
      s.frame t (.traffic :: .answer :: arrivalParts) ([Obj.CHAIN_ENUM_ID, Obj.CHAIN_POSITION,
        Obj.CHAIN_REVERSE_POSITION, Obj.SOURCE_PORT, Obj.COX_DEVICE, Obj.CHAIN_RING, Obj.COX_CLASS] ++ arrivalObjs p) []) ∧
  (∀ (s : State) (p : Port) (k : Packet) (r1 : Bool), s.acts 0 = true → s.takes p k 0x20 = true → k.num 12 1 = 1 →
    s.traffic.primary = some r1 → s.traffic.secondary = none → k.num 8 4 = s.reg Obj.CHAIN_ENUM_ID →
    ∃ t, exec (.chainEnumRx p) s = .next t ∧ s.arrives t p k ∧
      t.reg Obj.CHAIN_REVERSE_POSITION = min (k.hops + 1) 255 ∧
      t.flag Obj.CHAIN_RING = (s.flag Obj.CHAIN_RING || (r1 && bitAt (k.num 13 1) 0)) ∧
      t.traffic.secondary = some (bitAt (k.num 13 1) 0) ∧ t.traffic.primary = some r1 ∧
      t.traffic.electing = s.traffic.electing ∧ t.cop = s.cop ∧
      s.frame t (.traffic :: .answer :: arrivalParts)
        (Obj.CHAIN_REVERSE_POSITION :: Obj.CHAIN_RING :: Obj.COX_CLASS :: arrivalObjs p) []) ∧
  (∀ (s : State) (p : Port) (k : Packet) (r2 : Bool), s.acts 0 = true → s.takes p k 0x20 = true → k.num 12 1 = 0 →
    s.traffic.secondary = some r2 → s.traffic.primary = none → k.num 8 4 = s.reg Obj.CHAIN_ENUM_ID →
    ∃ t, exec (.chainEnumRx p) s = .next t ∧ s.arrives t p k ∧
      t.reg Obj.CHAIN_POSITION = min (k.hops + 1) 255 ∧ t.reg Obj.SOURCE_PORT = portIx p ∧
      t.flag Obj.CHAIN_RING = (s.flag Obj.CHAIN_RING || (r2 && bitAt (k.num 13 1) 0)) ∧
      t.traffic.primary = some (bitAt (k.num 13 1) 0) ∧ t.traffic.secondary = some r2 ∧ t.cop = s.cop ∧
      s.frame t (.traffic :: .answer :: arrivalParts)
        (Obj.CHAIN_POSITION :: Obj.SOURCE_PORT :: Obj.CHAIN_RING :: Obj.COX_CLASS :: arrivalObjs p) []) ∧
  (∀ (s : State) (p : Port) (k : Packet), s.acts 0 = true → s.takes p k 0x20 = true → 1 < k.num 12 1 →
    ∃ t, exec (.chainEnumRx p) s = .next t ∧ s.arrives t p k ∧ s.frame t arrivalParts (arrivalObjs p) []) ∧
  (∀ (s : State) (p : Port) (k : Packet) (a : Announce), s.acts 0 = true → s.takes p k 0x21 = true →
    a = { serial := k.num 12 8, tile := k.num 20 2, position := k.num 22 1, reverse := k.num 23 1, cls := k.num 24 1 } →
    ∃ t, exec (.announceRx p) s = .next t ∧ s.arrives t p k ∧ s.passesOn t p k k ∧
      (s.traffic.electing = true → k.num 8 4 = s.reg Obj.CHAIN_ENUM_ID →
        t.traffic.announces = s.traffic.announces.filter (fun b => !b.same a) ++ [a] ∧
        t.flag Obj.ADDRESS_DUPLICATE =
          (s.flag Obj.ADDRESS_DUPLICATE || (s.tileAddress == some a.tile && !a.same s.ownAnnounce)) ∧
        t.reg Obj.ANNOUNCES_LATE = s.reg Obj.ANNOUNCES_LATE) ∧
      ((s.traffic.electing = false ∨ k.num 8 4 ≠ s.reg Obj.CHAIN_ENUM_ID) →
        t.reg Obj.ANNOUNCES_LATE = (s.reg Obj.ANNOUNCES_LATE + 1) % 2 ^ 32 ∧
        s.frame t arrivalParts (Obj.ANNOUNCES_LATE :: arrivalObjs p) []) ∧
      s.frame t (.traffic :: arrivalParts) (Obj.ADDRESS_DUPLICATE :: Obj.ANNOUNCES_LATE :: arrivalObjs p) []) ∧
  (∀ s : State, s.acts 6 = true →
    ∃ t, exec .coxElection s = .next t ∧ t.traffic.electing = false ∧
      (s.traffic.electing = true → s.winner = none →
        t.reg Obj.COX_SERIAL = 0 ∧ t.flag Obj.COX_DEVICE = false ∧ t.traffic = { s.traffic with electing := false }) ∧
      (∀ w, s.winner = some w → s.traffic.electing = true →
        t.reg Obj.COX_SERIAL = w.serial ∧ t.flag Obj.COX_DEVICE = decide (w = s.ownAnnounce) ∧
        (w = s.ownAnnounce → ∀ o, s.up o = true → ∃ x ∈ t.traffic.queue, x.port = o ∧ x.kind = 0x22)) ∧
      (s.traffic.electing = false → s.frame t [] [] []) ∧ t.cop = s.cop ∧
      s.frame t [.traffic, .answer] [Obj.COX_SERIAL, Obj.COX_DEVICE, Obj.EVENTS_DROPPED] []) ∧
  (∀ (s : State) (p : Port) (k : Packet), s.acts 0 = true → s.takes p k 0x23 = true →
    ∃ t, exec (.breakRx p) s = .next t ∧ s.arrives t p k ∧ s.passesOn t p k k ∧
      (s.flag Obj.CHAIN_RING = true → s.fromSource p = true → s.up (otherPort p) = true →
        t.reg Obj.SOURCE_PORT = portIx (otherPort p) ∧ t.reg Obj.FAILOVERS = (s.reg Obj.FAILOVERS + 1) % 2 ^ 32 ∧
        0 < Sparse.get (fun _ => 0) t.fault.waiting 63 ∧ (∀ l, l < 7 → (t.layer l).filling = none)) ∧
      (s.flag Obj.CHAIN_RING = true → s.fromSource p = true → s.up (otherPort p) = false →
        t.reg Obj.SOURCE_PORT = 2 ∧ s.frame t arrivalParts (Obj.SOURCE_PORT :: arrivalObjs p) []) ∧
      ((s.flag Obj.CHAIN_RING = false ∨ s.fromSource p = false) → s.frame t arrivalParts (arrivalObjs p) []) ∧
      s.frame t (.traffic :: .fault :: arrivalParts)
        ([Obj.SOURCE_PORT, Obj.FAILOVERS, Obj.EVENTS_DROPPED] ++ repeated 7 [Obj.LAYER_DISCARDED 0] ++ arrivalObjs p) [])

/-- The external memory starts, is zeroed and scrubbed (11 R270, R271), or fails with its cause; a region entry is
written at its index (R274). Clauses rest on choices of the model: assumption log 28. -/
def Obligations.MemoryStartsAndIsScrubbed : Prop :=
  (∀ (s : State) (rq : Req) (data : Bytes), s.admitsWrite rq Obj.MEM_START data = true → s.power.tripped = false →
    (s.reg Obj.MEM_STATE = 0 ∨ s.reg Obj.MEM_STATE = 4) →
    ∃ t, exec (.memStart rq data) s = .next t ∧ t.answered rq 0 = true ∧ t.reg Obj.MEM_STATE = 1 ∧
      t.reg Obj.MEM_FAIL_CAUSE = 0 ∧ s.hostFrame t [] [Obj.MEM_STATE, Obj.MEM_FAIL_CAUSE] []) ∧
  (∀ (s : State) (rq : Req) (data : Bytes), s.admitsWrite rq Obj.MEM_START data = true →
    (s.power.tripped = true ∨ (s.reg Obj.MEM_STATE ≠ 0 ∧ s.reg Obj.MEM_STATE ≠ 4)) →
    ∃ t, exec (.memStart rq data) s = .next t ∧ s.turnsAway t rq abortBusy) ∧
  (∀ (s : State) (d : Nat), s.acts 2 = true → s.reg Obj.MEM_STATE = 1 → 1 ≤ d → d ≤ 8 →
    ∃ t, exec (.memStartComplete d d true) s = .next t ∧ t.reg Obj.MEM_STATE = 2 ∧
      t.reg Obj.MEM_INSTALLED_BYTES = 2 * d * 1073741824 ∧ t.reg Obj.MEM_USABLE_BYTES = 2 * d * 1073741824 / 8 * 7 ∧
      (∀ a, Sparse.get ramDefault t.mem a = 0#8) ∧ t.memory = { s.memory with ueWords := [], scrubBlock := 0 } ∧
      s.frame t [.mem, .memory] [Obj.MEM_STATE, Obj.MEM_INSTALLED_BYTES, Obj.MEM_USABLE_BYTES] []) ∧
  (∀ (s : State) (d0 d1 : Nat) (trained : Bool), s.acts 2 = true → s.reg Obj.MEM_STATE = 1 →
    (d0 < 1 ∨ 8 < d0 ∨ d1 < 1 ∨ 8 < d1 ∨ d0 ≠ d1 ∨ trained = false) →
    ∃ t, exec (.memStartComplete d0 d1 trained) s = .next t ∧ t.reg Obj.MEM_STATE = 4 ∧ t.reporting 68 = true ∧
      t.reg Obj.MEM_FAIL_CAUSE =
        (if d0 < 1 ∨ 8 < d0 ∨ d1 < 1 ∨ 8 < d1 then 2 else if d0 ≠ d1 then 1 else 3) ∧
      s.frame t [] [Obj.MEM_STATE, Obj.MEM_FAIL_CAUSE, Obj.MEM_INSTALLED_BYTES, Obj.MEM_USABLE_BYTES] []) ∧
  (∀ (s : State) (d0 d1 : Nat) (trained : Bool), s.acts 2 = true → s.reg Obj.MEM_STATE ≠ 1 →
    ∃ t, exec (.memStartComplete d0 d1 trained) s = .next t ∧ s.frame t [] [] []) ∧
  (∀ (s : State) (n : Nat) (u : Option Nat) (newer : Bool), s.acts 2 = true → s.reg Obj.MEM_STATE = 2 →
    s.reg Obj.SCRUB_PERIOD ≠ 0 →
    ∃ t, exec (.scrubStep n u newer) s = .next t ∧ t.reg Obj.MEM_CORRECTED = (s.reg Obj.MEM_CORRECTED + n) % 2 ^ 32 ∧
      (if s.reg Obj.MEM_USABLE_BYTES / 256 ≤ s.memory.scrubBlock + 1 then
        t.memory.scrubBlock = 0 ∧ t.reg Obj.SCRUB_PASSES = (s.reg Obj.SCRUB_PASSES + 1) % 2 ^ 32
       else t.memory.scrubBlock = s.memory.scrubBlock + 1 ∧ t.reg Obj.SCRUB_PASSES = s.reg Obj.SCRUB_PASSES) ∧
      (u = none → s.scrubBad = [] →
        t.reg (Obj.RING_COMPLETED 5) = (s.reg (Obj.RING_COMPLETED 5) + 1) % 2 ^ 32 ∧
        t.reg (Obj.RING_BYTES 5) =
          (s.reg (Obj.RING_BYTES 5) + (if n ≠ 0 ∧ newer = false then 256 else 0)) % 2 ^ 64 ∧
        s.frame t [.memory] [Obj.MEM_CORRECTED, Obj.SCRUB_PASSES, Obj.RING_COMPLETED 5, Obj.RING_BYTES 5] []) ∧
      (∀ a, u = some a → s.scrubBad = [] →
        t.reg Obj.MEM_UNCORRECTED = (s.reg Obj.MEM_UNCORRECTED + 1) % 2 ^ 32 ∧
        t.reg Obj.MEM_LAST_UE_ADDR = (s.memory.scrubBlock * 256 + a % 256) / 8 * 8 ∧
        ((s.memory.scrubBlock * 256 + a % 256) / 8) ∈ t.memory.ueWords) ∧
      (u = none → t.reg Obj.MEM_UNCORRECTED = (s.reg Obj.MEM_UNCORRECTED + s.scrubBad.length) % 2 ^ 32) ∧
      ((u ≠ none ∨ s.scrubBad ≠ []) → 0 < Sparse.get (fun _ => 0) t.fault.waiting 69 ∧
        t.reg (Obj.RING_NOT_STARTED 5) = (s.reg (Obj.RING_NOT_STARTED 5) + 1) % 2 ^ 32 ∧
        t.reg (Obj.RING_LAST_CAUSE 5) = 5) ∧
      s.frame t [.memory, .fault] [Obj.MEM_CORRECTED, Obj.MEM_UNCORRECTED, Obj.MEM_LAST_UE_ADDR, Obj.SCRUB_PASSES,
        Obj.RING_COMPLETED 5, Obj.RING_BYTES 5, Obj.RING_NOT_STARTED 5, Obj.RING_LAST_CAUSE 5] []) ∧
  (∀ (s : State) (n : Nat) (u : Option Nat) (newer : Bool), s.acts 2 = true →
    (s.reg Obj.MEM_STATE ≠ 2 ∨ s.reg Obj.SCRUB_PERIOD = 0) →
    ∃ t, exec (.scrubStep n u newer) s = .next t ∧ s.frame t [] [] []) ∧
  (∀ (s : State) (rq : Req) (data : Bytes), s.admitsWrite rq Obj.REGION_ENTRY data = true →
    s.reg Obj.REGION_INDEX < 256 →
    ∃ t, exec (.regionEntryWrite rq data) s = .next t ∧ t.answered rq 0 = true ∧
      (∀ j, j < 16 → t.tabByte Obj.REGION_TABLE (16 * s.reg Obj.REGION_INDEX + j) =
        if j < data.length then (heldBytes Obj.REGION_ENTRY data).getD j 0#8
        else s.tabByte Obj.REGION_TABLE (16 * s.reg Obj.REGION_INDEX + j)) ∧
      (∀ j, j < 4096 → j / 16 ≠ s.reg Obj.REGION_INDEX → t.tabByte Obj.REGION_TABLE j = s.tabByte Obj.REGION_TABLE j) ∧
      s.hostFrame t [] [] [Obj.REGION_TABLE])

/-- Rings are created, destroyed, halted and resumed by their handles, posted to by TAIL, and their FIFOs written and
read (11 R277, R278, R280, R286); requests for a device's ring, a free or taken ring or a full FIFO are turned away.
Clauses rest on choices of the model: assumption log 29, 157, 158. -/
def Obligations.RingsAreManagedByHandle : Prop :=
  (∀ (s : State) (rq : Req) (data : Bytes) (r : Nat), s.admitsWrite rq Obj.RING_CREATE data = true → leNat data = r →
    8 ≤ r → r ≤ 63 → s.ringState r = 0 →
    ∃ t, exec (.ringCreate rq data) s = .next t ∧ t.answered rq 0 = true ∧ t.ringState r = 1 ∧
      t.reg (Obj.RING_HANDLE r) = handleOf 0x20 (s.ring r).gen r ∧ t.ring r = { gen := (s.ring r).gen } ∧
      (∀ o, o ∈ Obj.RING_LAST_CAUSE r :: ringObjects r → t.reg o = objDefault o) ∧ (∀ k, k ≠ r → t.ring k = s.ring k) ∧
      s.hostFrame t [.memory] (Obj.RING_STATE r :: Obj.RING_HANDLE r :: Obj.RING_LAST_CAUSE r :: ringObjects r) []) ∧
  (∀ (s : State) (rq : Req) (data : Bytes), s.admitsWrite rq Obj.RING_CREATE data = true →
    (63 < leNat data → ∃ t, exec (.ringCreate rq data) s = .next t ∧ s.turnsAway t rq abortNoObject) ∧
    (leNat data ≤ 7 → ∃ t, exec (.ringCreate rq data) s = .next t ∧ s.turnsAway t rq abortDenied) ∧
    (8 ≤ leNat data → leNat data ≤ 63 → s.ringState (leNat data) ≠ 0 →
      ∃ t, exec (.ringCreate rq data) s = .next t ∧ s.turnsAway t rq abortBusy)) ∧
  (∀ (s : State) (rq : Req) (data : Bytes) (r : Nat), s.admitsWrite rq Obj.RING_DESTROY data = true →
    s.ringOf (leNat data % 2 ^ 32) = .inl r →
    ∃ t, exec (.ringDestroy rq data) s = .next t ∧ t.answered rq 0 = true ∧ (∀ k, k ≠ r → t.ring k = s.ring k) ∧
      (s.bursting r = true → t.ring r = { s.ring r with destroyWanted := true } ∧ s.hostFrame t [.memory] [] []) ∧
      (s.bursting r = false → t.ringState r = 0 ∧ t.reg (Obj.RING_HANDLE r) = 0 ∧
        t.ring r = { gen := nextGen (s.ring r).gen } ∧ (∀ o, o ∈ ringObjects r → t.reg o = objDefault o)) ∧
      (s.bursting r = false → (s.ring r).descriptor = none →
        s.hostFrame t [.memory] (Obj.RING_STATE r :: Obj.RING_HANDLE r :: ringObjects r) []) ∧
      (s.bursting r = false → s.writeBackMeets r .none = 0 → ∀ d, (s.ring r).descriptor = some d →
        t.reg (Obj.RING_LAST_CAUSE r) = 9 ∧ 0 < Sparse.get (fun _ => 0) t.fault.waiting 71 ∧
        (s.reg (Obj.RING_PROGRESS r) ≠ 0 → t.reg (Obj.RING_PARTIAL r) = (s.reg (Obj.RING_PARTIAL r) + 1) % 2 ^ 32) ∧
        (s.reg (Obj.RING_PROGRESS r) = 0 →
          t.reg (Obj.RING_NOT_STARTED r) = (s.reg (Obj.RING_NOT_STARTED r) + 1) % 2 ^ 32)) ∧
      s.hostFrame t ringEndParts (ringEndObjs r) []) ∧
  (∀ (s : State) (rq : Req) (data : Bytes) (code : Nat), s.ringOf (leNat data % 2 ^ 32) = .inr code →
    (s.admitsWrite rq Obj.RING_DESTROY data = true →
      ∃ t, exec (.ringDestroy rq data) s = .next t ∧ s.turnsAway t rq code) ∧
    (s.admitsWrite rq Obj.RING_HALT data = true →
      ∃ t, exec (.ringHalt rq data) s = .next t ∧ s.turnsAway t rq code) ∧
    (s.admitsWrite rq Obj.RING_RESUME data = true →
      ∃ t, exec (.ringResume rq data) s = .next t ∧ s.turnsAway t rq code)) ∧
  (∀ (s : State) (rq : Req) (data : Bytes) (r : Nat), s.admitsWrite rq Obj.RING_HALT data = true →
    s.ringOf (leNat data % 2 ^ 32) = .inl r →
    ∃ t, exec (.ringHalt rq data) s = .next t ∧ t.answered rq 0 = true ∧ (∀ k, k ≠ r → t.ring k = s.ring k) ∧
      (s.ringState r ≠ 2 →
        t.ringState r = (if s.ringState r = 1 then 3 else s.ringState r) ∧ s.hostFrame t [] [Obj.RING_STATE r] []) ∧
      (s.ringState r = 2 → s.bursting r = true →
        t.ring r = { s.ring r with haltWanted := true } ∧ s.hostFrame t [.memory] [] []) ∧
      (s.ringState r = 2 → s.bursting r = false → (s.ring r).destroyWanted = false → t.ringState r = 3) ∧
      (s.ringState r = 2 → s.bursting r = false → (s.ring r).destroyWanted = false → (s.ring r).descriptor = none →
        s.hostFrame t [.memory] [Obj.RING_STATE r] []) ∧
      (s.ringState r = 2 → s.bursting r = false → ∀ d, (s.ring r).descriptor = some d →
        s.descriptorEnds t r (if s.reg (Obj.RING_PROGRESS r) = 0 then 3 else 2) 9 .none) ∧
      s.hostFrame t ringEndParts (ringEndObjs r) []) ∧
  (∀ (s : State) (rq : Req) (data : Bytes) (r : Nat), s.admitsWrite rq Obj.RING_RESUME data = true →
    s.ringOf (leNat data % 2 ^ 32) = .inl r →
    ∃ t, exec (.ringResume rq data) s = .next t ∧ t.answered rq 0 = true ∧
      t.ringState r = (if s.ringState r = 3 then (if s.ringEmpty r then 1 else 2) else s.ringState r) ∧
      s.hostFrame t [] [Obj.RING_STATE r] []) ∧
  (∀ (s : State) (rq : Req) (r : Nat) (data : Bytes), 8 ≤ r → r ≤ 63 → s.admitsWrite rq (Obj.RING_TAIL r) data = true →
    s.ringState r ≠ 0 →
    ∃ t, exec (.ringTailWrite rq r data) s = .next t ∧ t.answered rq 0 = true ∧ t.reg (Obj.RING_TAIL r) = leNat data ∧
      t.ringState r = (if s.ringState r = 1 ∧ s.reg (Obj.RING_HEAD r) ≠ leNat data then 2 else s.ringState r) ∧
      s.hostFrame t [] [Obj.RING_TAIL r, Obj.RING_STATE r] []) ∧
  (∀ (s : State) (rq : Req) (r : Nat) (data : Bytes), r ≤ 63 → s.admitsWrite rq (Obj.RING_TAIL r) data = true →
    (r ≤ 7 ∨ s.ringState r = 0) →
    ∃ t, exec (.ringTailWrite rq r data) s = .next t ∧ s.turnsAway t rq (if r ≤ 7 then abortDenied else abortStale)) ∧
  (∀ (s : State) (rq : Req) (r : Nat) (data : Bytes), r ≤ 63 → s.admitsWrite rq (Obj.RING_FIFO r) data = true →
    (r ≤ 7 → ∃ t, exec (.ringFifoWrite rq r data) s = .next t ∧ s.turnsAway t rq abortDenied) ∧
    (8 ≤ r → s.ringState r = 0 → ∃ t, exec (.ringFifoWrite rq r data) s = .next t ∧ s.turnsAway t rq abortStale) ∧
    (8 ≤ r → s.ringState r ≠ 0 → (s.ring r).fifo.length + s.fifoReserved r + data.length ≤ 16384 →
      ∃ t, exec (.ringFifoWrite rq r data) s = .next t ∧ t.answered rq 0 = true ∧
        t.ring r = { s.ring r with fifo := (s.ring r).fifo ++ data } ∧ (∀ k, k ≠ r → t.ring k = s.ring k) ∧
        s.hostFrame t [.memory] [] []) ∧
    (8 ≤ r → s.ringState r ≠ 0 → 16384 < (s.ring r).fifo.length + s.fifoReserved r + data.length →
      ∃ t, exec (.ringFifoWrite rq r data) s = .next t ∧ s.turnsAway t rq abortBusy)) ∧
  (∀ (s : State) (rq : Req) (r : Nat), r ≤ 63 → s.admitsRead (wholeRead rq (Obj.RING_FIFO r)) = true →
    s.hasSpace rq.who = true →
    ∃ t, exec (.ringFifoRead rq r) s = .next t ∧ t.answered rq 0 = true ∧
      t.answerData = ((s.ring r).fifo.drop (s.fifoClaimed r)).take 1448 ∧
      t.ring r = { s.ring r with fifo := (s.ring r).fifo.take (s.fifoClaimed r) } ∧
      (∀ k, k ≠ r → t.ring k = s.ring k) ∧ s.hostFrame t [.memory, .cop] [] [])

/-- Descriptors run burst by burst (11 R279 to R289): a fetch reads and checks the slot at HEAD, or halts the ring; the
arbiter issues a burst of the highest class that is ready; a burst complete writes its bytes and the last one
completes the descriptor with its write-back; a fault, a missing response and a FIFO timeout end it with their
cause, and a device burst's fault goes to its owner. Clauses rest on choices of the model: assumption log 27, 95,
159, 160, 161. -/
def Obligations.DescriptorsRunBurstByBurst : Prop :=
  (∀ (s : State) (r : Nat) (trouble wb : MemTrouble) (at' : Target) (d : Bytes), s.acts 2 = true → r ≤ 63 →
    s.mayFetch r = true → at' = s.translate (s.slotAddr r) 32 false true → d = s.targetBytes at' 32 →
    ∃ t, exec (.descriptorFetch r trouble wb) s = .next t ∧
      (at'.cause ≠ 0 → t.ringState r = 3 ∧ t.reg (Obj.RING_LAST_CAUSE r) = at'.cause ∧
        t.reg (Obj.RING_HEAD r) = s.reg (Obj.RING_HEAD r) ∧
        s.frame t [] [Obj.RING_STATE r, Obj.RING_LAST_CAUSE r, Obj.TRANSLATION_FAULTS, Obj.LAST_FAULT_ADDR] []) ∧
      (at'.cause = 0 → (s.readOutcome at' 32 trouble).1 ≠ 0 →
        t.ringState r = 3 ∧ t.reg (Obj.RING_LAST_CAUSE r) = (s.readOutcome at' 32 trouble).1 ∧
        t.reg (Obj.RING_HEAD r) = s.reg (Obj.RING_HEAD r) ∧ t.memory.rings = s.memory.rings ∧
        s.frame t [.memory, .fault]
          ([Obj.RING_STATE r, Obj.RING_LAST_CAUSE r, Obj.MEM_CORRECTED, Obj.SRAM_CORRECTED] ++ readObjs) []) ∧
      (at'.cause = 0 → (s.readOutcome at' 32 trouble).1 = 0 → (descFlag d 1 && descFlag d 2) = true →
        s.descriptorEnds t r 3 0x0A wb) ∧
      (at'.cause = 0 → (s.readOutcome at' 32 trouble).1 = 0 → (descFlag d 1 && descFlag d 2) = false →
        descLength d = 0 → s.descriptorEnds t r 1 0 wb) ∧
      (at'.cause = 0 → (s.readOutcome at' 32 trouble).1 = 0 → (descFlag d 1 && descFlag d 2) = false →
        descLength d ≠ 0 → s.descriptorRefused d = true → s.descriptorEnds t r 3 4 wb ∧
        t.reg Obj.L7_RING_REFUSALS = (s.reg Obj.L7_RING_REFUSALS + 1) % 2 ^ 32) ∧
      (at'.cause = 0 → (s.readOutcome at' 32 trouble).1 = 0 → (descFlag d 1 && descFlag d 2) = false →
        descLength d ≠ 0 → s.descriptorRefused d = false →
        t.ring r = { s.ring r with descriptor := some d, suspended := false } ∧ t.reg (Obj.RING_PROGRESS r) = 0 ∧
        (∀ k, k ≠ r → t.ring k = s.ring k) ∧
        s.frame t [.memory] [Obj.RING_PROGRESS r, Obj.MEM_CORRECTED, Obj.SRAM_CORRECTED] []) ∧
      s.frame t ringEndParts (Obj.L7_RING_REFUSALS :: ringEndObjs r) []) ∧
  (∀ (s : State) (r : Nat) (trouble wb : MemTrouble), s.acts 2 = true → s.mayFetch r = false →
    ∃ t, exec (.descriptorFetch r trouble wb) s = .next t ∧ s.frame t [] [] []) ∧
  (∀ (s : State) (x : Target) (n : Nat), (s.readOutcome x n .none).1 = (if s.readBad x n = [] then 0 else 5) ∧
    (x.staging = false → (s.readOutcome x n .noResponse).1 = 6 ∧ ∀ a, (s.readOutcome x n (.uncorrectable a)).1 = 5) ∧
    (x.staging = true → ∀ a, (s.readOutcome x n (.stagingUncorrectable a)).1 = 5)) ∧
  (∀ (s : State) (device : List DeviceBurst) (b : Burst), s.acts 2 = true → s.arbitrate device = some b →
    ∃ t, exec (.burstIssue device) s = .next t ∧
      t.memory.inflight = s.memory.inflight ++ [{ b with issue := s.memory.issued }] ∧
      t.memory.issued = s.memory.issued + 1 ∧ b ∈ s.readyBursts device ∧ (∀ x ∈ s.readyBursts device, b.cls ≤ x.cls) ∧
      s.frame t [.memory] (Obj.TRANSLATION_FAULTS :: Obj.LAST_FAULT_ADDR :: repeated 64 [Obj.RING_PREEMPTIONS 0]) []) ∧
  (∀ (s : State) (device : List DeviceBurst), s.acts 2 = true → s.arbitrate device = none →
    ∃ t, exec (.burstIssue device) s = .next t ∧ s.frame t [] [] []) ∧
  (∀ (s : State) (r p : Nat) (trouble wb : MemTrouble) (b : Burst) (d : Bytes) (o : Nat), s.acts 2 = true → 8 ≤ r → r ≤ 63 →
    s.memory.inflight.find? (·.ring == r) = some b → (s.ring r).descriptor = some d →
    p = s.reg (Obj.RING_PROGRESS r) → p + b.length < 2 ^ 32 → o = (burstOutcome b trouble s).1 →
    ∃ t, exec (.burstComplete r trouble wb) s = .next t ∧
      t.memory.inflight.map (·.issue) = (s.memory.inflight.eraseP (·.ring == r)).map (·.issue) ∧
      (o = 0 → t.reg (Obj.RING_BYTES r) = (s.reg (Obj.RING_BYTES r) + b.length) % 2 ^ 64) ∧
      (o = 0 → p + b.length < descLength d → (s.ring r).haltWanted = false → (s.ring r).destroyWanted = false →
        t.reg (Obj.RING_PROGRESS r) = p + b.length ∧ (∀ k, k ≠ r → t.ring k = s.ring k) ∧
        (descFlag d 2 = false → b.later = [] →
          t.targetBytes ⟨0, b.dstStaging, b.dst⟩ (s.burstData d p b).length = s.burstData d p b) ∧
        (descFlag d 2 = true → descSrcFifo d = false → (t.ring r).fifo = (s.ring r).fifo ++ s.burstData d p b) ∧
        (descFlag d 2 = false → (t.ring r).fifo =
          if descSrcFifo d then (s.ring r).fifo.drop b.length else (s.ring r).fifo)) ∧
      (o = 0 → p + b.length < descLength d → ((s.ring r).haltWanted = true ∨ (s.ring r).destroyWanted = true) →
        s.descriptorEnds t r (if p + b.length = 0 then 3 else 2) 9 wb) ∧
      (o = 0 → descLength d ≤ p + b.length → s.descriptorEnds t r 1 0 wb) ∧
      (o = 0 → descLength d ≤ p + b.length → d.length = 32 → s.writeBackMeets r wb = 0 →
        (s.translate (s.slotAddr r) 32 true true).cause = 0 →
        t.targetBytes (s.translate (s.slotAddr r) 32 true true) 32 =
          d.take 22 ++ [1#8, 0#8] ++ (d.drop 24).take 4 ++ natLE 4 (p + b.length) ∧
        (descFlag d 3 = true → descNat d 21 1 ≤ 15 →
          0 < signed 32 (image 32 ((descNat d 24 4 : Int) - (s.fence (descNat d 21 1)).value)) →
          (t.fence (descNat d 21 1)).value = descNat d 24 4 % 2 ^ 32)) ∧
      (o ≠ 0 → s.descriptorEnds t r (if p = 0 then 3 else 2) o wb) ∧
      s.frame t ringEndParts (Obj.RING_BYTES r :: Obj.L7_ARM_STATE :: ringEndObjs r) []) ∧
  (∀ (s : State) (b : Burst),
    (b.fault ≠ 0 → ∀ trouble, burstOutcome b trouble s = (b.fault, s)) ∧
    (b.fault = 0 → (burstOutcome b .none s).1 = if s.burstBad b = [] then 0 else 5) ∧
    (b.fault = 0 → b.touches false = true →
      (burstOutcome b .noResponse s).1 = 6 ∧ ∀ a, (burstOutcome b (.uncorrectable a) s).1 = 5)) ∧
  (∀ (s : State) (r : Nat) (trouble wb : MemTrouble) (b : Burst) (o : Nat), s.acts 2 = true → r ≤ 7 →
    s.memory.inflight.find? (·.ring == r) = some b → o = (burstOutcome b trouble s).1 →
    ∃ t, exec (.burstComplete r trouble wb) s = .next t ∧ t.memory.rings = s.memory.rings ∧
      t.memory.inflight = s.memory.inflight.eraseP (·.ring == r) ∧
      (o = 0 → t.reg (Obj.RING_COMPLETED r) = (s.reg (Obj.RING_COMPLETED r) + 1) % 2 ^ 32 ∧
        t.reg (Obj.RING_BYTES r) = (s.reg (Obj.RING_BYTES r) + (if b.write = true then b.length else 0)) % 2 ^ 64 ∧
        s.frame t [.memory] [Obj.RING_COMPLETED r, Obj.RING_BYTES r, Obj.MEM_CORRECTED, Obj.SRAM_CORRECTED] []) ∧
      (o ≠ 0 → t.reg (Obj.RING_NOT_STARTED r) = (s.reg (Obj.RING_NOT_STARTED r) + 1) % 2 ^ 32 ∧
        t.reg (Obj.RING_LAST_CAUSE r) = o ∧ (o = 6 → 0 < Sparse.get (fun _ => 0) t.fault.waiting 70) ∧
        (b.ring ≤ 1 → t.pipe.missing = (b.ring, b.tile, b.length) :: s.pipe.missing) ∧
        ((b.ring = 2 ∨ b.ring = 4) → b.write = true → t.pipe.dropped = s.pipe.dropped ++ [b.tile]) ∧
        (b.ring = 3 → t.reg Obj.ECHO_FRAMES_DROPPED = (s.reg Obj.ECHO_FRAMES_DROPPED + 1) % 2 ^ 32 ∧
          t.layers.echoReady = none ∧ t.layers.echoSending = none)) ∧
      s.frame t [.memory, .pipe, .fault, .layers]
        ([Obj.RING_COMPLETED r, Obj.RING_BYTES r, Obj.RING_NOT_STARTED r, Obj.RING_LAST_CAUSE r, Obj.ECHO_FRAMES_DROPPED,
          Obj.MEM_CORRECTED, Obj.SRAM_CORRECTED] ++ readObjs) []) ∧
  (∀ (s : State) (r : Nat) (trouble wb : MemTrouble), s.acts 2 = true →
    s.memory.inflight.find? (·.ring == r) = none →
    (∃ t, exec (.burstComplete r trouble wb) s = .next t ∧ s.frame t [] [] []) ∧
    (∃ t, exec (.memResponseTimeout r wb) s = .next t ∧ s.frame t [] [] [])) ∧
  (∀ (s : State) (r : Nat) (wb : MemTrouble) (b : Burst) (d : Bytes), s.acts 2 = true → 8 ≤ r → r ≤ 63 →
    s.memory.inflight.find? (·.ring == r) = some b → (s.ring r).descriptor = some d → b.fault = 0 →
    b.touches false = true →
    ∃ t, exec (.memResponseTimeout r wb) s = .next t ∧
      t.memory.inflight.map (·.issue) = (s.memory.inflight.eraseP (·.ring == r)).map (·.issue) ∧
      s.descriptorEnds t r (if s.reg (Obj.RING_PROGRESS r) = 0 then 3 else 2) 6 wb ∧
      s.frame t ringEndParts (ringEndObjs r) []) ∧
  (∀ (s : State) (r : Nat) (wb : MemTrouble) (b : Burst), s.acts 2 = true → r ≤ 7 →
    s.memory.inflight.find? (·.ring == r) = some b → b.fault = 0 → b.touches false = true →
    ∃ t, exec (.memResponseTimeout r wb) s = .next t ∧
      t.memory.inflight = s.memory.inflight.eraseP (·.ring == r) ∧
      t.reg (Obj.RING_NOT_STARTED r) = (s.reg (Obj.RING_NOT_STARTED r) + 1) % 2 ^ 32 ∧
      t.reg (Obj.RING_LAST_CAUSE r) = 6 ∧ 0 < Sparse.get (fun _ => 0) t.fault.waiting 70 ∧
      (b.ring ≤ 1 → t.pipe.missing = (b.ring, b.tile, b.length) :: s.pipe.missing) ∧
      s.frame t [.memory, .pipe, .fault, .layers]
        [Obj.RING_NOT_STARTED r, Obj.RING_LAST_CAUSE r, Obj.ECHO_FRAMES_DROPPED] []) ∧
  (∀ (s : State) (r n : Nat) (wb : MemTrouble) (d : Bytes), s.acts 2 = true → 8 ≤ r → r ≤ 63 →
    (s.ring r).descriptor = some d → n = burstLength d (s.reg (Obj.RING_PROGRESS r)) →
    ∃ t, exec (.fifoTimeout r wb) s = .next t ∧
      (s.ringState r = 2 → s.bursting r = false → descSrcFifo d = true → (s.ring r).fifo.length < n →
        s.descriptorEnds t r (if s.reg (Obj.RING_PROGRESS r) = 0 then 3 else 2) 7 wb) ∧
      (s.ringState r = 2 → s.bursting r = false → descSrcFifo d = false → descFlag d 2 = true →
        16384 < (s.ring r).fifo.length + n →
        s.descriptorEnds t r (if s.reg (Obj.RING_PROGRESS r) = 0 then 3 else 2) 8 wb) ∧
      ((s.ringState r ≠ 2 ∨ s.bursting r = true) → s.frame t [] [] []) ∧
      s.frame t ringEndParts (ringEndObjs r) []) ∧
  (∀ (s : State) (r : Nat) (wb : MemTrouble), s.acts 2 = true → (s.ring r).descriptor = none →
    ∃ t, exec (.fifoTimeout r wb) s = .next t ∧ s.frame t [] [] [])

/-- The dual inputs (12 R292, R294 to R301, R307, R310): a pin takes its level in the channel that recognises it; a
safe-blank demand withdraws the permission of the channel that sees it, and its release, with nothing else standing,
grants both; an input whose complete cycle both channels have seen is proven; an evacuation demand is timed, or
shows nothing without content, and its release ends the display; a discrepancy unproves its input. Clauses rest on
choices of the model: assumption log 100, 173. -/
def Obligations.SafetyInputsAreObeyed : Prop :=
  (∀ (s : State) (c : Channel) (d : DualInput) (isB level : Bool), s.supervises c = true →
    ∃ t, exec (.safetyInputRecognised c (pinOf d isB) level) s = .next t ∧ (t.chan c).evaluated = true ∧
      ((t.chan c).input d).pinA = (if isB = true then ((s.chan c).input d).pinA else level) ∧
      ((t.chan c).input d).pinB = (if isB = true then level else ((s.chan c).input d).pinB) ∧
      (∀ x e, (x ≠ c ∨ e ≠ d) → (t.chan x).input e = (s.chan x).input e) ∧
      (((t.chan c).input d).agree = true → ((t.chan c).input d).discrepant =
        (((s.chan c).input d).agree && ((s.chan c).input d).discrepant)) ∧
      (t.safety.blankProven =
        (s.safety.blankProven || ((t.chan .a).input .safeBlank).cycled && ((t.chan .b).input .safeBlank).cycled)) ∧
      (t.safety.evacProven =
        (s.safety.evacProven || ((t.chan .a).input .evac).cycled && ((t.chan .b).input .evac).cycled)) ∧
      s.permissionsFollow t ∧
      (((s.chan c).input d).demand = false → ((t.chan c).input d).demand = true →
        ((s.chan (otherChannel c)).input d).counted = false →
        t.reg Obj.LAST_DEMAND_TIME = s.stampA ∧
        (d = .safeBlank → t.reg Obj.SAFE_BLANK_DEMANDS = (s.reg Obj.SAFE_BLANK_DEMANDS + 1) % 2 ^ 32) ∧
        (d = .evac → t.reg Obj.EVAC_DEMANDS = (s.reg Obj.EVAC_DEMANDS + 1) % 2 ^ 32)) ∧
      ((((s.chan c).input d).demand = true ∨ ((t.chan c).input d).demand = false ∨
          ((s.chan (otherChannel c)).input d).counted = true) →
        t.reg Obj.LAST_DEMAND_TIME = s.reg Obj.LAST_DEMAND_TIME ∧
        t.reg Obj.SAFE_BLANK_DEMANDS = s.reg Obj.SAFE_BLANK_DEMANDS ∧ t.reg Obj.EVAC_DEMANDS = s.reg Obj.EVAC_DEMANDS) ∧
      (s.safeBlank = false → t.safeBlank = true → t.safety.evacActive = false ∧ t.safety.evacFrom = none ∧
        (s.safety.evacActive = true → t.reg Obj.EVAC_STATE = 0 ∧ t.reg Obj.REPLAY_BANDS = 0)) ∧
      (s.safeBlank = true → t.safeBlank = false → t.safety.blankUntilCatch = true ∧
        (s.evacDemand = true → s.safety.evacActive = false → s.safety.evacFrom = none → s.demandActs t)) ∧
      (s.evacDemand = false → t.evacDemand = true → s.safeBlank = false → s.safety.evacActive = false →
        s.safety.evacFrom = none → s.demandActs t) ∧
      (s.evacDemand = true → t.evacDemand = false →
        (s.safety.evacActive = true → s.reg Obj.SCAN_STATE = 2 →
          t.safety.evacEnding = true ∧ t.safety.evacActive = true) ∧
        (s.safety.evacActive = true → s.reg Obj.SCAN_STATE ≠ 2 →
          t.safety.evacActive = false ∧ t.reg Obj.EVAC_STATE = 0 ∧ t.reg Obj.REPLAY_BANDS = 0) ∧
        (s.safety.evacActive = false → t.safety.evacFrom = none ∧ t.safety.evacActive = false)) ∧
      (s.evacDemand = false → t.evacDemand = false →
        s.frame t [.safety, .rails, .power] ([Obj.SAFE_BLANK_DEMANDS, Obj.LAST_DEMAND_TIME] ++ hidingObjs) []) ∧
      (s.evacDemand = true → t.evacDemand = false →
        s.frame t [.safety, .rails, .power] hidingObjs []) ∧
      s.frame t evacParts [] []) ∧
  (∀ (s : State) (c : Channel) (level : Bool), s.supervises c = true →
    ∃ t u, exec (.safetyInputRecognised c .railfbA level) s = .next t ∧
      exec (.safetyInputRecognised c .railfbB level) s = .next u ∧
      (c = .a → (t.chan c).railfb = level ∧ (u.chan c).otherfb = level) ∧
      (c = .b → (u.chan c).railfb = level ∧ (t.chan c).otherfb = level) ∧ s.frame t [.safety] [] [] ∧
      s.frame u [.safety] [] []) ∧
  (∀ (s : State) (c : Channel) (d : DualInput), s.supervises c = true →
    ∃ t, exec (.discrepancyTimeout c d) s = .next t ∧
      ((((s.chan c).input d).agree = true ∨ ((s.chan c).input d).discrepant = true) → s.frame t [] [] []) ∧
      (((s.chan c).input d).agree = false → ((s.chan c).input d).discrepant = false →
        ((t.chan c).input d).discrepant = true ∧ (∀ x, ((t.chan x).input d).cycled = false) ∧
        (d = .safeBlank → t.safety.blankProven = false ∧ t.reporting 74 = true) ∧
        (d = .evac → t.safety.evacProven = false ∧ t.reporting 75 = true) ∧
        t.reg Obj.DISCREPANCIES = (if ((s.chan (otherChannel c)).input d).discCounted = true then s.reg Obj.DISCREPANCIES
          else (s.reg Obj.DISCREPANCIES + 1) % 2 ^ 32)) ∧
      s.frame t [.safety] [Obj.DISCREPANCIES] [])

/-- Supervision (12 R293, R298, R317, R318): a lost heartbeat, a bad status read, and the second failed output test in a
row each trip with their cause, unless it is latched; a passed test is stamped; SAFETY_TRIP_CLEAR ends the trips
whose cause is absent and gives the permissions back when nothing else stands. Clauses rest on choices of the model:
assumption log 36. -/
def Obligations.SupervisionTripsTheOutputs : Prop :=
  (∀ s : State, s.supervises .b = true →
    ∃ t, exec .watchdogTimeout s = .next t ∧ t.fault.heartbeatLost = true ∧ t.reporting 80 = true ∧
      (s.safety.trips.contains 3 = false → s.tripTaken t 3) ∧
      (s.safety.trips.contains 3 = true → s.frame t [.fault] [] []) ∧
      s.frame t (.fault :: tripParts) (Obj.SAFETY_TRIP_CAUSE :: hidingObjs) []) ∧
  (∀ (s : State) (n : Nat), s.acts 7 = true →
    ∃ t, exec (.watchdogPairInversion n) s = .next t ∧ t.fault.heartbeatLost = false ∧
      t.regAt Obj.SRAM_CORRECTED 4 = (s.regAt Obj.SRAM_CORRECTED 4 + n) % 2 ^ 32 ∧
      (∀ i, i ≠ 4 → i < 65536 → t.regAt Obj.SRAM_CORRECTED i = s.regAt Obj.SRAM_CORRECTED i) ∧
      s.frame t [.fault] [Obj.SRAM_CORRECTED] []) ∧
  (∀ s : State, s.acts 7 = true →
    ∃ t, exec .millbrakeCycle s = .next t ∧ t.reg Obj.MILLBRAKE_COUNT = (s.reg Obj.MILLBRAKE_COUNT + 1) % 2 ^ 32 ∧
      s.frame t [] [Obj.MILLBRAKE_COUNT] []) ∧
  (∀ (s : State) (answered : Bool), s.supervises .a = true →
    ∃ t, exec (.millbrakeStatusRead answered) s = .next t ∧
      (answered = true → s.safety.lastCount ≠ some (s.reg Obj.MILLBRAKE_COUNT) →
        t.safety = { s.safety with statusBad := false, lastCount := some (s.reg Obj.MILLBRAKE_COUNT) } ∧
        s.frame t [.safety] [] []) ∧
      ((answered = false ∨ s.safety.lastCount = some (s.reg Obj.MILLBRAKE_COUNT)) →
        t.safety.statusBad = true ∧ t.reporting 81 = true ∧ (s.safety.trips.contains 4 = false → s.tripTaken t 4) ∧
        (s.safety.trips.contains 4 = true → s.frame t [.safety] [] [])) ∧
      s.frame t tripParts (Obj.SAFETY_TRIP_CAUSE :: hidingObjs) []) ∧
  (∀ (s : State) (c : Channel), s.supervises c = true →
    ∃ t, exec (.outputTestPulseStart c) s = .next t ∧ t.chan (otherChannel c) = s.chan (otherChannel c) ∧
      ((s.chan c).permission = true → (s.chan c).railen = true → (s.chan c).otherfb = true → (s.chan c).test = .idle →
        t.chan c = { s.chan c with railen := false, test := .pulse }) ∧
      (((s.chan c).permission = false ∨ (s.chan c).railen = false ∨ (s.chan c).otherfb = false ∨
          (s.chan c).test ≠ .idle) → s.frame t [] [] []) ∧
      s.frame t [.safety] [] []) ∧
  (∀ (s : State) (c : Channel) (fb : Bool), s.supervises c = true →
    ∃ t, exec (.outputTestPulseEnd c fb) s = .next t ∧ t.chan (otherChannel c) = s.chan (otherChannel c) ∧
      ((s.chan c).test = .pulse → t.chan c = { s.chan c with railen := true, test := .readback, readLow := !fb }) ∧
      ((s.chan c).test ≠ .pulse → s.frame t [] [] []) ∧ s.frame t [.safety] [] []) ∧
  (∀ (s : State) (c : Channel) (fb : Bool), s.supervises c = true →
    ∃ t, exec (.outputTestReadback c fb) s = .next t ∧
      ((s.chan c).test ≠ .readback → s.frame t [] [] []) ∧
      ((s.chan c).test = .readback → (s.chan c).readLow = true → fb = true →
        t.chan c = { s.chan c with test := .idle, fails := 0, overdue := false } ∧
        t.reg Obj.OUTPUT_TEST_PASSES = (s.reg Obj.OUTPUT_TEST_PASSES + 1) % 2 ^ 32 ∧
        t.reg (if c = .a then Obj.LAST_TEST_A else Obj.LAST_TEST_B) = s.stampA ∧
        s.frame t [.safety] [Obj.OUTPUT_TEST_PASSES, if c = .a then Obj.LAST_TEST_A else Obj.LAST_TEST_B] []) ∧
      ((s.chan c).test = .readback → ((s.chan c).readLow = false ∨ fb = false) →
        t.reg Obj.OUTPUT_TEST_FAILS = (s.reg Obj.OUTPUT_TEST_FAILS + 1) % 2 ^ 32 ∧
        (t.chan c).fails = (s.chan c).fails + 1 ∧ (t.chan c).test = .idle ∧
        ((s.chan c).fails = 0 → s.frame t [.safety] [Obj.OUTPUT_TEST_FAILS] []) ∧
        (1 ≤ (s.chan c).fails → s.safety.trips.contains 2 = false → s.tripTaken t 2 ∧ t.reporting 77 = true)) ∧
      s.frame t tripParts ([Obj.OUTPUT_TEST_FAILS, Obj.OUTPUT_TEST_PASSES, Obj.LAST_TEST_A, Obj.LAST_TEST_B,
        Obj.SAFETY_TRIP_CAUSE] ++ hidingObjs) []) ∧
  (∀ (s : State) (c : Channel), s.supervises c = true →
    ∃ t, exec (.railfbMismatch c) s = .next t ∧
      (((s.chan c).test ≠ .idle ∨ (s.chan c).railfb = (s.chan c).railen) → s.frame t [] [] []) ∧
      ((s.chan c).test = .idle → (s.chan c).railfb ≠ (s.chan c).railen →
        t.reg Obj.OUTPUT_TEST_FAILS = (s.reg Obj.OUTPUT_TEST_FAILS + 1) % 2 ^ 32 ∧
        (t.chan c).fails = (s.chan c).fails + 1 ∧
        ((s.chan c).fails = 0 → s.frame t [.safety] [Obj.OUTPUT_TEST_FAILS] []) ∧
        (1 ≤ (s.chan c).fails → s.safety.trips.contains 2 = false → s.tripTaken t 2 ∧ t.reporting 77 = true)) ∧
      s.frame t tripParts ([Obj.OUTPUT_TEST_FAILS, Obj.SAFETY_TRIP_CAUSE] ++ hidingObjs) []) ∧
  (∀ (s : State) (c : Channel), s.supervises c = true →
    ∃ t, exec (.outputTestOverdue c) s = .next t ∧ t.chan (otherChannel c) = s.chan (otherChannel c) ∧
      ((s.chan c).permission = true → t.chan c = { s.chan c with overdue := true } ∧ t.reporting 76 = true) ∧
      ((s.chan c).permission = false → s.frame t [] [] []) ∧ s.frame t [.safety] [] []) ∧
  (∀ (s : State) (rq : Req) (data : Bytes), s.admitsWrite rq Obj.SAFETY_TRIP_CLEAR data = true →
    ∃ t, exec (.safetyTripClear rq data) s = .next t ∧ t.answered rq 0 = true ∧
      t.safety.trips = s.safety.trips.filter s.causePresent ∧
      (s.safetyRuns = true → s.permissionsFollow t) ∧
      (s.safeBlank = true → t.safeBlank = false → t.safety.blankUntilCatch = true ∧
        (s.evacDemand = true → s.safety.evacActive = false → s.safety.evacFrom = none → s.demandActs t)) ∧
      (s.evacDemand = false → s.hostFrame t tripParts hidingObjs []) ∧ s.hostFrame t evacParts [] [])

/-- The beacon patrol (12 R306, R309) and the ambient light (R311): BEACON_VALID follows what a patrol finds, each
uncorrectable word of the store is counted with FS16, and content found invalid after a release of RESET_N leads to
the load of a saved image; AMBIENT_LUX is held and acts until its timeout. -/
def Obligations.TheBeaconIsPatrolled : Prop :=
  (∀ s : State, s.acts 7 = true →
    ∃ t, exec .beaconPatrol s = .next t ∧ t.safety = { s.safety with patrolling := true } ∧ s.frame t [.safety] [] []) ∧
  (∀ (s : State) (n : Nat) (errors : List Nat), s.acts 7 = true → s.safety.patrolling = true →
    ∃ t, exec (.beaconPatrolComplete n errors) s = .next t ∧
      t.flag Obj.BEACON_VALID = (errors.isEmpty && s.storeSound) ∧
      t.safety = { s.safety with patrolling := false, loadDue := false } ∧
      t.reg Obj.BEACON_PATROLS = (s.reg Obj.BEACON_PATROLS + 1) % 2 ^ 32 ∧
      t.regAt Obj.SRAM_CORRECTED 6 = (s.regAt Obj.SRAM_CORRECTED 6 + n) % 2 ^ 32 ∧
      t.reg Obj.BEACON_UNCORRECTED = (s.reg Obj.BEACON_UNCORRECTED + errors.length) % 2 ^ 32 ∧
      (errors ≠ [] → 0 < Sparse.get (fun _ => 0) t.fault.waiting 16) ∧
      ((errors.isEmpty && s.storeSound) = false → s.holdsContent = true → s.reg Obj.L7_ARM_STATE = 2 →
        t.reg Obj.L7_ARM_STATE = 3 ∧ t.layers.fillWanted = true) ∧
      ((errors.isEmpty && s.storeSound) = true → t.reg Obj.L7_ARM_STATE = s.reg Obj.L7_ARM_STATE ∧ t.layers = s.layers ∧
        ∀ a, Sparse.get ramDefault t.beacon a = Sparse.get ramDefault s.beacon a) ∧
      (s.safety.loadDue = true → s.imageSaved = true → (errors.isEmpty && s.storeSound) = false →
        (s.cop.flashJob = none → t.cop = { s.cop with flashJob := some { work := .evacLoad, answer := none } } ∧
          t.reg Obj.FLASH_STATE = 1) ∧
        (s.cop.flashJob ≠ none →
          t.cop = { s.cop with flashPaused := s.cop.flashPaused ++ [{ work := .evacLoad, answer := none }] })) ∧
      ((s.safety.loadDue = false ∨ s.imageSaved = false ∨ (errors.isEmpty && s.storeSound) = true) →
        t.cop = s.cop ∧ t.reg Obj.FLASH_STATE = s.reg Obj.FLASH_STATE) ∧
      s.frame t [.safety, .beacon, .fault, .layers, .cop] [Obj.BEACON_VALID, Obj.BEACON_PATROLS, Obj.BEACON_UNCORRECTED,
        Obj.SRAM_CORRECTED, Obj.SRAM_UNCORRECTED, Obj.SRAM_LAST_OFFSET, Obj.L7_ARM_STATE, Obj.FLASH_STATE] []) ∧
  (∀ (s : State) (n : Nat) (errors : List Nat), s.acts 7 = true → s.safety.patrolling = false →
    ∃ t, exec (.beaconPatrolComplete n errors) s = .next t ∧ s.frame t [] [] []) ∧
  (∀ (s : State) (rq : Req) (data : Bytes), s.admitsWrite rq Obj.AMBIENT_LUX data = true →
    ∃ t, exec (.ambientLuxWrite rq data) s = .next t ∧ t.answered rq 0 = true ∧ t.reg Obj.AMBIENT_LUX = leNat data ∧
      t.safety = { s.safety with ambientFresh := true } ∧ s.hostFrame t [.safety] [Obj.AMBIENT_LUX] []) ∧
  (∀ s : State, s.acts 6 = true →
    ∃ t, exec .ambientTimeout s = .next t ∧ t.safety = { s.safety with ambientFresh := false } ∧
      s.frame t [.safety] [] [])

/-- Fault collection (13 R324, R326 to R329): a source that reports, or a pulse source with an occurrence held, rises:
its live and latched bits, its count and its times, its event from reaction level 1 on, no permission at level 3; a
pulse ends; a pair reads discrepant and reads its value again. -/
def Obligations.FaultSourcesRiseAndFall : Prop :=
  (∀ (s : State) (n : Nat), s.acts 7 = true → reservedSource n = false → s.fault.live.contains n = false →
    (s.reporting n = true ∨ (pulseSource n = true ∧ 0 < Sparse.get (fun _ => 0) s.fault.waiting n)) →
    ∃ t, exec (.faultSourceRise n) s = .next t ∧ t.fault.live.contains n = t.reporting n ∧
      t.fault.latched.contains n = true ∧
      t.regAt Obj.FAULT_COUNT n = min (s.regAt Obj.FAULT_COUNT n + 1) 65535 ∧
      t.regAt Obj.FAULT_FIRST_TIME n =
        (if s.fault.latched.contains n then s.regAt Obj.FAULT_FIRST_TIME n else s.stampA) ∧
      t.regAt Obj.FAULT_LAST_TIME n = s.stampA ∧
      (pulseSource n = true → 0 < Sparse.get (fun _ => 0) s.fault.waiting n → s.fault.pulsing.contains n = false →
        Sparse.get (fun _ => 0) t.fault.waiting n = Sparse.get (fun _ => 0) s.fault.waiting n - 1 ∧
        t.fault.pulsing.contains n = true) ∧
      (s.reaction n = 3 → t.safeBlank = true ∧ (t.chan .a).permission = false ∧ (t.chan .b).permission = false) ∧
      (∀ k, k ≠ n → t.fault.latched.contains k = s.fault.latched.contains k ∧
        (k < 96 → t.regAt Obj.FAULT_COUNT k = s.regAt Obj.FAULT_COUNT k)) ∧
      (1 ≤ s.reaction n → s.traffic.events.length < 64 →
        t.traffic.events = s.traffic.events ++
          [{ code := 0x100 + n, time := s.stampA, data := natLE 2 (t.regAt Obj.FAULT_COUNT n) }] ∧
        t.reg Obj.EVENTS_DROPPED = s.reg Obj.EVENTS_DROPPED) ∧
      (1 ≤ s.reaction n → 64 ≤ s.traffic.events.length → t.traffic.events = s.traffic.events ∧
        t.reg Obj.EVENTS_DROPPED = (s.reg Obj.EVENTS_DROPPED + 1) % 2 ^ 32) ∧
      (s.reaction n = 0 → t.traffic.events = s.traffic.events ∧ t.reg Obj.EVENT_SEQUENCE = s.reg Obj.EVENT_SEQUENCE) ∧
      s.frame t ([.fault, .live, .traffic] ++ tripParts) ([Obj.FAULT_COUNT, Obj.FAULT_FIRST_TIME, Obj.FAULT_LAST_TIME,
        Obj.EVENT_SEQUENCE, Obj.EVENTS_DROPPED] ++ hidingObjs) []) ∧
  (∀ (s : State) (n : Nat), s.acts 7 = true →
    (reservedSource n = true ∨ s.fault.live.contains n = true ∨
      (s.reporting n = false ∧ (pulseSource n = false ∨ Sparse.get (fun _ => 0) s.fault.waiting n = 0))) →
    ∃ t, exec (.faultSourceRise n) s = .next t ∧ t.fault.latched = s.fault.latched ∧
      s.frame t (.fault :: tripParts) hidingObjs []) ∧
  (∀ (s : State) (n : Nat), s.acts 7 = true →
    ∃ t, exec (.faultPulseEnd n) s = .next t ∧ t.fault.pulsing = remove n s.fault.pulsing ∧
      (pulseSource n = true → s.forced n = false → s.fault.discrepant.contains n = false → t.fault.live.contains n = false) ∧
      s.frame t [.fault] [] []) ∧
  (∀ (s : State) (n : Nat), s.acts 7 = true →
    ∃ t, exec (.pairDiscrepantConfirm n) s = .next t ∧
      (n < 95 → t.fault.discrepant.contains n = true ∧ t.reporting 95 = true ∧ t.reporting n = !reservedSource n ∧
        s.frame t [.fault] [] []) ∧
      (95 ≤ n → s.frame t [] [] [])) ∧
  (∀ (s : State) (n : Nat), s.acts 7 = true →
    ∃ t, exec (.pairDiscrepancyEnd n) s = .next t ∧ t.fault.discrepant = remove n s.fault.discrepant ∧
      s.frame t [.fault] [] [])

/-- The objects of the collector (13 R327, R329 to R331): FAULT_CLEAR clears the latched bits of its mask whose live
bits are 0 and no others; FAULT_FORCE and FAULT_REACTION are held and act, a forced source reporting and a BLANK
reaction on a latched source withdrawing the permissions, which its end gives back. -/
def Obligations.FaultsAreClearedForcedAndGivenReactions : Prop :=
  (∀ (s : State) (rq : Req) (data : Bytes), s.admitsWrite rq Obj.FAULT_CLEAR data = true →
    ∃ t, exec (.faultClear rq data) s = .next t ∧ t.answered rq 0 = true ∧
      (∀ n, n < 96 → t.fault.latched.contains n =
        (s.fault.latched.contains n && !(bitAt (leNat (data.take 12)) n && !s.fault.live.contains n))) ∧
      (s.safetyRuns = true → s.permissionsFollow t) ∧
      (s.safeBlank = true → t.safeBlank = false → t.safety.blankUntilCatch = true ∧
        (s.evacDemand = true → s.safety.evacActive = false → s.safety.evacFrom = none → s.demandActs t)) ∧
      (s.evacDemand = false →
        s.hostFrame t ([.fault, .traffic] ++ tripParts) ([Obj.EVENT_SEQUENCE, Obj.EVENTS_DROPPED] ++ hidingObjs) []) ∧
      s.hostFrame t (.traffic :: evacParts) [] []) ∧
  (∀ (s : State) (rq : Req) (data : Bytes), s.admitsWrite rq Obj.FAULT_FORCE data = true →
    ∃ t, exec (.faultForceWrite rq data) s = .next t ∧ t.answered rq 0 = true ∧
      (∀ j, j < data.length → j < 12 → t.tabByte Obj.FAULT_FORCE j = data.getD j 0) ∧
      (∀ n, n < 96 → t.forced n = true → reservedSource n = false → t.reporting n = true) ∧
      s.hostFrame t [] [] [Obj.FAULT_FORCE]) ∧
  (∀ (s : State) (rq : Req) (data : Bytes), s.admitsWrite rq Obj.FAULT_REACTION data = true →
    ∃ t, exec (.faultReactionWrite rq data) s = .next t ∧ t.answered rq 0 = true ∧
      (∀ j, j < data.length → j < 96 → t.tabByte Obj.FAULT_REACTION j = data.getD j 0 ∧
        t.reaction j = max (min (data.getD j 0).toNat 3) (reactionFloor j)) ∧
      (∀ n, s.fault.latched.contains n = true → t.reaction n = 3 →
        t.safeBlank = true ∧ (t.chan .a).permission = false ∧ (t.chan .b).permission = false) ∧
      (s.safetyRuns = true → s.permissionsFollow t) ∧
      (s.safeBlank = true → t.safeBlank = false → t.safety.blankUntilCatch = true ∧
        (s.evacDemand = true → s.safety.evacActive = false → s.safety.evacFrom = none → s.demandActs t)) ∧
      (s.evacDemand = false → s.hostFrame t tripParts hidingObjs [Obj.FAULT_REACTION]) ∧ s.hostFrame t evacParts [] [])

/-- Freezes and the JTAG port (13 R335 to R337, 15 R366, 16 R402): a freeze drops both outputs and latches; FREEZE_PIN
has no effect while it is not enabled; JTAG_FREEZE on a frozen device, and every other instruction of the TAP, only
does what it is for; in a power-on reset the TAP takes none. Clauses rest on choices of the model: assumption log
12, 15, 17, 37, 137. -/
def Obligations.FreezesAndTheJtagPort : Prop :=
  (∀ s : State, s.defined = true →
    ∃ t, exec .freezePin s = .next t ∧
      (s.device.frozen = false → s.inReset = false → s.flag Obj.FREEZE_PIN_ENABLE = true →
        { t.device with crossings := s.device.crossings } = { s.device with frozen := true } ∧ t.outputsLow = true ∧
        t.faultPinLow = true ∧ (∀ h, s.runs (crossingSender h) = false → t.crossing h = s.crossing h) ∧
        (∀ h, (t.crossing h).step ≤ 4 ∨ t.crossing h = s.crossing h) ∧
        s.frame t [.device, .safety, .crossing, .free] [Obj.OUTPUT_TEST_ABANDONS] []) ∧
      ((s.device.frozen = true ∨ s.inReset = true ∨ s.flag Obj.FREEZE_PIN_ENABLE = false) → t = s)) ∧
  (∀ s : State, s.defined = true →
    ∃ t, exec .jtagFreeze s = .next t ∧
      (s.device.frozen = false → s.inReset = false →
        { t.device with crossings := s.device.crossings } = { s.device with frozen := true, tap := 0x2A } ∧
        t.outputsLow = true ∧ (∀ h, s.runs (crossingSender h) = false → t.crossing h = s.crossing h) ∧
        s.frame t [.device, .safety, .crossing, .free] [Obj.OUTPUT_TEST_ABANDONS] []) ∧
      ((s.device.frozen = true ∨ s.inReset = true) → s.device.phase ≠ .powerOnReset →
        t.device = { s.device with tap := 0x2A } ∧ s.frame t [.device] [] []) ∧
      (s.device.phase = .powerOnReset → t = s)) ∧
  (∀ s : State, s.device.phase ≠ .powerOnReset →
    (∃ t, exec .jtagFrzRead s = .next t ∧ t.device = { s.device with tap := 0x2B } ∧
      t.out = .jtag s.freezeChain :: s.out ∧ (s.device.frozen = true → s.freezeChain.take 16 = bitsLow 16 0x465A) ∧
      (s.device.frozen = false → ∀ b ∈ s.freezeChain, b = false) ∧ t.fault = s.fault ∧
      s.frame t [.device, .out, .free, .live] [] []) ∧
    (∃ t, exec .jtagKeysClear s = .next t ∧ t.device = { s.device with tap := 0x2C } ∧
      (s.alive 6 = true → t.cop.record.keyOperator = 0 ∧ t.cop.record.keyService = 0 ∧ t.cop.record.keyOwner = 0) ∧
      (s.alive 6 = false → t.cop = s.cop) ∧ { t.cop with record := s.cop.record } = s.cop ∧ t.fault = s.fault ∧
      s.frame t [.device, .cop, .live] [] []) ∧
    (∃ t, exec .jtagExtest s = .next t ∧ t.device = { s.device with tap := 0, extest := true } ∧
      t.safetyPins / 64 = 0 ∧ t.fault = s.fault ∧ s.frame t [.device, .live] [] []) ∧
    (∃ t, exec .jtagSamplePreload s = .next t ∧ t.device = { s.device with tap := 1 } ∧
      t.out = .jtag (Config.boundaryScan s.freeCtr) :: s.out ∧ t.fault = s.fault ∧
      s.frame t [.device, .out, .free, .live] [] []) ∧
    (∃ t, exec .jtagIdcode s = .next t ∧ t.device = { s.device with tap := 2 } ∧
      t.out = .jtag (bitsLow 32 Config.idcode) :: s.out ∧ t.fault = s.fault ∧ s.frame t [.device, .out, .live] [] []) ∧
    (∀ op : Nat, ∃ t, exec (.jtagBypass op) s = .next t ∧ t.device = { s.device with tap := op } ∧ t.out = s.out ∧
      t.fault = s.fault ∧ s.frame t [.device, .live] [] []) ∧
    ∃ t, exec .jtagTapReset s = .next t ∧ t.device = { s.device with tap := 2 } ∧ t.fault = s.fault ∧
      s.frame t [.device, .live] [] []) ∧
  (∀ (s : State) (op : Nat), s.device.phase = .powerOnReset →
    exec .jtagFrzRead s = .next s ∧ exec .jtagKeysClear s = .next s ∧ exec .jtagExtest s = .next s ∧
      exec .jtagSamplePreload s = .next s ∧ exec .jtagIdcode s = .next s ∧ exec (.jtagBypass op) s = .next s ∧
      exec .jtagTapReset s = .next s)

/-- Performance levels and the ageing margin (14 R340 to R345): PERF_LEVEL starts a transition with a voltage write, is
stored during one, and has no effect at the level in force; the acknowledge ends it, a timeout ends it with FS89 and
the level that the core voltage allows; the margin follows its formula and never falls. Clauses rest on choices of
the model: assumption log 43, 114, 177. -/
def Obligations.LevelsFollowTheRegulator : Prop :=
  (∀ (s : State) (rq : Req) (data : Bytes) (l old : Nat), s.admitsWrite rq Obj.PERF_LEVEL data = true →
    l = min (leNat data) 3 → old = s.reg Obj.PERF_LEVEL_IN_FORCE →
    ∃ t, exec (.perfLevelWrite rq data) s = .next t ∧ t.answered rq 0 = true ∧ t.reg Obj.PERF_LEVEL = leNat data ∧
      t.reg Obj.PERF_LEVEL_IN_FORCE = old ∧
      (s.changing = true → t.power = { s.power with storedLevel := some l } ∧
        s.hostFrame t [.power] [Obj.PERF_LEVEL] []) ∧
      (s.changing = false → (l < old ∨ (l = old ∧ s.reg Obj.PERF_STATE = 3)) →
        t.reg Obj.PERF_STATE = 1 ∧ t.reg Obj.CORE_VOLTAGE_REQUEST = s.levelVoltage l ∧
        .avsWrite (min (s.reg Obj.AVS_RAIL) 15) (s.levelVoltage l) ∈ t.out ∧
        t.power = { s.power with wasHeld := s.reg Obj.PERF_STATE == 3, avs := some (.raising l) }) ∧
      (s.changing = false → old < l →
        t.reg Obj.PERF_STATE = 2 ∧ t.reg Obj.CORE_VOLTAGE_REQUEST = s.levelVoltage l ∧
        .avsWrite (min (s.reg Obj.AVS_RAIL) 15) (s.levelVoltage l) ∈ t.out ∧
        t.power = { s.power with
          wasHeld := s.reg Obj.PERF_STATE == 3, clockLevel := l
          avs := some (.lowering l old (s.levelVoltage old)) }) ∧
      (s.changing = false → l = old → s.reg Obj.PERF_STATE ≠ 3 → s.hostFrame t [] [Obj.PERF_LEVEL] []) ∧
      s.hostFrame t [.power] [Obj.PERF_LEVEL, Obj.PERF_STATE, Obj.CORE_VOLTAGE_REQUEST] []) ∧
  (∀ s : State, s.acts 6 = true →
    ∃ t, exec .avsAcknowledge s = .next t ∧
      (s.power.avs = none → s.frame t [] [] []) ∧
      ((s.power.avs = some .margin ∨ s.power.avs = some .plain) →
        t.power = { s.power with avs := none } ∧ s.frame t [.power] [] []) ∧
      (∀ l, s.ackLevel = some l →
        s.levelEnded t l 0 true ∧ t.reg Obj.LEVEL_CHANGES = (s.reg Obj.LEVEL_CHANGES + 1) % 2 ^ 32) ∧
      s.frame t [.power, .out] [Obj.PERF_LEVEL_IN_FORCE, Obj.PERF_STATE, Obj.LEVEL_CHANGES, Obj.CORE_VOLTAGE_REQUEST] []) ∧
  (∀ (s : State) (core : Nat), s.acts 6 = true →
    ∃ t, exec (.avsTimeout core) s = .next t ∧
      (s.power.avs = none → s.frame t [] [] []) ∧
      (s.power.avs ≠ none → t.reg Obj.AVS_TIMEOUTS = (s.reg Obj.AVS_TIMEOUTS + 1) % 2 ^ 32 ∧
        0 < Sparse.get (fun _ => 0) t.fault.waiting 89) ∧
      ((s.power.avs = some .margin ∨ s.power.avs = some .plain) →
        t.power = { s.power with avs := none } ∧ s.frame t [.power, .fault] [Obj.AVS_TIMEOUTS] []) ∧
      (∀ x, s.timeoutLevel core = some x → s.levelEnded t x.1 x.2 false) ∧
      s.frame t [.power, .fault, .out] [Obj.PERF_STATE, Obj.AVS_TIMEOUTS, Obj.PERF_LEVEL_IN_FORCE,
        Obj.CORE_VOLTAGE_REQUEST] [Obj.HK_VALUES]) ∧
  (∀ s : State, s.acts 6 = true → s.power.ratioRounds ≠ 0 →
    ∃ t, exec .marginPlan s = .next t ∧
      t.reg Obj.MARGIN_MV = max (s.reg Obj.MARGIN_MV) (min s.plannedMargin (min (s.reg Obj.MARGIN_CEILING) 50)) ∧
      t.reg Obj.SLOWDOWN = min (roundRat (65536 * s.slowdown)).toNat 0xFFFF ∧
      s.reg Obj.MARGIN_MV ≤ t.reg Obj.MARGIN_MV ∧ t.power.ratioSum = [] ∧ t.power.ratioRounds = 0 ∧
      t.power.planned = true ∧
      (s.reg Obj.MARGIN_MV = t.reg Obj.MARGIN_MV → s.power.planned = true →
        t.power.avs = s.power.avs ∧ t.power.marginDue = s.power.marginDue ∧
        s.frame t [.power] [Obj.SLOWDOWN] []) ∧
      ((s.reg Obj.MARGIN_MV < t.reg Obj.MARGIN_MV ∨ s.power.planned = false) → s.changing = true →
        t.power.marginDue = true ∧ t.out = s.out) ∧
      ((s.reg Obj.MARGIN_MV < t.reg Obj.MARGIN_MV ∨ s.power.planned = false) → s.changing = false →
        t.power.avs = some .margin ∧
        t.reg Obj.CORE_VOLTAGE_REQUEST = t.levelVoltage (s.reg Obj.PERF_LEVEL_IN_FORCE) ∧
        t.out = .avsWrite (min (s.reg Obj.AVS_RAIL) 15) (t.reg Obj.CORE_VOLTAGE_REQUEST) :: s.out) ∧
      s.frame t [.power, .out] [Obj.SLOWDOWN, Obj.MARGIN_MV, Obj.CORE_VOLTAGE_REQUEST] []) ∧
  (∀ s : State, s.acts 6 = true → s.power.ratioRounds = 0 →
    ∃ t, exec .marginPlan s = .next t ∧ s.frame t [] [] [])

/-- Housekeeping, the temperature trip and its restart (14 R346 to R352): what each channel's sample shows and judges,
the trip by the second hot sample in a row with its kind and its first effects, the end of an orderly stop,
THERMAL_CLEAR, the hover count, and the end of the trip. Clauses rest on choices of the model: assumption log 18,
42, 91, 162. -/
def Obligations.TheThermalTripStopsAndRestarts : Prop :=
  (∀ (s : State) (v : Int), s.acts 6 = true → s.power.hkChannel = 0 →
    ∃ t, exec (.hkSample v) s = .next t ∧ t.hk 0 = clampI (-2147483648) 2147483647 v ∧ t.power.hkChannel = 1 ∧
      t.reg Obj.TJ = satImage 16 v ∧
      (s.power.clearArmed = true → t.reg Obj.THERMAL_STATE = 2 ∧ t.reg Obj.HOVER_COUNT = 0 ∧ t.power.clearArmed = false) ∧
      (s.power.clearArmed = false → t.power = { s.power with hkChannel := 1 } ∧
        s.frame t [.power] [Obj.TJ] [Obj.HK_VALUES]) ∧
      s.frame t [.power] [Obj.TJ, Obj.THERMAL_STATE, Obj.HOVER_COUNT] [Obj.HK_VALUES]) ∧
  (∀ (s : State) (v : Int), s.acts 6 = true → s.power.hkChannel = 1 →
    ∃ t, exec (.hkSample v) s = .next t ∧
      (s.power.tripped = false → (s.sampleHot v = false ∨ s.power.hotRun = 0) →
        t.power = { s.power with
          hkChannel := 2, sensorBad := !s.sampleValid v
          hotRun := if s.sampleHot v then s.power.hotRun + 1 else 0 } ∧
        t.flag Obj.TJ_VALID = s.sampleValid v ∧
        (s.sampleValid v = false → t.reporting 88 = true ∧
          t.reg Obj.SENSOR_INVALID_SAMPLES = (s.reg Obj.SENSOR_INVALID_SAMPLES + 1) % 2 ^ 32) ∧
        s.frame t [.power] [Obj.TJ_VALID, Obj.SENSOR_INVALID_SAMPLES, Obj.TJ_MAX] [Obj.HK_VALUES]) ∧
      (s.power.tripped = false → s.sampleHot v = true → 1 ≤ s.power.hotRun → s.sampleValid v = true → s.hk 0 < 0x4380 →
        t.power.tripped = true ∧ t.power.hkChannel = 2 ∧ t.reg Obj.THERMAL_STATE = 1 ∧
        t.reg Obj.THERMAL_TRIP_TIME = s.stampA ∧ t.reg Obj.THERMAL_TRIPS = min (s.reg Obj.THERMAL_TRIPS + 1) 65535 ∧
        t.reporting 87 = true ∧ t.reg Obj.THERMAL_STOP_KIND = 1 ∧ t.power.stopping = true ∧
        t.reg Obj.THERMAL_TRIP_READING = image 16 (s.hk 0) ∧ t.power.avs = s.power.avs ∧
        t.power.storedLevel = s.power.storedLevel ∧
        t.cop.flashJob = some { work := .faultLog 1, answer := none } ∧
        (∀ r, 8 ≤ r → r < 64 → (s.ring r).destroyWanted = false → t.ringState r ≠ 1 ∧ t.ringState r ≠ 2)) ∧
      (s.power.tripped = false → s.sampleHot v = true → 1 ≤ s.power.hotRun →
        (s.sampleValid v = false ∨ 0x4380 ≤ s.hk 0) → s.cop.held = [] → (s.cop.batch = none ∨ s.reg Obj.SCAN_STATE = 0) →
        t.power.tripped = true ∧ t.power.hkChannel = 2 ∧ t.reg Obj.THERMAL_STATE = 1 ∧
        t.reg Obj.THERMAL_TRIP_TIME = s.stampA ∧ t.reg Obj.THERMAL_TRIPS = min (s.reg Obj.THERMAL_TRIPS + 1) 65535 ∧
        t.reporting 87 = true ∧ t.reg Obj.THERMAL_STOP_KIND = 2 ∧ t.power.stopping = false ∧ t.mem = [] ∧
        t.reg Obj.MEM_STATE = 0 ∧ t.power.avs = s.power.avs ∧ (∀ i, 1 ≤ i → i ≤ 4 → t.runs i = false) ∧
        (∀ c, (t.chan c).permission = false) ∧ (∀ n, n < 48 → (t.rail n).on = false)) ∧
      (s.power.tripped = true → (s.reg Obj.THERMAL_STATE = 2 ∨ s.reg Obj.THERMAL_STATE = 3) →
        (s.sampleHot v = true → t.reg Obj.HOVER_COUNT = 0 ∧ t.reg Obj.THERMAL_STATE = 2) ∧
        (s.sampleHot v = false → t.reg Obj.HOVER_COUNT = min (s.reg Obj.HOVER_COUNT + 1) 255 ∧
          t.reg Obj.THERMAL_STATE = (if 8 ≤ min (s.reg Obj.HOVER_COUNT + 1) 255 then 3 else 2))) ∧
      (s.power.tripped = true →
        s.frame t [.power] [Obj.TJ_VALID, Obj.SENSOR_INVALID_SAMPLES, Obj.TJ_MAX, Obj.HOVER_COUNT, Obj.THERMAL_STATE]
          [Obj.HK_VALUES])) ∧
  (∀ (s : State) (v : Int) (ch : Nat), s.acts 6 = true → s.power.hkChannel = ch → 2 ≤ ch → ch ≤ 13 →
    ∃ t, exec (.hkSample v) s = .next t ∧ t.power.hkChannel = ch + 1 ∧
      (ch = 2 → s.coreUnjudged = true → s.frame t [.power] [] [Obj.HK_VALUES]) ∧
      ((ch = 2 → s.coreUnjudged = false) → s.supplyInside ch v = false →
        1 ≤ Sparse.get (fun _ => 0) s.power.outRun ch →
        bitAt (t.reg Obj.SUPPLY_FAULT_MASK) (ch - 2) = true ∧ t.reporting 90 = true) ∧
      ((ch = 2 → s.coreUnjudged = false) → s.supplyInside ch v = true →
        1 ≤ Sparse.get (fun _ => 0) s.power.inRun ch → bitAt (t.reg Obj.SUPPLY_FAULT_MASK) (ch - 2) = false) ∧
      (s.supplyInside ch v = false → Sparse.get (fun _ => 0) s.power.outRun ch = 0 →
        t.reg Obj.SUPPLY_FAULT_MASK = s.reg Obj.SUPPLY_FAULT_MASK) ∧
      (s.supplyInside ch v = true → Sparse.get (fun _ => 0) s.power.inRun ch = 0 →
        t.reg Obj.SUPPLY_FAULT_MASK = s.reg Obj.SUPPLY_FAULT_MASK) ∧
      s.frame t [.power] [Obj.SUPPLY_FAULT_MASK] [Obj.HK_VALUES]) ∧
  (∀ (s : State) (v : Int) (ch : Nat), s.acts 6 = true → s.power.hkChannel = ch →
    ((14 ≤ ch ∧ ch ≤ 20) ∨ (22 ≤ ch ∧ ch ≤ 30)) →
    ∃ t, exec (.hkSample v) s = .next t ∧ t.power = { s.power with hkChannel := ch + 1 } ∧
      (ch ≤ 22 → t.hk ch = clampI (-2147483648) 2147483647 v) ∧ (23 ≤ ch → t.hk ch = s.hk ch) ∧
      s.frame t [.power] [] [Obj.HK_VALUES]) ∧
  (∀ (s : State) (v : Int), s.acts 6 = true → s.power.hkChannel = 21 →
    ∃ t, exec (.hkSample v) s = .next t ∧ t.power.ratioRounds = s.power.ratioRounds + 1 ∧
      (∀ i, i < 4 → 0 < t.hk (14 + i) → t.tabNat Obj.RO_RATIOS (2 * i) 2 =
        min (roundDiv ((t.hk (18 + i)).toNat * 32768 : Nat) (t.hk (14 + i)).toNat).toNat 65535) ∧
      s.frame t [.power, .free] [] [Obj.HK_VALUES, Obj.RO_RATIOS]) ∧
  (∀ (s : State) (v : Int), s.acts 6 = true → s.power.hkChannel = 31 →
    ∃ t, exec (.hkSample v) s = .next t ∧ t.power = { s.power with hkChannel := 0 } ∧
      t.reg Obj.HK_ROUNDS = (s.reg Obj.HK_ROUNDS + 1) % 2 ^ 32 ∧ s.frame t [.power] [Obj.HK_ROUNDS] []) ∧
  (∀ s : State, s.acts 6 = true →
    ∃ t, exec .orderlyStopEnd s = .next t ∧
      (s.power.stopping = false → s.frame t [] [] []) ∧
      (s.power.stopping = true → s.cop.held = [] → (s.cop.batch = none ∨ s.reg Obj.SCAN_STATE = 0) →
        t.power.stopping = false ∧ (∀ i, 1 ≤ i → i ≤ 4 → t.runs i = false) ∧ (∀ n, n < 48 → (t.rail n).on = false) ∧
        (s.changing = true → t.power.stopDue = true ∧ t.power.avs = s.power.avs ∧
          t.reg Obj.CORE_VOLTAGE_REQUEST = s.reg Obj.CORE_VOLTAGE_REQUEST) ∧
        (s.changing = false → t.power.avs = some .plain ∧ t.reg Obj.CORE_VOLTAGE_REQUEST = t.levelVoltage 3))) ∧
  (∀ (s : State) (rq : Req) (data : Bytes), s.admitsWrite rq Obj.THERMAL_CLEAR data = true →
    ∃ t, exec (.thermalClear rq data) s = .next t ∧ t.answered rq 0 = true ∧
      t.power = { s.power with
        clearArmed := s.power.clearArmed || (s.power.tripped && s.reg Obj.THERMAL_STATE == 1) } ∧
      s.hostFrame t [.power] [] []) ∧
  (∀ (s : State) (l : Nat), s.acts 6 = true → s.power.tripped = true → s.reg Obj.THERMAL_STATE = 3 →
    l = min (s.reg Obj.PERF_LEVEL) 3 →
    ∃ t, exec .hoverHoldEnd s = .next t ∧
      (s.safety.evacHeld = false →
        t.reg Obj.THERMAL_STATE = 0 ∧ t.reg Obj.MEM_STATE = 0 ∧ t.reg Obj.PERF_STATE = 0 ∧
        t.reg Obj.PERF_LEVEL_IN_FORCE = l ∧ t.reg Obj.CORE_VOLTAGE_REQUEST = s.levelVoltage l ∧
        t.power = { s.power with tripped := false, clockLevel := l, stopDue := false, avs := some .plain } ∧
        (∀ i, 1 ≤ i → i ≤ 4 → t.runs i = true) ∧
        s.frame t [.device, .power, .out, .safety, .rails] [Obj.THERMAL_STATE, Obj.MEM_STATE, Obj.PERF_STATE,
          Obj.PERF_LEVEL_IN_FORCE, Obj.CORE_VOLTAGE_REQUEST, Obj.OUTPUT_TEST_ABANDONS] []) ∧
      (s.safety.evacHeld = true → s.evacDemand = true → s.safeBlank = false → s.safety.evacActive = false →
        s.safety.evacFrom = none → (s.beaconReady = true ∨ s.l7Armed = true ∨ s.imageSaved = true) →
        t.safety.evacFrom = some (s.nowNs : Int) ∧ t.safety.evacHeld = false)) ∧
  (∀ s : State, s.acts 6 = true → (s.power.tripped = false ∨ s.reg Obj.THERMAL_STATE ≠ 3) →
    ∃ t, exec .hoverHoldEnd s = .next t ∧ s.frame t [] [] [])

/-- Sleep (14 R354 to R360, 16 R401): SLEEP_REQUEST enters S1, S2 and S3, is busy where it says so, and ends S1; entry
completes with nothing but AON on; wake conditions are latched during entry and sleep and end S1; the wake edge
records them. Clauses rest on choices of the model: assumption log 88, 105, 178. -/
def Obligations.SleepIsEnteredAndLeft : Prop :=
  (∀ (s : State) (rq : Req), s.admitsWrite rq Obj.SLEEP_REQUEST (natLE 1 1) = true → s.evacDemand = false →
    s.safety.evacActive = false → s.reg Obj.SLEEP_STATE < 2 → s.power.s1Wanted = false →
    ∃ t, exec (.sleepEnterS1 rq) s = .next t ∧ t.answered rq 0 = true ∧
      (s.power.inS1 = true → s.hostFrame t [] [] []) ∧
      (s.power.inS1 = false → s.reg Obj.SCAN_STATE ≠ 0 →
        t.power = { s.power with s1Wanted := true } ∧ s.hostFrame t [.power] [] []) ∧
      (s.power.inS1 = false → s.reg Obj.SCAN_STATE = 0 → t.reg Obj.SLEEP_STATE = 1 ∧ t.device.gating = [1, 2] ∧
        t.power = { s.power with s1Wanted := false, inS1 := true, s1Wake := none, s1Blank := true
                                 blankStood := s.blankDemand } ∧
        t.reg Obj.MEM_STATE = (if s.reg Obj.MEM_STATE = 2 then 3 else s.reg Obj.MEM_STATE)) ∧
      s.hostFrame t [.power, .device, .memory]
        (Obj.SLEEP_STATE :: Obj.MEM_STATE :: repeated 64 [Obj.RING_PREEMPTIONS 0]) []) ∧
  (∀ (s : State) (rq : Req), s.admitsWrite rq Obj.SLEEP_REQUEST (natLE 1 2) = true → s.evacDemand = false →
    s.safety.evacActive = false → s.reg Obj.SLEEP_STATE < 2 → s.power.s1Wanted = false →
    ∃ t, exec (.sleepEnterS2 rq) s = .next t ∧ t.answered rq 0 = true ∧ t.power.entering = some 2 ∧
      t.reg Obj.SLEEP_STATE = 2 ∧ t.power.wakes = [] ∧ t.power.wasRunning = (s.reg Obj.SCAN_STATE == 2) ∧
      t.power.blankStood = s.blankDemand ∧
      t.cop.flashJob = some { work := .faultLog 2, answer := none } ∧ t.cop.batch = none ∧
      t.power.image.isSome =
        (s.reg Obj.MEM_STATE == 2 || (s.power.inS1 && s.reg Obj.MEM_STATE == 3)) ∧
      (t.power.image.isSome = true → t.reg Obj.MEM_STATE = 3)) ∧
  (∀ (s : State) (rq : Req), s.admitsWrite rq Obj.SLEEP_REQUEST (natLE 1 3) = true → s.evacDemand = false →
    s.safety.evacActive = false → s.reg Obj.SLEEP_STATE < 2 → s.power.s1Wanted = false →
    ∃ t, exec (.sleepEnterS3 rq) s = .next t ∧ t.answered rq 0 = true ∧ t.power.entering = some 3 ∧
      t.reg Obj.SLEEP_STATE = 2 ∧ t.power.wakes = [] ∧ t.power.wasRunning = (s.reg Obj.SCAN_STATE == 2) ∧
      t.cop.flashJob = some { work := .faultLog 2, answer := none } ∧ t.cop.batch = none ∧ t.power.image = none) ∧
  (∀ (s : State) (rq : Req),
    (s.evacDemand = true ∨ s.safety.evacActive = true ∨ 2 ≤ s.reg Obj.SLEEP_STATE ∨ s.power.s1Wanted = true) →
    (s.admitsWrite rq Obj.SLEEP_REQUEST (natLE 1 1) = true →
      ∃ t, exec (.sleepEnterS1 rq) s = .next t ∧ s.turnsAway t rq abortBusy) ∧
    (s.admitsWrite rq Obj.SLEEP_REQUEST (natLE 1 2) = true →
      ∃ t, exec (.sleepEnterS2 rq) s = .next t ∧ s.turnsAway t rq abortBusy) ∧
    (s.admitsWrite rq Obj.SLEEP_REQUEST (natLE 1 3) = true →
      ∃ t, exec (.sleepEnterS3 rq) s = .next t ∧ s.turnsAway t rq abortBusy)) ∧
  (∀ (s : State) (rq : Req), s.admitsWrite rq Obj.SLEEP_REQUEST (natLE 1 0) = true →
    ∃ t, exec (.sleepExitS1 rq) s = .next t ∧ t.answered rq 0 = true ∧
      (s.power.inS1 = true → t.power.inS1 = false ∧ t.power.s1Wake = some s.ticks ∧ t.reg Obj.SLEEP_STATE = 0 ∧
        t.runs 1 = true ∧ t.runs 2 = true ∧ t.reg Obj.LAST_WAKE_SOURCES = 256 ∧ t.reg Obj.LAST_WAKE_SOURCE = 8 ∧
        t.reg Obj.LAST_WAKE_STATE = 1) ∧
      (s.power.inS1 = false → t.power = { s.power with s1Wanted := false } ∧ s.hostFrame t [.power] [] []) ∧
      s.hostFrame t [.device, .power] [Obj.SLEEP_STATE, Obj.MEM_STATE, Obj.LAST_WAKE_SOURCES, Obj.LAST_WAKE_SOURCE,
        Obj.LAST_WAKE_STATE, Obj.LAST_WAKE_LEDGER] [Obj.WAKE_COUNTS]) ∧
  (∀ (s : State) (n : Nat), s.defined = true → s.device.frozen = false → s.power.entering = some n →
    ∃ t, exec .sleepEntryComplete s = .next t ∧ t.device.phase = .asleep ∧ t.device.corePwrEn = false ∧
      t.power.asleep = some n ∧ t.power.entering = none ∧ t.power.wakes = s.power.wakes ∧
      t.power.blankStood = s.power.blankStood ∧ t.outputsLow = true ∧
      (∀ i, i < 8 → t.runs i = false) ∧ t.reg Obj.SLEEP_LEDGER = 0 ∧
      (∀ o i, persists o = true → o ≠ Obj.SLEEP_LEDGER → i < 65536 → t.regAt o i = s.regAt o i) ∧
      (∀ o i, persists o = false → beaconCounter (regKey o i) = false → i < 65536 → t.regAt o i = objDefault o) ∧
      (n = 2 → s.frame t resetParts [] []) ∧ (n = 3 → t.mem = [] ∧ t.beacon = [] ∧ t.flash = s.flash)) ∧
  (∀ s : State, s.defined = true → s.power.entering = none →
    ∃ t, exec .sleepEntryComplete s = .next t ∧ s.frame t [] [] []) ∧
  (∀ s : State, s.canWake = true →
    (∃ t, exec .wakeNLow s = .next t ∧ (s.wakeEnabled 3 = true → s.wakeTaken t 3) ∧
      (s.wakeEnabled 3 = false → s.frame t [] [] [])) ∧
    (∀ c, ∃ t, exec (.evacPinWake c) s = .next t ∧ s.wakeTaken t 1) ∧
    (∀ c released, ∃ t, exec (.safeBlankPinWake c released) s = .next t ∧
      ((s.power.blankStood = false ∨ released = true) → s.wakeTaken t 2) ∧
      (s.power.blankStood = true → released = false → s.frame t [] [] [])) ∧
    (∃ t, exec .t1sActivityDetect s = .next t ∧
      (s.wakeEnabled 6 = true → s.device.t1sOff = false → s.wakeTaken t 6) ∧
      ((s.wakeEnabled 6 = false ∨ s.device.t1sOff = true) → s.frame t [] [] [])) ∧
    ∃ t, exec .wakeTimerExpiry s = .next t ∧
      (s.wakeEnabled 7 = true → s.reg Obj.WAKE_TIMER ≠ 0 → s.wakeTaken t 7) ∧
      (s.reg Obj.WAKE_TIMER = 0 → s.frame t [] [] [])) ∧
  (∀ (s : State) (p : Port) (periods : Nat), s.canWake = true →
    ∃ t, exec (.linkActivityDetect p periods) s = .next t ∧
      (64 ≤ periods → s.wakeEnabled 5 = true → (s.power.entering.isSome = true ∨ s.power.asleep.isSome = true) →
        s.wakeTaken t 5) ∧
      ((periods < 64 ∨ s.wakeEnabled 5 = false ∨ (s.power.entering = none ∧ s.power.asleep = none)) →
        s.frame t [] [] [])) ∧
  (∀ (s : State) (p : Port) (lengths : List Nat), s.canWake = true →
    ∃ t, exec (.wakePatternDetect p lengths) s = .next t ∧
      ((wakePattern lengths = false ∨ s.wakeEnabled 4 = false ∨ (s.runs 0 = true ∧ 2 ≤ s.portState p)) →
        s.frame t [] [] []) ∧
      (wakePattern lengths = true → s.wakeEnabled 4 = true → (s.runs 0 = false ∨ s.portState p < 2) →
        ((s.power.entering.isSome = true ∨ s.power.asleep.isSome = true) →
          t.power = { s.power with wakes := insertOnce 4 s.power.wakes } ∧
          (s.power.wakes.contains 4 = false → t.traffic.relay = some (otherPort p)) ∧
          s.frame t [.power, .traffic] [] []) ∧
        (s.power.entering = none → s.power.asleep = none → (s.power.inS1 = false ∨ s.flag Obj.WAKE_RELAY = false) →
          s.wakeTaken t 4) ∧
        (s.power.entering = none → s.power.asleep = none → s.power.inS1 = true → s.flag Obj.WAKE_RELAY = true →
          t.power.inS1 = false ∧ t.reg Obj.SLEEP_STATE = 0 ∧ t.reg Obj.LAST_WAKE_SOURCES = 16 ∧
          (t.portLink (otherPort p)).waking = true ∧ .wakePattern (otherPort p) ∈ t.out ∧
          t.portState (otherPort p) =
            (if 1 ≤ s.portState (otherPort p) ∧ s.portState (otherPort p) ≤ 6 then 1 else s.portState (otherPort p))))) ∧
  (∀ (s : State) (c : Channel) (released : Bool) (p : Port) (lengths : List Nat) (periods : Nat), s.defined = true →
    s.canWake = false →
    exec .wakeNLow s = .next s ∧ exec (.evacPinWake c) s = .next s ∧ exec (.safeBlankPinWake c released) s = .next s ∧
      exec (.wakePatternDetect p lengths) s = .next s ∧ exec (.linkActivityDetect p periods) s = .next s ∧
      exec .t1sActivityDetect s = .next s ∧ exec .wakeTimerExpiry s = .next s) ∧
  (∀ (s : State) (image : ImageCheck) (n : Nat), s.defined = true → s.device.frozen = false → s.device.phase = .asleep →
    s.power.wakes ≠ [] → s.power.asleep = some n →
    ∃ t, exec (.sleepExit image) s = .next t ∧ t.device.phase = .waitCore ∧ t.device.corePwrEn = true ∧
      t.power = { s.power with asleep := none, leaving := some n, wakes := [], imageCheck := image } ∧
      t.reg Obj.SLEEP_STATE = 3 ∧ t.reg Obj.LAST_WAKE_SOURCES = maskNat 9 s.power.wakes.contains ∧
      t.reg Obj.LAST_WAKE_STATE = n ∧ t.reg Obj.LAST_WAKE_LEDGER = s.reg Obj.SLEEP_LEDGER ∧
      s.frame t [.device, .power] [Obj.SLEEP_STATE, Obj.LAST_WAKE_SOURCES, Obj.LAST_WAKE_SOURCE, Obj.LAST_WAKE_STATE,
        Obj.LAST_WAKE_LEDGER] [Obj.WAKE_COUNTS]) ∧
  (∀ (s : State) (image : ImageCheck), s.defined = true → (s.device.phase ≠ .asleep ∨ s.power.wakes = []) →
    ∃ t, exec (.sleepExit image) s = .next t ∧ s.frame t [] [] [])

/-- Resets and the release sequence (16 R397 to R401, R407, 14 R361, 15 R380): what each reset leaves, which supplies,
clocks and straps the sequence takes, and which firmware boots; a step of the sequence that is not due has no
effect. Clauses rest on choices of the model: assumption log 33, 48, 81, 116, 117, 179, 180. -/
def Obligations.ResetsAndTheReleaseSequence : Prop :=
  (∀ s : State, ∃ t, exec .powerOnReset s = .next t ∧ t.device.phase = .powerOnReset ∧ t.device.tap = s.device.tap ∧
    t.cop.record = s.cop.record ∧ t.outputsLow = true ∧ t.faultPinLow = true ∧
    (∀ o i, i < 65536 → t.regAt o i = objDefault o) ∧ (∀ o j, t.tabByte o j = domDefault (tabKey o j)) ∧
    s.frame t (.mem :: .beacon :: resetParts) [] []) ∧
  (∀ s : State, (s.device.phase = .powerOnReset → ∃ t, exec .powerOnResetRelease s = .next t ∧
      t.device = { s.device with phase := .waitXtal } ∧ s.frame t [.device] [] []) ∧
    (s.device.phase ≠ .powerOnReset → exec .powerOnResetRelease s = .next s)) ∧
  (∀ (s : State) (straps : Nat), s.defined = true → s.device.frozen = false → s.device.phase = .waitXtal →
    ∃ t u, exec (.xtal32Start straps) s = .next t ∧ exec (.xtal32StartTimeout straps) s = .next u ∧
      t.device = { s.device with
        phase := .waitCore, corePwrEn := true, resetCause := 0, internalOsc := false
        t1sOff := bitAt straps 2 && !bitAt straps 1 } ∧
      u.device = { t.device with internalOsc := true } ∧ t.reg Obj.STRAPS = straps % 16 ∧ u.reg Obj.STRAPS = straps % 16 ∧
      s.frame t [.device] [Obj.STRAPS] [] ∧ s.frame u [.device] [Obj.STRAPS] []) ∧
  (∀ (s : State) (straps : Nat), s.defined = true → s.device.frozen = false → s.device.phase ≠ .waitXtal →
    exec (.xtal32StartTimeout straps) s = .next s ∧
    ∃ t, exec (.xtal32Start straps) s = .next t ∧ t.device = { s.device with internalOsc := false } ∧
      s.frame t [.device] [] []) ∧
  (∀ s : State, s.defined = true → s.device.frozen = false → s.device.phase = .waitCore →
    ∃ t, exec .coreSupplyInWindow s = .next t ∧ t.device.phase = .waitFirmware ∧
      (∀ i, i < 8 → (s.power.tripped = false ∨ i = 0 ∨ 4 < i) → t.runs i = true) ∧
      (s.power.tripped = true → ∀ i, 1 ≤ i → i ≤ 4 → t.runs i = s.runs i) ∧ t.fault.latched = s.fault.held ∧
      (s.device.longHold.isSome = true → 0 < Sparse.get (fun _ => 0) t.fault.waiting 92) ∧ t.device.longHold = none ∧
      (s.traffic.relay = none → ∀ p, s.portEnabled p = true → t.portState p = 1) ∧
      (s.power.leaving = none →
        t.reg Obj.RESET_CAUSE = s.device.resetCause ∧ t.power = s.power ∧
        (s.device.resetCause = 1 ∨ s.device.resetCause = 3 →
          t.safety.patrolling = true ∧ t.safety.loadDue = true)) ∧
      (∀ n, s.power.leaving = some n →
        t.reg Obj.RESET_CAUSE = s.reg Obj.RESET_CAUSE ∧ (n = 2 → t.safety.patrolling = true) ∧
        t.power = { s.power with avs := some .plain, clockLevel := min (s.wakeReg Obj.PERF_LEVEL) 3 } ∧
        t.reg Obj.PERF_LEVEL_IN_FORCE = min (s.wakeReg Obj.PERF_LEVEL) 3 ∧
        t.reg Obj.CORE_VOLTAGE_REQUEST = t.levelVoltage (t.reg Obj.PERF_LEVEL_IN_FORCE)) ∧
      s.frame t [.device, .fault, .live, .link, .safety, .traffic, .time, .power, .out] [Obj.RESET_CAUSE, Obj.FAULT_COUNT,
        Obj.PORT_STATE 0, Obj.PORT_STATE 1, Obj.PERF_LEVEL_IN_FORCE, Obj.CORE_VOLTAGE_REQUEST] [Obj.RESET_COUNTS]) ∧
  (∀ s : State, s.acts 6 = true → s.device.phase = .waitFirmware →
    ∃ t, exec .firmwareRunning s = .next t ∧ t.reg Obj.FW_SLOT_RUNNING ≤ 2 ∧
      t.device.phase = (if t.reg Obj.FW_SLOT_RUNNING = 2 then .recovery else .running) ∧
      (bitAt (s.reg Obj.STRAPS) 1 = true → t.reg Obj.FW_SLOT_RUNNING = 2) ∧
      (t.reg Obj.FW_SLOT_RUNNING ≤ 1 → t.imageOk (t.reg Obj.FW_SLOT_RUNNING) = true) ∧ t.cop.keys = s.cop.record ∧
      t.cop.record = s.cop.record ∧
      s.frame t [.cop, .device, .flash, .fault] [Obj.FW_SLOT_RUNNING, Obj.FW_SLOT_STATES, Obj.FAULT_LOG_NEXT, Obj.FW_VERSION,
        Obj.IPV4_ADDRESS, Obj.IPV4_NETMASK, Obj.COP_UDP_PORT, Obj.PLCA_NODE_ID, Obj.PLCA_NODE_COUNT] [Obj.TILE_IDENTITY]) ∧
  (∀ s : State, s.defined = true → s.device.frozen = false → s.device.phase ≠ .waitCore →
    exec .coreSupplyInWindow s = .next s) ∧
  (∀ s : State, s.defined = true → s.device.phase ≠ .waitFirmware → exec .firmwareRunning s = .next s) ∧
  (∀ (s : State) (ns : Nat), s.device.phase ≠ .powerOnReset → s.device.phase ≠ .resetHeld →
    ∃ t, exec (.resetNLow ns) s = .next t ∧
      (10000 ≤ ns → t.device.phase = .resetHeld ∧ t.device.holdCounted = false ∧ t.outputsLow = true ∧
        t.faultPinLow = true ∧ (∀ i, i < 8 → t.runs i = false) ∧
        s.frame t [.device, .safety, .fault] [Obj.OUTPUT_TEST_ABANDONS] []) ∧
      (ns < 7000 → t.reg Obj.RESET_GLITCHES = min (s.reg Obj.RESET_GLITCHES + 1) 65535 ∧
        s.frame t [] [Obj.RESET_GLITCHES] []) ∧
      (t.device.phase = .resetHeld ∨
        (t.device = s.device ∧ t.reg Obj.RESET_GLITCHES = min (s.reg Obj.RESET_GLITCHES + 1) 65535)) ∧
      s.frame t [.device, .safety, .fault, .free] [Obj.OUTPUT_TEST_ABANDONS, Obj.RESET_GLITCHES] []) ∧
  (∀ (s : State) (ns : Nat), (s.device.phase = .powerOnReset ∨ s.device.phase = .resetHeld) →
    exec (.resetNLow ns) s = .next s) ∧
  (∀ (s : State) (straps : Nat), s.device.phase = .resetHeld →
    ∃ t, exec (.resetNRelease straps) s = .next t ∧ t.device.phase = .waitCore ∧ t.device.corePwrEn = true ∧
      t.device.resetCause = 1 ∧ t.device.frozen = false ∧ t.defined = true ∧ t.reg Obj.STRAPS = straps % 16 ∧
      t.reg Obj.FREEZES = (if s.device.frozen then min (s.reg Obj.FREEZES + 1) 65535 else s.reg Obj.FREEZES) ∧
      t.safety.blankProven = false ∧ t.safety.evacProven = false ∧ t.safety.trips = s.safety.trips ∧
      (∀ ms, s.device.longHold = some ms → t.reg Obj.RESET_HOLD_TIME = min ms 0xFFFFFFFF) ∧
      (∀ o i, persists o = true → o ∉ [Obj.STRAPS, Obj.FREEZES, Obj.RESET_HOLD_TIME] → i < 65536 →
        t.regAt o i = s.regAt o i) ∧
      (∀ o i, persists o = false → i < 65536 → t.regAt o i = objDefault o) ∧ s.frame t resetParts [] []) ∧
  (∀ (s : State) (ms : Nat), s.device.phase = .resetHeld →
    ∃ t, exec (.resetHoldLong ms) s = .next t ∧ t.device = { s.device with longHold := some ms, holdCounted := true } ∧
      (s.device.holdCounted = false → t.flag Obj.RESET_HELD = true ∧
        t.reg Obj.RESET_HELD_COUNT = min (s.reg Obj.RESET_HELD_COUNT + 1) 65535) ∧
      s.frame t [.device] (if s.device.holdCounted then [] else [Obj.RESET_HELD, Obj.RESET_HELD_COUNT]) []) ∧
  (∀ (s : State) (straps ms : Nat), s.device.phase ≠ .resetHeld →
    exec (.resetNRelease straps) s = .next s ∧ exec (.resetHoldLong ms) s = .next s) ∧
  (∀ s : State, s.defined = true → s.device.frozen = false →
    ∃ t, exec .coreBrownOut s = .next t ∧
      (s.coreOn = true → t.device.phase = .brownOut ∧ t.device.corePwrEn = true ∧ t.outputsLow = true ∧
        (∀ i, i < 8 → t.runs i = false) ∧
        (∀ o i, i < 65536 → t.regAt o i = if persists o then s.regAt o i else objDefault o)) ∧
      (s.coreOn = false → t = s) ∧ s.frame t resetParts [] []) ∧
  (∀ s : State, s.defined = true → s.device.frozen = false →
    (s.device.phase = .brownOut → ∃ t, exec .coreSupplyRestored s = .next t ∧
      t.device = { s.device with phase := .waitCore, corePwrEn := true, resetCause := 2 } ∧ s.frame t [.device] [] []) ∧
    (s.device.phase ≠ .brownOut → exec .coreSupplyRestored s = .next s))
end

