-- ==== Sys2Proof/Laws/Sparse.lean ====
section
/-! SUPPORT. The laws of sparse maps: a read after a write, and that every operation keeps the canonical form. -/

namespace Sys2Proof.Machine

variable {α : Type}

/-! ### Reading after a change: unconditional -/

theorem Sparse.get_drop (d : Nat → α) (m : Sparse α) (k i : Nat) :
    Sparse.get d (Sparse.drop m k) i = if i = k then d i else Sparse.get d m i := by
  induction m with
  | nil => simp [Sparse.drop, Sparse.get]
  | cons p m ih =>
    obtain ⟨j, w⟩ := p
    simp only [Sparse.drop] at ih
    by_cases hj : j = k
    · subst hj
      by_cases hi : i = j
      · simp_all [Sparse.drop]
      · have hji : j ≠ i := Ne.symm hi
        simp_all [Sparse.drop, Sparse.get]
    · by_cases hi : i = k <;> by_cases hji : j = i <;> simp_all [Sparse.drop, Sparse.get]

theorem Sparse.get_insert (d : Nat → α) (m : Sparse α) (k i : Nat) (v : α) (h : ∀ p ∈ m, p.1 ≠ k) :
    Sparse.get d (Sparse.insert m k v) i = if i = k then v else Sparse.get d m i := by
  induction m with
  | nil =>
    by_cases hi : i = k
    · simp [Sparse.insert, Sparse.get, hi]
    · simp [Sparse.insert, Sparse.get, hi, Ne.symm hi]
  | cons p m ih =>
    obtain ⟨j, w⟩ := p
    have hj : j ≠ k := h (j, w) (by simp)
    have hm := ih fun q hq => h q (by simp [hq])
    rw [Sparse.insert]
    by_cases hlt : k < j
    · rw [if_pos hlt]
      by_cases hi : i = k
      · simp [Sparse.get, hi]
      · simp [Sparse.get, hi, Ne.symm hi]
    · rw [if_neg hlt]
      by_cases hi : i = k
      · subst hi
        simpa [Sparse.get, hj] using hm
      · rw [if_neg hi] at hm ⊢
        simp [Sparse.get, hm]

/-- A read after a write gives the value written; every other key reads as before. -/
@[simp] theorem Sparse.get_set [DecidableEq α] (d : Nat → α) (m : Sparse α) (k i : Nat) (v : α) :
    Sparse.get d (Sparse.set d m k v) i = if i = k then v else Sparse.get d m i := by
  unfold Sparse.set
  split
  · rename_i h
    rw [Sparse.get_drop]
    split
    · rename_i hi; subst hi; exact h.symm
    · rfl
  · rw [Sparse.get_insert _ _ _ _ _ (by intro p hp; simpa using (List.mem_filter.1 hp).2)]
    by_cases hi : i = k
    · simp [hi]
    · simp [hi, Sparse.get_drop]

/-- Clearing keys puts them back to the default. -/
@[simp] theorem Sparse.get_clearIf (d : Nat → α) (m : Sparse α) (f : Nat → Bool) (i : Nat) :
    Sparse.get d (Sparse.clearIf m f) i = if f i then d i else Sparse.get d m i := by
  induction m with
  | nil => simp [Sparse.clearIf, Sparse.get]
  | cons p m ih =>
    obtain ⟨j, w⟩ := p
    simp only [Sparse.clearIf] at ih
    by_cases hji : j = i
    · subst hji
      cases hf : f j <;> simp_all [Sparse.clearIf, Sparse.get]
    · cases hf : f j <;> cases hfi : f i <;> simp_all [Sparse.clearIf, Sparse.get]

/-- Clearing a range puts it back to the default. -/
@[simp] theorem Sparse.get_clear (d : Nat → α) (m : Sparse α) (lo hi i : Nat) :
    Sparse.get d (Sparse.clear m lo hi) i = if lo ≤ i ∧ i < hi then d i else Sparse.get d m i := by
  have h : Sparse.clear m lo hi = Sparse.clearIf m fun k => decide (lo ≤ k) && decide (k < hi) := by
    unfold Sparse.clear Sparse.clearIf
    congr 1
    funext p
    rw [Bool.eq_iff_iff]
    simp
  rw [h, Sparse.get_clearIf]
  simp

/-- A list written at consecutive keys is what they read as; other keys read as before. -/
theorem Sparse.get_setList [DecidableEq α] (d : Nat → α) (vs : List α) (m : Sparse α) (k i : Nat) :
    Sparse.get d (Sparse.setList d m k vs) i =
      if h : k ≤ i ∧ i - k < vs.length then vs[i - k]'h.2 else Sparse.get d m i := by
  induction vs generalizing m k with
  | nil => simp [Sparse.setList]
  | cons v vs ih =>
    rw [Sparse.setList, ih]
    by_cases h1 : i < k
    · have a1 : ¬(k + 1 ≤ i ∧ i - (k + 1) < vs.length) := by omega
      have a2 : ¬(k ≤ i ∧ i - k < (v :: vs).length) := by omega
      rw [dif_neg a1, dif_neg a2, Sparse.get_set, if_neg (by omega)]
    · by_cases h2 : i = k
      · subst h2
        have a1 : ¬(i + 1 ≤ i ∧ i - (i + 1) < vs.length) := by omega
        rw [dif_neg a1]
        simp
      · by_cases h3 : i - (k + 1) < vs.length
        · have a1 : k + 1 ≤ i ∧ i - (k + 1) < vs.length := by omega
          have a2 : k ≤ i ∧ i - k < (v :: vs).length := by simp only [List.length_cons]; omega
          rw [dif_pos a1, dif_pos a2]
          have e : i - k = (i - (k + 1)) + 1 := by omega
          simp [e]
        · have a1 : ¬(k + 1 ≤ i ∧ i - (k + 1) < vs.length) := by omega
          have a2 : ¬(k ≤ i ∧ i - k < (v :: vs).length) := by simp only [List.length_cons]; omega
          rw [dif_neg a1, dif_neg a2, Sparse.get_set, if_neg h2]

@[simp] theorem Sparse.length_getList (d : Nat → α) (m : Sparse α) (k n : Nat) :
    (Sparse.getList d m k n).length = n := by
  induction n generalizing k with
  | zero => rfl
  | succ n ih => simp [Sparse.getList, ih]

/-- What was written at consecutive keys is read back. -/
theorem Sparse.getList_setList [DecidableEq α] (d : Nat → α) (vs : List α) (m : Sparse α) (k : Nat) :
    Sparse.getList d (Sparse.setList d m k vs) k vs.length = vs := by
  have key : ∀ (n o : Nat), o + n = vs.length →
      Sparse.getList d (Sparse.setList d m k vs) (k + o) n = vs.drop o := by
    intro n
    induction n with
    | zero => intro o h; simp [Sparse.getList]; omega
    | succ n ih =>
      intro o h
      have ho : o < vs.length := by omega
      rw [Sparse.getList, Sparse.get_setList]
      have e := ih (o + 1) (by omega)
      rw [show k + o + 1 = k + (o + 1) by omega, e]
      have a : k ≤ k + o ∧ k + o - k < vs.length := by omega
      rw [dif_pos a]
      rw [List.drop_eq_getElem_cons ho]
      simp only [Nat.add_sub_cancel_left]
  simpa using key vs.length 0 (by omega)

/-! ### The canonical form -/

theorem Sparse.wfFrom_mono [DecidableEq α] (d : Nat → α) (m : Sparse α) (a b : Nat) (hab : a ≤ b)
    (h : Sparse.wfFrom d b m = true) : Sparse.wfFrom d a m = true := by
  cases m with
  | nil => rfl
  | cons p m =>
    obtain ⟨j, v⟩ := p
    simp [Sparse.wfFrom] at h ⊢
    exact ⟨⟨by omega, h.1.2⟩, h.2⟩

theorem Sparse.wfFrom_filter [DecidableEq α] (d : Nat → α) (f : Nat × α → Bool) (m : Sparse α) (b : Nat)
    (h : Sparse.wfFrom d b m = true) : Sparse.wfFrom d b (m.filter f) = true := by
  induction m generalizing b with
  | nil => rfl
  | cons p m ih =>
    obtain ⟨j, v⟩ := p
    simp [Sparse.wfFrom] at h
    rw [List.filter_cons]
    split
    · simp [Sparse.wfFrom]
      exact ⟨⟨h.1.1, h.1.2⟩, ih _ h.2⟩
    · exact Sparse.wfFrom_mono d _ b (j + 1) (by omega) (ih _ h.2)

theorem Sparse.wfFrom_insert [DecidableEq α] (d : Nat → α) (m : Sparse α) (k b : Nat) (v : α) (hb : b ≤ k)
    (hv : v ≠ d k) (hk : ∀ p ∈ m, p.1 ≠ k) (h : Sparse.wfFrom d b m = true) :
    Sparse.wfFrom d b (Sparse.insert m k v) = true := by
  induction m generalizing b with
  | nil => simp [Sparse.insert, Sparse.wfFrom, hb, hv]
  | cons p m ih =>
    obtain ⟨j, w⟩ := p
    have hj : j ≠ k := hk (j, w) (by simp)
    simp [Sparse.wfFrom] at h
    by_cases hlt : k < j
    · simp [Sparse.insert, hlt, Sparse.wfFrom, hb, hv, h]
    · simp [Sparse.insert, hlt, Sparse.wfFrom, h]
      exact ih (j + 1) (by omega) (fun q hq => hk q (by simp [hq])) h.2

/-- A write keeps the canonical form. -/
theorem Sparse.wf_set [DecidableEq α] (d : Nat → α) (m : Sparse α) (k : Nat) (v : α) (h : Sparse.wf d m = true) :
    Sparse.wf d (Sparse.set d m k v) = true := by
  unfold Sparse.wf at *
  unfold Sparse.set
  split
  · exact Sparse.wfFrom_filter d _ m 0 h
  · rename_i hv
    exact Sparse.wfFrom_insert d _ k 0 v (by omega) hv (by intro p hp; simpa using (List.mem_filter.1 hp).2)
      (Sparse.wfFrom_filter d _ m 0 h)

/-- Writing a list keeps the canonical form. -/
theorem Sparse.wf_setList [DecidableEq α] (d : Nat → α) (vs : List α) (m : Sparse α) (k : Nat)
    (h : Sparse.wf d m = true) : Sparse.wf d (Sparse.setList d m k vs) = true := by
  induction vs generalizing m k with
  | nil => exact h
  | cons v vs ih => exact ih _ _ (Sparse.wf_set d m k v h)

/-- Clearing keys keeps the canonical form. -/
theorem Sparse.wf_clearIf [DecidableEq α] (d : Nat → α) (m : Sparse α) (f : Nat → Bool) (h : Sparse.wf d m = true) :
    Sparse.wf d (Sparse.clearIf m f) = true := Sparse.wfFrom_filter d _ m 0 h

/-- Clearing a range keeps the canonical form. -/
theorem Sparse.wf_clear [DecidableEq α] (d : Nat → α) (m : Sparse α) (lo hi : Nat) (h : Sparse.wf d m = true) :
    Sparse.wf d (Sparse.clear m lo hi) = true := Sparse.wfFrom_filter d _ m 0 h

/-- Two canonical maps that read alike at every key are equal data. -/
theorem Sparse.wfFrom_key [DecidableEq α] (d : Nat → α) (m : Sparse α) (b : Nat) (h : Sparse.wfFrom d b m = true) :
    ∀ p ∈ m, b ≤ p.1 := by
  induction m generalizing b with
  | nil => simp
  | cons q m ih =>
    obtain ⟨j, v⟩ := q
    simp [Sparse.wfFrom] at h
    intro p hp
    rcases List.mem_cons.1 hp with rfl | hp
    · exact h.1.1
    · exact Nat.le_trans (by omega) (ih (j + 1) h.2 p hp)

theorem Sparse.get_below [DecidableEq α] (d : Nat → α) (m : Sparse α) (b i : Nat) (h : Sparse.wfFrom d b m = true)
    (hi : i < b) : Sparse.get d m i = d i := by
  induction m generalizing b with
  | nil => rfl
  | cons q m ih =>
    obtain ⟨j, v⟩ := q
    simp [Sparse.wfFrom] at h
    simp [Sparse.get, show j ≠ i by omega]
    exact ih (j + 1) h.2 (by omega)

/-- Two canonical maps that read alike at every key are equal data. -/
theorem Sparse.ext_wf [DecidableEq α] (d : Nat → α) (m n : Sparse α) (b : Nat) (hm : Sparse.wfFrom d b m = true)
    (hn : Sparse.wfFrom d b n = true) (h : ∀ i, Sparse.get d m i = Sparse.get d n i) : m = n := by
  induction m generalizing n b with
  | nil =>
    cases n with
    | nil => rfl
    | cons q n =>
      obtain ⟨j, v⟩ := q
      simp [Sparse.wfFrom] at hn
      have e := h j
      simp [Sparse.get] at e
      exact absurd e.symm hn.1.2
  | cons p m ih =>
    obtain ⟨j, v⟩ := p
    have hm' := hm
    simp [Sparse.wfFrom] at hm
    cases n with
    | nil =>
      have e := h j
      simp [Sparse.get] at e
      exact absurd e hm.1.2
    | cons q n =>
      obtain ⟨k, w⟩ := q
      have hn' := hn
      simp [Sparse.wfFrom] at hn
      have hjk : j = k := by
        rcases Nat.lt_trichotomy j k with hlt | heq | hgt
        · have e := h j
          have e2 := Sparse.get_below d n (k + 1) j hn.2 (by omega)
          simp [Sparse.get, show k ≠ j by omega, e2] at e
          exact absurd e hm.1.2
        · exact heq
        · have e := h k
          have e2 := Sparse.get_below d m (j + 1) k hm.2 (by omega)
          simp [Sparse.get, show j ≠ k by omega, e2] at e
          exact absurd e.symm hn.1.2
      subst hjk
      have hvw : v = w := by simpa [Sparse.get] using h j
      subst hvw
      have hrest : m = n := by
        refine ih n (j + 1) hm.2 hn.2 fun i => ?_
        by_cases hi : j = i
        · subst hi
          rw [Sparse.get_below d m (j + 1) j hm.2 (by omega), Sparse.get_below d n (j + 1) j hn.2 (by omega)]
        · simpa [Sparse.get, hi] using h i
      rw [hrest]

end Sys2Proof.Machine
end

