-- ==== Sys2Proof/Laws/State.lean ====
section
/-! SUPPORT. What each update of the state leaves unchanged, field by field, and what a read after an update gives. Each
conjunct is a simplification lemma of its own. -/

namespace Sys2Proof.Machine

variable (s : State)

/-! ### Fields that an update does not touch -/

@[simp] theorem State.setRegAt_frame (o i v : Nat) :
    (s.setRegAt o i v).pending = s.pending ∧ (s.setRegAt o i v).tabs = s.tabs ∧ (s.setRegAt o i v).mem = s.mem ∧
    (s.setRegAt o i v).staging = s.staging ∧ (s.setRegAt o i v).beacon = s.beacon ∧ (s.setRegAt o i v).flash = s.flash ∧
    (s.setRegAt o i v).device = s.device ∧ (s.setRegAt o i v).cop = s.cop ∧ (s.setRegAt o i v).fault = s.fault ∧
    (s.setRegAt o i v).time = s.time ∧ (s.setRegAt o i v).pipe = s.pipe ∧ (s.setRegAt o i v).layers = s.layers ∧
    (s.setRegAt o i v).scan = s.scan ∧ (s.setRegAt o i v).diag = s.diag ∧ (s.setRegAt o i v).rails = s.rails ∧
    (s.setRegAt o i v).link = s.link ∧ (s.setRegAt o i v).traffic = s.traffic ∧ (s.setRegAt o i v).memory = s.memory ∧
    (s.setRegAt o i v).safety = s.safety ∧ (s.setRegAt o i v).power = s.power ∧ (s.setRegAt o i v).out = s.out ∧
    (s.setRegAt o i v).ticks = s.ticks ∧ (s.setRegAt o i v).freeCtr = s.freeCtr ∧ (s.setRegAt o i v).tabByte = s.tabByte ∧
    (s.setRegAt o i v).tabNat = s.tabNat ∧ (s.setRegAt o i v).rail = s.rail ∧ (s.setRegAt o i v).band = s.band ∧
    (s.setRegAt o i v).memBytes = s.memBytes ∧ (s.setRegAt o i v).stagingBytes = s.stagingBytes ∧ (s.setRegAt o i v).beaconBytes = s.beaconBytes ∧
    (s.setRegAt o i v).flashBytes = s.flashBytes ∧ (s.setRegAt o i v).island = s.island ∧ (s.setRegAt o i v).alive = s.alive := by
  repeat' constructor

@[simp] theorem State.setReg_frame (o v : Nat) :
    (s.setReg o v).pending = s.pending ∧ (s.setReg o v).tabs = s.tabs ∧ (s.setReg o v).mem = s.mem ∧
    (s.setReg o v).staging = s.staging ∧ (s.setReg o v).beacon = s.beacon ∧ (s.setReg o v).flash = s.flash ∧
    (s.setReg o v).device = s.device ∧ (s.setReg o v).cop = s.cop ∧ (s.setReg o v).fault = s.fault ∧
    (s.setReg o v).time = s.time ∧ (s.setReg o v).pipe = s.pipe ∧ (s.setReg o v).layers = s.layers ∧
    (s.setReg o v).scan = s.scan ∧ (s.setReg o v).diag = s.diag ∧ (s.setReg o v).rails = s.rails ∧
    (s.setReg o v).link = s.link ∧ (s.setReg o v).traffic = s.traffic ∧ (s.setReg o v).memory = s.memory ∧
    (s.setReg o v).safety = s.safety ∧ (s.setReg o v).power = s.power ∧ (s.setReg o v).out = s.out ∧
    (s.setReg o v).ticks = s.ticks ∧ (s.setReg o v).freeCtr = s.freeCtr ∧ (s.setReg o v).tabByte = s.tabByte ∧
    (s.setReg o v).tabNat = s.tabNat ∧ (s.setReg o v).rail = s.rail ∧ (s.setReg o v).band = s.band ∧
    (s.setReg o v).memBytes = s.memBytes ∧ (s.setReg o v).stagingBytes = s.stagingBytes ∧ (s.setReg o v).beaconBytes = s.beaconBytes ∧
    (s.setReg o v).flashBytes = s.flashBytes ∧ (s.setReg o v).island = s.island ∧ (s.setReg o v).alive = s.alive := by
  repeat' constructor

@[simp] theorem State.bumpAt_frame (o i n : Nat) :
    (s.bumpAt o i n).pending = s.pending ∧ (s.bumpAt o i n).tabs = s.tabs ∧ (s.bumpAt o i n).mem = s.mem ∧
    (s.bumpAt o i n).staging = s.staging ∧ (s.bumpAt o i n).beacon = s.beacon ∧ (s.bumpAt o i n).flash = s.flash ∧
    (s.bumpAt o i n).device = s.device ∧ (s.bumpAt o i n).cop = s.cop ∧ (s.bumpAt o i n).fault = s.fault ∧
    (s.bumpAt o i n).time = s.time ∧ (s.bumpAt o i n).pipe = s.pipe ∧ (s.bumpAt o i n).layers = s.layers ∧
    (s.bumpAt o i n).scan = s.scan ∧ (s.bumpAt o i n).diag = s.diag ∧ (s.bumpAt o i n).rails = s.rails ∧
    (s.bumpAt o i n).link = s.link ∧ (s.bumpAt o i n).traffic = s.traffic ∧ (s.bumpAt o i n).memory = s.memory ∧
    (s.bumpAt o i n).safety = s.safety ∧ (s.bumpAt o i n).power = s.power ∧ (s.bumpAt o i n).out = s.out ∧
    (s.bumpAt o i n).ticks = s.ticks ∧ (s.bumpAt o i n).freeCtr = s.freeCtr ∧ (s.bumpAt o i n).tabByte = s.tabByte ∧
    (s.bumpAt o i n).tabNat = s.tabNat ∧ (s.bumpAt o i n).rail = s.rail ∧ (s.bumpAt o i n).band = s.band ∧
    (s.bumpAt o i n).memBytes = s.memBytes ∧ (s.bumpAt o i n).stagingBytes = s.stagingBytes ∧ (s.bumpAt o i n).beaconBytes = s.beaconBytes ∧
    (s.bumpAt o i n).flashBytes = s.flashBytes ∧ (s.bumpAt o i n).island = s.island ∧ (s.bumpAt o i n).alive = s.alive := by
  repeat' constructor

@[simp] theorem State.bump_frame (o : Nat) :
    (s.bump o).pending = s.pending ∧ (s.bump o).tabs = s.tabs ∧ (s.bump o).mem = s.mem ∧
    (s.bump o).staging = s.staging ∧ (s.bump o).beacon = s.beacon ∧ (s.bump o).flash = s.flash ∧
    (s.bump o).device = s.device ∧ (s.bump o).cop = s.cop ∧ (s.bump o).fault = s.fault ∧
    (s.bump o).time = s.time ∧ (s.bump o).pipe = s.pipe ∧ (s.bump o).layers = s.layers ∧
    (s.bump o).scan = s.scan ∧ (s.bump o).diag = s.diag ∧ (s.bump o).rails = s.rails ∧
    (s.bump o).link = s.link ∧ (s.bump o).traffic = s.traffic ∧ (s.bump o).memory = s.memory ∧
    (s.bump o).safety = s.safety ∧ (s.bump o).power = s.power ∧ (s.bump o).out = s.out ∧
    (s.bump o).ticks = s.ticks ∧ (s.bump o).freeCtr = s.freeCtr ∧ (s.bump o).tabByte = s.tabByte ∧
    (s.bump o).tabNat = s.tabNat ∧ (s.bump o).rail = s.rail ∧ (s.bump o).band = s.band ∧
    (s.bump o).memBytes = s.memBytes ∧ (s.bump o).stagingBytes = s.stagingBytes ∧ (s.bump o).beaconBytes = s.beaconBytes ∧
    (s.bump o).flashBytes = s.flashBytes ∧ (s.bump o).island = s.island ∧ (s.bump o).alive = s.alive := by
  repeat' constructor

@[simp] theorem State.bumpSatAt_frame (o i : Nat) :
    (s.bumpSatAt o i).pending = s.pending ∧ (s.bumpSatAt o i).tabs = s.tabs ∧ (s.bumpSatAt o i).mem = s.mem ∧
    (s.bumpSatAt o i).staging = s.staging ∧ (s.bumpSatAt o i).beacon = s.beacon ∧ (s.bumpSatAt o i).flash = s.flash ∧
    (s.bumpSatAt o i).device = s.device ∧ (s.bumpSatAt o i).cop = s.cop ∧ (s.bumpSatAt o i).fault = s.fault ∧
    (s.bumpSatAt o i).time = s.time ∧ (s.bumpSatAt o i).pipe = s.pipe ∧ (s.bumpSatAt o i).layers = s.layers ∧
    (s.bumpSatAt o i).scan = s.scan ∧ (s.bumpSatAt o i).diag = s.diag ∧ (s.bumpSatAt o i).rails = s.rails ∧
    (s.bumpSatAt o i).link = s.link ∧ (s.bumpSatAt o i).traffic = s.traffic ∧ (s.bumpSatAt o i).memory = s.memory ∧
    (s.bumpSatAt o i).safety = s.safety ∧ (s.bumpSatAt o i).power = s.power ∧ (s.bumpSatAt o i).out = s.out ∧
    (s.bumpSatAt o i).ticks = s.ticks ∧ (s.bumpSatAt o i).freeCtr = s.freeCtr ∧ (s.bumpSatAt o i).tabByte = s.tabByte ∧
    (s.bumpSatAt o i).tabNat = s.tabNat ∧ (s.bumpSatAt o i).rail = s.rail ∧ (s.bumpSatAt o i).band = s.band ∧
    (s.bumpSatAt o i).memBytes = s.memBytes ∧ (s.bumpSatAt o i).stagingBytes = s.stagingBytes ∧ (s.bumpSatAt o i).beaconBytes = s.beaconBytes ∧
    (s.bumpSatAt o i).flashBytes = s.flashBytes ∧ (s.bumpSatAt o i).island = s.island ∧ (s.bumpSatAt o i).alive = s.alive := by
  repeat' constructor

@[simp] theorem State.bumpSat_frame (o : Nat) :
    (s.bumpSat o).pending = s.pending ∧ (s.bumpSat o).tabs = s.tabs ∧ (s.bumpSat o).mem = s.mem ∧
    (s.bumpSat o).staging = s.staging ∧ (s.bumpSat o).beacon = s.beacon ∧ (s.bumpSat o).flash = s.flash ∧
    (s.bumpSat o).device = s.device ∧ (s.bumpSat o).cop = s.cop ∧ (s.bumpSat o).fault = s.fault ∧
    (s.bumpSat o).time = s.time ∧ (s.bumpSat o).pipe = s.pipe ∧ (s.bumpSat o).layers = s.layers ∧
    (s.bumpSat o).scan = s.scan ∧ (s.bumpSat o).diag = s.diag ∧ (s.bumpSat o).rails = s.rails ∧
    (s.bumpSat o).link = s.link ∧ (s.bumpSat o).traffic = s.traffic ∧ (s.bumpSat o).memory = s.memory ∧
    (s.bumpSat o).safety = s.safety ∧ (s.bumpSat o).power = s.power ∧ (s.bumpSat o).out = s.out ∧
    (s.bumpSat o).ticks = s.ticks ∧ (s.bumpSat o).freeCtr = s.freeCtr ∧ (s.bumpSat o).tabByte = s.tabByte ∧
    (s.bumpSat o).tabNat = s.tabNat ∧ (s.bumpSat o).rail = s.rail ∧ (s.bumpSat o).band = s.band ∧
    (s.bumpSat o).memBytes = s.memBytes ∧ (s.bumpSat o).stagingBytes = s.stagingBytes ∧ (s.bumpSat o).beaconBytes = s.beaconBytes ∧
    (s.bumpSat o).flashBytes = s.flashBytes ∧ (s.bumpSat o).island = s.island ∧ (s.bumpSat o).alive = s.alive := by
  repeat' constructor

@[simp] theorem State.setFlag_frame (o : Nat) (b : Bool) :
    (s.setFlag o b).pending = s.pending ∧ (s.setFlag o b).tabs = s.tabs ∧ (s.setFlag o b).mem = s.mem ∧
    (s.setFlag o b).staging = s.staging ∧ (s.setFlag o b).beacon = s.beacon ∧ (s.setFlag o b).flash = s.flash ∧
    (s.setFlag o b).device = s.device ∧ (s.setFlag o b).cop = s.cop ∧ (s.setFlag o b).fault = s.fault ∧
    (s.setFlag o b).time = s.time ∧ (s.setFlag o b).pipe = s.pipe ∧ (s.setFlag o b).layers = s.layers ∧
    (s.setFlag o b).scan = s.scan ∧ (s.setFlag o b).diag = s.diag ∧ (s.setFlag o b).rails = s.rails ∧
    (s.setFlag o b).link = s.link ∧ (s.setFlag o b).traffic = s.traffic ∧ (s.setFlag o b).memory = s.memory ∧
    (s.setFlag o b).safety = s.safety ∧ (s.setFlag o b).power = s.power ∧ (s.setFlag o b).out = s.out ∧
    (s.setFlag o b).ticks = s.ticks ∧ (s.setFlag o b).freeCtr = s.freeCtr ∧ (s.setFlag o b).tabByte = s.tabByte ∧
    (s.setFlag o b).tabNat = s.tabNat ∧ (s.setFlag o b).rail = s.rail ∧ (s.setFlag o b).band = s.band ∧
    (s.setFlag o b).memBytes = s.memBytes ∧ (s.setFlag o b).stagingBytes = s.stagingBytes ∧ (s.setFlag o b).beaconBytes = s.beaconBytes ∧
    (s.setFlag o b).flashBytes = s.flashBytes ∧ (s.setFlag o b).island = s.island ∧ (s.setFlag o b).alive = s.alive := by
  repeat' constructor

@[simp] theorem State.clearRegs_frame (l : List Nat) :
    (s.clearRegs l).pending = s.pending ∧ (s.clearRegs l).tabs = s.tabs ∧ (s.clearRegs l).mem = s.mem ∧
    (s.clearRegs l).staging = s.staging ∧ (s.clearRegs l).beacon = s.beacon ∧ (s.clearRegs l).flash = s.flash ∧
    (s.clearRegs l).device = s.device ∧ (s.clearRegs l).cop = s.cop ∧ (s.clearRegs l).fault = s.fault ∧
    (s.clearRegs l).time = s.time ∧ (s.clearRegs l).pipe = s.pipe ∧ (s.clearRegs l).layers = s.layers ∧
    (s.clearRegs l).scan = s.scan ∧ (s.clearRegs l).diag = s.diag ∧ (s.clearRegs l).rails = s.rails ∧
    (s.clearRegs l).link = s.link ∧ (s.clearRegs l).traffic = s.traffic ∧ (s.clearRegs l).memory = s.memory ∧
    (s.clearRegs l).safety = s.safety ∧ (s.clearRegs l).power = s.power ∧ (s.clearRegs l).out = s.out ∧
    (s.clearRegs l).ticks = s.ticks ∧ (s.clearRegs l).freeCtr = s.freeCtr ∧ (s.clearRegs l).tabByte = s.tabByte ∧
    (s.clearRegs l).tabNat = s.tabNat ∧ (s.clearRegs l).rail = s.rail ∧ (s.clearRegs l).band = s.band ∧
    (s.clearRegs l).memBytes = s.memBytes ∧ (s.clearRegs l).stagingBytes = s.stagingBytes ∧ (s.clearRegs l).beaconBytes = s.beaconBytes ∧
    (s.clearRegs l).flashBytes = s.flashBytes ∧ (s.clearRegs l).island = s.island ∧ (s.clearRegs l).alive = s.alive := by
  repeat' constructor

@[simp] theorem State.setTab_frame (o k : Nat) (bs : Bytes) :
    (s.setTab o k bs).pending = s.pending ∧ (s.setTab o k bs).regs = s.regs ∧ (s.setTab o k bs).mem = s.mem ∧
    (s.setTab o k bs).staging = s.staging ∧ (s.setTab o k bs).beacon = s.beacon ∧ (s.setTab o k bs).flash = s.flash ∧
    (s.setTab o k bs).device = s.device ∧ (s.setTab o k bs).cop = s.cop ∧ (s.setTab o k bs).fault = s.fault ∧
    (s.setTab o k bs).time = s.time ∧ (s.setTab o k bs).pipe = s.pipe ∧ (s.setTab o k bs).layers = s.layers ∧
    (s.setTab o k bs).scan = s.scan ∧ (s.setTab o k bs).diag = s.diag ∧ (s.setTab o k bs).rails = s.rails ∧
    (s.setTab o k bs).link = s.link ∧ (s.setTab o k bs).traffic = s.traffic ∧ (s.setTab o k bs).memory = s.memory ∧
    (s.setTab o k bs).safety = s.safety ∧ (s.setTab o k bs).power = s.power ∧ (s.setTab o k bs).out = s.out ∧
    (s.setTab o k bs).ticks = s.ticks ∧ (s.setTab o k bs).freeCtr = s.freeCtr ∧ (s.setTab o k bs).reg = s.reg ∧
    (s.setTab o k bs).regAt = s.regAt ∧ (s.setTab o k bs).flag = s.flag ∧ (s.setTab o k bs).rail = s.rail ∧
    (s.setTab o k bs).band = s.band ∧ (s.setTab o k bs).memBytes = s.memBytes ∧ (s.setTab o k bs).stagingBytes = s.stagingBytes ∧
    (s.setTab o k bs).beaconBytes = s.beaconBytes ∧ (s.setTab o k bs).flashBytes = s.flashBytes ∧ (s.setTab o k bs).island = s.island ∧
    (s.setTab o k bs).alive = s.alive := by
  repeat' constructor

@[simp] theorem State.clearTab_frame (o : Nat) :
    (s.clearTab o).pending = s.pending ∧ (s.clearTab o).regs = s.regs ∧ (s.clearTab o).mem = s.mem ∧
    (s.clearTab o).staging = s.staging ∧ (s.clearTab o).beacon = s.beacon ∧ (s.clearTab o).flash = s.flash ∧
    (s.clearTab o).device = s.device ∧ (s.clearTab o).cop = s.cop ∧ (s.clearTab o).fault = s.fault ∧
    (s.clearTab o).time = s.time ∧ (s.clearTab o).pipe = s.pipe ∧ (s.clearTab o).layers = s.layers ∧
    (s.clearTab o).scan = s.scan ∧ (s.clearTab o).diag = s.diag ∧ (s.clearTab o).rails = s.rails ∧
    (s.clearTab o).link = s.link ∧ (s.clearTab o).traffic = s.traffic ∧ (s.clearTab o).memory = s.memory ∧
    (s.clearTab o).safety = s.safety ∧ (s.clearTab o).power = s.power ∧ (s.clearTab o).out = s.out ∧
    (s.clearTab o).ticks = s.ticks ∧ (s.clearTab o).freeCtr = s.freeCtr ∧ (s.clearTab o).reg = s.reg ∧
    (s.clearTab o).regAt = s.regAt ∧ (s.clearTab o).flag = s.flag ∧ (s.clearTab o).rail = s.rail ∧
    (s.clearTab o).band = s.band ∧ (s.clearTab o).memBytes = s.memBytes ∧ (s.clearTab o).stagingBytes = s.stagingBytes ∧
    (s.clearTab o).beaconBytes = s.beaconBytes ∧ (s.clearTab o).flashBytes = s.flashBytes ∧ (s.clearTab o).island = s.island ∧
    (s.clearTab o).alive = s.alive := by
  repeat' constructor

@[simp] theorem State.bumpTab_frame (o k n b : Nat) :
    (s.bumpTab o k n b).pending = s.pending ∧ (s.bumpTab o k n b).regs = s.regs ∧ (s.bumpTab o k n b).mem = s.mem ∧
    (s.bumpTab o k n b).staging = s.staging ∧ (s.bumpTab o k n b).beacon = s.beacon ∧ (s.bumpTab o k n b).flash = s.flash ∧
    (s.bumpTab o k n b).device = s.device ∧ (s.bumpTab o k n b).cop = s.cop ∧ (s.bumpTab o k n b).fault = s.fault ∧
    (s.bumpTab o k n b).time = s.time ∧ (s.bumpTab o k n b).pipe = s.pipe ∧ (s.bumpTab o k n b).layers = s.layers ∧
    (s.bumpTab o k n b).scan = s.scan ∧ (s.bumpTab o k n b).diag = s.diag ∧ (s.bumpTab o k n b).rails = s.rails ∧
    (s.bumpTab o k n b).link = s.link ∧ (s.bumpTab o k n b).traffic = s.traffic ∧ (s.bumpTab o k n b).memory = s.memory ∧
    (s.bumpTab o k n b).safety = s.safety ∧ (s.bumpTab o k n b).power = s.power ∧ (s.bumpTab o k n b).out = s.out ∧
    (s.bumpTab o k n b).ticks = s.ticks ∧ (s.bumpTab o k n b).freeCtr = s.freeCtr ∧ (s.bumpTab o k n b).reg = s.reg ∧
    (s.bumpTab o k n b).regAt = s.regAt ∧ (s.bumpTab o k n b).flag = s.flag ∧ (s.bumpTab o k n b).rail = s.rail ∧
    (s.bumpTab o k n b).band = s.band ∧ (s.bumpTab o k n b).memBytes = s.memBytes ∧ (s.bumpTab o k n b).stagingBytes = s.stagingBytes ∧
    (s.bumpTab o k n b).beaconBytes = s.beaconBytes ∧ (s.bumpTab o k n b).flashBytes = s.flashBytes ∧ (s.bumpTab o k n b).island = s.island ∧
    (s.bumpTab o k n b).alive = s.alive := by
  repeat' constructor

@[simp] theorem State.setMem_frame (a : Nat) (bs : Bytes) :
    (s.setMem a bs).pending = s.pending ∧ (s.setMem a bs).regs = s.regs ∧ (s.setMem a bs).tabs = s.tabs ∧
    (s.setMem a bs).staging = s.staging ∧ (s.setMem a bs).beacon = s.beacon ∧ (s.setMem a bs).flash = s.flash ∧
    (s.setMem a bs).device = s.device ∧ (s.setMem a bs).cop = s.cop ∧ (s.setMem a bs).fault = s.fault ∧
    (s.setMem a bs).time = s.time ∧ (s.setMem a bs).pipe = s.pipe ∧ (s.setMem a bs).layers = s.layers ∧
    (s.setMem a bs).scan = s.scan ∧ (s.setMem a bs).diag = s.diag ∧ (s.setMem a bs).rails = s.rails ∧
    (s.setMem a bs).link = s.link ∧ (s.setMem a bs).traffic = s.traffic ∧ (s.setMem a bs).memory = s.memory ∧
    (s.setMem a bs).safety = s.safety ∧ (s.setMem a bs).power = s.power ∧ (s.setMem a bs).out = s.out ∧
    (s.setMem a bs).ticks = s.ticks ∧ (s.setMem a bs).freeCtr = s.freeCtr ∧ (s.setMem a bs).reg = s.reg ∧
    (s.setMem a bs).regAt = s.regAt ∧ (s.setMem a bs).flag = s.flag ∧ (s.setMem a bs).tabByte = s.tabByte ∧
    (s.setMem a bs).tabNat = s.tabNat ∧ (s.setMem a bs).rail = s.rail ∧ (s.setMem a bs).band = s.band ∧
    (s.setMem a bs).stagingBytes = s.stagingBytes ∧ (s.setMem a bs).beaconBytes = s.beaconBytes ∧ (s.setMem a bs).flashBytes = s.flashBytes ∧
    (s.setMem a bs).island = s.island ∧ (s.setMem a bs).alive = s.alive := by
  repeat' constructor

@[simp] theorem State.setStaging_frame (a : Nat) (bs : Bytes) :
    (s.setStaging a bs).pending = s.pending ∧ (s.setStaging a bs).regs = s.regs ∧ (s.setStaging a bs).tabs = s.tabs ∧
    (s.setStaging a bs).mem = s.mem ∧ (s.setStaging a bs).beacon = s.beacon ∧ (s.setStaging a bs).flash = s.flash ∧
    (s.setStaging a bs).device = s.device ∧ (s.setStaging a bs).cop = s.cop ∧ (s.setStaging a bs).fault = s.fault ∧
    (s.setStaging a bs).time = s.time ∧ (s.setStaging a bs).pipe = s.pipe ∧ (s.setStaging a bs).layers = s.layers ∧
    (s.setStaging a bs).scan = s.scan ∧ (s.setStaging a bs).diag = s.diag ∧ (s.setStaging a bs).rails = s.rails ∧
    (s.setStaging a bs).link = s.link ∧ (s.setStaging a bs).traffic = s.traffic ∧ (s.setStaging a bs).memory = s.memory ∧
    (s.setStaging a bs).safety = s.safety ∧ (s.setStaging a bs).power = s.power ∧ (s.setStaging a bs).out = s.out ∧
    (s.setStaging a bs).ticks = s.ticks ∧ (s.setStaging a bs).freeCtr = s.freeCtr ∧ (s.setStaging a bs).reg = s.reg ∧
    (s.setStaging a bs).regAt = s.regAt ∧ (s.setStaging a bs).flag = s.flag ∧ (s.setStaging a bs).tabByte = s.tabByte ∧
    (s.setStaging a bs).tabNat = s.tabNat ∧ (s.setStaging a bs).rail = s.rail ∧ (s.setStaging a bs).band = s.band ∧
    (s.setStaging a bs).memBytes = s.memBytes ∧ (s.setStaging a bs).beaconBytes = s.beaconBytes ∧ (s.setStaging a bs).flashBytes = s.flashBytes ∧
    (s.setStaging a bs).island = s.island ∧ (s.setStaging a bs).alive = s.alive := by
  repeat' constructor

@[simp] theorem State.setBeacon_frame (a : Nat) (bs : Bytes) :
    (s.setBeacon a bs).pending = s.pending ∧ (s.setBeacon a bs).regs = s.regs ∧ (s.setBeacon a bs).tabs = s.tabs ∧
    (s.setBeacon a bs).mem = s.mem ∧ (s.setBeacon a bs).staging = s.staging ∧ (s.setBeacon a bs).flash = s.flash ∧
    (s.setBeacon a bs).device = s.device ∧ (s.setBeacon a bs).cop = s.cop ∧ (s.setBeacon a bs).fault = s.fault ∧
    (s.setBeacon a bs).time = s.time ∧ (s.setBeacon a bs).pipe = s.pipe ∧ (s.setBeacon a bs).layers = s.layers ∧
    (s.setBeacon a bs).scan = s.scan ∧ (s.setBeacon a bs).diag = s.diag ∧ (s.setBeacon a bs).rails = s.rails ∧
    (s.setBeacon a bs).link = s.link ∧ (s.setBeacon a bs).traffic = s.traffic ∧ (s.setBeacon a bs).memory = s.memory ∧
    (s.setBeacon a bs).safety = s.safety ∧ (s.setBeacon a bs).power = s.power ∧ (s.setBeacon a bs).out = s.out ∧
    (s.setBeacon a bs).ticks = s.ticks ∧ (s.setBeacon a bs).freeCtr = s.freeCtr ∧ (s.setBeacon a bs).reg = s.reg ∧
    (s.setBeacon a bs).regAt = s.regAt ∧ (s.setBeacon a bs).flag = s.flag ∧ (s.setBeacon a bs).tabByte = s.tabByte ∧
    (s.setBeacon a bs).tabNat = s.tabNat ∧ (s.setBeacon a bs).rail = s.rail ∧ (s.setBeacon a bs).band = s.band ∧
    (s.setBeacon a bs).memBytes = s.memBytes ∧ (s.setBeacon a bs).stagingBytes = s.stagingBytes ∧ (s.setBeacon a bs).flashBytes = s.flashBytes ∧
    (s.setBeacon a bs).island = s.island ∧ (s.setBeacon a bs).alive = s.alive := by
  repeat' constructor

@[simp] theorem State.setFlash_frame (a : Nat) (bs : Bytes) :
    (s.setFlash a bs).pending = s.pending ∧ (s.setFlash a bs).regs = s.regs ∧ (s.setFlash a bs).tabs = s.tabs ∧
    (s.setFlash a bs).mem = s.mem ∧ (s.setFlash a bs).staging = s.staging ∧ (s.setFlash a bs).beacon = s.beacon ∧
    (s.setFlash a bs).device = s.device ∧ (s.setFlash a bs).cop = s.cop ∧ (s.setFlash a bs).fault = s.fault ∧
    (s.setFlash a bs).time = s.time ∧ (s.setFlash a bs).pipe = s.pipe ∧ (s.setFlash a bs).layers = s.layers ∧
    (s.setFlash a bs).scan = s.scan ∧ (s.setFlash a bs).diag = s.diag ∧ (s.setFlash a bs).rails = s.rails ∧
    (s.setFlash a bs).link = s.link ∧ (s.setFlash a bs).traffic = s.traffic ∧ (s.setFlash a bs).memory = s.memory ∧
    (s.setFlash a bs).safety = s.safety ∧ (s.setFlash a bs).power = s.power ∧ (s.setFlash a bs).out = s.out ∧
    (s.setFlash a bs).ticks = s.ticks ∧ (s.setFlash a bs).freeCtr = s.freeCtr ∧ (s.setFlash a bs).reg = s.reg ∧
    (s.setFlash a bs).regAt = s.regAt ∧ (s.setFlash a bs).flag = s.flag ∧ (s.setFlash a bs).tabByte = s.tabByte ∧
    (s.setFlash a bs).tabNat = s.tabNat ∧ (s.setFlash a bs).rail = s.rail ∧ (s.setFlash a bs).band = s.band ∧
    (s.setFlash a bs).memBytes = s.memBytes ∧ (s.setFlash a bs).stagingBytes = s.stagingBytes ∧ (s.setFlash a bs).beaconBytes = s.beaconBytes ∧
    (s.setFlash a bs).island = s.island ∧ (s.setFlash a bs).alive = s.alive := by
  repeat' constructor

@[simp] theorem State.eraseFlash_frame (a n : Nat) :
    (s.eraseFlash a n).pending = s.pending ∧ (s.eraseFlash a n).regs = s.regs ∧ (s.eraseFlash a n).tabs = s.tabs ∧
    (s.eraseFlash a n).mem = s.mem ∧ (s.eraseFlash a n).staging = s.staging ∧ (s.eraseFlash a n).beacon = s.beacon ∧
    (s.eraseFlash a n).device = s.device ∧ (s.eraseFlash a n).cop = s.cop ∧ (s.eraseFlash a n).fault = s.fault ∧
    (s.eraseFlash a n).time = s.time ∧ (s.eraseFlash a n).pipe = s.pipe ∧ (s.eraseFlash a n).layers = s.layers ∧
    (s.eraseFlash a n).scan = s.scan ∧ (s.eraseFlash a n).diag = s.diag ∧ (s.eraseFlash a n).rails = s.rails ∧
    (s.eraseFlash a n).link = s.link ∧ (s.eraseFlash a n).traffic = s.traffic ∧ (s.eraseFlash a n).memory = s.memory ∧
    (s.eraseFlash a n).safety = s.safety ∧ (s.eraseFlash a n).power = s.power ∧ (s.eraseFlash a n).out = s.out ∧
    (s.eraseFlash a n).ticks = s.ticks ∧ (s.eraseFlash a n).freeCtr = s.freeCtr ∧ (s.eraseFlash a n).reg = s.reg ∧
    (s.eraseFlash a n).regAt = s.regAt ∧ (s.eraseFlash a n).flag = s.flag ∧ (s.eraseFlash a n).tabByte = s.tabByte ∧
    (s.eraseFlash a n).tabNat = s.tabNat ∧ (s.eraseFlash a n).rail = s.rail ∧ (s.eraseFlash a n).band = s.band ∧
    (s.eraseFlash a n).memBytes = s.memBytes ∧ (s.eraseFlash a n).stagingBytes = s.stagingBytes ∧ (s.eraseFlash a n).beaconBytes = s.beaconBytes ∧
    (s.eraseFlash a n).island = s.island ∧ (s.eraseFlash a n).alive = s.alive := by
  repeat' constructor

@[simp] theorem State.drawn_frame :
    (s.drawn).pending = s.pending ∧ (s.drawn).regs = s.regs ∧ (s.drawn).tabs = s.tabs ∧
    (s.drawn).mem = s.mem ∧ (s.drawn).staging = s.staging ∧ (s.drawn).beacon = s.beacon ∧
    (s.drawn).flash = s.flash ∧ (s.drawn).device = s.device ∧ (s.drawn).cop = s.cop ∧
    (s.drawn).fault = s.fault ∧ (s.drawn).time = s.time ∧ (s.drawn).pipe = s.pipe ∧
    (s.drawn).layers = s.layers ∧ (s.drawn).scan = s.scan ∧ (s.drawn).diag = s.diag ∧
    (s.drawn).rails = s.rails ∧ (s.drawn).link = s.link ∧ (s.drawn).traffic = s.traffic ∧
    (s.drawn).memory = s.memory ∧ (s.drawn).safety = s.safety ∧ (s.drawn).power = s.power ∧
    (s.drawn).out = s.out ∧ (s.drawn).ticks = s.ticks ∧ (s.drawn).reg = s.reg ∧
    (s.drawn).regAt = s.regAt ∧ (s.drawn).flag = s.flag ∧ (s.drawn).tabByte = s.tabByte ∧
    (s.drawn).tabNat = s.tabNat ∧ (s.drawn).rail = s.rail ∧ (s.drawn).band = s.band ∧
    (s.drawn).memBytes = s.memBytes ∧ (s.drawn).stagingBytes = s.stagingBytes ∧ (s.drawn).beaconBytes = s.beaconBytes ∧
    (s.drawn).flashBytes = s.flashBytes ∧ (s.drawn).island = s.island ∧ (s.drawn).alive = s.alive := by
  repeat' constructor

@[simp] theorem State.emit_frame (x : Output) :
    (s.emit x).pending = s.pending ∧ (s.emit x).regs = s.regs ∧ (s.emit x).tabs = s.tabs ∧
    (s.emit x).mem = s.mem ∧ (s.emit x).staging = s.staging ∧ (s.emit x).beacon = s.beacon ∧
    (s.emit x).flash = s.flash ∧ (s.emit x).device = s.device ∧ (s.emit x).cop = s.cop ∧
    (s.emit x).fault = s.fault ∧ (s.emit x).time = s.time ∧ (s.emit x).pipe = s.pipe ∧
    (s.emit x).layers = s.layers ∧ (s.emit x).scan = s.scan ∧ (s.emit x).diag = s.diag ∧
    (s.emit x).rails = s.rails ∧ (s.emit x).link = s.link ∧ (s.emit x).traffic = s.traffic ∧
    (s.emit x).memory = s.memory ∧ (s.emit x).safety = s.safety ∧ (s.emit x).power = s.power ∧
    (s.emit x).ticks = s.ticks ∧ (s.emit x).freeCtr = s.freeCtr ∧ (s.emit x).reg = s.reg ∧
    (s.emit x).regAt = s.regAt ∧ (s.emit x).flag = s.flag ∧ (s.emit x).tabByte = s.tabByte ∧
    (s.emit x).tabNat = s.tabNat ∧ (s.emit x).rail = s.rail ∧ (s.emit x).band = s.band ∧
    (s.emit x).memBytes = s.memBytes ∧ (s.emit x).stagingBytes = s.stagingBytes ∧ (s.emit x).beaconBytes = s.beaconBytes ∧
    (s.emit x).flashBytes = s.flashBytes ∧ (s.emit x).island = s.island ∧ (s.emit x).alive = s.alive := by
  repeat' constructor

@[simp] theorem State.setIsland_frame (i : Nat) (m : IslandMode) :
    (s.setIsland i m).pending = s.pending ∧ (s.setIsland i m).regs = s.regs ∧ (s.setIsland i m).tabs = s.tabs ∧
    (s.setIsland i m).mem = s.mem ∧ (s.setIsland i m).staging = s.staging ∧ (s.setIsland i m).beacon = s.beacon ∧
    (s.setIsland i m).flash = s.flash ∧ (s.setIsland i m).cop = s.cop ∧ (s.setIsland i m).fault = s.fault ∧
    (s.setIsland i m).time = s.time ∧ (s.setIsland i m).pipe = s.pipe ∧ (s.setIsland i m).layers = s.layers ∧
    (s.setIsland i m).scan = s.scan ∧ (s.setIsland i m).diag = s.diag ∧ (s.setIsland i m).rails = s.rails ∧
    (s.setIsland i m).link = s.link ∧ (s.setIsland i m).traffic = s.traffic ∧ (s.setIsland i m).memory = s.memory ∧
    (s.setIsland i m).safety = s.safety ∧ (s.setIsland i m).power = s.power ∧ (s.setIsland i m).out = s.out ∧
    (s.setIsland i m).ticks = s.ticks ∧ (s.setIsland i m).freeCtr = s.freeCtr ∧ (s.setIsland i m).device.phase = s.device.phase ∧
    (s.setIsland i m).device.frozen = s.device.frozen ∧ (s.setIsland i m).device.extest = s.device.extest ∧ (s.setIsland i m).device.tap = s.device.tap ∧
    (s.setIsland i m).device.holds = s.device.holds ∧ (s.setIsland i m).device.gating = s.device.gating ∧ (s.setIsland i m).device.crossings = s.device.crossings ∧
    (s.setIsland i m).device.corePwrEn = s.device.corePwrEn ∧ (s.setIsland i m).device.internalOsc = s.device.internalOsc ∧ (s.setIsland i m).device.resetCause = s.device.resetCause ∧
    (s.setIsland i m).device.longHold = s.device.longHold ∧ (s.setIsland i m).device.t1sOff = s.device.t1sOff ∧ (s.setIsland i m).reg = s.reg ∧
    (s.setIsland i m).regAt = s.regAt ∧ (s.setIsland i m).flag = s.flag ∧ (s.setIsland i m).tabByte = s.tabByte ∧
    (s.setIsland i m).tabNat = s.tabNat ∧ (s.setIsland i m).rail = s.rail ∧ (s.setIsland i m).band = s.band ∧
    (s.setIsland i m).memBytes = s.memBytes ∧ (s.setIsland i m).stagingBytes = s.stagingBytes ∧ (s.setIsland i m).beaconBytes = s.beaconBytes ∧
    (s.setIsland i m).flashBytes = s.flashBytes := by
  repeat' constructor

@[simp] theorem State.setDom_frame (d : Dom) (x : DomState) :
    (s.setDom d x).pending = s.pending ∧ (s.setDom d x).regs = s.regs ∧ (s.setDom d x).tabs = s.tabs ∧
    (s.setDom d x).mem = s.mem ∧ (s.setDom d x).staging = s.staging ∧ (s.setDom d x).beacon = s.beacon ∧
    (s.setDom d x).flash = s.flash ∧ (s.setDom d x).device = s.device ∧ (s.setDom d x).cop = s.cop ∧
    (s.setDom d x).fault = s.fault ∧ (s.setDom d x).pipe = s.pipe ∧ (s.setDom d x).layers = s.layers ∧
    (s.setDom d x).scan = s.scan ∧ (s.setDom d x).diag = s.diag ∧ (s.setDom d x).rails = s.rails ∧
    (s.setDom d x).link = s.link ∧ (s.setDom d x).traffic = s.traffic ∧ (s.setDom d x).memory = s.memory ∧
    (s.setDom d x).safety = s.safety ∧ (s.setDom d x).power = s.power ∧ (s.setDom d x).out = s.out ∧
    (s.setDom d x).ticks = s.ticks ∧ (s.setDom d x).freeCtr = s.freeCtr ∧ (s.setDom d x).reg = s.reg ∧
    (s.setDom d x).regAt = s.regAt ∧ (s.setDom d x).flag = s.flag ∧ (s.setDom d x).tabByte = s.tabByte ∧
    (s.setDom d x).tabNat = s.tabNat ∧ (s.setDom d x).rail = s.rail ∧ (s.setDom d x).band = s.band ∧
    (s.setDom d x).memBytes = s.memBytes ∧ (s.setDom d x).stagingBytes = s.stagingBytes ∧ (s.setDom d x).beaconBytes = s.beaconBytes ∧
    (s.setDom d x).flashBytes = s.flashBytes ∧ (s.setDom d x).island = s.island ∧ (s.setDom d x).alive = s.alive := by
  cases d <;> repeat' constructor

@[simp] theorem State.occur_frame (n : Nat) :
    (s.occur n).pending = s.pending ∧ (s.occur n).regs = s.regs ∧ (s.occur n).tabs = s.tabs ∧
    (s.occur n).mem = s.mem ∧ (s.occur n).staging = s.staging ∧ (s.occur n).beacon = s.beacon ∧
    (s.occur n).flash = s.flash ∧ (s.occur n).device = s.device ∧ (s.occur n).cop = s.cop ∧
    (s.occur n).time = s.time ∧ (s.occur n).pipe = s.pipe ∧ (s.occur n).layers = s.layers ∧
    (s.occur n).scan = s.scan ∧ (s.occur n).diag = s.diag ∧ (s.occur n).rails = s.rails ∧
    (s.occur n).link = s.link ∧ (s.occur n).traffic = s.traffic ∧ (s.occur n).memory = s.memory ∧
    (s.occur n).safety = s.safety ∧ (s.occur n).power = s.power ∧ (s.occur n).out = s.out ∧
    (s.occur n).ticks = s.ticks ∧ (s.occur n).freeCtr = s.freeCtr ∧ (s.occur n).fault.live = s.fault.live ∧
    (s.occur n).fault.latched = s.fault.latched ∧ (s.occur n).fault.pulsing = s.fault.pulsing ∧ (s.occur n).fault.discrepant = s.fault.discrepant ∧
    (s.occur n).fault.held = s.fault.held ∧ (s.occur n).fault.clockFault = s.fault.clockFault ∧ (s.occur n).fault.pllUnlocked = s.fault.pllUnlocked ∧
    (s.occur n).fault.heartbeatLost = s.fault.heartbeatLost ∧ (s.occur n).reg = s.reg ∧ (s.occur n).regAt = s.regAt ∧
    (s.occur n).flag = s.flag ∧ (s.occur n).tabByte = s.tabByte ∧ (s.occur n).tabNat = s.tabNat ∧
    (s.occur n).rail = s.rail ∧ (s.occur n).band = s.band ∧ (s.occur n).memBytes = s.memBytes ∧
    (s.occur n).stagingBytes = s.stagingBytes ∧ (s.occur n).beaconBytes = s.beaconBytes ∧ (s.occur n).flashBytes = s.flashBytes ∧
    (s.occur n).island = s.island ∧ (s.occur n).alive = s.alive := by
  repeat' constructor

@[simp] theorem State.event_frame (n : Nat) (bs : Bytes) :
    (s.event n bs).pending = s.pending ∧ (s.event n bs).tabs = s.tabs ∧ (s.event n bs).mem = s.mem ∧
    (s.event n bs).staging = s.staging ∧ (s.event n bs).beacon = s.beacon ∧ (s.event n bs).flash = s.flash ∧
    (s.event n bs).device = s.device ∧ (s.event n bs).cop = s.cop ∧ (s.event n bs).fault = s.fault ∧
    (s.event n bs).time = s.time ∧ (s.event n bs).pipe = s.pipe ∧ (s.event n bs).layers = s.layers ∧
    (s.event n bs).scan = s.scan ∧ (s.event n bs).diag = s.diag ∧ (s.event n bs).rails = s.rails ∧
    (s.event n bs).link = s.link ∧ (s.event n bs).memory = s.memory ∧ (s.event n bs).safety = s.safety ∧
    (s.event n bs).power = s.power ∧ (s.event n bs).out = s.out ∧ (s.event n bs).ticks = s.ticks ∧
    (s.event n bs).freeCtr = s.freeCtr ∧ (s.event n bs).tabByte = s.tabByte ∧ (s.event n bs).tabNat = s.tabNat ∧
    (s.event n bs).rail = s.rail ∧ (s.event n bs).band = s.band ∧ (s.event n bs).memBytes = s.memBytes ∧
    (s.event n bs).stagingBytes = s.stagingBytes ∧ (s.event n bs).beaconBytes = s.beaconBytes ∧ (s.event n bs).flashBytes = s.flashBytes ∧
    (s.event n bs).island = s.island ∧ (s.event n bs).alive = s.alive := by
  unfold State.event
  dsimp only
  split <;> repeat' constructor

@[simp] theorem State.setRail_frame (n : Nat) (r : RailState) :
    (s.setRail n r).pending = s.pending ∧ (s.setRail n r).regs = s.regs ∧ (s.setRail n r).tabs = s.tabs ∧
    (s.setRail n r).mem = s.mem ∧ (s.setRail n r).staging = s.staging ∧ (s.setRail n r).beacon = s.beacon ∧
    (s.setRail n r).flash = s.flash ∧ (s.setRail n r).device = s.device ∧ (s.setRail n r).cop = s.cop ∧
    (s.setRail n r).fault = s.fault ∧ (s.setRail n r).time = s.time ∧ (s.setRail n r).pipe = s.pipe ∧
    (s.setRail n r).layers = s.layers ∧ (s.setRail n r).scan = s.scan ∧ (s.setRail n r).diag = s.diag ∧
    (s.setRail n r).link = s.link ∧ (s.setRail n r).traffic = s.traffic ∧ (s.setRail n r).memory = s.memory ∧
    (s.setRail n r).safety = s.safety ∧ (s.setRail n r).power = s.power ∧ (s.setRail n r).out = s.out ∧
    (s.setRail n r).ticks = s.ticks ∧ (s.setRail n r).freeCtr = s.freeCtr ∧ (s.setRail n r).reg = s.reg ∧
    (s.setRail n r).regAt = s.regAt ∧ (s.setRail n r).flag = s.flag ∧ (s.setRail n r).tabByte = s.tabByte ∧
    (s.setRail n r).tabNat = s.tabNat ∧ (s.setRail n r).band = s.band ∧ (s.setRail n r).memBytes = s.memBytes ∧
    (s.setRail n r).stagingBytes = s.stagingBytes ∧ (s.setRail n r).beaconBytes = s.beaconBytes ∧ (s.setRail n r).flashBytes = s.flashBytes ∧
    (s.setRail n r).island = s.island ∧ (s.setRail n r).alive = s.alive := by
  repeat' constructor

@[simp] theorem State.setBand_frame (n : Nat) (x : BandState) :
    (s.setBand n x).pending = s.pending ∧ (s.setBand n x).regs = s.regs ∧ (s.setBand n x).tabs = s.tabs ∧
    (s.setBand n x).mem = s.mem ∧ (s.setBand n x).staging = s.staging ∧ (s.setBand n x).beacon = s.beacon ∧
    (s.setBand n x).flash = s.flash ∧ (s.setBand n x).device = s.device ∧ (s.setBand n x).cop = s.cop ∧
    (s.setBand n x).fault = s.fault ∧ (s.setBand n x).time = s.time ∧ (s.setBand n x).pipe = s.pipe ∧
    (s.setBand n x).layers = s.layers ∧ (s.setBand n x).diag = s.diag ∧ (s.setBand n x).rails = s.rails ∧
    (s.setBand n x).link = s.link ∧ (s.setBand n x).traffic = s.traffic ∧ (s.setBand n x).memory = s.memory ∧
    (s.setBand n x).safety = s.safety ∧ (s.setBand n x).power = s.power ∧ (s.setBand n x).out = s.out ∧
    (s.setBand n x).ticks = s.ticks ∧ (s.setBand n x).freeCtr = s.freeCtr ∧ (s.setBand n x).reg = s.reg ∧
    (s.setBand n x).regAt = s.regAt ∧ (s.setBand n x).flag = s.flag ∧ (s.setBand n x).tabByte = s.tabByte ∧
    (s.setBand n x).tabNat = s.tabNat ∧ (s.setBand n x).rail = s.rail ∧ (s.setBand n x).memBytes = s.memBytes ∧
    (s.setBand n x).stagingBytes = s.stagingBytes ∧ (s.setBand n x).beaconBytes = s.beaconBytes ∧ (s.setBand n x).flashBytes = s.flashBytes ∧
    (s.setBand n x).island = s.island ∧ (s.setBand n x).alive = s.alive := by
  repeat' constructor

@[simp] theorem State.setChan_frame (c : Channel) (x : ChannelState) :
    (s.setChan c x).pending = s.pending ∧ (s.setChan c x).regs = s.regs ∧ (s.setChan c x).tabs = s.tabs ∧
    (s.setChan c x).mem = s.mem ∧ (s.setChan c x).staging = s.staging ∧ (s.setChan c x).beacon = s.beacon ∧
    (s.setChan c x).flash = s.flash ∧ (s.setChan c x).device = s.device ∧ (s.setChan c x).cop = s.cop ∧
    (s.setChan c x).fault = s.fault ∧ (s.setChan c x).time = s.time ∧ (s.setChan c x).pipe = s.pipe ∧
    (s.setChan c x).layers = s.layers ∧ (s.setChan c x).scan = s.scan ∧ (s.setChan c x).diag = s.diag ∧
    (s.setChan c x).rails = s.rails ∧ (s.setChan c x).link = s.link ∧ (s.setChan c x).traffic = s.traffic ∧
    (s.setChan c x).memory = s.memory ∧ (s.setChan c x).power = s.power ∧ (s.setChan c x).out = s.out ∧
    (s.setChan c x).ticks = s.ticks ∧ (s.setChan c x).freeCtr = s.freeCtr ∧ (s.setChan c x).reg = s.reg ∧
    (s.setChan c x).regAt = s.regAt ∧ (s.setChan c x).flag = s.flag ∧ (s.setChan c x).tabByte = s.tabByte ∧
    (s.setChan c x).tabNat = s.tabNat ∧ (s.setChan c x).rail = s.rail ∧ (s.setChan c x).band = s.band ∧
    (s.setChan c x).memBytes = s.memBytes ∧ (s.setChan c x).stagingBytes = s.stagingBytes ∧ (s.setChan c x).beaconBytes = s.beaconBytes ∧
    (s.setChan c x).flashBytes = s.flashBytes ∧ (s.setChan c x).island = s.island ∧ (s.setChan c x).alive = s.alive := by
  cases c <;> repeat' constructor

@[simp] theorem State.enqueue_frame (p : LocalPacket) :
    (s.enqueue p).pending = s.pending ∧ (s.enqueue p).regs = s.regs ∧ (s.enqueue p).tabs = s.tabs ∧
    (s.enqueue p).mem = s.mem ∧ (s.enqueue p).staging = s.staging ∧ (s.enqueue p).beacon = s.beacon ∧
    (s.enqueue p).flash = s.flash ∧ (s.enqueue p).device = s.device ∧ (s.enqueue p).cop = s.cop ∧
    (s.enqueue p).fault = s.fault ∧ (s.enqueue p).time = s.time ∧ (s.enqueue p).pipe = s.pipe ∧
    (s.enqueue p).layers = s.layers ∧ (s.enqueue p).scan = s.scan ∧ (s.enqueue p).diag = s.diag ∧
    (s.enqueue p).rails = s.rails ∧ (s.enqueue p).link = s.link ∧ (s.enqueue p).memory = s.memory ∧
    (s.enqueue p).safety = s.safety ∧ (s.enqueue p).power = s.power ∧ (s.enqueue p).out = s.out ∧
    (s.enqueue p).ticks = s.ticks ∧ (s.enqueue p).freeCtr = s.freeCtr ∧ (s.enqueue p).traffic.events = s.traffic.events ∧
    (s.enqueue p).reg = s.reg ∧ (s.enqueue p).regAt = s.regAt ∧ (s.enqueue p).flag = s.flag ∧
    (s.enqueue p).tabByte = s.tabByte ∧ (s.enqueue p).tabNat = s.tabNat ∧ (s.enqueue p).rail = s.rail ∧
    (s.enqueue p).band = s.band ∧ (s.enqueue p).memBytes = s.memBytes ∧ (s.enqueue p).stagingBytes = s.stagingBytes ∧
    (s.enqueue p).beaconBytes = s.beaconBytes ∧ (s.enqueue p).flashBytes = s.flashBytes ∧ (s.enqueue p).island = s.island ∧
    (s.enqueue p).alive = s.alive := by
  repeat' constructor

@[simp] theorem State.setKeyFail_frame (r n : Nat) :
    (s.setKeyFail r n).pending = s.pending ∧ (s.setKeyFail r n).regs = s.regs ∧ (s.setKeyFail r n).tabs = s.tabs ∧
    (s.setKeyFail r n).mem = s.mem ∧ (s.setKeyFail r n).staging = s.staging ∧ (s.setKeyFail r n).beacon = s.beacon ∧
    (s.setKeyFail r n).flash = s.flash ∧ (s.setKeyFail r n).device = s.device ∧ (s.setKeyFail r n).fault = s.fault ∧
    (s.setKeyFail r n).time = s.time ∧ (s.setKeyFail r n).pipe = s.pipe ∧ (s.setKeyFail r n).layers = s.layers ∧
    (s.setKeyFail r n).scan = s.scan ∧ (s.setKeyFail r n).diag = s.diag ∧ (s.setKeyFail r n).rails = s.rails ∧
    (s.setKeyFail r n).link = s.link ∧ (s.setKeyFail r n).traffic = s.traffic ∧ (s.setKeyFail r n).memory = s.memory ∧
    (s.setKeyFail r n).safety = s.safety ∧ (s.setKeyFail r n).power = s.power ∧ (s.setKeyFail r n).out = s.out ∧
    (s.setKeyFail r n).ticks = s.ticks ∧ (s.setKeyFail r n).freeCtr = s.freeCtr ∧ (s.setKeyFail r n).cop.keys = s.cop.keys ∧
    (s.setKeyFail r n).cop.record = s.cop.record ∧ (s.setKeyFail r n).cop.responses = s.cop.responses ∧ (s.setKeyFail r n).cop.assemblies = s.cop.assemblies ∧
    (s.setKeyFail r n).cop.snapshots = s.cop.snapshots ∧ (s.setKeyFail r n).cop.batch = s.cop.batch ∧ (s.setKeyFail r n).cop.held = s.cop.held ∧
    (s.setKeyFail r n).cop.flashJob = s.cop.flashJob ∧ (s.setKeyFail r n).cop.flashPaused = s.cop.flashPaused ∧ (s.setKeyFail r n).cop.verified = s.cop.verified ∧
    (s.setKeyFail r n).cop.runKeySlot = s.cop.runKeySlot ∧ (s.setKeyFail r n).cop.runRollback = s.cop.runRollback ∧ (s.setKeyFail r n).cop.slot0Revoked = s.cop.slot0Revoked ∧
    (s.setKeyFail r n).cop.rollbackRaised = s.cop.rollbackRaised ∧ (s.setKeyFail r n).reg = s.reg ∧ (s.setKeyFail r n).regAt = s.regAt ∧
    (s.setKeyFail r n).flag = s.flag ∧ (s.setKeyFail r n).tabByte = s.tabByte ∧ (s.setKeyFail r n).tabNat = s.tabNat ∧
    (s.setKeyFail r n).rail = s.rail ∧ (s.setKeyFail r n).band = s.band ∧ (s.setKeyFail r n).memBytes = s.memBytes ∧
    (s.setKeyFail r n).stagingBytes = s.stagingBytes ∧ (s.setKeyFail r n).beaconBytes = s.beaconBytes ∧ (s.setKeyFail r n).flashBytes = s.flashBytes ∧
    (s.setKeyFail r n).island = s.island ∧ (s.setKeyFail r n).alive = s.alive := by
  repeat' constructor

/-! ### Ports, streams, crossings, lanes, layers, rings and the frame in computation -/

@[simp] theorem State.setPort_frame (p : Port) (x : PortLink) :
    (s.setPort p x).pending = s.pending ∧ (s.setPort p x).regs = s.regs ∧ (s.setPort p x).tabs = s.tabs ∧
    (s.setPort p x).mem = s.mem ∧ (s.setPort p x).staging = s.staging ∧ (s.setPort p x).beacon = s.beacon ∧
    (s.setPort p x).flash = s.flash ∧ (s.setPort p x).device = s.device ∧ (s.setPort p x).cop = s.cop ∧
    (s.setPort p x).fault = s.fault ∧ (s.setPort p x).time = s.time ∧ (s.setPort p x).pipe = s.pipe ∧
    (s.setPort p x).layers = s.layers ∧ (s.setPort p x).scan = s.scan ∧ (s.setPort p x).diag = s.diag ∧
    (s.setPort p x).rails = s.rails ∧ (s.setPort p x).traffic = s.traffic ∧ (s.setPort p x).memory = s.memory ∧
    (s.setPort p x).safety = s.safety ∧ (s.setPort p x).power = s.power ∧ (s.setPort p x).out = s.out ∧
    (s.setPort p x).ticks = s.ticks ∧ (s.setPort p x).freeCtr = s.freeCtr ∧ (s.setPort p x).reg = s.reg ∧
    (s.setPort p x).regAt = s.regAt ∧ (s.setPort p x).flag = s.flag ∧ (s.setPort p x).tabByte = s.tabByte ∧
    (s.setPort p x).tabNat = s.tabNat ∧ (s.setPort p x).rail = s.rail ∧ (s.setPort p x).band = s.band ∧
    (s.setPort p x).memBytes = s.memBytes ∧ (s.setPort p x).stagingBytes = s.stagingBytes ∧
    (s.setPort p x).beaconBytes = s.beaconBytes ∧ (s.setPort p x).flashBytes = s.flashBytes ∧
    (s.setPort p x).island = s.island ∧ (s.setPort p x).alive = s.alive ∧ (s.setPort p x).stream = s.stream := by
  cases p <;> repeat' constructor

@[simp] theorem State.modPort_frame (p : Port) (f : PortLink → PortLink) :
    (s.modPort p f).pending = s.pending ∧ (s.modPort p f).regs = s.regs ∧ (s.modPort p f).tabs = s.tabs ∧
    (s.modPort p f).mem = s.mem ∧ (s.modPort p f).staging = s.staging ∧ (s.modPort p f).beacon = s.beacon ∧
    (s.modPort p f).flash = s.flash ∧ (s.modPort p f).device = s.device ∧ (s.modPort p f).cop = s.cop ∧
    (s.modPort p f).fault = s.fault ∧ (s.modPort p f).time = s.time ∧ (s.modPort p f).pipe = s.pipe ∧
    (s.modPort p f).layers = s.layers ∧ (s.modPort p f).scan = s.scan ∧ (s.modPort p f).diag = s.diag ∧
    (s.modPort p f).rails = s.rails ∧ (s.modPort p f).traffic = s.traffic ∧ (s.modPort p f).memory = s.memory ∧
    (s.modPort p f).safety = s.safety ∧ (s.modPort p f).power = s.power ∧ (s.modPort p f).out = s.out ∧
    (s.modPort p f).ticks = s.ticks ∧ (s.modPort p f).freeCtr = s.freeCtr ∧ (s.modPort p f).reg = s.reg ∧
    (s.modPort p f).regAt = s.regAt ∧ (s.modPort p f).flag = s.flag ∧ (s.modPort p f).tabByte = s.tabByte ∧
    (s.modPort p f).tabNat = s.tabNat ∧ (s.modPort p f).rail = s.rail ∧ (s.modPort p f).band = s.band ∧
    (s.modPort p f).memBytes = s.memBytes ∧ (s.modPort p f).stagingBytes = s.stagingBytes ∧
    (s.modPort p f).beaconBytes = s.beaconBytes ∧ (s.modPort p f).flashBytes = s.flashBytes ∧
    (s.modPort p f).island = s.island ∧ (s.modPort p f).alive = s.alive ∧ (s.modPort p f).stream = s.stream := by
  cases p <;> repeat' constructor

@[simp] theorem State.setStream_frame (p : Port) (x : PortStream) :
    (s.setStream p x).pending = s.pending ∧ (s.setStream p x).regs = s.regs ∧ (s.setStream p x).tabs = s.tabs ∧
    (s.setStream p x).mem = s.mem ∧ (s.setStream p x).staging = s.staging ∧ (s.setStream p x).beacon = s.beacon ∧
    (s.setStream p x).flash = s.flash ∧ (s.setStream p x).device = s.device ∧ (s.setStream p x).cop = s.cop ∧
    (s.setStream p x).fault = s.fault ∧ (s.setStream p x).time = s.time ∧ (s.setStream p x).pipe = s.pipe ∧
    (s.setStream p x).layers = s.layers ∧ (s.setStream p x).scan = s.scan ∧ (s.setStream p x).diag = s.diag ∧
    (s.setStream p x).rails = s.rails ∧ (s.setStream p x).traffic = s.traffic ∧
    (s.setStream p x).memory = s.memory ∧ (s.setStream p x).safety = s.safety ∧ (s.setStream p x).power = s.power ∧
    (s.setStream p x).out = s.out ∧ (s.setStream p x).ticks = s.ticks ∧ (s.setStream p x).freeCtr = s.freeCtr ∧
    (s.setStream p x).reg = s.reg ∧ (s.setStream p x).regAt = s.regAt ∧ (s.setStream p x).flag = s.flag ∧
    (s.setStream p x).tabByte = s.tabByte ∧ (s.setStream p x).tabNat = s.tabNat ∧ (s.setStream p x).rail = s.rail ∧
    (s.setStream p x).band = s.band ∧ (s.setStream p x).memBytes = s.memBytes ∧
    (s.setStream p x).stagingBytes = s.stagingBytes ∧ (s.setStream p x).beaconBytes = s.beaconBytes ∧
    (s.setStream p x).flashBytes = s.flashBytes ∧ (s.setStream p x).island = s.island ∧
    (s.setStream p x).alive = s.alive ∧ (s.setStream p x).portLink = s.portLink := by
  cases p <;> repeat' constructor

@[simp] theorem State.modStream_frame (p : Port) (f : PortStream → PortStream) :
    (s.modStream p f).pending = s.pending ∧ (s.modStream p f).regs = s.regs ∧ (s.modStream p f).tabs = s.tabs ∧
    (s.modStream p f).mem = s.mem ∧ (s.modStream p f).staging = s.staging ∧ (s.modStream p f).beacon = s.beacon ∧
    (s.modStream p f).flash = s.flash ∧ (s.modStream p f).device = s.device ∧ (s.modStream p f).cop = s.cop ∧
    (s.modStream p f).fault = s.fault ∧ (s.modStream p f).time = s.time ∧ (s.modStream p f).pipe = s.pipe ∧
    (s.modStream p f).layers = s.layers ∧ (s.modStream p f).scan = s.scan ∧ (s.modStream p f).diag = s.diag ∧
    (s.modStream p f).rails = s.rails ∧ (s.modStream p f).traffic = s.traffic ∧
    (s.modStream p f).memory = s.memory ∧ (s.modStream p f).safety = s.safety ∧ (s.modStream p f).power = s.power ∧
    (s.modStream p f).out = s.out ∧ (s.modStream p f).ticks = s.ticks ∧ (s.modStream p f).freeCtr = s.freeCtr ∧
    (s.modStream p f).reg = s.reg ∧ (s.modStream p f).regAt = s.regAt ∧ (s.modStream p f).flag = s.flag ∧
    (s.modStream p f).tabByte = s.tabByte ∧ (s.modStream p f).tabNat = s.tabNat ∧ (s.modStream p f).rail = s.rail ∧
    (s.modStream p f).band = s.band ∧ (s.modStream p f).memBytes = s.memBytes ∧
    (s.modStream p f).stagingBytes = s.stagingBytes ∧ (s.modStream p f).beaconBytes = s.beaconBytes ∧
    (s.modStream p f).flashBytes = s.flashBytes ∧ (s.modStream p f).island = s.island ∧
    (s.modStream p f).alive = s.alive ∧ (s.modStream p f).portLink = s.portLink := by
  cases p <;> repeat' constructor

@[simp] theorem State.setCrossing_frame (h : Nat) (x : Crossing) :
    (s.setCrossing h x).pending = s.pending ∧ (s.setCrossing h x).regs = s.regs ∧
    (s.setCrossing h x).tabs = s.tabs ∧ (s.setCrossing h x).mem = s.mem ∧ (s.setCrossing h x).staging = s.staging ∧
    (s.setCrossing h x).beacon = s.beacon ∧ (s.setCrossing h x).flash = s.flash ∧ (s.setCrossing h x).cop = s.cop ∧
    (s.setCrossing h x).fault = s.fault ∧ (s.setCrossing h x).time = s.time ∧ (s.setCrossing h x).pipe = s.pipe ∧
    (s.setCrossing h x).layers = s.layers ∧ (s.setCrossing h x).scan = s.scan ∧ (s.setCrossing h x).diag = s.diag ∧
    (s.setCrossing h x).rails = s.rails ∧ (s.setCrossing h x).link = s.link ∧
    (s.setCrossing h x).traffic = s.traffic ∧ (s.setCrossing h x).memory = s.memory ∧
    (s.setCrossing h x).safety = s.safety ∧ (s.setCrossing h x).power = s.power ∧ (s.setCrossing h x).out = s.out ∧
    (s.setCrossing h x).ticks = s.ticks ∧ (s.setCrossing h x).freeCtr = s.freeCtr ∧
    (s.setCrossing h x).reg = s.reg ∧ (s.setCrossing h x).regAt = s.regAt ∧ (s.setCrossing h x).flag = s.flag ∧
    (s.setCrossing h x).tabByte = s.tabByte ∧ (s.setCrossing h x).tabNat = s.tabNat ∧
    (s.setCrossing h x).rail = s.rail ∧ (s.setCrossing h x).band = s.band ∧
    (s.setCrossing h x).memBytes = s.memBytes ∧ (s.setCrossing h x).stagingBytes = s.stagingBytes ∧
    (s.setCrossing h x).beaconBytes = s.beaconBytes ∧ (s.setCrossing h x).flashBytes = s.flashBytes ∧
    (s.setCrossing h x).island = s.island ∧ (s.setCrossing h x).alive = s.alive := by
  repeat' constructor

@[simp] theorem State.setLane_frame (l : Nat) (x : LaneState) :
    (s.setLane l x).pending = s.pending ∧ (s.setLane l x).regs = s.regs ∧ (s.setLane l x).tabs = s.tabs ∧
    (s.setLane l x).mem = s.mem ∧ (s.setLane l x).staging = s.staging ∧ (s.setLane l x).beacon = s.beacon ∧
    (s.setLane l x).flash = s.flash ∧ (s.setLane l x).device = s.device ∧ (s.setLane l x).cop = s.cop ∧
    (s.setLane l x).fault = s.fault ∧ (s.setLane l x).time = s.time ∧ (s.setLane l x).pipe = s.pipe ∧
    (s.setLane l x).layers = s.layers ∧ (s.setLane l x).scan = s.scan ∧ (s.setLane l x).diag = s.diag ∧
    (s.setLane l x).link = s.link ∧ (s.setLane l x).traffic = s.traffic ∧ (s.setLane l x).memory = s.memory ∧
    (s.setLane l x).safety = s.safety ∧ (s.setLane l x).power = s.power ∧ (s.setLane l x).out = s.out ∧
    (s.setLane l x).ticks = s.ticks ∧ (s.setLane l x).freeCtr = s.freeCtr ∧ (s.setLane l x).reg = s.reg ∧
    (s.setLane l x).regAt = s.regAt ∧ (s.setLane l x).flag = s.flag ∧ (s.setLane l x).tabByte = s.tabByte ∧
    (s.setLane l x).tabNat = s.tabNat ∧ (s.setLane l x).band = s.band ∧ (s.setLane l x).memBytes = s.memBytes ∧
    (s.setLane l x).stagingBytes = s.stagingBytes ∧ (s.setLane l x).beaconBytes = s.beaconBytes ∧
    (s.setLane l x).flashBytes = s.flashBytes ∧ (s.setLane l x).island = s.island ∧
    (s.setLane l x).alive = s.alive ∧ (s.setLane l x).rail = s.rail ∧ (s.setLane l x).bank = s.bank := by
  repeat' constructor

@[simp] theorem State.setBank_frame (b : Bank) (x : RotationState) :
    (s.setBank b x).pending = s.pending ∧ (s.setBank b x).regs = s.regs ∧ (s.setBank b x).tabs = s.tabs ∧
    (s.setBank b x).mem = s.mem ∧ (s.setBank b x).staging = s.staging ∧ (s.setBank b x).beacon = s.beacon ∧
    (s.setBank b x).flash = s.flash ∧ (s.setBank b x).device = s.device ∧ (s.setBank b x).cop = s.cop ∧
    (s.setBank b x).fault = s.fault ∧ (s.setBank b x).time = s.time ∧ (s.setBank b x).pipe = s.pipe ∧
    (s.setBank b x).layers = s.layers ∧ (s.setBank b x).scan = s.scan ∧ (s.setBank b x).diag = s.diag ∧
    (s.setBank b x).link = s.link ∧ (s.setBank b x).traffic = s.traffic ∧ (s.setBank b x).memory = s.memory ∧
    (s.setBank b x).safety = s.safety ∧ (s.setBank b x).power = s.power ∧ (s.setBank b x).out = s.out ∧
    (s.setBank b x).ticks = s.ticks ∧ (s.setBank b x).freeCtr = s.freeCtr ∧ (s.setBank b x).reg = s.reg ∧
    (s.setBank b x).regAt = s.regAt ∧ (s.setBank b x).flag = s.flag ∧ (s.setBank b x).tabByte = s.tabByte ∧
    (s.setBank b x).tabNat = s.tabNat ∧ (s.setBank b x).band = s.band ∧ (s.setBank b x).memBytes = s.memBytes ∧
    (s.setBank b x).stagingBytes = s.stagingBytes ∧ (s.setBank b x).beaconBytes = s.beaconBytes ∧
    (s.setBank b x).flashBytes = s.flashBytes ∧ (s.setBank b x).island = s.island ∧
    (s.setBank b x).alive = s.alive ∧ (s.setBank b x).rail = s.rail ∧ (s.setBank b x).lane = s.lane := by
  cases b <;> repeat' constructor

@[simp] theorem State.setLayer_frame (l : Nat) (x : LayerState) :
    (s.setLayer l x).pending = s.pending ∧ (s.setLayer l x).regs = s.regs ∧ (s.setLayer l x).tabs = s.tabs ∧
    (s.setLayer l x).mem = s.mem ∧ (s.setLayer l x).staging = s.staging ∧ (s.setLayer l x).beacon = s.beacon ∧
    (s.setLayer l x).flash = s.flash ∧ (s.setLayer l x).device = s.device ∧ (s.setLayer l x).cop = s.cop ∧
    (s.setLayer l x).fault = s.fault ∧ (s.setLayer l x).time = s.time ∧ (s.setLayer l x).pipe = s.pipe ∧
    (s.setLayer l x).scan = s.scan ∧ (s.setLayer l x).diag = s.diag ∧ (s.setLayer l x).rails = s.rails ∧
    (s.setLayer l x).link = s.link ∧ (s.setLayer l x).traffic = s.traffic ∧ (s.setLayer l x).memory = s.memory ∧
    (s.setLayer l x).safety = s.safety ∧ (s.setLayer l x).power = s.power ∧ (s.setLayer l x).out = s.out ∧
    (s.setLayer l x).ticks = s.ticks ∧ (s.setLayer l x).freeCtr = s.freeCtr ∧ (s.setLayer l x).reg = s.reg ∧
    (s.setLayer l x).regAt = s.regAt ∧ (s.setLayer l x).flag = s.flag ∧ (s.setLayer l x).tabByte = s.tabByte ∧
    (s.setLayer l x).tabNat = s.tabNat ∧ (s.setLayer l x).rail = s.rail ∧ (s.setLayer l x).band = s.band ∧
    (s.setLayer l x).memBytes = s.memBytes ∧ (s.setLayer l x).stagingBytes = s.stagingBytes ∧
    (s.setLayer l x).beaconBytes = s.beaconBytes ∧ (s.setLayer l x).flashBytes = s.flashBytes ∧
    (s.setLayer l x).island = s.island ∧ (s.setLayer l x).alive = s.alive ∧ (s.setLayer l x).fence = s.fence := by
  repeat' constructor

@[simp] theorem State.setFence_frame (k : Nat) (x : FenceLine) :
    (s.setFence k x).pending = s.pending ∧ (s.setFence k x).regs = s.regs ∧ (s.setFence k x).tabs = s.tabs ∧
    (s.setFence k x).mem = s.mem ∧ (s.setFence k x).staging = s.staging ∧ (s.setFence k x).beacon = s.beacon ∧
    (s.setFence k x).flash = s.flash ∧ (s.setFence k x).device = s.device ∧ (s.setFence k x).cop = s.cop ∧
    (s.setFence k x).fault = s.fault ∧ (s.setFence k x).time = s.time ∧ (s.setFence k x).pipe = s.pipe ∧
    (s.setFence k x).scan = s.scan ∧ (s.setFence k x).diag = s.diag ∧ (s.setFence k x).rails = s.rails ∧
    (s.setFence k x).link = s.link ∧ (s.setFence k x).traffic = s.traffic ∧ (s.setFence k x).memory = s.memory ∧
    (s.setFence k x).safety = s.safety ∧ (s.setFence k x).power = s.power ∧ (s.setFence k x).out = s.out ∧
    (s.setFence k x).ticks = s.ticks ∧ (s.setFence k x).freeCtr = s.freeCtr ∧ (s.setFence k x).reg = s.reg ∧
    (s.setFence k x).regAt = s.regAt ∧ (s.setFence k x).flag = s.flag ∧ (s.setFence k x).tabByte = s.tabByte ∧
    (s.setFence k x).tabNat = s.tabNat ∧ (s.setFence k x).rail = s.rail ∧ (s.setFence k x).band = s.band ∧
    (s.setFence k x).memBytes = s.memBytes ∧ (s.setFence k x).stagingBytes = s.stagingBytes ∧
    (s.setFence k x).beaconBytes = s.beaconBytes ∧ (s.setFence k x).flashBytes = s.flashBytes ∧
    (s.setFence k x).island = s.island ∧ (s.setFence k x).alive = s.alive ∧ (s.setFence k x).layer = s.layer := by
  repeat' constructor

@[simp] theorem State.setRing_frame (r : Nat) (x : RingState) :
    (s.setRing r x).pending = s.pending ∧ (s.setRing r x).regs = s.regs ∧ (s.setRing r x).tabs = s.tabs ∧
    (s.setRing r x).mem = s.mem ∧ (s.setRing r x).staging = s.staging ∧ (s.setRing r x).beacon = s.beacon ∧
    (s.setRing r x).flash = s.flash ∧ (s.setRing r x).device = s.device ∧ (s.setRing r x).cop = s.cop ∧
    (s.setRing r x).fault = s.fault ∧ (s.setRing r x).time = s.time ∧ (s.setRing r x).pipe = s.pipe ∧
    (s.setRing r x).layers = s.layers ∧ (s.setRing r x).scan = s.scan ∧ (s.setRing r x).diag = s.diag ∧
    (s.setRing r x).rails = s.rails ∧ (s.setRing r x).link = s.link ∧ (s.setRing r x).traffic = s.traffic ∧
    (s.setRing r x).safety = s.safety ∧ (s.setRing r x).power = s.power ∧ (s.setRing r x).out = s.out ∧
    (s.setRing r x).ticks = s.ticks ∧ (s.setRing r x).freeCtr = s.freeCtr ∧ (s.setRing r x).reg = s.reg ∧
    (s.setRing r x).regAt = s.regAt ∧ (s.setRing r x).flag = s.flag ∧ (s.setRing r x).tabByte = s.tabByte ∧
    (s.setRing r x).tabNat = s.tabNat ∧ (s.setRing r x).rail = s.rail ∧ (s.setRing r x).band = s.band ∧
    (s.setRing r x).memBytes = s.memBytes ∧ (s.setRing r x).stagingBytes = s.stagingBytes ∧
    (s.setRing r x).beaconBytes = s.beaconBytes ∧ (s.setRing r x).flashBytes = s.flashBytes ∧
    (s.setRing r x).island = s.island ∧ (s.setRing r x).alive = s.alive := by
  repeat' constructor

@[simp] theorem State.setNode_frame (b n : Nat) (x : NodeState) :
    (s.setNode b n x).pending = s.pending ∧ (s.setNode b n x).regs = s.regs ∧ (s.setNode b n x).tabs = s.tabs ∧
    (s.setNode b n x).mem = s.mem ∧ (s.setNode b n x).staging = s.staging ∧ (s.setNode b n x).beacon = s.beacon ∧
    (s.setNode b n x).flash = s.flash ∧ (s.setNode b n x).device = s.device ∧ (s.setNode b n x).cop = s.cop ∧
    (s.setNode b n x).fault = s.fault ∧ (s.setNode b n x).time = s.time ∧ (s.setNode b n x).pipe = s.pipe ∧
    (s.setNode b n x).layers = s.layers ∧ (s.setNode b n x).diag = s.diag ∧ (s.setNode b n x).rails = s.rails ∧
    (s.setNode b n x).link = s.link ∧ (s.setNode b n x).traffic = s.traffic ∧ (s.setNode b n x).memory = s.memory ∧
    (s.setNode b n x).safety = s.safety ∧ (s.setNode b n x).power = s.power ∧ (s.setNode b n x).out = s.out ∧
    (s.setNode b n x).ticks = s.ticks ∧ (s.setNode b n x).freeCtr = s.freeCtr ∧ (s.setNode b n x).reg = s.reg ∧
    (s.setNode b n x).regAt = s.regAt ∧ (s.setNode b n x).flag = s.flag ∧ (s.setNode b n x).tabByte = s.tabByte ∧
    (s.setNode b n x).tabNat = s.tabNat ∧ (s.setNode b n x).rail = s.rail ∧
    (s.setNode b n x).memBytes = s.memBytes ∧ (s.setNode b n x).stagingBytes = s.stagingBytes ∧
    (s.setNode b n x).beaconBytes = s.beaconBytes ∧ (s.setNode b n x).flashBytes = s.flashBytes ∧
    (s.setNode b n x).island = s.island ∧ (s.setNode b n x).alive = s.alive := by
  repeat' constructor

@[simp] theorem State.modCatch_frame (f : CatchState → CatchState) :
    (s.modCatch f).pending = s.pending ∧ (s.modCatch f).regs = s.regs ∧ (s.modCatch f).tabs = s.tabs ∧
    (s.modCatch f).mem = s.mem ∧ (s.modCatch f).staging = s.staging ∧ (s.modCatch f).beacon = s.beacon ∧
    (s.modCatch f).flash = s.flash ∧ (s.modCatch f).device = s.device ∧ (s.modCatch f).cop = s.cop ∧
    (s.modCatch f).fault = s.fault ∧ (s.modCatch f).pipe = s.pipe ∧ (s.modCatch f).layers = s.layers ∧
    (s.modCatch f).scan = s.scan ∧ (s.modCatch f).diag = s.diag ∧ (s.modCatch f).rails = s.rails ∧
    (s.modCatch f).link = s.link ∧ (s.modCatch f).traffic = s.traffic ∧ (s.modCatch f).memory = s.memory ∧
    (s.modCatch f).safety = s.safety ∧ (s.modCatch f).power = s.power ∧ (s.modCatch f).out = s.out ∧
    (s.modCatch f).ticks = s.ticks ∧ (s.modCatch f).freeCtr = s.freeCtr ∧ (s.modCatch f).reg = s.reg ∧
    (s.modCatch f).regAt = s.regAt ∧ (s.modCatch f).flag = s.flag ∧ (s.modCatch f).tabByte = s.tabByte ∧
    (s.modCatch f).tabNat = s.tabNat ∧ (s.modCatch f).rail = s.rail ∧ (s.modCatch f).band = s.band ∧
    (s.modCatch f).memBytes = s.memBytes ∧ (s.modCatch f).stagingBytes = s.stagingBytes ∧
    (s.modCatch f).beaconBytes = s.beaconBytes ∧ (s.modCatch f).flashBytes = s.flashBytes ∧
    (s.modCatch f).island = s.island ∧ (s.modCatch f).alive = s.alive ∧ (s.modCatch f).dom = s.dom ∧
    (s.modCatch f).stampA = s.stampA := by
  repeat' constructor

@[simp] theorem State.modPtp_frame (f : PtpState → PtpState) :
    (s.modPtp f).pending = s.pending ∧ (s.modPtp f).regs = s.regs ∧ (s.modPtp f).tabs = s.tabs ∧
    (s.modPtp f).mem = s.mem ∧ (s.modPtp f).staging = s.staging ∧ (s.modPtp f).beacon = s.beacon ∧
    (s.modPtp f).flash = s.flash ∧ (s.modPtp f).device = s.device ∧ (s.modPtp f).cop = s.cop ∧
    (s.modPtp f).fault = s.fault ∧ (s.modPtp f).pipe = s.pipe ∧ (s.modPtp f).layers = s.layers ∧
    (s.modPtp f).scan = s.scan ∧ (s.modPtp f).diag = s.diag ∧ (s.modPtp f).rails = s.rails ∧
    (s.modPtp f).link = s.link ∧ (s.modPtp f).traffic = s.traffic ∧ (s.modPtp f).memory = s.memory ∧
    (s.modPtp f).safety = s.safety ∧ (s.modPtp f).power = s.power ∧ (s.modPtp f).out = s.out ∧
    (s.modPtp f).ticks = s.ticks ∧ (s.modPtp f).freeCtr = s.freeCtr ∧ (s.modPtp f).reg = s.reg ∧
    (s.modPtp f).regAt = s.regAt ∧ (s.modPtp f).flag = s.flag ∧ (s.modPtp f).tabByte = s.tabByte ∧
    (s.modPtp f).tabNat = s.tabNat ∧ (s.modPtp f).rail = s.rail ∧ (s.modPtp f).band = s.band ∧
    (s.modPtp f).memBytes = s.memBytes ∧ (s.modPtp f).stagingBytes = s.stagingBytes ∧
    (s.modPtp f).beaconBytes = s.beaconBytes ∧ (s.modPtp f).flashBytes = s.flashBytes ∧
    (s.modPtp f).island = s.island ∧ (s.modPtp f).alive = s.alive ∧ (s.modPtp f).dom = s.dom ∧
    (s.modPtp f).stampA = s.stampA := by
  repeat' constructor

@[simp] theorem State.modFrame_frame (g : FrameWork → FrameWork) :
    (s.modFrame g).pending = s.pending ∧ (s.modFrame g).regs = s.regs ∧ (s.modFrame g).tabs = s.tabs ∧
    (s.modFrame g).mem = s.mem ∧ (s.modFrame g).staging = s.staging ∧ (s.modFrame g).beacon = s.beacon ∧
    (s.modFrame g).flash = s.flash ∧ (s.modFrame g).device = s.device ∧ (s.modFrame g).cop = s.cop ∧
    (s.modFrame g).fault = s.fault ∧ (s.modFrame g).time = s.time ∧ (s.modFrame g).layers = s.layers ∧
    (s.modFrame g).scan = s.scan ∧ (s.modFrame g).diag = s.diag ∧ (s.modFrame g).rails = s.rails ∧
    (s.modFrame g).link = s.link ∧ (s.modFrame g).traffic = s.traffic ∧ (s.modFrame g).memory = s.memory ∧
    (s.modFrame g).safety = s.safety ∧ (s.modFrame g).power = s.power ∧ (s.modFrame g).out = s.out ∧
    (s.modFrame g).ticks = s.ticks ∧ (s.modFrame g).freeCtr = s.freeCtr ∧ (s.modFrame g).reg = s.reg ∧
    (s.modFrame g).regAt = s.regAt ∧ (s.modFrame g).flag = s.flag ∧ (s.modFrame g).tabByte = s.tabByte ∧
    (s.modFrame g).tabNat = s.tabNat ∧ (s.modFrame g).rail = s.rail ∧ (s.modFrame g).band = s.band ∧
    (s.modFrame g).memBytes = s.memBytes ∧ (s.modFrame g).stagingBytes = s.stagingBytes ∧
    (s.modFrame g).beaconBytes = s.beaconBytes ∧ (s.modFrame g).flashBytes = s.flashBytes ∧
    (s.modFrame g).island = s.island ∧ (s.modFrame g).alive = s.alive := by
  repeat' constructor

@[simp] theorem State.portLink_setPort (p : Port) (x : PortLink) : (s.setPort p x).portLink p = x := by
  cases p <;> rfl

@[simp] theorem State.portLink_setPort_other (p : Port) (x : PortLink) :
    (s.setPort p x).portLink (otherPort p) = s.portLink (otherPort p) := by
  cases p <;> rfl

@[simp] theorem State.stream_setStream (p : Port) (x : PortStream) : (s.setStream p x).stream p = x := by
  cases p <;> rfl

@[simp] theorem State.stream_setStream_other (p : Port) (x : PortStream) :
    (s.setStream p x).stream (otherPort p) = s.stream (otherPort p) := by
  cases p <;> rfl

@[simp] theorem State.bank_setBank (b : Bank) (x : RotationState) : (s.setBank b x).bank b = x := by
  cases b <;> rfl

@[simp] theorem State.crossing_setCrossing (h i : Nat) (x : Crossing) :
    (s.setCrossing h x).crossing i = if i = h then x else s.crossing i := by
  unfold State.crossing State.setCrossing
  exact Sparse.get_set ..

@[simp] theorem State.lane_setLane (l i : Nat) (x : LaneState) :
    (s.setLane l x).lane i = if i = l then x else s.lane i := by
  unfold State.lane State.setLane
  exact Sparse.get_set ..

@[simp] theorem State.layer_setLayer (l i : Nat) (x : LayerState) :
    (s.setLayer l x).layer i = if i = l then x else s.layer i := by
  unfold State.layer State.setLayer
  exact Sparse.get_set ..

@[simp] theorem State.fence_setFence (k i : Nat) (x : FenceLine) :
    (s.setFence k x).fence i = if i = k then x else s.fence i := by
  unfold State.fence State.setFence
  exact Sparse.get_set ..

@[simp] theorem State.ring_setRing (r i : Nat) (x : RingState) :
    (s.setRing r x).ring i = if i = r then x else s.ring i := by
  unfold State.ring State.setRing
  exact Sparse.get_set ..

/-- What `settle` leaves unchanged: everything but the live bits. -/
@[simp] theorem settle_frame :
    (settle s).pending = s.pending ∧ (settle s).regs = s.regs ∧ (settle s).tabs = s.tabs ∧
    (settle s).mem = s.mem ∧ (settle s).staging = s.staging ∧ (settle s).beacon = s.beacon ∧
    (settle s).flash = s.flash ∧ (settle s).device = s.device ∧ (settle s).cop = s.cop ∧
    (settle s).time = s.time ∧ (settle s).pipe = s.pipe ∧ (settle s).layers = s.layers ∧
    (settle s).scan = s.scan ∧ (settle s).diag = s.diag ∧ (settle s).rails = s.rails ∧
    (settle s).link = s.link ∧ (settle s).traffic = s.traffic ∧ (settle s).memory = s.memory ∧
    (settle s).safety = s.safety ∧ (settle s).power = s.power ∧ (settle s).out = s.out ∧
    (settle s).ticks = s.ticks ∧ (settle s).freeCtr = s.freeCtr ∧
    (settle s).fault.latched = s.fault.latched ∧ (settle s).fault.waiting = s.fault.waiting ∧
    (settle s).fault.pulsing = s.fault.pulsing ∧ (settle s).fault.discrepant = s.fault.discrepant ∧
    (settle s).fault.held = s.fault.held ∧ (settle s).fault.clockFault = s.fault.clockFault ∧
    (settle s).fault.pllUnlocked = s.fault.pllUnlocked ∧ (settle s).fault.heartbeatLost = s.fault.heartbeatLost ∧
    (settle s).reg = s.reg ∧ (settle s).regAt = s.regAt ∧ (settle s).flag = s.flag ∧
    (settle s).tabByte = s.tabByte ∧ (settle s).tabNat = s.tabNat ∧
    (settle s).rail = s.rail ∧ (settle s).band = s.band ∧ (settle s).island = s.island ∧
    (settle s).alive = s.alive ∧ (settle s).flashBytes = s.flashBytes := by
  repeat' constructor

/-- The live bits after `settle`: those whose source still reports (13 R326). -/
theorem settle_live : (settle s).fault.live = s.fault.live.filter s.reporting := rfl

/-- Whether a source reports does not depend on the live bits. -/
@[simp] theorem settle_reporting : (settle s).reporting = s.reporting := rfl

/-! ### Reads after an update -/

/-- An object after a write of an object: the value written, or what it was. -/
@[simp] theorem State.reg_setReg (o v o1 : Nat) : (s.setReg o v).reg o1 = if o1 = o then v else s.reg o1 := by
  simp only [State.reg, State.regAt, State.setReg, State.setRegAt, Sparse.get_set, regKey]
  by_cases h : o1 = o
  · simp [h]
  · rw [if_neg h, if_neg (by omega)]

/-- An object under a selector after a write under a selector. -/
theorem State.regAt_setRegAt (o i v o1 i1 : Nat) :
    (s.setRegAt o i v).regAt o1 i1 = if regKey o1 i1 = regKey o i then v else s.regAt o1 i1 := by
  simp [State.regAt, State.setRegAt]

/-- The same for selectors of 16 bits. -/
theorem State.regAt_setRegAt_small (o i v o1 i1 : Nat) (hi : i < 65536) (hi1 : i1 < 65536) :
    (s.setRegAt o i v).regAt o1 i1 = if o1 = o ∧ i1 = i then v else s.regAt o1 i1 := by
  rw [State.regAt_setRegAt]
  simp only [regKey]
  congr 1
  simp only [eq_iff_iff]
  omega

/-- An object under a selector of 16 bits after a write without one. -/
theorem State.regAt_setReg (o v o1 i1 : Nat) (hi1 : i1 < 65536) :
    (s.setReg o v).regAt o1 i1 = if o1 = o ∧ i1 = 0 then v else s.regAt o1 i1 :=
  State.regAt_setRegAt_small s o 0 v o1 i1 (by omega) hi1

/-- Another object after a write. -/
theorem State.regAt_setReg_ne (o v o1 i1 : Nat) (h : o1 ≠ o) (hi1 : i1 < 65536) :
    (s.setReg o v).regAt o1 i1 = s.regAt o1 i1 := by
  rw [State.regAt_setReg _ _ _ _ _ hi1, if_neg (by simp [h])]

/-- Another object after a write under a selector. -/
theorem State.regAt_setRegAt_ne (o i v o1 i1 : Nat) (h : o1 ≠ o) (hi : i < 65536) (hi1 : i1 < 65536) :
    (s.setRegAt o i v).regAt o1 i1 = s.regAt o1 i1 := by
  rw [State.regAt_setRegAt_small _ _ _ _ _ _ hi hi1, if_neg (by simp [h])]

/-- Another object after a count. -/
theorem State.regAt_bump_ne (o o1 i1 : Nat) (h : o1 ≠ o) (hi1 : i1 < 65536) :
    (s.bump o).regAt o1 i1 = s.regAt o1 i1 := State.regAt_setReg_ne s o _ o1 i1 h hi1

theorem State.regAt_bumpSat_ne (o o1 i1 : Nat) (h : o1 ≠ o) (hi1 : i1 < 65536) :
    (s.bumpSat o).regAt o1 i1 = s.regAt o1 i1 := State.regAt_setReg_ne s o _ o1 i1 h hi1

theorem State.regAt_bumpAt_ne (o i n o1 i1 : Nat) (h : o1 ≠ o) (hi : i < 65536) (hi1 : i1 < 65536) :
    (s.bumpAt o i n).regAt o1 i1 = s.regAt o1 i1 := State.regAt_setRegAt_ne s o i _ o1 i1 h hi hi1

theorem State.regAt_bumpSatAt_ne (o i o1 i1 : Nat) (h : o1 ≠ o) (hi : i < 65536) (hi1 : i1 < 65536) :
    (s.bumpSatAt o i).regAt o1 i1 = s.regAt o1 i1 := State.regAt_setRegAt_ne s o i _ o1 i1 h hi hi1

/-- An object without a selector after a write under one. -/
theorem State.reg_setRegAt (o i v o1 : Nat) (hi : i < 65536) (h : o1 ≠ o ∨ i ≠ 0) : (s.setRegAt o i v).reg o1 = s.reg o1 := by
  rw [State.reg, State.regAt_setRegAt_small _ _ _ _ _ _ hi (by omega), if_neg (by omega), State.reg]

/-- A counter after one more. -/
@[simp] theorem State.reg_bump (o o1 : Nat) :
    (s.bump o).reg o1 = if o1 = o then (s.reg o + 1) % 2 ^ widthOf o else s.reg o1 := by
  have h := State.reg_setReg s o ((s.reg o + 1) % 2 ^ widthOf o) o1
  exact h

/-- A saturating counter after one more. -/
@[simp] theorem State.reg_bumpSat (o o1 : Nat) :
    (s.bumpSat o).reg o1 = if o1 = o then min (s.reg o + 1) (2 ^ widthOf o - 1) else s.reg o1 := by
  have h := State.reg_setReg s o (min (s.reg o + 1) (2 ^ widthOf o - 1)) o1
  exact h

/-- A counter under a selector after an addition. -/
theorem State.regAt_bumpAt (o i n o1 i1 : Nat) :
    (s.bumpAt o i n).regAt o1 i1 = if regKey o1 i1 = regKey o i then (s.regAt o i + n) % 2 ^ widthOf o else s.regAt o1 i1 :=
  State.regAt_setRegAt _ _ _ _ _ _

/-- Objects put back to their defaults. -/
@[simp] theorem State.reg_clearRegs (l : List Nat) (o : Nat) :
    (s.clearRegs l).reg o = if l.contains o then objDefault o else s.reg o := by
  simp [State.reg, State.regAt, State.clearRegs, regKey, regDefault]

/-- Objects put back to their defaults under every selector of 16 bits. -/
theorem State.regAt_clearRegs (l : List Nat) (o i : Nat) (hi : i < 65536) :
    (s.clearRegs l).regAt o i = if l.contains o then objDefault o else s.regAt o i := by
  have h : (o * 65536 + i) / 65536 = o := by omega
  simp [State.regAt, State.clearRegs, regKey, regDefault, h]

/-- The state of an island after one is set. -/
@[simp] theorem State.island_setIsland (i j : Nat) (m : IslandMode) :
    (s.setIsland i m).island j = if j = i then m else s.island j := by
  simp [State.island, State.setIsland]

/-- A rail after one is replaced. -/
@[simp] theorem State.rail_setRail (n i : Nat) (r : RailState) :
    (s.setRail n r).rail i = if i = n then r else s.rail i := by
  simp [State.rail, State.setRail]

/-- A band after one is replaced. -/
@[simp] theorem State.band_setBand (n i : Nat) (x : BandState) :
    (s.setBand n x).band i = if i = n then x else s.band i := by
  simp [State.band, State.setBand]

/-- A channel after it is replaced. -/
@[simp] theorem State.chan_setChan (c : Channel) (x : ChannelState) : (s.setChan c x).chan c = x := by
  cases c <;> rfl

/-- The other channel after one is replaced. -/
@[simp] theorem State.chan_setChan_other (c : Channel) (x : ChannelState) :
    (s.setChan c x).chan (otherChannel c) = s.chan (otherChannel c) := by
  cases c <;> rfl

/-- A domain after it is replaced. -/
@[simp] theorem State.dom_setDom (d : Dom) (x : DomState) : (s.setDom d x).dom d = x := by
  cases d <;> rfl

/-- A byte of a table after bytes of a table are written. -/
theorem State.tabByte_setTab (o k o1 j : Nat) (bs : Bytes) :
    (s.setTab o k bs).tabByte o1 j =
      if h : tabKey o k ≤ tabKey o1 j ∧ tabKey o1 j - tabKey o k < bs.length then bs[tabKey o1 j - tabKey o k]'h.2
      else s.tabByte o1 j := by
  simp only [State.tabByte, State.setTab, Sparse.get_setList]

/-- A byte of another table after bytes of a table are written. -/
theorem State.tabByte_setTab_ne (o k o1 j : Nat) (bs : Bytes) (h : o1 ≠ o) (hk : k + bs.length ≤ 131072) (hj : j < 131072) :
    (s.setTab o k bs).tabByte o1 j = s.tabByte o1 j := by
  rw [State.tabByte_setTab, dif_neg]
  simp only [tabKey]
  omega

/-- A byte of another table after a table takes its default. -/
theorem State.tabByte_clearTab_ne (o o1 j : Nat) (h : o1 ≠ o) (hj : j < 131072) :
    (s.clearTab o).tabByte o1 j = s.tabByte o1 j := by
  simp only [State.tabByte, State.clearTab, Sparse.get_clear, tabKey]
  rw [if_neg (by omega)]

/-- Bytes of a table are read back as they were written. -/
theorem State.tabBytes_setTab (o k : Nat) (bs : Bytes) : (s.setTab o k bs).tabBytes o k bs.length = bs :=
  Sparse.getList_setList _ _ _ _

/-- LPDDR5, the staging SRAM, the beacon store and the boot flash are read back as they were written. -/
theorem State.memBytes_setMem (a : Nat) (bs : Bytes) : (s.setMem a bs).memBytes a bs.length = bs :=
  Sparse.getList_setList _ _ _ _

theorem State.stagingBytes_setStaging (a : Nat) (bs : Bytes) : (s.setStaging a bs).stagingBytes a bs.length = bs :=
  Sparse.getList_setList _ _ _ _

theorem State.beaconBytes_setBeacon (a : Nat) (bs : Bytes) : (s.setBeacon a bs).beaconBytes a bs.length = bs :=
  Sparse.getList_setList _ _ _ _

theorem State.flashBytes_setFlash (a : Nat) (bs : Bytes) : (s.setFlash a bs).flashBytes a bs.length = bs :=
  Sparse.getList_setList _ _ _ _

/-! ### The memories stay canonical -/

theorem Memory.wf_setMem (a : Nat) (bs : Bytes) (h : Memory.wf s = true) : Memory.wf (s.setMem a bs) = true := by
  simp only [Memory.wf, Bool.and_eq_true] at h ⊢
  exact ⟨⟨⟨Sparse.wf_setList _ _ _ _ h.1.1.1, h.1.1.2⟩, h.1.2⟩, h.2⟩

theorem Memory.wf_setStaging (a : Nat) (bs : Bytes) (h : Memory.wf s = true) : Memory.wf (s.setStaging a bs) = true := by
  simp only [Memory.wf, Bool.and_eq_true] at h ⊢
  exact ⟨⟨⟨h.1.1.1, Sparse.wf_setList _ _ _ _ h.1.1.2⟩, h.1.2⟩, h.2⟩

theorem Memory.wf_setBeacon (a : Nat) (bs : Bytes) (h : Memory.wf s = true) : Memory.wf (s.setBeacon a bs) = true := by
  simp only [Memory.wf, Bool.and_eq_true] at h ⊢
  exact ⟨⟨⟨h.1.1.1, h.1.1.2⟩, Sparse.wf_setList _ _ _ _ h.1.2⟩, h.2⟩

theorem Memory.wf_setFlash (a : Nat) (bs : Bytes) (h : Memory.wf s = true) : Memory.wf (s.setFlash a bs) = true := by
  simp only [Memory.wf, Bool.and_eq_true] at h ⊢
  exact ⟨h.1, Sparse.wf_setList _ _ _ _ h.2⟩

theorem Memory.wf_eraseFlash (lo n : Nat) (h : Memory.wf s = true) : Memory.wf (s.eraseFlash lo n) = true := by
  simp only [Memory.wf, Bool.and_eq_true] at h ⊢
  exact ⟨h.1, Sparse.wf_clear _ _ _ _ h.2⟩

theorem Registers.wf_setRegAt (o i v : Nat) (h : Registers.wf s = true) : Registers.wf (s.setRegAt o i v) = true := by
  simp only [Registers.wf, Bool.and_eq_true] at h ⊢
  exact ⟨Sparse.wf_set _ _ _ _ h.1, h.2⟩

theorem Registers.wf_clearRegs (l : List Nat) (h : Registers.wf s = true) : Registers.wf (s.clearRegs l) = true := by
  simp only [Registers.wf, Bool.and_eq_true] at h ⊢
  exact ⟨Sparse.wf_clearIf regDefault s.regs (fun k => l.contains (k / 65536)) h.1, h.2⟩

theorem Registers.wf_setTab (o k : Nat) (bs : Bytes) (h : Registers.wf s = true) : Registers.wf (s.setTab o k bs) = true := by
  simp only [Registers.wf, Bool.and_eq_true] at h ⊢
  exact ⟨h.1, Sparse.wf_setList _ _ _ _ h.2⟩

theorem Registers.wf_clearTab (o : Nat) (h : Registers.wf s = true) : Registers.wf (s.clearTab o) = true := by
  simp only [Registers.wf, Bool.and_eq_true] at h ⊢
  exact ⟨h.1, Sparse.wf_clear _ _ _ _ h.2⟩

end Sys2Proof.Machine
end

