-- ==== Sys2Proof/Laws/Agent.lean ====
section
/-! SUPPORT. Everything that a host request can do: what taking a request leaves unchanged, what an answer of success
leaves unchanged, and the state after a write that nothing turns away. -/

namespace Sys2Proof.Machine

variable (s : State) (q : Request)

/-! ### Taking a request -/

/-- Taking a request leaves everything but COP_REQUESTS and the count of key rejections (R366, R377). -/
@[simp] theorem State.taken_frame :
    (s.taken q).pending = s.pending ∧ (s.taken q).tabs = s.tabs ∧ (s.taken q).mem = s.mem ∧
    (s.taken q).staging = s.staging ∧ (s.taken q).beacon = s.beacon ∧ (s.taken q).flash = s.flash ∧
    (s.taken q).device = s.device ∧ (s.taken q).fault = s.fault ∧ (s.taken q).time = s.time ∧
    (s.taken q).pipe = s.pipe ∧ (s.taken q).layers = s.layers ∧ (s.taken q).scan = s.scan ∧
    (s.taken q).diag = s.diag ∧ (s.taken q).rails = s.rails ∧ (s.taken q).link = s.link ∧
    (s.taken q).traffic = s.traffic ∧ (s.taken q).memory = s.memory ∧ (s.taken q).safety = s.safety ∧
    (s.taken q).power = s.power ∧ (s.taken q).out = s.out ∧ (s.taken q).ticks = s.ticks ∧
    (s.taken q).freeCtr = s.freeCtr ∧ (s.taken q).cop.keys = s.cop.keys ∧ (s.taken q).cop.record = s.cop.record ∧
    (s.taken q).cop.responses = s.cop.responses ∧ (s.taken q).cop.assemblies = s.cop.assemblies ∧
    (s.taken q).cop.snapshots = s.cop.snapshots ∧ (s.taken q).cop.batch = s.cop.batch ∧
    (s.taken q).cop.held = s.cop.held ∧ (s.taken q).cop.flashJob = s.cop.flashJob ∧
    (s.taken q).cop.flashPaused = s.cop.flashPaused ∧ (s.taken q).cop.verified = s.cop.verified ∧
    (s.taken q).cop.runKeySlot = s.cop.runKeySlot ∧ (s.taken q).cop.runRollback = s.cop.runRollback ∧
    (s.taken q).cop.slot0Revoked = s.cop.slot0Revoked ∧ (s.taken q).cop.rollbackRaised = s.cop.rollbackRaised ∧
    (s.taken q).tabByte = s.tabByte ∧ (s.taken q).tabNat = s.tabNat ∧ (s.taken q).rail = s.rail ∧
    (s.taken q).band = s.band ∧ (s.taken q).memBytes = s.memBytes ∧ (s.taken q).stagingBytes = s.stagingBytes ∧
    (s.taken q).beaconBytes = s.beaconBytes ∧ (s.taken q).flashBytes = s.flashBytes ∧
    (s.taken q).island = s.island ∧ (s.taken q).alive = s.alive ∧ (s.taken q).hasSpace = s.hasSpace := by
  by_cases h : q.rq.role = 0 <;> simp only [State.taken, h, if_true, if_false] <;> repeat' constructor

/-- An object after a request is taken: COP_REQUESTS has counted it. -/
@[simp] theorem State.reg_taken (o : Nat) :
    (s.taken q).reg o = if o = Obj.COP_REQUESTS then (s.reg o + 1) % 2 ^ widthOf o else s.reg o := by
  by_cases h : q.rq.role = 0 <;> by_cases ho : o = Obj.COP_REQUESTS <;> simp [State.taken, h, ho]

/-! ### Answers -/

/-- Sending a response leaves everything but the packets of the device's own and the outputs. -/
@[simp] theorem State.sendResponse_frame (r : Response) :
    (s.sendResponse r).pending = s.pending ∧ (s.sendResponse r).regs = s.regs ∧ (s.sendResponse r).tabs = s.tabs ∧
    (s.sendResponse r).mem = s.mem ∧ (s.sendResponse r).staging = s.staging ∧
    (s.sendResponse r).beacon = s.beacon ∧ (s.sendResponse r).flash = s.flash ∧
    (s.sendResponse r).device = s.device ∧ (s.sendResponse r).cop = s.cop ∧ (s.sendResponse r).fault = s.fault ∧
    (s.sendResponse r).time = s.time ∧ (s.sendResponse r).pipe = s.pipe ∧
    (s.sendResponse r).layers = s.layers ∧ (s.sendResponse r).scan = s.scan ∧
    (s.sendResponse r).diag = s.diag ∧ (s.sendResponse r).rails = s.rails ∧ (s.sendResponse r).link = s.link ∧
    (s.sendResponse r).memory = s.memory ∧ (s.sendResponse r).safety = s.safety ∧
    (s.sendResponse r).power = s.power ∧ (s.sendResponse r).ticks = s.ticks ∧
    (s.sendResponse r).freeCtr = s.freeCtr ∧ (s.sendResponse r).reg = s.reg ∧
    (s.sendResponse r).regAt = s.regAt ∧ (s.sendResponse r).flag = s.flag ∧
    (s.sendResponse r).tabByte = s.tabByte ∧ (s.sendResponse r).tabNat = s.tabNat ∧
    (s.sendResponse r).rail = s.rail ∧ (s.sendResponse r).band = s.band ∧
    (s.sendResponse r).island = s.island ∧ (s.sendResponse r).alive = s.alive ∧
    (s.sendResponse r).traffic.events = s.traffic.events ∧ (s.sendResponse r).flashBytes = s.flashBytes := by
  unfold State.sendResponse
  split
  · split <;> repeat' constructor
  · repeat' constructor
  · repeat' constructor

/-- An answer of success leaves every object, table, memory and unit unchanged: it is kept and sent (R368, R369). -/
@[simp] theorem State.respond_zero_frame (total : Nat) (data : Bytes) :
    (s.respond q 0 total data).pending = s.pending ∧ (s.respond q 0 total data).regs = s.regs ∧
    (s.respond q 0 total data).tabs = s.tabs ∧ (s.respond q 0 total data).mem = s.mem ∧
    (s.respond q 0 total data).staging = s.staging ∧ (s.respond q 0 total data).beacon = s.beacon ∧
    (s.respond q 0 total data).flash = s.flash ∧ (s.respond q 0 total data).device = s.device ∧
    (s.respond q 0 total data).fault = s.fault ∧ (s.respond q 0 total data).time = s.time ∧
    (s.respond q 0 total data).pipe = s.pipe ∧ (s.respond q 0 total data).layers = s.layers ∧
    (s.respond q 0 total data).scan = s.scan ∧ (s.respond q 0 total data).diag = s.diag ∧
    (s.respond q 0 total data).rails = s.rails ∧ (s.respond q 0 total data).link = s.link ∧
    (s.respond q 0 total data).memory = s.memory ∧ (s.respond q 0 total data).safety = s.safety ∧
    (s.respond q 0 total data).power = s.power ∧ (s.respond q 0 total data).ticks = s.ticks ∧
    (s.respond q 0 total data).freeCtr = s.freeCtr ∧ (s.respond q 0 total data).reg = s.reg ∧
    (s.respond q 0 total data).regAt = s.regAt ∧ (s.respond q 0 total data).flag = s.flag ∧
    (s.respond q 0 total data).tabByte = s.tabByte ∧ (s.respond q 0 total data).tabNat = s.tabNat ∧
    (s.respond q 0 total data).rail = s.rail ∧ (s.respond q 0 total data).band = s.band ∧
    (s.respond q 0 total data).island = s.island ∧ (s.respond q 0 total data).alive = s.alive ∧
    (s.respond q 0 total data).traffic.events = s.traffic.events ∧
    (s.respond q 0 total data).cop.keys = s.cop.keys ∧ (s.respond q 0 total data).cop.record = s.cop.record ∧
    (s.respond q 0 total data).cop.keyFails = s.cop.keyFails ∧
    (s.respond q 0 total data).cop.assemblies = s.cop.assemblies ∧
    (s.respond q 0 total data).cop.snapshots = s.cop.snapshots ∧ (s.respond q 0 total data).cop.batch = s.cop.batch ∧
    (s.respond q 0 total data).cop.held = s.cop.held ∧ (s.respond q 0 total data).cop.flashJob = s.cop.flashJob ∧
    (s.respond q 0 total data).cop.flashPaused = s.cop.flashPaused ∧
    (s.respond q 0 total data).cop.verified = s.cop.verified ∧
    (s.respond q 0 total data).cop.runKeySlot = s.cop.runKeySlot ∧
    (s.respond q 0 total data).cop.runRollback = s.cop.runRollback ∧
    (s.respond q 0 total data).cop.slot0Revoked = s.cop.slot0Revoked ∧
    (s.respond q 0 total data).cop.rollbackRaised = s.cop.rollbackRaised := by
  have h0 : ¬ (0 : Nat) = abortAsleep := by decide
  simp only [State.respond, if_true, if_neg h0]
  refine ⟨?_, ?_, ?_, ?_, ?_, ?_, ?_, ?_, ?_, ?_, ?_, ?_, ?_, ?_, ?_, ?_, ?_, ?_, ?_, ?_, ?_, ?_, ?_, ?_, ?_, ?_, ?_,
    ?_, ?_, ?_, ?_, ?_, ?_, ?_, ?_, ?_, ?_, ?_, ?_, ?_, ?_, ?_, ?_, ?_, ?_⟩ <;> simp <;> rfl

/-- The newest answer after any answer is that one. -/
theorem State.respond_answered (abort total : Nat) (data : Bytes) :
    (s.respond q abort total data).answered q.rq abort = true := by
  simp [State.respond, State.answered, keepResponse]

/-- `settle` keeps the answers. -/
@[simp] theorem settle_answered (rq : Req) (a : Nat) : (settle s).answered rq a = s.answered rq a := rfl

/-- Everything that a request that the agent hears can do: it is counted and executed. -/
theorem hostRequest_heard (run : Request → State → State) (h : s.hears q = true) :
    hostRequest run q s = .next (settle (run q (s.taken q))) := by
  simp only [State.hears, State.defined, Bool.and_eq_true, Bool.not_eq_true', Option.isNone_iff_eq_none] at h
  obtain ⟨⟨⟨⟨hdef, hag⟩, hrec⟩, hkey⟩, hheld⟩ := h
  have hreq : request run q s = run q (s.taken q) := by
    simp only [request, hrec, hkey]
    by_cases h0 : q.rq.role = 0
    · simp [State.taken, h0, hheld]
    · simp [State.taken, h0, hheld]
  simp [hostRequest, gate, hdef, hag, hreq]

/-! ### A write that nothing turns away -/

/-- Everything that an admitted host write does: the request is counted, its object acts, and it is answered. -/
theorem hostWrite_admitted (act : Action) (rq : Req) (obj : Nat) (data : Bytes)
    (h : s.admitsWrite rq obj data = true) :
    ∃ r, rowOf obj = some r ∧ hostWrite act rq obj data s = .next (settle (conclude (wholeWrite rq obj data)
      (act ((wholeWrite rq obj data).held r) ((s.taken (wholeWrite rq obj data)).accessed obj)))) := by
  set q := wholeWrite rq obj data with hq
  simp only [State.admitsWrite, State.admits, State.hears, State.defined, ← hq, Bool.and_eq_true, Bool.not_eq_true',
    Option.isNone_iff_eq_none] at h
  obtain ⟨⟨⟨⟨⟨hdef, hag⟩, hrec⟩, hkey⟩, hheld⟩, hrest⟩ := h
  have hobj : q.obj = obj := rfl
  cases hf : s.findObj q.obj with
  | none => simp [hf] at hrest
  | some r =>
    simp only [hf, Bool.and_eq_true, beq_iff_eq] at hrest
    obtain ⟨⟨⟨⟨hright, hreach⟩, hrws⟩, hlen⟩, hseg⟩ := hrest
    have hrow : rowOf obj = some r := by
      simp only [State.findObj, hobj] at hf
      split at hf
      · cases hf
      · exact hf
    refine ⟨r, hrow, ?_⟩
    have hf' : (s.taken q).findObj q.obj = some r := by
      simpa [State.findObj] using hf
    have hreach' : (s.taken q).reach r q.obj = .ready := by
      rw [← hreach]
      simp only [State.reach, State.wakesOnAccess, State.taken_frame, State.reg_taken]
      rw [if_neg (by decide : ¬ Obj.SLEEP_STATE = Obj.COP_REQUESTS), if_neg (by decide : ¬ Obj.WAKE_ON_ACCESS = Obj.COP_REQUESTS)]
      rfl
    have hwr' : (s.taken q).writeAbort r q.obj q.rq.role = 0 := by
      simpa [State.writeAbort] using hright
    have hown' : (s.taken q).barred r q.obj = s.barred r q.obj := by
      simp only [State.barred]
      congr 1
      cases ownerOf r q.obj <;> simp only [State.ownerRuns, State.railsOff, State.taken_frame, State.reg_taken]
      · rw [if_neg (by decide : ¬ Obj.SCAN_STATE = Obj.COP_REQUESTS)]
      · rw [if_neg (by decide : ¬ Obj.MEM_STATE = Obj.COP_REQUESTS)]
    have hperf : performWrite act r q (s.taken q) = act (q.held r) ((s.taken q).accessed obj) := by
      have hb : (s.taken q).barred r q.obj = false := by rw [hown']; simpa using hrws
      simp only [performWrite, hb, hlen]
      rw [hobj]
      simp
    have hexec : executeWrite act q (s.taken q) = conclude q (act (q.held r) ((s.taken q).accessed obj)) := by
      simp only [executeWrite, hf', hwr', hreach', completeWrite]
      simp only [ne_eq, not_true_eq_false, decide_false, Bool.and_false, Bool.false_eq_true, if_false]
      by_cases hsg : segmented r q.obj = true
      · have hsp : q.data.length ≤ 65536 ∧ s.hasSpace q.rq.who = true ∧
            s.cop.assemblies.all (fun a => a.who != q.rq.who) = true := by
          have h1 := hseg
          simp only [State.comesWhole, hsg, Bool.not_true, Bool.false_or, Bool.and_eq_true] at h1
          exact ⟨of_decide_eq_true h1.1.1.2, h1.1.2, h1.2⟩
        have hnone : s.cop.assemblies.find? (fun x => x.who == q.rq.who) = none := by
          rw [List.find?_eq_none]
          intro a ha
          have := List.all_eq_true.mp hsp.2.2 a ha
          simpa using this
        have hsp' : (s.taken q).hasSpace q.rq.who = true := by
          simpa using hsp.2.1
        have hshort : ¬ 65536 < data.length := by
          have := hsp.1
          simp only [hq, wholeWrite] at this
          omega
        have hasm : (s.taken q).assemble q = .whole (s.taken q) q.data := by
          simp only [State.assemble, State.taken_frame, hnone]
          simp [hq, wholeWrite, hshort]
          simpa [hq, wholeWrite] using hsp'
        simp only [hsg, if_true, hasm]
        exact congrArg (conclude q) hperf
      · simp only [hsg]
        exact congrArg (conclude q) hperf
    have hreq : request (executeWrite act) q s = conclude q (act (q.held r) ((s.taken q).accessed obj)) := by
      rw [← hexec]
      simp only [request, hrec, hkey]
      by_cases h0 : q.rq.role = 0
      · have : s.taken q = s.bump Obj.COP_REQUESTS := by simp [State.taken, h0]
        simp [this, h0, hheld]
      · have : s.taken q = (s.bump Obj.COP_REQUESTS).setKeyFail q.rq.role 0 := by simp [State.taken, h0]
        simp [this, h0, hheld]
    simp only [hostWrite, hostRequest, gate, ← hq, hdef, hag, hreq]
    simp

end Sys2Proof.Machine
end

