-- ==== Sys2Proof/Laws/Events.lean ====
section
/-! SUPPORT. Everything that the gates of the events can do: an event that may occur acts and settles, one that cannot
changes nothing, and after EXTEST it faults. -/

namespace Sys2Proof.Machine

variable (s : State) (op : State → State) (ok : State → Bool)

/-- An event that may occur acts, and the live bits settle. -/
theorem gate_next (b : Bool) (h : s.device.extest = false) (hb : b = true) : gate b op s = .next (settle (op s)) := by
  simp [gate, h, hb]

/-- An event that cannot occur changes nothing. -/
theorem gate_idle (b : Bool) (h : s.device.extest = false) (hb : b = false) : gate b op s = .next s := by
  simp [gate, h, hb]

/-- After EXTEST no event is defined (16 R402). -/
theorem gate_fault (b : Bool) (h : s.device.extest = true) : gate b op s = .fault .functionalStateUndefined := by
  simp [gate, h]

/-- Everything that a gate can answer. -/
theorem gate_cases (b : Bool) :
    (s.device.extest = true ∧ gate b op s = .fault .functionalStateUndefined) ∨
    (s.device.extest = false ∧ b = true ∧ gate b op s = .next (settle (op s))) ∨
    (s.device.extest = false ∧ b = false ∧ gate b op s = .next s) := by
  cases he : s.device.extest <;> cases b <;> simp [gate, he]

theorem onIsland_next (i : Nat) (h : s.device.extest = false) (ha : s.alive i = true) :
    onIsland i op s = .next (settle (op s)) := gate_next _ _ _ h ha

theorem onIslandIf_next (i : Nat) (h : s.device.extest = false) (ha : s.alive i = true) (hk : ok s = true) :
    onIslandIf i ok op s = .next (settle (op s)) := gate_next _ _ _ h (by simp [ha, hk])

theorem onAon_next (h : s.device.extest = false) (hf : s.device.frozen = false) (hk : ok s = true) :
    onAon ok op s = .next (settle (op s)) := gate_next _ _ _ h (by simp [hf, hk])

theorem onReset_next (hk : ok s = true) : onReset ok op s = .next (settle (op s)) := by
  simp [onReset, hk]

theorem acts_iff (i : Nat) : s.acts i = true ↔ s.device.extest = false ∧ s.alive i = true := by
  simp [State.acts, State.defined]

/-- An event of an island that may occur acts. -/
theorem onIsland_acts (i : Nat) (h : s.acts i = true) : onIsland i op s = .next (settle (op s)) :=
  onIsland_next s op i ((acts_iff s i).mp h).1 ((acts_iff s i).mp h).2

theorem onIslandIf_acts (i : Nat) (h : s.acts i = true) (hk : ok s = true) : onIslandIf i ok op s = .next (settle (op s)) :=
  onIslandIf_next s op ok i ((acts_iff s i).mp h).1 ((acts_iff s i).mp h).2 hk

/-- A frozen device does nothing on an event of an island (13 R336). -/
theorem onIsland_frozen (i : Nat) (h : s.device.extest = false) (hf : s.device.frozen = true) :
    onIsland i op s = .next s := gate_idle _ _ _ h (by simp [State.alive, hf])

end Sys2Proof.Machine
end

