-- ==== Sys2Proof/Laws/Frames.lean ====
section
/-! SUPPORT. Frames: the frame of an event from what its operation leaves unchanged, and the frame of an admitted host
write from what its action leaves unchanged. -/

namespace Sys2Proof.Machine

/-- A part is the same before the live bits settle. -/
def State.sameRaw (s u : State) : Part → Prop
  | .live => u.fault.live = s.fault.live
  | .regs => s.same u .regs
  | .tabs => s.same u .tabs
  | .mem => s.same u .mem
  | .staging => s.same u .staging
  | .beacon => s.same u .beacon
  | .flash => s.same u .flash
  | .device => s.same u .device
  | .cop => s.same u .cop
  | .answer => s.same u .answer
  | .fault => s.same u .fault
  | .time => s.same u .time
  | .pipe => s.same u .pipe
  | .layers => s.same u .layers
  | .scan => s.same u .scan
  | .diag => s.same u .diag
  | .rails => s.same u .rails
  | .link => s.same u .link
  | .traffic => s.same u .traffic
  | .memory => s.same u .memory
  | .safety => s.same u .safety
  | .power => s.same u .power
  | .out => s.same u .out
  | .clock => s.same u .clock
  | .free => s.same u .free
  | .crossing => s.same u .crossing

/-- The frame of an operation before the live bits settle. -/
def State.frameRaw (s u : State) (parts : List Part) (objs tables : List Nat) : Prop :=
  u.pending = s.pending ∧ (∀ p, p ∉ .regs :: .tabs :: parts → s.sameRaw u p) ∧
  (∀ o i, .regs ∉ parts → o ∉ objs → i < 65536 → u.regAt o i = s.regAt o i) ∧
  (∀ o j, .tabs ∉ parts → o ∉ tables → j < 131072 → u.tabByte o j = s.tabByte o j)

variable {s u : State} {parts : List Part} {objs tables : List Nat}

/-- An event that acts has the frame of its operation. -/
theorem frame_settle (h : s.frameRaw u parts objs tables) : s.frame (settle u) parts objs tables := by
  obtain ⟨h0, hp, hr, ht⟩ := h
  refine ⟨h0, ?_, hr, ht⟩
  intro p hm
  have := hp p hm
  cases p <;> try exact this
  show (settle u).fault.live = s.fault.live.filter (settle u).reporting
  rw [settle_live, settle_reporting]
  exact congrArg (List.filter u.reporting) this

/-- The packets and events that an answer of success leaves. -/
theorem respond_zero_traffic (s : State) (q : Request) (total : Nat) (data : Bytes) :
    { (s.respond q 0 total data).traffic with queue := [] } = { s.traffic with queue := [] } := by
  have h0 : ¬ (0 : Nat) = abortAsleep := by decide
  simp only [State.respond, if_true, if_neg h0, State.sendResponse]
  split
  · split <;> rfl
  · rfl
  · rfl

/-- The state of the agent that an answer of success leaves. -/
theorem respond_zero_cop (s : State) (q : Request) (total : Nat) (data : Bytes) :
    { (s.respond q 0 total data).cop with responses := [], keyFails := [] } =
      { s.cop with responses := [], keyFails := [] } := by
  have h0 : ¬ (0 : Nat) = abortAsleep := by decide
  simp only [State.respond, if_true, if_neg h0, State.sendResponse]
  split
  · split <;> rfl
  · rfl
  · rfl

/-- The objects after a request is taken: COP_REQUESTS has counted it. -/
theorem regs_taken (s : State) (q : Request) : (s.taken q).regs = (s.bump Obj.COP_REQUESTS).regs := by
  unfold State.taken
  split <;> rfl

theorem cop_taken (s : State) (q : Request) :
    { (s.taken q).cop with responses := [], keyFails := [] } = { s.cop with responses := [], keyFails := [] } := by
  unfold State.taken
  split <;> rfl

/-- An admitted host write has the frame of its action, with what H09 has carried. -/
theorem hostFrame_respond (q : Request) (total : Nat) (data : Bytes) (hw : widthOf Obj.COP_REQUESTS = 32)
    (h : (s.taken q).frameRaw u (.crossing :: parts) objs tables)
    (hx : .crossing ∉ parts → ∀ k, k ≠ 9 → u.crossing k = s.crossing k) :
    s.hostFrame (settle (u.respond q 0 total data)) parts objs tables := by
  obtain ⟨h0, hp, hr, ht⟩ := h
  have hdev : (u.respond q 0 total data).device = u.device := by simp
  refine ⟨frame_settle ⟨by simpa using h0, ?_, ?_, ?_⟩, fun hc k hk => ?_, ?_⟩
  · intro p hm
    simp only [List.mem_cons, not_or] at hm
    have h1 := hp p (by simp only [List.mem_cons, not_or]; exact ⟨hm.1, hm.2.1, hm.2.2.2.2.1, hm.2.2.2.2.2⟩)
    cases p <;> first | exact absurd rfl hm.1 | exact absurd rfl hm.2.1 | exact absurd rfl hm.2.2.1 |
      exact absurd rfl hm.2.2.2.1 | exact absurd rfl hm.2.2.2.2.1 | exact (respond_zero_cop _ _ _ _).trans (Eq.trans h1 (cop_taken _ _)) |
      exact (respond_zero_traffic _ _ _ _).trans (by simpa [State.sameRaw, State.same] using h1) |
      simpa [State.sameRaw, State.same] using h1
  · intro o i hreg ho hi
    simp only [List.mem_cons, reduceCtorEq, false_or, not_or] at ho hreg
    have h1 : (u.respond q 0 total data).regAt = u.regAt := by simp
    rw [h1, hr o i (by simpa using hreg) ho.2 hi]
    simp only [State.regAt, regs_taken, State.bump, State.bumpAt, State.setRegAt, Sparse.get_set, regKey]
    rw [if_neg (by omega)]
  · intro o j htab ho hj
    simp only [List.mem_cons, reduceCtorEq, false_or] at htab
    simp only [State.respond_zero_frame]
    simpa using ht o j (by simpa using htab) ho hj
  · rw [← hx hc k hk]
    exact congrArg (fun d : DeviceState => Sparse.get (fun _ => ({} : Crossing)) d.crossings k) hdev
  · intro hreg ho
    have h1 := hr Obj.COP_REQUESTS 0 (by simpa using hreg) ho (by omega)
    have h3 : (settle (u.respond q 0 total data)).reg = u.reg := by simp
    rw [h3]
    have h2 : u.reg Obj.COP_REQUESTS = (s.taken q).reg Obj.COP_REQUESTS := h1
    rw [h2, State.reg_taken, if_pos rfl, hw]

end Sys2Proof.Machine
end

