-- ==== Sys2Proof/WellFormed.lean ====
section
/-! DEFINITION. Well-formed commands: every operand inside the range that its field or instance number has in the
manual. A command outside stands for no event of the hardware. -/

namespace Sys2Proof

/-- A TIME80: U48 seconds and U32 nanoseconds (15 R363). -/
def Time80.wf (t : Time80) : Bool := decide (t.sec < 281474976710656) && decide (t.ns < 4294967296)

/-- A requester: SOURCE 16 bits, or an IPv4 address and a UDP port (15 R369). -/
def Requester.wf : Requester → Bool
  | .rovan source => decide (source < 65536)
  | .t1s address udpPort => decide (address < 4294967296) && decide (udpPort < 65536)

/-- A request envelope: TID 16 bits, ROLE 0 to 3, KEY 64 bits, and a requester of its path (15 R366, R368). -/
def Req.wf (r : Req) : Bool :=
  r.who.wf && decide (r.tid < 65536) && decide (r.role < 4) && decide (r.key < 18446744073709551616) &&
  (match r.via, r.who with
   | .t1s, .t1s _ _ => true
   | .portA, .rovan _ => true
   | .portB, .rovan _ => true
   | .t1s, .rovan _ => false
   | .portA, .t1s _ _ => false
   | .portB, .t1s _ _ => false)

/-- A segment: OFFSET 32 bits (15 R368). -/
def Segment.wf (g : Segment) : Bool := decide (g.offset < 4294967296)

/-- What a pixel read is for (02 R51). -/
def PixelRead.wf : PixelRead → Bool
  | .calRecord pixel => decide (pixel < 1048576)
  | .dose emitter => decide (emitter < 3145728)
  | .layerPixels layer => decide (layer < 8)

/-- A transfer of 02 R42. -/
def Transfer.wf : Transfer → Bool
  | .videoFlit layer => decide (layer < 8)
  | .readResponse what => what.wf
  | .writeRequest _ => true
  | .sliceSegment band node => decide (band < 32) && decide (node < 64)
  | .strokeLoad band => decide (band < 32)
  | .probeResult band node _ cycle => decide (band < 32) && decide (node < 64) && decide (cycle < 256)
  | .catchTime => true
  | .syncCorrection _ => true
  | .copAccess rq opcode index sub => rq.wf && decide (opcode < 256) && decide (index < 65536) && decide (sub < 256)
  | .egressTap band => decide (band < 32)
  | .beaconReplay band => decide (band < 32)

/-- What goes wrong in a row, by column and colour (03 R60). -/
def RowFault.wf : RowFault → Bool
  | .calMissing x => decide (x < 2048)
  | .doseMissing x colour => decide (x < 2048) && decide (colour < 3)
  | .layerMissing layer x => decide (layer < 8) && decide (x < 2048)
  | .bufferCorrected x => decide (x < 2048)
  | .bufferUncorrectable x offset => decide (x < 2048) && decide (offset < 4194304)
  | .tableCorrected => true
  | .tableUncorrectable obj entry offset => decide (obj < 16777216) && decide (entry < 131072) && decide (offset < 1048576)
  | .zoneUncorrectable zone offset => decide (zone < 2048) && decide (offset < 1048576)

/-- ENUM_REPLY fields (05 R131 Table 4). -/
def EnumReply.wf (r : EnumReply) : Bool :=
  decide (r.nodeType < 256) && decide (r.vendor < 65536) && decide (r.part < 65536) && decide (r.revision < 256) &&
  decide (r.dsRepeat < 65536) && decide (r.outDelay < 65536) && decide (r.turnaround < 65536)

/-- One colour of a headroom report (05 R143 Table 8). -/
def HeadroomMin.wf (m : HeadroomMin) : Bool :=
  decide (m.value < 256) && decide (m.node < 256) && decide (m.group < 256)

/-- A headroom report (05 R143). -/
def HeadroomReport.wf (r : HeadroomReport) : Bool :=
  decide (r.stroke < 256) && decide (r.cycle < 256) && r.red.wf && r.green.wf && r.blue.wf

/-- A probe packet: channels 0 to 191, rows 0 to 31, Vf codes 8 bits (05 R145). -/
def ProbePacket.wf (p : ProbePacket) : Bool :=
  decide (p.frameTag < 256) && decide (p.cycle < 256) && decide (p.probed < 65536) && decide (p.seq < 256) &&
  p.fails.all (fun f => decide (f.1 < 192) && decide (f.2.1 < 32)) &&
  p.vfs.all (fun v => decide (v.1 < 192) && decide (v.2.1 < 32))

/-- A PTP port identity. -/
def PtpPort.wf (p : PtpPort) : Bool := decide (p.clock < 18446744073709551616) && decide (p.number < 65536)

/-- The fields of a PTP message in their widths. -/
def PtpBody.wf : PtpBody → Bool
  | .sync origin => origin.all Time80.wf
  | .followUp origin => origin.wf
  | .delayResp receive requester => receive.wf && requester.wf
  | .announce x =>
    decide (x.priority1 < 256) && decide (x.clockClass < 256) && decide (x.accuracy < 256) && decide (x.variance < 65536) &&
    decide (x.priority2 < 256) && decide (x.grandmaster < 18446744073709551616) && decide (x.steps < 65536) &&
    decide (-128 ≤ x.logInterval) && decide (x.logInterval < 128)

/-- A PTP message (08 R215). -/
def PtpMessage.wf (m : PtpMessage) : Bool :=
  decide (m.domain < 256) && m.sender.wf && decide (m.seq < 65536) && m.body.wf

/-- Levels of a lane: `n` PAM4 symbols (09 R229). -/
def levelsWf (n : Nat) (levels : List Nat) : Bool := decide (levels.length = n) && levels.all (· < 4)

/-- A link buffer's SRAM error: one of the 20 blocks, inside the 2 MiB of region 2 (02 R49). -/
def BufferTrouble.wf : BufferTrouble → Bool
  | .none => true
  | .corrected words => decide (words ≤ 160)
  | .uncorrectable block offset => decide (block < 20) && decide (offset < 2097152)

/-- A memory answer (11 R269). -/
def MemTrouble.wf : MemTrouble → Bool
  | .none => true
  | .corrected words stagingWords => decide (words ≤ 64) && decide (stagingWords ≤ 64)
  | .uncorrectable address => decide (address < 17179869184)
  | .stagingUncorrectable offset => decide (offset < 2097152)
  | .noResponse => true

/-- A device burst: rings 0 to 7, a 40-bit tile address, at most 256 bytes (11 R276, R281). -/
def DeviceBurst.wf (d : DeviceBurst) : Bool :=
  decide (d.ring < 8) && decide (d.address < 1099511627776) && decide (d.bytes ≤ 256)

/-- Every operand of the command lies in its range. -/
def Instr.wf : Instr → Bool
  | .copRead rq index sub offset _ => rq.wf && decide (index < 65536) && decide (sub < 256) && decide (offset < 4294967296)
  | .copWrite rq index sub seg _ => rq.wf && decide (index < 65536) && decide (sub < 256) && seg.wf
  | .copStage rq index sub seg _ => rq.wf && decide (index < 65536) && decide (sub < 256) && seg.wf
  | .copCommit rq notBefore => rq.wf && notBefore.all Time80.wf
  | .copAbandon rq => rq.wf
  | .batchIdleTimeout => true
  | .batchNotBeforeReached => true
  | .roleLockExpiry role => decide (role < 4)
  | .responseRecordExpiry => true
  | .keyWrite rq role _ => rq.wf && decide (role < 4)
  | .t1sConfigWrite rq sub _ => rq.wf && decide (sub < 256)
  | .flashWriteComplete _ => true
  | .crossingTimeout x => x.wf
  | .lateAcknowledge crossing _ => decide (1 ≤ crossing) && decide (crossing ≤ 11)
  | .islandClockRunning island => decide (island < 9)
  | .wakeHoldExpiry island => decide (island < 9)
  | .gateAcknowledge island => decide (island < 9)
  | .clockCheckWindow _ _ => true
  | .sramCountersClear rq _ => rq.wf
  | .catchIssue => true
  | .pipelineRowCompute faults => faults.all RowFault.wf
  | .ingestProfileWrite rq profile sub _ => rq.wf && decide (profile < 4) && decide (sub < 256)
  | .targetPrimariesWrite rq _ => rq.wf
  | .ingestRecomputeComplete profile => decide (profile < 4)
  | .thermalReset rq _ => rq.wf
  | .pipelineCountersClear rq _ => rq.wf
  | .beaconFillComplete _ => true
  | .xMapFill rq _ => rq.wf
  | .layerCreate rq _ => rq.wf
  | .layerDestroy rq _ => rq.wf
  | .layerSubmit rq _ => rq.wf
  | .fenceSignal rq _ => rq.wf
  | .l7Arm rq _ => rq.wf
  | .l7Disarm rq _ => rq.wf
  | .layerCountersClear rq _ => rq.wf
  | .scanStart rq _ => rq.wf
  | .bandAlignTimeout band => decide (band < 32)
  | .enumReplyRx band reply _ => decide (band < 32) && reply.wf
  | .enumReplyTimeout band => decide (band < 32)
  | .markerRx band node _ => decide (band < 32) && decide (node < 64)
  | .regDataRx band node reg value _ => decide (band < 32) && decide (node < 64) && decide (reg < 256) && decide (value < 65536)
  | .timingSymbolSend band => decide (band < 32)
  | .sliceRowSend band node _ _ => decide (band < 32) && decide (node < 64)
  | .sliceStatusRx band node frameTag rowMask _ => decide (band < 32) && decide (node < 64) && decide (frameTag < 256) && decide (rowMask < 4294967296)
  | .ackDeadline => true
  | .nodeSettingsSend band => decide (band < 32)
  | .headroomReportRx band report => decide (band < 32) && report.wf
  | .headroomAcceptDeadline band => decide (band < 32)
  | .probePacketRx band node packet => decide (band < 32) && decide (node < 64) && packet.wf
  | .scanStop rq _ => rq.wf
  | .scanStopComplete => true
  | .scanCountersClear rq _ => rq.wf
  | .vfSample emitter code _ => decide (emitter < 3145728) && decide (code < 4096)
  | .calWriteback emitter _ => decide (emitter < 3145728)
  | .defectAdd rq _ => rq.wf
  | .defectClear rq _ => rq.wf
  | .defectClearAll rq _ => rq.wf
  | .defectTableWrite rq _ => rq.wf
  | .vfRefReset rq _ => rq.wf
  | .railStart rq _ => rq.wf
  | .railStop rq _ => rq.wf
  | .railClear rq _ => rq.wf
  | .coefCommit rq _ => rq.wf
  | .railModeWrite rq rail _ => rq.wf && decide (rail < 48)
  | .railFastSample rail rawV rawI => decide (rail < 48) && decide (rawV < 4096) && decide (rawI < 4096)
  | .engineJobComplete rail _ => decide (rail < 48)
  | .jobOverrun rail _ => decide (rail < 48)
  | .ffPredictionRx band row => decide (band < 32) && decide (row < 32)
  | .feedbackLossDetect rail => decide (rail < 48)
  | .holdRecovery rail => decide (rail < 48)
  | .holdTimeout rail => decide (rail < 48)
  | .overVoltage rail => decide (rail < 48)
  | .overCurrentTrip rail => decide (rail < 48)
  | .railStartTimeout rail => decide (rail < 48)
  | .rampDownEnd rail => decide (rail < 48)
  | .headroomSafe rail => decide (rail < 48)
  | .headroomResume rail => decide (rail < 48)
  | .adcRotationStep _ => true
  | .adcHandover _ _ => true
  | .adcCalibrationDone _ low high => decide (low < 65536) && decide (high < 65536)
  | .adcTrimsWrite rq _ => rq.wf
  | .railCountersClear rq _ => rq.wf
  | .syncOriginate _ => true
  | .delayMeasure _ => true
  | .delayReqRx _ turnaround => decide (turnaround < 4294967296)
  | .delayRespRx _ _ => true
  | .syncRx _ _ => true
  | .ptpMessageRx message => message.wf
  | .ptpTxTimestamp seq messageType => decide (seq < 65536) && decide (messageType < 16)
  | .ptpTxqPop rq => rq.wf
  | .sourceTimeout _ => true
  | .domSet rq _ _ => rq.wf
  | .domAdjust rq _ _ => rq.wf
  | .domSourceWrite rq _ _ => rq.wf
  | .activeDomainWrite rq _ => rq.wf
  | .timeCountersClear rq _ => rq.wf
  | .linkPortEnableWrite rq _ => rq.wf
  | .linkRetrain rq _ => rq.wf
  | .portTestEnter rq _ _ => rq.wf
  | .portTestExit rq _ _ => rq.wf
  | .signalDetect _ lane => decide (lane < 2)
  | .lossOfSignal _ lane => decide (lane < 2)
  | .markerLock _ levels0 levels1 _ => levelsWf 32 levels0 && levelsWf 32 levels1
  | .trainingControlWordRx _ lane word => decide (lane < 2) && decide (word < 18446744073709551616)
  | .adaptComplete _ _ _ _ _ => true
  | .verifyWindowEnd _ _ _ => true
  | .dataModeStart _ => true
  | .alignmentCodewordRx _ levels0 levels1 => levelsWf 1360 levels0 && levelsWf 1360 levels1
  | .fecCodewordRx _ levels0 levels1 _ trouble => levelsWf 1360 levels0 && levelsWf 1360 levels1 && trouble.wf
  | .uncorrectableRun _ => true
  | .alignmentLost _ => true
  | .identifyTimeout _ => true
  | .adaptTimeout _ => true
  | .fecLockTimeout _ => true
  | .trainTimeout _ => true
  | .holdoffExpiry _ => true
  | .serSecond => true
  | .linkCountersClear rq _ => rq.wf
  | .videoPacketRx _ => true
  | .controlPacketRx _ => true
  | .fencePacketRx _ => true
  | .chainEnumRx _ => true
  | .announceRx _ => true
  | .coxElection => true
  | .breakRx _ => true
  | .poisonRx _ => true
  | .packetForward _ => true
  | .localPacketSend _ => true
  | .wakeSend rq _ => rq.wf
  | .wakePatternEnd _ => true
  | .trafficCountersClear rq _ => rq.wf
  | .memStart rq _ => rq.wf
  | .memStartComplete density0 density1 _ => decide (density0 < 256) && decide (density1 < 256)
  | .scrubStep _ _ _ => true
  | .ringCreate rq _ => rq.wf
  | .ringDestroy rq _ => rq.wf
  | .ringHalt rq _ => rq.wf
  | .ringResume rq _ => rq.wf
  | .ringTailWrite rq ring _ => rq.wf && decide (ring < 64)
  | .ringFifoWrite rq ring _ => rq.wf && decide (ring < 64)
  | .ringFifoRead rq ring => rq.wf && decide (ring < 64)
  | .regionEntryWrite rq _ => rq.wf
  | .descriptorFetch ring trouble writeBack => decide (ring < 64) && trouble.wf && writeBack.wf
  | .burstIssue device => device.all DeviceBurst.wf
  | .burstComplete ring trouble writeBack => decide (ring < 64) && trouble.wf && writeBack.wf
  | .memResponseTimeout ring writeBack => decide (ring < 64) && writeBack.wf
  | .fifoTimeout ring writeBack => decide (ring < 64) && writeBack.wf
  | .memCountersClear rq _ => rq.wf
  | .safetyInputRecognised _ _ _ => true
  | .discrepancyTimeout _ _ => true
  | .beaconPatrol => true
  | .beaconPatrolComplete _ _ => true
  | .evacImageSave rq _ => rq.wf
  | .watchdogTimeout => true
  | .millbrakeStatusRead _ => true
  | .millbrakeCycle => true
  | .safetyTripClear rq _ => rq.wf
  | .ambientLuxWrite rq _ => rq.wf
  | .ambientTimeout => true
  | .outputTestPulseStart _ => true
  | .outputTestPulseEnd _ _ => true
  | .outputTestReadback _ _ => true
  | .railfbMismatch _ => true
  | .outputTestOverdue _ => true
  | .faultSourceRise source => decide (source < 96)
  | .pairDiscrepantConfirm source => decide (source < 96)
  | .faultPulseEnd source => decide (source < 96)
  | .faultClear rq _ => rq.wf
  | .faultForceWrite rq _ => rq.wf
  | .faultReactionWrite rq _ => rq.wf
  | .faultCountersClear rq _ => rq.wf
  | .freezePin => true
  | .jtagFreeze => true
  | .jtagFrzRead => true
  | .jtagKeysClear => true
  | .jtagExtest => true
  | .jtagSamplePreload => true
  | .jtagIdcode => true
  | .jtagBypass opcode => decide (opcode < 256)
  | .jtagTapReset => true
  | .perfLevelWrite rq _ => rq.wf
  | .avsAcknowledge => true
  | .avsTimeout _ => true
  | .hkSample _ => true
  | .orderlyStopEnd => true
  | .thermalClear rq _ => rq.wf
  | .hoverHoldEnd => true
  | .marginPlan => true
  | .sleepEnterS1 rq => rq.wf
  | .sleepEnterS2 rq => rq.wf
  | .sleepEnterS3 rq => rq.wf
  | .sleepExitS1 rq => rq.wf
  | .sleepEntryComplete => true
  | .wakeNLow => true
  | .evacPinWake _ => true
  | .safeBlankPinWake _ _ => true
  | .wakePatternDetect _ _ => true
  | .linkActivityDetect _ _ => true
  | .t1sActivityDetect => true
  | .wakeTimerExpiry => true
  | .sleepExit _ => true
  | .coreSupplyInWindow => true
  | .firmwareRunning => true
  | .powerOnResetRelease => true
  | .xtal32Start straps => decide (straps < 16)
  | .xtal32StartTimeout straps => decide (straps < 16)
  | .resetNLow _ => true
  | .resetNRelease straps => decide (straps < 16)
  | .resetHoldLong _ => true
  | .coreBrownOut => true
  | .coreSupplyRestored => true
  | .fwUpdateBegin rq _ => rq.wf
  | .fwImage rq seg _ => rq.wf && seg.wf
  | .fwUpdateVerify rq _ => rq.wf
  | .fwActivateNextReset rq => rq.wf
  | .fwActivateNow rq => rq.wf
  | .fwConfirm rq _ => rq.wf
  | .fwRollbackCommit rq _ => rq.wf
  | .fwKeyRevoke rq _ => rq.wf
  | .calFlashSave rq _ => rq.wf
  | .calFlashLoad rq _ => rq.wf
  | .calFlashComplete _ => true
  | .faultLogWrite rq _ => rq.wf
  | .powerOnReset => true
  | .prbsCheckerLock _ lane _ => decide (lane < 2)
  | .upstreamCommaAlignment band => decide (band < 32)
  | .watchdogPairInversion _ => true
  | .pairDiscrepancyEnd source => decide (source < 96)
  | .pllUnlock island => decide (island < 9)
  | .pllRelock island => decide (island < 9)
  | .coxMachineCheck offset => decide (offset < 4294967296)
  | .arpRequestRx target senderMac senderIp => decide (target < 4294967296) && decide (senderMac < 281474976710656) && decide (senderIp < 4294967296)
  | .icmpEchoRequestRx target senderIp _ => decide (target < 4294967296) && decide (senderIp < 4294967296)
  | .ptpDelayReqSend => true

end Sys2Proof
end

