-- ==== Sys2Proof/Laws/PerInstr.lean ====
section
/-! SUPPORT. One lemma for each command: a well-formed command that brings a request to the object agent brings one with
a well-formed envelope and an opcode of the message header (15 R366, R368). -/

namespace Sys2Proof.Laws.Envelope
open Sys2Proof Sys2Proof.Machine

/-- What a command carries to the object agent, if anything, is a request of R368. -/
def Statement (i : Instr) : Prop :=
  ∀ q, requestOf i = some q → i.wf = true → q.rq.wf = true ∧ 1 ≤ q.opcode ∧ q.opcode ≤ 5

/-- The statement from the request itself. -/
theorem carried {i : Instr} {q : Request} (h : requestOf i = some q) (w : i.wf = true → q.rq.wf = true)
    (o : Nat.ble 1 q.opcode && Nat.ble q.opcode 5) : Statement i := by
  intro p hp hw
  rw [h] at hp
  cases hp
  simp only [Bool.and_eq_true, Nat.ble_eq] at o
  exact ⟨w hw, o.1, o.2⟩

theorem copRead (rq : Req) (index sub offset : Nat) (snapshot : Bool) : Statement (.copRead rq index sub offset snapshot) :=
  carried rfl (fun w => by simp only [Instr.wf, Bool.and_eq_true] at w; exact w.1.1.1) rfl
theorem copWrite (rq : Req) (index sub : Nat) (seg : Segment) (data : Bytes) : Statement (.copWrite rq index sub seg data) :=
  carried rfl (fun w => by simp only [Instr.wf, Bool.and_eq_true] at w; exact w.1.1.1) rfl
theorem copStage (rq : Req) (index sub : Nat) (seg : Segment) (data : Bytes) : Statement (.copStage rq index sub seg data) :=
  carried rfl (fun w => by simp only [Instr.wf, Bool.and_eq_true] at w; exact w.1.1.1) rfl
theorem copCommit (rq : Req) (notBefore : Option Time80) : Statement (.copCommit rq notBefore) :=
  carried rfl (fun w => by simp only [Instr.wf, Bool.and_eq_true] at w; exact w.1) rfl
theorem copAbandon (rq : Req) : Statement (.copAbandon rq) :=
  carried rfl (fun w => w) rfl
theorem batchIdleTimeout : Statement .batchIdleTimeout := fun _ h => nomatch h
theorem batchNotBeforeReached : Statement .batchNotBeforeReached := fun _ h => nomatch h
theorem roleLockExpiry (role : Nat) : Statement (.roleLockExpiry role) := fun _ h => nomatch h
theorem responseRecordExpiry : Statement .responseRecordExpiry := fun _ h => nomatch h
theorem keyWrite (rq : Req) (role : Nat) (data : Bytes) : Statement (.keyWrite rq role data) :=
  carried rfl (fun w => by simp only [Instr.wf, Bool.and_eq_true] at w; exact w.1) rfl
theorem t1sConfigWrite (rq : Req) (sub : Nat) (data : Bytes) : Statement (.t1sConfigWrite rq sub data) :=
  carried rfl (fun w => by simp only [Instr.wf, Bool.and_eq_true] at w; exact w.1) rfl
theorem flashWriteComplete (ok : Bool) : Statement (.flashWriteComplete ok) := fun _ h => nomatch h
theorem crossingTimeout (x : Transfer) : Statement (.crossingTimeout x) := fun _ h => nomatch h
theorem lateAcknowledge (crossing : Nat) (tag : Bool) : Statement (.lateAcknowledge crossing tag) := fun _ h => nomatch h
theorem islandClockRunning (island : Nat) : Statement (.islandClockRunning island) := fun _ h => nomatch h
theorem wakeHoldExpiry (island : Nat) : Statement (.wakeHoldExpiry island) := fun _ h => nomatch h
theorem gateAcknowledge (island : Nat) : Statement (.gateAcknowledge island) := fun _ h => nomatch h
theorem clockCheckWindow (refCount xtalCount : Nat) : Statement (.clockCheckWindow refCount xtalCount) := fun _ h => nomatch h
theorem sramCountersClear (rq : Req) (data : Bytes) : Statement (.sramCountersClear rq data) :=
  carried rfl (fun w => w) rfl
theorem catchIssue : Statement .catchIssue := fun _ h => nomatch h
theorem pipelineRowCompute (faults : List RowFault) : Statement (.pipelineRowCompute faults) := fun _ h => nomatch h
theorem ingestProfileWrite (rq : Req) (profile sub : Nat) (data : Bytes) : Statement (.ingestProfileWrite rq profile sub data) :=
  carried rfl (fun w => by simp only [Instr.wf, Bool.and_eq_true] at w; exact w.1.1) rfl
theorem targetPrimariesWrite (rq : Req) (data : Bytes) : Statement (.targetPrimariesWrite rq data) :=
  carried rfl (fun w => w) rfl
theorem ingestRecomputeComplete (profile : Nat) : Statement (.ingestRecomputeComplete profile) := fun _ h => nomatch h
theorem thermalReset (rq : Req) (data : Bytes) : Statement (.thermalReset rq data) :=
  carried rfl (fun w => w) rfl
theorem pipelineCountersClear (rq : Req) (data : Bytes) : Statement (.pipelineCountersClear rq data) :=
  carried rfl (fun w => w) rfl
theorem beaconFillComplete (spoiled : Bool) : Statement (.beaconFillComplete spoiled) := fun _ h => nomatch h
theorem xMapFill (rq : Req) (data : Bytes) : Statement (.xMapFill rq data) :=
  carried rfl (fun w => w) rfl
theorem layerCreate (rq : Req) (data : Bytes) : Statement (.layerCreate rq data) :=
  carried rfl (fun w => w) rfl
theorem layerDestroy (rq : Req) (data : Bytes) : Statement (.layerDestroy rq data) :=
  carried rfl (fun w => w) rfl
theorem layerSubmit (rq : Req) (data : Bytes) : Statement (.layerSubmit rq data) :=
  carried rfl (fun w => w) rfl
theorem fenceSignal (rq : Req) (data : Bytes) : Statement (.fenceSignal rq data) :=
  carried rfl (fun w => w) rfl
theorem l7Arm (rq : Req) (data : Bytes) : Statement (.l7Arm rq data) :=
  carried rfl (fun w => w) rfl
theorem l7Disarm (rq : Req) (data : Bytes) : Statement (.l7Disarm rq data) :=
  carried rfl (fun w => w) rfl
theorem layerCountersClear (rq : Req) (data : Bytes) : Statement (.layerCountersClear rq data) :=
  carried rfl (fun w => w) rfl
theorem scanStart (rq : Req) (data : Bytes) : Statement (.scanStart rq data) :=
  carried rfl (fun w => w) rfl
theorem bandAlignTimeout (band : Nat) : Statement (.bandAlignTimeout band) := fun _ h => nomatch h
theorem enumReplyRx (band : Nat) (reply : EnumReply) (check : UpCheck) : Statement (.enumReplyRx band reply check) := fun _ h => nomatch h
theorem enumReplyTimeout (band : Nat) : Statement (.enumReplyTimeout band) := fun _ h => nomatch h
theorem markerRx (band node roundTrip : Nat) : Statement (.markerRx band node roundTrip) := fun _ h => nomatch h
theorem regDataRx (band node reg value : Nat) (check : UpCheck) : Statement (.regDataRx band node reg value check) := fun _ h => nomatch h
theorem timingSymbolSend (band : Nat) : Statement (.timingSymbolSend band) := fun _ h => nomatch h
theorem sliceRowSend (band node corrected : Nat) (errors : List Nat) : Statement (.sliceRowSend band node corrected errors) := fun _ h => nomatch h
theorem sliceStatusRx (band node frameTag rowMask : Nat) (check : UpCheck) : Statement (.sliceStatusRx band node frameTag rowMask check) := fun _ h => nomatch h
theorem ackDeadline : Statement .ackDeadline := fun _ h => nomatch h
theorem nodeSettingsSend (band : Nat) : Statement (.nodeSettingsSend band) := fun _ h => nomatch h
theorem headroomReportRx (band : Nat) (report : HeadroomReport) : Statement (.headroomReportRx band report) := fun _ h => nomatch h
theorem headroomAcceptDeadline (band : Nat) : Statement (.headroomAcceptDeadline band) := fun _ h => nomatch h
theorem probePacketRx (band node : Nat) (packet : ProbePacket) : Statement (.probePacketRx band node packet) := fun _ h => nomatch h
theorem scanStop (rq : Req) (data : Bytes) : Statement (.scanStop rq data) :=
  carried rfl (fun w => w) rfl
theorem scanStopComplete : Statement .scanStopComplete := fun _ h => nomatch h
theorem scanCountersClear (rq : Req) (data : Bytes) : Statement (.scanCountersClear rq data) :=
  carried rfl (fun w => w) rfl
theorem vfSample (emitter code : Nat) (arrives : Bool) : Statement (.vfSample emitter code arrives) := fun _ h => nomatch h
theorem calWriteback (emitter : Nat) (arrives : Bool) : Statement (.calWriteback emitter arrives) := fun _ h => nomatch h
theorem defectAdd (rq : Req) (data : Bytes) : Statement (.defectAdd rq data) :=
  carried rfl (fun w => w) rfl
theorem defectClear (rq : Req) (data : Bytes) : Statement (.defectClear rq data) :=
  carried rfl (fun w => w) rfl
theorem defectClearAll (rq : Req) (data : Bytes) : Statement (.defectClearAll rq data) :=
  carried rfl (fun w => w) rfl
theorem defectTableWrite (rq : Req) (data : Bytes) : Statement (.defectTableWrite rq data) :=
  carried rfl (fun w => w) rfl
theorem vfRefReset (rq : Req) (data : Bytes) : Statement (.vfRefReset rq data) :=
  carried rfl (fun w => w) rfl
theorem railStart (rq : Req) (data : Bytes) : Statement (.railStart rq data) :=
  carried rfl (fun w => w) rfl
theorem railStop (rq : Req) (data : Bytes) : Statement (.railStop rq data) :=
  carried rfl (fun w => w) rfl
theorem railClear (rq : Req) (data : Bytes) : Statement (.railClear rq data) :=
  carried rfl (fun w => w) rfl
theorem coefCommit (rq : Req) (data : Bytes) : Statement (.coefCommit rq data) :=
  carried rfl (fun w => w) rfl
theorem railModeWrite (rq : Req) (rail : Nat) (data : Bytes) : Statement (.railModeWrite rq rail data) :=
  carried rfl (fun w => by simp only [Instr.wf, Bool.and_eq_true] at w; exact w.1) rfl
theorem railFastSample (rail rawV rawI : Nat) : Statement (.railFastSample rail rawV rawI) := fun _ h => nomatch h
theorem engineJobComplete (rail : Nat) (job : Job) : Statement (.engineJobComplete rail job) := fun _ h => nomatch h
theorem jobOverrun (rail : Nat) (job : Job) : Statement (.jobOverrun rail job) := fun _ h => nomatch h
theorem ffPredictionRx (band row : Nat) : Statement (.ffPredictionRx band row) := fun _ h => nomatch h
theorem feedbackLossDetect (rail : Nat) : Statement (.feedbackLossDetect rail) := fun _ h => nomatch h
theorem holdRecovery (rail : Nat) : Statement (.holdRecovery rail) := fun _ h => nomatch h
theorem holdTimeout (rail : Nat) : Statement (.holdTimeout rail) := fun _ h => nomatch h
theorem overVoltage (rail : Nat) : Statement (.overVoltage rail) := fun _ h => nomatch h
theorem overCurrentTrip (rail : Nat) : Statement (.overCurrentTrip rail) := fun _ h => nomatch h
theorem railStartTimeout (rail : Nat) : Statement (.railStartTimeout rail) := fun _ h => nomatch h
theorem rampDownEnd (rail : Nat) : Statement (.rampDownEnd rail) := fun _ h => nomatch h
theorem headroomSafe (rail : Nat) : Statement (.headroomSafe rail) := fun _ h => nomatch h
theorem headroomResume (rail : Nat) : Statement (.headroomResume rail) := fun _ h => nomatch h
theorem adcRotationStep (bank : Bank) : Statement (.adcRotationStep bank) := fun _ h => nomatch h
theorem adcHandover (bank : Bank) (meanDiff : Nat) : Statement (.adcHandover bank meanDiff) := fun _ h => nomatch h
theorem adcCalibrationDone (bank : Bank) (low high : Nat) : Statement (.adcCalibrationDone bank low high) := fun _ h => nomatch h
theorem adcTrimsWrite (rq : Req) (data : Bytes) : Statement (.adcTrimsWrite rq data) :=
  carried rfl (fun w => w) rfl
theorem railCountersClear (rq : Req) (data : Bytes) : Statement (.railCountersClear rq data) :=
  carried rfl (fun w => w) rfl
theorem syncOriginate (dom : Dom) : Statement (.syncOriginate dom) := fun _ h => nomatch h
theorem delayMeasure (port : Port) : Statement (.delayMeasure port) := fun _ h => nomatch h
theorem delayReqRx (port : Port) (turnaround : Nat) : Statement (.delayReqRx port turnaround) := fun _ h => nomatch h
theorem delayRespRx (port : Port) (roundTrip : Nat) : Statement (.delayRespRx port roundTrip) := fun _ h => nomatch h
theorem syncRx (port : Port) (residence : Nat) : Statement (.syncRx port residence) := fun _ h => nomatch h
theorem ptpMessageRx (message : PtpMessage) : Statement (.ptpMessageRx message) := fun _ h => nomatch h
theorem ptpTxTimestamp (seq messageType : Nat) : Statement (.ptpTxTimestamp seq messageType) := fun _ h => nomatch h
theorem ptpTxqPop (rq : Req) : Statement (.ptpTxqPop rq) :=
  carried rfl (fun w => w) rfl
theorem sourceTimeout (dom : Dom) : Statement (.sourceTimeout dom) := fun _ h => nomatch h
theorem domSet (rq : Req) (dom : Dom) (data : Bytes) : Statement (.domSet rq dom data) :=
  carried rfl (fun w => w) rfl
theorem domAdjust (rq : Req) (dom : Dom) (data : Bytes) : Statement (.domAdjust rq dom data) :=
  carried rfl (fun w => w) rfl
theorem domSourceWrite (rq : Req) (dom : Dom) (data : Bytes) : Statement (.domSourceWrite rq dom data) :=
  carried rfl (fun w => w) rfl
theorem activeDomainWrite (rq : Req) (data : Bytes) : Statement (.activeDomainWrite rq data) :=
  carried rfl (fun w => w) rfl
theorem timeCountersClear (rq : Req) (data : Bytes) : Statement (.timeCountersClear rq data) :=
  carried rfl (fun w => w) rfl
theorem linkPortEnableWrite (rq : Req) (data : Bytes) : Statement (.linkPortEnableWrite rq data) :=
  carried rfl (fun w => w) rfl
theorem linkRetrain (rq : Req) (data : Bytes) : Statement (.linkRetrain rq data) :=
  carried rfl (fun w => w) rfl
theorem portTestEnter (rq : Req) (port : Port) (data : Bytes) : Statement (.portTestEnter rq port data) :=
  carried rfl (fun w => w) rfl
theorem portTestExit (rq : Req) (port : Port) (data : Bytes) : Statement (.portTestExit rq port data) :=
  carried rfl (fun w => w) rfl
theorem signalDetect (port : Port) (lane : Nat) : Statement (.signalDetect port lane) := fun _ h => nomatch h
theorem lossOfSignal (port : Port) (lane : Nat) : Statement (.lossOfSignal port lane) := fun _ h => nomatch h
theorem markerLock (port : Port) (levels0 levels1 : List Nat) (skew : Int) : Statement (.markerLock port levels0 levels1 skew) := fun _ h => nomatch h
theorem trainingControlWordRx (port : Port) (lane word : Nat) : Statement (.trainingControlWordRx port lane word) := fun _ h => nomatch h
theorem adaptComplete (port : Port) (snr0 snr1 ctle0 ctle1 : Nat) : Statement (.adaptComplete port snr0 snr1 ctle0 ctle1) := fun _ h => nomatch h
theorem verifyWindowEnd (port : Port) (errors0 errors1 : Nat) : Statement (.verifyWindowEnd port errors0 errors1) := fun _ h => nomatch h
theorem dataModeStart (port : Port) : Statement (.dataModeStart port) := fun _ h => nomatch h
theorem alignmentCodewordRx (port : Port) (levels0 levels1 : List Nat) : Statement (.alignmentCodewordRx port levels0 levels1) := fun _ h => nomatch h
theorem fecCodewordRx (port : Port) (levels0 levels1 : List Nat) (drift : Int) (trouble : BufferTrouble) : Statement (.fecCodewordRx port levels0 levels1 drift trouble) := fun _ h => nomatch h
theorem uncorrectableRun (port : Port) : Statement (.uncorrectableRun port) := fun _ h => nomatch h
theorem alignmentLost (port : Port) : Statement (.alignmentLost port) := fun _ h => nomatch h
theorem identifyTimeout (port : Port) : Statement (.identifyTimeout port) := fun _ h => nomatch h
theorem adaptTimeout (port : Port) : Statement (.adaptTimeout port) := fun _ h => nomatch h
theorem fecLockTimeout (port : Port) : Statement (.fecLockTimeout port) := fun _ h => nomatch h
theorem trainTimeout (port : Port) : Statement (.trainTimeout port) := fun _ h => nomatch h
theorem holdoffExpiry (port : Port) : Statement (.holdoffExpiry port) := fun _ h => nomatch h
theorem serSecond : Statement .serSecond := fun _ h => nomatch h
theorem linkCountersClear (rq : Req) (data : Bytes) : Statement (.linkCountersClear rq data) :=
  carried rfl (fun w => w) rfl
theorem videoPacketRx (port : Port) : Statement (.videoPacketRx port) := fun _ h => nomatch h
theorem controlPacketRx (port : Port) : Statement (.controlPacketRx port) := fun _ h => nomatch h
theorem fencePacketRx (port : Port) : Statement (.fencePacketRx port) := fun _ h => nomatch h
theorem chainEnumRx (port : Port) : Statement (.chainEnumRx port) := fun _ h => nomatch h
theorem announceRx (port : Port) : Statement (.announceRx port) := fun _ h => nomatch h
theorem coxElection : Statement .coxElection := fun _ h => nomatch h
theorem breakRx (port : Port) : Statement (.breakRx port) := fun _ h => nomatch h
theorem poisonRx (port : Port) : Statement (.poisonRx port) := fun _ h => nomatch h
theorem packetForward (port : Port) : Statement (.packetForward port) := fun _ h => nomatch h
theorem localPacketSend (port : Port) : Statement (.localPacketSend port) := fun _ h => nomatch h
theorem wakeSend (rq : Req) (data : Bytes) : Statement (.wakeSend rq data) :=
  carried rfl (fun w => w) rfl
theorem wakePatternEnd (port : Port) : Statement (.wakePatternEnd port) := fun _ h => nomatch h
theorem trafficCountersClear (rq : Req) (data : Bytes) : Statement (.trafficCountersClear rq data) :=
  carried rfl (fun w => w) rfl
theorem memStart (rq : Req) (data : Bytes) : Statement (.memStart rq data) :=
  carried rfl (fun w => w) rfl
theorem memStartComplete (density0 density1 : Nat) (trained : Bool) : Statement (.memStartComplete density0 density1 trained) := fun _ h => nomatch h
theorem scrubStep (corrected : Nat) (uncorrectable : Option Nat) (newer : Bool) : Statement (.scrubStep corrected uncorrectable newer) := fun _ h => nomatch h
theorem ringCreate (rq : Req) (data : Bytes) : Statement (.ringCreate rq data) :=
  carried rfl (fun w => w) rfl
theorem ringDestroy (rq : Req) (data : Bytes) : Statement (.ringDestroy rq data) :=
  carried rfl (fun w => w) rfl
theorem ringHalt (rq : Req) (data : Bytes) : Statement (.ringHalt rq data) :=
  carried rfl (fun w => w) rfl
theorem ringResume (rq : Req) (data : Bytes) : Statement (.ringResume rq data) :=
  carried rfl (fun w => w) rfl
theorem ringTailWrite (rq : Req) (ring : Nat) (data : Bytes) : Statement (.ringTailWrite rq ring data) :=
  carried rfl (fun w => by simp only [Instr.wf, Bool.and_eq_true] at w; exact w.1) rfl
theorem ringFifoWrite (rq : Req) (ring : Nat) (data : Bytes) : Statement (.ringFifoWrite rq ring data) :=
  carried rfl (fun w => by simp only [Instr.wf, Bool.and_eq_true] at w; exact w.1) rfl
theorem ringFifoRead (rq : Req) (ring : Nat) : Statement (.ringFifoRead rq ring) :=
  carried rfl (fun w => by simp only [Instr.wf, Bool.and_eq_true] at w; exact w.1) rfl
theorem regionEntryWrite (rq : Req) (data : Bytes) : Statement (.regionEntryWrite rq data) :=
  carried rfl (fun w => w) rfl
theorem descriptorFetch (ring : Nat) (trouble writeBack : MemTrouble) : Statement (.descriptorFetch ring trouble writeBack) := fun _ h => nomatch h
theorem burstIssue (device : List DeviceBurst) : Statement (.burstIssue device) := fun _ h => nomatch h
theorem burstComplete (ring : Nat) (trouble writeBack : MemTrouble) : Statement (.burstComplete ring trouble writeBack) := fun _ h => nomatch h
theorem memResponseTimeout (ring : Nat) (writeBack : MemTrouble) : Statement (.memResponseTimeout ring writeBack) := fun _ h => nomatch h
theorem fifoTimeout (ring : Nat) (writeBack : MemTrouble) : Statement (.fifoTimeout ring writeBack) := fun _ h => nomatch h
theorem memCountersClear (rq : Req) (data : Bytes) : Statement (.memCountersClear rq data) :=
  carried rfl (fun w => w) rfl
theorem safetyInputRecognised (channel : Channel) (pin : SafetyPin) (level : Bool) : Statement (.safetyInputRecognised channel pin level) := fun _ h => nomatch h
theorem discrepancyTimeout (channel : Channel) (input : DualInput) : Statement (.discrepancyTimeout channel input) := fun _ h => nomatch h
theorem beaconPatrol : Statement .beaconPatrol := fun _ h => nomatch h
theorem beaconPatrolComplete (corrected : Nat) (uncorrectable : List Nat) : Statement (.beaconPatrolComplete corrected uncorrectable) := fun _ h => nomatch h
theorem evacImageSave (rq : Req) (data : Bytes) : Statement (.evacImageSave rq data) :=
  carried rfl (fun w => w) rfl
theorem watchdogTimeout : Statement .watchdogTimeout := fun _ h => nomatch h
theorem millbrakeStatusRead (answered : Bool) : Statement (.millbrakeStatusRead answered) := fun _ h => nomatch h
theorem millbrakeCycle : Statement .millbrakeCycle := fun _ h => nomatch h
theorem safetyTripClear (rq : Req) (data : Bytes) : Statement (.safetyTripClear rq data) :=
  carried rfl (fun w => w) rfl
theorem ambientLuxWrite (rq : Req) (data : Bytes) : Statement (.ambientLuxWrite rq data) :=
  carried rfl (fun w => w) rfl
theorem ambientTimeout : Statement .ambientTimeout := fun _ h => nomatch h
theorem outputTestPulseStart (channel : Channel) : Statement (.outputTestPulseStart channel) := fun _ h => nomatch h
theorem outputTestPulseEnd (channel : Channel) (feedback : Bool) : Statement (.outputTestPulseEnd channel feedback) := fun _ h => nomatch h
theorem outputTestReadback (channel : Channel) (feedback : Bool) : Statement (.outputTestReadback channel feedback) := fun _ h => nomatch h
theorem railfbMismatch (channel : Channel) : Statement (.railfbMismatch channel) := fun _ h => nomatch h
theorem outputTestOverdue (channel : Channel) : Statement (.outputTestOverdue channel) := fun _ h => nomatch h
theorem faultSourceRise (source : Nat) : Statement (.faultSourceRise source) := fun _ h => nomatch h
theorem pairDiscrepantConfirm (source : Nat) : Statement (.pairDiscrepantConfirm source) := fun _ h => nomatch h
theorem faultPulseEnd (source : Nat) : Statement (.faultPulseEnd source) := fun _ h => nomatch h
theorem faultClear (rq : Req) (data : Bytes) : Statement (.faultClear rq data) :=
  carried rfl (fun w => w) rfl
theorem faultForceWrite (rq : Req) (data : Bytes) : Statement (.faultForceWrite rq data) :=
  carried rfl (fun w => w) rfl
theorem faultReactionWrite (rq : Req) (data : Bytes) : Statement (.faultReactionWrite rq data) :=
  carried rfl (fun w => w) rfl
theorem faultCountersClear (rq : Req) (data : Bytes) : Statement (.faultCountersClear rq data) :=
  carried rfl (fun w => w) rfl
theorem freezePin : Statement .freezePin := fun _ h => nomatch h
theorem jtagFreeze : Statement .jtagFreeze := fun _ h => nomatch h
theorem jtagFrzRead : Statement .jtagFrzRead := fun _ h => nomatch h
theorem jtagKeysClear : Statement .jtagKeysClear := fun _ h => nomatch h
theorem jtagExtest : Statement .jtagExtest := fun _ h => nomatch h
theorem jtagSamplePreload : Statement .jtagSamplePreload := fun _ h => nomatch h
theorem jtagIdcode : Statement .jtagIdcode := fun _ h => nomatch h
theorem jtagBypass (opcode : Nat) : Statement (.jtagBypass opcode) := fun _ h => nomatch h
theorem jtagTapReset : Statement .jtagTapReset := fun _ h => nomatch h
theorem perfLevelWrite (rq : Req) (data : Bytes) : Statement (.perfLevelWrite rq data) :=
  carried rfl (fun w => w) rfl
theorem avsAcknowledge : Statement .avsAcknowledge := fun _ h => nomatch h
theorem avsTimeout (coreMillivolts : Nat) : Statement (.avsTimeout coreMillivolts) := fun _ h => nomatch h
theorem hkSample (value : Int) : Statement (.hkSample value) := fun _ h => nomatch h
theorem orderlyStopEnd : Statement .orderlyStopEnd := fun _ h => nomatch h
theorem thermalClear (rq : Req) (data : Bytes) : Statement (.thermalClear rq data) :=
  carried rfl (fun w => w) rfl
theorem hoverHoldEnd : Statement .hoverHoldEnd := fun _ h => nomatch h
theorem marginPlan : Statement .marginPlan := fun _ h => nomatch h
theorem sleepEnterS1 (rq : Req) : Statement (.sleepEnterS1 rq) :=
  carried rfl (fun w => w) rfl
theorem sleepEnterS2 (rq : Req) : Statement (.sleepEnterS2 rq) :=
  carried rfl (fun w => w) rfl
theorem sleepEnterS3 (rq : Req) : Statement (.sleepEnterS3 rq) :=
  carried rfl (fun w => w) rfl
theorem sleepExitS1 (rq : Req) : Statement (.sleepExitS1 rq) :=
  carried rfl (fun w => w) rfl
theorem sleepEntryComplete : Statement .sleepEntryComplete := fun _ h => nomatch h
theorem wakeNLow : Statement .wakeNLow := fun _ h => nomatch h
theorem evacPinWake (channel : Channel) : Statement (.evacPinWake channel) := fun _ h => nomatch h
theorem safeBlankPinWake (channel : Channel) (released : Bool) : Statement (.safeBlankPinWake channel released) := fun _ h => nomatch h
theorem wakePatternDetect (port : Port) (lengths : List Nat) : Statement (.wakePatternDetect port lengths) := fun _ h => nomatch h
theorem linkActivityDetect (port : Port) (periods : Nat) : Statement (.linkActivityDetect port periods) := fun _ h => nomatch h
theorem t1sActivityDetect : Statement .t1sActivityDetect := fun _ h => nomatch h
theorem wakeTimerExpiry : Statement .wakeTimerExpiry := fun _ h => nomatch h
theorem sleepExit (image : ImageCheck) : Statement (.sleepExit image) := fun _ h => nomatch h
theorem coreSupplyInWindow : Statement .coreSupplyInWindow := fun _ h => nomatch h
theorem firmwareRunning : Statement .firmwareRunning := fun _ h => nomatch h
theorem powerOnResetRelease : Statement .powerOnResetRelease := fun _ h => nomatch h
theorem xtal32Start (straps : Nat) : Statement (.xtal32Start straps) := fun _ h => nomatch h
theorem xtal32StartTimeout (straps : Nat) : Statement (.xtal32StartTimeout straps) := fun _ h => nomatch h
theorem resetNLow (nanoseconds : Nat) : Statement (.resetNLow nanoseconds) := fun _ h => nomatch h
theorem resetNRelease (straps : Nat) : Statement (.resetNRelease straps) := fun _ h => nomatch h
theorem resetHoldLong (milliseconds : Nat) : Statement (.resetHoldLong milliseconds) := fun _ h => nomatch h
theorem coreBrownOut : Statement .coreBrownOut := fun _ h => nomatch h
theorem coreSupplyRestored : Statement .coreSupplyRestored := fun _ h => nomatch h
theorem fwUpdateBegin (rq : Req) (data : Bytes) : Statement (.fwUpdateBegin rq data) :=
  carried rfl (fun w => w) rfl
theorem fwImage (rq : Req) (seg : Segment) (data : Bytes) : Statement (.fwImage rq seg data) :=
  carried rfl (fun w => by simp only [Instr.wf, Bool.and_eq_true] at w; exact w.1) rfl
theorem fwUpdateVerify (rq : Req) (data : Bytes) : Statement (.fwUpdateVerify rq data) :=
  carried rfl (fun w => w) rfl
theorem fwActivateNextReset (rq : Req) : Statement (.fwActivateNextReset rq) :=
  carried rfl (fun w => w) rfl
theorem fwActivateNow (rq : Req) : Statement (.fwActivateNow rq) :=
  carried rfl (fun w => w) rfl
theorem fwConfirm (rq : Req) (data : Bytes) : Statement (.fwConfirm rq data) :=
  carried rfl (fun w => w) rfl
theorem fwRollbackCommit (rq : Req) (data : Bytes) : Statement (.fwRollbackCommit rq data) :=
  carried rfl (fun w => w) rfl
theorem fwKeyRevoke (rq : Req) (data : Bytes) : Statement (.fwKeyRevoke rq data) :=
  carried rfl (fun w => w) rfl
theorem calFlashSave (rq : Req) (data : Bytes) : Statement (.calFlashSave rq data) :=
  carried rfl (fun w => w) rfl
theorem calFlashLoad (rq : Req) (data : Bytes) : Statement (.calFlashLoad rq data) :=
  carried rfl (fun w => w) rfl
theorem calFlashComplete (ok : Bool) : Statement (.calFlashComplete ok) := fun _ h => nomatch h
theorem faultLogWrite (rq : Req) (data : Bytes) : Statement (.faultLogWrite rq data) :=
  carried rfl (fun w => w) rfl
theorem powerOnReset : Statement .powerOnReset := fun _ h => nomatch h
theorem prbsCheckerLock (port : Port) (lane : Nat) (inverted : Bool) : Statement (.prbsCheckerLock port lane inverted) := fun _ h => nomatch h
theorem upstreamCommaAlignment (band : Nat) : Statement (.upstreamCommaAlignment band) := fun _ h => nomatch h
theorem watchdogPairInversion (corrected : Nat) : Statement (.watchdogPairInversion corrected) := fun _ h => nomatch h
theorem pairDiscrepancyEnd (source : Nat) : Statement (.pairDiscrepancyEnd source) := fun _ h => nomatch h
theorem pllUnlock (island : Nat) : Statement (.pllUnlock island) := fun _ h => nomatch h
theorem pllRelock (island : Nat) : Statement (.pllRelock island) := fun _ h => nomatch h
theorem coxMachineCheck (offset : Nat) : Statement (.coxMachineCheck offset) := fun _ h => nomatch h
theorem arpRequestRx (target : Nat) (senderMac senderIp : Nat) : Statement (.arpRequestRx target senderMac senderIp) := fun _ h => nomatch h
theorem icmpEchoRequestRx (target senderIp : Nat) (payload : Bytes) : Statement (.icmpEchoRequestRx target senderIp payload) := fun _ h => nomatch h
theorem ptpDelayReqSend : Statement .ptpDelayReqSend := fun _ h => nomatch h

end Sys2Proof.Laws.Envelope
end

