-- ==== Sys2Proof/Laws/Safety.lean ====
section
/-! SUPPORT. Everything that withdrawing, granting and tripping can do (12 R292, R297, R298): which parts of the state
they touch, and the channels they leave. -/

namespace Sys2Proof.Machine

/-- A fold keeps what each of its steps keeps. -/
theorem foldN_keeps {α β : Type} (f : α → Nat → α) (p : α → β) (h : ∀ a n, p (f a n) = p a) (n : Nat) (a : α) :
    p (foldN n f a) = p a := by
  unfold foldN
  induction List.range n generalizing a with
  | nil => rfl
  | cons x l ih => rw [List.foldl_cons, ih, h]

/-- A fold over a list keeps what each of its steps keeps. -/
theorem foldl_keeps {α β γ : Type} (f : α → γ → α) (p : α → β) (h : ∀ a x, p (f a x) = p a) (l : List γ) (a : α) :
    p (l.foldl f a) = p a := by
  induction l generalizing a with
  | nil => rfl
  | cons x l ih => rw [List.foldl_cons, ih, h]

variable (s : State)

/-- Ramping down touches the rails alone (07 R200). -/
theorem rampDownRails_eq (mask : Nat) : rampDownRails mask s = { s with rails := (rampDownRails mask s).rails } := by
  have h1 : { rampDownRails mask s with rails := ({} : RailsState) } = { s with rails := ({} : RailsState) } := by
    refine foldN_keeps _ (fun t : State => { t with rails := ({} : RailsState) }) ?_ 48 s
    intro a n
    have h2 : rampDownRail n a = a ∨ ∃ r, rampDownRail n a = a.setRail n r := by
      unfold rampDownRail
      dsimp only
      split
      · exact .inl rfl
      · exact .inr ⟨_, rfl⟩
    cases hb : bitAt mask n
    · rfl
    · rw [if_pos rfl]
      obtain h3 | ⟨r, h3⟩ := h2
      · rw [h3]
      · rw [h3]
        rfl
  exact congrArg (fun t : State => { t with rails := (rampDownRails mask s).rails }) h1

theorem rampDownAll_eq : rampDownAll s = { s with rails := (rampDownAll s).rails } := rampDownRails_eq s _

/-- The safety functions without their channels. -/
def SafetyState.rest (x : SafetyState) : SafetyState := { x with chanA := {}, chanB := {} }

/-- Everything that abandoning a test can do (R318). -/
theorem abandonTest_cases (c : Channel) :
    abandonTest c s = (s.setChan c { s.chan c with test := .idle }).bump Obj.OUTPUT_TEST_ABANDONS ∨
    abandonTest c s = s.setChan c { s.chan c with test := .idle } ∨
    (s.chan c).test ≠ .pulse ∧ (s.chan c).test ≠ .readback ∧ abandonTest c s = s := by
  unfold abandonTest
  dsimp only
  split_ifs with h1 h2
  · exact .inl rfl
  · exact .inr (.inl rfl)
  · exact .inr (.inr ⟨h1, h2, rfl⟩)

/-- Abandoning a test touches the channel's test and OUTPUT_TEST_ABANDONS alone (R318). -/
theorem abandonTest_frame (c : Channel) :
    (abandonTest c s).chan c = { s.chan c with test := .idle } ∧
    (abandonTest c s).chan (otherChannel c) = s.chan (otherChannel c) ∧
    (abandonTest c s).safety.rest = s.safety.rest ∧
    { abandonTest c s with regs := [], safety := {} } = { s with regs := [], safety := {} } := by
  have hx : ∀ x : ChannelState, x.test ≠ .pulse → x.test ≠ .readback → x = { x with test := .idle } := by
    intro x h1 h2
    cases x with
    | mk a b d e f g i t => cases t <;> simp_all
  obtain h | h | ⟨h1, h2, h⟩ := abandonTest_cases s c
  · rw [h]
    cases c <;> exact ⟨rfl, rfl, rfl, rfl⟩
  · rw [h]
    cases c <;> exact ⟨rfl, rfl, rfl, rfl⟩
  · rw [h]
    exact ⟨hx _ h1 h2, rfl, rfl, rfl⟩

theorem abandonTest_regAt (c : Channel) (o i : Nat) (ho : o ≠ Obj.OUTPUT_TEST_ABANDONS) (hi : i < 65536) :
    (abandonTest c s).regAt o i = s.regAt o i := by
  unfold abandonTest
  dsimp only
  split_ifs
  · rw [State.regAt_bump_ne _ _ _ _ ho hi]
    cases c <;> rfl
  · cases c <;> rfl
  · rfl

/-- What a channel is after its permission is withdrawn (R292, R318). -/
def withdrawn (x : ChannelState) : ChannelState :=
  if x.permission then { x with permission := false, railen := false, test := .idle } else x

theorem withdrawn_permission (x : ChannelState) : (withdrawn x).permission = false := by
  unfold withdrawn
  split <;> simp_all

theorem withdrawn_railen (x : ChannelState) (h : x.permission = true) : (withdrawn x).railen = false := by
  simp [withdrawn, h]

/-- Withdrawing touches the rails, OUTPUT_TEST_ABANDONS and the channel, whose permission and output it drops. -/
theorem withdraw_frame (c : Channel) :
    (withdraw c s).chan c = withdrawn (s.chan c) ∧
    (withdraw c s).chan (otherChannel c) = s.chan (otherChannel c) ∧
    (withdraw c s).safety.rest = s.safety.rest ∧
    { withdraw c s with regs := [], safety := {}, rails := {} } = { s with regs := [], safety := {}, rails := {} } := by
  by_cases hp : (s.chan c).permission = true
  · have h : withdraw c s = rampDownAll
        ((abandonTest c s).setChan c { (abandonTest c s).chan c with permission := false, railen := false }) := by
      simp [withdraw, hp]
    obtain ⟨h1, h2, h3, h4⟩ := abandonTest_frame s c
    have h5 : withdrawn (s.chan c) = { (abandonTest c s).chan c with permission := false, railen := false } := by
      simp [withdrawn, hp, h1]
    rw [h, rampDownAll_eq, h5]
    generalize (rampDownAll _).rails = x
    refine ⟨?_, ?_, ?_, ?_⟩
    · cases c <;> rfl
    · rw [← h2]
      cases c <;> rfl
    · rw [← h3]
      cases c <;> rfl
    · refine Eq.trans ?_ (congrArg (fun t : State => { t with rails := ({} : RailsState) }) h4)
      cases c <;> rfl
  · have h : withdraw c s = s := by simp [withdraw, hp]
    rw [h]
    exact ⟨by simp [withdrawn, hp], rfl, rfl, rfl⟩

theorem withdraw_regAt (c : Channel) (o i : Nat) (ho : o ≠ Obj.OUTPUT_TEST_ABANDONS) (hi : i < 65536) :
    (withdraw c s).regAt o i = s.regAt o i := by
  unfold withdraw
  split
  · rfl
  · dsimp only
    rw [rampDownAll_eq]
    generalize (rampDownAll _).rails = x
    refine Eq.trans ?_ (abandonTest_regAt s c o i ho hi)
    cases c <;> rfl

/-- The first operation of a trip: the cause is latched (R298). -/
def tripLatch (cause : Nat) : State :=
  { s.setReg Obj.SAFETY_TRIP_CAUSE cause with safety := { s.safety with trips := insertOnce cause s.safety.trips } }

/-- A new trip latches its cause and withdraws both permissions; a safe blank that it begins hides an evacuation display;
nothing is granted and no blank ends (R298, R299). -/
theorem trip_eq (cause : Nat) (h : s.safety.trips.contains cause = false) :
    trip cause s = if s.safeBlank then withdraw .b (withdraw .a (tripLatch s cause))
      else hideEvac (withdraw .b (withdraw .a (tripLatch s cause))) := by
  have hne : (tripLatch s cause).safety.trips ≠ [] := by
    unfold tripLatch insertOnce
    rw [h]
    simp
  have hm : ∀ c, (tripLatch s cause).mayPermit c = false := by
    intro c
    unfold State.mayPermit
    have : (tripLatch s cause).safety.trips.isEmpty = false := by simpa [List.isEmpty_iff] using hne
    rw [this]
    simp
  have hap : applyPermissions (tripLatch s cause) = withdraw .b (withdraw .a (tripLatch s cause)) := by
    unfold applyPermissions
    simp [hm]
  have hr := (withdraw_frame (withdraw .a (tripLatch s cause)) .b).2.2.1
  rw [(withdraw_frame (tripLatch s cause) .a).2.2.1] at hr
  have htr : (withdraw .b (withdraw .a (tripLatch s cause))).safety.trips = (tripLatch s cause).safety.trips := by
    have := congrArg SafetyState.trips hr
    exact this
  have hsb : (applyPermissions (tripLatch s cause)).safeBlank = true := by
    rw [hap]
    unfold State.safeBlank
    rw [htr]
    have : (tripLatch s cause).safety.trips.isEmpty = false := by simpa [List.isEmpty_iff] using hne
    rw [this]
    simp
  unfold trip
  rw [if_neg (by rw [h]; simp)]
  unfold withSafety
  have he : ({ s.setReg Obj.SAFETY_TRIP_CAUSE cause with
      safety := { s.safety with trips := insertOnce cause s.safety.trips } } : State) = tripLatch s cause := rfl
  simp only [he, hsb]
  rw [hap]
  cases s.safeBlank <;> simp

end Sys2Proof.Machine
end

