-- ==== Sys2Proof/Tests/Slice0.lean ====
section
/-! SUPPORT. The package's own tests: for every statement with hypotheses, concrete states and operands that meet them;
single steps whose results are worked out from the manual; and for every check of well-formedness a command that it
refuses. -/

namespace Sys2Proof.Tests
open Sys2Proof Sys2Proof.Machine

set_option Elab.async false

/-! ### States and operands -/

/-- A running device: after reset with every island supplied and clocked. -/
def up : State := { State.reset with device := { State.reset.device with phase := .running, islands := [], corePwrEn := true } }
/-- The owner's request over Rovan port A. -/
def host : Req := { via := .portA, who := .rovan 5, tid := 1, role := 3, key := 0 }
/-- A whole value of an object, all zero. -/
def blank (o : Nat) : Bytes :=
  match rowOf o with
  | some r => (match r.ty with
    | .fixed n => natLE n 0
    | .bool => natLE 1 0
    | .domain n => natLE n 0
    | .cmd => natLE 4 0)
  | none => []
def ram : State := (up.setReg Obj.MEM_STATE 2).setReg Obj.MEM_USABLE_BYTES 0x100000000
def upA : State := up.setReg (Obj.PORT_STATE 0) 7
def bothUp : State := upA.setReg (Obj.PORT_STATE 1) 7
def inState (p : Nat) : State := up.setReg (Obj.PORT_STATE 0) p
def withBand (b : Nat) (x : BandState) : State := (up.setReg Obj.BAND_COUNT 32).setBand b x
def withRail (n : Nat) (x : RailState) : State := up.setRail n x
def withChan (x : ChannelState) : State := up.setChan .b x
def pk (kind dest : Nat) (fields payload : Bytes) : Packet := { kind := kind, hops := 3, dest := dest, source := 9, fields := fields, payload := payload, bodyOk := true, marked := 0 }
def seg1 : Segment := { isFirst := true, isLast := true, offset := 0 }
def row (o : Nat) : ObjRow := (rowOf o).getD { sub := 0, ty := .bool, mask := 0, access := .ro, dflt := 0, role := 0, owner := .none, aon := false }
def frame0 : FrameWork := { k := 1, evac := false, startTime := 0, showTime := 0, regs := [], tabs := [], profiles := [], views := [], accumulate := false }
def req0 : Request := wholeWrite host Obj.KEY_OWNER (natLE 8 1)
def prb : ProbePacket := { frameTag := 1, cycle := 0, probed := 0, seq := 0, isLast := true, fails := [], vfs := [], check := .good }
def hm : HeadroomMin := { value := 0, node := 0, group := 0 }
def rep (ok : Bool) : HeadroomReport := { stroke := 0, cycle := 0, red := hm, green := hm, blue := hm, check := if ok then .good else .badCrc }
def supOk : InputState := { pinA := false, pinB := true }
def chanOk : ChannelState := { evaluated := true, safeBlank := supOk, permission := true, railen := true }
def released : State := { up with safety := { up.safety with chanA := chanOk, chanB := chanOk } }
def ringUp (st : Nat) : State := ram.setReg (Obj.RING_STATE 8) st
def dsc (src dst len flags : Nat) : Bytes := natLE 5 src ++ natLE 3 0 ++ natLE 5 dst ++ natLE 3 0 ++ natLE 3 len ++ natLE 1 0 ++ natLE 1 flags ++ natLE 11 0
def brst (r fault : Nat) : Burst := { ring := r, cls := 2, tile := 0x1000, length := 16, dstStaging := false, dst := 0x1000, srcStaging := false, src := 0, reads := true, write := true, fault := fault }
def goodWord : Nat := 1 + 2 ^ 56 * crc8 (natLE 7 1)
def amBytes (c : Nat) : Bytes := [0x5A#8, 0x3C#8, 0xE1#8, 0x96#8, 0xA5#8, 0xC3#8, 0x1E#8, 0x69#8, 0#8] ++ natLE 1 c ++ List.replicate 22 0#8
def vid (flags w h : Nat) (payload : Bytes) : Packet := pk 1 0xFFFF (natLE 2 1 ++ natLE 1 0 ++ natLE 1 flags ++ natLE 4 7 ++ natLE 2 0 ++ natLE 2 0 ++ natLE 2 w ++ natLE 2 h ++ natLE 4 0) payload
def streamUp0 : State := ((((((ram.setReg (Obj.PORT_STATE 0) 7).setReg (Obj.PORT_STATE 1) 7).setReg (Obj.LAYER_STATE 6) 1).setReg (Obj.LAYER_SOURCE 6) 1).setReg (Obj.LAYER_STREAM_ID 6) 1).setReg (Obj.LAYER_BUF_WIDTH 6 0) 8).setReg (Obj.LAYER_BUF_HEIGHT 6 0) 8 |>.setReg (Obj.LAYER_BUF_STRIDE 6 0) 64 |>.setReg Obj.SOURCE_PORT 0
def streamUp : State := streamUp0.setLayer 6 { streamUp0.layer 6 with stream := some 1 }
def fen (k v : Nat) : Packet := pk 3 0xFFFF (natLE 1 k ++ natLE 3 0 ++ natLE 4 v ++ natLE 12 0) []
def ctl (m : Bytes) : Packet := pk 2 0xFFFF (natLE 20 0) m
def msg (ver op idx sub flags : Nat) (data : Bytes) : Bytes := natLE 1 ver ++ natLE 1 op ++ natLE 2 5 ++ natLE 2 idx ++ natLE 1 sub ++ natLE 1 flags ++ natLE 8 0 ++ natLE 4 0 ++ natLE 2 data.length ++ natLE 2 0 ++ data
def chainPk (kind e n x : Nat) : Packet := pk kind 0xFFFF (natLE 4 e ++ natLE 1 n ++ natLE 1 x ++ natLE 14 0) []
def annPk (e serial tile pos rv cls : Nat) : Packet := pk 0x21 0xFFFF (natLE 4 e ++ natLE 8 serial ++ natLE 2 tile ++ natLE 1 pos ++ natLE 1 rv ++ natLE 1 cls ++ natLE 3 0) []
def ann1 : Announce := { serial := 4, tile := 0x200, position := 3, reverse := 0, cls := 0 }
def trf (s : State) (x : TrafficState) : State := { s with traffic := x }
def demandIn : InputState := { pinA := true, pinB := false, lastDemand := true }
def chanOff : ChannelState := { chanOk with permission := false, railen := false, safeBlank := demandIn }
def safe (a b : ChannelState) : State := { up with safety := { up.safety with chanA := a, chanB := b } }
def evOk : State := safe chanOk chanOk
def evIn : ChannelState := { chanOk with evac := { pinA := true, pinB := true, counted := true } }
def ring1 (x : RingState) (st : Nat) : State := (ringUp st).setRing 8 x
def fetchable (d : Bytes) : State := (((ringUp 2).setReg (Obj.RING_TAIL 8) 1).setReg (Obj.RING_BASE 8) 0x2000).setTarget ⟨0, false, 0x2000⟩ d
def midway (d : Bytes) (b : Burst) (x : RingState) : State := { fetchable d with memory := { (fetchable d).memory with inflight := [b], rings := [(8, { x with descriptor := some d })] } }
def headBytes : Bytes := [1#8, 0#8, 1#8] ++ List.replicate 249 0#8
def beaconUp : State := up.setBeacon 0 (headBytes ++ natLE 4 1611100465)
def patrol (x : State) : State := { x with safety := { x.safety with patrolling := true } }
def calRec : Bytes := List.replicate 28 0#8 ++ natLE 4 (crc32 (List.replicate 28 0#8))
def bt (c : Bool) (es : List BatchEntry) : Batch := { owner := host.who, entries := es, committed := c, notBefore := none, commitTick := 0 }
def withBatch (b : Batch) (s : State) : State := { s with cop := { s.cop with batch := some b } }
def rxOf (k : Packet) : List RxBlock := (k.header k.payload.length :: payloadBlocks k.payload).map fun b => { block := b }
def got (p : Port) (k : Packet) (s : State) : State := s.modStream p fun x => { x with rx := {} :: rxOf k ++ [{}] }
def dset : PtpDataset := { priority1 := 1, clockClass := 6, accuracy := 1, variance := 1, priority2 := 1, grandmaster := 9, steps := 0, logInterval := 0 }
def mport : PtpPort := { clock := 9, number := 1 }
def msgOf (b : PtpBody) : PtpMessage := { domain := 0, sender := mport, seq := 4, correction := 2, body := b }
def ptpUp (f : PtpState → PtpState) (s : State) : State := (((s.setFlag Obj.PTP_ENABLE true).setReg Obj.PTP_DOMAIN_NUMBER 0).setReg (Obj.DOM_SOURCE 0) 2 |>.setReg Obj.PTP_TIME_DOMAIN 0).modPtp fun p => f { p with masters := [{ port := mport, data := dset, last := 0, before := some 0 }] }
def amWord (c : Nat) : List Nat × List Nat := sendLevels (alignmentBlocks 0 c 0) 0 0
def idleWord : List Nat × List Nat := sendLevels (idles 20) 0 0

/-- `n` zero bytes. -/
def zs (n : Nat) : Bytes := List.replicate n 0#8

/-- The header's CRC-32, over its 252 bytes piece by piece. -/
theorem test_headCrc : crc32 headBytes = 1611100465 := by
  have h : headBytes = [1#8, 0#8, 1#8] ++ (zs 28 ++ (zs 28 ++ (zs 28 ++ (zs 28 ++ (zs 28 ++ (zs 28 ++ (zs 28 ++ (zs 28 ++ zs 25)))))))) := by
    decide +kernel
  have h0 : [1#8, 0#8, 1#8].foldl crc32Byte 0xFFFFFFFF#32 = 1987804236#32 := by decide +kernel
  have h1 : (zs 28).foldl crc32Byte 1987804236#32 = 4212548282#32 := by decide +kernel
  have h2 : (zs 28).foldl crc32Byte 4212548282#32 = 1222395338#32 := by decide +kernel
  have h3 : (zs 28).foldl crc32Byte 1222395338#32 = 3237824371#32 := by decide +kernel
  have h4 : (zs 28).foldl crc32Byte 3237824371#32 = 252194006#32 := by decide +kernel
  have h5 : (zs 28).foldl crc32Byte 252194006#32 = 20627352#32 := by decide +kernel
  have h6 : (zs 28).foldl crc32Byte 20627352#32 = 1620940596#32 := by decide +kernel
  have h7 : (zs 28).foldl crc32Byte 1620940596#32 = 1385455635#32 := by decide +kernel
  have h8 : (zs 28).foldl crc32Byte 1385455635#32 = 2794763299#32 := by decide +kernel
  have h9 : (zs 25).foldl crc32Byte 2794763299#32 = 2683866830#32 := by decide +kernel
  unfold crc32
  rw [h]
  simp only [List.foldl_append, h0, h1, h2, h3, h4, h5, h6, h7, h8, h9]
  decide

/-- The beacon store of the witness is sound. -/
theorem test_storeSound : (patrol beaconUp).storeSound = true := by
  have h : (patrol beaconUp).beaconBytes 0 252 = headBytes := by decide +kernel
  have r : (List.range 32).all (fun b => (patrol beaconUp).referenceOf b == (patrol beaconUp).bandRef b) = true := by
    decide +kernel
  have n : (patrol beaconUp).beaconNat 252 4 = 1611100465 := by decide +kernel
  have v : (patrol beaconUp).beaconHead.version = 1 ∧ (patrol beaconUp).beaconHead.valid = true := by decide +kernel
  simp only [State.storeSound, h, test_headCrc, n, v.1, v.2, r, beq_self_eq_true, Bool.and_self]

/-! ### Witnesses of the statements -/

theorem witness_ResetHoldsEveryDefault :
    (∃ (sel : Nat), sel < 65536) ∧
    (∃ (j : Nat), j < 131072) ∧
    (∃ (i : Nat), i < 8) :=
  ⟨⟨0, by decide +kernel⟩,
   ⟨0, by decide +kernel⟩,
   ⟨0, by decide +kernel⟩⟩

theorem witness_EveryStepKeepsLiveBitsReporting :
    (∃ (s : State) (t : State), s.fault.live.all s.reporting = true ∧ step s = .next t) :=
  ⟨{ up with pending := [.beaconPatrol] }, _, by decide +kernel, rfl⟩

theorem witness_AgentTimersAct :
    (∃ (s : State) (role : Nat), s.acts 6 = true ∧ s.roleLocked role = true) ∧
    (∃ (s : State), s.acts 6 = true) ∧
    (∃ (b : Batch) (s : State), s.acts 6 = true ∧ s.cop.batch = some b ∧ b.committed = false) ∧
    (∃ (b : Batch) (s : State), s.acts 6 = true ∧ s.cop.batch = some b ∧ b.committed = false) ∧
    (∃ (b : Batch) (s : State), s.acts 6 = true ∧ s.cop.batch = some b ∧ b.committed = false) ∧
    (∃ (b : Batch) (s : State), s.acts 6 = true ∧ s.cop.batch = some b ∧ b.committed = true ∧ s.reg Obj.SCAN_STATE = 0 ∧ b.reached s.nowNs = true) ∧
    (∃ (b : Batch) (s : State), s.acts 6 = true ∧ s.cop.batch = some b ∧ b.committed = true ∧ s.reg Obj.SCAN_STATE = 0 ∧ b.reached s.nowNs = true) :=
  ⟨⟨(up.setReg Obj.ROLES_LOCKED 0x0C), 3, by decide +kernel⟩,
   ⟨{ up with cop := { up.cop with responses := [{ via := .portA, who := .rovan 5, tid := 1, opcode := 2, obj := 0, flags := 0, offset := 0, abort := 0, total := 0, data := [] }] } }, by decide +kernel⟩,
   ⟨(bt false [{ rq := host, obj := 0x705003, data := natLE 2 5 }, { rq := host, obj := 0xFFFF00, data := [] }]), (withBatch (bt false [{ rq := host, obj := 0x705003, data := natLE 2 5 }, { rq := host, obj := 0xFFFF00, data := [] }] : Batch) (up.setReg Obj.SCAN_STATE 2)), by decide +kernel⟩,
   ⟨(bt false []), (withBatch (bt false [] : Batch) (up.setReg Obj.SCAN_STATE 0)), by decide +kernel⟩,
   ⟨(bt false [{ rq := host, obj := 0x705003, data := natLE 2 5 }, { rq := host, obj := 0xFFFF00, data := [] }]), (withBatch (bt false [{ rq := host, obj := 0x705003, data := natLE 2 5 }, { rq := host, obj := 0xFFFF00, data := [] }] : Batch) (up.setReg Obj.SCAN_STATE 0)), by decide +kernel⟩,
   ⟨(bt true []), (withBatch (bt true [] : Batch) up), by decide +kernel⟩,
   ⟨(bt true [{ rq := host, obj := 0x705003, data := natLE 2 5 }, { rq := host, obj := 0xFFFF00, data := [] }]), (withBatch (bt true [{ rq := host, obj := 0x705003, data := natLE 2 5 }, { rq := host, obj := 0xFFFF00, data := [] }] : Batch) up), by decide +kernel⟩⟩

theorem witness_CrossingsTimeOutAndRecover :
    (∃ (s : State) (x : Transfer), s.defined = true ∧ s.timesCrossing x = true ∧ x.crossing.1 ≠ 9) ∧
    (∃ (s : State) (x : Transfer), s.defined = true ∧ s.timesCrossing x = true ∧ x.crossing.1 ≠ 9) ∧
    (∃ (s : State) (x : Transfer), s.defined = true ∧ s.timesCrossing x = true ∧ x.crossing.1 ≠ 9) ∧
    (∃ (s : State) (x : Transfer), s.defined = true ∧ s.timesCrossing x = true ∧ x.crossing.1 ≠ 9) ∧
    (∃ (s : State) (x : Transfer), s.defined = true ∧ s.timesCrossing x = true ∧ x.crossing.1 ≠ 9) ∧
    (∃ (s : State) (x : Transfer), s.defined = true ∧ s.timesCrossing x = true ∧ x.crossing.1 ≠ 9) ∧
    (∃ (s : State) (x : Transfer), s.defined = true ∧ s.timesCrossing x = true ∧ x.crossing.1 ≠ 9) ∧
    (∃ (s : State) (x : Transfer), s.defined = true ∧ s.timesCrossing x = true ∧ x.crossing.1 ≠ 9) ∧
    (∃ (s : State) (x : Transfer), s.defined = true ∧ s.timesCrossing x = true ∧ x.crossing.1 ≠ 9) ∧
    (∃ (s : State) (x : Transfer), s.defined = true ∧ s.timesCrossing x = true ∧ x.crossing.1 ≠ 9) ∧
    (∃ (l : Nat) (f : StreamFill) (s : State), s.acts 0 = true ∧ (s.layer l).filling = some f) ∧
    (∃ (s : State), s.acts 1 = true) ∧
    (∃ (s : State), s.acts 2 = true) ∧
    (∃ (s : State), s.acts 1 = true) ∧
    (∃ (s : State), s.acts 5 = true) ∧
    (∃ (s : State), s.acts 5 = true) ∧
    (∃ (s : State), s.acts 4 = true) ∧
    (∃ (s : State), s.acts 7 = true) ∧
    (∃ (s : State) (h : Nat), s.acts 6 = true ∧ h < 65536) ∧
    (∃ (s : State) (h : Nat), s.acts 6 = true ∧ h < 65536) ∧
    (∃ (s : State) (rq : Req) (opcode : Nat) (index : Nat) (sub : Nat) (r : ObjRow), s.hears (timedRequest rq opcode index sub) = true ∧ s.findObj (index * 256 + sub) = some r ∧ (if opcode = 1 then readRight r else s.writeAbort r (index * 256 + sub) rq.role) = 0 ∧ s.reach r (index * 256 + sub) = .ready) ∧
    (∃ (s : State) (rq : Req) (opcode : Nat) (index : Nat) (sub : Nat) (r : ObjRow), s.hears (timedRequest rq opcode index sub) = true ∧ s.findObj (index * 256 + sub) = some r ∧ (if opcode = 1 then readRight r else s.writeAbort r (index * 256 + sub) rq.role) = 0 ∧ s.reach r (index * 256 + sub) = .ready) :=
  ⟨⟨up, (.writeRequest 0x1000), by decide +kernel⟩,
   ⟨up, (.probeResult 3 2 1 0), by decide +kernel⟩,
   ⟨up, .catchTime, by decide +kernel⟩,
   ⟨up, (.videoFlit 0), by decide +kernel⟩,
   ⟨up, (.sliceSegment 0 1), by decide +kernel⟩,
   ⟨up, (.strokeLoad 0), by decide +kernel⟩,
   ⟨up, (.egressTap 31), by decide +kernel⟩,
   ⟨up, (.beaconReplay 31), by decide +kernel⟩,
   ⟨up, (.syncCorrection .b), by decide +kernel⟩,
   ⟨up, (.readResponse (.dose 7)), by decide +kernel⟩,
   ⟨6, { buffer := 0, frame := 1, format := 0, width := 8, height := 8, received := 0, lost := false, stream := 1 }, (up.setLayer 6 { up.layer 6 with filling := some ({ buffer := 0, frame := 1, format := 0, width := 8, height := 8, received := 0, lost := false, stream := 1 } : StreamFill) }), by decide +kernel⟩,
   ⟨up, by decide +kernel⟩,
   ⟨up, by decide +kernel⟩,
   ⟨up, by decide +kernel⟩,
   ⟨up, by decide +kernel⟩,
   ⟨up, by decide +kernel⟩,
   ⟨up, by decide +kernel⟩,
   ⟨up, by decide +kernel⟩,
   ⟨(up.setCrossing 11 { withdrawn := [true, false, true] }), 11, by decide +kernel⟩,
   ⟨up, 11, by decide +kernel⟩,
   ⟨up, host, 1, 0x1100, 3, (row 0x110003), by decide +kernel⟩,
   ⟨up, host, 2, (Obj.WAKE_ON_ACCESS / 256), (Obj.WAKE_ON_ACCESS % 256), (row Obj.WAKE_ON_ACCESS), by decide +kernel⟩⟩

theorem witness_IslandClocksStartAndStop :
    (∃ (s : State) (i : Nat), s.acts 6 = true ∧ s.island i = .waking ∧ s.cop.held = []) ∧
    (∃ (s : State) (i : Nat), s.acts 6 = true ∧ s.island i = .waking ∧ s.cop.held = []) ∧
    (∃ (i : Nat) (n : Nat) (sel : Nat) (q : Request) (s : State) (u : State) (r : ObjRow), s.acts 6 = true ∧ s.device.phase = .running ∧ s.island i = .waking ∧ s.cop.held = [q] ∧ q.opcode = 1 ∧ islandOf q.obj = i ∧ rowOf q.obj = some r ∧ r.ty = .fixed n ∧ readRight r = 0 ∧ s.reg Obj.SLEEP_STATE ≠ 3 ∧ s.power.tripped = false ∧ u = (State.completedWake { s.setIsland i .running with cop := { s.cop with held := [] } } i).accessed q.obj ∧ u.bankOf q.obj = some sel ∧ u.openReading q.obj = none ∧ countedBy q.obj u = u ∧ ((q.obj = Obj.X_MAP_ENTRY → u.reg Obj.X_MAP_INDEX < 2048)) ∧ i ≠ 2) ∧
    (∃ (s : State) (i : Nat), s.acts 6 = true ∧ s.runs i = true ∧ s.device.holds.contains i = true) ∧
    (∃ (s : State) (i : Nat), s.acts 6 = true ∧ s.runs i = true ∧ s.device.holds.contains i = true) ∧
    (∃ (s : State) (i : Nat), s.acts 6 = true ∧ s.runs i = true ∧ s.device.holds.contains i = true) ∧
    (∃ (s : State) (i : Nat), s.acts 6 = true ∧ s.runs i = true ∧ s.device.gating.contains i = true) :=
  ⟨⟨(up.setIsland 1 .waking), 1, by decide +kernel⟩,
   ⟨((up.setReg Obj.MEM_STATE 3).setIsland 2 .waking), 2, by decide +kernel⟩,
   ⟨1, 4, 0, { rq := host, opcode := 1, obj := Obj.PIPELINE_LATE_FRAMES, seg := { isFirst := true, isLast := true, offset := 0 }, snapshot := false, data := [] }, { (up.setIsland 1 .waking) with cop := { up.cop with held := [({ rq := host, opcode := 1, obj := Obj.PIPELINE_LATE_FRAMES, seg := { isFirst := true, isLast := true, offset := 0 }, snapshot := false, data := [] } : Request)] } }, ((State.completedWake { ({ (up.setIsland 1 .waking) with cop := { up.cop with held := [({ rq := host, opcode := 1, obj := Obj.PIPELINE_LATE_FRAMES, seg := { isFirst := true, isLast := true, offset := 0 }, snapshot := false, data := [] } : Request)] } } : State).setIsland 1 .running with cop := { ({ (up.setIsland 1 .waking) with cop := { up.cop with held := [({ rq := host, opcode := 1, obj := Obj.PIPELINE_LATE_FRAMES, seg := { isFirst := true, isLast := true, offset := 0 }, snapshot := false, data := [] } : Request)] } } : State).cop with held := [] } } 1).accessed ({ rq := host, opcode := 1, obj := Obj.PIPELINE_LATE_FRAMES, seg := { isFirst := true, isLast := true, offset := 0 }, snapshot := false, data := [] } : Request).obj), (row Obj.PIPELINE_LATE_FRAMES), by decide +kernel⟩,
   ⟨{ up with device := { up.device with holds := [2] } }, 2, by decide +kernel⟩,
   ⟨{ up with device := { up.device with holds := [1] }, power := { up.power with inS1 := true } }, 1, by decide +kernel⟩,
   ⟨{ (up.setReg Obj.MEM_STATE 2) with device := { up.device with holds := [2] }, power := { up.power with inS1 := true } }, 2, by decide +kernel⟩,
   ⟨{ up with device := { up.device with gating := [2, 1], holds := [1] } }, 1, by decide +kernel⟩⟩

theorem witness_ClockFaultsAreSeen :
    (∃ (s : State) (r : Nat) (x : Nat), s.acts 7 = true ∧ clocksGood r x = true) ∧
    (∃ (s : State) (r : Nat) (x : Nat), s.acts 7 = true ∧ clocksGood r x = false) ∧
    (∃ (s : State) (r : Nat) (x : Nat), s.acts 7 = true ∧ clocksGood r x = false) ∧
    (∃ (s : State) (i : Nat), s.acts i = true ∧ i ≤ 6) ∧
    (∃ (s : State) (i : Nat), s.acts i = true ∧ i ≤ 6) ∧
    (∃ (s : State), s.acts 6 = true) :=
  ⟨⟨{ up with fault := { up.fault with clockFault := true, live := [9] } }, 27500, 36, by decide +kernel⟩,
   ⟨released, 27501, 33, by decide +kernel⟩,
   ⟨{ released with safety := { released.safety with trips := [5] } }, 27501, 33, by decide +kernel⟩,
   ⟨up, 6, by decide +kernel⟩,
   ⟨{ up with fault := { up.fault with pllUnlocked := [0, 3] } }, 0, by decide +kernel⟩,
   ⟨up, by decide +kernel⟩⟩

theorem witness_RepeatedRequestsAreAnsweredFromTheirRecord :
    (∃ (c : Instr) (q : Request) (r : Response) (s : State), requestOf c = some q ∧ s.defined = true ∧ s.agentRuns q.rq.via = true ∧ s.record q = some r) :=
  ⟨(.scanStart host (natLE 4 0)), (wholeWrite host Obj.SCAN_START (natLE 4 0)), { via := .portA, who := .rovan 5, tid := 1, opcode := 2, obj := Obj.SCAN_START, flags := 0, offset := 0, abort := 0, total := 0, data := [] }, { up with cop := { up.cop with responses := [{ via := .portA, who := .rovan 5, tid := 1, opcode := 2, obj := Obj.SCAN_START, flags := 0, offset := 0, abort := 0, total := 0, data := [] }] } }, by decide +kernel⟩

theorem witness_WrongKeysAreRejectedAndLockTheRole :
    (∃ (c : Instr) (q : Request) (s : State), requestOf c = some q ∧ s.defined = true ∧ s.agentRuns q.rq.via = true ∧ s.record q = none ∧ s.keyOk q.rq = false) ∧
    (∃ (c : Instr) (q : Request) (s : State), requestOf c = some q ∧ s.defined = true ∧ s.agentRuns q.rq.via = true ∧ s.record q = none ∧ s.keyOk q.rq = false) :=
  ⟨⟨(.scanStart host (natLE 4 0)), (wholeWrite host Obj.SCAN_START (natLE 4 0)), { up with cop := { up.cop with keys := { keyOwner := 7 }, keyFails := [(3, 15)] } }, by decide +kernel⟩,
   ⟨(.scanStart host (natLE 4 0)), (wholeWrite host Obj.SCAN_START (natLE 4 0)), { up with cop := { up.cop with keys := { keyOwner := 7 } } }, by decide +kernel⟩⟩

theorem witness_PlainObjectsAreReadAndHeld :
    (∃ (s : State) (rq : Req) (index : Nat) (sub : Nat) (offset : Nat) (n : Nat) (sel : Nat) (snapshot : Bool) (r : ObjRow) (q : Request) (u : State), q = { rq := rq, opcode := 1, obj := index * 256 + sub, seg := { isFirst := false, isLast := false, offset := offset }, snapshot := snapshot, data := [] } ∧ s.admitsRead q = true ∧ u = s.asked q ∧ rowOf q.obj = some r ∧ ((r.ty = .fixed n ∨ r.ty = .bool ∧ n = 1)) ∧ u.bankOf q.obj = some sel ∧ u.openReading q.obj = none ∧ countedBy q.obj u = u ∧ ((q.obj = Obj.X_MAP_ENTRY → u.reg Obj.X_MAP_INDEX < 2048))) ∧
    (∃ (s : State) (rq : Req) (index : Nat) (sub : Nat) (offset : Nat) (n : Nat) (sel : Nat) (snapshot : Bool) (r : ObjRow) (q : Request) (u : State), q = { rq := rq, opcode := 1, obj := index * 256 + sub, seg := { isFirst := false, isLast := false, offset := offset }, snapshot := snapshot, data := [] } ∧ s.admitsRead q = true ∧ u = s.asked q ∧ rowOf q.obj = some r ∧ ((r.ty = .fixed n ∨ r.ty = .bool ∧ n = 1)) ∧ u.bankOf q.obj = some sel ∧ u.openReading q.obj = none ∧ countedBy q.obj u = u ∧ ((q.obj = Obj.X_MAP_ENTRY → u.reg Obj.X_MAP_INDEX < 2048))) ∧
    (∃ (s : State) (rq : Req) (index : Nat) (sub : Nat) (offset : Nat) (n : Nat) (snapshot : Bool) (r : ObjRow) (q : Request) (u : State), q = { rq := rq, opcode := 1, obj := index * 256 + sub, seg := { isFirst := false, isLast := false, offset := offset }, snapshot := snapshot, data := [] } ∧ s.admitsRead q = true ∧ u = s.asked q ∧ rowOf q.obj = some r ∧ r.ty = .domain n ∧ removesData q.obj = false ∧ ((snapshot = true → offset = 0 ∧ s.hasSpace rq.who = true))) ∧
    (∃ (s : State) (rq : Req) (index : Nat) (sub : Nat) (offset : Nat) (n : Nat) (snapshot : Bool) (r : ObjRow) (q : Request) (u : State), q = { rq := rq, opcode := 1, obj := index * 256 + sub, seg := { isFirst := false, isLast := false, offset := offset }, snapshot := snapshot, data := [] } ∧ s.admitsRead q = true ∧ u = s.asked q ∧ rowOf q.obj = some r ∧ r.ty = .domain n ∧ removesData q.obj = false ∧ ((snapshot = true → offset = 0 ∧ s.hasSpace rq.who = true))) ∧
    (∃ (s : State) (rq : Req) (index : Nat) (sub : Nat) (seg : Segment) (data : Bytes) (r : ObjRow), s.admits { rq := rq, opcode := 2, obj := index * 256 + sub, seg := seg, snapshot := false, data := data } = true ∧ rowOf (index * 256 + sub) = some r ∧ ((r.ty = .bool ∨ ∃ n, r.ty = .fixed n)) ∧ (actionOf (index * 256 + sub)).isNone = true) ∧
    (∃ (s : State) (rq : Req) (index : Nat) (sub : Nat) (seg : Segment) (data : Bytes) (r : ObjRow), s.admits { rq := rq, opcode := 2, obj := index * 256 + sub, seg := seg, snapshot := false, data := data } = true ∧ rowOf (index * 256 + sub) = some r ∧ ((r.ty = .bool ∨ ∃ n, r.ty = .fixed n)) ∧ (actionOf (index * 256 + sub)).isNone = true) ∧
    (∃ (s : State) (rq : Req) (index : Nat) (sub : Nat) (n : Nat) (seg : Segment) (data : Bytes) (r : ObjRow), s.admits { rq := rq, opcode := 2, obj := index * 256 + sub, seg := seg, snapshot := false, data := data } = true ∧ rowOf (index * 256 + sub) = some r ∧ r.ty = .domain n ∧ n ≤ 131072 ∧ (actionOf (index * 256 + sub)).isNone = true) ∧
    (∃ (s : State) (rq : Req) (index : Nat) (sub : Nat) (data : Bytes) (r : ObjRow) (q : Request), q = { rq := rq, opcode := 2, obj := index * 256 + sub, seg := { isFirst := true, isLast := false, offset := 0 }, snapshot := false, data := data } ∧ s.hears q = true ∧ s.findObj q.obj = some r ∧ s.writeAbort r q.obj rq.role = 0 ∧ s.reach r q.obj = .ready ∧ segmented r q.obj = true ∧ s.hasSpace rq.who = true ∧ ((∀ a ∈ s.cop.assemblies, a.who ≠ rq.who))) :=
  ⟨⟨(up.setReg 0x110004 77), host, 0x1100, 4, 0, 4, 0, true, (row 0x110004), { rq := host, opcode := 1, obj := 0x110004, seg := { isFirst := false, isLast := false, offset := 0 }, snapshot := true, data := [] }, ((up.setReg 0x110004 77 : State).asked ({ rq := host, opcode := 1, obj := 0x110004, seg := { isFirst := false, isLast := false, offset := 0 }, snapshot := true, data := [] } : Request)), by decide +kernel⟩,
   ⟨up, host, (Obj.X_MAP_ENTRY / 256), (Obj.X_MAP_ENTRY % 256), 0, 2, 0, false, (row Obj.X_MAP_ENTRY), { rq := host, opcode := 1, obj := Obj.X_MAP_ENTRY, seg := { isFirst := false, isLast := false, offset := 0 }, snapshot := false, data := [] }, (up.asked ({ rq := host, opcode := 1, obj := Obj.X_MAP_ENTRY, seg := { isFirst := false, isLast := false, offset := 0 }, snapshot := false, data := [] } : Request)), by decide +kernel⟩,
   ⟨up, host, (Obj.SUPPLY_WINDOWS / 256), (Obj.SUPPLY_WINDOWS % 256), 0, 48, true, (row Obj.SUPPLY_WINDOWS), { rq := host, opcode := 1, obj := Obj.SUPPLY_WINDOWS, seg := { isFirst := false, isLast := false, offset := 0 }, snapshot := true, data := [] }, (up.asked ({ rq := host, opcode := 1, obj := Obj.SUPPLY_WINDOWS, seg := { isFirst := false, isLast := false, offset := 0 }, snapshot := true, data := [] } : Request)), by decide +kernel⟩,
   ⟨up, host, (Obj.GLARE_MAP / 256), (Obj.GLARE_MAP % 256), 5, 4096, false, (row Obj.GLARE_MAP), { rq := host, opcode := 1, obj := Obj.GLARE_MAP, seg := { isFirst := false, isLast := false, offset := 5 }, snapshot := false, data := [] }, (up.asked ({ rq := host, opcode := 1, obj := Obj.GLARE_MAP, seg := { isFirst := false, isLast := false, offset := 5 }, snapshot := false, data := [] } : Request)), by decide +kernel⟩,
   ⟨up, host, 0x7050, 3, seg1, (natLE 2 0xFFFF), (row 0x705003), by decide +kernel, by decide +kernel, by first | exact .inl (by decide +kernel) | exact .inr (.inl (by decide +kernel)) | exact .inr ⟨_, rfl⟩, by decide +kernel⟩,
   ⟨up, host, (Obj.FREEZE_PIN_ENABLE / 256), (Obj.FREEZE_PIN_ENABLE % 256), seg1, (natLE 1 7), (row Obj.FREEZE_PIN_ENABLE), by decide +kernel, by decide +kernel, by first | exact .inl (by decide +kernel) | exact .inr (.inl (by decide +kernel)) | exact .inr ⟨_, rfl⟩, by decide +kernel⟩,
   ⟨up, host, (Obj.SUPPLY_WINDOWS / 256), (Obj.SUPPLY_WINDOWS % 256), 48, seg1, (natLE 3 0x010203), (row Obj.SUPPLY_WINDOWS), by decide +kernel⟩,
   ⟨up, host, (Obj.SUPPLY_WINDOWS / 256), (Obj.SUPPLY_WINDOWS % 256), (natLE 3 0x010203), (row Obj.SUPPLY_WINDOWS), { rq := host, opcode := 2, obj := Obj.SUPPLY_WINDOWS, seg := { isFirst := true, isLast := false, offset := 0 }, snapshot := false, data := natLE 3 0x010203 }, by decide +kernel⟩⟩

theorem witness_BatchesAreStagedCommittedAndAbandoned :
    (∃ (s : State) (rq : Req) (index : Nat) (sub : Nat) (seg : Segment) (data : Bytes) (r : ObjRow) (b : Batch) (q : Request), q = { rq := rq, opcode := 3, obj := index * 256 + sub, seg := seg, snapshot := false, data := data } ∧ s.hears q = true ∧ s.findObj q.obj = some r ∧ s.writeAbort r q.obj rq.role = 0 ∧ s.barred r q.obj = false ∧ lengthOk r data.length = true ∧ s.comesWhole r q = true ∧ ((s.cop.batch = some b ∨ s.cop.batch = none ∧ b = { owner := rq.who, entries := [], committed := false, notBefore := none, commitTick := 0 })) ∧ b.owner = rq.who ∧ b.committed = false ∧ b.entries.length < 4096 ∧ b.size + data.length ≤ 262144) ∧
    (∃ (rq : Req) (index : Nat) (sub : Nat) (seg : Segment) (data : Bytes) (r : ObjRow) (b : Batch) (s : State) (q : Request), q = { rq := rq, opcode := 3, obj := index * 256 + sub, seg := seg, snapshot := false, data := data } ∧ s.hears q = true ∧ s.findObj q.obj = some r ∧ s.writeAbort r q.obj rq.role = 0 ∧ s.barred r q.obj = false ∧ lengthOk r data.length = true ∧ s.comesWhole r q = true ∧ ((s.cop.batch = some b ∨ s.cop.batch = none ∧ b = { owner := rq.who, entries := [], committed := false, notBefore := none, commitTick := 0 })) ∧ b.owner = rq.who ∧ b.committed = false ∧ b.entries.length < 4096 ∧ b.size + data.length ≤ 262144) ∧
    (∃ (rq : Req) (index : Nat) (sub : Nat) (seg : Segment) (data : Bytes) (b : Batch) (s : State) (q : Request), q = { rq := rq, opcode := 3, obj := index * 256 + sub, seg := seg, snapshot := false, data := data } ∧ s.hears q = true ∧ s.cop.batch = some b ∧ ((b.owner ≠ rq.who ∨ b.committed = true))) ∧
    (∃ (rq : Req) (notBefore : Option Time80) (b : Batch) (s : State), s.hears (bareRequest rq 4 (notBeforeBytes notBefore)) = true ∧ s.cop.batch = some b ∧ b.owner = rq.who ∧ b.committed = false) ∧
    (∃ (rq : Req) (notBefore : Option Time80) (b : Batch) (s : State), s.hears (bareRequest rq 4 (notBeforeBytes notBefore)) = true ∧ s.cop.batch = some b ∧ b.owner = rq.who ∧ b.committed = false) ∧
    (∃ (rq : Req) (notBefore : Option Time80) (b : Batch) (s : State), s.hears (bareRequest rq 4 (notBeforeBytes notBefore)) = true ∧ s.cop.batch = some b ∧ b.owner = rq.who ∧ b.committed = false) ∧
    (∃ (rq : Req) (notBefore : Option Time80) (b : Batch) (s : State), s.hears (bareRequest rq 4 (notBeforeBytes notBefore)) = true ∧ s.cop.batch = some b ∧ b.owner = rq.who ∧ b.committed = false) ∧
    (∃ (rq : Req) (b : Batch) (s : State), s.hears (bareRequest rq 5 []) = true ∧ s.cop.batch = some b ∧ b.owner = rq.who ∧ b.committed = false) ∧
    (∃ (s : State) (rq : Req) (notBefore : Option Time80), s.hears (bareRequest rq 4 (notBeforeBytes notBefore)) = true ∧ s.hears (bareRequest rq 5 []) = true) :=
  ⟨⟨up, host, 0x7050, 3, seg1, (natLE 2 0xFFFF), (row 0x705003), (bt false []), { rq := host, opcode := 3, obj := 0x705003, seg := seg1, snapshot := false, data := natLE 2 0xFFFF }, by decide +kernel⟩,
   ⟨host, (Obj.SUPPLY_WINDOWS / 256), (Obj.SUPPLY_WINDOWS % 256), seg1, (natLE 3 5), (row Obj.SUPPLY_WINDOWS), (bt false [{ rq := host, obj := 0x705003, data := natLE 2 5 }, { rq := host, obj := 0xFFFF00, data := [] }]), (withBatch (bt false [{ rq := host, obj := 0x705003, data := natLE 2 5 }, { rq := host, obj := 0xFFFF00, data := [] }] : Batch) up), { rq := host, opcode := 3, obj := Obj.SUPPLY_WINDOWS, seg := seg1, snapshot := false, data := natLE 3 5 }, by decide +kernel⟩,
   ⟨host, 0x7050, 3, seg1, ([]), (bt true []), (withBatch (bt true [] : Batch) up), { rq := host, opcode := 3, obj := 0x705003, seg := seg1, snapshot := false, data := [] }, by decide +kernel⟩,
   ⟨host, (some { sec := 1, ns := 2 }), (bt false []), (withBatch (bt false [] : Batch) (up.setReg Obj.SCAN_STATE 2)), by decide +kernel⟩,
   ⟨host, (some { sec := 1, ns := 2 }), (bt false [{ rq := host, obj := 0x705003, data := natLE 2 5 }, { rq := host, obj := 0xFFFF00, data := [] }]), (withBatch (bt false [{ rq := host, obj := 0x705003, data := natLE 2 5 }, { rq := host, obj := 0xFFFF00, data := [] }] : Batch) (up.setReg Obj.SCAN_STATE 0)), by decide +kernel⟩,
   ⟨host, none, (bt false []), (withBatch (bt false [] : Batch) (up.setReg Obj.SCAN_STATE 0)), by decide +kernel⟩,
   ⟨host, none, (bt false [{ rq := host, obj := 0x705003, data := natLE 2 5 }, { rq := host, obj := 0xFFFF00, data := [] }]), (withBatch (bt false [{ rq := host, obj := 0x705003, data := natLE 2 5 }, { rq := host, obj := 0xFFFF00, data := [] }] : Batch) (up.setReg Obj.SCAN_STATE 0)), by decide +kernel⟩,
   ⟨host, (bt false [{ rq := host, obj := 0x705003, data := natLE 2 5 }, { rq := host, obj := 0xFFFF00, data := [] }]), (withBatch (bt false [{ rq := host, obj := 0x705003, data := natLE 2 5 }, { rq := host, obj := 0xFFFF00, data := [] }] : Batch) up), by decide +kernel⟩,
   ⟨up, host, none, by decide +kernel⟩⟩

theorem witness_FlashCommandsStartOneOperation :
    (∃ (s : State) (rq : Req) (role : Nat) (data : Bytes), 1 ≤ role ∧ role ≤ 3 ∧ s.admitsWrite rq (0x111000 + role) data = true ∧ s.cop.flashJob = none) ∧
    (∃ (s : State) (rq : Req) (sub : Nat) (data : Bytes), sub < 256 ∧ s.admitsWrite rq (0x112000 + sub) data = true ∧ s.cop.flashJob = none) ∧
    (∃ (s : State) (rq : Req) (data : Bytes), s.admitsWrite rq Obj.FW_UPDATE_BEGIN data = true ∧ s.cop.flashJob = none ∧ leNat data ≤ slotSize) ∧
    (∃ (s : State) (rq : Req) (seg : Segment) (data : Bytes), s.admits { wholeWrite rq Obj.FW_IMAGE data with seg := seg } = true ∧ s.cop.flashJob = none ∧ seg.offset + data.length ≤ slotSize) ∧
    (∃ (s : State) (rq : Req) (data : Bytes), s.admitsWrite rq Obj.FW_UPDATE_VERIFY data = true ∧ s.cop.flashJob = none) ∧
    (∃ (s : State) (rq : Req) (slot : Nat), s.admitsWrite rq Obj.FW_ACTIVATE (natLE 1 1) = true ∧ s.cop.flashJob = none ∧ s.cop.verified = some slot) ∧
    (∃ (s : State) (rq : Req) (slot : Nat), s.admitsWrite rq Obj.FW_ACTIVATE (natLE 1 2) = true ∧ s.cop.flashJob = none ∧ s.cop.verified = some slot) ∧
    (∃ (s : State) (rq : Req) (data : Bytes), s.admitsWrite rq Obj.FW_CONFIRM data = true ∧ s.cop.flashJob = none ∧ s.trialRuns = true) ∧
    (∃ (s : State) (rq : Req) (data : Bytes), s.admitsWrite rq Obj.CAL_FLASH_SAVE data = true ∧ s.cop.flashJob = none) ∧
    (∃ (s : State) (rq : Req) (data : Bytes), s.admitsWrite rq Obj.CAL_FLASH_LOAD data = true ∧ s.cop.flashJob = none) ∧
    (∃ (s : State) (rq : Req) (data : Bytes), s.admitsWrite rq Obj.EVAC_IMAGE_SAVE data = true ∧ s.cop.flashJob = none ∧ s.flag Obj.BEACON_VALID = true) :=
  ⟨⟨up, host, 3, (natLE 8 5), by decide +kernel⟩,
   ⟨up, host, 6, (natLE 1 5), by decide +kernel⟩,
   ⟨up, host, (blank Obj.FW_UPDATE_BEGIN), by decide +kernel⟩,
   ⟨up, host, seg1, ([1, 2]), by decide +kernel⟩,
   ⟨up, host, (blank Obj.FW_UPDATE_VERIFY), by decide +kernel⟩,
   ⟨{ up with cop := { up.cop with verified := some 1 } }, host, 1, by decide +kernel⟩,
   ⟨{ up with cop := { up.cop with verified := some 1 } }, host, 1, by decide +kernel⟩,
   ⟨(({ up with flash := Sparse.setList flashDefault [] 0 ({ seq := 1, active := 0, trial := 1, started := 1 : BootRecord }).bytes }).setReg Obj.FW_SLOT_RUNNING 1), host, (blank Obj.FW_CONFIRM), by decide +kernel⟩,
   ⟨up, host, (blank Obj.CAL_FLASH_SAVE), by decide +kernel⟩,
   ⟨up, host, (blank Obj.CAL_FLASH_LOAD), by decide +kernel⟩,
   ⟨(up.setFlag Obj.BEACON_VALID true), host, (blank Obj.EVAC_IMAGE_SAVE), by decide +kernel⟩⟩

theorem witness_FirmwareFusesAndTheFaultLog :
    (∃ (s : State) (rq : Req) (data : Bytes), s.admitsWrite rq Obj.FAULT_LOG_WRITE data = true ∧ s.cop.flashJob = none) ∧
    (∃ (s : State) (rq : Req) (data : Bytes) (j : FlashJob), s.admitsWrite rq Obj.FAULT_LOG_WRITE data = true ∧ s.cop.flashJob = some j) ∧
    (∃ (s : State) (rq : Req) (data : Bytes), s.admitsWrite rq Obj.FW_ROLLBACK_COMMIT data = true) ∧
    (∃ (s : State) (rq : Req) (data : Bytes), s.admitsWrite rq Obj.FW_KEY_REVOKE data = true ∧ s.cop.runKeySlot = 1 ∧ s.reg Obj.FW_SLOT_RUNNING ≤ 1) ∧
    (∃ (s : State) (rq : Req) (data : Bytes), s.admitsWrite rq Obj.FW_KEY_REVOKE data = true ∧ s.cop.runKeySlot ≠ 1) ∧
    (∃ (s : State) (rq : Req) (data : Bytes), s.admitsWrite rq Obj.FW_UPDATE_BEGIN data = true ∧ slotSize < leNat data) ∧
    (∃ (s : State) (rq : Req) (data : Bytes), s.admitsWrite rq Obj.FW_CONFIRM data = true ∧ s.trialRuns = false) ∧
    (∃ (s : State) (rq : Req), s.admitsWrite rq Obj.FW_ACTIVATE (natLE 1 1) = true ∧ s.cop.verified = none) :=
  ⟨⟨up, host, (blank Obj.FAULT_LOG_WRITE), by decide +kernel⟩,
   ⟨{ up with cop := { up.cop with flashJob := some { work := .eraseSlot 1, answer := some req0 } } }, host, (blank Obj.FAULT_LOG_WRITE), { work := .eraseSlot 1, answer := some req0 }, by decide +kernel⟩,
   ⟨{ up with cop := { up.cop with runRollback := 4 } }, host, (blank Obj.FW_ROLLBACK_COMMIT), by decide +kernel⟩,
   ⟨{ up with cop := { up.cop with runKeySlot := 1 } }, host, (blank Obj.FW_KEY_REVOKE), by decide +kernel⟩,
   ⟨up, host, (blank Obj.FW_KEY_REVOKE), by decide +kernel⟩,
   ⟨up, host, (natLE 4 0x800001), by decide +kernel⟩,
   ⟨up, host, (blank Obj.FW_CONFIRM), by decide +kernel⟩,
   ⟨up, host, by decide +kernel⟩⟩

theorem witness_FlashOperationsTakeEffectOnCompletion :
    (∃ (role : Nat) (v : Nat) (answer : Option Request) (s : State), s.acts 6 = true ∧ s.cop.flashJob = some { work := .key role v, answer := answer }) ∧
    (∃ (sub : Nat) (v : Nat) (answer : Option Request) (s : State), s.acts 6 = true ∧ s.cop.flashJob = some { work := .t1s sub v, answer := answer }) ∧
    (∃ (data : Bytes) (answer : Option Request) (s : State), s.acts 6 = true ∧ s.cop.flashJob = some { work := .identity data, answer := answer }) ∧
    (∃ (slot : Nat) (o : Nat) (data : Bytes) (answer : Option Request) (s : State), s.acts 6 = true ∧ s.cop.flashJob = some { work := .program slot o data, answer := answer }) ∧
    (∃ (slot : Nat) (answer : Option Request) (s : State), s.acts 6 = true ∧ s.cop.flashJob = some { work := .eraseSlot slot, answer := answer }) ∧
    (∃ (slot : Nat) (answer : Option Request) (s : State), s.acts 6 = true ∧ s.cop.flashJob = some { work := .verify slot, answer := answer }) ∧
    (∃ (slot : Nat) (answer : Option Request) (s : State), s.acts 6 = true ∧ s.cop.flashJob = some { work := .activate slot false, answer := answer }) ∧
    (∃ (slot : Nat) (answer : Option Request) (s : State), s.acts 6 = true ∧ s.cop.flashJob = some { work := .activate slot true, answer := answer }) ∧
    (∃ (answer : Option Request) (s : State), s.acts 6 = true ∧ s.cop.flashJob = some { work := .confirm, answer := answer }) ∧
    (∃ (reason : Nat) (answer : Option Request) (s : State), s.acts 6 = true ∧ s.cop.flashJob = some { work := .faultLog reason, answer := answer }) ∧
    (∃ (s : State) (reason : Nat) (answer : Option Request), s.acts 6 = true ∧ s.cop.flashJob = some { work := .faultLog reason, answer := answer }) ∧
    (∃ (answer : Option Request) (s : State), s.acts 6 = true ∧ s.cop.flashJob = some { work := .evacSave, answer := answer }) ∧
    (∃ (work : FlashWork) (answer : Option Request) (s : State), s.acts 6 = true ∧ s.cop.flashJob = some { work := work, answer := answer } ∧ work.isCal = false ∧ work ≠ .evacLoad) ∧
    (∃ (work : FlashWork) (answer : Option Request) (s : State), s.acts 6 = true ∧ s.cop.flashJob = some { work := work, answer := answer } ∧ work.isCal = false ∧ work ≠ .evacLoad) ∧
    (∃ (answer : Option Request) (s : State), s.acts 6 = true ∧ s.cop.flashJob = some { work := .calLoad, answer := answer }) ∧
    (∃ (s : State) (answer : Option Request) (records : Bytes), s.acts 6 = true ∧ s.cop.flashJob = some { work := .calSave, answer := answer } ∧ s.calRecordsRead = some records) :=
  ⟨⟨3, 9, (some req0), { up with cop := { up.cop with flashJob := some { work := .key 3 9, answer := (some req0 : Option Request) } } }, by decide +kernel⟩,
   ⟨6, 9, none, { up with cop := { up.cop with flashJob := some { work := .t1s 6 9, answer := none } } }, by decide +kernel⟩,
   ⟨([1, 2]), none, { up with cop := { up.cop with flashJob := some { work := .identity [1, 2], answer := none } } }, by decide +kernel⟩,
   ⟨1, 0, ([1]), (some req0), { up with cop := { up.cop with flashJob := some { work := .program 1 0 [1], answer := (some req0 : Option Request) } } }, by decide +kernel⟩,
   ⟨1, (some req0), { up with cop := { up.cop with flashJob := some { work := .eraseSlot 1, answer := (some req0 : Option Request) } } }, by decide +kernel⟩,
   ⟨1, (some req0), { up with cop := { up.cop with flashJob := some { work := .verify 1, answer := (some req0 : Option Request) } } }, by decide +kernel⟩,
   ⟨1, (some req0), { up with cop := { up.cop with flashJob := some { work := .activate 1 false, answer := (some req0 : Option Request) } } }, by decide +kernel⟩,
   ⟨1, (some req0), { up with cop := { up.cop with flashJob := some { work := .activate 1 true, answer := (some req0 : Option Request) } } }, by decide +kernel⟩,
   ⟨(some req0), { up with cop := { up.cop with flashJob := some { work := .confirm, answer := (some req0 : Option Request) } } }, by decide +kernel⟩,
   ⟨3, none, { up with cop := { up.cop with flashJob := some { work := .faultLog 3, answer := none } } }, by decide +kernel⟩,
   ⟨{ up with cop := { up.cop with flashJob := some { work := .faultLog 3, answer := none }, flashPaused := [{ work := .evacSave, answer := none }] } }, 3, none, by decide +kernel⟩,
   ⟨none, { up with cop := { up.cop with flashJob := some { work := .evacSave, answer := none } } }, by decide +kernel⟩,
   ⟨(.key 3 9), (some req0), { up with cop := { up.cop with flashJob := some { work := .key 3 9, answer := (some req0 : Option Request) } } }, by decide +kernel⟩,
   ⟨.evacSave, none, { up with cop := { up.cop with flashJob := some { work := .evacSave, answer := none } } }, by decide +kernel⟩,
   ⟨none, { up with cop := { up.cop with flashJob := some { work := .calLoad, answer := none } } }, by decide +kernel⟩,
   ⟨{ up.setReg Obj.GEOMETRY_APPLIES 1 with cop := { up.cop with flashJob := some { work := .calSave, answer := none } } }, none, ([]), by decide +kernel⟩⟩

theorem witness_CatchesAreIssuedOnTheGrid :
    (∃ (s : State), s.acts 5 = true ∧ s.reg Obj.SCAN_STATE ≠ 0 ∧ s.issuing = true ∧ s.catchTime ≤ s.now ∧ s.time.catchGen.j ≠ 0 ∧ s.time.catchGen.unaligned = false) ∧
    (∃ (s : State), s.acts 5 = true ∧ s.reg Obj.SCAN_STATE ≠ 0 ∧ s.issuing = true ∧ s.catchTime ≤ s.now ∧ s.time.catchGen.j ≠ 0 ∧ s.time.catchGen.unaligned = false) ∧
    (∃ (s : State), s.acts 5 = true ∧ s.reg Obj.SCAN_STATE ≠ 0 ∧ s.issuing = true ∧ s.time.catchGen.j ≠ 0 ∧ s.time.catchGen.unaligned = true ∧ s.strokeCountTick = some s.ticks) ∧
    (∃ (s : State), s.acts 5 = true ∧ s.reg Obj.SCAN_STATE = 1 ∧ s.issuing = true ∧ s.catchTime ≤ s.now ∧ s.time.catchGen.j = 0 ∧ s.time.catchGen.unaligned = false ∧ s.cop.batch = none ∧ s.pipe.frame = none ∧ s.scan.strokes = false ∧ s.scan.configured = true) :=
  ⟨⟨{ up.setReg Obj.SCAN_STATE 2 with time := { up.time with domA := { up.time.domA with counter := 5000000 * 4294967296 }, catchGen := { up.time.catchGen with issuing := true, j := 1, reanchor := true } }, scan := { up.scan with strokes := true } }, by decide +kernel⟩,
   ⟨{ up.setReg Obj.SCAN_STATE 2 with time := { up.time with domA := { up.time.domA with counter := 5000000 * 4294967296 }, catchGen := { up.time.catchGen with issuing := true, j := up.scan.timing.cycles - 1, hostDom := some 1 } } }, by decide +kernel⟩,
   ⟨{ up.setReg Obj.SCAN_STATE 1 with ticks := 65105, time := { up.time with domA := { up.time.domA with counter := 5000000 * 4294967296 }, catchGen := { up.time.catchGen with issuing := true, j := 1, unaligned := true, lastTick := some 0 } } }, by decide +kernel⟩,
   ⟨{ up.setReg Obj.SCAN_STATE 1 with time := { up.time with domA := { up.time.domA with counter := 5000000 * 4294967296 }, catchGen := { up.time.catchGen with issuing := true, j := 0 } }, scan := { up.scan with configured := true, readyCatches := 1 } }, by decide +kernel⟩⟩

theorem witness_PipelineRowsFollowInOrder :
    (∃ (s : State) (f : FrameWork), s.acts 1 = true ∧ s.pipe.frame = some f ∧ f.finished = false) ∧
    (∃ (s : State) (f : FrameWork), s.acts 1 = true ∧ s.pipe.frame = some f ∧ f.finished = true) :=
  ⟨⟨{ up.setReg Obj.BAND_COUNT 1 with pipe := { up.pipe with frame := some frame0 } }, frame0, by decide +kernel⟩,
   ⟨{ up with pipe := { up.pipe with frame := some { frame0 with finished := true } } }, { frame0 with finished := true }, by decide +kernel⟩⟩

theorem witness_IngestProfilesAreRecomputed :
    (∃ (s : State) (rq : Req) (p : Nat) (sub : Nat) (data : Bytes) (r : ObjRow), p < 4 ∧ sub < 256 ∧ s.admitsWrite rq ((0x3010 + p) * 256 + sub) data = true ∧ rowOf ((0x3010 + p) * 256 + sub) = some r) ∧
    (∃ (s : State) (rq : Req) (p : Nat) (sub : Nat) (data : Bytes) (r : ObjRow), p < 4 ∧ sub < 256 ∧ s.admitsWrite rq ((0x3010 + p) * 256 + sub) data = true ∧ rowOf ((0x3010 + p) * 256 + sub) = some r) ∧
    (∃ (s : State) (rq : Req) (p : Nat) (sub : Nat) (data : Bytes) (r : ObjRow), p < 4 ∧ sub < 256 ∧ s.admitsWrite rq ((0x3010 + p) * 256 + sub) data = true ∧ rowOf ((0x3010 + p) * 256 + sub) = some r) ∧
    (∃ (s : State) (rq : Req) (data : Bytes), s.admitsWrite rq Obj.TARGET_PRIMARIES data = true) ∧
    (∃ (s : State) (p : Nat) (w : ProfileForce), s.acts 1 = true ∧ (s.profile p).working = some w) ∧
    (∃ (s : State) (rq : Req) (data : Bytes), s.admitsWrite rq Obj.THERMAL_RESET data = true) ∧
    (∃ (s : State) (rq : Req) (data : Bytes), s.admitsWrite rq Obj.X_MAP_FILL data = true) ∧
    (∃ (s : State) (rq : Req) (data : Bytes) (r : ObjRow) (q : Request), q = wholeWrite rq Obj.X_MAP_FILL data ∧ s.hears q = true ∧ s.findObj Obj.X_MAP_FILL = some r ∧ s.writeAbort r Obj.X_MAP_FILL rq.role = 0 ∧ s.reach r Obj.X_MAP_FILL = .ready ∧ s.reg Obj.SCAN_STATE ≠ 0) :=
  ⟨⟨up, host, 3, 2, (natLE 1 1), (row 0x301302), by decide +kernel⟩,
   ⟨(up.setProfile 1 { working := some {} }), host, 1, 8, (natLE 4 1), (row 0x301108), by decide +kernel⟩,
   ⟨up, host, 1, 9, (natLE 18 1), (row 0x301109), by decide +kernel⟩,
   ⟨up, host, (blank Obj.TARGET_PRIMARIES), by decide +kernel⟩,
   ⟨(up.setProfile 1 { working := some {}, again := true }), 1, {}, by decide +kernel⟩,
   ⟨up, host, (blank Obj.THERMAL_RESET), by decide +kernel⟩,
   ⟨up, host, (blank Obj.X_MAP_FILL), by decide +kernel⟩,
   ⟨(up.setReg Obj.SCAN_STATE 1), host, (natLE 4 0), (row Obj.X_MAP_FILL), (wholeWrite host Obj.X_MAP_FILL (natLE 4 0 : Bytes)), by decide +kernel⟩⟩

theorem witness_LayersAreCreatedDestroyedAndSubmitted :
    (∃ (s : State) (rq : Req) (data : Bytes) (l : Nat), s.admitsWrite rq Obj.LAYER_CREATE data = true ∧ leNat data = l ∧ l ≤ 7 ∧ ((l = 7 → rq.role = 3)) ∧ s.layerFree l = true) ∧
    (∃ (s : State) (rq : Req) (data : Bytes), s.admitsWrite rq Obj.LAYER_CREATE data = true ∧ 7 < leNat data) ∧
    (∃ (s : State) (rq : Req) (data : Bytes), s.admitsWrite rq Obj.LAYER_CREATE data = true ∧ leNat data = 7 ∧ rq.role ≠ 3) ∧
    (∃ (s : State) (rq : Req) (data : Bytes), s.admitsWrite rq Obj.LAYER_CREATE data = true ∧ leNat data < 7 ∧ s.layerFree (leNat data) = false) ∧
    (∃ (s : State) (rq : Req) (data : Bytes) (l : Nat), s.admitsWrite rq Obj.LAYER_DESTROY data = true ∧ s.layerOf (leNat data) = some l ∧ ((l = 7 → s.layers.l7Locked = false))) ∧
    (∃ (s : State) (rq : Req) (data : Bytes), s.admitsWrite rq Obj.LAYER_DESTROY data = true ∧ s.layerOf (leNat data) = none) ∧
    (∃ (s : State) (rq : Req) (data : Bytes), s.admitsWrite rq Obj.LAYER_DESTROY data = true ∧ s.layerOf (leNat data) = some 7 ∧ s.layers.l7Locked = true) ∧
    (∃ (s : State) (rq : Req) (data : Bytes) (l : Nat), s.admitsWrite rq Obj.LAYER_SUBMIT data = true ∧ s.layerOf (leNat data) = some l ∧ l ≠ 7 ∧ s.layerSource l = 0) ∧
    (∃ (s : State) (rq : Req) (data : Bytes) (l : Nat), s.admitsWrite rq Obj.LAYER_SUBMIT data = true ∧ s.layerOf (leNat data) = some l ∧ ((l = 7 ∨ s.layerSource l ≠ 0))) ∧
    (∃ (s : State) (rq : Req) (data : Bytes), s.admitsWrite rq Obj.LAYER_SUBMIT data = true ∧ s.layerOf (leNat data) = none) :=
  ⟨⟨up, host, (natLE 4 7), 7, by decide +kernel⟩,
   ⟨up, host, (natLE 4 8), by decide +kernel⟩,
   ⟨up, { host with role := 2 }, (natLE 4 7), by decide +kernel⟩,
   ⟨(up.setReg (Obj.LAYER_STATE 6) 1), host, (natLE 4 6), by decide +kernel⟩,
   ⟨(up.setReg (Obj.LAYER_STATE 0) 1), host, (natLE 4 0x10001000), 0, by decide +kernel⟩,
   ⟨up, host, (blank Obj.LAYER_DESTROY), by decide +kernel⟩,
   ⟨{ up.setReg (Obj.LAYER_STATE 7) 1 with layers := { up.layers with l7Locked := true } }, host, (natLE 4 0x10001007), by decide +kernel⟩,
   ⟨(up.setReg (Obj.LAYER_STATE 1) 1), host, (natLE 4 0x10001001), 1, by decide +kernel⟩,
   ⟨(up.setReg (Obj.LAYER_STATE 7) 1), host, (natLE 4 0x10001007), 7, by decide +kernel⟩,
   ⟨up, host, (natLE 4 0x10001001), by decide +kernel⟩⟩

theorem witness_LayersFlipAtTheBoundary :
    (∃ (s : State) (l : Nat) (p : Submission) (b : Int) (b1 : Int), l < 7 ∧ s.reg (Obj.LAYER_STATE l) = 1 ∧ s.layerSource l = 0 ∧ (s.layer l).pending = some p ∧ s.fenceMet p.timeline p.value b = true ∧ ((p.notBefore = 0 ∨ (timeNs p.notBefore : Int) ≤ b1))) ∧
    (∃ (s : State) (l : Nat) (p : Submission) (b : Int), l < 7 ∧ s.reg (Obj.LAYER_STATE l) = 1 ∧ s.layerSource l = 0 ∧ (s.layer l).pending = some p ∧ s.fenceMet p.timeline p.value b = false) ∧
    (∃ (s : State) (l : Nat) (p : Submission) (b : Int) (b1 : Int), l < 7 ∧ s.reg (Obj.LAYER_STATE l) = 1 ∧ s.layerSource l = 0 ∧ (s.layer l).pending = some p ∧ s.fenceMet p.timeline p.value b = true ∧ p.notBefore ≠ 0 ∧ b1 < (timeNs p.notBefore : Int)) ∧
    (∃ (s : State) (l : Nat) (n : Nat) (frame : Nat) (stream : Nat) (b : Int), l < 7 ∧ s.reg (Obj.LAYER_STATE l) = 1 ∧ s.layerSource l = 1 ∧ (s.layer l).streamPending = some (n, frame, stream) ∧ s.fenceMet (s.reg (Obj.LAYER_STREAM_FENCE l)) frame b = true) ∧
    (∃ (s : State) (l : Nat) (n : Nat) (frame : Nat) (stream : Nat) (b : Int), l < 7 ∧ s.reg (Obj.LAYER_STATE l) = 1 ∧ s.layerSource l = 1 ∧ (s.layer l).streamPending = some (n, frame, stream) ∧ s.fenceMet (s.reg (Obj.LAYER_STREAM_FENCE l)) frame b = false) ∧
    (∃ (s : State) (k : Nat) (v : Nat) (arrival : Option Int) (rest : List (Nat × Option Int)) (b : Int), k ≤ 15 ∧ (s.fence k).signals = (v, arrival) :: rest ∧ ((∀ a, arrival = some a → a ≤ b - 1000 * (s.limited Obj.FENCE_SETUP 1 1000 : Nat)))) ∧
    (∃ (s : State) (k : Nat) (v : Nat) (arrival : Option Int) (rest : List (Nat × Option Int)) (b : Int), k ≤ 15 ∧ (s.fence k).signals = (v, arrival) :: rest ∧ ((∀ a, arrival = some a → a ≤ b - 1000 * (s.limited Obj.FENCE_SETUP 1 1000 : Nat)))) :=
  ⟨⟨(((up.setReg (Obj.LAYER_STATE 6) 1).setReg (Obj.LAYER_SOURCE 6) 0).setLayer 6 { pending := some { buffer := 1, timeline := 16, value := 0, notBefore := 0 } }), 6, { buffer := 1, timeline := 16, value := 0, notBefore := 0 }, 5, 0, by decide +kernel⟩,
   ⟨(((up.setReg (Obj.LAYER_STATE 1) 1)).setLayer 1 { pending := some { buffer := 1, timeline := 15, value := 1, notBefore := 0 } }), 1, { buffer := 1, timeline := 15, value := 1, notBefore := 0 }, 0, by decide +kernel⟩,
   ⟨(((up.setReg (Obj.LAYER_STATE 1) 1)).setLayer 1 { pending := some { buffer := 1, timeline := 16, value := 1, notBefore := 1 } }), 1, { buffer := 1, timeline := 16, value := 1, notBefore := 1 }, 0, 999999999, by decide +kernel⟩,
   ⟨(((up.setReg (Obj.LAYER_STATE 0) 1).setReg (Obj.LAYER_STREAM_FENCE 0) 16).setLayer 0 { stream := some 3, streamPending := some (1, 7, 3), inLoss := true }), 0, 1, 7, 3, 0, by decide +kernel⟩,
   ⟨(((up.setReg (Obj.LAYER_STATE 0) 1).setReg (Obj.LAYER_STREAM_FENCE 0) 15).setLayer 0 { stream := some 3, streamPending := some (1, 7, 3) }), 0, 1, 7, 3, 0, by decide +kernel⟩,
   ⟨(up.setFence 15 { value := 4, signals := [(4, some 5)] }), 15, 4, (some 5), ([]), 1000000, by decide +kernel⟩,
   ⟨(up.setFence 2 { value := 4, signals := [(4, none)] }), 2, 4, none, ([]), 0, by decide +kernel⟩⟩

theorem witness_FencesAndTheProtectedLayer :
    (∃ (s : State) (rq : Req) (data : Bytes) (k : Nat) (v : Nat), s.admitsWrite rq Obj.FENCE_SIGNAL data = true ∧ k = s.atMost Obj.FENCE_SIGNAL_INDEX 15 ∧ v = leNat data % 2 ^ 32) ∧
    (∃ (s : State) (rq : Req) (data : Bytes) (k : Nat) (v : Nat), s.admitsWrite rq Obj.FENCE_SIGNAL data = true ∧ k = s.atMost Obj.FENCE_SIGNAL_INDEX 15 ∧ v = leNat data % 2 ^ 32) ∧
    (∃ (s : State) (rq : Req) (data : Bytes), s.admitsWrite rq Obj.L7_ARM data = true ∧ s.layerOf (leNat data) = some 7 ∧ s.safety.evacActive = false ∧ ((s.reg Obj.L7_ARM_STATE = 0 ∨ s.reg Obj.L7_ARM_STATE = 4))) ∧
    (∃ (s : State) (rq : Req) (data : Bytes), s.admitsWrite rq Obj.L7_ARM data = true ∧ s.layerOf (leNat data) = some 7 ∧ ((s.safety.evacActive = true ∨ s.reg Obj.L7_ARM_STATE = 1 ∨ s.reg Obj.L7_ARM_STATE = 2 ∨ s.reg Obj.L7_ARM_STATE = 3))) ∧
    (∃ (s : State) (rq : Req) (data : Bytes), s.admitsWrite rq Obj.L7_DISARM data = true ∧ s.layerOf (leNat data) = some 7) ∧
    (∃ (s : State) (rq : Req) (data : Bytes) (l : Option Nat), s.admitsWrite rq Obj.L7_DISARM data = true ∧ s.layerOf (leNat data) = l ∧ l ≠ some 7) :=
  ⟨⟨(up.setReg Obj.FENCE_SIGNAL_INDEX 15), host, (natLE 4 0x7FFFFFFF), 15, 0x7FFFFFFF, by decide +kernel⟩,
   ⟨up, host, (natLE 4 0x80000000), 0, 0x80000000, by decide +kernel⟩,
   ⟨((up.setReg (Obj.LAYER_STATE 7) 1).setReg Obj.L7_ARM_STATE 4), host, (natLE 4 0x10001007), by decide +kernel⟩,
   ⟨((up.setReg (Obj.LAYER_STATE 7) 1).setReg Obj.L7_ARM_STATE 3), host, (natLE 4 0x10001007), by decide +kernel⟩,
   ⟨((up.setReg (Obj.LAYER_STATE 7) 1).setReg Obj.L7_ARM_STATE 2), host, (natLE 4 0x10001007), by decide +kernel⟩,
   ⟨up, host, (natLE 4 0x10002007), none, by decide +kernel⟩⟩

theorem witness_BeaconFillPassesArmOrRefuse :
    (∃ (s : State), s.acts 1 = true ∧ s.layers.filling = true ∧ s.safety.evacActive = false ∧ s.fillContent.2.any (·.spoils) = false) ∧
    (∃ (s : State), s.acts 1 = true ∧ s.layers.filling = true ∧ s.safety.evacActive = false ∧ s.fillContent.2.any (·.spoils) = false) ∧
    (∃ (s : State) (spoiled : Bool), s.acts 1 = true ∧ s.layers.filling = true ∧ s.safety.evacActive = false ∧ ((spoiled = true ∨ s.fillContent.2.any (·.spoils) = true))) ∧
    (∃ (s : State) (spoiled : Bool), s.acts 1 = true ∧ s.layers.filling = true ∧ s.safety.evacActive = false ∧ ((spoiled = true ∨ s.fillContent.2.any (·.spoils) = true))) ∧
    (∃ (s : State) (spoiled : Bool), s.acts 1 = true ∧ s.layers.filling = true ∧ s.safety.evacActive = false ∧ ((spoiled = true ∨ s.fillContent.2.any (·.spoils) = true))) ∧
    (∃ (s : State), s.acts 1 = true ∧ ((s.layers.filling = false ∨ s.safety.evacActive = true))) :=
  ⟨⟨{ up.setReg Obj.L7_ARM_STATE 1 with layers := { up.layers with filling := true } }, by decide +kernel⟩,
   ⟨{ up.setReg Obj.L7_ARM_STATE 3 with layers := { up.layers with filling := true } }, by decide +kernel⟩,
   ⟨{ up.setReg Obj.L7_ARM_STATE 1 with layers := { up.layers with filling := true, spoiled := 1 } }, true, by decide +kernel⟩,
   ⟨{ up.setReg Obj.L7_ARM_STATE 1 with layers := { up.layers with filling := true, spoiled := 2 } }, true, by decide +kernel⟩,
   ⟨{ up.setReg Obj.L7_ARM_STATE 3 with layers := { up.layers with filling := true } }, true, by decide +kernel⟩,
   ⟨up, by decide +kernel⟩⟩

theorem witness_ScanDriveStartsAndStops :
    (∃ (s : State) (rq : Req) (data : Bytes), s.admitsWrite rq Obj.SCAN_START data = true ∧ s.reg Obj.SCAN_STATE = 0 ∧ s.power.tripped = false) ∧
    (∃ (s : State) (rq : Req) (data : Bytes), s.admitsWrite rq Obj.SCAN_START data = true ∧ ((s.reg Obj.SCAN_STATE ≠ 0 ∨ s.power.tripped = true))) ∧
    (∃ (s : State) (rq : Req) (data : Bytes), s.admitsWrite rq Obj.SCAN_STOP data = true ∧ ((s.reg Obj.SCAN_STATE = 1 ∨ s.reg Obj.SCAN_STATE = 2))) ∧
    (∃ (s : State) (rq : Req) (data : Bytes), s.admitsWrite rq Obj.SCAN_STOP data = true ∧ s.reg Obj.SCAN_STATE ≠ 1 ∧ s.reg Obj.SCAN_STATE ≠ 2) ∧
    (∃ (s : State), s.acts 4 = true ∧ s.reg Obj.SCAN_STATE = 3 ∧ s.scan.stopReady = true ∧ s.cop.batch = none ∧ s.safety.cold ≠ .stopping) :=
  ⟨⟨up, host, (blank Obj.SCAN_START), by decide +kernel⟩,
   ⟨(up.setReg Obj.SCAN_STATE 3), host, (blank Obj.SCAN_START), by decide +kernel⟩,
   ⟨(up.setReg Obj.SCAN_STATE 1), host, (blank Obj.SCAN_STOP), by decide +kernel⟩,
   ⟨up, host, (blank Obj.SCAN_STOP), by decide +kernel⟩,
   ⟨{ (up.setReg Obj.SCAN_STATE 3).setBand 31 { step := .failed } with scan := { ((up.setReg Obj.SCAN_STATE 3).setBand 31 { step := .failed }).scan with stopReady := true } }, by decide +kernel⟩⟩

theorem witness_BandLinksComeUpOrFail :
    (∃ (s : State) (b : Nat), s.acts 4 = true ∧ (s.band b).step = .aligning) ∧
    (∃ (s : State) (b : Nat), s.acts 4 = true ∧ b < 32 ∧ (s.band b).step = .aligning) ∧
    (∃ (s : State) (b : Nat), s.acts 4 = true ∧ b < 32 ∧ (s.band b).step = .enumerating) ∧
    (∃ (s : State) (b : Nat), s.acts 4 = true ∧ b < 32 ∧ (s.band b).step = .enumerating) ∧
    (∃ (s : State) (b : Nat), s.acts 4 = true ∧ b < 32 ∧ (s.band b).step = .enumerating) ∧
    (∃ (s : State) (b : Nat), s.acts 4 = true ∧ b < 32 ∧ (s.band b).step = .enumerating) ∧
    (∃ (s : State) (b : Nat), s.acts 4 = true ∧ b < 32 ∧ (s.band b).step = .enumerating) ∧
    (∃ (s : State) (b : Nat), s.acts 4 = true ∧ b < 32 ∧ (s.band b).step = .enumerating) ∧
    (∃ (s : State) (b : Nat), s.acts 4 = true ∧ b < 32 ∧ (s.band b).step = .enumerating) ∧
    (∃ (s : State) (b : Nat) (n : Nat) (rt : Nat) (u : State), s.acts 4 = true ∧ b < 32 ∧ (s.band b).step = .measuring ∧ (s.band b).next = n ∧ u = s.setNode b n { s.node b n with roundTrip := some rt }) ∧
    (∃ (s : State) (b : Nat) (n : Nat) (rt : Nat) (u : State), s.acts 4 = true ∧ b < 32 ∧ (s.band b).step = .measuring ∧ (s.band b).next = n ∧ u = s.setNode b n { s.node b n with roundTrip := some rt }) ∧
    (∃ (s : State) (b : Nat) (n : Nat) (rt : Nat) (u : State), s.acts 4 = true ∧ b < 32 ∧ (s.band b).step = .measuring ∧ (s.band b).next = n ∧ u = s.setNode b n { s.node b n with roundTrip := some rt }) ∧
    (∃ (s : State) (b : Nat) (n : Nat) (reg : Nat) (w : Nat × Nat × Nat), s.acts 4 = true ∧ b < 32 ∧ (s.band b).awaiting.find? (fun w => w.1 == n && w.2.1 == reg) = some w) ∧
    (∃ (s : State) (b : Nat) (n : Nat) (reg : Nat) (w : Nat × Nat × Nat), s.acts 4 = true ∧ b < 32 ∧ (s.band b).awaiting.find? (fun w => w.1 == n && w.2.1 == reg) = some w) ∧
    (∃ (s : State) (b : Nat) (n : Nat) (reg : Nat) (w : Nat × Nat × Nat), s.acts 4 = true ∧ b < 32 ∧ (s.band b).awaiting.find? (fun w => w.1 == n && w.2.1 == reg) = some w) ∧
    (∃ (s : State) (b : Nat), s.acts 4 = true ∧ b < 32) :=
  ⟨⟨(withBand 31 { step := .aligning }), 31, by decide +kernel⟩,
   ⟨(withBand 31 { step := .aligning }), 31, by decide +kernel⟩,
   ⟨(withBand 31 { step := .enumerating, next := 31 }), 31, by decide +kernel⟩,
   ⟨(withBand 31 { step := .enumerating, next := 0 }), 31, by decide +kernel⟩,
   ⟨(withBand 31 { step := .enumerating, next := 5 }), 31, by decide +kernel⟩,
   ⟨(withBand 31 { step := .enumerating, next := 32 }), 31, by decide +kernel⟩,
   ⟨(withBand 31 { step := .enumerating, next := 0 }), 31, by decide +kernel⟩,
   ⟨(withBand 31 { step := .enumerating }), 31, by decide +kernel⟩,
   ⟨(withBand 31 { step := .enumerating, next := 1 }), 31, by decide +kernel⟩,
   ⟨((withBand 31 { step := .measuring }).setRegAt Obj.BAND_NODES_FOUND 31 1), 31, 0, 77, (((withBand 31 { step := .measuring }).setRegAt Obj.BAND_NODES_FOUND 31 1 : State).setNode 31 0 { ((withBand 31 { step := .measuring }).setRegAt Obj.BAND_NODES_FOUND 31 1 : State).node 31 0 with roundTrip := some 77 }), by decide +kernel⟩,
   ⟨((withBand 31 { step := .measuring, next := 1 }).setRegAt Obj.BAND_NODES_FOUND 31 1), 31, 1, 77, (((withBand 31 { step := .measuring, next := 1 }).setRegAt Obj.BAND_NODES_FOUND 31 1 : State).setNode 31 1 { ((withBand 31 { step := .measuring, next := 1 }).setRegAt Obj.BAND_NODES_FOUND 31 1 : State).node 31 1 with roundTrip := some 77 }), by decide +kernel⟩,
   ⟨((withBand 31 { step := .measuring, next := 1 }).setRegAt Obj.BAND_NODES_FOUND 31 1), 31, 1, 99999, (((withBand 31 { step := .measuring, next := 1 }).setRegAt Obj.BAND_NODES_FOUND 31 1 : State).setNode 31 1 { ((withBand 31 { step := .measuring, next := 1 }).setRegAt Obj.BAND_NODES_FOUND 31 1 : State).node 31 1 with roundTrip := some 99999 }), by decide +kernel⟩,
   ⟨(withBand 31 { step := .writing, awaiting := [(4, 5, 6), (1, 2, 3)] }), 31, 1, 2, ((1, 2, 3)), by decide +kernel⟩,
   ⟨(withBand 31 { step := .writing, awaiting := [(1, 2, 3)] }), 31, 1, 2, ((1, 2, 3)), by decide +kernel⟩,
   ⟨(withBand 31 { step := .writing, awaiting := [(1, 2, 4)] }), 31, 1, 2, ((1, 2, 4)), by decide +kernel⟩,
   ⟨up, 31, by decide +kernel⟩⟩

theorem witness_TimingSymbolsFollowTheScanCycle :
    (∃ (s : State) (b : Nat) (c : Bool) (rest : List Bool) (y : BandState), s.acts 4 = true ∧ s.scan.strokes = true ∧ b < s.bandCount ∧ (s.band b).position = 0 ∧ (s.band b).catches = c :: rest ∧ y = { s.band b with position := 1, catches := rest, cycle := if c then 0 else (s.band b).cycle + 1 }) ∧
    (∃ (s : State) (b : Nat) (c : Bool) (rest : List Bool) (y : BandState), s.acts 4 = true ∧ s.scan.strokes = true ∧ b < s.bandCount ∧ (s.band b).position = 0 ∧ (s.band b).catches = c :: rest ∧ y = { s.band b with position := 1, catches := rest, cycle := if c then 0 else (s.band b).cycle + 1 }) ∧
    (∃ (s : State) (b : Nat) (c : Bool) (rest : List Bool) (y : BandState), s.acts 4 = true ∧ s.scan.strokes = true ∧ b < s.bandCount ∧ (s.band b).position = 0 ∧ (s.band b).catches = c :: rest ∧ y = { s.band b with position := 1, catches := rest, cycle := if c then 0 else (s.band b).cycle + 1 }) ∧
    (∃ (s : State) (b : Nat), s.acts 4 = true ∧ s.scan.strokes = true ∧ b < s.bandCount ∧ (s.band b).position = 0 ∧ (s.band b).catches = []) ∧
    (∃ (s : State) (b : Nat), s.acts 4 = true ∧ s.scan.strokes = true ∧ b < s.bandCount ∧ (s.band b).position = 0 ∧ (s.band b).catches = []) ∧
    (∃ (s : State) (b : Nat) (p : Nat) (y : BandState), s.acts 4 = true ∧ s.scan.strokes = true ∧ b < s.bandCount ∧ (s.band b).position = p + 1 ∧ y = { s.band b with position := if p + 2 = 2 * s.scan.rows then 0 else p + 2 }) ∧
    (∃ (s : State) (b : Nat) (p : Nat) (y : BandState), s.acts 4 = true ∧ s.scan.strokes = true ∧ b < s.bandCount ∧ (s.band b).position = p + 1 ∧ y = { s.band b with position := if p + 2 = 2 * s.scan.rows then 0 else p + 2 }) ∧
    (∃ (s : State) (b : Nat) (p : Nat) (y : BandState), s.acts 4 = true ∧ s.scan.strokes = true ∧ b < s.bandCount ∧ (s.band b).position = p + 1 ∧ y = { s.band b with position := if p + 2 = 2 * s.scan.rows then 0 else p + 2 }) ∧
    (∃ (s : State) (b : Nat) (p : Nat) (y : BandState), s.acts 4 = true ∧ s.scan.strokes = true ∧ b < s.bandCount ∧ (s.band b).position = p + 1 ∧ y = { s.band b with position := if p + 2 = 2 * s.scan.rows then 0 else p + 2 }) ∧
    (∃ (s : State) (b : Nat) (p : Nat) (y : BandState), s.acts 4 = true ∧ s.scan.strokes = true ∧ b < s.bandCount ∧ (s.band b).position = p + 1 ∧ y = { s.band b with position := if p + 2 = 2 * s.scan.rows then 0 else p + 2 }) ∧
    (∃ (s : State) (b : Nat) (p : Nat) (y : BandState), s.acts 4 = true ∧ s.scan.strokes = true ∧ b < s.bandCount ∧ (s.band b).position = p + 1 ∧ y = { s.band b with position := if p + 2 = 2 * s.scan.rows then 0 else p + 2 }) ∧
    (∃ (s : State) (b : Nat), s.acts 4 = true ∧ ((s.scan.strokes = false ∨ s.bandCount ≤ b))) :=
  ⟨⟨{ withBand 31 { step := .running, catches := [true, false] } with scan := { (withBand 31 { step := .running, catches := [true, false] }).scan with strokes := true, shownFrame := some 0 }, safety := released.safety }, 31, true, ([false]), { ({ withBand 31 { step := .running, catches := [true, false] } with scan := { (withBand 31 { step := .running, catches := [true, false] }).scan with strokes := true, shownFrame := some 0 }, safety := released.safety } : State).band 31 with position := 1, catches := ([false] : List Bool), cycle := if true then 0 else (({ withBand 31 { step := .running, catches := [true, false] } with scan := { (withBand 31 { step := .running, catches := [true, false] }).scan with strokes := true, shownFrame := some 0 }, safety := released.safety } : State).band 31).cycle + 1 }, by decide +kernel⟩,
   ⟨{ withBand 31 { step := .running, catches := [false], cycle := 3 } with scan := { (withBand 31 { step := .running, catches := [false], cycle := 3 }).scan with strokes := true, shownFrame := some 0 } }, 31, false, ([]), { ({ withBand 31 { step := .running, catches := [false], cycle := 3 } with scan := { (withBand 31 { step := .running, catches := [false], cycle := 3 }).scan with strokes := true, shownFrame := some 0 } } : State).band 31 with position := 1, catches := ([] : List Bool), cycle := if false then 0 else (({ withBand 31 { step := .running, catches := [false], cycle := 3 } with scan := { (withBand 31 { step := .running, catches := [false], cycle := 3 }).scan with strokes := true, shownFrame := some 0 } } : State).band 31).cycle + 1 }, by decide +kernel⟩,
   ⟨{ withBand 31 { step := .failed, catches := [false], cycle := 3 } with scan := { (withBand 31 { step := .failed, catches := [false], cycle := 3 }).scan with strokes := true, shownFrame := some 0 }, safety := released.safety }, 31, false, ([]), { ({ withBand 31 { step := .failed, catches := [false], cycle := 3 } with scan := { (withBand 31 { step := .failed, catches := [false], cycle := 3 }).scan with strokes := true, shownFrame := some 0 }, safety := released.safety } : State).band 31 with position := 1, catches := ([] : List Bool), cycle := if false then 0 else (({ withBand 31 { step := .failed, catches := [false], cycle := 3 } with scan := { (withBand 31 { step := .failed, catches := [false], cycle := 3 }).scan with strokes := true, shownFrame := some 0 }, safety := released.safety } : State).band 31).cycle + 1 }, by decide +kernel⟩,
   ⟨{ withBand 31 { step := .running } with scan := { (withBand 31 { step := .running }).scan with strokes := true, shownFrame := some 0 }, safety := released.safety }, 31, by decide +kernel⟩,
   ⟨{ withBand 31 { step := .running } with scan := { (withBand 31 { step := .running }).scan with strokes := true, shownFrame := some 0 }, safety := released.safety, time := { up.time with catchGen := { up.time.catchGen with reanchor := true } } }, 31, by decide +kernel⟩,
   ⟨{ withBand 31 { step := .running, position := 2 } with scan := { (withBand 31 { step := .running, position := 2 }).scan with strokes := true, shownFrame := some 0 }, safety := released.safety }, 31, 1, { ({ withBand 31 { step := .running, position := 2 } with scan := { (withBand 31 { step := .running, position := 2 }).scan with strokes := true, shownFrame := some 0 }, safety := released.safety } : State).band 31 with position := if 1 + 2 = 2 * ({ withBand 31 { step := .running, position := 2 } with scan := { (withBand 31 { step := .running, position := 2 }).scan with strokes := true, shownFrame := some 0 }, safety := released.safety } : State).scan.rows then 0 else 1 + 2 }, by decide +kernel⟩,
   ⟨{ withBand 31 { step := .running, position := 1 } with scan := { (withBand 31 { step := .running, position := 1 }).scan with strokes := true, shownFrame := some 0 }, safety := released.safety }, 31, 0, { ({ withBand 31 { step := .running, position := 1 } with scan := { (withBand 31 { step := .running, position := 1 }).scan with strokes := true, shownFrame := some 0 }, safety := released.safety } : State).band 31 with position := if 0 + 2 = 2 * ({ withBand 31 { step := .running, position := 1 } with scan := { (withBand 31 { step := .running, position := 1 }).scan with strokes := true, shownFrame := some 0 }, safety := released.safety } : State).scan.rows then 0 else 0 + 2 }, by decide +kernel⟩,
   ⟨{ withBand 31 { step := .running, position := 63 } with scan := { (withBand 31 { step := .running, position := 63 }).scan with strokes := true, shownFrame := some 0 } }, 31, 62, { ({ withBand 31 { step := .running, position := 63 } with scan := { (withBand 31 { step := .running, position := 63 }).scan with strokes := true, shownFrame := some 0 } } : State).band 31 with position := if 62 + 2 = 2 * ({ withBand 31 { step := .running, position := 63 } with scan := { (withBand 31 { step := .running, position := 63 }).scan with strokes := true, shownFrame := some 0 } } : State).scan.rows then 0 else 62 + 2 }, by decide +kernel⟩,
   ⟨{ withBand 31 { step := .failed, position := 2 } with scan := { (withBand 31 { step := .failed, position := 2 }).scan with strokes := true, shownFrame := some 0 }, safety := released.safety }, 31, 1, { ({ withBand 31 { step := .failed, position := 2 } with scan := { (withBand 31 { step := .failed, position := 2 }).scan with strokes := true, shownFrame := some 0 }, safety := released.safety } : State).band 31 with position := if 1 + 2 = 2 * ({ withBand 31 { step := .failed, position := 2 } with scan := { (withBand 31 { step := .failed, position := 2 }).scan with strokes := true, shownFrame := some 0 }, safety := released.safety } : State).scan.rows then 0 else 1 + 2 }, by decide +kernel⟩,
   ⟨{ withBand 31 { step := .failed, position := 1 } with scan := { (withBand 31 { step := .failed, position := 1 }).scan with strokes := true, shownFrame := some 0 }, safety := released.safety }, 31, 0, { ({ withBand 31 { step := .failed, position := 1 } with scan := { (withBand 31 { step := .failed, position := 1 }).scan with strokes := true, shownFrame := some 0 }, safety := released.safety } : State).band 31 with position := if 0 + 2 = 2 * ({ withBand 31 { step := .failed, position := 1 } with scan := { (withBand 31 { step := .failed, position := 1 }).scan with strokes := true, shownFrame := some 0 }, safety := released.safety } : State).scan.rows then 0 else 0 + 2 }, by decide +kernel⟩,
   ⟨(State.setReg { { withBand 31 { step := .running, position := 1 } with scan := { (withBand 31 { step := .running, position := 1 }).scan with strokes := true, shownFrame := some 0 }, safety := released.safety } with scan := { { withBand 31 { step := .running, position := 1 } with scan := { (withBand 31 { step := .running, position := 1 }).scan with strokes := true, shownFrame := some 0 }, safety := released.safety }.scan with stopCatches := 1 } } Obj.SCAN_STATE 3), 31, 0, { (State.setReg { { withBand 31 { step := .running, position := 1 } with scan := { (withBand 31 { step := .running, position := 1 }).scan with strokes := true, shownFrame := some 0 }, safety := released.safety } with scan := { { withBand 31 { step := .running, position := 1 } with scan := { (withBand 31 { step := .running, position := 1 }).scan with strokes := true, shownFrame := some 0 }, safety := released.safety }.scan with stopCatches := 1 } } Obj.SCAN_STATE 3 : State).band 31 with position := if 0 + 2 = 2 * (State.setReg { { withBand 31 { step := .running, position := 1 } with scan := { (withBand 31 { step := .running, position := 1 }).scan with strokes := true, shownFrame := some 0 }, safety := released.safety } with scan := { { withBand 31 { step := .running, position := 1 } with scan := { (withBand 31 { step := .running, position := 1 }).scan with strokes := true, shownFrame := some 0 }, safety := released.safety }.scan with stopCatches := 1 } } Obj.SCAN_STATE 3 : State).scan.rows then 0 else 0 + 2 }, by decide +kernel⟩,
   ⟨(up.setReg Obj.BAND_COUNT 31), 31, by decide +kernel⟩⟩

theorem witness_SlicesAreDeliveredAndAcknowledged :
    (∃ (s : State) (b : Nat) (n : Nat) (f : FrameWork), s.acts 4 = true ∧ s.pipe.frame = some f ∧ s.delivering b = true ∧ n ≠ 0 ∧ (s.node b n).present = true ∧ s.scan.deadlinePassed = false ∧ (s.node b n).rowsSent < s.scan.rows ∧ s.rowReady b n (s.node b n).rowsSent = true ∧ s.replayed b = false) ∧
    (∃ (s : State) (b : Nat) (n : Nat) (f : FrameWork), s.acts 4 = true ∧ s.pipe.frame = some f ∧ s.delivering b = true ∧ n ≠ 0 ∧ (s.node b n).present = true ∧ s.scan.deadlinePassed = false ∧ (s.node b n).rowsSent < s.scan.rows ∧ s.rowReady b n (s.node b n).rowsSent = true ∧ s.replayed b = false) ∧
    (∃ (s : State) (b : Nat) (n : Nat) (f : FrameWork), s.acts 4 = true ∧ s.pipe.frame = some f ∧ s.delivering b = true ∧ n ≠ 0 ∧ (s.node b n).present = true ∧ s.scan.deadlinePassed = false ∧ (s.node b n).rowsSent < s.scan.rows ∧ s.rowReady b n (s.node b n).rowsSent = true ∧ s.replayed b = true) ∧
    (∃ (s : State) (b : Nat) (n : Nat) (f : FrameWork), s.acts 4 = true ∧ s.pipe.frame = some f ∧ s.delivering b = true ∧ n ≠ 0 ∧ (s.node b n).present = true ∧ s.scan.deadlinePassed = false ∧ (s.node b n).rowsSent < s.scan.rows ∧ s.rowReady b n (s.node b n).rowsSent = true ∧ s.replayed b = true) ∧
    (∃ (s : State) (b : Nat) (n : Nat) (f : FrameWork), s.acts 4 = true ∧ b < 32 ∧ s.pipe.frame = some f ∧ s.delivering b = true ∧ (s.node b n).present = true ∧ s.scan.deadlinePassed = false) ∧
    (∃ (s : State) (b : Nat) (n : Nat) (f : FrameWork), s.acts 4 = true ∧ b < 32 ∧ s.pipe.frame = some f ∧ s.delivering b = true ∧ (s.node b n).present = true ∧ s.scan.deadlinePassed = false) ∧
    (∃ (s : State) (b : Nat) (n : Nat) (f : FrameWork), s.acts 4 = true ∧ b < 32 ∧ s.pipe.frame = some f ∧ s.delivering b = true ∧ (s.node b n).present = true ∧ s.scan.deadlinePassed = false) ∧
    (∃ (s : State) (b : Nat), s.acts 4 = true ∧ b < 32) ∧
    (∃ (s : State) (f : FrameWork), s.acts 4 = true ∧ s.pipe.frame = some f ∧ s.scan.deadlinePassed = false ∧ s.scan.strokes = true) ∧
    (∃ (s : State) (b : Nat), s.acts 4 = true ∧ s.delivering b = true ∧ (s.band b).settingsDue = true) :=
  ⟨⟨{ withBand 31 { step := .running, nodes := [(1, { present := true, rowsSent := 31 })] } with pipe := { up.pipe with frame := some frame0, readyRows := [31 * 32 + 31] } }, 31, 1, frame0, by decide +kernel⟩,
   ⟨{ withBand 31 { step := .running, nodes := [(1, { present := true, rowsSent := 31 })] } with pipe := { up.pipe with frame := some frame0, readyRows := [31 * 32 + 31] } }, 31, 1, frame0, by decide +kernel⟩,
   ⟨(({ withBand 31 { step := .running, nodes := [(1, { present := true, rowsSent := 31 })] } with pipe := { up.pipe with frame := some frame0, readyRows := [31 * 32 + 31] } }.setReg Obj.REPLAY_BANDS (2 ^ 31)).setBeacon 0x2F4 [1#8]), 31, 1, frame0, by decide +kernel⟩,
   ⟨(({ withBand 31 { step := .running, nodes := [(1, { present := true, rowsSent := 31 })] } with pipe := { up.pipe with frame := some frame0, readyRows := [31 * 32 + 31] } }.setReg Obj.REPLAY_BANDS (2 ^ 31)).setBeacon 0x2F4 [1#8]), 31, 1, frame0, by decide +kernel⟩,
   ⟨{ withBand 31 { step := .running, nodes := [(1, { present := true, rowsSent := 32 })] } with pipe := { up.pipe with frame := some frame0, readyRows := [31 * 32 + 31] } }, 31, 1, frame0, by decide +kernel⟩,
   ⟨{ withBand 31 { step := .running, nodes := [(1, { present := true, rowsSent := 32 })] } with pipe := { up.pipe with frame := some frame0, readyRows := [31 * 32 + 31] } }, 31, 1, frame0, by decide +kernel⟩,
   ⟨{ withBand 31 { step := .running, nodes := [(1, { present := true, rowsSent := 32, spoilt := true })] } with pipe := { up.pipe with frame := some frame0, readyRows := [31 * 32 + 31] } }, 31, 1, frame0, by decide +kernel⟩,
   ⟨up, 31, by decide +kernel⟩,
   ⟨{ up with pipe := { up.pipe with frame := some frame0 }, scan := { up.scan with strokes := true } }, frame0, by decide +kernel⟩,
   ⟨(withBand 31 { step := .running, settingsDue := true }), 31, by decide +kernel⟩⟩

theorem witness_NodeReportsAreTaken :
    (∃ (s : State) (b : Nat) (r : HeadroomReport), s.acts 4 = true ∧ s.counted b = true ∧ r.check = .good) ∧
    (∃ (s : State) (b : Nat) (r : HeadroomReport), s.acts 4 = true ∧ b < 32 ∧ s.counted b = true ∧ r.check = .badCrc) ∧
    (∃ (s : State) (b : Nat) (o : OpenStroke) (rest : List OpenStroke), s.acts 4 = true ∧ b < 32 ∧ s.counted b = true ∧ (s.band b).strokes = o :: rest) ∧
    (∃ (s : State) (b : Nat) (o : OpenStroke) (rest : List OpenStroke), s.acts 4 = true ∧ b < 32 ∧ s.counted b = true ∧ (s.band b).strokes = o :: rest) ∧
    (∃ (s : State) (b : Nat), s.acts 4 = true ∧ s.counted b = false) ∧
    (∃ (s : State) (b : Nat) (n : Nat) (p : ProbePacket) (x : ProbeSet), s.acts 4 = true ∧ p.check = .good ∧ s.diag.probes.find? (fun x => x.band == b && x.node == n && x.frame % 256 == p.frameTag && x.cycle == p.cycle) = some x) ∧
    (∃ (s : State) (b : Nat) (n : Nat) (p : ProbePacket), s.acts 4 = true ∧ p.check = .good ∧ s.diag.probes.find? (fun x => x.band == b && x.node == n && x.frame % 256 == p.frameTag && x.cycle == p.cycle) = none) ∧
    (∃ (s : State) (b : Nat) (p : ProbePacket), s.acts 4 = true ∧ b < 32 ∧ p.check = .badCrc) ∧
    (∃ (s : State) (b : Nat), s.acts 3 = true ∧ b < s.bandCount) :=
  ⟨⟨{ withBand 31 { step := .running, strokes := [{ stroke := 0, cycle := 0 }] } with scan := { (withBand 31 { step := .running, strokes := [{ stroke := 0, cycle := 0 }] }).scan with strokes := true, shownFrame := some 0 }, safety := released.safety }, 31, (rep true), by decide +kernel⟩,
   ⟨{ withBand 31 { step := .running } with scan := { (withBand 31 { step := .running }).scan with strokes := true, shownFrame := some 0 }, safety := released.safety }, 31, (rep false), by decide +kernel⟩,
   ⟨{ withBand 31 { step := .running, strokes := [{ stroke := 0, cycle := 0 }, { stroke := 1, cycle := 0 }] } with scan := { (withBand 31 { step := .running, strokes := [{ stroke := 0, cycle := 0 }, { stroke := 1, cycle := 0 }] }).scan with strokes := true, shownFrame := some 0 }, safety := released.safety }, 31, { stroke := 0, cycle := 0 }, ([{ stroke := 1, cycle := 0 }]), by decide +kernel⟩,
   ⟨{ withBand 31 { step := .running, strokes := [{ stroke := 0, cycle := 0, report := some (rep true) }] } with scan := { (withBand 31 { step := .running, strokes := [{ stroke := 0, cycle := 0, report := some (rep true) }] }).scan with strokes := true, shownFrame := some 0 }, safety := released.safety }, 31, { stroke := 0, cycle := 0, report := some (rep true) }, ([]), by decide +kernel⟩,
   ⟨{ withBand 31 { step := .running, strokes := [{ stroke := 0, cycle := 0 }] } with scan := { (withBand 31 { step := .running, strokes := [{ stroke := 0, cycle := 0 }] }).scan with strokes := true, shownFrame := some 0 } }, 31, by decide +kernel⟩,
   ⟨{ up with diag := { up.diag with probes := [{ band := 31, node := 32, frame := 257, cycle := 0 }] } }, 31, 32, prb, { band := 31, node := 32, frame := 257, cycle := 0 }, by decide +kernel⟩,
   ⟨up, 31, 32, prb, by decide +kernel⟩,
   ⟨up, 31, { prb with check := .badCrc }, by decide +kernel⟩,
   ⟨(up.setReg Obj.BAND_COUNT 32), 31, by decide +kernel⟩⟩

theorem witness_VerdictsLeadToConfirmedDefects :
    (∃ (s : State) (e : Nat), s.confirmed e = false ∧ tableFull ((s.mapState e).getD 0) = false ∧ s.suspect e = none ∧ s.diag.suspects.length < 16384 ∧ s.confirmCount ≠ 1) ∧
    (∃ (s : State) (e : Nat) (v : Verdict) (n : Nat), s.confirmed e = false ∧ tableFull ((s.mapState e).getD 0) = false ∧ s.suspect e = some ⟨e, v, n⟩ ∧ s.confirmCount ≤ n + 1 ∧ s.diag.subst.length < 8192) ∧
    (∃ (s : State) (e : Nat) (v : Verdict) (n : Nat), s.confirmed e = false ∧ tableFull ((s.mapState e).getD 0) = false ∧ s.suspect e = some ⟨e, v, n⟩ ∧ s.confirmCount ≤ n + 1 ∧ 8192 ≤ s.diag.subst.length) ∧
    (∃ (s : State) (e : Nat) (v : Verdict) (w : Verdict) (n : Nat), s.confirmed e = false ∧ tableFull ((s.mapState e).getD 0) = false ∧ s.suspect e = some ⟨e, w, n⟩ ∧ w ≠ v ∧ s.confirmCount ≠ 1) ∧
    (∃ (s : State) (e : Nat), s.confirmed e = false ∧ tableFull ((s.mapState e).getD 0) = false) ∧
    (∃ (s : State) (e : Nat), s.confirmed e = true ∧ bitAt (s.entry e % 2 ^ 64) 25 = false) :=
  ⟨⟨up, 5, by decide +kernel⟩,
   ⟨{ up with diag := { up.diag with suspects := [⟨5, .weak, 6⟩] } }, 5, .weak, 6, by decide +kernel⟩,
   ⟨{ up with diag := { up.diag with suspects := [⟨5, .weak, 6⟩], subst := (List.range 8192).map fun i => (i + 10, 2 ^ 64) } }, 5, .weak, 6, by decide +kernel⟩,
   ⟨{ up with diag := { up.diag with suspects := [⟨5, .leak, 6⟩] } }, 5, .weak, .leak, 6, by decide +kernel⟩,
   ⟨{ up with diag := { up.diag with suspects := [⟨5, .leak, 2⟩] } }, 5, by decide +kernel⟩,
   ⟨{ up with diag := { up.diag with subst := [(5, 2 ^ 64 + 5)] } }, 5, by decide +kernel⟩⟩

theorem witness_VfSamplesAndWriteBacks :
    (∃ (s : State) (e : Nat) (code : Nat) (a : Nat), s.acts 1 = true ∧ s.diag.vfWaiting.contains (e, code) = true ∧ a = s.vfAddr e % 2 ^ 40) ∧
    (∃ (s : State) (e : Nat) (code : Nat) (a : Nat), s.acts 1 = true ∧ s.diag.vfWaiting.contains (e, code) = true ∧ a = s.vfAddr e % 2 ^ 40) ∧
    (∃ (s : State) (e : Nat) (code : Nat) (a : Nat), s.acts 1 = true ∧ s.diag.vfWaiting.contains (e, code) = true ∧ a = s.vfAddr e % 2 ^ 40) ∧
    (∃ (s : State) (e : Nat) (code : Nat), s.acts 1 = true ∧ s.diag.vfWaiting.contains (e, code) = false) ∧
    (∃ (s : State) (e : Nat) (a : Nat) (w : Nat × Nat), s.acts 1 = true ∧ s.diag.writebacks.find? (·.1 == e) = some w ∧ a = s.calAddr (e / 3) % 2 ^ 40) ∧
    (∃ (s : State) (e : Nat) (a : Nat) (w : Nat × Nat), s.acts 1 = true ∧ s.diag.writebacks.find? (·.1 == e) = some w ∧ a = s.calAddr (e / 3) % 2 ^ 40) ∧
    (∃ (s : State) (e : Nat) (a : Nat) (w : Nat × Nat), s.acts 1 = true ∧ s.diag.writebacks.find? (·.1 == e) = some w ∧ a = s.calAddr (e / 3) % 2 ^ 40) ∧
    (∃ (s : State) (e : Nat), s.acts 1 = true ∧ s.diag.writebacks.find? (·.1 == e) = none) :=
  ⟨⟨{ ram with diag := { ram.diag with vfWaiting := [(5, 9)] } }, 5, 9, (({ ram with diag := { ram.diag with vfWaiting := [(5, 9)] } } : State).vfAddr 5 % 2 ^ 40), by decide +kernel⟩,
   ⟨{ up with diag := { up.diag with vfWaiting := [(5, 9)] } }, 5, 9, (({ up with diag := { up.diag with vfWaiting := [(5, 9)] } } : State).vfAddr 5 % 2 ^ 40), by decide +kernel⟩,
   ⟨{ ram.setTarget ⟨0, false, ram.calAddr 1⟩ calRec with diag := { ram.diag with vfWaiting := [(5, 9)] } }, 5, 9, (({ ram.setTarget ⟨0, false, ram.calAddr 1⟩ calRec with diag := { ram.diag with vfWaiting := [(5, 9)] } } : State).vfAddr 5 % 2 ^ 40), by decide +kernel⟩,
   ⟨up, 5, 9, by decide +kernel⟩,
   ⟨{ ram.setTarget ⟨0, false, ram.calAddr 1⟩ calRec with diag := { ram.diag with writebacks := [(5, 9)] } }, 5, (({ ram.setTarget ⟨0, false, ram.calAddr 1⟩ calRec with diag := { ram.diag with writebacks := [(5, 9)] } } : State).calAddr (5 / 3) % 2 ^ 40), ((5, 9)), by decide +kernel⟩,
   ⟨{ ram.setTarget ⟨0, false, ram.calAddr 1⟩ calRec with diag := { ram.diag with writebacks := [(5, 9)] } }, 5, (({ ram.setTarget ⟨0, false, ram.calAddr 1⟩ calRec with diag := { ram.diag with writebacks := [(5, 9)] } } : State).calAddr (5 / 3) % 2 ^ 40), ((5, 9)), by decide +kernel⟩,
   ⟨{ ram.setTarget ⟨0, false, ram.calAddr 1⟩ calRec with diag := { ram.diag with writebacks := [(5, 9)] }, safety := { ram.safety with evacActive := true } }, 5, (({ ram.setTarget ⟨0, false, ram.calAddr 1⟩ calRec with diag := { ram.diag with writebacks := [(5, 9)] }, safety := { ram.safety with evacActive := true } } : State).calAddr (5 / 3) % 2 ^ 40), ((5, 9)), by decide +kernel⟩,
   ⟨up, 5, by decide +kernel⟩⟩

theorem witness_DefectsAreEditedByTheHost :
    (∃ (s : State) (rq : Req) (data : Bytes) (e : Nat), s.admitsWrite rq Obj.DEFECT_ADD data = true ∧ e = field (hostEntry (leNat data)) 0 22 ∧ ((s.diag.subst.length < 8192 ∨ s.confirmed e = true))) ∧
    (∃ (s : State) (rq : Req) (data : Bytes) (e : Nat), s.admitsWrite rq Obj.DEFECT_ADD data = true ∧ e = field (hostEntry (leNat data)) 0 22 ∧ ((s.diag.subst.length < 8192 ∨ s.confirmed e = true))) ∧
    (∃ (s : State) (rq : Req) (data : Bytes), s.admitsWrite rq Obj.DEFECT_ADD data = true ∧ 8192 ≤ s.diag.subst.length ∧ s.confirmed (field (hostEntry (leNat data)) 0 22) = false) ∧
    (∃ (s : State) (rq : Req) (data : Bytes) (e : Nat), s.admitsWrite rq Obj.DEFECT_CLEAR data = true ∧ e = leNat data % 2 ^ 32 ∧ e < s.emitters) ∧
    (∃ (s : State) (rq : Req) (data : Bytes), s.admitsWrite rq Obj.DEFECT_CLEAR data = true ∧ s.emitters ≤ leNat data % 2 ^ 32) ∧
    (∃ (s : State) (rq : Req) (data : Bytes), s.admitsWrite rq Obj.DEFECT_CLEAR_ALL data = true) ∧
    (∃ (s : State) (rq : Req) (data : Bytes), s.admitsWrite rq Obj.DEFECT_TABLE data = true) ∧
    (∃ (s : State) (rq : Req) (data : Bytes), s.admitsWrite rq Obj.DEFECT_TABLE data = true) ∧
    (∃ (s : State) (rq : Req) (data : Bytes) (e : Nat) (a : Nat), s.admitsWrite rq Obj.VF_REF_RESET data = true ∧ e = leNat data % 2 ^ 32 ∧ a = s.vfAddr e % 2 ^ 40) ∧
    (∃ (s : State) (rq : Req) (data : Bytes) (e : Nat) (a : Nat), s.admitsWrite rq Obj.VF_REF_RESET data = true ∧ e = leNat data % 2 ^ 32 ∧ a = s.vfAddr e % 2 ^ 40) ∧
    (∃ (s : State) (rq : Req) (data : Bytes) (e : Nat) (a : Nat), s.admitsWrite rq Obj.VF_REF_RESET data = true ∧ e = leNat data % 2 ^ 32 ∧ a = s.vfAddr e % 2 ^ 40) :=
  ⟨⟨up, host, (natLE 8 11), 11, by decide +kernel⟩,
   ⟨{ up with diag := { up.diag with subst := ((List.range 8191).map fun i => (i + 1, 2 ^ 64)) ++ [(4194303, 2 ^ 64 + 4194303)] } }, host, (natLE 8 0xFFFFFFFFFFFFFFFF), 4194303, by decide +kernel⟩,
   ⟨{ up with diag := { up.diag with subst := (List.range 8192).map fun i => (i + 1, 2 ^ 64) } }, host, (blank Obj.DEFECT_ADD), by decide +kernel⟩,
   ⟨((up.setReg Obj.EFFECTIVE_WIDTH 2).setReg Obj.EFFECTIVE_HEIGHT 2), host, (natLE 4 11), 11, by decide +kernel⟩,
   ⟨up, host, (natLE 4 0xFFFFFFFF), by decide +kernel⟩,
   ⟨up, host, (blank Obj.DEFECT_CLEAR_ALL), by decide +kernel⟩,
   ⟨up, host, (natLE 8 7 ++ natLE 8 5), by decide +kernel⟩,
   ⟨up, host, ([]), by decide +kernel⟩,
   ⟨((ram.setReg Obj.EFFECTIVE_WIDTH 2).setReg Obj.EFFECTIVE_HEIGHT 2), host, (natLE 4 11), 11, (((ram.setReg Obj.EFFECTIVE_WIDTH 2).setReg Obj.EFFECTIVE_HEIGHT 2 : State).vfAddr 11 % 2 ^ 40), by decide +kernel⟩,
   ⟨((ram.setReg Obj.EFFECTIVE_WIDTH 2).setReg Obj.EFFECTIVE_HEIGHT 2), host, (natLE 4 0xFFFFFFFF), 0xFFFFFFFF, (((ram.setReg Obj.EFFECTIVE_WIDTH 2).setReg Obj.EFFECTIVE_HEIGHT 2 : State).vfAddr 0xFFFFFFFF % 2 ^ 40), by decide +kernel⟩,
   ⟨((ram.setReg Obj.EFFECTIVE_WIDTH 2).setReg Obj.EFFECTIVE_HEIGHT 2), host, (natLE 4 12), 12, (((ram.setReg Obj.EFFECTIVE_WIDTH 2).setReg Obj.EFFECTIVE_HEIGHT 2 : State).vfAddr 12 % 2 ^ 40), by decide +kernel⟩⟩

theorem witness_RailsStartStopAndAreConfigured :
    (∃ (s : State) (rq : Req) (data : Bytes), s.admitsWrite rq Obj.RAIL_START data = true ∧ s.power.tripped = false) ∧
    (∃ (s : State) (rq : Req) (data : Bytes), s.admitsWrite rq Obj.RAIL_START data = true ∧ s.power.tripped = true) ∧
    (∃ (s : State) (rq : Req) (data : Bytes), s.admitsWrite rq Obj.RAIL_STOP data = true) ∧
    (∃ (s : State) (rq : Req) (data : Bytes), s.admitsWrite rq Obj.RAIL_CLEAR data = true) ∧
    (∃ (s : State) (rq : Req) (n : Nat) (data : Bytes), n < 48 ∧ s.admitsWrite rq (Obj.RAIL_MODE n) data = true) ∧
    (∃ (s : State) (rq : Req) (data : Bytes), s.admitsWrite rq Obj.COEF_COMMIT data = true) ∧
    (∃ (s : State), s.acts 3 = true) ∧
    (∃ (s : State), s.acts 3 = true) :=
  ⟨⟨(released.setReg Obj.RAIL_GROUPS_USED 1), host, (natLE 8 0xFFFFFFFFFFFF), by decide +kernel⟩,
   ⟨{ up with power := { up.power with tripped := true } }, host, (blank Obj.RAIL_START), by decide +kernel⟩,
   ⟨(withRail 47 { mode := .auto }), host, (natLE 8 0xFFFFFFFFFFFF), by decide +kernel⟩,
   ⟨(withRail 47 { mode := .faultOff }), host, (natLE 8 0xFFFFFFFFFFFF), by decide +kernel⟩,
   ⟨(withRail 47 { mode := .auto, forced := true }), host, 47, (natLE 1 2), by decide +kernel⟩,
   ⟨{ up with rails := { up.rails with shadow := [(tabKey Obj.COEF_TABLE 3, 8)] } }, host, (blank Obj.COEF_COMMIT), by decide +kernel⟩,
   ⟨(withRail 47 { mode := .rampDown }), by decide +kernel⟩,
   ⟨up, by decide +kernel⟩⟩

theorem witness_RailsAreSampledAndRegulated :
    (∃ (s : State) (n : Nat), s.acts 3 = true ∧ (s.rail n).on = false) ∧
    (∃ (s : State) (n : Nat), s.acts 3 = true ∧ n < 48 ∧ (s.rail n).on = true) ∧
    (∃ (s : State) (n : Nat), s.acts 3 = true ∧ n < 48 ∧ (s.rail n).on = true) ∧
    (∃ (s : State) (n : Nat), s.acts 3 = true ∧ (s.rail n).modeDue = false) ∧
    (∃ (s : State) (n : Nat), s.acts 3 = true ∧ (s.rail n).modeDue = false) ∧
    (∃ (s : State) (n : Nat), s.acts 3 = true ∧ (s.rail n).modeDue = false) ∧
    (∃ (s : State) (n : Nat), s.acts 3 = true ∧ (s.rail n).fastDue = true ∧ s.running n .fast = true) ∧
    (∃ (s : State) (n : Nat), s.acts 3 = true ∧ (s.rail n).fastDue = true ∧ s.running n .fast = true) ∧
    (∃ (s : State) (n : Nat) (h : Nat), s.acts 3 = true ∧ (s.rail n).sample = some h ∧ s.running n .headroom = true) ∧
    (∃ (s : State) (n : Nat) (j : Job), s.acts 3 = true ∧ s.laneBusy (s.laneOf (slotOf n j)) = true ∧ s.running n j = false) ∧
    (∃ (s : State) (n : Nat), s.acts 3 = true ∧ n < 48 ∧ (s.rail n).fastDue = true) ∧
    (∃ (s : State) (n : Nat), s.acts 3 = true ∧ n < 48 ∧ (s.rail n).fastDue = true) ∧
    (∃ (s : State) (n : Nat) (h : Nat), s.acts 3 = true ∧ n < 48 ∧ (s.rail n).sample = some h) ∧
    (∃ (s : State) (n : Nat) (h : Nat), s.acts 3 = true ∧ n < 48 ∧ (s.rail n).sample = some h) ∧
    (∃ (s : State) (n : Nat) (j : Job), s.acts 3 = true ∧ s.released (slotOf n j) = false) :=
  ⟨⟨up, 47, by decide +kernel⟩,
   ⟨(withRail 47 { mode := .auto }), 47, by decide +kernel⟩,
   ⟨((withRail 47 { mode := .auto }).setReg (Obj.RAIL_OC_LIMIT 47) 0), 47, by decide +kernel⟩,
   ⟨(withRail 47 { mode := .auto }), 47, by decide +kernel⟩,
   ⟨(withRail 47 { mode := .manualV }), 47, by decide +kernel⟩,
   ⟨(withRail 47 { mode := .manualDuty }), 47, by decide +kernel⟩,
   ⟨((withRail 47 { mode := .auto, fastDue := true }).setLane ((withRail 47 {}).laneOf 94) { running := some 94 }), 47, by decide +kernel⟩,
   ⟨(((withRail 47 { mode := .auto, fastDue := true }).setLane ((withRail 47 {}).laneOf 94) { running := some 94 }).setReg (Obj.RAIL_TIMING_MODE 47) 4), 47, by decide +kernel⟩,
   ⟨((withRail 47 { mode := .auto, sample := some 3 }).setLane ((withRail 47 {}).laneOf 95) { running := some 95 }), 47, 3, by decide +kernel⟩,
   ⟨(((withRail 47 { mode := .auto, fastDue := true }).setTab Obj.SLOT_TABLE 0 (List.replicate 96 0)).setRail 3 { mode := .auto, fastDue := true } |>.setLane 0 { running := some 6 }), 47, .fast, by decide +kernel⟩,
   ⟨(withRail 47 { mode := .auto, fastDue := true, overFast := 2 }), 47, by decide +kernel⟩,
   ⟨(withRail 47 { mode := .auto, fastDue := true, overFast := 3 }), 47, by decide +kernel⟩,
   ⟨(withRail 47 { mode := .auto, sample := some 0, overHead := 2 }), 47, 0, by decide +kernel⟩,
   ⟨(withRail 47 { mode := .auto, sample := some 0, overHead := 3 }), 47, 0, by decide +kernel⟩,
   ⟨(withRail 47 { mode := .auto, fastDue := true }), 47, .headroom, by decide +kernel⟩⟩

theorem witness_RailsAreProtected :
    (∃ (s : State) (n : Nat), s.acts 3 = true ∧ n < 48) ∧
    (∃ (s : State) (n : Nat), s.acts 3 = true ∧ n < 48) ∧
    (∃ (s : State) (n : Nat), s.acts 3 = true ∧ n < 48) ∧
    (∃ (s : State), s.acts 3 = true) ∧
    (∃ (s : State), s.acts 3 = true) ∧
    (∃ (s : State) (n : Nat), s.acts 3 = true ∧ n < 48) ∧
    (∃ (s : State) (n : Nat), s.acts 3 = true ∧ n < 48) ∧
    (∃ (s : State) (n : Nat), s.acts 3 = true ∧ n < 48) ∧
    (∃ (s : State) (n : Nat), s.acts 3 = true ∧ n < 48) ∧
    (∃ (s : State) (n : Nat), s.acts 3 = true ∧ n < 48) ∧
    (∃ (s : State) (n : Nat), s.acts 3 = true ∧ n < 48) ∧
    (∃ (s : State) (n : Nat), s.acts 3 = true ∧ n < 48) ∧
    (∃ (s : State) (n : Nat), s.acts 3 = true ∧ n < 48) ∧
    (∃ (s : State) (n : Nat), s.acts 3 = true ∧ n < 48) ∧
    (∃ (s : State) (n : Nat), s.acts 3 = true ∧ n < 48) ∧
    (∃ (s : State), s.acts 3 = true) ∧
    (∃ (s : State), s.acts 3 = true) :=
  ⟨⟨(withRail 47 { mode := .auto, badV := 8, badI := 8, sameV := 600, sameI := 600 }), 47, by decide +kernel⟩,
   ⟨(withRail 47 { mode := .rampDown, badV := 8, badI := 8, sameV := 600, sameI := 600 }), 47, by decide +kernel⟩,
   ⟨(withRail 47 { mode := .auto }), 47, by decide +kernel⟩,
   ⟨(withRail 47 { mode := .hold, goodRun := 64 }), by decide +kernel⟩,
   ⟨(withRail 47 { mode := .hold, goodRun := 64, equalV := 63 }), by decide +kernel⟩,
   ⟨(withRail 47 { mode := .hold }), 47, by decide +kernel⟩,
   ⟨up, 47, by decide +kernel⟩,
   ⟨(withRail 47 { mode := .auto, ovRun := 2 }), 47, by decide +kernel⟩,
   ⟨(withRail 47 { mode := .auto, ovRun := 1 }), 47, by decide +kernel⟩,
   ⟨(withRail 47 { mode := .auto, ocRun := 8 }), 47, by decide +kernel⟩,
   ⟨(withRail 47 { mode := .auto, ocRun := 7 }), 47, by decide +kernel⟩,
   ⟨(withRail 47 { mode := .starting }), 47, by decide +kernel⟩,
   ⟨up, 47, by decide +kernel⟩,
   ⟨(withRail 47 { mode := .auto, headroom := .frozen, missingSince := some 0 }), 47, by decide +kernel⟩,
   ⟨(withRail 47 { mode := .manualV, headroom := .frozen, missingSince := some 0 }), 47, by decide +kernel⟩,
   ⟨(withRail 47 { mode := .auto, headroom := .safe, presentRun := 64 }), by decide +kernel⟩,
   ⟨(withRail 47 { mode := .auto, headroom := .safe, presentRun := 63 }), by decide +kernel⟩⟩

theorem witness_SenseAdcsRotate :
    (∃ (s : State), s.acts 3 = true ∧ s.flag Obj.ROTATION_ENABLE = true) ∧
    (∃ (s : State), s.acts 3 = true ∧ s.flag Obj.ROTATION_ENABLE = true) ∧
    (∃ (s : State), s.acts 3 = true ∧ s.flag Obj.ROTATION_ENABLE = false) ∧
    (∃ (s : State) (b : Bank), s.acts 3 = true ∧ (s.bank b).stage = 1) ∧
    (∃ (s : State) (b : Bank), s.acts 3 = true ∧ (s.bank b).stage = 1) ∧
    (∃ (s : State) (b : Bank), s.acts 3 = true ∧ (s.bank b).stage = 3 ∧ (s.bank b).adc < 48) ∧
    (∃ (s : State) (b : Bank), s.acts 3 = true ∧ (s.bank b).stage = 3 ∧ (s.bank b).adc < 48) ∧
    (∃ (s : State) (b : Bank), s.acts 3 = true ∧ (s.bank b).stage = 3 ∧ (s.bank b).adc < 48) ∧
    (∃ (s : State) (b : Bank), s.acts 3 = true ∧ (s.bank b).stage ≠ 1 ∧ (s.bank b).stage ≠ 3) ∧
    (∃ (s : State) (b : Bank), s.acts 3 = true ∧ (s.bank b).stage = 2) ∧
    (∃ (s : State) (b : Bank), s.acts 3 = true ∧ (s.bank b).stage = 2) ∧
    (∃ (s : State) (b : Bank), s.acts 3 = true ∧ (s.bank b).stage = 2) ∧
    (∃ (s : State) (b : Bank), s.acts 3 = true ∧ (s.bank b).stage ≠ 2) ∧
    (∃ (s : State) (rq : Req) (data : Bytes), s.admitsWrite rq Obj.ADC_TRIMS data = true) ∧
    (∃ (s : State) (rq : Req) (data : Bytes), s.admitsWrite rq Obj.ADC_TRIMS data = true) :=
  ⟨⟨(up.setFlag Obj.ROTATION_ENABLE true), by decide +kernel⟩,
   ⟨(((up.setFlag Obj.ROTATION_ENABLE true).setBank .current { adc := 48, stage := 4 }).setBank .voltage { full := true }), by decide +kernel⟩,
   ⟨(up.setFlag Obj.ROTATION_ENABLE false), by decide +kernel⟩,
   ⟨((up.setBank .current { stage := 1 }).setReg Obj.ADC_MATCH_LIMIT 4), .current, by decide +kernel⟩,
   ⟨((up.setBank .current { stage := 1 }).setReg Obj.ADC_MATCH_LIMIT 4), .current, by decide +kernel⟩,
   ⟨((up.setBank .current { stage := 3, adc := 47, result := some (65535, 65535) }).setReg Obj.ADC_MATCH_LIMIT 4), .current, by decide +kernel⟩,
   ⟨((up.setBank .current { stage := 3, adc := 47, result := some (65535, 65535), discarded := true }).setReg Obj.ADC_MATCH_LIMIT 4), .current, by decide +kernel⟩,
   ⟨((up.setBank .current { stage := 3, adc := 47, result := some (65535, 65535) }).setReg Obj.ADC_MATCH_LIMIT 4), .current, by decide +kernel⟩,
   ⟨up, .current, by decide +kernel⟩,
   ⟨(up.setBank .voltage { stage := 2, adc := 47 }), .voltage, by decide +kernel⟩,
   ⟨(up.setBank .voltage { stage := 2, adc := 48 }), .voltage, by decide +kernel⟩,
   ⟨(up.setBank .current { stage := 2, adc := 48, discarded := true }), .current, by decide +kernel⟩,
   ⟨up, .voltage, by decide +kernel⟩,
   ⟨up, host, (List.replicate 392 1), by decide +kernel⟩,
   ⟨(up.setBank .current { stage := 2, adc := 0 }), host, (List.replicate 4 1), by decide +kernel⟩⟩

theorem witness_CountersTickOnAnEmptyQueue :
    (∃ (s : State), s.pending = [] ∧ s.acts 5 = true ∧ s.exitDue = false ∧ s.time.snapshot = none) ∧
    (∃ (s : State), s.pending = [] ∧ ((s.device.frozen = true ∨ s.device.extest = true))) ∧
    (∃ (s : State) (a : Nat) (ia : Nat) (b : Nat) (ib : Nat), s.pending = [] ∧ s.defined = true ∧ s.device.frozen = false ∧ s.time.snapshot = some (a, ia, b, ib)) ∧
    (∃ (s : State) (a : Nat) (ia : Nat) (b : Nat) (ib : Nat), s.pending = [] ∧ s.defined = true ∧ s.device.frozen = false ∧ s.time.snapshot = some (a, ia, b, ib)) ∧
    (∃ (s : State), s.pending = [] ∧ s.runs 5 = false ∧ s.time.snapshot = none ∧ s.exitDue = false) :=
  ⟨⟨{ up with time := { up.time with domA := { up.time.domA with counter := 2 ^ 112 } } }, by decide +kernel⟩,
   ⟨{ up with device := { up.device with frozen := true } }, by decide +kernel⟩,
   ⟨{ up.setReg Obj.SLEEP_LEDGER (2 ^ 48 - 1) with device := { up.device with phase := .asleep }, time := { up.time with snapshot := some (5, 6, 7, 8) } }, 5, 6, 7, 8, by decide +kernel⟩,
   ⟨{ up.setReg Obj.SLEEP_LEDGER 9 with time := { up.time with snapshot := some (5, 6, 7, 8) } }, 5, 6, 7, 8, by decide +kernel⟩,
   ⟨{ up with device := { up.device with islands := [(5, .off)] } }, by decide +kernel⟩⟩

theorem witness_DomainsFollowTheirSources :
    (∃ (s : State) (m : PtpMessage) (origin : Time80) (delay : Int) (u : State), s.acts 5 = true ∧ s.ptpRuns = true ∧ m.domain = s.reg Obj.PTP_DOMAIN_NUMBER ∧ s.ptpParent = some m.sender ∧ m.body = .sync (some origin) ∧ s.time.ptp.delay = some (m.sender, delay) ∧ s.reg (Obj.DOM_SOURCE (domIx s.ptpDom)) = 2 ∧ u = measure s.ptpDom (ptpTheta s.ptpNow (fineTime origin) (m.correction * 65536) delay) s) ∧
    (∃ (s : State) (theta : Rat) (d : Dom), (s.dom d).mode = .locked ∧ (s.dom d).outlier = false ∧ (s.reg (Obj.DOM_STEP_THRESHOLD (domIx d)) : Rat) < |theta|) ∧
    (∃ (s : State) (theta : Rat) (d : Dom), (s.dom d).mode = .locked ∧ (s.dom d).outlier = true ∧ (s.reg (Obj.DOM_STEP_THRESHOLD (domIx d)) : Rat) < |theta|) ∧
    (∃ (s : State) (theta : Rat) (d : Dom) (t : State), |theta| ≤ (s.reg (Obj.DOM_STEP_THRESHOLD (domIx d)) : Rat) ∧ t = measure d theta s ∧ (((s.dom d).mode = .acquiring ∨ (s.dom d).mode = .holdover))) ∧
    (∃ (s : State) (theta : Rat) (d : Dom) (t : State), |theta| ≤ (s.reg (Obj.DOM_STEP_THRESHOLD (domIx d)) : Rat) ∧ t = measure d theta s ∧ (s.dom d).mode = .free) ∧
    (∃ (s : State) (theta : Rat) (d : Dom) (t : State), (s.dom d).mode ≠ .locked ∧ s.reg (Obj.DOM_STEP_MAX (domIx d)) ≠ 0 ∧ (s.reg (Obj.DOM_STEP_THRESHOLD (domIx d)) : Rat) < |theta| ∧ t = measure d theta s) ∧
    (∃ (s : State) (d : Dom), s.acts 5 = true ∧ (((s.dom d).mode = .acquiring ∨ (s.dom d).mode = .locked))) ∧
    (∃ (s : State) (d : Dom), s.acts 5 = true ∧ (((s.dom d).mode = .free ∨ (s.dom d).mode = .holdover))) ∧
    (∃ (s : State) (rq : Req) (d : Dom) (data : Bytes), s.admitsWrite rq (Obj.DOM_SET (domIx d)) data = true) ∧
    (∃ (s : State) (rq : Req) (d : Dom) (data : Bytes), s.admitsWrite rq (Obj.DOM_ADJUST (domIx d)) data = true) ∧
    (∃ (s : State) (rq : Req) (d : Dom) (data : Bytes), s.admitsWrite rq (Obj.DOM_SOURCE (domIx d)) data = true) ∧
    (∃ (s : State) (rq : Req) (d : Dom) (data : Bytes), s.admitsWrite rq (Obj.DOM_SOURCE (domIx d)) data = true) ∧
    (∃ (s : State) (rq : Req) (data : Bytes), s.admitsWrite rq Obj.ACTIVE_DOMAIN data = true) ∧
    (∃ (s : State) (rq : Req) (data : Bytes), s.admitsWrite rq Obj.ACTIVE_DOMAIN data = true) :=
  ⟨⟨(ptpUp (fun p => { p with delay := some (mport, 77) }) up), (msgOf (.sync (some ⟨1, 2⟩))), (⟨1, 2⟩), 77, (measure (ptpUp (fun p => { p with delay := some (mport, 77) }) up : State).ptpDom (ptpTheta (ptpUp (fun p => { p with delay := some (mport, 77) }) up : State).ptpNow (fineTime (⟨1, 2⟩ : Time80)) ((msgOf (.sync (some ⟨1, 2⟩)) : PtpMessage).correction * 65536) 77) (ptpUp (fun p => { p with delay := some (mport, 77) }) up : State)), by decide +kernel⟩,
   ⟨(up.setDom .a { mode := .locked }), 2000000, .a, by decide +kernel⟩,
   ⟨(up.setDom .a { mode := .locked, outlier := true }), 2000000, .a, by decide +kernel⟩,
   ⟨(up.setDom .a { mode := .acquiring, lockRun := 7 }), 1, .a, (measure (.a : Dom) 1 (up.setDom .a { mode := .acquiring, lockRun := 7 } : State)), by decide +kernel⟩,
   ⟨(up.setDom .b { mode := .free, lockRun := 7 }), (-1000), .b, (measure (.b : Dom) (-1000 : Rat) (up.setDom .b { mode := .free, lockRun := 7 } : State)), by decide +kernel⟩,
   ⟨((up.setReg (Obj.DOM_STEP_MAX 0) 100).setDom .a { mode := .acquiring }), 2000000, .a, (measure (.a : Dom) 2000000 ((up.setReg (Obj.DOM_STEP_MAX 0) 100).setDom .a { mode := .acquiring } : State)), by decide +kernel⟩,
   ⟨(up.setDom .b { mode := .locked }), .b, by decide +kernel⟩,
   ⟨(up.setDom .b { mode := .holdover }), .b, by decide +kernel⟩,
   ⟨up, host, .a, (natLE 10 1), by decide +kernel⟩,
   ⟨up, host, .a, (natLE 4 8), by decide +kernel⟩,
   ⟨up, host, .b, (natLE 1 2), by decide +kernel⟩,
   ⟨(up.setDom .b { mode := .locked, present := true }), host, .b, (natLE 1 3), by decide +kernel⟩,
   ⟨up, host, (natLE 1 1), by decide +kernel⟩,
   ⟨(up.modCatch fun g => { g with issuing := true }), host, (natLE 1 1), by decide +kernel⟩⟩

theorem witness_TimeMessagesAreExchanged :
    (∃ (s : State), s.acts 5 = true) ∧
    (∃ (s : State), s.acts 5 = true) ∧
    (∃ (s : State) (p : Port), s.acts 5 = true ∧ s.up p = true) ∧
    (∃ (s : State) (p : Port), s.acts 5 = true ∧ s.up p = false) ∧
    (∃ (s : State) (p : Port) (k : Packet), s.acts 0 = true ∧ s.takes p k 0x11 = true) ∧
    (∃ (s : State) (p : Port) (k : Packet) (roundTrip : Nat) (sample : Int), s.acts 0 = true ∧ s.takes p k 0x12 = true ∧ sample = roundDiv ((roundTrip : Int) - k.num 12 4) 2 + s.sreg (if p = .a then Obj.ASYMMETRY_A else Obj.ASYMMETRY_B) 32) ∧
    (∃ (s : State) (p : Port) (k : Packet) (roundTrip : Nat) (sample : Int), s.acts 0 = true ∧ s.takes p k 0x12 = true ∧ sample = roundDiv ((roundTrip : Int) - k.num 12 4) 2 + s.sreg (if p = .a then Obj.ASYMMETRY_A else Obj.ASYMMETRY_B) 32) ∧
    (∃ (s : State) (p : Port) (k : Packet), s.acts 0 = true ∧ s.takes p k 0x10 = true ∧ k.num 8 1 ≤ 1 ∧ s.traffic.syncLost.contains (portIx p) = false) ∧
    (∃ (s : State) (p : Port) (k : Packet), s.acts 0 = true ∧ s.takes p k 0x10 = true ∧ k.num 8 1 ≤ 1 ∧ s.traffic.syncLost.contains (portIx p) = false) ∧
    (∃ (s : State) (p : Port) (k : Packet), s.acts 0 = true ∧ s.takes p k 0x10 = true ∧ k.num 8 1 ≤ 1 ∧ s.traffic.syncLost.contains (portIx p) = true) ∧
    (∃ (s : State) (p : Port) (k : Packet), s.acts 0 = true ∧ s.up p = true ∧ s.arrived p = some k ∧ k.kind = 0x10 ∧ k.bodyOk = true ∧ k.marked = 0 ∧ 1 < k.num 8 1) ∧
    (∃ (s : State), s.acts 5 = true ∧ s.ptpRuns = true) ∧
    (∃ (s : State), s.acts 5 = true ∧ s.ptpRuns = true) ∧
    (∃ (s : State), s.acts 5 = true ∧ s.ptpRuns = true) ∧
    (∃ (s : State), s.acts 5 = true ∧ s.ptpRuns = true) ∧
    (∃ (s : State), s.acts 5 = true ∧ s.ptpRuns = true) ∧
    (∃ (s : State), s.acts 5 = true ∧ s.ptpRuns = true) ∧
    (∃ (s : State), s.acts 5 = true ∧ s.ptpRuns = true) ∧
    (∃ (s : State) (rq : Req), s.admitsRead (wholeRead rq Obj.PTP_TXQ_POP) = true ∧ s.hasSpace rq.who = true) ∧
    (∃ (s : State) (rq : Req), s.admitsRead (wholeRead rq Obj.PTP_TXQ_POP) = true ∧ s.hasSpace rq.who = true) ∧
    (∃ (s : State), s.acts 5 = true ∧ s.ptpRuns = true) ∧
    (∃ (s : State), s.acts 5 = true ∧ s.ptpRuns = true) ∧
    (∃ (s : State), s.defined = true ∧ s.ptpRuns = false) :=
  ⟨⟨(bothUp.setFlag Obj.COX_DEVICE true), by decide +kernel⟩,
   ⟨bothUp, by decide +kernel⟩,
   ⟨bothUp, .b, by decide +kernel⟩,
   ⟨up, .a, by decide +kernel⟩,
   ⟨(got .a (pk 0x11 0xFFFD (natLE 20 65535) []) bothUp), .a, (pk 0x11 0xFFFD (natLE 20 65535) []), by decide +kernel⟩,
   ⟨(got .a (pk 0x12 0xFFFD (natLE 2 9 ++ natLE 2 0 ++ natLE 4 3 ++ natLE 12 0) []) { bothUp with time := { bothUp.time with delayA := { waiting := some 9 } } }), .a, (pk 0x12 0xFFFD (natLE 2 9 ++ natLE 2 0 ++ natLE 4 3 ++ natLE 12 0) []), 10, 4, by decide +kernel⟩,
   ⟨(got .a (pk 0x12 0xFFFD (natLE 2 9 ++ natLE 2 0 ++ natLE 4 3 ++ natLE 12 0) []) { bothUp with time := { bothUp.time with delayA := { waiting := some 8 } } }), .a, (pk 0x12 0xFFFD (natLE 2 9 ++ natLE 2 0 ++ natLE 4 3 ++ natLE 12 0) []), 10, 4, by decide +kernel⟩,
   ⟨(got .b (pk 0x10 0xFFFF (natLE 20 1) []) (bothUp.setReg Obj.SOURCE_PORT 0)), .b, (pk 0x10 0xFFFF (natLE 20 1) []), by decide +kernel⟩,
   ⟨(got .a (pk 0x10 0xFFFF (natLE 20 1) []) ((bothUp.setReg Obj.SOURCE_PORT 0).setReg (Obj.DOM_SOURCE 1) 1)), .a, (pk 0x10 0xFFFF (natLE 20 1) []), by decide +kernel⟩,
   ⟨(got .a (pk 0x10 0xFFFF (natLE 20 1) []) { bothUp with traffic := { bothUp.traffic with syncLost := [0] } }), .a, (pk 0x10 0xFFFF (natLE 20 1) []), by decide +kernel⟩,
   ⟨(got .a (pk 0x10 0xFFFF (natLE 20 2) []) bothUp), .a, (pk 0x10 0xFFFF (natLE 20 2) []), by decide +kernel⟩,
   ⟨(ptpUp id up), by decide +kernel⟩,
   ⟨(ptpUp id up), by decide +kernel⟩,
   ⟨(ptpUp (fun p => { p with waiting := some (mport, 4, 5, 6), delay := some (mport, 7) }) up), by decide +kernel⟩,
   ⟨(ptpUp (fun p => { p with request := some 4, sent := some 8, lastSync := some (mport, 9) }) up), by decide +kernel⟩,
   ⟨(ptpUp id up), by decide +kernel⟩,
   ⟨(ptpUp (fun p => { p with request := some 4 }) up), by decide +kernel⟩,
   ⟨{ ptpUp id up with time := { up.time with txq := List.replicate 16 { seq := 1, dom := 0, messageType := 0, time := 0 } } }, by decide +kernel⟩,
   ⟨{ up with time := { up.time with txq := [{ seq := 1, dom := 0, messageType := 0, time := 5 }] } }, host, by decide +kernel⟩,
   ⟨up, host, by decide +kernel⟩,
   ⟨(ptpUp id up), by decide +kernel⟩,
   ⟨(up.setFlag Obj.PTP_ENABLE true), by decide +kernel⟩,
   ⟨up, by decide +kernel⟩⟩

theorem witness_PortsTrainUpToData :
    (∃ (s : State), s.acts 0 = true) ∧
    (∃ (s : State) (p : Port) (l0 : List Nat) (l1 : List Nat) (i0 : Bool) (i1 : Bool), s.acts 0 = true ∧ s.portState p = 1 ∧ s.signal p = true ∧ (s.portLink p).waking = false ∧ markerPolarity l0 = some i0 ∧ markerPolarity l1 = some i1) ∧
    (∃ (s : State) (p : Port) (l0 : List Nat) (l1 : List Nat), s.acts 0 = true ∧ ((s.portState p ≠ 1 ∨ s.signal p = false ∨ (s.portLink p).waking = true ∨ markerPolarity l0 = none ∨ markerPolarity l1 = none))) ∧
    (∃ (s : State) (p : Port) (w : Nat), s.acts 0 = true ∧ ((s.portState p < 2 ∨ 5 < s.portState p ∨ wordOk w = false))) ∧
    (∃ (s : State) (p : Port) (lane : Nat) (w : Nat), s.acts 0 = true ∧ s.portState p = 2 ∧ wordOk w = true ∧ (((s.portLink p).peerLocked = true → bitAt w 8 = true)) ∧ ((((s.portLink p).hear lane w).count0 < 3 ∨ ((s.portLink p).hear lane w).count1 < 3))) ∧
    (∃ (s : State) (p : Port) (lane : Nat) (w : Nat) (y : PortLink), s.acts 0 = true ∧ s.portState p = 2 ∧ wordOk w = true ∧ (((s.portLink p).peerLocked = true → bitAt w 8 = true)) ∧ y = (s.portLink p).hear lane w ∧ y.count0 = 3 ∧ y.count1 = 3 ∧ wordLane y.word0 ≠ wordLane y.word1 ∧ wordPort y.word0 = wordPort y.word1 ∧ wordSerial y.word0 = wordSerial y.word1 ∧ y.skew.natAbs ≤ 20000) ∧
    (∃ (s : State) (p : Port) (lane : Nat) (w : Nat) (y : PortLink), s.acts 0 = true ∧ s.portState p = 2 ∧ wordOk w = true ∧ (((s.portLink p).peerLocked = true → bitAt w 8 = true)) ∧ y = (s.portLink p).hear lane w ∧ y.count0 = 3 ∧ y.count1 = 3 ∧ ((wordLane y.word0 = wordLane y.word1 ∨ wordPort y.word0 ≠ wordPort y.word1 ∨ wordSerial y.word0 ≠ wordSerial y.word1 ∨ 20000 < y.skew.natAbs))) ∧
    (∃ (s : State) (p : Port) (w : Nat), s.acts 0 = true ∧ 2 ≤ s.portState p ∧ s.portState p ≤ 5 ∧ wordOk w = true ∧ (s.portLink p).peerLocked = true ∧ bitAt w 8 = false) ∧
    (∃ (s : State) (p : Port) (lane : Nat) (w : Nat) (y : PortLink), s.acts 0 = true ∧ 3 ≤ s.portState p ∧ s.portState p ≤ 5 ∧ wordOk w = true ∧ (((s.portLink p).peerLocked = true → bitAt w 8 = true)) ∧ y = (s.portLink p).hear lane w) ∧
    (∃ (s : State) (p : Port) (lane : Nat) (w : Nat) (y : PortLink), s.acts 0 = true ∧ 3 ≤ s.portState p ∧ s.portState p ≤ 5 ∧ wordOk w = true ∧ (((s.portLink p).peerLocked = true → bitAt w 8 = true)) ∧ y = (s.portLink p).hear lane w) ∧
    (∃ (s : State), s.acts 0 = true) ∧
    (∃ (s : State), s.acts 0 = true) ∧
    (∃ (s : State), s.acts 0 = true) ∧
    (∃ (s : State), s.acts 0 = true) ∧
    (∃ (s : State), s.acts 0 = true) ∧
    (∃ (s : State) (p : Port), s.acts 0 = true ∧ s.portState p = 4 ∧ (s.portLink p).rxVerified = false ∧ (s.portLink p).checked0 = true ∧ (s.portLink p).checked1 = true) ∧
    (∃ (s : State) (p : Port), s.acts 0 = true ∧ s.portState p = 4 ∧ (s.portLink p).rxVerified = false ∧ (s.portLink p).checked0 = true ∧ (s.portLink p).checked1 = true) ∧
    (∃ (s : State) (p : Port), s.acts 0 = true ∧ s.portState p = 4 ∧ (s.portLink p).rxVerified = false ∧ (s.portLink p).checked0 = true ∧ (s.portLink p).checked1 = true) ∧
    (∃ (s : State) (p : Port), s.acts 0 = true ∧ ((s.portState p ≠ 4 ∨ (s.portLink p).rxVerified = true ∨ (s.portLink p).checked0 = false ∨ (s.portLink p).checked1 = false))) ∧
    (∃ (s : State), s.acts 0 = true) ∧
    (∃ (s : State), s.acts 0 = true) ∧
    (∃ (s : State) (p : Port) (l0 : List Nat) (l1 : List Nat) (found : Option Nat), s.acts 0 = true ∧ s.portState p = 6 ∧ found = s.alignment p (hearCodeword p l0 l1 s).1.2) ∧
    (∃ (s : State) (p : Port) (l0 : List Nat) (l1 : List Nat) (found : Option Nat) (expected : Nat), s.acts 0 = true ∧ s.portState p = 7 ∧ found = s.alignment p (hearCodeword p l0 l1 s).1.2 ∧ expected = ((s.portLink p).amLast.getD 0 + 1) % 256) ∧
    (∃ (s : State) (p : Port), s.acts 0 = true ∧ s.portState p ≠ 6 ∧ s.portState p ≠ 7) :=
  ⟨⟨up, by decide +kernel⟩,
   ⟨(((inState 1).setFlag (Obj.LANE_SIGNAL_DETECT 0) true).setFlag (Obj.LANE_SIGNAL_DETECT 1) true), .a, markerLevels, (markerLevels.map (3 - ·)), false, true, by decide +kernel⟩,
   ⟨up, .a, ([]), markerLevels, by decide +kernel⟩,
   ⟨(inState 5), .a, 1, by decide +kernel⟩,
   ⟨(inState 2), .a, 0, 0, by decide +kernel⟩,
   ⟨((inState 2).setPort .a { count0 := 3, count1 := 2, word0 := 0, skew := 20000 }), .a, 1, goodWord, { count0 := 3, count1 := 3, word0 := 0, word1 := goodWord, skew := 20000 }, by decide +kernel⟩,
   ⟨((inState 2).setPort .a { count0 := 2, count1 := 3, word0 := 0, word1 := 0, skew := 20000 }), .a, 0, 0, { count0 := 3, count1 := 3, word0 := 0, word1 := 0, skew := 20000 }, by decide +kernel⟩,
   ⟨((inState 5).setPort .a { peerLocked := true }), .a, 0, by decide +kernel⟩,
   ⟨((inState 4).setPort .a { verified0 := 2 }), .a, 0, 0, { count0 := 1 }, by decide +kernel⟩,
   ⟨((inState 3).setPort .a { verified0 := 2 }), .a, 0, 0, { count0 := 1 }, by decide +kernel⟩,
   ⟨(inState 3), by decide +kernel⟩,
   ⟨(inState 4), by decide +kernel⟩,
   ⟨(inState 4), by decide +kernel⟩,
   ⟨(inState 9), by decide +kernel⟩,
   ⟨(inState 8), by decide +kernel⟩,
   ⟨((inState 4).setPort .a { checked0 := true, checked1 := true }), .a, by decide +kernel⟩,
   ⟨((inState 4).setPort .a { checked0 := true, checked1 := true }), .a, by decide +kernel⟩,
   ⟨((inState 4).setPort .a { checked0 := true, checked1 := true, fails := 2 }), .a, by decide +kernel⟩,
   ⟨(inState 4), .a, by decide +kernel⟩,
   ⟨(inState 5), by decide +kernel⟩,
   ⟨((inState 5).setPort .a { peerZero := true }), by decide +kernel⟩,
   ⟨((inState 6).setPort .a { amLast := some 255 }), .a, ([]), ([]), (((inState 6).setPort .a { amLast := some 255 } : State).alignment (.a : Port) (hearCodeword (.a : Port) ([] : List Nat) ([] : List Nat) ((inState 6).setPort .a { amLast := some 255 } : State)).1.2), by decide +kernel⟩,
   ⟨((inState 7).setPort .a { amLast := some 3 }), .a, ([]), ([]), (((inState 7).setPort .a { amLast := some 3 } : State).alignment (.a : Port) (hearCodeword (.a : Port) ([] : List Nat) ([] : List Nat) ((inState 7).setPort .a { amLast := some 3 } : State)).1.2), 4, by decide +kernel⟩,
   ⟨(inState 5), .a, by decide +kernel⟩⟩

theorem witness_PortsGoDownWithTheirCause :
    (∃ (s : State) (lane : Nat), s.acts 0 = true ∧ lane < 2) ∧
    (∃ (s : State) (lane : Nat), s.acts 0 = true ∧ lane < 2) ∧
    (∃ (s : State) (lane : Nat), s.acts 0 = true ∧ lane < 2) ∧
    (∃ (s : State), s.acts 0 = true) ∧
    (∃ (s : State), s.acts 0 = true) ∧
    (∃ (s : State), s.acts 0 = true) ∧
    (∃ (s : State), s.acts 0 = true) ∧
    (∃ (s : State), s.acts 0 = true) ∧
    (∃ (s : State), s.acts 0 = true) ∧
    (∃ (s : State), s.acts 0 = true) ∧
    (∃ (s : State), s.acts 0 = true) ∧
    (∃ (s : State) (rq : Req) (data : Bytes), s.admitsWrite rq Obj.LINK_RETRAIN data = true) ∧
    (∃ (s : State) (rq : Req) (data : Bytes), s.admitsWrite rq Obj.LINK_PORT_ENABLE data = true) ∧
    (∃ (s : State) (rq : Req) (p : Port) (data : Bytes), s.admitsWrite rq (Obj.PORT_TEST_MODE (portIx p)) data = true ∧ leNat data ≠ 0) ∧
    (∃ (s : State) (rq : Req) (p : Port) (data : Bytes), s.admitsWrite rq (Obj.PORT_TEST_MODE (portIx p)) data = true ∧ leNat data ≠ 0) ∧
    (∃ (s : State) (rq : Req) (p : Port) (data : Bytes), s.admitsWrite rq (Obj.PORT_TEST_MODE (portIx p)) data = true ∧ leNat data = 0) :=
  ⟨⟨upA, 1, by decide +kernel⟩,
   ⟨(inState 5), 1, by decide +kernel⟩,
   ⟨(inState 6), 1, by decide +kernel⟩,
   ⟨(upA.setPort .a { ueRun := 8 }), by decide +kernel⟩,
   ⟨(upA.setPort .a { amMissRun := 3 }), by decide +kernel⟩,
   ⟨(upA.setPort .a { amMissRun := 3, ueRun := 8 }), by decide +kernel⟩,
   ⟨(inState 2), by decide +kernel⟩,
   ⟨(inState 3), by decide +kernel⟩,
   ⟨(inState 6), by decide +kernel⟩,
   ⟨(inState 6), by decide +kernel⟩,
   ⟨(inState 8), by decide +kernel⟩,
   ⟨bothUp, host, (natLE 1 3), by decide +kernel⟩,
   ⟨bothUp, host, (natLE 1 2), by decide +kernel⟩,
   ⟨up, host, .a, (natLE 1 3), by decide +kernel⟩,
   ⟨upA, host, .a, (natLE 1 1), by decide +kernel⟩,
   ⟨(inState 9), host, .a, (natLE 1 0), by decide +kernel⟩⟩

theorem witness_CodewordsAreCountedAndJudged :
    (∃ (s : State) (p : Port) (l0 : List Nat) (l1 : List Nat) (h : Option Nat × List RxBlock), s.acts 0 = true ∧ s.up p = true ∧ h = (hearCodeword p l0 l1 s).1) ∧
    (∃ (s : State) (p : Port), s.acts 0 = true ∧ s.up p = false) ∧
    (∃ (s : State), s.acts 0 = true) ∧
    (∃ (s : State) (rq : Req) (data : Bytes), s.admitsWrite rq Obj.WAKE_SEND data = true) ∧
    (∃ (s : State), s.acts 0 = true) :=
  ⟨⟨upA, .a, ([]), ([]), ((hearCodeword (.a : Port) ([] : List Nat) ([] : List Nat) upA).1), by decide +kernel⟩,
   ⟨(inState 6), .a, by decide +kernel⟩,
   ⟨up, by decide +kernel⟩,
   ⟨(inState 6), host, (natLE 1 3), by decide +kernel⟩,
   ⟨(up.setPort .a { waking := true }), by decide +kernel⟩⟩

theorem witness_PacketsAreForwardedOrDropped :
    (∃ (s : State) (p : Port) (k : Packet), s.acts 0 = true ∧ s.up p = true ∧ s.arrived p = some k ∧ ((ownRow k.kind = false ∨ s.addressed k.dest = false))) ∧
    (∃ (s : State) (p : Port) (k : Packet), s.acts 0 = true ∧ s.up p = true ∧ s.arrived p = some k ∧ ((ownRow k.kind = false ∨ s.addressed k.dest = false))) ∧
    (∃ (s : State) (p : Port) (k : Packet), s.acts 0 = true ∧ s.up p = true ∧ s.arrived p = some k ∧ ((ownRow k.kind = false ∨ s.addressed k.dest = false))) ∧
    (∃ (s : State) (p : Port) (found : Found), s.acts 0 = true ∧ s.up p = true ∧ found = (s.front p).found) ∧
    (∃ (s : State) (p : Port) (found : Found), s.acts 0 = true ∧ s.up p = true ∧ found = (s.front p).found) ∧
    (∃ (s : State) (p : Port) (found : Found), s.acts 0 = true ∧ s.up p = true ∧ found = (s.front p).found) ∧
    (∃ (s : State) (p : Port) (found : Found), s.acts 0 = true ∧ s.up p = true ∧ found = (s.front p).found) ∧
    (∃ (s : State) (p : Port) (found : Found), s.acts 0 = true ∧ s.up p = true ∧ found = (s.front p).found) ∧
    (∃ (s : State) (p : Port) (found : Found), s.acts 0 = true ∧ s.up p = true ∧ found = (s.front p).found) ∧
    (∃ (s : State) (p : Port) (found : Found), s.acts 0 = true ∧ s.up p = true ∧ found = (s.front p).found) ∧
    (∃ (s : State) (p : Port) (found : Found), s.acts 0 = true ∧ s.up p = true ∧ found = (s.front p).found) ∧
    (∃ (s : State) (p : Port) (found : Found), s.acts 0 = true ∧ s.up p = true ∧ found = (s.front p).found) ∧
    (∃ (s : State) (p : Port) (k : LocalPacket), s.acts 0 = true ∧ s.up p = true ∧ s.nextPacket p = some k ∧ s.lineFree p k.blocks.length = true ∧ ((k.cls ≤ 2 ∨ tokensOf k.payload.length ≤ s.traffic.tokens))) ∧
    (∃ (s : State) (p : Port) (k : LocalPacket), s.acts 0 = true ∧ s.up p = true ∧ s.nextPacket p = some k ∧ s.lineFree p k.blocks.length = true ∧ ((k.cls ≤ 2 ∨ tokensOf k.payload.length ≤ s.traffic.tokens))) ∧
    (∃ (s : State) (p : Port) (k : LocalPacket), s.acts 0 = true ∧ s.up p = true ∧ s.nextPacket p = some k ∧ s.lineFree p k.blocks.length = true ∧ ((k.cls ≤ 2 ∨ tokensOf k.payload.length ≤ s.traffic.tokens))) ∧
    (∃ (s : State) (p : Port), s.acts 0 = true ∧ ((s.up p = false ∨ s.nextPacket p = none ∨ ∃ k, s.nextPacket p = some k ∧ (s.lineFree p k.blocks.length = false ∨ (2 < k.cls ∧ s.traffic.tokens < tokensOf k.payload.length))))) :=
  ⟨⟨(got .a (pk 0x04 0x200 (natLE 20 1) [1, 2]) bothUp), .a, (pk 0x04 0x200 (natLE 20 1) [1, 2]), by decide +kernel⟩,
   ⟨(got .a { pk 0x04 0xFFFF (natLE 20 1) [] with hops := 64 } bothUp), .a, { pk 0x04 0xFFFF (natLE 20 1) [] with hops := 64 }, by decide +kernel⟩,
   ⟨(bothUp.modStream .b fun x => { x with rx := [{ block := (pk 0x7F 0xFFFF (natLE 20 1) [3]).header 1 }, { block := { head := false, bytes := 3 :: List.replicate 31 0 } }] }), .b, { pk 0x7F 0xFFFF (natLE 20 1) [3] with bodyOk := false }, by decide +kernel⟩,
   ⟨(bothUp.modStream .a fun x => { x with rx := [{}, { block := poisonBlock, bad := true }] }), .a, (.marked true), by decide +kernel⟩,
   ⟨(bothUp.modStream .a fun x => { x with rx := [{}, { block := { head := true, bytes := List.replicate 32 1 } }] }), .a, .badHeader, by decide +kernel⟩,
   ⟨(bothUp.modStream .a fun x => { x with rx := [{ block := { head := false, bytes := List.replicate 32 1 } }] }), .a, .orphan, by decide +kernel⟩,
   ⟨(bothUp.modStream .a fun x => { x with rx := (rxOf (pk 0x04 0xFFFF (natLE 20 1) [1, 2])).take 1 ++ rxOf (pk 0x04 0xFFFF (natLE 20 1) []) }), .a, (.cut false), by decide +kernel⟩,
   ⟨bothUp, .a, .nothing, by decide +kernel⟩,
   ⟨(bothUp.modStream .a fun x => { x with rx := [{}, { block := { head := false, bytes := List.replicate 32 1 }, bad := true }] }), .a, (.marked false), by decide +kernel⟩,
   ⟨(bothUp.modStream .a fun x => { x with rx := [{}, { block := poisonBlock }] }), .a, .poison, by decide +kernel⟩,
   ⟨(bothUp.modStream .a fun x => { x with rx := (rxOf (pk 0x04 0xFFFF (natLE 20 1) [1, 2])).take 1 ++ [{ block := poisonBlock }] }), .a, (.cut true), by decide +kernel⟩,
   ⟨bothUp, .a, .nothing, by decide +kernel⟩,
   ⟨(trf bothUp { bothUp.traffic with queue := [{ port := .a, cls := 2, kind := 2, dest := 9, fields := natLE 20 0, payload := [1] }] }), .a, { port := .a, cls := 2, kind := 2, dest := 9, fields := natLE 20 0, payload := [1] }, by decide +kernel⟩,
   ⟨(((trf bothUp { bothUp.traffic with events := [{ code := 4, time := 5, data := [1] }], tokens := 3072000 }).setReg Obj.SOURCE_PORT 0).setReg Obj.EVENT_SEQUENCE 65535), .a, (({ code := 4, time := 5, data := [1] } : Event).packet .a (bothUp.reg Obj.EVENT_DEST) 65535), by decide +kernel⟩,
   ⟨{ (trf bothUp { bothUp.traffic with tokens := 3072000 }).setReg Obj.SOURCE_PORT 0 with layers := { bothUp.layers with echoSending := some ({ frame := 4, buffer := 0, width := 2, height := 2, bytes := List.replicate 1600 1 }, 1500) } }, .a, (({ frame := 4, buffer := 0, width := 2, height := 2, bytes := List.replicate 1600 1 } : EchoFrame).packet 1500 .a (bothUp.reg Obj.ECHO_DEST)), by decide +kernel⟩,
   ⟨bothUp, .a, by decide +kernel, by first | exact .inl (by decide +kernel) | exact .inr (.inl (by decide +kernel)) | exact .inr ⟨_, rfl⟩⟩⟩

theorem witness_StreamsFencesAndMessagesArrive :
    (∃ (s : State) (p : Port) (k : Packet) (l : Nat) (f : StreamFill), s.acts 0 = true ∧ s.takes p k 1 = true ∧ k.videoOk = true ∧ s.fromSource p = true ∧ s.videoUsers k = [l] ∧ f = s.fillNext l k) ∧
    (∃ (s : State) (p : Port) (k : Packet) (l : Nat) (f : StreamFill), s.acts 0 = true ∧ s.takes p k 1 = true ∧ k.videoOk = true ∧ s.fromSource p = true ∧ s.videoUsers k = [l] ∧ f = s.fillNext l k) ∧
    (∃ (s : State) (p : Port) (k : Packet), s.acts 0 = true ∧ s.takes p k 1 = true) ∧
    (∃ (s : State) (p : Port) (k : Packet), s.acts 0 = true ∧ s.takes p k 1 = true) ∧
    (∃ (s : State) (p : Port) (k : Packet), s.acts 0 = true ∧ s.takes p k 1 = true) ∧
    (∃ (s : State) (p : Port) (k : Packet), s.acts 0 = true ∧ s.takes p k 1 = true) ∧
    (∃ (s : State) (p : Port) (k : Packet), s.acts 0 = true ∧ s.takes p k 3 = true) ∧
    (∃ (s : State) (p : Port) (k : Packet), s.acts 0 = true ∧ s.takes p k 3 = true) ∧
    (∃ (s : State) (p : Port) (k : Packet), s.acts 0 = true ∧ s.takes p k 3 = true) ∧
    (∃ (s : State) (p : Port) (k : Packet) (q : Request) (r : ObjRow) (n : Nat) (sel : Nat), s.acts 0 = true ∧ s.takes p k 2 = true ∧ q = parseMessage (portVia p) (.rovan k.source) k.payload ∧ malformed k.payload = false ∧ q.opcode = 1 ∧ s.admitsRead q = true ∧ rowOf q.obj = some r ∧ r.ty = .fixed n ∧ s.bankOf q.obj = some sel ∧ s.formed q.obj = none ∧ s.openReading q.obj = none ∧ q.obj ≠ Obj.COP_REQUESTS ∧ q.obj ≠ Obj.X_MAP_ENTRY ∧ q.obj ∉ arrivalObjs p) ∧
    (∃ (s : State) (p : Port) (k : Packet) (q : Request), s.acts 0 = true ∧ s.takes p k 2 = true ∧ q = parseMessage (portVia p) (.rovan k.source) k.payload ∧ malformed k.payload = true ∧ q.opcode < 128 ∧ s.agentRuns (portVia p) = true ∧ s.record q = none) ∧
    (∃ (s : State) (p : Port) (k : Packet) (q : Request), s.acts 0 = true ∧ s.takes p k 2 = true ∧ q = parseMessage (portVia p) (.rovan k.source) k.payload ∧ ((128 ≤ q.opcode ∨ s.agentRuns (portVia p) = false))) ∧
    (∃ (s : State), s.acts 6 = true) ∧
    (∃ (s : State), s.acts 6 = true) ∧
    (∃ (s : State), s.acts 6 = true) :=
  ⟨⟨(got .a (vid 0 2 2 (List.replicate 12 9#8)) streamUp), .a, (vid 0 2 2 (List.replicate 12 9#8)), 6, ((got .a (vid 0 2 2 (List.replicate 12 9#8)) streamUp : State).fillNext 6 (vid 0 2 2 (List.replicate 12 9#8) : Packet)), by decide +kernel⟩,
   ⟨(got .a (vid 1 2 1 (List.replicate 12 9#8)) streamUp), .a, (vid 1 2 1 (List.replicate 12 9#8)), 6, ((got .a (vid 1 2 1 (List.replicate 12 9#8)) streamUp : State).fillNext 6 (vid 1 2 1 (List.replicate 12 9#8) : Packet)), by decide +kernel⟩,
   ⟨(got .a (vid 0 2 1 (List.replicate 12 9#8)) (bothUp.setReg Obj.SOURCE_PORT 0)), .a, (vid 0 2 1 (List.replicate 12 9#8)), by decide +kernel⟩,
   ⟨(got .b { vid 0 2 1 (List.replicate 12 9#8) with dest := 0x40 } ((bothUp.setReg Obj.SOURCE_PORT 0).setReg Obj.CHAIN_POSITION 0x40)), .b, { vid 0 2 1 (List.replicate 12 9#8) with dest := 0x40 }, by decide +kernel⟩,
   ⟨(got .b (vid 0 0 1 (List.replicate 12 9#8)) (bothUp.setReg Obj.SOURCE_PORT 0)), .b, (vid 0 0 1 (List.replicate 12 9#8)), by decide +kernel⟩,
   ⟨(got .b (vid 0 2 1 (List.replicate 12 9#8)) (bothUp.setReg Obj.SOURCE_PORT 0)), .b, (vid 0 2 1 (List.replicate 12 9#8)), by decide +kernel⟩,
   ⟨(got .a (fen 15 0x7FFFFFFF) (bothUp.setReg Obj.SOURCE_PORT 0)), .a, (fen 15 0x7FFFFFFF), by decide +kernel⟩,
   ⟨(got .a (fen 15 0x80000000) (bothUp.setReg Obj.SOURCE_PORT 0)), .a, (fen 15 0x80000000), by decide +kernel⟩,
   ⟨(got .b (fen 16 0x80000000) (bothUp.setReg Obj.SOURCE_PORT 0)), .b, (fen 16 0x80000000), by decide +kernel⟩,
   ⟨(got .b (ctl (msg 1 1 (Obj.SLEEP_LEDGER / 256) (Obj.SLEEP_LEDGER % 256) 12 [])) bothUp), .b, (ctl (msg 1 1 (Obj.SLEEP_LEDGER / 256) (Obj.SLEEP_LEDGER % 256) 12 [])), (parseMessage .portB (.rovan 9) (msg 1 1 (Obj.SLEEP_LEDGER / 256) (Obj.SLEEP_LEDGER % 256) 12 [])), (row Obj.SLEEP_LEDGER), (imageBytes (row Obj.SLEEP_LEDGER)), 0, by decide +kernel⟩,
   ⟨(got .b (ctl (msg 2 1 (Obj.SLEEP_LEDGER / 256) (Obj.SLEEP_LEDGER % 256) 12 [])) bothUp), .b, (ctl (msg 2 1 (Obj.SLEEP_LEDGER / 256) (Obj.SLEEP_LEDGER % 256) 12 [])), (parseMessage .portB (.rovan 9) (msg 2 1 (Obj.SLEEP_LEDGER / 256) (Obj.SLEEP_LEDGER % 256) 12 [])), by decide +kernel⟩,
   ⟨(got .b (ctl (msg 1 129 (Obj.SLEEP_LEDGER / 256) (Obj.SLEEP_LEDGER % 256) 12 [])) bothUp), .b, (ctl (msg 1 129 (Obj.SLEEP_LEDGER / 256) (Obj.SLEEP_LEDGER % 256) 12 [])), (parseMessage .portB (.rovan 9) (msg 1 129 (Obj.SLEEP_LEDGER / 256) (Obj.SLEEP_LEDGER % 256) 12 [])), by decide +kernel⟩,
   ⟨up, by decide +kernel⟩,
   ⟨up, by decide +kernel⟩,
   ⟨up, by decide +kernel⟩⟩

theorem witness_TheChainIsEnumerated :
    (∃ (s : State) (p : Port) (k : Packet), s.acts 0 = true ∧ s.takes p k 0x20 = true ∧ k.num 12 1 ≤ 1 ∧ (((s.traffic.primary = none ∧ s.traffic.secondary = none) ∨ k.num 8 4 ≠ s.reg Obj.CHAIN_ENUM_ID))) ∧
    (∃ (s : State) (p : Port) (k : Packet), s.acts 0 = true ∧ s.takes p k 0x20 = true ∧ k.num 12 1 ≤ 1 ∧ (((s.traffic.primary = none ∧ s.traffic.secondary = none) ∨ k.num 8 4 ≠ s.reg Obj.CHAIN_ENUM_ID))) ∧
    (∃ (s : State) (p : Port) (k : Packet) (r1 : Bool), s.acts 0 = true ∧ s.takes p k 0x20 = true ∧ k.num 12 1 = 1 ∧ s.traffic.primary = some r1 ∧ s.traffic.secondary = none ∧ k.num 8 4 = s.reg Obj.CHAIN_ENUM_ID) ∧
    (∃ (s : State) (p : Port) (k : Packet) (r2 : Bool), s.acts 0 = true ∧ s.takes p k 0x20 = true ∧ k.num 12 1 = 0 ∧ s.traffic.secondary = some r2 ∧ s.traffic.primary = none ∧ k.num 8 4 = s.reg Obj.CHAIN_ENUM_ID) ∧
    (∃ (s : State) (p : Port) (k : Packet), s.acts 0 = true ∧ s.takes p k 0x20 = true ∧ 1 < k.num 12 1) ∧
    (∃ (s : State) (p : Port) (k : Packet) (a : Announce), s.acts 0 = true ∧ s.takes p k 0x21 = true ∧ a = { serial := k.num 12 8, tile := k.num 20 2, position := k.num 22 1, reverse := k.num 23 1, cls := k.num 24 1 }) ∧
    (∃ (s : State) (p : Port) (k : Packet) (a : Announce), s.acts 0 = true ∧ s.takes p k 0x21 = true ∧ a = { serial := k.num 12 8, tile := k.num 20 2, position := k.num 22 1, reverse := k.num 23 1, cls := k.num 24 1 }) ∧
    (∃ (s : State), s.acts 6 = true) ∧
    (∃ (s : State), s.acts 6 = true) ∧
    (∃ (s : State), s.acts 6 = true) ∧
    (∃ (s : State), s.acts 6 = true) ∧
    (∃ (s : State) (p : Port) (k : Packet), s.acts 0 = true ∧ s.takes p k 0x23 = true) ∧
    (∃ (s : State) (p : Port) (k : Packet), s.acts 0 = true ∧ s.takes p k 0x23 = true) ∧
    (∃ (s : State) (p : Port) (k : Packet), s.acts 0 = true ∧ s.takes p k 0x23 = true) :=
  ⟨⟨(got .b (chainPk 0x20 7 0 1) bothUp), .b, (chainPk 0x20 7 0 1), by decide +kernel⟩,
   ⟨(got .b (chainPk 0x20 7 1 1) (trf bothUp { bothUp.traffic with primary := some true })), .b, (chainPk 0x20 7 1 1), by decide +kernel⟩,
   ⟨(got .b (chainPk 0x20 0 1 1) (trf (bothUp.setReg Obj.CHAIN_ENUM_ID 0) { bothUp.traffic with primary := some true })), .b, (chainPk 0x20 0 1 1), true, by decide +kernel⟩,
   ⟨(got .a (chainPk 0x20 0 0 1) (trf (bothUp.setReg Obj.CHAIN_ENUM_ID 0) { bothUp.traffic with secondary := some true })), .a, (chainPk 0x20 0 0 1), true, by decide +kernel⟩,
   ⟨(got .a (chainPk 0x20 0 2 1) bothUp), .a, (chainPk 0x20 0 2 1), by decide +kernel⟩,
   ⟨(got .a (annPk 0 8 0x200 3 4 2) (trf (bothUp.setReg Obj.TILE_ADDRESS 0x200) { bothUp.traffic with electing := true, announces := [ann1] })), .a, (annPk 0 8 0x200 3 4 2), { serial := 8, tile := 0x200, position := 3, reverse := 4, cls := 2 }, by decide +kernel⟩,
   ⟨(got .a (annPk 0 8 0x200 3 4 2) bothUp), .a, (annPk 0 8 0x200 3 4 2), { serial := 8, tile := 0x200, position := 3, reverse := 4, cls := 2 }, by decide +kernel⟩,
   ⟨(trf (bothUp.setReg Obj.COX_ROLE 2) { bothUp.traffic with electing := true }), by decide +kernel⟩,
   ⟨(trf bothUp { bothUp.traffic with electing := true }), by decide +kernel⟩,
   ⟨(trf bothUp { bothUp.traffic with electing := true, announces := [ann1] }), by decide +kernel⟩,
   ⟨bothUp, by decide +kernel⟩,
   ⟨(got .a (chainPk 0x23 0 0 0) ((bothUp.setFlag Obj.CHAIN_RING true).setReg Obj.SOURCE_PORT 0)), .a, (chainPk 0x23 0 0 0), by decide +kernel⟩,
   ⟨(got .a (chainPk 0x23 0 0 0) ((upA.setFlag Obj.CHAIN_RING true).setReg Obj.SOURCE_PORT 0)), .a, (chainPk 0x23 0 0 0), by decide +kernel⟩,
   ⟨(got .a (chainPk 0x23 0 0 0) bothUp), .a, (chainPk 0x23 0 0 0), by decide +kernel⟩⟩

theorem witness_MemoryStartsAndIsScrubbed :
    (∃ (s : State) (rq : Req) (data : Bytes), s.admitsWrite rq Obj.MEM_START data = true ∧ s.power.tripped = false ∧ ((s.reg Obj.MEM_STATE = 0 ∨ s.reg Obj.MEM_STATE = 4))) ∧
    (∃ (s : State) (rq : Req) (data : Bytes), s.admitsWrite rq Obj.MEM_START data = true ∧ ((s.power.tripped = true ∨ (s.reg Obj.MEM_STATE ≠ 0 ∧ s.reg Obj.MEM_STATE ≠ 4)))) ∧
    (∃ (s : State) (rq : Req) (data : Bytes), s.admitsWrite rq Obj.MEM_START data = true ∧ ((s.power.tripped = true ∨ (s.reg Obj.MEM_STATE ≠ 0 ∧ s.reg Obj.MEM_STATE ≠ 4)))) ∧
    (∃ (s : State) (d : Nat), s.acts 2 = true ∧ s.reg Obj.MEM_STATE = 1 ∧ 1 ≤ d ∧ d ≤ 8) ∧
    (∃ (s : State) (d0 : Nat) (d1 : Nat) (trained : Bool), s.acts 2 = true ∧ s.reg Obj.MEM_STATE = 1 ∧ ((d0 < 1 ∨ 8 < d0 ∨ d1 < 1 ∨ 8 < d1 ∨ d0 ≠ d1 ∨ trained = false))) ∧
    (∃ (s : State) (d0 : Nat) (d1 : Nat) (trained : Bool), s.acts 2 = true ∧ s.reg Obj.MEM_STATE = 1 ∧ ((d0 < 1 ∨ 8 < d0 ∨ d1 < 1 ∨ 8 < d1 ∨ d0 ≠ d1 ∨ trained = false))) ∧
    (∃ (s : State) (d0 : Nat) (d1 : Nat) (trained : Bool), s.acts 2 = true ∧ s.reg Obj.MEM_STATE = 1 ∧ ((d0 < 1 ∨ 8 < d0 ∨ d1 < 1 ∨ 8 < d1 ∨ d0 ≠ d1 ∨ trained = false))) ∧
    (∃ (s : State), s.acts 2 = true ∧ s.reg Obj.MEM_STATE ≠ 1) ∧
    (∃ (s : State), s.acts 2 = true ∧ s.reg Obj.MEM_STATE = 2 ∧ s.reg Obj.SCRUB_PERIOD ≠ 0) ∧
    (∃ (s : State), s.acts 2 = true ∧ s.reg Obj.MEM_STATE = 2 ∧ s.reg Obj.SCRUB_PERIOD ≠ 0) ∧
    (∃ (s : State), s.acts 2 = true ∧ s.reg Obj.MEM_STATE = 2 ∧ s.reg Obj.SCRUB_PERIOD ≠ 0) ∧
    (∃ (s : State), s.acts 2 = true ∧ ((s.reg Obj.MEM_STATE ≠ 2 ∨ s.reg Obj.SCRUB_PERIOD = 0))) ∧
    (∃ (s : State) (rq : Req) (data : Bytes), s.admitsWrite rq Obj.REGION_ENTRY data = true ∧ s.reg Obj.REGION_INDEX < 256) :=
  ⟨⟨up, host, (blank Obj.MEM_START), by decide +kernel⟩,
   ⟨ram, host, (blank Obj.MEM_START), by decide +kernel⟩,
   ⟨{ up with power := { up.power with tripped := true } }, host, (blank Obj.MEM_START), by decide +kernel⟩,
   ⟨(ram.setReg Obj.MEM_STATE 1), 8, by decide +kernel⟩,
   ⟨(ram.setReg Obj.MEM_STATE 1), 9, 8, true, by decide +kernel⟩,
   ⟨(ram.setReg Obj.MEM_STATE 1), 1, 8, true, by decide +kernel⟩,
   ⟨(ram.setReg Obj.MEM_STATE 1), 8, 8, false, by decide +kernel⟩,
   ⟨ram, by decide +kernel⟩,
   ⟨(ram.setReg Obj.SCRUB_PERIOD 1), by decide +kernel⟩,
   ⟨((ram.setReg Obj.SCRUB_PERIOD 1).setReg Obj.MEM_USABLE_BYTES 256), by decide +kernel⟩,
   ⟨(ram.setReg Obj.SCRUB_PERIOD 1), by decide +kernel⟩,
   ⟨(ram.setReg Obj.SCRUB_PERIOD 0), by decide +kernel⟩,
   ⟨up, host, (natLE 16 (2 ^ 80 + 77)), by decide +kernel⟩⟩

theorem witness_RingsAreManagedByHandle :
    (∃ (s : State) (rq : Req) (data : Bytes) (r : Nat), s.admitsWrite rq Obj.RING_CREATE data = true ∧ leNat data = r ∧ 8 ≤ r ∧ r ≤ 63 ∧ s.ringState r = 0) ∧
    (∃ (s : State) (rq : Req) (data : Bytes), s.admitsWrite rq Obj.RING_CREATE data = true ∧ 63 < leNat data) ∧
    (∃ (s : State) (rq : Req) (data : Bytes), s.admitsWrite rq Obj.RING_CREATE data = true ∧ leNat data ≤ 7) ∧
    (∃ (s : State) (rq : Req) (data : Bytes), s.admitsWrite rq Obj.RING_CREATE data = true ∧ 8 ≤ leNat data ∧ leNat data ≤ 63 ∧ s.ringState (leNat data) ≠ 0) ∧
    (∃ (s : State) (rq : Req) (data : Bytes) (r : Nat), s.admitsWrite rq Obj.RING_DESTROY data = true ∧ s.ringOf (leNat data % 2 ^ 32) = .inl r) ∧
    (∃ (s : State) (rq : Req) (data : Bytes) (r : Nat), s.admitsWrite rq Obj.RING_DESTROY data = true ∧ s.ringOf (leNat data % 2 ^ 32) = .inl r) ∧
    (∃ (s : State) (rq : Req) (data : Bytes) (r : Nat), s.admitsWrite rq Obj.RING_DESTROY data = true ∧ s.ringOf (leNat data % 2 ^ 32) = .inl r) ∧
    (∃ (s : State) (rq : Req) (data : Bytes) (code : Nat), s.ringOf (leNat data % 2 ^ 32) = .inr code ∧ s.admitsWrite rq Obj.RING_DESTROY data = true ∧ s.admitsWrite rq Obj.RING_HALT data = true ∧ s.admitsWrite rq Obj.RING_RESUME data = true) ∧
    (∃ (s : State) (rq : Req) (data : Bytes) (r : Nat), s.admitsWrite rq Obj.RING_HALT data = true ∧ s.ringOf (leNat data % 2 ^ 32) = .inl r) ∧
    (∃ (s : State) (rq : Req) (data : Bytes) (r : Nat), s.admitsWrite rq Obj.RING_HALT data = true ∧ s.ringOf (leNat data % 2 ^ 32) = .inl r) ∧
    (∃ (s : State) (rq : Req) (data : Bytes) (r : Nat), s.admitsWrite rq Obj.RING_HALT data = true ∧ s.ringOf (leNat data % 2 ^ 32) = .inl r) ∧
    (∃ (s : State) (rq : Req) (data : Bytes) (r : Nat), s.admitsWrite rq Obj.RING_HALT data = true ∧ s.ringOf (leNat data % 2 ^ 32) = .inl r) ∧
    (∃ (s : State) (rq : Req) (data : Bytes) (r : Nat), s.admitsWrite rq Obj.RING_HALT data = true ∧ s.ringOf (leNat data % 2 ^ 32) = .inl r) ∧
    (∃ (s : State) (rq : Req) (data : Bytes) (r : Nat), s.admitsWrite rq Obj.RING_RESUME data = true ∧ s.ringOf (leNat data % 2 ^ 32) = .inl r) ∧
    (∃ (s : State) (rq : Req) (data : Bytes) (r : Nat), s.admitsWrite rq Obj.RING_RESUME data = true ∧ s.ringOf (leNat data % 2 ^ 32) = .inl r) ∧
    (∃ (s : State) (rq : Req) (data : Bytes) (r : Nat), s.admitsWrite rq Obj.RING_RESUME data = true ∧ s.ringOf (leNat data % 2 ^ 32) = .inl r) ∧
    (∃ (s : State) (rq : Req) (r : Nat) (data : Bytes), 8 ≤ r ∧ r ≤ 63 ∧ s.admitsWrite rq (Obj.RING_TAIL r) data = true ∧ s.ringState r ≠ 0) ∧
    (∃ (s : State) (rq : Req) (r : Nat) (data : Bytes), 8 ≤ r ∧ r ≤ 63 ∧ s.admitsWrite rq (Obj.RING_TAIL r) data = true ∧ s.ringState r ≠ 0) ∧
    (∃ (s : State) (rq : Req) (r : Nat) (data : Bytes), r ≤ 63 ∧ s.admitsWrite rq (Obj.RING_TAIL r) data = true ∧ ((r ≤ 7 ∨ s.ringState r = 0))) ∧
    (∃ (s : State) (rq : Req) (r : Nat) (data : Bytes), r ≤ 63 ∧ s.admitsWrite rq (Obj.RING_TAIL r) data = true ∧ ((r ≤ 7 ∨ s.ringState r = 0))) ∧
    (∃ (s : State) (rq : Req) (r : Nat) (data : Bytes), r ≤ 63 ∧ s.admitsWrite rq (Obj.RING_FIFO r) data = true ∧ 8 ≤ r ∧ s.ringState r ≠ 0 ∧ (s.ring r).fifo.length + s.fifoReserved r + data.length ≤ 16384) ∧
    (∃ (s : State) (rq : Req) (r : Nat) (data : Bytes), r ≤ 63 ∧ s.admitsWrite rq (Obj.RING_FIFO r) data = true ∧ 8 ≤ r ∧ s.ringState r ≠ 0 ∧ 16384 < (s.ring r).fifo.length + s.fifoReserved r + data.length) ∧
    (∃ (s : State) (rq : Req) (r : Nat) (data : Bytes), r ≤ 63 ∧ s.admitsWrite rq (Obj.RING_FIFO r) data = true ∧ r ≤ 7) ∧
    (∃ (s : State) (rq : Req) (r : Nat) (data : Bytes), r ≤ 63 ∧ s.admitsWrite rq (Obj.RING_FIFO r) data = true ∧ 8 ≤ r ∧ s.ringState r = 0) ∧
    (∃ (s : State) (rq : Req) (r : Nat), r ≤ 63 ∧ s.admitsRead (wholeRead rq (Obj.RING_FIFO r)) = true ∧ s.hasSpace rq.who = true) ∧
    (∃ (s : State) (rq : Req) (r : Nat), r ≤ 63 ∧ s.admitsRead (wholeRead rq (Obj.RING_FIFO r)) = true ∧ s.hasSpace rq.who = true) :=
  ⟨⟨up, host, (natLE 4 63), 63, by decide +kernel⟩,
   ⟨up, host, (natLE 4 64), by decide +kernel⟩,
   ⟨up, host, (natLE 4 7), by decide +kernel⟩,
   ⟨(ringUp 1), host, (natLE 4 8), by decide +kernel⟩,
   ⟨(ringUp 2), host, (natLE 4 0x20001008), 8, by decide +kernel⟩,
   ⟨{ ringUp 2 with memory := { (ringUp 2).memory with inflight := [brst 8 0] } }, host, (natLE 4 0x20001008), 8, by decide +kernel⟩,
   ⟨((fetchable (dsc 0x3000 0x4000 300 0)).setRing 8 { descriptor := some (dsc 0x3000 0x4000 300 0) }), host, (natLE 4 0x20001008), 8, by decide +kernel⟩,
   ⟨up, host, (natLE 4 0x20001007), abortDenied, by decide +kernel⟩,
   ⟨(ringUp 2), host, (natLE 4 0x20001008), 8, by decide +kernel⟩,
   ⟨{ ringUp 2 with memory := { (ringUp 2).memory with inflight := [brst 8 0] } }, host, (natLE 4 0x20001008), 8, by decide +kernel⟩,
   ⟨(ringUp 1), host, (natLE 4 0x20001008), 8, by decide +kernel⟩,
   ⟨(ringUp 3), host, (natLE 4 0x20001008), 8, by decide +kernel⟩,
   ⟨((fetchable (dsc 0x3000 0x4000 300 0)).setRing 8 { descriptor := some (dsc 0x3000 0x4000 300 0) }), host, (natLE 4 0x20001008), 8, by decide +kernel⟩,
   ⟨(ringUp 3), host, (natLE 4 0x20001008), 8, by decide +kernel⟩,
   ⟨((ringUp 3).setReg (Obj.RING_TAIL 8) 5), host, (natLE 4 0x20001008), 8, by decide +kernel⟩,
   ⟨(ringUp 1), host, (natLE 4 0x20001008), 8, by decide +kernel⟩,
   ⟨(ringUp 1), host, 8, (natLE 4 5), by decide +kernel⟩,
   ⟨(ringUp 1), host, 8, (natLE 4 0), by decide +kernel⟩,
   ⟨up, host, 7, (natLE 4 0), by decide +kernel⟩,
   ⟨up, host, 63, (natLE 4 0), by decide +kernel⟩,
   ⟨(ringUp 1), host, 8, ([1#8, 2#8]), by decide +kernel⟩,
   ⟨(ring1 { fifo := List.replicate 16383 7#8 } 1), host, 8, ([1#8, 2#8]), by decide +kernel⟩,
   ⟨(ringUp 1), host, 7, ([1#8, 2#8]), by decide +kernel⟩,
   ⟨(ringUp 1), host, 63, ([1#8, 2#8]), by decide +kernel⟩,
   ⟨(ring1 { fifo := List.replicate 1449 7#8 } 1), host, 8, by decide +kernel⟩,
   ⟨up, host, 7, by decide +kernel⟩⟩

theorem witness_DescriptorsRunBurstByBurst :
    (∃ (s : State) (r : Nat) (at' : Target) (d : Bytes), s.acts 2 = true ∧ r ≤ 63 ∧ s.mayFetch r = true ∧ at' = s.translate (s.slotAddr r) 32 false true ∧ d = s.targetBytes at' 32) ∧
    (∃ (s : State) (r : Nat) (at' : Target) (d : Bytes), s.acts 2 = true ∧ r ≤ 63 ∧ s.mayFetch r = true ∧ at' = s.translate (s.slotAddr r) 32 false true ∧ d = s.targetBytes at' 32) ∧
    (∃ (s : State) (r : Nat) (at' : Target) (d : Bytes), s.acts 2 = true ∧ r ≤ 63 ∧ s.mayFetch r = true ∧ at' = s.translate (s.slotAddr r) 32 false true ∧ d = s.targetBytes at' 32) ∧
    (∃ (s : State) (r : Nat) (at' : Target) (d : Bytes), s.acts 2 = true ∧ r ≤ 63 ∧ s.mayFetch r = true ∧ at' = s.translate (s.slotAddr r) 32 false true ∧ d = s.targetBytes at' 32) ∧
    (∃ (s : State) (r : Nat) (at' : Target) (d : Bytes), s.acts 2 = true ∧ r ≤ 63 ∧ s.mayFetch r = true ∧ at' = s.translate (s.slotAddr r) 32 false true ∧ d = s.targetBytes at' 32) ∧
    (∃ (s : State) (r : Nat) (at' : Target) (d : Bytes), s.acts 2 = true ∧ r ≤ 63 ∧ s.mayFetch r = true ∧ at' = s.translate (s.slotAddr r) 32 false true ∧ d = s.targetBytes at' 32) ∧
    (∃ (s : State) (r : Nat), s.acts 2 = true ∧ s.mayFetch r = false) ∧
    (∃ (x : Target), x.staging = false) ∧
    (∃ (x : Target), x.staging = true) ∧
    (∃ (s : State) (device : List DeviceBurst) (b : Burst), s.acts 2 = true ∧ s.arbitrate device = some b) ∧
    (∃ (s : State) (device : List DeviceBurst) (b : Burst), s.acts 2 = true ∧ s.arbitrate device = some b) ∧
    (∃ (s : State) (device : List DeviceBurst), s.acts 2 = true ∧ s.arbitrate device = none) ∧
    (∃ (s : State) (r : Nat) (p : Nat) (trouble : MemTrouble) (b : Burst) (d : Bytes) (o : Nat), s.acts 2 = true ∧ 8 ≤ r ∧ r ≤ 63 ∧ s.memory.inflight.find? (·.ring == r) = some b ∧ (s.ring r).descriptor = some d ∧ p = s.reg (Obj.RING_PROGRESS r) ∧ p + b.length < 2 ^ 32 ∧ o = (burstOutcome b trouble s).1) ∧
    (∃ (s : State) (r : Nat) (p : Nat) (trouble : MemTrouble) (b : Burst) (d : Bytes) (o : Nat), s.acts 2 = true ∧ 8 ≤ r ∧ r ≤ 63 ∧ s.memory.inflight.find? (·.ring == r) = some b ∧ (s.ring r).descriptor = some d ∧ p = s.reg (Obj.RING_PROGRESS r) ∧ p + b.length < 2 ^ 32 ∧ o = (burstOutcome b trouble s).1) ∧
    (∃ (s : State) (r : Nat) (p : Nat) (trouble : MemTrouble) (b : Burst) (d : Bytes) (o : Nat), s.acts 2 = true ∧ 8 ≤ r ∧ r ≤ 63 ∧ s.memory.inflight.find? (·.ring == r) = some b ∧ (s.ring r).descriptor = some d ∧ p = s.reg (Obj.RING_PROGRESS r) ∧ p + b.length < 2 ^ 32 ∧ o = (burstOutcome b trouble s).1) ∧
    (∃ (s : State) (r : Nat) (p : Nat) (trouble : MemTrouble) (b : Burst) (d : Bytes) (o : Nat), s.acts 2 = true ∧ 8 ≤ r ∧ r ≤ 63 ∧ s.memory.inflight.find? (·.ring == r) = some b ∧ (s.ring r).descriptor = some d ∧ p = s.reg (Obj.RING_PROGRESS r) ∧ p + b.length < 2 ^ 32 ∧ o = (burstOutcome b trouble s).1) ∧
    (∃ (s : State) (r : Nat) (p : Nat) (trouble : MemTrouble) (b : Burst) (d : Bytes) (o : Nat), s.acts 2 = true ∧ 8 ≤ r ∧ r ≤ 63 ∧ s.memory.inflight.find? (·.ring == r) = some b ∧ (s.ring r).descriptor = some d ∧ p = s.reg (Obj.RING_PROGRESS r) ∧ p + b.length < 2 ^ 32 ∧ o = (burstOutcome b trouble s).1) ∧
    (∃ (b : Burst), b.fault ≠ 0) ∧
    (∃ (b : Burst), b.fault = 0 ∧ b.touches false = true) ∧
    (∃ (s : State) (r : Nat) (trouble : MemTrouble) (b : Burst) (o : Nat), s.acts 2 = true ∧ r ≤ 7 ∧ s.memory.inflight.find? (·.ring == r) = some b ∧ o = (burstOutcome b trouble s).1) ∧
    (∃ (s : State) (r : Nat) (trouble : MemTrouble) (b : Burst) (o : Nat), s.acts 2 = true ∧ r ≤ 7 ∧ s.memory.inflight.find? (·.ring == r) = some b ∧ o = (burstOutcome b trouble s).1) ∧
    (∃ (s : State) (r : Nat), s.acts 2 = true ∧ s.memory.inflight.find? (·.ring == r) = none) ∧
    (∃ (s : State) (r : Nat) (b : Burst) (d : Bytes), s.acts 2 = true ∧ 8 ≤ r ∧ r ≤ 63 ∧ s.memory.inflight.find? (·.ring == r) = some b ∧ (s.ring r).descriptor = some d ∧ b.fault = 0 ∧ b.touches false = true) ∧
    (∃ (s : State) (r : Nat) (b : Burst), s.acts 2 = true ∧ r ≤ 7 ∧ s.memory.inflight.find? (·.ring == r) = some b ∧ b.fault = 0 ∧ b.touches false = true) ∧
    (∃ (s : State) (r : Nat) (n : Nat) (d : Bytes), s.acts 2 = true ∧ 8 ≤ r ∧ r ≤ 63 ∧ (s.ring r).descriptor = some d ∧ n = burstLength d (s.reg (Obj.RING_PROGRESS r))) ∧
    (∃ (s : State) (r : Nat) (n : Nat) (d : Bytes), s.acts 2 = true ∧ 8 ≤ r ∧ r ≤ 63 ∧ (s.ring r).descriptor = some d ∧ n = burstLength d (s.reg (Obj.RING_PROGRESS r))) ∧
    (∃ (s : State) (r : Nat), s.acts 2 = true ∧ (s.ring r).descriptor = none) :=
  ⟨⟨(fetchable (dsc 0x3000 0x4000 300 0)), 8, ((fetchable (dsc 0x3000 0x4000 300 0) : State).translate ((fetchable (dsc 0x3000 0x4000 300 0) : State).slotAddr 8) 32 false true), ((fetchable (dsc 0x3000 0x4000 300 0) : State).targetBytes ((fetchable (dsc 0x3000 0x4000 300 0) : State).translate ((fetchable (dsc 0x3000 0x4000 300 0) : State).slotAddr 8) 32 false true : Target) 32), by decide +kernel⟩,
   ⟨(((ringUp 2).setReg (Obj.RING_TAIL 8) 1).setReg (Obj.RING_BASE 8) 0xF000000000), 8, ((((ringUp 2).setReg (Obj.RING_TAIL 8) 1).setReg (Obj.RING_BASE 8) 0xF000000000 : State).translate ((((ringUp 2).setReg (Obj.RING_TAIL 8) 1).setReg (Obj.RING_BASE 8) 0xF000000000 : State).slotAddr 8) 32 false true), ((((ringUp 2).setReg (Obj.RING_TAIL 8) 1).setReg (Obj.RING_BASE 8) 0xF000000000 : State).targetBytes ((((ringUp 2).setReg (Obj.RING_TAIL 8) 1).setReg (Obj.RING_BASE 8) 0xF000000000 : State).translate ((((ringUp 2).setReg (Obj.RING_TAIL 8) 1).setReg (Obj.RING_BASE 8) 0xF000000000 : State).slotAddr 8) 32 false true : Target) 32), by decide +kernel⟩,
   ⟨(fetchable (dsc 0x3000 0x4000 300 6)), 8, ((fetchable (dsc 0x3000 0x4000 300 6) : State).translate ((fetchable (dsc 0x3000 0x4000 300 6) : State).slotAddr 8) 32 false true), ((fetchable (dsc 0x3000 0x4000 300 6) : State).targetBytes ((fetchable (dsc 0x3000 0x4000 300 6) : State).translate ((fetchable (dsc 0x3000 0x4000 300 6) : State).slotAddr 8) 32 false true : Target) 32), by decide +kernel⟩,
   ⟨(fetchable (dsc 0x3000 0x4000 0 2)), 8, ((fetchable (dsc 0x3000 0x4000 0 2) : State).translate ((fetchable (dsc 0x3000 0x4000 0 2) : State).slotAddr 8) 32 false true), ((fetchable (dsc 0x3000 0x4000 0 2) : State).targetBytes ((fetchable (dsc 0x3000 0x4000 0 2) : State).translate ((fetchable (dsc 0x3000 0x4000 0 2) : State).slotAddr 8) 32 false true : Target) 32), by decide +kernel⟩,
   ⟨{ ((((fetchable (dsc 0x3000 0x4000 16 2)).setReg (Obj.LAYER_BUF_ADDR 7 0) 0x4000).setReg (Obj.LAYER_BUF_STRIDE 7 0) 64).setReg (Obj.LAYER_BUF_HEIGHT 7 0) 8) with layers := { up.layers with l7Locked := true } }, 8, (({ ((((fetchable (dsc 0x3000 0x4000 16 2)).setReg (Obj.LAYER_BUF_ADDR 7 0) 0x4000).setReg (Obj.LAYER_BUF_STRIDE 7 0) 64).setReg (Obj.LAYER_BUF_HEIGHT 7 0) 8) with layers := { up.layers with l7Locked := true } } : State).translate (({ ((((fetchable (dsc 0x3000 0x4000 16 2)).setReg (Obj.LAYER_BUF_ADDR 7 0) 0x4000).setReg (Obj.LAYER_BUF_STRIDE 7 0) 64).setReg (Obj.LAYER_BUF_HEIGHT 7 0) 8) with layers := { up.layers with l7Locked := true } } : State).slotAddr 8) 32 false true), (({ ((((fetchable (dsc 0x3000 0x4000 16 2)).setReg (Obj.LAYER_BUF_ADDR 7 0) 0x4000).setReg (Obj.LAYER_BUF_STRIDE 7 0) 64).setReg (Obj.LAYER_BUF_HEIGHT 7 0) 8) with layers := { up.layers with l7Locked := true } } : State).targetBytes (({ ((((fetchable (dsc 0x3000 0x4000 16 2)).setReg (Obj.LAYER_BUF_ADDR 7 0) 0x4000).setReg (Obj.LAYER_BUF_STRIDE 7 0) 64).setReg (Obj.LAYER_BUF_HEIGHT 7 0) 8) with layers := { up.layers with l7Locked := true } } : State).translate (({ ((((fetchable (dsc 0x3000 0x4000 16 2)).setReg (Obj.LAYER_BUF_ADDR 7 0) 0x4000).setReg (Obj.LAYER_BUF_STRIDE 7 0) 64).setReg (Obj.LAYER_BUF_HEIGHT 7 0) 8) with layers := { up.layers with l7Locked := true } } : State).slotAddr 8) 32 false true : Target) 32), by decide +kernel⟩,
   ⟨(fetchable (dsc 0x3000 0x4000 300 0)), 8, ((fetchable (dsc 0x3000 0x4000 300 0) : State).translate ((fetchable (dsc 0x3000 0x4000 300 0) : State).slotAddr 8) 32 false true), ((fetchable (dsc 0x3000 0x4000 300 0) : State).targetBytes ((fetchable (dsc 0x3000 0x4000 300 0) : State).translate ((fetchable (dsc 0x3000 0x4000 300 0) : State).slotAddr 8) 32 false true : Target) 32), by decide +kernel⟩,
   ⟨(ringUp 2), 8, by decide +kernel⟩,
   ⟨(⟨0, false, 0⟩), by decide +kernel⟩,
   ⟨(⟨0, true, 0⟩), by decide +kernel⟩,
   ⟨ram, ([{ ring := 0, address := 0x1000, bytes := 64, write := false }]), (ram.deviceBurst { ring := 0, address := 0x1000, bytes := 64, write := false }), by decide +kernel⟩,
   ⟨((fetchable (dsc 0x3000 0x4000 300 0)).setRing 8 { descriptor := some (dsc 0x3000 0x4000 300 0) }), ([]), ((((fetchable (dsc 0x3000 0x4000 300 0)).setRing 8 { descriptor := some (dsc 0x3000 0x4000 300 0) } : State).arbitrate []).getD (brst 9 9)), by decide +kernel⟩,
   ⟨ram, ([]), by decide +kernel⟩,
   ⟨(midway (dsc 0x3000 0x4000 300 0) { brst 8 0 with dst := 0x4000, tile := 0x4000, src := 0x3000 } {}), 8, 0, .none, { brst 8 0 with dst := 0x4000, tile := 0x4000, src := 0x3000 }, (dsc 0x3000 0x4000 300 0), 0, by decide +kernel⟩,
   ⟨(midway (dsc 0x3000 0x4000 300 2) { brst 8 0 with dst := 0x4000, tile := 0x4000, src := 0x3000 } { fifo := List.replicate 20 6#8 }), 8, 0, .none, { brst 8 0 with dst := 0x4000, tile := 0x4000, src := 0x3000 }, (dsc 0x3000 0x4000 300 2), 0, by decide +kernel⟩,
   ⟨(midway (dsc 0x3000 0x4000 300 4) { brst 8 0 with dst := 0x4000, tile := 0x4000, src := 0x3000, dstStaging := true } { fifo := List.replicate 20 6#8 }), 8, 0, .none, { brst 8 0 with dst := 0x4000, tile := 0x4000, src := 0x3000, dstStaging := true }, (dsc 0x3000 0x4000 300 4), 0, by decide +kernel⟩,
   ⟨(midway (dsc 0x3000 0x4000 16 8) { brst 8 0 with dst := 0x4000, tile := 0x4000, src := 0x3000 } {}), 8, 0, .none, { brst 8 0 with dst := 0x4000, tile := 0x4000, src := 0x3000 }, (dsc 0x3000 0x4000 16 8), 0, by decide +kernel⟩,
   ⟨(midway (dsc 0x3000 0x4000 16 0) (brst 8 3) {}), 8, 0, .none, (brst 8 3), (dsc 0x3000 0x4000 16 0), 3, by decide +kernel⟩,
   ⟨(brst 8 3), by decide +kernel⟩,
   ⟨(brst 8 0), by decide +kernel⟩,
   ⟨{ ram with memory := { ram.memory with inflight := [brst 0 0] } }, 0, .none, (brst 0 0), 0, by decide +kernel⟩,
   ⟨{ ram with memory := { ram.memory with inflight := [brst 1 2] } }, 1, .none, (brst 1 2), 2, by decide +kernel⟩,
   ⟨ram, 8, by decide +kernel⟩,
   ⟨(midway (dsc 0x3000 0x4000 16 0) (brst 8 0) {}), 8, (brst 8 0), (dsc 0x3000 0x4000 16 0), by decide +kernel⟩,
   ⟨{ ram with memory := { ram.memory with inflight := [brst 0 0] } }, 0, (brst 0 0), by decide +kernel⟩,
   ⟨(midway (dsc 0x3000 0x4000 16 2) (brst 9 0) {}), 8, 16, (dsc 0x3000 0x4000 16 2), by decide +kernel⟩,
   ⟨(midway (dsc 0x3000 0x4000 16 4) (brst 9 0) { fifo := List.replicate 16380 1#8 }), 8, 16, (dsc 0x3000 0x4000 16 4), by decide +kernel⟩,
   ⟨ram, 8, by decide +kernel⟩⟩

theorem witness_SafetyInputsAreObeyed :
    (∃ (s : State) (c : Channel), s.supervises c = true) ∧
    (∃ (s : State) (c : Channel), s.supervises c = true) ∧
    (∃ (s : State) (c : Channel), s.supervises c = true) ∧
    (∃ (s : State) (c : Channel), s.supervises c = true) ∧
    (∃ (s : State) (c : Channel), s.supervises c = true) ∧
    (∃ (s : State) (c : Channel), s.supervises c = true) ∧
    (∃ (s : State) (c : Channel), s.supervises c = true) ∧
    (∃ (s : State) (c : Channel), s.supervises c = true) ∧
    (∃ (s : State) (c : Channel), s.supervises c = true) ∧
    (∃ (s : State) (c : Channel), s.supervises c = true) ∧
    (∃ (s : State) (c : Channel), s.supervises c = true) ∧
    (∃ (s : State) (c : Channel), s.supervises c = true) ∧
    (∃ (s : State) (c : Channel), s.supervises c = true) :=
  ⟨⟨evOk, .a, by decide +kernel⟩,
   ⟨{ evOk with safety := { evOk.safety with evacActive := true } }, .b, by decide +kernel⟩,
   ⟨(safe { chanOff with safeBlank := supOk } { chanOff with safeBlank := { pinA := false, pinB := false, lastDemand := true } }), .b, by decide +kernel⟩,
   ⟨(safe { chanOff with safeBlank := { supOk with cycled := true } } { chanOff with safeBlank := { pinA := false, pinB := false, lastDemand := true, entered := true } }), .b, by decide +kernel⟩,
   ⟨((evOk.setReg Obj.L7_ARM_STATE 2).setReg Obj.SCAN_STATE 2 |>.setFlag Obj.BEACON_VALID true), .a, by decide +kernel⟩,
   ⟨evOk, .a, by decide +kernel⟩,
   ⟨{ safe evIn chanOk with safety := { (safe evIn chanOk).safety with evacActive := true } }, .a, by decide +kernel⟩,
   ⟨{ (safe evIn chanOk).setReg Obj.SCAN_STATE 2 with safety := { (safe evIn chanOk).safety with evacActive := true } }, .a, by decide +kernel⟩,
   ⟨evOk, .b, by decide +kernel⟩,
   ⟨evOk, .a, by decide +kernel⟩,
   ⟨(safe { chanOk with safeBlank := { pinA := true, pinB := true } } chanOk), .a, by decide +kernel⟩,
   ⟨(safe chanOk { chanOk with evac := { pinA := true, pinB := true } }), .b, by decide +kernel⟩,
   ⟨(safe chanOk chanOk), .b, by decide +kernel⟩⟩

theorem witness_SupervisionTripsTheOutputs :
    (∃ (s : State), s.supervises .b = true) ∧
    (∃ (s : State), s.supervises .b = true) ∧
    (∃ (s : State), s.acts 7 = true) ∧
    (∃ (s : State), s.acts 7 = true) ∧
    (∃ (s : State), s.supervises .a = true) ∧
    (∃ (s : State), s.supervises .a = true) ∧
    (∃ (s : State) (c : Channel), s.supervises c = true) ∧
    (∃ (s : State) (c : Channel), s.supervises c = true) ∧
    (∃ (s : State) (c : Channel), s.supervises c = true) ∧
    (∃ (s : State) (c : Channel), s.supervises c = true) ∧
    (∃ (s : State) (c : Channel), s.supervises c = true) ∧
    (∃ (s : State) (c : Channel), s.supervises c = true) ∧
    (∃ (s : State) (c : Channel), s.supervises c = true) ∧
    (∃ (s : State) (c : Channel), s.supervises c = true) ∧
    (∃ (s : State) (c : Channel), s.supervises c = true) ∧
    (∃ (s : State) (c : Channel), s.supervises c = true) ∧
    (∃ (s : State) (c : Channel), s.supervises c = true) ∧
    (∃ (s : State) (c : Channel), s.supervises c = true) ∧
    (∃ (s : State) (rq : Req) (data : Bytes), s.admitsWrite rq Obj.SAFETY_TRIP_CLEAR data = true) :=
  ⟨⟨evOk, by decide +kernel⟩,
   ⟨{ evOk with safety := { evOk.safety with trips := [3] } }, by decide +kernel⟩,
   ⟨evOk, by decide +kernel⟩,
   ⟨evOk, by decide +kernel⟩,
   ⟨evOk, by decide +kernel⟩,
   ⟨evOk, by decide +kernel⟩,
   ⟨(safe chanOk { chanOk with otherfb := true }), .b, by decide +kernel⟩,
   ⟨(safe chanOk chanOk), .b, by decide +kernel⟩,
   ⟨(safe chanOk { chanOk with test := .pulse }), .b, by decide +kernel⟩,
   ⟨(safe chanOk chanOk), .b, by decide +kernel⟩,
   ⟨(safe chanOk { chanOk with test := .readback, readLow := true }), .b, by decide +kernel⟩,
   ⟨(safe chanOk { chanOk with test := .readback, readLow := true }), .b, by decide +kernel⟩,
   ⟨(safe chanOk { chanOk with test := .readback, readLow := false, fails := 1 }), .b, by decide +kernel⟩,
   ⟨(safe chanOk chanOk), .b, by decide +kernel⟩,
   ⟨evOk, .b, by decide +kernel⟩,
   ⟨(safe chanOk { chanOk with railfb := true }), .b, by decide +kernel⟩,
   ⟨evOk, .b, by decide +kernel⟩,
   ⟨(safe chanOk { chanOk with permission := false }), .b, by decide +kernel⟩,
   ⟨{ safe { chanOk with permission := false, railen := false } { chanOk with permission := false, railen := false } with safety := { (safe { chanOk with permission := false, railen := false } { chanOk with permission := false, railen := false }).safety with trips := [4] } }, host, (blank Obj.SAFETY_TRIP_CLEAR), by decide +kernel⟩⟩

theorem witness_TheBeaconIsPatrolled :
    (∃ (s : State), s.acts 7 = true) ∧
    (∃ (s : State), s.acts 7 = true ∧ s.safety.patrolling = true) ∧
    (∃ (s : State), s.acts 7 = true ∧ s.safety.patrolling = true) ∧
    (∃ (s : State), s.acts 7 = true ∧ s.safety.patrolling = true) ∧
    (∃ (s : State), s.acts 7 = true ∧ s.safety.patrolling = false) ∧
    (∃ (s : State) (rq : Req) (data : Bytes), s.admitsWrite rq Obj.AMBIENT_LUX data = true) ∧
    (∃ (s : State), s.acts 6 = true) :=
  ⟨⟨up, by decide +kernel⟩,
   ⟨(patrol beaconUp), by decide +kernel⟩,
   ⟨(patrol ((up.setReg Obj.L7_ARM_STATE 2).setFlag Obj.BEACON_VALID true)), by decide +kernel⟩,
   ⟨{ (patrol (up.setFlag Obj.BEACON_VALID true)) with flash := [(0x1100000, 1#8), (0x1100001, 0#8)], safety := { up.safety with patrolling := true, loadDue := true } }, by decide +kernel⟩,
   ⟨up, by decide +kernel⟩,
   ⟨up, host, (natLE 4 9), by decide +kernel⟩,
   ⟨up, by decide +kernel⟩⟩

theorem witness_FaultSourcesRiseAndFall :
    (∃ (s : State) (n : Nat), s.acts 7 = true ∧ reservedSource n = false ∧ s.fault.live.contains n = false ∧ ((s.reporting n = true ∨ (pulseSource n = true ∧ 0 < Sparse.get (fun _ => 0) s.fault.waiting n)))) ∧
    (∃ (s : State) (n : Nat), s.acts 7 = true ∧ reservedSource n = false ∧ s.fault.live.contains n = false ∧ ((s.reporting n = true ∨ (pulseSource n = true ∧ 0 < Sparse.get (fun _ => 0) s.fault.waiting n)))) ∧
    (∃ (s : State) (n : Nat), s.acts 7 = true ∧ reservedSource n = false ∧ s.fault.live.contains n = false ∧ ((s.reporting n = true ∨ (pulseSource n = true ∧ 0 < Sparse.get (fun _ => 0) s.fault.waiting n)))) ∧
    (∃ (s : State) (n : Nat), s.acts 7 = true ∧ ((reservedSource n = true ∨ s.fault.live.contains n = true ∨ (s.reporting n = false ∧ (pulseSource n = false ∨ Sparse.get (fun _ => 0) s.fault.waiting n = 0))))) ∧
    (∃ (s : State) (n : Nat), s.acts 7 = true ∧ ((reservedSource n = true ∨ s.fault.live.contains n = true ∨ (s.reporting n = false ∧ (pulseSource n = false ∨ Sparse.get (fun _ => 0) s.fault.waiting n = 0))))) ∧
    (∃ (s : State) (n : Nat), s.acts 7 = true ∧ ((reservedSource n = true ∨ s.fault.live.contains n = true ∨ (s.reporting n = false ∧ (pulseSource n = false ∨ Sparse.get (fun _ => 0) s.fault.waiting n = 0))))) ∧
    (∃ (s : State), s.acts 7 = true) ∧
    (∃ (s : State), s.acts 7 = true) ∧
    (∃ (s : State), s.acts 7 = true) ∧
    (∃ (s : State), s.acts 7 = true) :=
  ⟨⟨{ up with fault := { up.fault with waiting := [(20, 1)] } }, 20, by decide +kernel⟩,
   ⟨{ (up.setTab Obj.FAULT_REACTION 9 [3]) with fault := { up.fault with clockFault := true }, safety := { up.safety with chanA := { up.safety.chanA with permission := true, railen := true } } }, 9, by decide +kernel⟩,
   ⟨{ (up.setTab Obj.FAULT_REACTION 9 [0]) with fault := { up.fault with clockFault := true, latched := [9] } }, 9, by decide +kernel⟩,
   ⟨up, 20, by decide +kernel⟩,
   ⟨{ up with fault := { up.fault with waiting := [(20, 3)], live := [20], pulsing := [20] } }, 20, by decide +kernel⟩,
   ⟨up, 21, by decide +kernel⟩,
   ⟨{ up with fault := { up.fault with pulsing := [20], live := [20] } }, by decide +kernel⟩,
   ⟨up, by decide +kernel⟩,
   ⟨up, by decide +kernel⟩,
   ⟨{ up with fault := { up.fault with discrepant := [9], live := [9, 95] } }, by decide +kernel⟩⟩

theorem witness_FaultsAreClearedForcedAndGivenReactions :
    (∃ (s : State) (rq : Req) (data : Bytes), s.admitsWrite rq Obj.FAULT_CLEAR data = true) ∧
    (∃ (s : State) (rq : Req) (data : Bytes), s.admitsWrite rq Obj.FAULT_FORCE data = true) ∧
    (∃ (s : State) (rq : Req) (data : Bytes), s.admitsWrite rq Obj.FAULT_REACTION data = true) :=
  ⟨⟨{ up with fault := { up.fault with latched := [20, 9] } }, host, (natLE 12 (2 ^ 20)), by decide +kernel⟩,
   ⟨up, host, (natLE 12 (2 ^ 20)), by decide +kernel⟩,
   ⟨{ evOk with fault := { up.fault with latched := [20] } }, host, (List.replicate 96 3#8), by decide +kernel⟩⟩

theorem witness_FreezesAndTheJtagPort :
    (∃ (s : State), s.defined = true) ∧
    (∃ (s : State), s.defined = true) ∧
    (∃ (s : State), s.defined = true) ∧
    (∃ (s : State), s.defined = true) ∧
    (∃ (s : State), s.defined = true) ∧
    (∃ (s : State), s.device.phase ≠ .powerOnReset) ∧
    (∃ (s : State), s.device.phase ≠ .powerOnReset) ∧
    (∃ (s : State), s.device.phase = .powerOnReset) :=
  ⟨⟨(up.setFlag Obj.FREEZE_PIN_ENABLE true), by decide +kernel⟩,
   ⟨up, by decide +kernel⟩,
   ⟨up, by decide +kernel⟩,
   ⟨{ up with device := { up.device with frozen := true } }, by decide +kernel⟩,
   ⟨{ up with device := { up.device with phase := .powerOnReset } }, by decide +kernel⟩,
   ⟨up, by decide +kernel⟩,
   ⟨{ up with device := { up.device with frozen := true } }, by decide +kernel⟩,
   ⟨{ up with device := { up.device with phase := .powerOnReset } }, by decide +kernel⟩⟩

theorem witness_LevelsFollowTheRegulator :
    (∃ (s : State) (rq : Req) (data : Bytes) (l : Nat) (old : Nat), s.admitsWrite rq Obj.PERF_LEVEL data = true ∧ l = min (leNat data) 3 ∧ old = s.reg Obj.PERF_LEVEL_IN_FORCE) ∧
    (∃ (s : State) (rq : Req) (data : Bytes) (l : Nat) (old : Nat), s.admitsWrite rq Obj.PERF_LEVEL data = true ∧ l = min (leNat data) 3 ∧ old = s.reg Obj.PERF_LEVEL_IN_FORCE) ∧
    (∃ (s : State) (rq : Req) (data : Bytes) (l : Nat) (old : Nat), s.admitsWrite rq Obj.PERF_LEVEL data = true ∧ l = min (leNat data) 3 ∧ old = s.reg Obj.PERF_LEVEL_IN_FORCE) ∧
    (∃ (s : State) (rq : Req) (data : Bytes) (l : Nat) (old : Nat), s.admitsWrite rq Obj.PERF_LEVEL data = true ∧ l = min (leNat data) 3 ∧ old = s.reg Obj.PERF_LEVEL_IN_FORCE) ∧
    (∃ (s : State), s.acts 6 = true) ∧
    (∃ (s : State), s.acts 6 = true) ∧
    (∃ (s : State), s.acts 6 = true) ∧
    (∃ (s : State), s.acts 6 = true) ∧
    (∃ (s : State), s.acts 6 = true) ∧
    (∃ (s : State), s.acts 6 = true) ∧
    (∃ (s : State), s.acts 6 = true) ∧
    (∃ (s : State), s.acts 6 = true) ∧
    (∃ (s : State), s.acts 6 = true) ∧
    (∃ (s : State), s.acts 6 = true ∧ s.power.ratioRounds ≠ 0) ∧
    (∃ (s : State), s.acts 6 = true ∧ s.power.ratioRounds = 0) :=
  ⟨⟨up, host, (natLE 1 2), 2, 0, by decide +kernel⟩,
   ⟨(up.setReg Obj.PERF_LEVEL_IN_FORCE 3), host, (natLE 1 2), 2, 3, by decide +kernel⟩,
   ⟨((up.setReg Obj.PERF_LEVEL_IN_FORCE 3).setReg Obj.PERF_STATE 3), host, (natLE 1 9), 3, 3, by decide +kernel⟩,
   ⟨(up.setReg Obj.PERF_STATE 1), host, (natLE 1 9), 3, 0, by decide +kernel⟩,
   ⟨{ up with power := { up.power with avs := some (.lowering 3 0 800), marginDue := true } }, by decide +kernel⟩,
   ⟨{ up with power := { up.power with avs := some (.raising 1), storedLevel := some 0 } }, by decide +kernel⟩,
   ⟨{ up with power := { up.power with avs := some .margin } }, by decide +kernel⟩,
   ⟨up, by decide +kernel⟩,
   ⟨{ up with power := { up.power with avs := some (.raising 0), wasHeld := true } }, by decide +kernel⟩,
   ⟨{ up with power := { up.power with avs := some (.lowering 2 0 800) } }, by decide +kernel⟩,
   ⟨{ up with power := { up.power with avs := some (.lowering 2 0 800) } }, by decide +kernel⟩,
   ⟨{ up with power := { up.power with avs := some .plain } }, by decide +kernel⟩,
   ⟨up, by decide +kernel⟩,
   ⟨{ up with power := { up.power with ratioRounds := 1 } }, by decide +kernel⟩,
   ⟨up, by decide +kernel⟩⟩

theorem witness_TheThermalTripStopsAndRestarts :
    (∃ (s : State), s.acts 6 = true ∧ s.power.hkChannel = 0) ∧
    (∃ (s : State), s.acts 6 = true ∧ s.power.hkChannel = 1) ∧
    (∃ (s : State), s.acts 6 = true ∧ s.power.hkChannel = 1) ∧
    (∃ (s : State), s.acts 6 = true ∧ s.power.hkChannel = 1) ∧
    (∃ (s : State), s.acts 6 = true ∧ s.power.hkChannel = 1) ∧
    (∃ (s : State), s.acts 6 = true ∧ s.power.hkChannel = 1) ∧
    (∃ (s : State) (ch : Nat), s.acts 6 = true ∧ s.power.hkChannel = ch ∧ 2 ≤ ch ∧ ch ≤ 13) ∧
    (∃ (s : State) (ch : Nat), s.acts 6 = true ∧ s.power.hkChannel = ch ∧ 2 ≤ ch ∧ ch ≤ 13) ∧
    (∃ (s : State) (ch : Nat), s.acts 6 = true ∧ s.power.hkChannel = ch ∧ (((14 ≤ ch ∧ ch ≤ 20) ∨ (22 ≤ ch ∧ ch ≤ 30)))) ∧
    (∃ (s : State) (ch : Nat), s.acts 6 = true ∧ s.power.hkChannel = ch ∧ (((14 ≤ ch ∧ ch ≤ 20) ∨ (22 ≤ ch ∧ ch ≤ 30)))) ∧
    (∃ (s : State), s.acts 6 = true ∧ s.power.hkChannel = 21) ∧
    (∃ (s : State), s.acts 6 = true ∧ s.power.hkChannel = 31) ∧
    (∃ (s : State), s.acts 6 = true) ∧
    (∃ (s : State), s.acts 6 = true) ∧
    (∃ (s : State) (rq : Req) (data : Bytes), s.admitsWrite rq Obj.THERMAL_CLEAR data = true) ∧
    (∃ (s : State) (l : Nat), s.acts 6 = true ∧ s.power.tripped = true ∧ s.reg Obj.THERMAL_STATE = 3 ∧ l = min (s.reg Obj.PERF_LEVEL) 3) ∧
    (∃ (s : State), s.acts 6 = true ∧ ((s.power.tripped = false ∨ s.reg Obj.THERMAL_STATE ≠ 3))) :=
  ⟨⟨{ up with power := { up.power with clearArmed := true } }, by decide +kernel⟩,
   ⟨{ up with power := { up.power with hkChannel := 1 } }, by decide +kernel⟩,
   ⟨{ up.setTab Obj.HK_VALUES 0 (natLE 4 0x3E80) with power := { up.power with hkChannel := 1, hotRun := 1 } }, by decide +kernel⟩,
   ⟨{ up.setTab Obj.HK_VALUES 0 (natLE 4 0x4380) with power := { up.power with hkChannel := 1, hotRun := 1 } }, by decide +kernel⟩,
   ⟨{ up.setReg Obj.THERMAL_STATE 2 with power := { up.power with hkChannel := 1, tripped := true } }, by decide +kernel⟩,
   ⟨{ (up.setReg Obj.THERMAL_STATE 3).setReg Obj.HOVER_COUNT 9 with power := { up.power with hkChannel := 1, tripped := true } }, by decide +kernel⟩,
   ⟨{ up with power := { up.power with hkChannel := 13 } }, 13, by decide +kernel⟩,
   ⟨{ up with power := { up.power with hkChannel := 13, outRun := [(13, 1)] } }, 13, by decide +kernel⟩,
   ⟨{ up with power := { up.power with hkChannel := 22 } }, 22, by decide +kernel⟩,
   ⟨{ up with power := { up.power with hkChannel := 30 } }, 30, by decide +kernel⟩,
   ⟨{ up with power := { up.power with hkChannel := 21 } }, by decide +kernel⟩,
   ⟨{ up with power := { up.power with hkChannel := 31 } }, by decide +kernel⟩,
   ⟨{ up with power := { up.power with stopping := true, tripped := true } }, by decide +kernel⟩,
   ⟨up, by decide +kernel⟩,
   ⟨{ up.setReg Obj.THERMAL_STATE 1 with power := { up.power with tripped := true } }, host, (natLE 1 1), by decide +kernel⟩,
   ⟨{ up.setReg Obj.THERMAL_STATE 3 with power := { up.power with tripped := true } }, 0, by decide +kernel⟩,
   ⟨up, by decide +kernel⟩⟩

theorem witness_SleepIsEnteredAndLeft :
    (∃ (s : State) (rq : Req), s.admitsWrite rq Obj.SLEEP_REQUEST (natLE 1 1) = true ∧ s.evacDemand = false ∧ s.safety.evacActive = false ∧ s.reg Obj.SLEEP_STATE < 2 ∧ s.power.s1Wanted = false) ∧
    (∃ (s : State) (rq : Req), s.admitsWrite rq Obj.SLEEP_REQUEST (natLE 1 1) = true ∧ s.evacDemand = false ∧ s.safety.evacActive = false ∧ s.reg Obj.SLEEP_STATE < 2 ∧ s.power.s1Wanted = false) ∧
    (∃ (s : State) (rq : Req), s.admitsWrite rq Obj.SLEEP_REQUEST (natLE 1 1) = true ∧ s.evacDemand = false ∧ s.safety.evacActive = false ∧ s.reg Obj.SLEEP_STATE < 2 ∧ s.power.s1Wanted = false) ∧
    (∃ (s : State) (rq : Req), s.admitsWrite rq Obj.SLEEP_REQUEST (natLE 1 2) = true ∧ s.evacDemand = false ∧ s.safety.evacActive = false ∧ s.reg Obj.SLEEP_STATE < 2 ∧ s.power.s1Wanted = false) ∧
    (∃ (s : State) (rq : Req), s.admitsWrite rq Obj.SLEEP_REQUEST (natLE 1 2) = true ∧ s.evacDemand = false ∧ s.safety.evacActive = false ∧ s.reg Obj.SLEEP_STATE < 2 ∧ s.power.s1Wanted = false) ∧
    (∃ (s : State) (rq : Req), s.admitsWrite rq Obj.SLEEP_REQUEST (natLE 1 3) = true ∧ s.evacDemand = false ∧ s.safety.evacActive = false ∧ s.reg Obj.SLEEP_STATE < 2 ∧ s.power.s1Wanted = false) ∧
    (∃ (s : State) (rq : Req), ((s.evacDemand = true ∨ s.safety.evacActive = true ∨ 2 ≤ s.reg Obj.SLEEP_STATE ∨ s.power.s1Wanted = true)) ∧ s.admitsWrite rq Obj.SLEEP_REQUEST (natLE 1 1) = true ∧ s.admitsWrite rq Obj.SLEEP_REQUEST (natLE 1 2) = true ∧ s.admitsWrite rq Obj.SLEEP_REQUEST (natLE 1 3) = true) ∧
    (∃ (s : State) (rq : Req), s.admitsWrite rq Obj.SLEEP_REQUEST (natLE 1 0) = true) ∧
    (∃ (s : State) (n : Nat), s.defined = true ∧ s.device.frozen = false ∧ s.power.entering = some n) ∧
    (∃ (s : State) (n : Nat), s.defined = true ∧ s.device.frozen = false ∧ s.power.entering = some n) ∧
    (∃ (s : State), s.defined = true ∧ s.power.entering = none) ∧
    (∃ (s : State), s.canWake = true ∧ s.wakeEnabled 7 = true ∧ s.reg Obj.WAKE_TIMER ≠ 0) ∧
    (∃ (s : State), s.canWake = true ∧ s.reg Obj.WAKE_TIMER = 0) ∧
    (∃ (s : State), s.canWake = true) ∧
    (∃ (s : State), s.canWake = true) ∧
    (∃ (s : State), s.canWake = true) ∧
    (∃ (s : State), s.canWake = true) ∧
    (∃ (s : State), s.defined = true ∧ s.canWake = false) ∧
    (∃ (s : State) (n : Nat), s.defined = true ∧ s.device.frozen = false ∧ s.device.phase = .asleep ∧ s.power.wakes ≠ [] ∧ s.power.asleep = some n) ∧
    (∃ (s : State), s.defined = true ∧ ((s.device.phase ≠ .asleep ∨ s.power.wakes = []))) :=
  ⟨⟨up, host, by decide +kernel⟩,
   ⟨(up.setReg Obj.SCAN_STATE 2), host, by decide +kernel⟩,
   ⟨{ up with power := { up.power with inS1 := true } }, host, by decide +kernel⟩,
   ⟨up, host, by decide +kernel⟩,
   ⟨{ (up.setReg Obj.MEM_STATE 2).setReg Obj.SCAN_STATE 2 with mem := [(0,1)] }, host, by decide +kernel⟩,
   ⟨up, host, by decide +kernel⟩,
   ⟨{ up with power := { up.power with s1Wanted := true } }, host, by decide +kernel⟩,
   ⟨{ up with power := { up.power with inS1 := true } }, host, by decide +kernel⟩,
   ⟨{ up with power := { up.power with entering := some 3, wakes := [3] } }, 3, by decide +kernel⟩,
   ⟨{ up with power := { up.power with entering := some 2, wakes := [3] }, mem := [(0,1)], beacon := [(0,1)] }, 2, by decide +kernel⟩,
   ⟨up, by decide +kernel⟩,
   ⟨{ (up.setReg Obj.WAKE_ENABLE 0x1FF).setReg Obj.WAKE_TIMER 5 with power := { up.power with asleep := some 2 }, device := { up.device with phase := .asleep } }, by decide +kernel⟩,
   ⟨{ up.setReg Obj.WAKE_ENABLE 0 with power := { up.power with s1Wanted := true, blankStood := true } }, by decide +kernel⟩,
   ⟨{ (up.setReg Obj.WAKE_ENABLE 0x1FF).setReg Obj.WAKE_TIMER 5 with power := { up.power with asleep := some 2 }, device := { up.device with phase := .asleep } }, by decide +kernel⟩,
   ⟨{ (up.setReg Obj.WAKE_ENABLE 0x1FF).setReg Obj.WAKE_TIMER 5 with power := { up.power with asleep := some 2 }, device := { up.device with phase := .asleep } }, by decide +kernel⟩,
   ⟨{ (up.setReg Obj.WAKE_ENABLE 0x1FF).setReg Obj.WAKE_TIMER 5 with power := { up.power with asleep := some 2 }, device := { up.device with phase := .asleep, islands := [(0, .off)] } }, by decide +kernel⟩,
   ⟨{ (up.setReg Obj.WAKE_ENABLE 0x1FF) with power := { up.power with asleep := some 2 }, device := { up.device with phase := .asleep, islands := [(0, .off)] } }, by decide +kernel⟩,
   ⟨{ up with device := { up.device with frozen := true } }, by decide +kernel⟩,
   ⟨{ up with power := { up.power with asleep := some 3, wakes := [4, 3] }, device := { up.device with phase := .asleep } }, 3, by decide +kernel⟩,
   ⟨up, by decide +kernel⟩⟩

theorem witness_ResetsAndTheReleaseSequence :
    (∃ (s : State), s.device.phase = .powerOnReset) ∧
    (∃ (s : State), s.defined = true ∧ s.device.frozen = false ∧ s.device.phase = .waitXtal) ∧
    (∃ (s : State), s.defined = true ∧ s.device.frozen = false ∧ s.device.phase ≠ .waitXtal) ∧
    (∃ (s : State), s.defined = true ∧ s.device.frozen = false ∧ s.device.phase ≠ .waitXtal) ∧
    (∃ (s : State), s.defined = true ∧ s.device.frozen = false ∧ s.device.phase = .waitCore) ∧
    (∃ (s : State), s.defined = true ∧ s.device.frozen = false ∧ s.device.phase = .waitCore) ∧
    (∃ (s : State), s.acts 6 = true ∧ s.device.phase = .waitFirmware) ∧
    (∃ (s : State), s.acts 6 = true ∧ s.device.phase = .waitFirmware) ∧
    (∃ (s : State), s.defined = true ∧ s.device.frozen = false ∧ s.device.phase ≠ .waitCore) ∧
    (∃ (s : State), s.defined = true ∧ s.device.phase ≠ .waitFirmware) ∧
    (∃ (s : State), s.device.phase ≠ .powerOnReset ∧ s.device.phase ≠ .resetHeld) ∧
    (∃ (s : State), s.device.phase ≠ .powerOnReset ∧ s.device.phase ≠ .resetHeld) ∧
    (∃ (s : State), s.device.phase ≠ .powerOnReset ∧ s.device.phase ≠ .resetHeld) ∧
    (∃ (s : State), ((s.device.phase = .powerOnReset ∨ s.device.phase = .resetHeld))) ∧
    (∃ (s : State), s.device.phase = .resetHeld) ∧
    (∃ (s : State), s.device.phase = .resetHeld) ∧
    (∃ (s : State), s.device.phase = .resetHeld) ∧
    (∃ (s : State), s.device.phase ≠ .resetHeld) ∧
    (∃ (s : State), s.defined = true ∧ s.device.frozen = false) ∧
    (∃ (s : State), s.defined = true ∧ s.device.frozen = false) ∧
    (∃ (s : State), s.defined = true ∧ s.device.frozen = false ∧ s.device.phase = .brownOut) ∧
    (∃ (s : State), s.defined = true ∧ s.device.frozen = false ∧ s.device.phase ≠ .brownOut) :=
  ⟨⟨State.reset, by decide +kernel⟩,
   ⟨{ State.reset with device := { State.reset.device with phase := .waitXtal } }, by decide +kernel⟩,
   ⟨{ up with device := { up.device with internalOsc := true } }, by decide +kernel⟩,
   ⟨up, by decide +kernel⟩,
   ⟨{ State.reset with device := { State.reset.device with phase := .waitCore, resetCause := 3, longHold := some 9000 }, fault := { State.reset.fault with held := [9] } }, by decide +kernel⟩,
   ⟨{ State.reset with device := { State.reset.device with phase := .waitCore }, power := { State.reset.power with leaving := some 3 } }, by decide +kernel⟩,
   ⟨{ up with device := { up.device with phase := .waitFirmware } }, by decide +kernel⟩,
   ⟨{ up.setReg Obj.STRAPS 2 with device := { up.device with phase := .waitFirmware } }, by decide +kernel⟩,
   ⟨up, by decide +kernel⟩,
   ⟨up, by decide +kernel⟩,
   ⟨up, by decide +kernel⟩,
   ⟨up, by decide +kernel⟩,
   ⟨up, by decide +kernel⟩,
   ⟨{ up with device := { up.device with phase := .resetHeld } }, by decide +kernel⟩,
   ⟨{ State.reset with device := { State.reset.device with phase := .resetHeld, frozen := true, extest := true, longHold := some 9000 } }, by decide +kernel⟩,
   ⟨{ State.reset with device := { State.reset.device with phase := .resetHeld } }, by decide +kernel⟩,
   ⟨{ State.reset with device := { State.reset.device with phase := .resetHeld } }, by decide +kernel⟩,
   ⟨up, by decide +kernel⟩,
   ⟨up, by decide +kernel⟩,
   ⟨{ up with device := { up.device with phase := .waitCore } }, by decide +kernel⟩,
   ⟨{ State.reset with device := { State.reset.device with phase := .brownOut } }, by decide +kernel⟩,
   ⟨up, by decide +kernel⟩⟩

/-! ### Witnesses written by hand -/

theorem witness_StepRunsTheFrontCommand :
    ∃ (c : Instr) (rest : List Instr) (s : State), s.pending = c :: rest :=
  ⟨.beaconPatrol, [.catchIssue], { up with pending := [.beaconPatrol, .catchIssue] }, rfl⟩

theorem witness_FrozenDeviceIgnoresCommands :
    (∃ (c : Instr) (s : State), s.device.frozen = true ∧ s.device.extest = false ∧ alwaysActs c = false) ∧
    (∃ s : State, s.device.frozen = true ∧ s.pending = []) :=
  ⟨⟨.catchIssue, { up with device := { up.device with frozen := true } }, by decide +kernel⟩,
   ⟨{ up with device := { up.device with frozen := true } }, by decide +kernel⟩⟩

theorem witness_ExtestLeavesStateUndefined :
    (∃ (c : Instr) (s : State), s.device.extest = true ∧ alwaysActs c = false) ∧
    (∃ (c : Instr) (s : State), s.device.extest = false ∧ alwaysActs c = false) ∧
    (∃ (c : Instr) (s : State), s.device.extest = true ∧ alwaysActs c = true) :=
  ⟨⟨.catchIssue, { up with device := { up.device with extest := true } }, by decide +kernel⟩,
   ⟨.catchIssue, up, by decide +kernel⟩,
   ⟨.jtagIdcode, { up with device := { up.device with extest := true } }, by decide +kernel⟩⟩

theorem witness_CounterClearsClearTheirCounters :
    ∀ o ∈ [Obj.SRAM_COUNTERS_CLEAR, Obj.PIPELINE_COUNTERS_CLEAR, Obj.LAYER_COUNTERS_CLEAR, Obj.SCAN_COUNTERS_CLEAR,
      Obj.RAIL_COUNTERS_CLEAR, Obj.TIME_COUNTERS_CLEAR, Obj.LINK_COUNTERS_CLEAR, Obj.TRAFFIC_COUNTERS_CLEAR,
      Obj.MEM_COUNTERS_CLEAR, Obj.FAULT_COUNTERS_CLEAR], up.admitsWrite host o (blank o) = true := by
  decide +kernel

/-- L7 is locked. -/
def locked : State := { up with layers := { up.layers with l7Locked := true } }

/-- A READ of an object, as the request of `copRead`. -/
def readOf (o : Nat) : Request :=
  { rq := host, opcode := 1, obj := o, seg := { isFirst := false, isLast := false, offset := 0 }, snapshot := false, data := [] }

theorem witness_AccessChecksTurnRequestsAway :
    (∃ (c : Instr) (q : Request) (s : State), requestOf c = some q ∧ q.opcode ≤ 2 ∧ s.hears q = true ∧
      s.findObj q.obj = none) ∧
    (∃ (c : Instr) (q : Request) (s : State) (r : ObjRow), requestOf c = some q ∧ s.hears q = true ∧
      s.findObj q.obj = some r ∧ q.opcode = 2 ∧ rightsDue r q = true ∧ s.layers.l7Locked = true ∧ closedByLock q.obj = true) ∧
    (∃ (c : Instr) (q : Request) (s : State) (r : ObjRow), requestOf c = some q ∧ s.hears q = true ∧
      s.findObj q.obj = some r ∧ q.opcode = 2 ∧ rightsDue r q = true ∧ (s.layers.l7Locked = false ∨ closedByLock q.obj = false) ∧ r.access = .ro) ∧
    (∃ (c : Instr) (q : Request) (s : State) (r : ObjRow), requestOf c = some q ∧ s.hears q = true ∧
      s.findObj q.obj = some r ∧ q.opcode = 2 ∧ rightsDue r q = true ∧ (s.layers.l7Locked = false ∨ closedByLock q.obj = false) ∧
      r.access ≠ .ro ∧ q.rq.role < r.role) ∧
    (∃ (c : Instr) (q : Request) (s : State) (r : ObjRow), requestOf c = some q ∧ s.hears q = true ∧
      s.findObj q.obj = some r ∧ q.opcode = 1 ∧ (r.access = .wo ∨ r.access = .cmd)) ∧
    (∃ (c : Instr) (q : Request) (s : State) (r : ObjRow), requestOf c = some q ∧ s.hears q = true ∧
      s.findObj q.obj = some r ∧ q.opcode = 2 ∧ s.writeAbort r q.obj q.rq.role = 0 ∧
      s.reach r q.obj = .asleep) ∧
    (∃ (c : Instr) (q : Request) (s : State) (r : ObjRow), requestOf c = some q ∧ s.hears q = true ∧
      s.findObj q.obj = some r ∧ q.opcode = 2 ∧ s.writeAbort r q.obj q.rq.role = 0 ∧
      s.reach r q.obj = .hold 1) ∧
    (∃ (c : Instr) (q : Request) (s : State) (r : ObjRow), requestOf c = some q ∧ s.hears q = true ∧
      s.findObj q.obj = some r ∧ q.opcode = 2 ∧ s.writeAbort r q.obj q.rq.role = 0 ∧
      s.reach r q.obj = .ready ∧ s.comesWhole r q = true ∧ s.barred r q.obj = true) ∧
    (∃ (c : Instr) (q : Request) (s : State) (r : ObjRow), requestOf c = some q ∧ s.hears q = true ∧
      s.findObj q.obj = some r ∧ q.opcode = 2 ∧ s.writeAbort r q.obj q.rq.role = 0 ∧
      s.reach r q.obj = .ready ∧ s.comesWhole r q = true ∧ s.barred r q.obj = false ∧ lengthOk r q.data.length = false) :=
  ⟨⟨.copRead host 0xFFFF 0 0 false, readOf 0xFFFF00, up, by decide +kernel⟩,
   ⟨.copWrite host 0x3417 3 seg1 [], wholeWrite host (Obj.LAYER_ENABLE 7) [], locked, row (Obj.LAYER_ENABLE 7), by decide +kernel⟩,
   ⟨.copWrite host 0x1100 3 seg1 [], wholeWrite host 0x110003 [], up, row 0x110003, by decide +kernel⟩,
   ⟨.scanStart { host with role := 0 } [], wholeWrite { host with role := 0 } Obj.SCAN_START [], up, row Obj.SCAN_START,
    by decide +kernel⟩,
   ⟨.copRead host 0x3800 1 0 false, readOf 0x380001, up, row 0x380001, by decide +kernel⟩,
   ⟨.scanStart host [], wholeWrite host Obj.SCAN_START [], up.setIsland 4 .off, row Obj.SCAN_START, by decide +kernel⟩,
   ⟨.thermalReset host [], wholeWrite host Obj.THERMAL_RESET [], (up.setIsland 1 .gated).setReg Obj.WAKE_ON_ACCESS 2, row Obj.THERMAL_RESET,
    by decide +kernel⟩,
   ⟨.copWrite host 0x3800 4 seg1 (natLE 4 1), wholeWrite host 0x380004 (natLE 4 1), up.setReg Obj.SCAN_STATE 2,
    row 0x380004, by decide +kernel⟩,
   ⟨.perfLevelWrite host [], wholeWrite host Obj.PERF_LEVEL [], up, row Obj.PERF_LEVEL, by decide +kernel⟩⟩

/-! ### Single steps, worked out from the manual -/

/-- The state after one command, or the reset state where it does not answer one. -/
def after (c : Instr) (s : State) : State :=
  match exec c s with
  | .next t => t
  | .fault _ => State.reset
  | .refused _ => State.reset

/-- The check value of CRC-32 over the nine digits (03 R68: IEEE 802.3). -/
theorem test_crc32Digits :
    crc32 [0x31#8, 0x32#8, 0x33#8, 0x34#8, 0x35#8, 0x36#8, 0x37#8, 0x38#8, 0x39#8] = 0xCBF43926 := by decide +kernel

/-- Handle of layer 3 at its first creation: class 0x10, generation 1, number 3 (04 R89). -/
theorem test_layerHandle :
    ((after (.layerCreate host (natLE 4 3)) up).reg (Obj.LAYER_HANDLE 3)) = 0x10001003 := by decide +kernel

/-- Two channels of 8 GiB: 16 GiB installed, seven eighths usable (11 R269, R270). -/
theorem test_memorySizes :
    let t := after (.memStartComplete 8 8 true) (up.setReg Obj.MEM_STATE 1)
    t.reg Obj.MEM_INSTALLED_BYTES = 0x400000000 ∧ t.reg Obj.MEM_USABLE_BYTES = 0x380000000 := by decide +kernel

/-- MEM_START leads to TRAINING (11 R270). -/
theorem test_memStart : (after (.memStart host (blank Obj.MEM_START)) up).reg Obj.MEM_STATE = 1 := by decide +kernel

/-- A safe-blank demand in one channel withdraws that channel's permission only (12 R297, R298). -/
theorem test_safeBlank :
    let t := after (.safetyInputRecognised .b .safeBlankA true) released
    (t.chan .b).permission = false ∧ t.reg Obj.SAFE_BLANK_DEMANDS = 1 := by decide +kernel

/-- FREEZE_N is ignored while FREEZE_PIN_ENABLE is 0 (13 R335). -/
theorem test_freezeDisabled : (after .freezePin (up.setFlag Obj.FREEZE_PIN_ENABLE false)).device.frozen = false := by
  decide +kernel

/-- The JTAG instruction freezes whatever FREEZE_PIN_ENABLE holds (13 R335). -/
theorem test_jtagFreezes : (after .jtagFreeze (up.setFlag Obj.FREEZE_PIN_ENABLE false)).device.frozen = true := by
  decide +kernel

/-- A signal newer than the timeline is taken across the wrap of 32 bits (04 R101). -/
theorem test_fenceWraps :
    ((after (.fencePacketRx .a)
      (got .a (fen 15 2) ((bothUp.setReg Obj.SOURCE_PORT 0).setFence 15 { value := 0xFFFFFFFF }))).fence 15).value = 2 := by decide +kernel

/-- A packet at 64 hops is dropped, not forwarded (10 R250). -/
theorem test_hopLimit :
    let t := after (.packetForward .a) (got .a { pk 0x7F 0x40 (natLE 20 0) [] with hops := 64 } bothUp)
    t.reg (Obj.PKT_FORWARD_DROPS 0) = 1 ∧ t.reg (Obj.PKT_FORWARDED 0) = 0 := by decide +kernel

/-- RING_CREATE of a device's ring is denied with the counters of an abort (11 R277). -/
theorem test_deviceRing :
    let t := after (.ringCreate host (natLE 4 7)) up
    t.reg Obj.COP_ABORTS = 1 ∧ t.ringState 7 = up.ringState 7 := by decide +kernel

/-- RAIL_START skips a rail of an unused group and records it (07 R180, R199). -/
theorem test_railSkipped : (after (.railStart host (natLE 8 1)) up).reg Obj.START_SKIPPED = 1 := by decide +kernel

/-- RING_HALT of an idle ring halts it (11 R286). -/
theorem test_haltIdle : (after (.ringHalt host (natLE 4 0x20001008)) (ringUp 1)).ringState 8 = 3 := by decide +kernel

/-- The worked chase: 480 pixels a second at frame 244 of 240 fps give 488 pixels, so the bars begin at 8 (04 R117). -/
theorem test_sailChase :
    let s := ((up.setReg (Obj.SAIL_SPEED 1) 0x1E000).setReg (Obj.SAIL_BAR_WIDTH 1) 8).setReg (Obj.SAIL_BAR_SPACING 1) 32
    let e := s.sail 1 (244 * 10 ^ 9 * 2 ^ 32 / 240)
    e.dist = 488 ∧ (List.range 32).filter (e.onBar · 0) = [8, 9, 10, 11, 12, 13, 14, 15] := by decide +kernel

/-- The worked breathing: 1.25 s into a period of 4 s the envelope is 45 307 and green 22 654 (04 R116). -/
theorem test_sailBreathes :
    let s := ((up.setReg (Obj.SAIL_MODE 0) 2).setReg (Obj.SAIL_PERIOD 0) 4000).setTab (Obj.SAIL_COLOUR_A 0) 0
      (natLE 4 0 ++ natLE 4 0x8000 ++ natLE 4 0)
    let e := s.sail 0 (1250000000 * 2 ^ 32)
    e.envelope = 45307 ∧ (e.pixel 0 0).1 = [0, 22654, 0] := by decide +kernel

/-! ### Well-formedness: each check refuses an ill-formed command beside a well-formed one -/

/-- Node registers of an enumeration reply. -/
def reply0 : EnumReply :=
  { nodeType := 0, vendor := 0, part := 0, revision := 0, dsRepeat := 0, outDelay := 0, turnaround := 0 }

/-- Pairs of a well-formed and an ill-formed command. -/
def pairs1 : List (Instr × Instr) :=
  [(.copRead host 1 1 1 true, .copRead { host with role := 4 } 1 1 1 true),
   (.copRead host 65535 1 1 true, .copRead host 65536 1 1 true),
   (.copRead host 1 255 1 true, .copRead host 1 256 1 true),
   (.copRead host 1 1 4294967295 true, .copRead host 1 1 4294967296 true),
   (.copWrite host 1 1 seg1 [], .copWrite { host with role := 4 } 1 1 seg1 []),
   (.copWrite host 65535 1 seg1 [], .copWrite host 65536 1 seg1 []),
   (.copWrite host 1 255 seg1 [], .copWrite host 1 256 seg1 []),
   (.copWrite host 1 1 seg1 [], .copWrite host 1 1 { seg1 with offset := 4294967296 } []),
   (.copStage host 1 1 seg1 [], .copStage { host with role := 4 } 1 1 seg1 []),
   (.copStage host 65535 1 seg1 [], .copStage host 65536 1 seg1 []),
   (.copStage host 1 255 seg1 [], .copStage host 1 256 seg1 []),
   (.copStage host 1 1 seg1 [], .copStage host 1 1 { seg1 with offset := 4294967296 } []),
   (.copCommit host none, .copCommit { host with role := 4 } none),
   (.copCommit host none, .copCommit host (some ⟨0, 4294967296⟩)),
   (.copAbandon host, .copAbandon { host with role := 4 }),
   (.roleLockExpiry 3, .roleLockExpiry 4),
   (.keyWrite host 1 [], .keyWrite { host with role := 4 } 1 []),
   (.keyWrite host 3 [], .keyWrite host 4 []),
   (.t1sConfigWrite host 1 [], .t1sConfigWrite { host with role := 4 } 1 []),
   (.t1sConfigWrite host 255 [], .t1sConfigWrite host 256 []),
   (.crossingTimeout .catchTime, .crossingTimeout (.strokeLoad 32)),
   (.lateAcknowledge 1 true, .lateAcknowledge 0 true),
   (.lateAcknowledge 11 true, .lateAcknowledge 12 true),
   (.islandClockRunning 8, .islandClockRunning 9),
   (.wakeHoldExpiry 8, .wakeHoldExpiry 9),
   (.gateAcknowledge 8, .gateAcknowledge 9),
   (.sramCountersClear host [], .sramCountersClear { host with role := 4 } []),
   (.pipelineRowCompute [.calMissing 2047], .pipelineRowCompute [.doseMissing 0 3]),
   (.ingestProfileWrite host 1 1 [], .ingestProfileWrite { host with role := 4 } 1 1 []),
   (.ingestProfileWrite host 3 1 [], .ingestProfileWrite host 4 1 []),
   (.ingestProfileWrite host 1 255 [], .ingestProfileWrite host 1 256 []),
   (.targetPrimariesWrite host [], .targetPrimariesWrite { host with role := 4 } []),
   (.ingestRecomputeComplete 3, .ingestRecomputeComplete 4)]

theorem test_wf1 : (pairs1.all fun p => p.1.wf && !p.2.wf) = true := by decide +kernel

/-- Pairs of a well-formed and an ill-formed command. -/
def pairs2 : List (Instr × Instr) :=
  [(.thermalReset host [], .thermalReset { host with role := 4 } []),
   (.pipelineCountersClear host [], .pipelineCountersClear { host with role := 4 } []),
   (.xMapFill host [], .xMapFill { host with role := 4 } []),
   (.layerCreate host [], .layerCreate { host with role := 4 } []),
   (.layerDestroy host [], .layerDestroy { host with role := 4 } []),
   (.layerSubmit host [], .layerSubmit { host with role := 4 } []),
   (.fenceSignal host [], .fenceSignal { host with role := 4 } []),
   (.l7Arm host [], .l7Arm { host with role := 4 } []),
   (.l7Disarm host [], .l7Disarm { host with role := 4 } []),
   (.layerCountersClear host [], .layerCountersClear { host with role := 4 } []),
   (.scanStart host [], .scanStart { host with role := 4 } []),
   (.bandAlignTimeout 31, .bandAlignTimeout 32),
   (.enumReplyRx 31 reply0 .good, .enumReplyRx 32 reply0 .good),
   (.enumReplyRx 1 reply0 .good, .enumReplyRx 1 { reply0 with vendor := 65536 } .good),
   (.enumReplyTimeout 31, .enumReplyTimeout 32),
   (.markerRx 31 1 1, .markerRx 32 1 1),
   (.markerRx 1 63 1, .markerRx 1 64 1),
   (.regDataRx 31 1 1 1 .good, .regDataRx 32 1 1 1 .good),
   (.regDataRx 1 63 1 1 .good, .regDataRx 1 64 1 1 .good),
   (.regDataRx 1 1 255 1 .good, .regDataRx 1 1 256 1 .good),
   (.regDataRx 1 1 1 65535 .good, .regDataRx 1 1 1 65536 .good),
   (.timingSymbolSend 31, .timingSymbolSend 32),
   (.sliceRowSend 31 1 1 [], .sliceRowSend 32 1 1 []),
   (.sliceRowSend 1 63 1 [], .sliceRowSend 1 64 1 []),
   (.sliceStatusRx 31 1 1 1 .good, .sliceStatusRx 32 1 1 1 .good),
   (.sliceStatusRx 1 63 1 1 .good, .sliceStatusRx 1 64 1 1 .good),
   (.sliceStatusRx 1 1 255 1 .good, .sliceStatusRx 1 1 256 1 .good),
   (.sliceStatusRx 1 1 1 4294967295 .good, .sliceStatusRx 1 1 1 4294967296 .good),
   (.nodeSettingsSend 31, .nodeSettingsSend 32),
   (.headroomReportRx 31 (rep true), .headroomReportRx 32 (rep true)),
   (.headroomReportRx 1 (rep true), .headroomReportRx 1 { rep true with stroke := 256 }),
   (.headroomAcceptDeadline 31, .headroomAcceptDeadline 32),
   (.probePacketRx 31 1 prb, .probePacketRx 32 1 prb)]

theorem test_wf2 : (pairs2.all fun p => p.1.wf && !p.2.wf) = true := by decide +kernel

/-- Pairs of a well-formed and an ill-formed command. -/
def pairs3 : List (Instr × Instr) :=
  [(.probePacketRx 1 63 prb, .probePacketRx 1 64 prb),
   (.probePacketRx 1 1 prb, .probePacketRx 1 1 { prb with seq := 256 }),
   (.scanStop host [], .scanStop { host with role := 4 } []),
   (.scanCountersClear host [], .scanCountersClear { host with role := 4 } []),
   (.vfSample 3145727 1 true, .vfSample 3145728 1 true),
   (.vfSample 1 4095 true, .vfSample 1 4096 true),
   (.calWriteback 3145727 true, .calWriteback 3145728 true),
   (.defectAdd host [], .defectAdd { host with role := 4 } []),
   (.defectClear host [], .defectClear { host with role := 4 } []),
   (.defectClearAll host [], .defectClearAll { host with role := 4 } []),
   (.defectTableWrite host [], .defectTableWrite { host with role := 4 } []),
   (.vfRefReset host [], .vfRefReset { host with role := 4 } []),
   (.railStart host [], .railStart { host with role := 4 } []),
   (.railStop host [], .railStop { host with role := 4 } []),
   (.railClear host [], .railClear { host with role := 4 } []),
   (.coefCommit host [], .coefCommit { host with role := 4 } []),
   (.railModeWrite host 1 [], .railModeWrite { host with role := 4 } 1 []),
   (.railModeWrite host 47 [], .railModeWrite host 48 []),
   (.railFastSample 47 1 1, .railFastSample 48 1 1),
   (.railFastSample 1 4095 1, .railFastSample 1 4096 1),
   (.railFastSample 1 1 4095, .railFastSample 1 1 4096),
   (.engineJobComplete 47 .fast, .engineJobComplete 48 .fast),
   (.jobOverrun 47 .fast, .jobOverrun 48 .fast),
   (.ffPredictionRx 31 1, .ffPredictionRx 32 1),
   (.ffPredictionRx 1 31, .ffPredictionRx 1 32),
   (.feedbackLossDetect 47, .feedbackLossDetect 48),
   (.holdRecovery 47, .holdRecovery 48),
   (.holdTimeout 47, .holdTimeout 48),
   (.overVoltage 47, .overVoltage 48),
   (.overCurrentTrip 47, .overCurrentTrip 48),
   (.railStartTimeout 47, .railStartTimeout 48),
   (.rampDownEnd 47, .rampDownEnd 48),
   (.headroomSafe 47, .headroomSafe 48)]

theorem test_wf3 : (pairs3.all fun p => p.1.wf && !p.2.wf) = true := by decide +kernel

/-- Pairs of a well-formed and an ill-formed command. -/
def pairs4 : List (Instr × Instr) :=
  [(.headroomResume 47, .headroomResume 48),
   (.adcCalibrationDone .current 65535 1, .adcCalibrationDone .current 65536 1),
   (.adcCalibrationDone .current 1 65535, .adcCalibrationDone .current 1 65536),
   (.adcTrimsWrite host [], .adcTrimsWrite { host with role := 4 } []),
   (.railCountersClear host [], .railCountersClear { host with role := 4 } []),
   (.delayReqRx .a 4294967295, .delayReqRx .a 4294967296),
   (.ptpMessageRx (msgOf (.sync none)), .ptpMessageRx { msgOf (.sync none) with domain := 256 }),
   (.ptpTxTimestamp 65535 1, .ptpTxTimestamp 65536 1),
   (.ptpTxTimestamp 1 15, .ptpTxTimestamp 1 16),
   (.ptpTxqPop host, .ptpTxqPop { host with role := 4 }),
   (.domSet host .a [], .domSet { host with role := 4 } .a []),
   (.domAdjust host .a [], .domAdjust { host with role := 4 } .a []),
   (.domSourceWrite host .a [], .domSourceWrite { host with role := 4 } .a []),
   (.activeDomainWrite host [], .activeDomainWrite { host with role := 4 } []),
   (.timeCountersClear host [], .timeCountersClear { host with role := 4 } []),
   (.linkPortEnableWrite host [], .linkPortEnableWrite { host with role := 4 } []),
   (.linkRetrain host [], .linkRetrain { host with role := 4 } []),
   (.portTestEnter host .a [], .portTestEnter { host with role := 4 } .a []),
   (.portTestExit host .a [], .portTestExit { host with role := 4 } .a []),
   (.signalDetect .a 1, .signalDetect .a 2),
   (.lossOfSignal .a 1, .lossOfSignal .a 2),
   (.markerLock .a (List.replicate 32 3) (List.replicate 32 3) 0, .markerLock .a (4 :: List.replicate 31 3) (List.replicate 32 3) 0),
   (.markerLock .a (List.replicate 32 3) (List.replicate 32 3) 0, .markerLock .a (List.replicate 32 3) (4 :: List.replicate 31 3) 0),
   (.trainingControlWordRx .a 1 1, .trainingControlWordRx .a 2 1),
   (.trainingControlWordRx .a 1 18446744073709551615, .trainingControlWordRx .a 1 18446744073709551616),
   (.alignmentCodewordRx .a (List.replicate 1360 3) (List.replicate 1360 3), .alignmentCodewordRx .a (4 :: List.replicate 1359 3) (List.replicate 1360 3)),
   (.alignmentCodewordRx .a (List.replicate 1360 3) (List.replicate 1360 3), .alignmentCodewordRx .a (List.replicate 1360 3) (4 :: List.replicate 1359 3)),
   (.fecCodewordRx .a (List.replicate 1360 3) (List.replicate 1360 3) 0 .none, .fecCodewordRx .a (4 :: List.replicate 1359 3) (List.replicate 1360 3) 0 .none),
   (.fecCodewordRx .a (List.replicate 1360 3) (List.replicate 1360 3) 0 .none, .fecCodewordRx .a (List.replicate 1360 3) (4 :: List.replicate 1359 3) 0 .none),
   (.fecCodewordRx .a (List.replicate 1360 3) (List.replicate 1360 3) 0 .none, .fecCodewordRx .a (List.replicate 1360 3) (List.replicate 1360 3) 0 (.corrected 161)),
   (.linkCountersClear host [], .linkCountersClear { host with role := 4 } []),
   (.wakeSend host [], .wakeSend { host with role := 4 } []),
   (.trafficCountersClear host [], .trafficCountersClear { host with role := 4 } [])]

theorem test_wf4 : (pairs4.all fun p => p.1.wf && !p.2.wf) = true := by decide +kernel

/-- Pairs of a well-formed and an ill-formed command. -/
def pairs5 : List (Instr × Instr) :=
  [(.memStart host [], .memStart { host with role := 4 } []),
   (.memStartComplete 255 1 true, .memStartComplete 256 1 true),
   (.memStartComplete 1 255 true, .memStartComplete 1 256 true),
   (.ringCreate host [], .ringCreate { host with role := 4 } []),
   (.ringDestroy host [], .ringDestroy { host with role := 4 } []),
   (.ringHalt host [], .ringHalt { host with role := 4 } []),
   (.ringResume host [], .ringResume { host with role := 4 } []),
   (.ringTailWrite host 1 [], .ringTailWrite { host with role := 4 } 1 []),
   (.ringTailWrite host 63 [], .ringTailWrite host 64 []),
   (.ringFifoWrite host 1 [], .ringFifoWrite { host with role := 4 } 1 []),
   (.ringFifoWrite host 63 [], .ringFifoWrite host 64 []),
   (.ringFifoRead host 1, .ringFifoRead { host with role := 4 } 1),
   (.ringFifoRead host 63, .ringFifoRead host 64),
   (.regionEntryWrite host [], .regionEntryWrite { host with role := 4 } []),
   (.descriptorFetch 63 .none .none, .descriptorFetch 64 .none .none),
   (.descriptorFetch 1 .none .none, .descriptorFetch 1 (.corrected 65 0) .none),
   (.descriptorFetch 1 .none .none, .descriptorFetch 1 .none (.corrected 65 0)),
   (.burstIssue [], .burstIssue [{ ring := 8, address := 0, bytes := 1, write := true }]),
   (.burstComplete 63 .none .none, .burstComplete 64 .none .none),
   (.burstComplete 1 .none .none, .burstComplete 1 (.corrected 65 0) .none),
   (.burstComplete 1 .none .none, .burstComplete 1 .none (.corrected 65 0)),
   (.memResponseTimeout 63 .none, .memResponseTimeout 64 .none),
   (.memResponseTimeout 1 .none, .memResponseTimeout 1 (.corrected 65 0)),
   (.fifoTimeout 63 .none, .fifoTimeout 64 .none),
   (.fifoTimeout 1 .none, .fifoTimeout 1 (.corrected 65 0)),
   (.memCountersClear host [], .memCountersClear { host with role := 4 } []),
   (.evacImageSave host [], .evacImageSave { host with role := 4 } []),
   (.safetyTripClear host [], .safetyTripClear { host with role := 4 } []),
   (.ambientLuxWrite host [], .ambientLuxWrite { host with role := 4 } []),
   (.faultSourceRise 95, .faultSourceRise 96),
   (.pairDiscrepantConfirm 95, .pairDiscrepantConfirm 96),
   (.faultPulseEnd 95, .faultPulseEnd 96),
   (.faultClear host [], .faultClear { host with role := 4 } [])]

theorem test_wf5 : (pairs5.all fun p => p.1.wf && !p.2.wf) = true := by decide +kernel

/-- Pairs of a well-formed and an ill-formed command. -/
def pairs6 : List (Instr × Instr) :=
  [(.faultForceWrite host [], .faultForceWrite { host with role := 4 } []),
   (.faultReactionWrite host [], .faultReactionWrite { host with role := 4 } []),
   (.faultCountersClear host [], .faultCountersClear { host with role := 4 } []),
   (.jtagBypass 255, .jtagBypass 256),
   (.perfLevelWrite host [], .perfLevelWrite { host with role := 4 } []),
   (.thermalClear host [], .thermalClear { host with role := 4 } []),
   (.sleepEnterS1 host, .sleepEnterS1 { host with role := 4 }),
   (.sleepEnterS2 host, .sleepEnterS2 { host with role := 4 }),
   (.sleepEnterS3 host, .sleepEnterS3 { host with role := 4 }),
   (.sleepExitS1 host, .sleepExitS1 { host with role := 4 }),
   (.xtal32Start 15, .xtal32Start 16),
   (.xtal32StartTimeout 15, .xtal32StartTimeout 16),
   (.resetNRelease 15, .resetNRelease 16),
   (.fwUpdateBegin host [], .fwUpdateBegin { host with role := 4 } []),
   (.fwImage host seg1 [], .fwImage { host with role := 4 } seg1 []),
   (.fwImage host seg1 [], .fwImage host { seg1 with offset := 4294967296 } []),
   (.fwUpdateVerify host [], .fwUpdateVerify { host with role := 4 } []),
   (.fwActivateNextReset host, .fwActivateNextReset { host with role := 4 }),
   (.fwActivateNow host, .fwActivateNow { host with role := 4 }),
   (.fwConfirm host [], .fwConfirm { host with role := 4 } []),
   (.fwRollbackCommit host [], .fwRollbackCommit { host with role := 4 } []),
   (.fwKeyRevoke host [], .fwKeyRevoke { host with role := 4 } []),
   (.calFlashSave host [], .calFlashSave { host with role := 4 } []),
   (.calFlashLoad host [], .calFlashLoad { host with role := 4 } []),
   (.faultLogWrite host [], .faultLogWrite { host with role := 4 } []),
   (.prbsCheckerLock .a 1 true, .prbsCheckerLock .a 2 true),
   (.upstreamCommaAlignment 31, .upstreamCommaAlignment 32),
   (.pairDiscrepancyEnd 95, .pairDiscrepancyEnd 96),
   (.pllUnlock 8, .pllUnlock 9),
   (.pllRelock 8, .pllRelock 9),
   (.coxMachineCheck 4294967295, .coxMachineCheck 4294967296),
   (.arpRequestRx 4294967295 1 1, .arpRequestRx 4294967296 1 1),
   (.arpRequestRx 1 281474976710655 1, .arpRequestRx 1 281474976710656 1)]

theorem test_wf6 : (pairs6.all fun p => p.1.wf && !p.2.wf) = true := by decide +kernel

/-- Pairs of a well-formed and an ill-formed command. -/
def pairs7 : List (Instr × Instr) :=
  [(.arpRequestRx 1 1 4294967295, .arpRequestRx 1 1 4294967296),
   (.icmpEchoRequestRx 4294967295 1 [], .icmpEchoRequestRx 4294967296 1 []),
   (.icmpEchoRequestRx 1 4294967295 [], .icmpEchoRequestRx 1 4294967296 [])]

theorem test_wf7 : (pairs7.all fun p => p.1.wf && !p.2.wf) = true := by decide +kernel

theorem test_wfRequest : ([{ host with role := 4 }, { host with tid := 65536 }, { host with key := 18446744073709551616 },
    { host with who := .rovan 65536 }, { host with via := .t1s }, { host with who := .t1s 0 0 },
    { host with via := .t1s, who := .t1s 4294967296 0 }, { host with via := .t1s, who := .t1s 0 65536 }].all
    fun r => !r.wf) = true := by decide +kernel

theorem test_wfTime : (Time80.wf ⟨281474976710656, 0⟩ || Time80.wf ⟨0, 4294967296⟩) = false := by decide +kernel

theorem test_wfTransfer : ([.videoFlit 8, .readResponse (.calRecord 1048576), .readResponse (.dose 3145728),
    .readResponse (.layerPixels 8), .sliceSegment 32 0, .sliceSegment 0 64, .strokeLoad 32, .probeResult 32 0 0 0,
    .probeResult 0 64 0 0, .probeResult 0 0 0 256, .copAccess { host with role := 4 } 0 0 0, .copAccess host 256 0 0, .copAccess host 0 65536 0,
    .copAccess host 0 0 256, .egressTap 32, .beaconReplay 32].all fun t => !Transfer.wf t) = true := by decide +kernel

theorem test_wfRowFault : ([.calMissing 2048, .doseMissing 2048 0, .doseMissing 0 3, .layerMissing 8 0, .layerMissing 0 2048,
    .bufferCorrected 2048, .bufferUncorrectable 2048 0, .bufferUncorrectable 0 4194304, .tableUncorrectable 16777216 0 0, .tableUncorrectable 0 131072 0,
    .tableUncorrectable 0 0 1048576, .zoneUncorrectable 2048 0, .zoneUncorrectable 0 1048576].all
    fun f => !RowFault.wf f) = true := by decide +kernel

theorem test_wfReply : ([{ reply0 with nodeType := 256 }, { reply0 with vendor := 65536 }, { reply0 with part := 65536 },
    { reply0 with revision := 256 }, { reply0 with dsRepeat := 65536 }, { reply0 with outDelay := 65536 },
    { reply0 with turnaround := 65536 }].all fun r => !r.wf) = true := by decide +kernel

theorem test_wfReport : ([{ rep true with stroke := 256 }, { rep true with cycle := 256 },
    { rep true with red := { hm with value := 256 } }, { rep true with green := { hm with node := 256 } },
    { rep true with blue := { hm with group := 256 } }].all fun r => !r.wf) = true := by decide +kernel

theorem test_wfProbe : ([{ prb with frameTag := 256 }, { prb with cycle := 256 }, { prb with probed := 65536 },
    { prb with seq := 256 }, { prb with fails := [(192, 0, .weak)] }, { prb with fails := [(0, 32, .weak)] },
    { prb with vfs := [(192, 0, 0)] }, { prb with vfs := [(0, 32, 0)] }].all fun p => !p.wf) = true := by decide +kernel

theorem test_wfLevels : (levelsWf 32 (List.replicate 31 0) || levelsWf 32 (4 :: List.replicate 31 0)) = false := by decide +kernel

theorem test_wfBuffer : ([.corrected 161, .uncorrectable 20 0, .uncorrectable 0 2097152].all
    fun b => !BufferTrouble.wf b) = true := by decide +kernel

theorem test_wfPtp : ([{ msgOf (.sync none) with sender := { mport with clock := 18446744073709551616 } },
    { msgOf (.sync none) with sender := { mport with number := 65536 } }, { msgOf (.sync none) with seq := 65536 },
    msgOf (.sync (some ⟨281474976710656, 0⟩)), msgOf (.followUp ⟨0, 4294967296⟩), msgOf (.delayResp ⟨0, 4294967296⟩ mport),
    msgOf (.delayResp ⟨0, 0⟩ { mport with number := 65536 }), msgOf (.announce { dset with priority1 := 256 }),
    msgOf (.announce { dset with clockClass := 256 }), msgOf (.announce { dset with accuracy := 256 }),
    msgOf (.announce { dset with variance := 65536 }), msgOf (.announce { dset with priority2 := 256 }),
    msgOf (.announce { dset with grandmaster := 18446744073709551616 }), msgOf (.announce { dset with steps := 65536 }),
    msgOf (.announce { dset with logInterval := -129 }), msgOf (.announce { dset with logInterval := 128 })].all
    fun m => !m.wf) = true := by decide +kernel

theorem test_wfMemory : ([.corrected 65 0, .corrected 0 65, .uncorrectable 17179869184, .stagingUncorrectable 2097152].all
    fun m => !MemTrouble.wf m) = true := by decide +kernel

theorem test_wfBurst : ([{ ring := 8, address := 0, bytes := 0, write := true },
    { ring := 0, address := 1099511627776, bytes := 0, write := true },
    { ring := 0, address := 0, bytes := 257, write := true }].all fun d => !DeviceBurst.wf d) = true := by decide +kernel

end Sys2Proof.Tests
end

section
/-! The statements of the family "scope": the state after the power-on reset, and plain objects under READ and WRITE. -/

namespace Sys2Proof.Machine

/-! ### The state after the power-on reset (00 R12, 16 R398) -/

/-- Every key of an object under a selector of 16 bits has the object's default. -/
theorem regDefault_regKey (obj sel : Nat) (h : sel < 65536) : regDefault (regKey obj sel) = objDefault obj := by
  have hk : (obj * 65536 + sel) / 65536 = obj := by omega
  simp only [regDefault, regKey, hk]

theorem State.regAt_reset (obj sel : Nat) (h : sel < 65536) : State.reset.regAt obj sel = objDefault obj :=
  regDefault_regKey obj sel h

theorem State.tabByte_reset (obj j : Nat) : State.reset.tabByte obj j = domDefault (tabKey obj j) := rfl

/-- All islands but AON, which is number 8, are off. -/
theorem State.island_reset (i : Nat) (h : i < 8) : State.reset.island i = .off := by
  interval_cases i <;> rfl

/-- Settles O2: at reset no object and no byte of a table is off its default, so each reads that default. -/
theorem resetHoldsEveryDefault : Obligations.ResetHoldsEveryDefault :=
  ⟨State.regAt_reset, fun obj j _ => State.tabByte_reset obj j, State.island_reset, rfl, rfl, rfl, rfl⟩

/-! ### A WRITE whose rights and island are in order (15 R365, 02 R45) -/

section Write

variable (s : State) (q : Request)

/-- Taking a request does not change which objects exist (15 R11). -/
@[simp] theorem State.findObj_taken (obj : Nat) : (s.taken q).findObj obj = s.findObj obj := by
  simp [State.findObj]

/-- Taking a request does not change what an access finds at its island (02 R45 to R47). -/
@[simp] theorem State.reach_taken (r : ObjRow) (obj : Nat) : (s.taken q).reach r obj = s.reach r obj := by
  have hsleep : Obj.SLEEP_STATE ≠ Obj.COP_REQUESTS := by decide
  have hwake : Obj.WAKE_ON_ACCESS ≠ Obj.COP_REQUESTS := by decide
  simp [State.reach, State.wakesOnAccess, hsleep, hwake]

/-- Taking a request does not change who may write an object (15 R365, 04 R109). -/
@[simp] theorem State.writeAbort_taken (r : ObjRow) (obj role : Nat) :
    (s.taken q).writeAbort r obj role = s.writeAbort r obj role := by
  simp [State.writeAbort]

variable {s q}

/-- A WRITE that its rights and its island let through is completed. -/
theorem executeWrite_ready (act : Action) {r : ObjRow} (hfind : s.findObj q.obj = some r)
    (hright : s.writeAbort r q.obj q.rq.role = 0) (hreach : s.reach r q.obj = .ready) :
    executeWrite act q s = completeWrite act r q s := by
  simp [executeWrite, hfind, hright, hreach]

/-- A state after an answer holds it as the newest one, with its code and no other. -/
theorem State.respond_answered_iff (abort total code : Nat) (data : Bytes) :
    (s.respond q abort total data).answered q.rq code = true ↔ abort = code := by
  simp [State.respond, State.answered, keepResponse]

/-- The agent executes a WRITE that it hears, once it has taken it. -/
theorem hostRequest_write (hhears : s.hears q = true) (hopcode : q.opcode = 2) :
    hostRequest runAny q s = .next (settle (executeWrite writeAction q (s.taken q))) := by
  rw [hostRequest_heard s q runAny hhears]
  simp [runAny, runRequest, hopcode]

/-! ### A first segment beyond the assembly space (15 R371) -/

section TooLong

variable (hfirst : q.seg.isFirst = true) (hoffset : q.seg.offset = 0) (hspace : s.hasSpace q.rq.who = true)
  (hnew : ∀ a ∈ s.cop.assemblies, a.who ≠ q.rq.who) (hlong : 65536 < q.data.length)

include hfirst hoffset hspace hnew hlong

/-- A first segment of more than 65 536 bytes is too long, though its requester has space. -/
theorem State.assemble_first_tooLong : s.assemble q = .abort s abortTooLong := by
  have hnone : s.cop.assemblies.find? (·.who == q.rq.who) = none := by simpa [List.find?_eq_none] using hnew
  simp [State.assemble, hfirst, hoffset, hnone, hspace, hlong]

/-- The WRITE of such a segment is aborted with "transfer too long" and starts no transfer. -/
theorem completeWrite_first_tooLong (act : Action) {r : ObjRow} (hseg : segmented r q.obj = true) :
    completeWrite act r q s = s.respond q abortTooLong 0 [] := by
  simp [completeWrite, hseg, State.assemble_first_tooLong hfirst hoffset hspace hnew hlong]

/-- A WRITE that the agent hears and that rights and island let through is so aborted, whatever its object. -/
theorem hostRequest_first_tooLong {r : ObjRow} (hhears : s.hears q = true) (hopcode : q.opcode = 2)
    (hfind : s.findObj q.obj = some r) (hright : s.writeAbort r q.obj q.rq.role = 0)
    (hreach : s.reach r q.obj = .ready) (hseg : segmented r q.obj = true) :
    hostRequest runAny q s = .next (settle ((s.taken q).respond q abortTooLong 0 [])) := by
  rw [hostRequest_write hhears hopcode,
    executeWrite_ready writeAction (r := r) (by simpa using hfind) (by simpa using hright) (by simpa using hreach),
    completeWrite_first_tooLong hfirst hoffset (by simpa using hspace) (by simpa using hnew) hlong writeAction hseg]

end TooLong

end Write

/-! ### The counterexample: one segment of 65 537 bytes to SUPPLY_WINDOWS -/

/-- A device that runs, with every object at its default and every island supplied and clocked. -/
def runningDevice : State := { device := { phase := .running, corePwrEn := true } }

/-- A first segment of 65 537 zero bytes, by the owner through Rovan port A. -/
def longSegment : Request :=
  { rq := { via := .portA, who := .rovan 5, tid := 1, role := 3, key := 0 }, opcode := 2, obj := Obj.SUPPLY_WINDOWS,
    seg := { isFirst := true, isLast := false, offset := 0 }, snapshot := false, data := List.replicate 65537 0#8 }

/-- The row of SUPPLY_WINDOWS: a DOMAIN of 48 bytes that the operator may write. -/
def supplyWindowsRow : ObjRow :=
  { sub := 3, ty := .domain 48, mask := 0, access := .rw, dflt := 0, role := 1, owner := .none, aon := false }

/-- The command that brings the segment is well formed: its operands bound no length of data. -/
theorem longSegment_wf : (Instr.copWrite longSegment.rq (Obj.SUPPLY_WINDOWS / 256) (Obj.SUPPLY_WINDOWS % 256)
    longSegment.seg longSegment.data).wf = true := by decide

theorem longSegment_heard : runningDevice.hears longSegment = true := by decide

theorem longSegment_findObj : runningDevice.findObj longSegment.obj = some supplyWindowsRow := by decide

theorem longSegment_writeAbort :
    runningDevice.writeAbort supplyWindowsRow longSegment.obj longSegment.rq.role = 0 := by decide

theorem longSegment_reach : runningDevice.reach supplyWindowsRow longSegment.obj = .ready := by decide

theorem longSegment_hasSpace : runningDevice.hasSpace longSegment.rq.who = true := by decide

theorem runningDevice_no_transfer : ∀ a ∈ runningDevice.cop.assemblies, a.who ≠ longSegment.rq.who := by decide

theorem longSegment_length : 65536 < longSegment.data.length := by
  have h : longSegment.data.length = 65537 := List.length_replicate
  omega

/-- The model answers the segment with "transfer too long". -/
theorem longSegment_tooLong : hostRequest runAny longSegment runningDevice =
    .next (settle ((runningDevice.taken longSegment).respond longSegment abortTooLong 0 [])) :=
  hostRequest_first_tooLong rfl rfl longSegment_hasSpace runningDevice_no_transfer longSegment_length longSegment_heard
    rfl longSegment_findObj longSegment_writeAbort longSegment_reach rfl

/-- Refutes O15: its last clause promises success for a first segment of any length, and R371 bounds a transfer at 65 536
bytes. The counterexample is `longSegment`, of 65 537 bytes, sent to `runningDevice`: it meets every hypothesis of the
clause and is answered with "transfer too long". -/
theorem not_plainObjectsAreReadAndHeld : ¬ Obligations.PlainObjectsAreReadAndHeld := by
  rintro ⟨-, -, -, -, firstSegmentJoins⟩
  obtain ⟨t, hexec, hanswered, -⟩ := firstSegmentJoins runningDevice longSegment.rq (Obj.SUPPLY_WINDOWS / 256)
    (Obj.SUPPLY_WINDOWS % 256) longSegment.data supplyWindowsRow longSegment rfl longSegment_heard longSegment_findObj
    longSegment_writeAbort longSegment_reach rfl longSegment_hasSpace runningDevice_no_transfer
  have hrun : hostRequest runAny longSegment runningDevice = .next t := hexec
  rw [longSegment_tooLong, Host.Outcome.next.injEq] at hrun
  rw [← hrun, settle_answered, State.respond_answered_iff] at hanswered
  exact absurd hanswered (by decide)

end Sys2Proof.Machine
end

section
/-! The statements of the family "tile model": writes to the custom transfer table of an ingest profile. -/

namespace Sys2Proof.Machine

/-! ### Ingest profiles (03 R58, R64) -/

section Profiles

variable (s : State) (q : Request)

/-- A profile after one is replaced. -/
@[simp] theorem State.profile_setProfile (p k : Nat) (x : ProfileState) :
    (s.setProfile p x).profile k = if k = p then x else s.profile k := by
  simp [State.profile, State.setProfile]

variable {s} in
/-- The profiles stand in the pipeline's part of the state. -/
theorem State.profile_of_pipe {t : State} (h : t.pipe = s.pipe) : t.profile = s.profile := by
  funext p
  simp only [State.profile, h]

/-- Taking a request and reaching its object leave the profiles. -/
@[simp] theorem State.profile_accessed_taken (obj : Nat) : ((s.taken q).accessed obj).profile = s.profile := by
  apply State.profile_of_pipe
  unfold State.accessed
  split <;> simp [State.crossed]

/-- A refill asked of the frozen path leaves the profiles (R86). -/
@[simp] theorem noteFillInput_profile : (noteFillInput s).profile = s.profile := by
  apply State.profile_of_pipe
  simp only [noteFillInput]
  split
  · rfl
  · split <;> rfl

/-- A recomputation keeps every custom table as written. -/
theorem recompute_custom (p k : Nat) : ((recompute p s).profile k).custom = (s.profile k).custom := by
  simp only [recompute]
  split <;> by_cases hk : k = p <;> simp [hk]

/-- An answer of success, and the live bits that settle after it, leave the profiles. -/
theorem settle_conclude_done_profile : (settle (conclude q (.done s))).profile = s.profile :=
  State.profile_of_pipe (by simp [conclude])

/-- A write of INGESTp_TABLE replaces entries of the custom table of profile `p`. -/
theorem actIngest_table (p : Nat) (hobj : q.obj = Obj.INGEST_TABLE p) :
    ∃ u, actIngest q s = .done u ∧ (u.profile p).custom = replaceEntries (s.profile p).custom q.data := by
  have hp : q.obj / 256 - 0x3010 = p := by simp only [hobj, Obj.INGEST_TABLE]; omega
  simp only [actIngest, hp, if_pos hobj]
  refine ⟨_, rfl, ?_⟩
  split <;> simp [recompute_custom]

end Profiles

/-- INGESTp_TABLE is a DOMAIN. -/
theorem rowOf_ingestTable (p : Nat) (hp : p < 4) :
    (rowOf (Obj.INGEST_TABLE p)).map (·.ty) = some (.domain 4100) := by
  interval_cases p <;> decide

/-- What an admitted write of INGESTp_TABLE makes of the custom table: the bytes written replace its entries once their
reserved bits are dropped (00 R10, 03 R63, R64). -/
theorem exec_ingestTableWrite (s : State) (rq : Req) (p : Nat) (data : Bytes) (hp : p < 4)
    (h : s.admitsWrite rq (Obj.INGEST_TABLE p) data = true) :
    ∃ t, exec (.ingestProfileWrite rq p 8 data) s = .next t ∧
      (t.profile p).custom = replaceEntries (s.profile p).custom (heldBytes (Obj.INGEST_TABLE p) data) := by
  have hobj : (0x3010 + p) * 256 + 8 = Obj.INGEST_TABLE p := by simp only [Obj.INGEST_TABLE]; omega
  obtain ⟨r, hrow, hwrite⟩ := hostWrite_admitted s actIngest rq (Obj.INGEST_TABLE p) data h
  have hty : r.ty = .domain 4100 := by simpa [hrow] using rowOf_ingestTable p hp
  have hheld : (wholeWrite rq (Obj.INGEST_TABLE p) data).held r =
      wholeWrite rq (Obj.INGEST_TABLE p) (heldBytes (Obj.INGEST_TABLE p) data) := by
    simp [Request.held, hty, wholeWrite]
  obtain ⟨u, hdone, hcustom⟩ :=
    actIngest_table ((s.taken (wholeWrite rq (Obj.INGEST_TABLE p) data)).accessed (Obj.INGEST_TABLE p))
      (wholeWrite rq (Obj.INGEST_TABLE p) (heldBytes (Obj.INGEST_TABLE p) data)) p rfl
  rw [hheld, hdone] at hwrite
  refine ⟨_, (congrArg (fun o => hostWrite actIngest rq o data s) hobj).trans hwrite, ?_⟩
  rw [settle_conclude_done_profile, hcustom, State.profile_accessed_taken]
  rfl

theorem natAt_map_range (f : Nat → Nat) (n i : Nat) (hi : i < n) : natAt ((List.range n).map f) i = f i := by
  simp [natAt, hi]

theorem natAt_words_custom (es : List Nat) (i : Nat) (hi : i < 1025) :
    natAt (TransferTable.custom es).words i = natAt es i := natAt_map_range (natAt es) 1025 i hi

/-- The four bytes of word `i` of a custom table, where the bytes written reach it whole. -/
theorem take_drop_replaced (data old : Bytes) (i : Nat) (hi : i < 1025) (hlen : 4 * i + 4 ≤ data.length) :
    ((data.take 4100 ++ old).drop (4 * i)).take 4 = (data.drop (4 * i)).take 4 := by
  rw [List.drop_append_of_le_length (by rw [List.length_take]; omega),
    List.take_append_of_le_length (by rw [List.length_drop, List.length_take]; omega), List.drop_take, List.take_take,
    Nat.min_eq_left (by omega)]

/-- A word of a custom table that the bytes written reach whole reads as those bytes. -/
theorem natAt_words_replaceEntries (t : TransferTable) (data : Bytes) (i : Nat) (hi : i < 1025)
    (hlen : 4 * i + 4 ≤ data.length) :
    natAt (replaceEntries t data).words i = leNat ((data.drop (4 * i)).take 4) := by
  rw [replaceEntries, natAt_words_custom _ i hi, natAt_map_range _ _ i hi, take_drop_replaced data _ i hi hlen]

/-! ### The counterexample: reserved bits of INGEST0_TABLE (03 R63) -/

/-- A write by the owner through Rovan port A. -/
def ownerWrite : Req := { via := .portA, who := .rovan 5, tid := 1, role := 3, key := 0 }

/-- One entry of 32 bits, all set: bits 31 to 20 are reserved. -/
def reservedBitsSet : Bytes := List.replicate 4 0xFF#8

/-- The row of INGEST0_TABLE: a DOMAIN of 4 100 bytes that the operator may write. -/
def ingestTableRow : ObjRow :=
  { sub := 8, ty := .domain 4100, mask := 0, access := .rw, dflt := 0, role := 1, owner := .none, aon := false }

theorem runningDevice_admits_reservedBits :
    runningDevice.admitsWrite ownerWrite (Obj.INGEST_TABLE 0) reservedBitsSet = true := by decide

/-- The command of the counterexample is well formed. -/
theorem reservedBits_wf : (Instr.ingestProfileWrite ownerWrite 0 8 reservedBitsSet).wf = true := by decide

/-- The entry is held without its reserved bits, so as another word than the one written. -/
theorem replaceEntries_held_ne_written (t : TransferTable) :
    replaceEntries t (heldBytes (Obj.INGEST_TABLE 0) reservedBitsSet) ≠ replaceEntries t reservedBitsSet := by
  intro h
  have hword := congrArg (fun x : TransferTable => natAt x.words 0) h
  rw [natAt_words_replaceEntries _ _ 0 (by decide) (by decide),
    natAt_words_replaceEntries _ _ 0 (by decide) (by decide)] at hword
  exact absurd hword (by decide)

/-- Refutes O22: its first clause promises that the custom table takes the bytes of INGESTp_TABLE as they were written.
Bits 31 to 20 of an entry are reserved (R63), and a write to reserved bits is ignored (R10). The counterexample is an
entry with every bit set, `reservedBitsSet`, written to INGEST0_TABLE of `runningDevice`: the model holds 0x000FFFFF,
the statement asks for 0xFFFFFFFF. -/
theorem not_ingestProfilesAreRecomputed : ¬ Obligations.IngestProfilesAreRecomputed := by
  rintro ⟨profileWrite, -⟩
  obtain ⟨t, hexec, -, -, htable, -⟩ := profileWrite runningDevice ownerWrite 0 8 reservedBitsSet ingestTableRow
    (by decide) (by decide) runningDevice_admits_reservedBits (by decide)
  obtain ⟨u, hrun, hheld⟩ := exec_ingestTableWrite runningDevice ownerWrite 0 reservedBitsSet (by decide)
    runningDevice_admits_reservedBits
  have htu : t = u := Host.Outcome.next.inj (hexec.symm.trans hrun)
  subst htu
  exact replaceEntries_held_ne_written _ (hheld.symm.trans (htable rfl))

end Sys2Proof.Machine
end

section
/-! Footprints: what a run of operations may touch. `State.Within F s u` says that `u` differs from `s` only inside the
footprint `F`; each operation of the model stays within every footprint that names what it touches, and the frame of a
command follows from the footprint of its operations. -/

namespace Sys2Proof.Machine

set_option Elab.async false

/-! ### Footprints -/

/-- What a run of operations may touch: parts of the state, objects, tables and crossings; `rowMoves` says whether the
place of the row in computation may change. -/
structure Footprint where
  parts : List Part := []
  objs : Nat → Bool := fun _ => false
  tabs : Bool := false
  crossings : Nat → Bool := fun _ => false
  rowMoves : Bool := false

/-- The row in computation: its frame's number, band and row, and whether the frame is complete. -/
def FrameWork.place (f : FrameWork) : Nat × Nat × Nat × Bool := (f.k, f.band, f.row, f.finished)

/-- How far the pipeline has come: the rows that are ready, and the row in computation. -/
def PipeState.place (x : PipeState) : List Nat × Option (Nat × Nat × Nat × Bool) :=
  (x.readyRows, x.frame.map FrameWork.place)

/-- Between `s` and `u` nothing outside the footprint has changed. -/
structure State.Within (F : Footprint) (s u : State) : Prop where
  pending : u.pending = s.pending
  part : ∀ p, p ∉ .regs :: .tabs :: .crossing :: F.parts → s.sameRaw u p
  obj : ∀ o i, F.objs o = false → i < 65536 → u.regAt o i = s.regAt o i
  tab : F.tabs = false → ∀ o j, j < 131072 → u.tabByte o j = s.tabByte o j
  cross : ∀ h, F.crossings h = false → u.crossing h = s.crossing h
  row : F.rowMoves = false → u.pipe.place = s.pipe.place

theorem State.sameRaw_refl (s : State) (p : Part) : s.sameRaw s p := by
  cases p
  case answer => exact ⟨rfl, rfl, rfl⟩
  case regs | tabs => exact fun _ _ _ => rfl
  case mem | staging | beacon | flash | crossing => exact fun _ => rfl
  all_goals exact rfl

theorem State.sameRaw_trans {s u v : State} {p : Part} (h1 : s.sameRaw u p) (h2 : u.sameRaw v p) : s.sameRaw v p := by
  cases p
  case regs | tabs => exact fun o i hi => (h2 o i hi).trans (h1 o i hi)
  case mem | staging | beacon | flash | crossing => exact fun a => (h2 a).trans (h1 a)
  case answer => exact ⟨h2.1.trans h1.1, h2.2.1.trans h1.2.1, h2.2.2.trans h1.2.2⟩
  all_goals exact Eq.trans h2 h1

/-- A change of objects, tables and crossings leaves every other part. -/
theorem State.sameRaw_stores (s : State) (r : Sparse Nat) (t : Sparse Byte) (c : Sparse Crossing) {p : Part}
    (hp : p ∉ [Part.regs, .tabs, .crossing]) :
    s.sameRaw { s with regs := r, tabs := t, device := { s.device with crossings := c } } p := by
  cases p
  case regs | tabs | crossing => simp at hp
  case answer => exact ⟨rfl, rfl, rfl⟩
  case mem | staging | beacon | flash => exact fun _ => rfl
  all_goals exact rfl

namespace State.Within

variable {F : Footprint} {s u v : State}

theorem refl (F : Footprint) (s : State) : Within F s s :=
  ⟨rfl, fun p _ => s.sameRaw_refl p, fun _ _ _ _ => rfl, fun _ _ _ _ => rfl, fun _ _ => rfl, fun _ => rfl⟩

theorem trans (h1 : Within F s u) (h2 : Within F u v) : Within F s v :=
  ⟨h2.pending.trans h1.pending, fun p hp => State.sameRaw_trans (h1.part p hp) (h2.part p hp),
    fun o i ho hi => (h2.obj o i ho hi).trans (h1.obj o i ho hi),
    fun ht o j hj => (h2.tab ht o j hj).trans (h1.tab ht o j hj),
    fun k hk => (h2.cross k hk).trans (h1.cross k hk), fun hm => (h2.row hm).trans (h1.row hm)⟩

/-- What stays within a footprint stays within a wider one. -/
theorem mono {G : Footprint} (h : Within F s u) (hparts : ∀ p ∈ F.parts, p ∈ G.parts)
    (hobjs : ∀ o, F.objs o = true → G.objs o = true) (htabs : F.tabs = true → G.tabs = true)
    (hcross : ∀ k, F.crossings k = true → G.crossings k = true) (hrow : F.rowMoves = true → G.rowMoves = true) :
    Within G s u where
  pending := h.pending
  part p hp := by
    simp only [List.mem_cons, not_or] at hp
    refine h.part p ?_
    simp only [List.mem_cons, not_or]
    exact ⟨hp.1, hp.2.1, hp.2.2.1, fun hm => hp.2.2.2 (hparts p hm)⟩
  obj o i ho := h.obj o i (Bool.eq_false_iff.mpr fun hm => by rw [hobjs o hm] at ho; cases ho)
  tab ht := h.tab (Bool.eq_false_iff.mpr fun hm => by rw [htabs hm] at ht; cases ht)
  cross k hk := h.cross k (Bool.eq_false_iff.mpr fun hm => by rw [hcross k hm] at hk; cases hk)
  row hm := h.row (Bool.eq_false_iff.mpr fun hr => by rw [hrow hr] at hm; cases hm)

/-- A fold stays within a footprint in which each of its steps stays. -/
theorem foldl {α : Type} {f : State → α → State} (h : ∀ t x, Within F t (f t x)) (l : List α) (s : State) :
    Within F s (l.foldl f s) := by
  induction l generalizing s with
  | nil => exact refl F s
  | cons x l ih => exact (h s x).trans (ih _)

/-- The same of a fold over 0 … n − 1. -/
theorem foldNSteps {f : State → Nat → State} {n : Nat} (h : ∀ t i, i < n → Within F t (f t i)) (s : State) :
    Within F s (foldN n f s) := by
  have key : ∀ (l : List Nat) (s : State), (∀ i ∈ l, i < n) → Within F s (l.foldl f s) := by
    intro l
    induction l with
    | nil => exact fun s _ => refl F s
    | cons i l ih =>
      exact fun s hl => (h s i (hl i (by simp))).trans (ih _ fun j hj => hl j (List.mem_cons_of_mem _ hj))
  exact key _ s fun i hi => List.mem_range.mp hi

/-- A state that differs from another in parts of the footprint alone. -/
theorem of_fields (h : Within F s u) (pending : v.pending = u.pending := by exact rfl)
    (regs : v.regs = u.regs := by exact rfl) (tabs : v.tabs = u.tabs := by exact rfl)
    (crossings : v.device.crossings = u.device.crossings := by exact rfl)
    (row : F.rowMoves = false → v.pipe.place = u.pipe.place := by exact fun _ => rfl)
    (mem : .mem ∈ F.parts ∨ v.mem = u.mem := by exact .inr rfl)
    (staging : .staging ∈ F.parts ∨ v.staging = u.staging := by exact .inr rfl)
    (beacon : .beacon ∈ F.parts ∨ v.beacon = u.beacon := by exact .inr rfl)
    (flash : .flash ∈ F.parts ∨ v.flash = u.flash := by exact .inr rfl)
    (device : .device ∈ F.parts ∨ v.device = u.device := by exact .inr rfl)
    (cop : .cop ∈ F.parts ∨ v.cop.quiet = u.cop.quiet := by exact .inr rfl)
    (answer : .answer ∈ F.parts ∨ u.sameRaw v .answer := by exact .inr ⟨rfl, rfl, rfl⟩)
    (fault : .fault ∈ F.parts ∨ { v.fault with live := [] } = { u.fault with live := [] } := by exact .inr rfl)
    (live : .live ∈ F.parts ∨ v.fault.live = u.fault.live := by exact .inr rfl)
    (time : .time ∈ F.parts ∨ v.time = u.time := by exact .inr rfl)
    (pipe : .pipe ∈ F.parts ∨ v.pipe = u.pipe := by exact .inr rfl)
    (layers : .layers ∈ F.parts ∨ v.layers = u.layers := by exact .inr rfl)
    (scan : .scan ∈ F.parts ∨ v.scan = u.scan := by exact .inr rfl)
    (diag : .diag ∈ F.parts ∨ v.diag = u.diag := by exact .inr rfl)
    (rails : .rails ∈ F.parts ∨ v.rails = u.rails := by exact .inr rfl)
    (link : .link ∈ F.parts ∨ v.link = u.link := by exact .inr rfl)
    (traffic : .traffic ∈ F.parts ∨ { v.traffic with queue := [] } = { u.traffic with queue := [] } := by
      exact .inr rfl)
    (memory : .memory ∈ F.parts ∨ v.memory = u.memory := by exact .inr rfl)
    (safety : .safety ∈ F.parts ∨ v.safety = u.safety := by exact .inr rfl)
    (power : .power ∈ F.parts ∨ v.power = u.power := by exact .inr rfl)
    (out : .out ∈ F.parts ∨ v.out = u.out := by exact .inr rfl)
    (clock : .clock ∈ F.parts ∨ v.ticks = u.ticks := by exact .inr rfl)
    (free : .free ∈ F.parts ∨ v.freeCtr = u.freeCtr := by exact .inr rfl) : Within F s v := by
  refine h.trans ⟨pending, fun p hp => ?_, fun _ _ _ _ => by simp only [State.regAt, regs],
    fun _ _ _ _ => by simp only [State.tabByte, tabs], fun _ _ => by simp only [State.crossing, crossings], row⟩
  simp only [List.mem_cons, not_or] at hp
  obtain ⟨hregs, htabs, hcrossing, hp⟩ := hp
  cases p
  case regs => exact absurd rfl hregs
  case tabs => exact absurd rfl htabs
  case crossing => exact absurd rfl hcrossing
  case mem => exact fun a => congrArg (Sparse.get ramDefault · a) (mem.resolve_left hp)
  case staging => exact fun a => congrArg (Sparse.get ramDefault · a) (staging.resolve_left hp)
  case beacon => exact fun a => congrArg (Sparse.get ramDefault · a) (beacon.resolve_left hp)
  case flash => exact fun a => congrArg (Sparse.get flashDefault · a) (flash.resolve_left hp)
  case device => exact congrArg (fun d : DeviceState => { d with crossings := [] }) (device.resolve_left hp)
  all_goals exact Or.resolve_left ‹_› hp

/-! ### Footprints of single parts -/

theorem pipe (h : Within F s u) (x : PipeState) (hx : F.rowMoves = false → x.place = u.pipe.place)
    (hp : .pipe ∈ F.parts := by decide) : Within F s { u with pipe := x } := h.of_fields (row := hx) (pipe := .inl hp)

theorem layers (h : Within F s u) (x : LayersState) (hp : .layers ∈ F.parts := by decide) :
    Within F s { u with layers := x } := h.of_fields (layers := .inl hp)

theorem scan (h : Within F s u) (x : ScanState) (hp : .scan ∈ F.parts := by decide) :
    Within F s { u with scan := x } := h.of_fields (scan := .inl hp)

theorem diag (h : Within F s u) (x : DiagState) (hp : .diag ∈ F.parts := by decide) :
    Within F s { u with diag := x } := h.of_fields (diag := .inl hp)

theorem rails (h : Within F s u) (x : RailsState) (hp : .rails ∈ F.parts := by decide) :
    Within F s { u with rails := x } := h.of_fields (rails := .inl hp)

theorem memory (h : Within F s u) (x : MemoryState) (hp : .memory ∈ F.parts := by decide) :
    Within F s { u with memory := x } := h.of_fields (memory := .inl hp)

theorem safety (h : Within F s u) (x : SafetyState) (hp : .safety ∈ F.parts := by decide) :
    Within F s { u with safety := x } := h.of_fields (safety := .inl hp)

theorem power (h : Within F s u) (x : PowerState) (hp : .power ∈ F.parts := by decide) :
    Within F s { u with power := x } := h.of_fields (power := .inl hp)

theorem modCatch (h : Within F s u) (f : CatchState → CatchState) (hp : .time ∈ F.parts := by decide) :
    Within F s (u.modCatch f) := h.of_fields (time := .inl hp)

theorem modFrame (h : Within F s u) (f : FrameWork → FrameWork) (hf : ∀ x, (f x).place = x.place)
    (hp : .pipe ∈ F.parts := by decide) : Within F s (u.modFrame f) :=
  h.pipe _ (fun _ => by cases hk : u.pipe.frame <;> simp [PipeState.place, hk, hf]) hp

theorem occur (h : Within F s u) (n : Nat) (hp : .fault ∈ F.parts := by decide) : Within F s (u.occur n) :=
  h.of_fields (fault := .inl hp)

theorem emit (h : Within F s u) (x : Output) (hp : .out ∈ F.parts := by decide) : Within F s (u.emit x) :=
  h.of_fields (out := .inl hp)

theorem setIsland (h : Within F s u) (i : Nat) (m : IslandMode) (hp : .device ∈ F.parts := by decide) :
    Within F s (u.setIsland i m) := h.of_fields (device := .inl hp)

theorem setMem (h : Within F s u) (a : Nat) (bs : Bytes) (hp : .mem ∈ F.parts := by decide) :
    Within F s (u.setMem a bs) := h.of_fields (mem := .inl hp)

theorem setStaging (h : Within F s u) (a : Nat) (bs : Bytes) (hp : .staging ∈ F.parts := by decide) :
    Within F s (u.setStaging a bs) := h.of_fields (staging := .inl hp)

theorem setBeacon (h : Within F s u) (a : Nat) (bs : Bytes) (hp : .beacon ∈ F.parts := by decide) :
    Within F s (u.setBeacon a bs) := h.of_fields (beacon := .inl hp)

theorem setBand (h : Within F s u) (b : Nat) (x : BandState) (hp : .scan ∈ F.parts := by decide) :
    Within F s (u.setBand b x) := h.scan _ hp

theorem setRail (h : Within F s u) (n : Nat) (x : RailState) (hp : .rails ∈ F.parts := by decide) :
    Within F s (u.setRail n x) := h.rails _ hp

theorem setLayer (h : Within F s u) (l : Nat) (x : LayerState) (hp : .layers ∈ F.parts := by decide) :
    Within F s (u.setLayer l x) := h.layers _ hp

theorem setFence (h : Within F s u) (k : Nat) (x : FenceLine) (hp : .layers ∈ F.parts := by decide) :
    Within F s (u.setFence k x) := h.layers _ hp

theorem setRing (h : Within F s u) (r : Nat) (x : RingState) (hp : .memory ∈ F.parts := by decide) :
    Within F s (u.setRing r x) := h.memory _ hp

/-! ### Footprints of objects, tables and crossings -/

theorem setRegAt (h : Within F s u) (o i v : Nat) (ho : F.objs o = true := by decide) (hi : i < 65536 := by decide) :
    Within F s (u.setRegAt o i v) where
  pending := h.pending
  part p hp := State.sameRaw_trans (h.part p hp) (u.sameRaw_stores _ _ _ (by simp_all))
  obj o1 i1 h1 hi1 := by
    have hne : o1 ≠ o := fun e => by rw [e, ho] at h1; cases h1
    rw [State.regAt_setRegAt_ne u o i v o1 i1 hne hi hi1, h.obj o1 i1 h1 hi1]
  tab := h.tab
  cross := h.cross
  row := h.row

theorem setReg (h : Within F s u) (o v : Nat) (ho : F.objs o = true := by decide) : Within F s (u.setReg o v) :=
  h.setRegAt o 0 v ho

theorem setFlag (h : Within F s u) (o : Nat) (b : Bool) (ho : F.objs o = true := by decide) :
    Within F s (u.setFlag o b) := h.setRegAt o 0 _ ho

theorem bumpAt (h : Within F s u) (o i n : Nat) (ho : F.objs o = true := by decide) (hi : i < 65536 := by decide) :
    Within F s (u.bumpAt o i n) := h.setRegAt o i _ ho hi

theorem bump (h : Within F s u) (o : Nat) (ho : F.objs o = true := by decide) : Within F s (u.bump o) :=
  h.setRegAt o 0 _ ho

/-- Objects that the footprint names take their defaults. -/
theorem clearRegs (h : Within F s u) (l : List Nat) (hl : ∀ o ∈ l, F.objs o = true) : Within F s (u.clearRegs l) where
  pending := h.pending
  part p hp := State.sameRaw_trans (h.part p hp) (u.sameRaw_stores _ _ _ (by simp_all))
  obj o i ho hi := by
    have hn : l.contains o = false := by
      rw [← Bool.not_eq_true, List.contains_iff_mem]
      exact fun hm => by rw [hl o hm] at ho; cases ho
    rw [State.regAt_clearRegs u l o i hi, hn, if_neg (by simp), h.obj o i ho hi]
  tab := h.tab
  cross := h.cross
  row := h.row

theorem setTab (h : Within F s u) (o k : Nat) (bs : Bytes) (ht : F.tabs = true := by decide) :
    Within F s (u.setTab o k bs) where
  pending := h.pending
  part p hp := State.sameRaw_trans (h.part p hp) (u.sameRaw_stores _ _ _ (by simp_all))
  obj := h.obj
  tab hf := by rw [ht] at hf; cases hf
  cross := h.cross
  row := h.row

theorem setCrossing (h : Within F s u) (k : Nat) (x : Crossing) (hk : F.crossings k = true := by decide) :
    Within F s (u.setCrossing k x) where
  pending := h.pending
  part p hp := State.sameRaw_trans (h.part p hp) (u.sameRaw_stores _ _ _ (by simp_all))
  obj := h.obj
  tab := h.tab
  cross j hj := by
    have hne : j ≠ k := fun e => by rw [e, hk] at hj; cases hj
    rw [State.crossing_setCrossing, if_neg hne, h.cross j hj]
  row := h.row

theorem crossed (h : Within F s u) (k : Nat) (hk : F.crossings k = true := by decide) : Within F s (u.crossed k) :=
  h.setCrossing k _ hk

/-- An event enters the queue of events, or a full queue drops it, which two objects count (10 R257). -/
theorem event (h : Within F s u) (code : Nat) (data : Bytes) (hp : .traffic ∈ F.parts := by decide)
    (hs : F.objs Obj.EVENT_SEQUENCE = true := by decide) (hd : F.objs Obj.EVENTS_DROPPED = true := by decide) :
    Within F s (u.event code data) := by
  unfold State.event
  dsimp only
  split
  · exact h.of_fields (traffic := .inl hp)
  · exact (h.bump _ hs).bump _ hd

/-! ### Frames from footprints -/

/-- The frame of an operation from its footprint. -/
theorem frameRaw {parts : List Part} {objs tables : List Nat} (h : Within F s u)
    (hparts : ∀ p ∈ F.parts, p ∈ parts)
    (hobjs : .regs ∉ parts → ∀ o, F.objs o = true → o ∈ objs) (htabs : .tabs ∉ parts → F.tabs = false)
    (hcross : .crossing ∉ parts → ∀ k, F.crossings k = false) : s.frameRaw u parts objs tables := by
  refine ⟨h.pending, fun p hp => ?_, fun o i hr ho hi => h.obj o i ?_ hi, fun o j ht _ hj => h.tab (htabs ht) o j hj⟩
  · simp only [List.mem_cons, not_or] at hp
    by_cases hx : p = .crossing
    · subst hx
      exact fun k => h.cross k (hcross hp.2.2 k)
    · refine h.part p ?_
      simp only [List.mem_cons, not_or]
      exact ⟨hp.1, hp.2.1, hx, fun hm => hp.2.2 (hparts p hm)⟩
  · rw [← Bool.not_eq_true]
    exact fun hm => ho (hobjs hr o hm)

/-- The frame of an event from the footprint of its operation. -/
theorem frame {parts : List Part} {objs tables : List Nat} (h : Within F s u)
    (hparts : ∀ p ∈ F.parts, p ∈ parts)
    (hobjs : .regs ∉ parts → ∀ o, F.objs o = true → o ∈ objs) (htabs : .tabs ∉ parts → F.tabs = false)
    (hcross : .crossing ∉ parts → ∀ k, F.crossings k = false) : s.frame (settle u) parts objs tables :=
  frame_settle (h.frameRaw hparts hobjs htabs hcross)

end State.Within
end Sys2Proof.Machine
end

section
/-! The footprint of the device's own accesses to memory: what a read counts, what a burst that is written touches (11
R269, R272, R281, R288), and the frozen path that a write makes refill (03 R86). -/

namespace Sys2Proof.Machine

set_option Elab.async false

/-- A footprint that holds what a read of a device engine counts (11 R269, R272). -/
structure Footprint.Reads (F : Footprint) : Prop where
  objs : ∀ o ∈ readObjs, F.objs o = true
  fault : .fault ∈ F.parts
  memory : .memory ∈ F.parts

/-- A footprint that holds what a write of a device engine touches (11 R269, R281, 03 R86). -/
structure Footprint.Writes (F : Footprint) : Prop extends F.Reads where
  arm : F.objs Obj.L7_ARM_STATE = true
  layers : .layers ∈ F.parts
  mem : .mem ∈ F.parts
  staging : .staging ∈ F.parts
  pipe : .pipe ∈ F.parts

namespace State.Within

variable {F : Footprint} {s u : State}

/-- A change that asks the frozen path for a refill touches L7_ARM_STATE and the layers (03 R86, 04 R110). -/
theorem noteFillInput (h : Within F s u) (harm : F.objs Obj.L7_ARM_STATE = true) (hlayers : .layers ∈ F.parts) :
    Within F s (noteFillInput u) := by
  unfold Machine.noteFillInput
  dsimp only
  split_ifs
  · exact (h.setReg _ _ harm).layers _ hlayers
  · exact h.layers _ hlayers
  · exact h

/-- A translation fault is counted with its address (11 R272). -/
theorem noteTranslation (h : Within F s u) (hF : F.Reads) (a cause : Nat) : Within F s (u.noteTranslation a cause) := by
  unfold State.noteTranslation
  split_ifs
  · exact (h.bump _ (hF.objs _ (by decide))).setReg _ _ (hF.objs _ (by decide))
  · exact h

/-- An uncorrectable error of an SRAM region is counted with its offset and its fault source (02 R49). -/
theorem sramUncorrectable (h : Within F s u) (hF : F.Reads) (region offset : Nat) (hr : region < 65536 := by decide) :
    Within F s (u.sramUncorrectable region offset) :=
  ((h.bumpAt _ _ _ (hF.objs _ (by decide)) hr).setRegAt _ _ _ (hF.objs _ (by decide)) hr).occur _ hF.fault

theorem noteUncorrectable (h : Within F s u) (hF : F.Reads) (a : Nat) : Within F s (u.noteUncorrectable a) :=
  (((h.bump _ (hF.objs _ (by decide))).setReg _ _ (hF.objs _ (by decide))).occur _ hF.fault).memory _ hF.memory

theorem noteStagingBad (h : Within F s u) (hF : F.Reads) (offset : Nat) : Within F s (u.noteStagingBad offset) :=
  (h.sramUncorrectable hF 3 offset).memory _ hF.memory

/-- The uncorrectable words of a read are counted one by one (11 R269). -/
theorem noteBad (h : Within F s u) (hF : F.Reads) (staging : Bool) (words : List Nat) :
    Within F s (u.noteBad staging words) := by
  refine h.trans (foldl (fun t w => ?_) words u)
  split
  · exact (refl F t).noteStagingBad hF _
  · exact (refl F t).noteUncorrectable hF _

/-- A read of a device engine counts what its bursts meet (11 R269, R272). -/
theorem noteRead (h : Within F s u) (hF : F.Reads) (a n : Nat) : Within F s (noteRead a n u) := by
  refine h.trans (foldl (fun t b => ?_) _ u)
  dsimp only
  split
  · exact (refl F t).noteTranslation hF _ _
  · exact (refl F t).noteBad hF _ _

theorem pixelRead (h : Within F s u) (hF : F.Reads) (a n : Nat) (hx : F.crossings 2 = true := by decide) :
    Within F s (pixelRead a n u) := (h.noteRead hF a n).crossed 2 hx

theorem setTarget (h : Within F s u) (hF : F.Writes) (t : Target) (bs : Bytes) : Within F s (u.setTarget t bs) := by
  unfold State.setTarget
  split
  · exact (h.setStaging _ _ hF.staging).memory _ hF.memory
  · exact (h.setMem _ _ hF.mem).memory _ hF.memory

/-- A write over a calibration record of the region is watched (03 R86). -/
theorem noteCalWrite (h : Within F s u) (hF : F.Writes) (a n : Nat) : Within F s (u.noteCalWrite a n) := by
  unfold State.noteCalWrite
  split
  · exact h.noteFillInput hF.arm hF.layers
  · exact h

/-- A burst that a device engine writes: dropped, faulted with its counts, or written (11 R269, R272, R281, R288). -/
theorem writeDevice (h : Within F s u) (hF : F.Writes) (a : Nat) (bs : Bytes) : Within F s (writeDevice a bs u).2 := by
  unfold Machine.writeDevice
  dsimp only
  split
  · exact h.pipe _ (fun _ => rfl) hF.pipe
  · split_ifs
    · exact h.noteTranslation hF.toReads _ _
    · exact h.noteBad hF.toReads _ _
    · exact State.Within.noteCalWrite ((h.setTarget hF _ _).memory _ hF.memory) hF _ _

theorem writeBursts (h : Within F s u) (hF : F.Writes) (l : List (Nat × Nat)) (bs : Bytes) :
    Within F s (writeBursts l bs u).2 := by
  induction l generalizing u bs with
  | nil => exact h
  | cons b rest ih => exact ih (h.writeDevice hF _ _) _

end State.Within
end Sys2Proof.Machine
end

section
/-! The row in computation (02 R52): its footprint, and the row that follows it. -/

namespace Sys2Proof.Machine

set_option Elab.async false

/-! ### The footprint of a row -/

/-- What the computation of a row may touch: the pipeline without the place of the row, what its reads and writes count,
and crossings H02, H03 and H04. Of the objects neither the frame counters nor BAND_COUNT. -/
def rowFootprint : Footprint where
  parts := [.mem, .staging, .fault, .pipe, .layers, .memory, .safety]
  objs o := o != Obj.PIPELINE_FRAMES && o != Obj.DITHER_FRAME && o != Obj.BAND_COUNT
  tabs := true
  crossings k := [2, 3, 4].contains k

theorem rowFootprint_writes : rowFootprint.Writes where
  objs := by decide
  fault := by decide
  memory := by decide
  arm := by decide
  layers := by decide
  mem := by decide
  staging := by decide
  pipe := by decide

theorem rowFootprint_reads : rowFootprint.Reads := rowFootprint_writes.toReads

theorem rowFootprint_layerMisses (l : Nat) : rowFootprint.objs (Obj.LAYER_MISSES l) = true := by
  simp only [rowFootprint, Bool.and_eq_true, bne_iff_ne, ne_eq, Obj.LAYER_MISSES, Obj.PIPELINE_FRAMES, Obj.DITHER_FRAME,
    Obj.BAND_COUNT]
  omega

section Row

open State.Within

variable (s : State) (f : FrameWork) (p : State) (sails : List Sail) (fs : List RowFault)

/-! ### Stages 1 to 6 of a pixel -/

theorem countClips_within (c : Clips) : s.Within rowFootprint (s.countClips c) :=
  (((((refl _ s).bumpAt _ 0 _).bumpAt _ 0 _).bumpAt _ 0 _).bumpAt _ 0 _).bumpAt _ 0 _

theorem countCal_within (px : Nat) (o : CalOutcome) : s.Within rowFootprint (s.countCal px o) := by
  cases o with
  | good => exact refl _ s
  | disabled => exact refl _ s
  | badCrc => exact (((refl _ s).bump _).setReg _ _).occur 24
  | missing => exact ((((refl _ s).bump _).setReg _ _).occur 24).occur 27

theorem occurTimes_within (n k : Nat) : s.Within rowFootprint (times n (·.occur k) s) :=
  foldNSteps (fun t _ _ => (refl _ t).occur k) s

theorem composePixel_within (ft : PixelFaults) (x y : Nat) :
    s.Within rowFootprint (composePixel f p sails ft x y s) :=
  ((((((countClips_within s _).trans (countCal_within _ _ _)).bumpAt _ 0 _).bumpAt _ 0 _).trans
    (occurTimes_within _ _ 27))).modFrame _ fun _ => rfl

theorem composeOwn_within (y x : Nat) : s.Within rowFootprint (composeOwn f p sails fs y s x) := by
  unfold composeOwn
  split
  · exact composePixel_within s f p sails _ x y
  · split
    · exact composePixel_within s f p sails _ x y
    · exact refl _ s

theorem composeAhead_within (at' : Nat × Nat) : s.Within rowFootprint (composeAhead p sails s at') := by
  unfold composeAhead
  split
  · exact refl _ s
  · split
    · exact refl _ s
    · exact composePixel_within s _ p sails _ _ _

/-! ### Stages 7 to 10 of a pixel -/

theorem emitterOut_within (d6 : Nat → Nat → List Nat) (frozen : Frozen) (o : PixelOut) (x y c : Nat) :
    s.Within rowFootprint (emitterOut f p d6 frozen o x y c s) := by
  unfold emitterOut
  extract_lets e d7 g word s1 pipe s2
  have h1 : s.Within rowFootprint s1 := (countClips_within s _).bumpAt _ 0 _
  have h2 : s.Within rowFootprint s2 := by
    unfold s2
    split
    · exact h1.pipe _ fun _ => rfl
    · exact h1
  split
  · exact h1
  · split
    · exact h2
    · split
      · exact h2.modFrame _ fun _ => rfl
      · exact h2

theorem emitPixel_within (y x : Nat) : s.Within rowFootprint (emitPixel f p y s x) := by
  unfold emitPixel
  split
  · exact refl _ s
  · extract_lets d6 s1 s2
    have h1 : s.Within rowFootprint s1 := (refl _ s).modFrame _ fun _ => rfl
    have h2 : s.Within rowFootprint s2 := by
      unfold s2
      split
      · exact h1.layers _
      · exact h1
    exact h2.trans (foldNSteps (fun t c _ => emitterOut_within t f p d6 _ _ x y c) s2)

/-- The pixels of a row stay within its footprint. -/
theorem computeRow_within (y : Nat) : s.Within rowFootprint (computeRow f p sails fs y s) :=
  ((foldl (fun t x => composeOwn_within t f p sails fs y x) _ s).trans
    (foldl (fun t a => composeAhead_within t p sails a) _ _)).trans (foldl (fun t x => emitPixel_within t _ p y x) _ _)

/-! ### What a row counts, and the cut-off -/

theorem noteRow_within (views : List LayerView) (y : Nat) : s.Within rowFootprint (noteRow p views y s) := by
  unfold noteRow
  extract_lets first s1 s2
  have h1 : s.Within rowFootprint s1 := by
    unfold s1
    split
    · exact (refl _ s).pixelRead rowFootprint_reads _ _
    · exact refl _ s
  exact (h1.pixelRead rowFootprint_reads _ _).trans
    (foldl (fun t v => (refl _ t).pixelRead rowFootprint_reads _ _) views s2)

theorem cutOff_within : s.Within rowFootprint (cutOff f s) :=
  (((foldl (fun t l => (refl _ t).bump _ (rowFootprint_layerMisses l)) _ s).bump _).occur 26).modFrame _ fun _ => rfl

theorem resetEntry_within (obj entry : Nat) : s.Within rowFootprint (resetEntry obj entry s) := by
  unfold resetEntry
  split
  · exact refl _ s
  · exact ((refl _ s).setTab _ _ _).modFrame _ fun _ => rfl

theorem rowEcc_within : s.Within rowFootprint (rowEcc fs s) := by
  refine foldl (fun t e => ?_) fs s
  cases e with
  | bufferCorrected => exact (refl _ t).bumpAt _ 0 1
  | bufferUncorrectable x o => exact (refl _ t).sramUncorrectable rowFootprint_reads 0 o
  | tableCorrected => exact (refl _ t).bumpAt _ 5 1
  | tableUncorrectable obj entry o =>
    exact ((refl _ t).sramUncorrectable rowFootprint_reads 5 o).trans (resetEntry_within _ obj entry)
  | zoneUncorrectable z o => exact ((refl _ t).sramUncorrectable rowFootprint_reads 5 o).pipe _ fun _ => rfl
  | calMissing => exact refl _ t
  | doseMissing => exact refl _ t
  | layerMissing => exact refl _ t

/-! ### The end of a frame -/

theorem weirStep_within (sums : ZoneSums) (b : Int) (g : Nat) : s.Within rowFootprint (weirStep p sums b g s) := by
  unfold weirStep
  extract_lets zs area yOf yg col rho keepY x put safety white ratio isRed dY dark d moved counted held off y s1 safety1 s2 s3
  have hput : ∀ (x : WeirGroup) (t : State), t.Within rowFootprint (put x t) := fun _ t => (refl _ t).safety _
  have h2 : s.Within rowFootprint s2 := by
    unfold s2
    split
    · exact hput _ _
    · exact (hput _ _).safety _
  have h3 : s.Within rowFootprint s3 := by
    unfold s3
    split
    · exact h2.bump _
    · exact h2
  split
  · exact refl _ s
  · split
    · exact ((refl _ s).safety _).trans (hput _ _)
    · split
      · exact h3.bump _
      · exact h3

theorem updateMeans_within (sums : ZoneSums) : s.Within rowFootprint (updateMeans p sums s) := by
  refine foldNSteps (fun t z _ => ?_) s
  split
  · exact refl _ t
  · exact (refl _ t).safety _

theorem weirFrame_within (sums : ZoneSums) (b : Int) : s.Within rowFootprint (weirFrame p sums b s) :=
  (foldNSteps (fun t _ _ => weirStep_within t p sums b _) s).trans (updateMeans_within _ p sums)

theorem formEcho_within : s.Within rowFootprint (formEcho f p s) := by
  unfold formEcho
  extract_lets e layers w
  have hw : s.Within rowFootprint w.2 := State.Within.writeBursts (((refl _ s).layers _).crossed 3) rowFootprint_writes _ _
  split
  · exact hw.layers _
  · exact hw.bump _

/-! ### The row and the one after it -/

variable {s f}

/-- The state in which row (`f0.band`, `f0.row`) begins: cut off where time is too short, its errors counted. -/
def rowBegun (fs : List RowFault) (f0 : FrameWork) (s : State) : State :=
  rowEcc fs (if !f0.cutoff && !f0.evac && s.tooLate f0 then cutOff f0 s else s)

theorem rowBegun_within : s.Within rowFootprint (rowBegun fs f s) := by
  unfold rowBegun
  split
  · exact (cutOff_within s f).trans (rowEcc_within _ fs)
  · exact rowEcc_within s fs

/-- Row `y` computed, where the picture of `height` rows has it, with what the frame `f` and the objects `p` give: its words
are in the egress queues. -/
def rowComputed (f : FrameWork) (p : State) (fs : List RowFault) (y height : Nat) (s : State) : State :=
  if y < height then
    (noteRow p (if f.cutoff then f.views.filter (·.layer == 7) else f.views) y
      (computeRow f p ((List.range 16).map fun n => p.sail n f.showTime) fs y s)).crossed 4
  else s

theorem rowComputed_within (y height : Nat) : s.Within rowFootprint (rowComputed f p fs y height s) := by
  unfold rowComputed
  split
  · exact ((computeRow_within s f p _ fs y).trans (noteRow_within _ p _ y)).crossed 4
  · exact refl _ s

/-- The layer reads that failed are noted for their row only. -/
def State.forgetLayerReads (s : State) : State :=
  { s with pipe := { s.pipe with missing := s.pipe.missing.filter fun m => m.1 < 64 } }

/-- The row in computation of a frame that is not complete is computed within its footprint, and the next one is due. -/
theorem rowCompute_unfinished (hf : s.pipe.frame = some f) (hun : f.finished = false) :
    ∃ u, s.Within rowFootprint u ∧ rowCompute fs s = nextRow u := by
  let s1 := rowBegun fs f s
  let f1 := s1.pipe.frame.getD f
  let s2 := rowComputed f1 (s1.ofFrame f1) fs (f.band * s.scan.rows + f.row) s.height s1
  refine ⟨s2.forgetLayerReads, ?_, ?_⟩
  · exact ((rowBegun_within fs).trans (rowComputed_within _ fs _ _)).pipe _ fun _ => rfl
  · simp only [rowCompute, hf, hun]
    rfl

/-- A row of a complete frame computes nothing. -/
theorem rowCompute_finished (hf : s.pipe.frame = some f) (hfin : f.finished = true) : rowCompute fs s = s := by
  simp [rowCompute, hf, hfin]

/-- The computation of a row keeps the place of the row. -/
theorem row_frame {u : State} (h : s.Within rowFootprint u) (hf : s.pipe.frame = some f) :
    ∃ g, u.pipe.frame = some g ∧ g.k = f.k ∧ g.band = f.band ∧ g.row = f.row ∧ g.finished = f.finished ∧
      u.pipe.readyRows = s.pipe.readyRows := by
  have hplace := h.row rfl
  simp only [PipeState.place, hf, Prod.mk.injEq, Option.map_some, Option.map_eq_some_iff, FrameWork.place] at hplace
  obtain ⟨hready, g, hg, hk, hband, hrow, hfin⟩ := hplace
  exact ⟨g, hg, hk, hband, hrow, hfin, hready⟩

/-- What a row and the move to the next one may touch: every object too, and the place of the row. -/
def rowEndFootprint : Footprint := { rowFootprint with objs := fun _ => true, rowMoves := true }

theorem rowEnd_of_row {u : State} (h : s.Within rowFootprint u) : s.Within rowEndFootprint u :=
  h.mono (fun _ => id) (fun _ _ => rfl) id (fun _ => id) (fun _ => rfl)

variable (s) in
theorem modFrame_within (g : FrameWork → FrameWork) : s.Within rowEndFootprint (s.modFrame g) := (refl _ s).pipe _ nofun

/-- The frame `f` counted: the numbers of frames and of its dither position (03 R84, R88). -/
def State.countFrame (s : State) (f : FrameWork) : State :=
  (s.bump Obj.PIPELINE_FRAMES).setReg Obj.DITHER_FRAME (f.k % 256)

/-- The weir and the echo of the complete frame `f` (12 R315, 04 R118). -/
def judgeFrame (f : FrameWork) (p s : State) : State :=
  if f.echo then formEcho f p (weirFrame p f.sums f.startTime s) else weirFrame p f.sums f.startTime s

variable (s f) in
theorem judgeFrame_within : s.Within rowFootprint (judgeFrame f p s) := by
  unfold judgeFrame
  split
  · exact (weirFrame_within s p _ _).trans (formEcho_within _ f p)
  · exact weirFrame_within s p _ _

theorem finishFrame_eq (hf : s.pipe.frame = some f) :
    finishFrame s = (judgeFrame f (s.ofFrame f) (s.countFrame f)).modFrame fun fr => { fr with finished := true } := by
  simp only [finishFrame, hf]
  rfl

/-- The last row of a frame: the frame is complete and counted (03 R88). -/
theorem finishFrame_spec (hf : s.pipe.frame = some f) :
    (∃ g, (finishFrame s).pipe.frame = some g ∧ g.k = f.k ∧ g.finished = true) ∧
      (finishFrame s).pipe.readyRows = s.pipe.readyRows ∧
      (finishFrame s).reg Obj.PIPELINE_FRAMES = (s.reg Obj.PIPELINE_FRAMES + 1) % 2 ^ 32 ∧
      (finishFrame s).reg Obj.DITHER_FRAME = f.k % 256 ∧ s.Within rowEndFootprint (finishFrame s) := by
  rw [finishFrame_eq hf]
  have hcount : s.Within rowEndFootprint (s.countFrame f) := ((refl _ s).bump _).setReg _ _
  have hjudge := judgeFrame_within (s.countFrame f) f (s.ofFrame f)
  obtain ⟨g, hg, hk, -, -, -, hready⟩ := row_frame hjudge (f := f) hf
  have hcounted := hjudge.obj Obj.PIPELINE_FRAMES 0 rfl (by decide)
  have hdither := hjudge.obj Obj.DITHER_FRAME 0 rfl (by decide)
  refine ⟨⟨{ g with finished := true }, by simp [State.modFrame, hg], hk, rfl⟩, hready, hcounted.trans ?_,
    hdither.trans ?_, (hcount.trans (rowEnd_of_row hjudge)).trans (modFrame_within _ _)⟩
  · rw [← State.reg, State.countFrame, State.reg_setReg, if_neg (by decide), State.reg_bump, if_pos rfl]
    rfl
  · rw [← State.reg, State.countFrame, State.reg_setReg, if_pos rfl]

/-- The words of the row in computation of the frame `f` are ready. -/
def State.wordsReady (s : State) (f : FrameWork) : State :=
  { s with pipe := { s.pipe with readyRows := (f.band * 32 + f.row) :: s.pipe.readyRows } }

variable (s f) in
theorem wordsReady_within : s.Within rowEndFootprint (s.wordsReady f) := (refl _ s).pipe _ nofun

/-- The row that follows the row in computation (02 R52): the same row output of the next band, the next row output, or
none when the frame is complete. -/
theorem nextRow_eq (hf : s.pipe.frame = some f) :
    nextRow s = if f.band + 1 < s.bandCount then (s.wordsReady f).modFrame fun fr => { fr with band := f.band + 1 }
      else if f.row + 1 < s.scan.rows then (s.wordsReady f).modFrame fun fr => { fr with band := 0, row := f.row + 1 }
      else finishFrame (s.wordsReady f) := by
  unfold nextRow
  split
  next hnone => exact absurd (hnone.symm.trans hf) (by simp)
  next f1 hsome =>
    obtain rfl : f1 = f := Option.some.inj (hsome.symm.trans hf)
    rfl

/-- What the move to the next row leaves, case by case. -/
theorem nextRow_spec (hf : s.pipe.frame = some f) (hun : f.finished = false) :
    ∃ g, (nextRow s).pipe.frame = some g ∧ g.k = f.k ∧
      (nextRow s).pipe.readyRows = (f.band * 32 + f.row) :: s.pipe.readyRows ∧
      (f.band + 1 < s.bandCount → g.band = f.band + 1 ∧ g.row = f.row ∧ g.finished = false) ∧
      (s.bandCount ≤ f.band + 1 → f.row + 1 < s.scan.rows → g.band = 0 ∧ g.row = f.row + 1 ∧ g.finished = false) ∧
      (s.bandCount ≤ f.band + 1 → s.scan.rows ≤ f.row + 1 →
        g.finished = true ∧ (nextRow s).reg Obj.PIPELINE_FRAMES = (s.reg Obj.PIPELINE_FRAMES + 1) % 2 ^ 32 ∧
        (nextRow s).reg Obj.DITHER_FRAME = f.k % 256) ∧
      s.Within rowEndFootprint (nextRow s) := by
  have hready := wordsReady_within s f
  have hframe : (s.wordsReady f).pipe.frame = some f := hf
  rw [nextRow_eq hf]
  split_ifs with hband hrow
  · exact ⟨{ f with band := f.band + 1 }, by simp [State.modFrame, hframe], rfl, rfl, fun _ => ⟨rfl, rfl, hun⟩,
      fun h => by omega, fun h => by omega, hready.trans (modFrame_within _ _)⟩
  · exact ⟨{ f with band := 0, row := f.row + 1 }, by simp [State.modFrame, hframe], rfl, rfl, fun h => by omega,
      fun _ _ => ⟨rfl, rfl, hun⟩, fun _ h => by omega, hready.trans (modFrame_within _ _)⟩
  · obtain ⟨⟨g, hg, hk, hfin⟩, hrows, hcount, hdither, hwithin⟩ := finishFrame_spec hframe
    exact ⟨g, hg, hk, hrows, fun h => by omega, fun _ h => by omega, fun _ _ => ⟨hfin, hcount, hdither⟩,
      hready.trans hwithin⟩

end Row

/-- Settles O21: the row is computed within its footprint, which keeps its place, and `nextRow` moves on from there. -/
theorem pipelineRowsFollowInOrder : Obligations.PipelineRowsFollowInOrder := by
  refine ⟨fun s faults f hacts hf hun => ?_, fun s faults f hacts hf hfin => ?_⟩
  · obtain ⟨u, hu, hcompute⟩ := rowCompute_unfinished faults hf hun
    have hexec : exec (.pipelineRowCompute faults) s = .next (settle (nextRow u)) := by
      rw [← hcompute]
      exact onIsland_acts s _ 1 hacts
    obtain ⟨f1, hf1, hk, hband, hrow, hfin, hready⟩ := row_frame hu hf
    obtain ⟨g, hg, hgk, hrows, hnextBand, hnextRow, hlast, hnext⟩ := nextRow_spec hf1 (hfin.trans hun)
    have hbands : u.bandCount = s.bandCount := hu.obj Obj.BAND_COUNT 0 rfl (by decide)
    have hscan : u.scan = s.scan := hu.part .scan (by decide)
    have hframes : u.reg Obj.PIPELINE_FRAMES = s.reg Obj.PIPELINE_FRAMES :=
      hu.obj Obj.PIPELINE_FRAMES 0 rfl (by decide)
    rw [hbands, hband, hrow] at hnextBand
    rw [hbands, hband, hrow, hscan] at hnextRow hlast
    rw [hframes, hk] at hlast
    rw [hband, hrow, hready] at hrows
    have hall : s.Within rowEndFootprint (nextRow u) := (rowEnd_of_row hu).trans hnext
    refine ⟨_, g, hexec, hg, hgk.trans hk, hrows, hnextBand, hnextRow, hlast, fun h hh => hall.cross h ?_, hall.frame ?_
      (by simp) (by simp) (by simp)⟩
    · simpa [rowEndFootprint, rowFootprint] using hh
    · decide
  · refine ⟨settle s, ?_, (State.Within.refl {} s).frame (by simp) (by simp) (by simp) (by simp)⟩
    exact (onIsland_acts s _ 1 hacts).trans (by rw [rowCompute_finished faults hf hfin])

end Sys2Proof.Machine
end

section
/-! The frame catch (04 R99, 03 R56, 12 R301, R310, 14 R354): what its parts touch outside the scan drive. -/

namespace Sys2Proof.Machine

set_option Elab.async false

/-- What a frame catch may touch outside the scan drive: of the objects neither the time of the catch, nor the state of the
scan drive and its bands. -/
def boundaryFootprint : Footprint where
  parts := [.mem, .staging, .beacon, .device, .fault, .pipe, .layers, .diag, .rails, .memory, .safety, .power, .out,
    .traffic]
  objs o := o != Obj.LAST_FRAME_CATCH && o != Obj.SCAN_STATE && o != Obj.BAND_COUNT
  tabs := true
  crossings _ := true
  rowMoves := true

theorem boundaryFootprint_writes : boundaryFootprint.Writes where
  objs := by decide
  fault := by decide
  memory := by decide
  arm := by decide
  layers := by decide
  mem := by decide
  staging := by decide
  pipe := by decide

theorem boundaryFootprint_reads : boundaryFootprint.Reads := boundaryFootprint_writes.toReads

/-- An object of a layer is within the footprint. -/
theorem boundaryFootprint_layerObj {o : Nat} (h1 : 0x341000 ≤ o) (h2 : o < 0x341800) : boundaryFootprint.objs o = true := by
  simp only [boundaryFootprint, Bool.and_eq_true, bne_iff_ne, ne_eq, Obj.LAST_FRAME_CATCH, Obj.SCAN_STATE, Obj.BAND_COUNT]
  omega

section Boundary

open State.Within

variable (s : State)

/-! ### The boundary of the layers (04 R99) -/

theorem releaseBuffers_within : s.Within boundaryFootprint (releaseBuffers s) := by
  refine foldNSteps (fun t l _ => ?_) s
  split
  · exact refl _ t
  · exact ((refl _ t).event _ _).setLayer _ _

theorem destroyLayers_within : s.Within boundaryFootprint (destroyLayers s) := by
  refine foldNSteps (fun t l hl => ?_) s
  split
  · refine ((refl _ t).clearRegs _ fun o ho => ?_).setLayer _ _
    simp only [layerObjects, List.mem_filter, List.mem_map, List.mem_range] at ho
    obtain ⟨⟨i, hi, rfl⟩, -⟩ := ho
    exact boundaryFootprint_layerObj (by omega) (by omega)
  · exact refl _ t

theorem takeStreams_within : s.Within boundaryFootprint (takeStreams s) := by
  refine foldNSteps (fun t l _ => ?_) s
  unfold takeStream
  dsimp only
  split_ifs
  · exact refl _ t
  · exact (refl _ t).setLayer _ _
  · exact (refl _ t).setLayer _ _
  · exact (refl _ t).setLayer _ _

theorem evaluateLinkLoss_within : s.Within boundaryFootprint (evaluateLinkLoss s) := by
  refine (foldNSteps (fun t l _ => ?_) s).setFlag _ _
  dsimp only
  split
  · exact ((refl _ t).setLayer _ _).setLayer _ _
  · exact (refl _ t).setLayer _ _

theorem decideFlip_within (l : Nat) (b b1 : Int) (hl : l < 7) : s.Within boundaryFootprint (decideFlip l b b1 s) := by
  have hobj : ∀ i, i < 256 → boundaryFootprint.objs (0x341000 + i + 256 * l) = true := fun i hi =>
    boundaryFootprint_layerObj (by omega) (by omega)
  unfold decideFlip
  split
  · exact refl _ s
  · exact (refl _ s).bump _ (hobj 0x24 (by omega))
  · exact ((((refl _ s).setReg _ _ (hobj (Obj.LAYER_CURRENT_BUFFER 0 - 0x341000) (by decide))).bump _
      (hobj (Obj.LAYER_FLIPS 0 - 0x341000) (by decide))).setReg _ _
      (hobj (Obj.LAYER_LAST_FLIP_TIME 0 - 0x341000) (by decide))).setLayer _ _

theorem decideFlips_within (b b1 : Int) : s.Within boundaryFootprint (decideFlips b b1 s) :=
  ((foldNSteps (fun t l hl => decideFlip_within t l b b1 hl) s).trans
    (foldNSteps (fun t _ _ => (refl _ t).setFence _ _) _)).setFlag _ _

theorem clearStore_within : s.Within boundaryFootprint (clearStore s) := ((refl _ s).setBeacon _ _).setFlag _ _

theorem finishDisarm_within : s.Within boundaryFootprint (finishDisarm s) := by
  unfold finishDisarm
  split
  · exact ((clearStore_within s).setReg _ _).layers _
  · exact refl _ s

theorem noteStale_within : s.Within boundaryFootprint (noteStale s) := by
  unfold noteStale
  split
  · exact (refl _ s).setReg _ _
  · exact refl _ s

theorem bringRefill_within (b : Int) : s.Within boundaryFootprint (bringRefill b s) := by
  unfold bringRefill
  split
  · exact refl _ s
  · exact ((((((refl _ s).of_fields (beacon := .inl (by decide)) (layers := .inl (by decide))).trans
      (noteStale_within _)).setFlag _ _).setReg _ _).setReg _ _).bump _

theorem boundaryTail_within (b b1 : Int) : s.Within boundaryFootprint (boundaryTail b b1 s) :=
  ((decideFlips_within s b b1).trans (finishDisarm_within _)).trans (bringRefill_within _ b)

/-- The first steps of a boundary without a batch to apply (04 R99). -/
theorem boundaryHead_within (b : Int) (hbatch : s.cop.batch = none) : s.Within boundaryFootprint (boundaryHead b s) := by
  have hidle : applyAtBoundary b s = s := by simp [applyAtBoundary, hbatch]
  unfold boundaryHead
  rw [hidle]
  exact (((releaseBuffers_within s).trans (destroyLayers_within _)).trans (takeStreams_within _)).trans
    (evaluateLinkLoss_within _)

/-! ### S1 and the evacuation display at the boundary (14 R354, 12 R301, R310) -/

theorem suspendRings_within : s.Within boundaryFootprint (suspendRings s) := by
  refine foldNSteps (fun t r hr => ?_) s
  split
  · refine ((refl _ t).bump _ ?_).setRing _ _
    simp only [boundaryFootprint, Bool.and_eq_true, bne_iff_ne, ne_eq, Obj.RING_PREEMPTIONS, Obj.LAST_FRAME_CATCH,
      Obj.SCAN_STATE, Obj.BAND_COUNT]
    omega
  · exact refl _ t

theorem enterSelfRefresh_within : s.Within boundaryFootprint (enterSelfRefresh s) := by
  unfold enterSelfRefresh
  split
  · exact ((refl _ s).setReg _ _).emit _
  · exact refl _ s

/-- The last step into S1, with LPDDR5 in self-refresh (14 R354). -/
def sleepS1 (s : State) : State :=
  { s.setReg Obj.SLEEP_STATE 1 with
    power := { s.power with s1Wanted := false, inS1 := true, s1Wake := none, s1Blank := true
                            blankStood := s.blankDemand }
    device := { s.device with gating := [1, 2], holds := [] } }

theorem enterS1_eq : enterS1 s = sleepS1 (enterSelfRefresh (suspendRings s)) := rfl

theorem sleepS1_within : s.Within boundaryFootprint (sleepS1 s) :=
  ((refl _ s).setReg Obj.SLEEP_STATE 1).of_fields (device := .inl (by decide)) (power := .inl (by decide))

theorem enterS1_within : s.Within boundaryFootprint (enterS1 s) := by
  rw [enterS1_eq]
  exact ((suspendRings_within s).trans (enterSelfRefresh_within _)).trans (sleepS1_within _)

theorem sleepBoundary_within : s.Within boundaryFootprint (sleepBoundary s) := by
  unfold sleepBoundary
  split_ifs
  · exact enterS1_within s
  · exact refl _ s
  · split
    · split
      · exact (refl _ s).power _
      · exact refl _ s
    · exact (refl _ s).power _

theorem abandonFill_within : s.Within boundaryFootprint (abandonFill s) := by
  unfold abandonFill
  split
  · exact (refl _ s).layers _
  · exact refl _ s

theorem endDisplay_within : s.Within boundaryFootprint (endDisplay s) :=
  (((refl _ s).setReg _ _).setReg _ _).safety _

theorem evacBoundary_within (b : Int) : s.Within boundaryFootprint (evacBoundary b s) := by
  unfold evacBoundary
  split_ifs
  · exact endDisplay_within s
  · exact refl _ s
  · split
    · exact refl _ s
    · split
      · exact refl _ s
      · extract_lets cold s1 s2
        have h2 : s.Within boundaryFootprint s2 := by
          unfold s2
          split
          · exact ((refl _ s).setReg _ _).setReg _ _
          · exact (refl _ s).setReg _ _
        exact (h2.safety _).trans (abandonFill_within _)

/-! ### The pipeline start (03 R56) -/

theorem swapTable_within (obj : Nat) : s.Within boundaryFootprint (swapTable obj s) :=
  have htab : s.Within boundaryFootprint _ := foldl (fun t e => (refl _ t).setTab _ _ _) _ s
  htab.pipe _ nofun

theorem swapTables_within : s.Within boundaryFootprint (swapTables s) := by
  unfold swapTables
  extract_lets evac due s1
  have h1 : s.Within boundaryFootprint s1 := by
    refine foldl (fun t o => ?_) due s
    dsimp only
    have hswap : t.Within boundaryFootprint ((swapTable o t).bump Obj.TABLE_SWAPS) := (swapTable_within t o).bump _
    split
    · exact hswap.noteFillInput rfl (by decide)
    · exact hswap
  refine h1.trans (foldNSteps (fun t p _ => ?_) s1)
  dsimp only
  split
  · exact refl _ t
  · have hforce : ∀ x, t.Within boundaryFootprint ((t.setProfile p x).bump Obj.TABLE_SWAPS) := fun x =>
      ((refl boundaryFootprint t).pipe _ nofun).bump _
    split
    · exact (hforce _).noteFillInput rfl (by decide)
    · exact hforce _

theorem swapAll_within : s.Within boundaryFootprint (swapAll s) := by
  unfold swapAll
  dsimp only
  split
  · exact (swapTables_within s).setReg _ _
  · exact swapTables_within s

theorem weirRegroup_within : s.Within boundaryFootprint (weirRegroup s) := by
  unfold weirRegroup
  dsimp only
  split
  · exact refl _ s
  · exact (refl _ s).safety _

theorem setCeilings_within (b : Int) : s.Within boundaryFootprint (setCeilings b s) := ((refl _ s).setReg _ _).safety _

theorem updateGains_within : s.Within boundaryFootprint (updateGains s) := by
  unfold updateGains
  extract_lets cap margin rise gain s1
  have h1 : s.Within boundaryFootprint s1 := foldNSteps (fun t _ _ => (refl _ t).setTab _ _ _) s
  split
  · exact h1.bump _
  · exact h1

theorem startFill_within : s.Within boundaryFootprint (startFill s) := by
  unfold startFill
  dsimp only
  split_ifs
  · exact refl _ s
  · exact ((refl _ s).layers _).setReg _ _
  · exact ((((refl _ s).setReg _ _).setReg _ _).layers _).setReg _ _
  · exact (refl _ s).layers _
  · exact refl _ s

theorem replanVSafe_within : s.Within boundaryFootprint (replanVSafe s) := by
  unfold replanVSafe
  split
  · exact refl _ s
  · refine foldNSteps (fun t n hn => ?_) s
    refine (refl _ t).setReg _ _ ?_
    simp only [boundaryFootprint, Bool.and_eq_true, bne_iff_ne, ne_eq, Obj.RAIL_V_SAFE_IN_FORCE, Obj.LAST_FRAME_CATCH,
      Obj.SCAN_STATE, Obj.BAND_COUNT]
    omega

theorem publishStats_within : s.Within boundaryFootprint (publishStats s) :=
  (((refl _ s).pixelRead boundaryFootprint_reads _ _).setTab _ _ _).trans (replanVSafe_within _)

theorem endRound_within : s.Within boundaryFootprint (endRound s) := by
  unfold endRound
  dsimp only
  split_ifs
  · exact ((refl _ s).bump _).diag _
  · exact ((refl _ s).bump _).diag _
  · exact ((((refl _ s).bump _).diag _).bump _).trans (publishStats_within _)
  · exact ((refl _ s).bump _).diag _

theorem startRound_within (k : Nat) : s.Within boundaryFootprint (startRound k s) := by
  unfold startRound
  split
  · exact refl _ s
  · extract_lets s1 black set s2 first diag s3
    have h1 : s.Within boundaryFootprint s1 := by
      unfold s1
      split
      · exact refl _ s
      · exact endRound_within s
    have h2 : s.Within boundaryFootprint s2 := by
      unfold s2
      split
      · exact h1.bump _
      · exact h1
    refine (h2.diag _).trans (foldNSteps (fun t b _ => ?_) s3)
    split
    · exact refl _ t
    · exact (refl _ t).emit _

theorem showPhases_within (showTime : Int) : s.Within boundaryFootprint (showPhases showTime s) := by
  refine foldNSteps (fun t n hn => ?_) s
  split
  · refine (refl _ t).setReg _ _ ?_
    simp only [boundaryFootprint, Bool.and_eq_true, bne_iff_ne, ne_eq, Obj.SAIL_PHASE, Obj.LAST_FRAME_CATCH,
      Obj.SCAN_STATE, Obj.BAND_COUNT]
    omega
  · exact refl _ t

/-- The last step of a pipeline start: the new frame is in computation, with no row ready. -/
def openFrameWork (k : Nat) (f : FrameWork) (s : State) : State :=
  { s with
    pipe := { s.pipe with frame := some f, nextFrame := k + 1, words := [], readyRows := [], missing := [] }
    layers := { s.layers with echoTap := [] } }

theorem openFrameWork_within (k : Nat) (f : FrameWork) : s.Within boundaryFootprint (openFrameWork k f s) :=
  (refl _ s).of_fields (row := nofun) (pipe := .inl (by decide)) (layers := .inl (by decide))

theorem pipelineStart_eq (b b1 : Int) (missed : Bool) :
    ∃ k f, pipelineStart b b1 missed s = openFrameWork k f
      (showPhases b1 (startRound k (startFill (updateGains (setCeilings b (weirRegroup (swapAll s))))))) :=
  ⟨_, _, rfl⟩

/-- A pipeline start touches neither the scan drive nor its bands (03 R56). -/
theorem pipelineStart_within (b b1 : Int) (missed : Bool) :
    s.Within boundaryFootprint (pipelineStart b b1 missed s) := by
  obtain ⟨k, f, he⟩ := pipelineStart_eq s b b1 missed
  rw [he]
  exact (((((((swapAll_within s).trans (weirRegroup_within _)).trans (setCeilings_within _ b)).trans
    (updateGains_within _)).trans (startFill_within _)).trans (startRound_within _ k)).trans
    (showPhases_within _ b1)).trans (openFrameWork_within _ k f)

end Boundary
end Sys2Proof.Machine
end

section
/-! The catches of the grid (08 R217, R218, 02 R42): a scan catch whose time has come is issued. -/

namespace Sys2Proof.Machine

set_option Elab.async false

/-! ### Footprints of a catch -/

/-- What the judgement of the probes at a catch may touch (06 R159). -/
def probeFootprint : Footprint where
  parts := [.fault, .diag]
  objs o := o == Obj.PROBE_RESULTS_LOST || o == Obj.PROBES_TAKEN

/-- What a catch may touch once it is noted: of the objects those of the domain switches and of the probes. -/
def catchFootprint : Footprint where
  parts := [.time, .scan, .fault, .diag, .traffic]
  objs o := o == Obj.DOMAIN_SWITCHES || o == Obj.PROBE_RESULTS_LOST || o == Obj.PROBES_TAKEN

/-- What a catch between frame catches may touch once its alignment is noted. -/
def notedFootprint : Footprint :=
  { catchFootprint with objs := fun o => catchFootprint.objs o || o == Obj.CATCH_REANCHORS }

/-- What an aligned catch between frame catches may touch. -/
def alignedFootprint : Footprint := { notedFootprint with crossings := (· == 7) }

/-- What an unaligned catch between frame catches may touch. -/
def unalignedFootprint : Footprint :=
  { notedFootprint with objs := fun o => notedFootprint.objs o || o == Obj.CATCHES_UNALIGNED }

/-- Occurrences of fault source `n` that wait to be seen (13 R327). -/
def State.waitingRises (s : State) (n : Nat) : Nat := Sparse.get (fun _ => 0) s.fault.waiting n

section Catch

open State.Within

variable {s u : State}

theorem noted_of_catch (h : s.Within catchFootprint u) : s.Within notedFootprint u :=
  h.mono (fun _ => id) (fun o ho => by simp [notedFootprint, ho]) id nofun id

theorem aligned_of_noted (h : s.Within notedFootprint u) : s.Within alignedFootprint u :=
  h.mono (fun _ => id) (fun _ => id) id nofun id

theorem unaligned_of_noted (h : s.Within notedFootprint u) : s.Within unalignedFootprint u :=
  h.mono (fun _ => id) (fun o ho => by simp [unalignedFootprint, ho]) id nofun id

theorem catch_of_probes (h : s.Within probeFootprint u) : s.Within catchFootprint u :=
  h.mono (by decide) (fun o ho => by simp_all [probeFootprint, catchFootprint, or_assoc]) id nofun id

theorem catch_bandCount (h : s.Within catchFootprint u) : u.bandCount = s.bandCount :=
  h.obj Obj.BAND_COUNT 0 rfl (by decide)

/-! ### The time of the catch (R217, R218) -/

theorem transmit_zero (s : State) (p : Port) : transmit 0 s p = s := by simp [transmit, framesIn, codewordsIn, foldN]

theorem transmitBoth_zero (s : State) : transmitBoth 0 s = s := by rw [transmitBoth, transmit_zero, transmit_zero]

/-- What the passing of time may touch while no tick passes. -/
def standFootprint : Footprint where
  parts := [.time, .traffic]

theorem noted_of_stand (h : s.Within standFootprint u) : s.Within notedFootprint u :=
  h.mono (by decide) nofun nofun nofun nofun

/-- No tick passes, and nothing of the catch generator moves. -/
theorem tickMany_zero (s : State) :
    s.Within standFootprint (tickMany 0 s) ∧ (tickMany 0 s).time.catchGen = s.time.catchGen := by
  simp only [tickMany, transmitBoth_zero]
  exact ⟨(refl _ s).of_fields (time := .inl (by decide)) (traffic := .inl (by decide)), trivial⟩

/-- The generator issues at once when the domain time of the catch has come. -/
theorem runToCatch_of_due (hun : s.time.catchGen.unaligned = false) (hdue : s.catchTime ≤ s.now) :
    runToCatch s = tickMany 0 s := by
  have hcount : s.strokeCountTick = none := by simp [State.strokeCountTick, hun]
  have hlate : ¬ (s.now : Int) < s.catchTime := by omega
  have hleft : (s.catchTime - s.now).toNat = 0 := by omega
  have hceil : ∀ k, ceilDiv 0 (max 1 k) = 0 := fun k => Nat.div_eq_of_lt (by omega)
  simp only [runToCatch, hcount, hlate, decide_false, Bool.false_eq_true, if_false, hleft, hceil]

/-- BAND issues an unaligned catch at once when its stroke count is reached. -/
theorem runToCatch_of_strokes (hcount : s.strokeCountTick = some s.ticks) : runToCatch s = tickMany 0 s := by
  simp [runToCatch, hcount]

/-- The grid depends on CATCH_ORIGIN and the timing alone. -/
theorem gridCatch_of (ho : u.reg Obj.CATCH_ORIGIN = s.reg Obj.CATCH_ORIGIN) (hs : u.scan = s.scan) (m : Int) (j : Nat) :
    u.gridCatch m j = s.gridCatch m j := by
  simp only [State.gridCatch, State.gridFrame, State.gridOrigin, ho, hs]

/-! ### The records of the catch -/

@[simp] theorem waitingRises_occur (s : State) (n k : Nat) :
    (s.occur n).waitingRises k = if k = n then min (s.waitingRises n + 1) 65535 else s.waitingRises k := by
  simp [State.waitingRises, State.occur]

theorem waitingRises_occur_pos (n k : Nat) (h : 0 < s.waitingRises k) : 0 < (s.occur n).waitingRises k := by
  rw [waitingRises_occur]
  split
  · omega
  · exact h

/-- The generator after the catch is noted. -/
def CatchState.noted (g : CatchState) (tick : Nat) : CatchState :=
  { g with unaligned := false, reanchor := false, lastTick := some tick }

/-- The H07 crossing of an aligned catch, or the count of an unaligned one (02 R42). -/
def noteAlignment (s : State) : State :=
  if s.time.catchGen.unaligned then (s.bump Obj.CATCHES_UNALIGNED).occur 58 else s.crossed 7

/-- The count of a catch that is re-anchored (08 R219). -/
def noteReanchor (s : State) : State :=
  if s.time.catchGen.reanchor then (s.bump Obj.CATCH_REANCHORS).occur 57 else s

/-- The generator notes the catch. -/
def noteTick (s : State) : State := s.modCatch fun g => g.noted s.ticks

theorem noteCatch_eq (isFrame : Bool) (b : Int) (s : State) : noteCatch isFrame b s =
    if isFrame then (noteTick (noteReanchor (noteAlignment s))).setReg Obj.LAST_FRAME_CATCH (packTime (b.toNat * 4294967296))
    else noteTick (noteReanchor (noteAlignment s)) := by
  unfold noteCatch noteReanchor noteAlignment
  by_cases hu : s.time.catchGen.unaligned = true <;> simp [hu] <;> rfl

@[simp] theorem noteAlignment_catchGen (s : State) : (noteAlignment s).time.catchGen = s.time.catchGen := by
  unfold noteAlignment
  split <;> rfl

@[simp] theorem noteReanchor_catchGen (s : State) : (noteReanchor s).time.catchGen = s.time.catchGen := by
  unfold noteReanchor
  split <;> rfl

theorem noteReanchor_within (s : State) :
    s.Within { parts := [.fault], objs := (· == Obj.CATCH_REANCHORS) } (noteReanchor s) := by
  unfold noteReanchor
  split
  · exact ((refl _ s).bump _).occur _
  · exact refl _ s

theorem noteReanchor_rises_pos (k : Nat) (h : 0 < s.waitingRises k) : 0 < (noteReanchor s).waitingRises k := by
  unfold noteReanchor
  split
  · exact waitingRises_occur_pos _ _ h
  · exact h

theorem noteReanchor_counts (h : s.time.catchGen.reanchor = true) :
    (noteReanchor s).reg Obj.CATCH_REANCHORS = (s.reg Obj.CATCH_REANCHORS + 1) % 2 ^ 32 ∧
      0 < (noteReanchor s).waitingRises 57 := by
  rw [noteReanchor, if_pos h]
  refine ⟨?_, by simp⟩
  simp [State.reg_bump]
  rfl

/-! ### The probes and the bands at a catch (05 R123, 06 R159) -/

theorem times_keeps {P : State → Prop} {op : State → State} (h : ∀ t, P t → P (op t)) (n : Nat) (hs : P s) :
    P (times n op s) := by
  unfold times foldN
  induction List.range n generalizing s with
  | nil => exact hs
  | cons _ _ ih => exact ih (h s hs)

/-- The judgement of a probe set touches the probes' records and counts alone, and takes no rise away. -/
theorem judgeSet_keeps (x : ProbeSet) (k : Nat) :
    s.Within probeFootprint (if x.complete then acceptSet x s else loseSet x s) ∧
      (0 < s.waitingRises k → 0 < (if x.complete then acceptSet x s else loseSet x s).waitingRises k) := by
  split
  · exact ⟨((refl _ s).bumpAt _ _ _).diag _, id⟩
  · have hlost : s.Within probeFootprint (s.bumpAt Obj.PROBE_RESULTS_LOST 0 x.expected.length) := (refl _ s).bumpAt _ _ _
    exact ⟨times_keeps (fun _ ht => ht.occur 43) _ hlost,
      fun h => times_keeps (P := fun t => 0 < t.waitingRises k) (fun _ ht => waitingRises_occur_pos 43 k ht) _ h⟩

theorem closeProbes_within (s : State) : s.Within probeFootprint (closeProbes s) :=
  ((refl _ s).diag _).trans (foldl (fun t x => (judgeSet_keeps (s := t) x 0).1) _ _)

theorem closeProbes_rises_pos (k : Nat) (h : 0 < s.waitingRises k) : 0 < (closeProbes s).waitingRises k := by
  have hfold : ∀ (l : List ProbeSet) (t : State), 0 < t.waitingRises k →
      0 < (l.foldl (fun t x => if x.complete then acceptSet x t else loseSet x t) t).waitingRises k := by
    intro l
    induction l with
    | nil => exact fun _ ht => ht
    | cons x l ih => exact fun t ht => ih _ ((judgeSet_keeps x k).2 ht)
  exact hfold _ _ h

/-- Steps over the bands that each move their own band alone. -/
theorem band_foldN {f : State → Nat → State} {g : Nat → BandState → BandState}
    (h : ∀ t i j, (f t i).band j = if j = i then g i (t.band i) else t.band j) (n : Nat) (s : State) (j : Nat) :
    (foldN n f s).band j = if j < n then g j (s.band j) else s.band j := by
  induction n with
  | zero => simp [foldN]
  | succ n ih =>
    have hstep : foldN (n + 1) f s = f (foldN n f s) n := by simp [foldN, List.range_succ]
    rw [hstep, h]
    by_cases hj : j = n
    · subst hj
      rw [if_pos rfl, ih, if_neg (Nat.lt_irrefl _), if_pos (Nat.lt_succ_self _)]
    · rw [if_neg hj, ih]
      exact if_congr (by omega) rfl rfl

theorem passCatch_band (isFrame : Bool) (s : State) (b : Nat) : (passCatch isFrame s).band b =
    if s.scan.strokes = true ∧ s.scan.stopReady = false ∧ b < s.bandCount then
      (s.band b).caught isFrame (s.bandBlank b) else s.band b := by
  unfold passCatch
  by_cases hidle : (!s.scan.strokes || s.scan.stopReady) = true
  · rw [if_pos hidle, if_neg fun h => by simp [h.1, h.2.1] at hidle]
  · rw [if_neg hidle,
      band_foldN (g := fun i x => x.caught isFrame (s.bandBlank i)) (fun t i j => State.band_setBand t i j _)]
    simp only [Bool.or_eq_true, Bool.not_eq_eq_eq_not, Bool.not_true, not_or, Bool.not_eq_false, Bool.not_eq_true] at hidle
    exact if_congr (by simp [hidle.1, hidle.2]) rfl rfl

theorem passCatch_within (isFrame : Bool) (s : State) : s.Within catchFootprint (passCatch isFrame s) := by
  unfold passCatch
  split
  · exact refl _ s
  · exact foldNSteps (fun t _ _ => (refl _ t).setBand _ _) s

/-- A catch leaves the scan drive but for its bands. -/
theorem passCatch_keeps {α : Type} (p : State → α) (hp : ∀ t b x, p (t.setBand b x) = p t) (isFrame : Bool) (s : State) :
    p (passCatch isFrame s) = p s := by
  unfold passCatch
  split
  · rfl
  · exact foldN_keeps _ p (fun t b => hp t b _) _ _

/-- The settings that a band applies do not depend on its blanking between frame catches. -/
theorem caught_scan (x : BandState) (blanks blanks1 : Bool) : x.caught false blanks = x.caught false blanks1 := by
  simp [BandState.caught]

/-! ### The switch of domains and the next catch (R218 to R221) -/

theorem switchAfterCatch_spec (d : Nat) (s : State) : s.Within catchFootprint (switchAfterCatch d s) ∧
    (switchAfterCatch d s).fault = s.fault ∧ (switchAfterCatch d s).scan = s.scan ∧
    ∃ d1 off, (switchAfterCatch d s).time.catchGen = { s.time.catchGen with dom := d1, offset := off } := by
  unfold switchAfterCatch
  split
  · exact ⟨refl _ s, rfl, rfl, _, _, rfl⟩
  next hne =>
    unfold followDomain
    rw [if_neg hne]
    exact ⟨(((refl catchFootprint s).modCatch _).bump _).modCatch _, rfl, rfl, _, _, rfl⟩

theorem switchDomains_spec (s : State) : s.Within catchFootprint (switchDomains s) ∧
    (switchDomains s).fault = s.fault ∧ (switchDomains s).scan = s.scan ∧
    ∃ d off, (switchDomains s).time.catchGen =
      { s.time.catchGen with hostDom := none, autoDom := none, dom := d, offset := off } := by
  have hmap : ∀ (o : Option Nat) (t : State), t.Within catchFootprint ((o.map fun d => switchAfterCatch d t).getD t) ∧
      ((o.map fun d => switchAfterCatch d t).getD t).fault = t.fault ∧
      ((o.map fun d => switchAfterCatch d t).getD t).scan = t.scan ∧
      ∃ d1 off, ((o.map fun d => switchAfterCatch d t).getD t).time.catchGen =
        { t.time.catchGen with dom := d1, offset := off } := by
    intro o t
    cases o with
    | none => exact ⟨refl _ t, rfl, rfl, _, _, rfl⟩
    | some d => exact switchAfterCatch_spec d t
  have h0 : s.Within catchFootprint (s.modCatch fun x => { x with hostDom := none, autoDom := none }) := (refl _ s).modCatch _
  obtain ⟨hw1, hf1, hs1, d1, off1, hg1⟩ := hmap s.time.catchGen.autoDom
    (s.modCatch fun x => { x with hostDom := none, autoDom := none })
  obtain ⟨hw2, hf2, hs2, d2, off2, hg2⟩ := hmap s.time.catchGen.hostDom
    ((s.time.catchGen.autoDom.map fun d =>
      switchAfterCatch d (s.modCatch fun x => { x with hostDom := none, autoDom := none })).getD
        (s.modCatch fun x => { x with hostDom := none, autoDom := none }))
  exact ⟨(h0.trans hw1).trans hw2, hf2.trans hf1, hs2.trans hs1, d2, off2, hg2.trans (by rw [hg1]; rfl)⟩

theorem reanchor_within (s : State) : s.Within catchFootprint (reanchor s) := by
  unfold reanchor
  extract_lets s1 m
  have h1 : s.Within catchFootprint s1 := (refl _ s).modCatch _
  exact h1.modCatch _

/-- The next catch of the grid is due: the next one of the frame, or the first one of the next frame, unless that one is
re-anchored. -/
theorem scheduleNext_spec (s : State) : s.Within catchFootprint (scheduleNext s) ∧
    (scheduleNext s).fault = s.fault ∧ (scheduleNext s).scan = s.scan ∧
    ∃ m j off r, (scheduleNext s).time.catchGen = { s.time.catchGen with m := m, j := j, offset := off, reanchor := r } ∧
      (s.time.catchGen.j + 1 < s.scan.timing.cycles → m = s.time.catchGen.m ∧ j = s.time.catchGen.j + 1) ∧
      (s.scan.timing.cycles ≤ s.time.catchGen.j + 1 → j = 0 ∧ (r = false → m = s.time.catchGen.m + 1)) := by
  by_cases hj : s.time.catchGen.j + 1 < s.scan.timing.cycles
  · simp only [scheduleNext, if_pos hj, Nat.add_eq_zero_iff, one_ne_zero, and_false, decide_false, Bool.false_and,
      Bool.false_eq_true, if_false]
    exact ⟨((refl _ s).modCatch _).modCatch _, rfl, rfl, _, _, _, _, rfl, fun _ => ⟨rfl, rfl⟩, fun h => by omega⟩
  · simp only [scheduleNext, if_neg hj, decide_true, Bool.true_and, decide_eq_true_eq]
    split
    · exact ⟨((refl catchFootprint s).modCatch _).trans (reanchor_within _), rfl, rfl, _, _, _, true, rfl, fun h => by omega,
        fun _ => ⟨rfl, nofun⟩⟩
    · exact ⟨((refl _ s).modCatch _).modCatch _, rfl, rfl, _, _, _, _, rfl, fun h => by omega,
        fun _ => ⟨rfl, fun _ => rfl⟩⟩

/-! ### A catch between frame catches -/

/-- What a catch does once it is noted, between frame catches. -/
def passScanCatch (s : State) : State := scheduleNext (switchDomains (passCatch false (closeProbes s)))

theorem doCatch_of_scan (hj : s.time.catchGen.j ≠ 0) :
    doCatch s = passScanCatch (noteTick (noteReanchor (noteAlignment s))) := by
  have hframe : (s.time.catchGen.j == 0) = false := by simpa using hj
  simp only [doCatch, hframe, Bool.false_eq_true, if_false, noteCatch_eq]
  rfl

/-- What a catch between frame catches leaves, once it is noted. -/
theorem passScanCatch_spec (s : State) : s.Within catchFootprint (passScanCatch s) ∧
    (∀ k, 0 < s.waitingRises k → 0 < (passScanCatch s).waitingRises k) ∧
    (∀ b, (passScanCatch s).band b = if s.scan.strokes = true ∧ s.scan.stopReady = false ∧ b < s.bandCount then
      (s.band b).caught false (s.bandBlank b) else s.band b) ∧
    ∃ m j off r d, (passScanCatch s).time.catchGen =
        { s.time.catchGen with
          m := m, j := j, offset := off, reanchor := r, dom := d, hostDom := none, autoDom := none } ∧
      (s.time.catchGen.j + 1 < s.scan.timing.cycles → m = s.time.catchGen.m ∧ j = s.time.catchGen.j + 1) ∧
      (s.scan.timing.cycles ≤ s.time.catchGen.j + 1 → j = 0 ∧ (r = false → m = s.time.catchGen.m + 1)) := by
  have hprobes := closeProbes_within s
  have hpass := passCatch_within false (closeProbes s)
  obtain ⟨hswitch, hfault1, hscan1, d, off1, hgen1⟩ := switchDomains_spec (passCatch false (closeProbes s))
  obtain ⟨hnext, hfault2, hscan2, m, j, off, r, hgen2, hgo, hend⟩ :=
    scheduleNext_spec (switchDomains (passCatch false (closeProbes s)))
  have hscan0 : (closeProbes s).scan = s.scan := hprobes.part .scan (by decide)
  have htime : (passCatch false (closeProbes s)).time = s.time :=
    (passCatch_keeps State.time (fun _ _ _ => rfl) _ _).trans (hprobes.part .time (by decide))
  have hcycles : (switchDomains (passCatch false (closeProbes s))).scan.timing = s.scan.timing := by
    rw [hscan1, passCatch_keeps (·.scan.timing) (fun _ _ _ => rfl) false (closeProbes s), hscan0]
  have hfault : (passScanCatch s).fault = (closeProbes s).fault :=
    (hfault2.trans hfault1).trans (passCatch_keeps State.fault (fun _ _ _ => rfl) _ _)
  rw [htime] at hgen1
  rw [hgen1] at hgen2 hgo hend
  rw [hcycles] at hgo hend
  refine ⟨(((catch_of_probes hprobes).trans hpass).trans hswitch).trans hnext, fun k hk => ?_, fun b => ?_,
    m, j, off, r, d, hgen2, hgo, hend⟩
  · rw [State.waitingRises, hfault]
    exact closeProbes_rises_pos k hk
  · have hband : (passScanCatch s).band b = (passCatch false (closeProbes s)).band b := by
      simp only [State.band, passScanCatch, hscan2, hscan1]
    rw [hband, passCatch_band, hscan0, catch_bandCount (catch_of_probes hprobes), caught_scan _ _ (s.bandBlank b)]
    simp only [State.band, hscan0]

/-! ### The frame catch (04 R99, 05 R135) -/

/-- A band that is ready begins its strokes (05 R135). -/
def BandState.started (x : BandState) : BandState := if x.step = .ready then { x with step := .running } else x

theorem beginStrokes_band (s : State) (b : Nat) :
    (beginStrokes s).band b = if b < s.bandCount then (s.band b).started else s.band b := by
  refine band_foldN (g := fun _ => BandState.started) (fun t i j => ?_) s.bandCount s b
  dsimp only
  unfold BandState.started
  by_cases hready : (t.band i).step = .ready
  · rw [if_pos hready, if_pos hready]
    exact State.band_setBand t i j _
  · rw [if_neg hready, if_neg hready]
    split
    next hij => rw [hij]
    · rfl

/-- A catch after configuration is counted (05 R135). -/
def countReady (s : State) : State := { s with scan := { s.scan with readyCatches := s.scan.readyCatches + 1 } }

/-- What the progress of a scan-drive start may touch. -/
def progressFootprint : Footprint where
  parts := [.scan]
  objs := (· == Obj.BANDS_RUNNING)

theorem beginStrokes_within (s : State) : s.Within progressFootprint (beginStrokes s) := by
  refine State.Within.scan (foldNSteps (fun t b _ => ?_) s) _
  dsimp only
  split
  · exact ((refl _ t).setBand _ _).setReg _ _
  · exact refl _ t

theorem beginStrokes_readyCatches (s : State) : (beginStrokes s).scan.readyCatches = s.scan.readyCatches := by
  refine foldN_keeps _ (·.scan.readyCatches) (fun t b => ?_) _ s
  dsimp only
  split <;> rfl

theorem scanProgress_eq (hstate : s.reg Obj.SCAN_STATE = 1) (hconf : s.scan.configured = true)
    (hstrokes : s.scan.strokes = false) :
    scanProgress s = if s.scan.readyCatches = 1 then beginStrokes (countReady s) else countReady s := by
  have hstart : (decide (s.reg Obj.SCAN_STATE = 1) && s.scan.configured && !s.scan.strokes) = true := by
    simp [hstate, hconf, hstrokes]
  rw [scanProgress, if_neg (by rw [hstate]; decide), if_pos hstart]
  rfl

/-- A frame catch while the scan drive starts: the second one after configuration begins the strokes. -/
theorem scanProgress_start (hstate : s.reg Obj.SCAN_STATE = 1) (hconf : s.scan.configured = true)
    (hstrokes : s.scan.strokes = false) :
    (scanProgress s).scan.readyCatches = s.scan.readyCatches + 1 ∧
      (scanProgress s).scan.strokes = decide (s.scan.readyCatches = 1) ∧ s.Within progressFootprint (scanProgress s) ∧
      (s.scan.readyCatches = 1 → ∀ b, b < s.bandCount → (s.band b).step = .ready →
        ((scanProgress s).band b).step = .running) := by
  have hcount : s.Within progressFootprint (countReady s) := (refl _ s).scan _
  rw [scanProgress_eq hstate hconf hstrokes]
  split
  next hsecond =>
    refine ⟨beginStrokes_readyCatches _, by simp [hsecond, beginStrokes], hcount.trans (beginStrokes_within _),
      fun _ b hb hready => ?_⟩
    have hb1 : b < (countReady s).bandCount := hb
    have hready1 : ((countReady s).band b).step = .ready := hready
    rw [beginStrokes_band, if_pos hb1, BandState.started, if_pos hready1]
  next hother => exact ⟨rfl, by simp [hother, hstrokes, countReady], hcount, fun h => absurd h hother⟩

/-- What follows a frame catch's progress of the scan drive: the evacuation display, and the pipeline start. -/
def endFrameCatch (b g1 : Int) (missed : Bool) (s : State) : State :=
  let s1 := if s.scan.strokes then evacBoundary b s else s
  if s1.startsPipeline then pipelineStart b g1 missed s1 else s1

theorem endFrameCatch_within (b g1 : Int) (missed : Bool) (s : State) :
    s.Within boundaryFootprint (endFrameCatch b g1 missed s) := by
  unfold endFrameCatch
  extract_lets s1
  have h1 : s.Within boundaryFootprint s1 := by
    unfold s1
    split
    · exact evacBoundary_within s b
    · exact refl _ s
  split
  · exact h1.trans (pipelineStart_within _ _ _ _)
  · exact h1

/-- A frame catch without a frame in computation and without a batch to apply: its parts but the progress of the scan drive
leave the scan drive as it stands. -/
theorem frameCatch_parts (g g1 : Int) (hframe : s.pipe.frame = none) (hbatch : s.cop.batch = none) :
    ∃ t, s.Within boundaryFootprint t ∧ (scanProgress t).Within boundaryFootprint (frameCatch g g1 s) := by
  have hshown : showFrame s = s := by simp [showFrame, hframe]
  have hblank : s.Within boundaryFootprint (endBlanking s) := (refl _ s).safety _
  have hhead := boundaryHead_within (endBlanking s) (g / 4294967296) hbatch
  have htail := boundaryTail_within (boundaryHead (g / 4294967296) (endBlanking s)) (g / 4294967296) (g1 / 4294967296)
  refine ⟨_, (hblank.trans hhead).trans htail, ?_⟩
  have hend := (sleepBoundary_within (scanProgress (boundaryTail (g / 4294967296) (g1 / 4294967296)
    (boundaryHead (g / 4294967296) (endBlanking s))))).trans (endFrameCatch_within (g / 4294967296) g1
      ((boundaryHead (g / 4294967296) (endBlanking s)).someMiss (g / 4294967296) (g1 / 4294967296)) _)
  unfold frameCatch
  rw [hshown]
  exact hend

/-- A frame catch while the scan drive starts. -/
theorem frameCatch_start (g g1 : Int) (hframe : s.pipe.frame = none) (hbatch : s.cop.batch = none)
    (hstate : s.reg Obj.SCAN_STATE = 1) (hconf : s.scan.configured = true) (hstrokes : s.scan.strokes = false) :
    (frameCatch g g1 s).scan.readyCatches = s.scan.readyCatches + 1 ∧
      (frameCatch g g1 s).scan.strokes = decide (s.scan.readyCatches = 1) ∧
      (frameCatch g g1 s).reg Obj.LAST_FRAME_CATCH = s.reg Obj.LAST_FRAME_CATCH ∧
      (s.scan.readyCatches = 1 → ∀ b, b < s.bandCount → (s.band b).step = .ready →
        ((frameCatch g g1 s).band b).step = .running) := by
  obtain ⟨t, ht, hend⟩ := frameCatch_parts g g1 hframe hbatch
  have hscan : t.scan = s.scan := ht.part .scan (by decide)
  have hscan1 : (frameCatch g g1 s).scan = (scanProgress t).scan := hend.part .scan (by decide)
  have hcount : t.bandCount = s.bandCount := ht.obj Obj.BAND_COUNT 0 rfl (by decide)
  obtain ⟨hready, hbegun, hprogress, hrun⟩ := scanProgress_start ((ht.obj Obj.SCAN_STATE 0 rfl (by decide)).trans hstate)
    (by rw [hscan, hconf]) (by rw [hscan, hstrokes])
  rw [hscan] at hready hbegun hrun
  rw [hcount] at hrun
  refine ⟨by rw [hscan1, hready], by rw [hscan1, hbegun], ?_, fun h b hb hb1 => ?_⟩
  · exact ((hend.obj Obj.LAST_FRAME_CATCH 0 rfl (by decide)).trans
      (hprogress.obj Obj.LAST_FRAME_CATCH 0 rfl (by decide))).trans (ht.obj Obj.LAST_FRAME_CATCH 0 rfl (by decide))
  · have hband : ∀ i, (frameCatch g g1 s).band i = (scanProgress t).band i := fun i => by rw [State.band, hscan1]; rfl
    rw [hband]
    exact hrun h b hb (by rw [State.band, hscan]; exact hb1)

/-- What a catch does after the frame catch. -/
def passFrameCatch (s : State) : State := scheduleNext (switchDomains (passCatch true s))

theorem passFrameCatch_spec (s : State) : s.Within catchFootprint (passFrameCatch s) ∧
    (passFrameCatch s).scan.readyCatches = s.scan.readyCatches ∧ (passFrameCatch s).scan.strokes = s.scan.strokes ∧
    ∀ b, ((passFrameCatch s).band b).step = (s.band b).step := by
  obtain ⟨hswitch, -, hscan1, -⟩ := switchDomains_spec (passCatch true s)
  obtain ⟨hnext, -, hscan2, -⟩ := scheduleNext_spec (switchDomains (passCatch true s))
  have hscan : (passFrameCatch s).scan = (passCatch true s).scan := hscan2.trans hscan1
  refine ⟨((passCatch_within true s).trans hswitch).trans hnext, ?_, ?_, fun b => ?_⟩
  · rw [hscan, passCatch_keeps (·.scan.readyCatches) (fun _ _ _ => rfl)]
  · rw [hscan, passCatch_keeps (·.scan.strokes) (fun _ _ _ => rfl)]
  · rw [State.band, hscan, ← State.band, passCatch_band]
    split <;> rfl

theorem doCatch_of_frame (hj : s.time.catchGen.j = 0) : ∃ g g1, doCatch s = passFrameCatch (frameCatch g g1 (closeProbes
    ((noteTick (noteReanchor (noteAlignment s))).setReg Obj.LAST_FRAME_CATCH
      (packTime ((s.gridCatch s.time.catchGen.m 0 / 4294967296).toNat * 4294967296))))) := by
  refine ⟨s.gridCatch s.time.catchGen.m 0, s.gridFrame (s.time.catchGen.m + 1), ?_⟩
  simp only [doCatch, passFrameCatch, hj, beq_self_eq_true, if_true, noteCatch_eq]

/-! ### The command -/

theorem catchIssue_acts (hacts : s.acts 5 = true) (hstate : s.reg Obj.SCAN_STATE ≠ 0) (hissuing : s.issuing = true)
    (hrun : runToCatch s = tickMany 0 s) : exec .catchIssue s = .next (settle (doCatch (tickMany 0 s))) := by
  have hissue : issueCatch s = doCatch (tickMany 0 s) := by rw [issueCatch, if_pos hissuing, hrun]
  rw [← hissue]
  exact onIslandIf_acts s issueCatch (fun s => s.reg Obj.SCAN_STATE != 0) 5 hacts (by simpa using hstate)

/-- The alignment of a catch that H07 carried. -/
theorem noteAlignment_aligned (hun : s.time.catchGen.unaligned = false) : noteAlignment s = s.crossed 7 := by
  rw [noteAlignment, hun, if_neg (by decide)]

theorem noteAlignment_unaligned (hun : s.time.catchGen.unaligned = true) :
    noteAlignment s = (s.bump Obj.CATCHES_UNALIGNED).occur 58 := by rw [noteAlignment, if_pos hun]

/-- What happens before the re-anchoring of a catch is noted may touch this. -/
def alignmentFootprint : Footprint where
  parts := [.time, .traffic, .fault]
  objs := (· == Obj.CATCHES_UNALIGNED)
  crossings := (· == 7)

theorem noteAlignment_within (h : s.Within standFootprint u) : s.Within alignmentFootprint (noteAlignment u) := by
  have hs : s.Within alignmentFootprint u := h.mono (by decide) nofun nofun nofun nofun
  unfold noteAlignment
  split
  · exact (hs.bump _).occur _
  · exact hs.crossed _

/-- What a catch between frame catches does to the generator, to the bands, and to the count of re-anchored catches. -/
structure ScanCatch (s t : State) : Prop where
  generator : ∃ m j off r d, t.time.catchGen =
      { s.time.catchGen with
        m := m, j := j, offset := off, reanchor := r, dom := d, hostDom := none, autoDom := none
        unaligned := false, lastTick := some s.ticks } ∧
    (s.time.catchGen.j + 1 < s.scan.timing.cycles → m = s.time.catchGen.m ∧ j = s.time.catchGen.j + 1) ∧
    (s.scan.timing.cycles ≤ s.time.catchGen.j + 1 → j = 0 ∧ (r = false → m = s.time.catchGen.m + 1))
  bands : ∀ b, t.band b = if s.scan.strokes = true ∧ s.scan.stopReady = false ∧ b < s.bandCount then
    (s.band b).caught false (s.bandBlank b) else s.band b
  reanchored : s.time.catchGen.reanchor = true →
    t.reg Obj.CATCH_REANCHORS = (s.reg Obj.CATCH_REANCHORS + 1) % 2 ^ 32 ∧ 0 < t.waitingRises 57

/-- The effect of a catch does not depend on what its alignment touches. -/
theorem ScanCatch.of_within {t : State} (h : ScanCatch u t) (hw : s.Within alignmentFootprint u)
    (hg : u.time.catchGen = s.time.catchGen) : ScanCatch s t := by
  obtain ⟨hgen, hbands, hre⟩ := h
  have hscan : u.scan = s.scan := hw.part .scan (by decide)
  have hticks : u.ticks = s.ticks := hw.part .clock (by decide)
  have hcount : u.bandCount = s.bandCount := hw.obj Obj.BAND_COUNT 0 rfl (by decide)
  have hanchors : u.reg Obj.CATCH_REANCHORS = s.reg Obj.CATCH_REANCHORS := hw.obj Obj.CATCH_REANCHORS 0 rfl (by decide)
  rw [hg, hscan, hticks] at hgen
  rw [hg, hanchors] at hre
  refine ⟨hgen, fun b => ?_, hre⟩
  rw [hbands, hscan, hcount, caught_scan _ _ (s.bandBlank b)]
  simp only [State.band, hscan]

/-- A catch between frame catches with its alignment noted: what the rest of it leaves. -/
theorem notedScanCatch (s : State) : s.Within notedFootprint (passScanCatch (noteTick (noteReanchor s))) ∧
    (∀ k, 0 < s.waitingRises k → 0 < (passScanCatch (noteTick (noteReanchor s))).waitingRises k) ∧
    ScanCatch s (passScanCatch (noteTick (noteReanchor s))) := by
  have hre0 := noteReanchor_within s
  have hre : s.Within notedFootprint (noteReanchor s) :=
    hre0.mono (by decide) (fun o ho => by simp_all [notedFootprint]) id (fun _ => id) id
  have hticks : (noteReanchor s).ticks = s.ticks := hre0.part .clock (by decide)
  have hscan : (noteTick (noteReanchor s)).scan = s.scan := hre0.part .scan (by decide)
  have hbands : (noteTick (noteReanchor s)).bandCount = s.bandCount := hre0.obj Obj.BAND_COUNT 0 rfl (by decide)
  have hgen0 : (noteTick (noteReanchor s)).time.catchGen = s.time.catchGen.noted s.ticks := by
    rw [← hticks, ← noteReanchor_catchGen s]
    rfl
  obtain ⟨hwithin, hrises, hband, hgen⟩ := passScanCatch_spec (noteTick (noteReanchor s))
  rw [hscan, hgen0] at hgen
  refine ⟨(hre.modCatch _).trans (noted_of_catch hwithin), fun k hk => hrises k (noteReanchor_rises_pos k hk), hgen,
    fun b => ?_, fun h => ?_⟩
  · rw [hband b, hscan, hbands, caught_scan _ _ (s.bandBlank b)]
    simp only [State.band, hscan]
  · obtain ⟨hcount, hrise⟩ := noteReanchor_counts h
    exact ⟨(hwithin.obj Obj.CATCH_REANCHORS 0 rfl (by decide)).trans hcount, hrises 57 hrise⟩

/-- A catch between frame catches, its time come. -/
theorem catchIssue_scan (hacts : s.acts 5 = true) (hstate : s.reg Obj.SCAN_STATE ≠ 0) (hissuing : s.issuing = true)
    (hrun : runToCatch s = tickMany 0 s) (hj : s.time.catchGen.j ≠ 0) :
    ∃ t, exec .catchIssue s = .next (settle t) ∧ (noteAlignment (tickMany 0 s)).Within notedFootprint t ∧
      (∀ k, 0 < (noteAlignment (tickMany 0 s)).waitingRises k → 0 < t.waitingRises k) ∧ ScanCatch s t := by
  obtain ⟨hstands, hgen⟩ := tickMany_zero s
  obtain ⟨hwithin, hrises, hcatch⟩ := notedScanCatch (noteAlignment (tickMany 0 s))
  have hexec := catchIssue_acts hacts hstate hissuing hrun
  rw [doCatch_of_scan (by rwa [hgen])] at hexec
  exact ⟨_, hexec, hwithin, hrises, hcatch.of_within (noteAlignment_within hstands) (by rw [noteAlignment_catchGen, hgen])⟩

/-- What an aligned catch between frame catches may touch. -/
theorem alignedCatch_within {t : State} (hs : s.Within standFootprint u) (ht : (u.crossed 7).Within notedFootprint t) :
    s.Within alignedFootprint t ∧ t.crossing 7 = (s.crossing 7).completed := by
  have h7 : t.crossing 7 = (u.crossing 7).completed := (ht.cross 7 rfl).trans (by simp [State.crossed])
  exact ⟨((aligned_of_noted (noted_of_stand hs)).crossed 7).trans (aligned_of_noted ht), by rw [h7, hs.cross 7 rfl]⟩

/-- What an unaligned catch between frame catches may touch, and its count (02 R42). -/
theorem unalignedCatch_within {t : State} (hs : s.Within standFootprint u)
    (ht : ((u.bump Obj.CATCHES_UNALIGNED).occur 58).Within notedFootprint t) : s.Within unalignedFootprint t ∧
      t.reg Obj.CATCHES_UNALIGNED = (s.reg Obj.CATCHES_UNALIGNED + 1) % 2 ^ 32 := by
  have hcount : t.reg Obj.CATCHES_UNALIGNED = (u.reg Obj.CATCHES_UNALIGNED + 1) % 2 ^ 32 :=
    (ht.obj Obj.CATCHES_UNALIGNED 0 rfl (by decide)).trans (by rw [← State.reg]; simp [State.reg_bump]; rfl)
  have hu : u.reg Obj.CATCHES_UNALIGNED = s.reg Obj.CATCHES_UNALIGNED := hs.obj Obj.CATCHES_UNALIGNED 0 rfl (by decide)
  exact ⟨(((unaligned_of_noted (noted_of_stand hs)).bump _).occur _).trans (unaligned_of_noted ht), by rw [hcount, hu]⟩

theorem alignedFootprint_objs {o : Nat} (h : alignedFootprint.objs o = true) :
    o ∈ [Obj.CATCH_REANCHORS, Obj.DOMAIN_SWITCHES, Obj.PROBE_RESULTS_LOST, Obj.PROBES_TAKEN] := by
  simp only [alignedFootprint, notedFootprint, catchFootprint, Bool.or_eq_true, beq_iff_eq] at h
  rcases h with ((rfl | rfl) | rfl) | rfl <;> simp

theorem unalignedFootprint_objs {o : Nat} (h : unalignedFootprint.objs o = true) :
    o ∈ [Obj.CATCHES_UNALIGNED, Obj.CATCH_REANCHORS, Obj.DOMAIN_SWITCHES, Obj.PROBE_RESULTS_LOST, Obj.PROBES_TAKEN] := by
  simp only [unalignedFootprint, Bool.or_eq_true, beq_iff_eq] at h
  rcases h with h | rfl
  · exact List.mem_cons_of_mem _ (alignedFootprint_objs h)
  · exact List.mem_cons_self

/-- What happens at a frame catch before its boundary may touch this. -/
def notedFrameFootprint : Footprint where
  parts := [.time, .traffic, .fault, .diag]
  objs o := o == Obj.CATCHES_UNALIGNED || o == Obj.CATCH_REANCHORS || o == Obj.LAST_FRAME_CATCH || probeFootprint.objs o
  crossings := (· == 7)

/-- A frame catch up to its boundary: it leaves its grid time (08 R222). -/
theorem doCatch_frame_noted (hj : s.time.catchGen.j = 0) :
    ∃ g g1 u, doCatch (tickMany 0 s) = passFrameCatch (frameCatch g g1 u) ∧ s.Within notedFrameFootprint u ∧
      u.reg Obj.LAST_FRAME_CATCH = packTime ((s.gridCatch s.time.catchGen.m 0 / 4294967296).toNat * 4294967296) := by
  obtain ⟨hstands, hgen⟩ := tickMany_zero s
  obtain ⟨g, g1, hcatch⟩ := doCatch_of_frame (s := tickMany 0 s) (by rwa [hgen])
  have hgrid : (tickMany 0 s).gridCatch s.time.catchGen.m 0 = s.gridCatch s.time.catchGen.m 0 :=
    gridCatch_of (hstands.obj Obj.CATCH_ORIGIN 0 rfl (by decide)) (hstands.part .scan (by decide)) _ _
  rw [hgen, hgrid] at hcatch
  have halign : s.Within notedFrameFootprint (noteAlignment (tickMany 0 s)) :=
    (noteAlignment_within hstands).mono (by decide)
      (fun o ho => by simp only [alignmentFootprint, beq_iff_eq] at ho; subst ho; decide) nofun (fun _ => id) nofun
  have hre : (noteAlignment (tickMany 0 s)).Within notedFrameFootprint (noteReanchor (noteAlignment (tickMany 0 s))) :=
    (noteReanchor_within _).mono (by decide) (fun o ho => by simp only [beq_iff_eq] at ho; subst ho; decide)
      nofun nofun nofun
  have hprobes : ∀ t : State, t.Within notedFrameFootprint (closeProbes t) := fun t =>
    (closeProbes_within t).mono (by decide) (fun o ho => by simp [notedFrameFootprint, ho]) nofun nofun nofun
  refine ⟨g, g1, _, hcatch, (((halign.trans hre).modCatch _).setReg _ _).trans (hprobes _), ?_⟩
  exact ((closeProbes_within _).obj Obj.LAST_FRAME_CATCH 0 rfl (by decide)).trans
    ((State.reg_setReg _ _ _ _).trans (if_pos rfl))

/-- A frame catch while the scan drive starts, its time come. -/
theorem catchIssue_frame (hacts : s.acts 5 = true) (hstate : s.reg Obj.SCAN_STATE = 1) (hissuing : s.issuing = true)
    (hrun : runToCatch s = tickMany 0 s) (hj : s.time.catchGen.j = 0) (hbatch : s.cop.batch = none)
    (hframe : s.pipe.frame = none) (hstrokes : s.scan.strokes = false) (hconf : s.scan.configured = true) :
    ∃ t, exec .catchIssue s = .next (settle t) ∧
      t.reg Obj.LAST_FRAME_CATCH =
        packTime ((s.gridCatch s.time.catchGen.m 0 / 4294967296).toNat * 4294967296) ∧
      t.scan.readyCatches = s.scan.readyCatches + 1 ∧ t.scan.strokes = decide (s.scan.readyCatches = 1) ∧
      (s.scan.readyCatches = 1 → ∀ b, b < s.bandCount → (s.band b).step = .ready → (t.band b).step = .running) := by
  obtain ⟨g, g1, u, hcatch, hu, hlast⟩ := doCatch_frame_noted hj
  have hexec := catchIssue_acts hacts (by rw [hstate]; decide) hissuing hrun
  rw [hcatch] at hexec
  have hscan : u.scan = s.scan := hu.part .scan (by decide)
  have hpipe : u.pipe = s.pipe := hu.part .pipe (by decide)
  have hcop : u.cop.quiet = s.cop.quiet := hu.part .cop (by decide)
  have hcount : u.bandCount = s.bandCount := hu.obj Obj.BAND_COUNT 0 rfl (by decide)
  obtain ⟨hready, hbegun, hkept, hbands⟩ := frameCatch_start (s := u) g g1 (by rw [hpipe, hframe])
    ((congrArg CopState.batch hcop : u.cop.quiet.batch = s.cop.quiet.batch).trans hbatch) ((hu.obj Obj.SCAN_STATE 0 rfl (by decide)).trans hstate) (by rw [hscan, hconf])
    (by rw [hscan, hstrokes])
  obtain ⟨hpass, hready1, hbegun1, hbands1⟩ := passFrameCatch_spec (frameCatch g g1 u)
  rw [hscan] at hready hbegun hbands
  rw [hcount] at hbands
  refine ⟨_, hexec, ?_, hready1.trans hready, hbegun1.trans hbegun, fun h b hb hb1 => ?_⟩
  · exact ((hpass.obj Obj.LAST_FRAME_CATCH 0 rfl (by decide)).trans hkept).trans hlast
  · exact (hbands1 b).trans (hbands h b hb (by rw [State.band, hscan]; exact hb1))

end Catch

/-- Settles O20: no time passes before the catch, its records are noted, and `ScanCatch` (or, for the frame catch,
`catchIssue_frame`) says what follows. -/
theorem catchesAreIssuedOnTheGrid : Obligations.CatchesAreIssuedOnTheGrid := by
  refine ⟨fun s hacts hstate hissuing hdue hj hun => ?_, fun s hacts hstate hissuing hj hun hcount => ?_,
    fun s hacts hstate hissuing hdue hj hun hbatch hframe hstrokes hconf => ?_⟩
  · obtain ⟨hstands, hgen0⟩ := tickMany_zero s
    obtain ⟨t, hexec, ht, -, ⟨m, j, off, r, d, hgen, hgo, hend⟩, hbands, hre⟩ :=
      catchIssue_scan hacts hstate hissuing (runToCatch_of_due hun hdue) hj
    rw [noteAlignment_aligned (by rw [hgen0, hun])] at ht
    obtain ⟨hw, h7⟩ := alignedCatch_within hstands ht
    have hg : (settle t).time.catchGen = _ := hgen
    refine ⟨settle t, hexec, fun h => ?_, fun h => ?_, by rw [hg], by rw [hg], by rw [hg], hw.part .clock (by decide), h7,
      fun h hh => hw.cross h (by simpa [alignedFootprint] using hh), hre, hbands,
      hw.frame (by decide) (fun _ _ => alignedFootprint_objs) (fun _ => rfl) (by simp)⟩
    · rw [hg]
      exact hgo h
    · rw [hg]
      exact hend h
  · obtain ⟨hstands, hgen0⟩ := tickMany_zero s
    obtain ⟨t, hexec, ht, hrises, ⟨m, j, off, r, d, hgen, -⟩, hbands, -⟩ :=
      catchIssue_scan hacts hstate hissuing (runToCatch_of_strokes hcount) hj
    rw [noteAlignment_unaligned (by rw [hgen0, hun])] at ht hrises
    obtain ⟨hw, hcounted⟩ := unalignedCatch_within hstands ht
    have hg : (settle t).time.catchGen = _ := hgen
    exact ⟨settle t, hexec, hcounted, hrises 58 (by simp), by rw [hg], hw.part .clock (by decide),
      fun h => hw.cross h rfl, hbands,
      hw.frame (by decide) (fun _ _ => unalignedFootprint_objs) (fun _ => rfl) (fun _ _ => rfl)⟩
  · obtain ⟨t, hexec, h⟩ :=
      catchIssue_frame hacts hstate hissuing (runToCatch_of_due hun hdue) hj hbatch hframe hstrokes hconf
    exact ⟨settle t, hexec, h⟩

end Sys2Proof.Machine
end

section
/-! The commands that clear counters (02 R53, 03 R88, 04 R121, 05 R148, 07 R205, 08 R225, 09 R245, 10 R267, 11 R290,
13 R328). -/

namespace Sys2Proof.Machine

set_option Elab.async false

open State.Within

variable {s u : State} {objs tables : List Nat}

/-- What clearing the objects `l` after an access may touch: those objects, and crossing H09. -/
def clearFootprint (l : List Nat) : Footprint where
  objs o := l.contains o
  crossings := (· == 9)

/-- An access to an object of another island crosses H09 (02 R42). -/
theorem accessed_within {F : Footprint} (s : State) (obj : Nat) (h9 : F.crossings 9 = true) : s.Within F (s.accessed obj) := by
  unfold State.accessed
  split
  · exact (refl _ s).crossed _ h9
  · exact refl _ s

/-- An access and the clearing of objects. -/
theorem clearRegs_within (s : State) (obj : Nat) (l : List Nat) :
    s.Within (clearFootprint l) ((s.accessed obj).clearRegs l) :=
  (accessed_within s obj rfl).clearRegs l fun _ ho => List.contains_iff_mem.mpr ho

theorem clearRegs_frameRaw (s : State) (obj : Nat) (l tables : List Nat) :
    s.frameRaw ((s.accessed obj).clearRegs l) [.crossing] l tables :=
  (clearRegs_within s obj l).frameRaw (by simp [clearFootprint])
    (fun _ o ho => List.contains_iff_mem.mp ho) (fun _ => rfl) (fun h => absurd List.mem_cons_self h)

/-- What an admitted host write does that is done at once: it is answered with success. -/
theorem hostWrite_done (act : Action) {rq : Req} {obj : Nat} {data : Bytes}
    (h : s.admitsWrite rq obj data = true) (f : State → State) (hact : ∀ q t, act q t = .done (f t))
    (hframe : ∀ t : State, t.frameRaw (f (t.accessed obj)) [.crossing] objs tables)
    (hcross : ∀ (t : State) k, k ≠ 9 → (f (t.accessed obj)).crossing k = t.crossing k) :
    ∃ u, hostWrite act rq obj data s = .next u ∧ u.answered rq 0 = true ∧
      u.regAt = (f ((s.taken (wholeWrite rq obj data)).accessed obj)).regAt ∧
      u.tabByte = (f ((s.taken (wholeWrite rq obj data)).accessed obj)).tabByte ∧ s.hostFrame u [] objs tables := by
  obtain ⟨r, -, hexec⟩ := hostWrite_admitted s act rq obj data h
  rw [hact, conclude] at hexec
  refine ⟨_, hexec, State.respond_answered _ _ _ _ _, by simp, by simp, hostFrame_respond _ _ _ (by decide) (hframe _)
    fun _ k hk => ?_⟩
  rw [hcross _ k hk]
  exact congrArg (fun d : DeviceState => Sparse.get (fun _ => ({} : Crossing)) d.crossings k) (by simp)

/-- A command whose action puts the objects `l` back to their defaults. -/
theorem clears_of_act (act : Action) (l : List Nat) (hact : ∀ q t, act q t = .done (t.clearRegs l)) {rq : Req} {obj : Nat}
    {data : Bytes} (h : s.admitsWrite rq obj data = true) :
    ∃ t, hostWrite act rq obj data s = .next t ∧ t.answered rq 0 = true ∧
      (∀ o i, o ∈ l → i < 65536 → t.regAt o i = objDefault o) ∧ s.hostFrame t [] l [] := by
  obtain ⟨t, hexec, hanswer, hregs, -, hframe⟩ := hostWrite_done (tables := []) act h (·.clearRegs l) hact
    (fun t => clearRegs_frameRaw t obj l [])
    fun t k hk => (clearRegs_within t obj l).cross k (by simpa [clearFootprint] using hk)
  refine ⟨t, hexec, hanswer, fun o i ho hi => ?_, hframe⟩
  rw [hregs, State.regAt_clearRegs _ _ _ _ hi, if_pos (List.contains_iff_mem.mpr ho)]

/-! ### The histograms of LINK_COUNTERS_CLEAR (09 R245) -/

theorem tabByte_clearTab_same (s : State) (o j : Nat) (hj : j < 131072) :
    (s.clearTab o).tabByte o j = domDefault (tabKey o j) := by
  simp only [State.tabByte, State.clearTab, Sparse.get_clear]
  exact if_pos (by simp only [tabKey]; omega)

/-- A table that the frame names is cleared. -/
theorem clearTab_frameRaw {parts : List Part} (h : s.frameRaw u parts objs tables) (o : Nat) (ho : o ∈ tables) :
    s.frameRaw (u.clearTab o) parts objs tables := by
  obtain ⟨hpending, hparts, hobjs, htabs⟩ := h
  refine ⟨hpending, fun p hp => State.sameRaw_trans (hparts p hp) ?_, hobjs, fun o1 j ht h1 hj => ?_⟩
  · by_cases hx : p = .crossing
    · subst hx
      exact fun _ => rfl
    · exact u.sameRaw_stores _ _ _ (by simp_all)
  · rw [State.tabByte_clearTab_ne u o o1 j (fun e => h1 (e ▸ ho)) hj]
    exact htabs o1 j ht h1 hj

/-- The counters of the ports and the lanes (09 R245). -/
def linkCounters : List Nat :=
  repeated 2 [Obj.PORT_UP_COUNT 0, Obj.PORT_DOWN_COUNT 0, Obj.FEC_CODEWORDS 0, Obj.FEC_CORRECTED_CW 0,
    Obj.FEC_UNCORRECTABLE 0, Obj.FEC_SYMBOLS_CORRECTED 0, Obj.FEC_AM_MISSES 0, Obj.FEC_SER_1S 0] ++
  repeated 4 [Obj.LANE_PRBS_ERRORS 0, Obj.LANE_PRBS_BITS 0]

/-- The counters and the two histograms of the link, put back. -/
def clearLink (s : State) : State :=
  ((s.clearRegs linkCounters).clearTab (Obj.FEC_HISTOGRAM 0)).clearTab (Obj.FEC_HISTOGRAM 1)

theorem clearLink_frameRaw (s : State) (obj : Nat) :
    s.frameRaw (clearLink (s.accessed obj)) [.crossing] linkCounters [Obj.FEC_HISTOGRAM 0, Obj.FEC_HISTOGRAM 1] :=
  clearTab_frameRaw (clearTab_frameRaw (clearRegs_frameRaw s obj _ _) _ (by simp)) _ (by simp)

theorem clearLink_tabByte (s : State) (j : Nat) (hj : j < 131072) :
    (clearLink s).tabByte (Obj.FEC_HISTOGRAM 0) j = domDefault (tabKey (Obj.FEC_HISTOGRAM 0) j) ∧
      (clearLink s).tabByte (Obj.FEC_HISTOGRAM 1) j = domDefault (tabKey (Obj.FEC_HISTOGRAM 1) j) :=
  ⟨(State.tabByte_clearTab_ne _ _ _ _ (by decide) hj).trans (tabByte_clearTab_same _ _ _ hj), tabByte_clearTab_same _ _ _ hj⟩

/-- Settles O8: each command is one `clearRegs` of its counters (`clears_of_act`); LINK_COUNTERS_CLEAR clears the two
histograms of the FEC too. -/
theorem counterClearsClearTheirCounters : Obligations.CounterClearsClearTheirCounters := by
  refine ⟨fun _ _ _ => clears_of_act actSramCountersClear _ (fun _ _ => rfl),
    fun _ _ _ => clears_of_act actPipelineCountersClear _ (fun _ _ => rfl),
    fun _ _ _ => clears_of_act actLayerCountersClear _ (fun _ _ => rfl),
    fun _ _ _ => clears_of_act actScanCountersClear _ (fun _ _ => rfl),
    fun _ _ _ => clears_of_act actRailCountersClear _ (fun _ _ => rfl),
    fun _ _ _ => clears_of_act actTimeCountersClear _ (fun _ _ => rfl),
    fun _ _ _ => clears_of_act actTrafficCountersClear _ (fun _ _ => rfl),
    fun _ _ _ => clears_of_act actMemCountersClear _ (fun _ _ => rfl),
    fun _ _ _ => clears_of_act actFaultCountersClear _ (fun _ _ => rfl), fun rq data s h => ?_⟩
  obtain ⟨t, hexec, hanswer, hregs, htabs, hframe⟩ := hostWrite_done actLinkCountersClear h clearLink (fun _ _ => rfl)
    (fun t => clearLink_frameRaw t _)
    fun t k hk => (clearRegs_within t _ linkCounters).cross k (by simpa [clearFootprint] using hk)
  refine ⟨t, hexec, hanswer, fun o i ho hi => ?_, fun j hj => ?_, hframe⟩
  · rw [hregs]
    exact (State.regAt_clearRegs _ _ _ _ hi).trans (if_pos (List.contains_iff_mem.mpr ho))
  · rw [htabs]
    exact clearLink_tabByte _ j hj

end Sys2Proof.Machine
end

section
/-! A frozen device (02 R44, 13 R336): no gate of an event lets anything act. -/

namespace Sys2Proof.Machine

set_option Elab.async false

section Frozen

variable {s : State} (hf : s.device.frozen = true)

include hf

theorem alive_of_frozen (i : Nat) : s.alive i = false := by simp [State.alive, hf]

theorem agentRuns_of_frozen (v : Via) : s.agentRuns v = false := by simp [State.agentRuns, alive_of_frozen hf]

/-- No timeout runs during a freeze. -/
theorem timesCrossing_of_frozen (x : Transfer) : s.timesCrossing x = false := by
  cases x <;> simp [State.timesCrossing, alive_of_frozen hf, agentRuns_of_frozen hf]

theorem onPacket_of_frozen (hx : s.device.extest = false) (p : Port) (kind : Nat) (op : Packet → State → State) :
    onPacket p kind op s = .next s := gate_idle _ _ _ hx (by simp only [alive_of_frozen hf, Bool.false_and])

/-- Every command but the resets, the reset pins and the JTAG port goes through a gate that a freeze closes. -/
theorem exec_of_frozen (c : Instr) (hx : s.device.extest = false) (hc : alwaysActs c = false) : exec c s = .next s := by
  cases c
  case powerOnReset | powerOnResetRelease | resetNLow | resetNRelease | resetHoldLong | jtagFreeze | jtagFrzRead |
    jtagKeysClear | jtagExtest | jtagSamplePreload | jtagIdcode | jtagBypass | jtagTapReset => cases hc
  case videoPacketRx | fencePacketRx | syncRx | delayReqRx | delayRespRx | chainEnumRx | announceRx | breakRx |
    controlPacketRx =>
    exact onPacket_of_frozen hf hx _ _ _
  all_goals
    dsimp only [exec, execRoleLockExpiry, execResponseRecordExpiry, execSignalDetect, execSerSecond,
      execBeaconPatrolComplete, execWatchdogTimeout, execMillbrakeCycle, execAmbientTimeout, execSafeBlankPinWake,
      execT1sActivityDetect, execWatchdogPairInversion, onChannel, onWake]
    exact gate_idle _ _ _ hx (by
      simp only [hf, alive_of_frozen hf, agentRuns_of_frozen hf, timesCrossing_of_frozen hf, Bool.not_true, Bool.false_and])

theorem step_of_frozen (hp : s.pending = []) : step s = .next s := by simp [step, hp, idle, hf]

end Frozen

/-- Settles O5: a freeze closes the gate of every command that does not act always, and stops the step of an empty
queue. -/
theorem frozenDeviceIgnoresCommands : Obligations.FrozenDeviceIgnoresCommands :=
  ⟨fun c _ hf hx hc => exec_of_frozen hf c hx hc, fun _ hf hp => step_of_frozen hf hp⟩

end Sys2Proof.Machine
end

section
/-! The access checks of READ and WRITE (15 R11, R365, 02 R45, R46, 04 R109). -/

namespace Sys2Proof.Machine

set_option Elab.async false

section Access

open State.Within

variable {s u : State} {q : Request}

/-! ### Footprints of an answer -/

theorem enqueue_within {F : Footprint} (s : State) (p : LocalPacket) (ha : .answer ∈ F.parts) : s.Within F (s.enqueue p) :=
  (refl F s).of_fields (answer := .inl ha)

/-- A response leaves on the path of its request (15 R368, R370). -/
theorem sendResponse_within {F : Footprint} (s : State) (r : Response) (ha : .answer ∈ F.parts) (ho : .out ∈ F.parts) :
    s.Within F (s.sendResponse r) := by
  unfold State.sendResponse
  split
  · split
    · exact enqueue_within s _ ha
    · exact refl _ s
  · exact refl _ s
  · exact (refl _ s).emit _ ho

/-- What an answer with an abort code touches: the answer and its counts (15 R377). -/
def abortFootprint (objs : List Nat) : Footprint where
  parts := [.answer, .out]
  objs o := objs.contains o

/-- The counts of an abort code (15 R377, 02 R45). -/
def State.countAbort (s : State) (code : Nat) : State :=
  if code = abortAsleep then ((s.bump Obj.COP_ABORTS).setReg Obj.COP_LAST_ABORT code).bump Obj.ASLEEP_ABORTS
  else (s.bump Obj.COP_ABORTS).setReg Obj.COP_LAST_ABORT code

/-- The objects that count an abort code. -/
def abortObjects (code : Nat) : List Nat :=
  if code = abortAsleep then [Obj.COP_ABORTS, Obj.COP_LAST_ABORT, Obj.ASLEEP_ABORTS]
  else [Obj.COP_ABORTS, Obj.COP_LAST_ABORT]

theorem countAbort_within (s : State) (code : Nat) : s.Within (abortFootprint (abortObjects code)) (s.countAbort code) := by
  unfold State.countAbort abortObjects
  split
  · exact (((refl _ s).bump _ (by decide)).setReg _ _ (by decide)).bump _ (by decide)
  · exact ((refl _ s).bump _ (by decide)).setReg _ _ (by decide)

/-- An abort is counted, kept and sent. -/
theorem respond_eq_countAbort (s : State) (q : Request) {code : Nat} (hcode : code ≠ 0) :
    ∃ r, s.respond q code 0 [] =
      State.sendResponse { s.countAbort code with
        cop := { (s.countAbort code).cop with responses := keepResponse (s.countAbort code).cop.responses r } } r := by
  unfold State.respond State.countAbort
  rw [if_neg hcode]
  exact ⟨_, rfl⟩

theorem respond_abort_within (s : State) (q : Request) {code : Nat} (hcode : code ≠ 0) :
    s.Within (abortFootprint (abortObjects code)) (s.respond q code 0 []) := by
  obtain ⟨r, hr⟩ := respond_eq_countAbort s q hcode
  rw [hr]
  exact ((countAbort_within s code).of_fields (answer := .inl List.mem_cons_self)).trans
    (sendResponse_within _ _ List.mem_cons_self (by simp [abortFootprint]))

/-! ### The frame of a request -/

theorem taken_within {F : Footprint} (s : State) (q : Request) (ha : .answer ∈ F.parts)
    (ho : F.objs Obj.COP_REQUESTS = true) : s.Within F (s.taken q) := by
  unfold State.taken
  split
  · exact (refl _ s).bump _ ho
  · exact ((refl _ s).bump _ ho).of_fields (answer := .inl ha)

/-- The frame of a request from the footprint of its execution. -/
theorem hostFrame_of_within {F : Footprint} {parts : List Part} {objs tables : List Nat} (h : (s.taken q).Within F u)
    (hparts : ∀ p ∈ F.parts, p ∈ .answer :: .out :: parts) (hobjs : ∀ o, F.objs o = true → o ∈ objs)
    (htabs : F.tabs = false) (hcross : ∀ k, k ≠ 9 → F.crossings k = false)
    (hrequests : F.objs Obj.COP_REQUESTS = false) : s.hostFrame (settle u) parts objs tables := by
  have hwide : s.Within { F with
      parts := .answer :: F.parts
      objs := fun o => o == Obj.COP_REQUESTS || F.objs o } u :=
    (taken_within s q List.mem_cons_self rfl).trans (h.mono (fun _ hp => List.mem_cons_of_mem _ hp)
      (fun o ho => by simp [ho]) id (fun _ => id) id)
  have hcross1 : ∀ k, k ≠ 9 → u.crossing k = s.crossing k := fun k hk => hwide.cross k (hcross k hk)
  refine ⟨frame_settle ((hwide.frameRaw (parts := .answer :: .out :: .crossing :: parts)) (fun p hp => ?_)
    (fun _ o ho => ?_) (fun _ => htabs) (fun hx => absurd (by simp) hx)), fun _ => hcross1, fun _ _ => ?_⟩
  · simp only [List.mem_cons] at hp
    rcases hp with rfl | hp
    · exact List.mem_cons_self
    · have := hparts p hp
      simp only [List.mem_cons] at this ⊢
      tauto
  · simp only [Bool.or_eq_true, beq_iff_eq] at ho
    rcases ho with rfl | ho
    · exact List.mem_cons_self
    · exact List.mem_cons_of_mem _ (hobjs o ho)
  · have hu : u.reg Obj.COP_REQUESTS = (s.taken q).reg Obj.COP_REQUESTS := h.obj Obj.COP_REQUESTS 0 hrequests (by decide)
    have hwidth : widthOf Obj.COP_REQUESTS = 32 := by decide
    calc (settle u).reg Obj.COP_REQUESTS = (s.taken q).reg Obj.COP_REQUESTS := hu
      _ = _ := by rw [State.reg_taken, if_pos rfl, hwidth]

theorem hostFrame_abort (s : State) (q : Request) {code : Nat} (hcode : code ≠ 0) :
    s.hostFrame (settle ((s.taken q).respond q code 0 [])) [] (abortObjects code) [] := by
  refine hostFrame_of_within (respond_abort_within _ q hcode) (by simp [abortFootprint]) (fun o ho => ?_) rfl
    (fun _ _ => rfl) ?_
  · simpa [abortFootprint] using ho
  · unfold abortFootprint abortObjects
    dsimp only
    split <;> decide

/-- A request that is answered with an abort code is turned away. -/
theorem turnsAway_respond (s : State) (q : Request) {code : Nat} (hcode : code ≠ 0) (hawake : code ≠ abortAsleep) :
    s.turnsAway (settle ((s.taken q).respond q code 0 [])) q.rq code := by
  have hframe := hostFrame_abort s q hcode
  rw [abortObjects, if_neg hawake] at hframe
  exact ⟨State.respond_answered _ _ _ _ _, hframe⟩

/-- An access to an island that sleeps (02 R45). -/
theorem asleep_respond (s : State) (q : Request) :
    (settle ((s.taken q).respond q abortAsleep 0 [])).answered q.rq abortAsleep = true ∧
      (settle ((s.taken q).respond q abortAsleep 0 [])).reg Obj.ASLEEP_ABORTS = (s.reg Obj.ASLEEP_ABORTS + 1) % 2 ^ 32 ∧
      s.hostFrame (settle ((s.taken q).respond q abortAsleep 0 [])) []
        [Obj.COP_ABORTS, Obj.COP_LAST_ABORT, Obj.ASLEEP_ABORTS] [] := by
  refine ⟨State.respond_answered _ _ _ _ _, ?_, hostFrame_abort s q (by decide)⟩
  obtain ⟨r, hr⟩ := respond_eq_countAbort (s.taken q) q (code := abortAsleep) (by decide)
  have hcount : ((s.taken q).countAbort abortAsleep).reg Obj.ASLEEP_ABORTS = (s.reg Obj.ASLEEP_ABORTS + 1) % 2 ^ 32 := by
    simp [State.countAbort, State.reg_bump]
    rfl
  rw [hr, ← hcount]
  simp
  rfl

/-- An access that is held for its island (02 R46). -/
theorem hold_spec (s : State) (q : Request) (i : Nat) (hheld : s.cop.held = []) :
    (settle ((s.taken q).hold i q)).cop.held = [q] ∧ (settle ((s.taken q).hold i q)).island i = .waking ∧
      (∀ j, j ≠ i → (settle ((s.taken q).hold i q)).island j = s.island j) ∧
      (settle ((s.taken q).hold i q)).cop.responses = s.cop.responses ∧
      s.hostFrame (settle ((s.taken q).hold i q)) [.cop, .device] [] [] := by
  have hwithin : (s.taken q).Within { parts := [.cop, .device] } ((s.taken q).hold i q) :=
    ((refl _ _).setIsland _ _).of_fields (cop := .inl (by decide))
  have hisland : ∀ j, (settle ((s.taken q).hold i q)).island j = if j = i then .waking else s.island j := fun j =>
    (State.island_setIsland (s.taken q) i j .waking).trans (by simp)
  refine ⟨?_, by rw [hisland, if_pos rfl], fun j hj => by rw [hisland, if_neg hj], ?_,
    hostFrame_of_within hwithin (by simp) (by simp) rfl (fun _ _ => rfl) rfl⟩
  · exact (congrArg (· ++ [q]) (by simp [hheld])).trans (List.nil_append _)
  · have hkept : (s.taken q).cop.responses = s.cop.responses := by simp
    exact hkept

/-! ### What a request that the agent hears goes through -/

/-- A READ or WRITE that the agent hears is executed, once it is taken. -/
theorem exec_heard {c : Instr} (hc : requestOf c = some q) (hop : q.opcode ≤ 2) (hhears : s.hears q = true) :
    (q.opcode = 1 ∧ ∃ rd, exec c s = .next (settle (executeRead rd q (s.taken q)))) ∨
      (q.opcode = 2 ∧ ∃ act, exec c s = .next (settle (executeWrite act q (s.taken q)))) := by
  cases c
  case copStage | copCommit | copAbandon => cases hc; simp [bareRequest] at hop
  case copRead =>
    cases hc
    exact .inl ⟨rfl, _, hostRequest_heard s _ _ hhears⟩
  case ptpTxqPop | ringFifoRead =>
    cases hc
    exact .inl ⟨rfl, _, hostRequest_heard s _ _ hhears⟩
  all_goals cases hc
  all_goals exact .inr ⟨rfl, _, hostRequest_heard s _ _ hhears⟩

theorem exec_read {c : Instr} (hc : requestOf c = some q) (hop : q.opcode ≤ 2) (hhears : s.hears q = true)
    (h1 : q.opcode = 1) : ∃ rd, exec c s = .next (settle (executeRead rd q (s.taken q))) := by
  obtain ⟨-, h⟩ | ⟨h2, -⟩ := exec_heard hc hop hhears
  · exact h
  · omega

theorem exec_write {c : Instr} (hc : requestOf c = some q) (hop : q.opcode ≤ 2) (hhears : s.hears q = true)
    (h2 : q.opcode = 2) : ∃ act, exec c s = .next (settle (executeWrite act q (s.taken q))) := by
  obtain ⟨h1, -⟩ | ⟨-, h⟩ := exec_heard hc hop hhears
  · omega
  · exact h

/-! ### The checks in their order -/

theorem executeWrite_noObject (act : Action) (hfind : s.findObj q.obj = none) :
    executeWrite act q s = s.respond q abortNoObject 0 [] := by simp [executeWrite, hfind]

theorem executeRead_noObject (rd : State → Value) (hfind : s.findObj q.obj = none) :
    executeRead rd q s = s.respond q abortNoObject 0 [] := by simp [executeRead, hfind]

theorem executeWrite_noRight (act : Action) {r : ObjRow} {code : Nat} (hfind : s.findObj q.obj = some r)
    (hdue : rightsDue r q = true) (hcode : s.writeAbort r q.obj q.rq.role = code) (hne : code ≠ 0) :
    executeWrite act q s = s.respond q code 0 [] := by simp [executeWrite, hfind, hdue, hcode, hne]

theorem executeRead_noRight (rd : State → Value) {r : ObjRow} (hfind : s.findObj q.obj = some r) (hne : readRight r ≠ 0) :
    executeRead rd q s = s.respond q (readRight r) 0 [] := by simp [executeRead, hfind, hne]

/-- What an access past its rights finds at an island that does not run, whatever the request (02 R45, R46). -/
def State.turnedBack (s : State) (q : Request) : Reach → State
  | .ready => s
  | .asleep => s.respond q abortAsleep 0 []
  | .hold i => s.hold i q

theorem executeWrite_turnedBack (act : Action) {r : ObjRow} (hfind : s.findObj q.obj = some r)
    (hright : s.writeAbort r q.obj q.rq.role = 0) (hreach : s.reach r q.obj ≠ .ready) :
    executeWrite act q s = s.turnedBack q (s.reach r q.obj) := by
  simp only [executeWrite, hfind, hright, ne_eq, not_true_eq_false, decide_false, Bool.and_false, Bool.false_eq_true, if_false]
  cases hr : s.reach r q.obj
  case ready => exact absurd hr hreach
  all_goals rfl

theorem executeRead_turnedBack (rd : State → Value) {r : ObjRow} (hfind : s.findObj q.obj = some r)
    (hright : readRight r = 0) (hreach : s.reach r q.obj ≠ .ready) :
    executeRead rd q s = s.turnedBack q (s.reach r q.obj) := by
  simp only [executeRead, hfind, hright, ne_eq, not_true_eq_false, if_false]
  cases hr : s.reach r q.obj
  case ready => exact absurd hr hreach
  all_goals rfl

/-- Taking a request does not change whether the owning subsystem runs (01 R31). -/
theorem barred_taken (s : State) (q : Request) (r : ObjRow) (obj : Nat) : (s.taken q).barred r obj = s.barred r obj := by
  have hscan : Obj.SCAN_STATE ≠ Obj.COP_REQUESTS := by decide
  have hmem : Obj.MEM_STATE ≠ Obj.COP_REQUESTS := by decide
  have howner : ∀ o, (s.taken q).ownerRuns obj o = s.ownerRuns obj o := fun o => by
    cases o <;> simp [State.ownerRuns, State.railsOff, hscan, hmem]
  rw [State.barred, State.barred, howner]

/-- Data that come whole are assembled at once (15 R371). -/
theorem completeWrite_whole (act : Action) {r : ObjRow} (hwhole : s.comesWhole r q = true) :
    completeWrite act r q s = conclude q (performWrite act r q s) := by
  unfold completeWrite
  split
  next hseg =>
    simp only [State.comesWhole, hseg, Bool.not_true, Bool.false_or, Bool.and_eq_true, beq_iff_eq,
      decide_eq_true_eq] at hwhole
    obtain ⟨⟨⟨⟨⟨hfirst, hlast⟩, hoffset⟩, hlen⟩, hspace⟩, hnew⟩ := hwhole
    have hnone : s.cop.assemblies.find? (fun x => x.who == q.rq.who) = none := by
      rw [List.find?_eq_none]
      exact fun a ha => by simpa using List.all_eq_true.mp hnew a ha
    have hasm : s.assemble q = .whole s q.data := by
      simp [State.assemble, hnone, hfirst, hlast, hoffset, hspace, Nat.not_lt.mpr hlen]
    rw [hasm]
  · rfl

theorem comesWhole_taken (s : State) (q : Request) (r : ObjRow) : (s.taken q).comesWhole r q = s.comesWhole r q := by
  simp [State.comesWhole]

/-- The bar of the owning subsystem, then the length (15 R365). -/
theorem completeWrite_barred (act : Action) {r : ObjRow} (hwhole : s.comesWhole r q = true)
    (hbar : s.barred r q.obj = true) : completeWrite act r q s = s.respond q abortRunning 0 [] := by
  rw [completeWrite_whole act hwhole, performWrite, if_pos hbar, conclude]

theorem completeWrite_wrongLength (act : Action) {r : ObjRow} (hwhole : s.comesWhole r q = true)
    (hbar : s.barred r q.obj = false) (hlen : lengthOk r q.data.length = false) :
    completeWrite act r q s = s.respond q abortLength 0 [] := by
  rw [completeWrite_whole act hwhole, performWrite, hbar, hlen, if_neg (by decide), if_pos (by decide), conclude]

/-- A WRITE that a check of its rights turns away. -/
theorem exec_noRight {c : Instr} (hc : requestOf c = some q) (hop : q.opcode ≤ 2) (hhears : s.hears q = true)
    (h2 : q.opcode = 2) {r : ObjRow} {code : Nat} (hfind : s.findObj q.obj = some r) (hdue : rightsDue r q = true)
    (hcode : s.writeAbort r q.obj q.rq.role = code) (hne : code ≠ 0) (hawake : code ≠ abortAsleep) :
    ∃ t, exec c s = .next t ∧ s.turnsAway t q.rq code := by
  obtain ⟨act, hexec⟩ := exec_write hc hop hhears h2
  rw [executeWrite_noRight act (by rw [State.findObj_taken, hfind]) hdue (by rw [State.writeAbort_taken, hcode]) hne] at hexec
  exact ⟨_, hexec, turnsAway_respond s q hne hawake⟩

/-- A request past its rights whose island does not run. -/
theorem exec_turnedBack {c : Instr} (hc : requestOf c = some q) (hop : q.opcode ≤ 2) (hhears : s.hears q = true)
    {r : ObjRow} (hfind : s.findObj q.obj = some r) (hreach : s.reach r q.obj ≠ .ready)
    (hright : (if q.opcode = 1 then readRight r else s.writeAbort r q.obj q.rq.role) = 0) :
    exec c s = .next (settle ((s.taken q).turnedBack q (s.reach r q.obj))) := by
  rw [← State.reach_taken s q] at hreach ⊢
  rw [← State.findObj_taken s q] at hfind
  obtain ⟨h1, rd, hexec⟩ | ⟨h2, act, hexec⟩ := exec_heard hc hop hhears
  · rw [if_pos h1] at hright
    rw [hexec, executeRead_turnedBack rd hfind hright hreach]
  · rw [if_neg (by omega), ← State.writeAbort_taken s q] at hright
    rw [hexec, executeWrite_turnedBack act hfind hright hreach]

/-- A WRITE whose rights, island and data are in order is completed. -/
theorem exec_complete {c : Instr} (hc : requestOf c = some q) (hop : q.opcode ≤ 2) (hhears : s.hears q = true)
    (h2 : q.opcode = 2) {r : ObjRow} (hfind : s.findObj q.obj = some r)
    (hright : s.writeAbort r q.obj q.rq.role = 0) (hready : s.reach r q.obj = .ready) :
    ∃ act, exec c s = .next (settle (completeWrite act r q (s.taken q))) := by
  obtain ⟨act, hexec⟩ := exec_write hc hop hhears h2
  rw [executeWrite_ready act (by rw [State.findObj_taken, hfind]) (by rw [State.writeAbort_taken, hright])
    (by rw [State.reach_taken, hready])] at hexec
  exact ⟨act, hexec⟩

end Access

/-- Settles O14: the request is taken, and the first check that turns it away answers it (`turnsAway_respond`) or holds it
(`hold_spec`). -/
theorem accessChecksTurnRequestsAway : Obligations.AccessChecksTurnRequestsAway := by
  intro c q s hc hop hhears
  have hheld : s.cop.held = [] := by
    simp only [State.hears, Bool.and_eq_true, List.isEmpty_iff] at hhears
    exact hhears.2
  refine ⟨fun hfind => ?_, fun r hfind => ⟨fun h2 hdue hlock hclosed => ?_, fun h2 hdue hopen => ⟨fun hro => ?_,
    fun hnro hrole => ?_⟩, fun h1 hwo => ?_, fun right hright hzero => ?_, fun h2 hright hready hwhole => ?_⟩⟩
  · refine ⟨_, ?_, turnsAway_respond s q (code := abortNoObject) (by decide) (by decide)⟩
    obtain ⟨-, rd, hexec⟩ | ⟨-, act, hexec⟩ := exec_heard hc hop hhears
    · rw [hexec, executeRead_noObject rd (by rw [State.findObj_taken, hfind])]
    · rw [hexec, executeWrite_noObject act (by rw [State.findObj_taken, hfind])]
  · exact exec_noRight hc hop hhears h2 hfind hdue (by simp [State.writeAbort, hlock, hclosed]) (by decide) (by decide)
  · refine exec_noRight hc hop hhears h2 hfind hdue ?_ (by decide) (by decide)
    rw [State.writeAbort, if_neg (by rcases hopen with h | h <;> simp [h]), writeRight, if_pos hro]
  · refine exec_noRight hc hop hhears h2 hfind hdue ?_ (by decide) (by decide)
    rw [State.writeAbort, if_neg (by rcases hopen with h | h <;> simp [h]), writeRight, if_neg hnro, if_pos hrole]
  · obtain ⟨rd, hexec⟩ := exec_read hc hop hhears h1
    have hcode : readRight r = abortWriteOnly := by
      rcases hwo with h | h <;> rw [readRight, h]
    rw [executeRead_noRight rd (by rw [State.findObj_taken, hfind]) (by rw [hcode]; decide), hcode] at hexec
    exact ⟨_, hexec, turnsAway_respond s q (by decide) (by decide)⟩
  · have hback := fun hreach => exec_turnedBack hc hop hhears hfind hreach (hright ▸ hzero)
    refine ⟨fun hasleep => ?_, fun i hhold => ?_⟩
    · rw [hasleep] at hback
      exact ⟨_, hback nofun, asleep_respond s q⟩
    · rw [hhold] at hback
      exact ⟨_, hback nofun, hold_spec s q i hheld⟩
  · obtain ⟨act, hexec⟩ := exec_complete hc hop hhears h2 hfind hright hready
    rw [← comesWhole_taken] at hwhole
    refine ⟨fun hbar => ?_, fun hbar hlen => ?_⟩ <;> rw [← barred_taken s q] at hbar
    · rw [completeWrite_barred act hwhole hbar] at hexec
      exact ⟨_, hexec, turnsAway_respond s q (by decide) (by decide)⟩
    · rw [completeWrite_wrongLength act hwhole hbar hlen] at hexec
      exact ⟨_, hexec, turnsAway_respond s q (by decide) (by decide)⟩

end Sys2Proof.Machine
end

section
/-! The clocks of the islands (02 R46, R48, 14 R354): a wake, the end of its hold, and a gate. -/

namespace Sys2Proof.Machine

set_option Elab.async false

section Clocks

open State.Within

variable {s u : State} {i : Nat}

/-! ### The clock of a woken island -/

/-- Islands and device of a state whose island `i` is set. -/
theorem island_of_setIsland (s : State) (i : Nat) (m : IslandMode) :
    (s.setIsland i m).island i = m ∧ ∀ j, j ≠ i → (s.setIsland i m).island j = s.island j :=
  ⟨by simp, fun j hj => by simp [hj]⟩

theorem clockRunning_waking (hi : s.island i = .waking) (hne : i ≠ 2) :
    clockRunning i s = pumpAll i (s.setIsland i .running) := by
  simp only [clockRunning, if_pos hi, if_neg hne]

theorem pumpAll_none (hheld : s.cop.held = []) : pumpAll i s = s := by simp [pumpAll, hheld, pump]

theorem leaveSelfRefresh_held (s : State) : (leaveSelfRefresh s).cop = s.cop := by
  unfold leaveSelfRefresh
  split <;> simp

/-- The clock of a woken island for which no access is held (02 R46). -/
theorem clockRunning_idle (hi : s.island i = .waking) (hheld : s.cop.held = []) :
    clockRunning i s = if i = 2 then leaveSelfRefresh (s.setIsland i .running) else s.setIsland i .running := by
  simp only [clockRunning, if_pos hi]
  refine pumpAll_none ?_
  split
  · rw [leaveSelfRefresh_held]
    exact hheld
  · exact hheld

theorem clockRunning_acts (hacts : s.acts 6 = true) (hi : s.island i = .waking) :
    exec (.islandClockRunning i) s = .next (settle (clockRunning i s)) :=
  onIslandIf_acts s (clockRunning i) (fun s => s.island i == .waking || (s.runs i && !s.cop.held.isEmpty)) 6 hacts
    (by simp [hi])

/-- MEM brings LPDDR5 out of self-refresh (14 R354). -/
theorem leaveSelfRefresh_of (h : s.reg Obj.MEM_STATE = 3) :
    leaveSelfRefresh s = (s.setReg Obj.MEM_STATE 2).emit (.selfRefresh false) := if_pos h

theorem leaveSelfRefresh_of_ne (h : s.reg Obj.MEM_STATE ≠ 3) : leaveSelfRefresh s = s := if_neg h

/-- What a change between self-refresh and its end may touch, with a clock. -/
def selfRefreshFootprint : Footprint where
  parts := [.device, .out]
  objs := (· == Obj.MEM_STATE)

theorem wakeMemory_within (s : State) : s.Within selfRefreshFootprint
    (((s.setIsland 2 .running).setReg Obj.MEM_STATE 2).emit (.selfRefresh false)) :=
  (((refl _ s).setIsland 2 .running).setReg _ _).emit _

theorem setIsland_within (s : State) (i : Nat) (m : IslandMode) : s.Within { parts := [.device] } (s.setIsland i m) :=
  (refl _ s).setIsland i m

/-! ### A read that was held for its island (02 R46, 15 R363) -/

/-- A number is read as the bytes of its object (15 R363). -/
theorem readValue_fixed {obj n sel : Nat} {r : ObjRow} (hrow : rowOf obj = some r) (hty : r.ty = .fixed n)
    (hcount : countedBy obj u = u) (hbank : u.bankOf obj = some sel) (hopen : u.openReading obj = none)
    (hmap : obj = Obj.X_MAP_ENTRY → u.reg Obj.X_MAP_INDEX < 2048) :
    readValue obj u = .ok u (natLE n ((u.formed obj).getD (u.regAt obj sel))) := by
  have hin : ¬ ((decide (obj = Obj.X_MAP_ENTRY) && decide (2048 ≤ u.reg Obj.X_MAP_INDEX)) = true) := by
    simpa using hmap
  simp only [readValue, hrow, hty, readNumber, hcount, hbank, hopen, if_neg hin]

/-- A READ of a number whose rights and island are in order is answered with its value. -/
theorem executeRead_fixed {q : Request} {n : Nat} {r : ObjRow} {data : Bytes} (rd : State → Value)
    (hfind : s.findObj q.obj = some r) (hright : readRight r = 0) (hreach : s.reach r q.obj = .ready)
    (hty : r.ty = .fixed n) (hrd : rd (s.accessed q.obj) = .ok u data) : executeRead rd q s = u.respond q 0 0 data := by
  simp only [executeRead, hfind, hright, ne_eq, not_true_eq_false, if_false, hreach, hty, hrd]

/-- The one request that was held for the island that wakes is executed, and counted (02 R46). -/
theorem pumpAll_one {q : Request} {r : ObjRow} (hheld : s.cop.held = [q]) (hrow : rowOf q.obj = some r)
    (hreach : s.reach r q.obj = .ready) (hop : q.opcode ≤ 2) (hobj : islandOf q.obj = i) :
    pumpAll i s = runAny q (State.completedWake { s with cop := { s.cop with held := [] } } i) := by
  simp [pumpAll, hheld, pump, hrow, hreach, hop, hobj]
  rfl

/-- What a wake and the answer of the access that was held for it may touch. -/
def wakeFootprint : Footprint where
  parts := [.answer, .out, .cop, .device]
  objs := (· == Obj.ACCESS_WAKES)
  crossings := (· == 9)

/-- The state in which the access that was held for island `i` is carried out. -/
def State.woken (s : State) (i : Nat) : State :=
  State.completedWake { s.setIsland i .running with cop := { s.cop with held := [] } } i

theorem woken_within (s : State) (i : Nat) : s.Within wakeFootprint (s.woken i) := by
  have hrun : s.Within wakeFootprint { s.setIsland i .running with cop := { s.cop with held := [] } } :=
    ((refl _ s).setIsland i .running).of_fields (cop := .inl (by decide))
  exact (hrun.bump Obj.ACCESS_WAKES).of_fields (device := .inl (by decide))

theorem respond_zero_within {F : Footprint} (s : State) (q : Request) (total : Nat) (data : Bytes)
    (ha : .answer ∈ F.parts) (ho : .out ∈ F.parts) : s.Within F (s.respond q 0 total data) := by
  have hawake : ¬ 0 = abortAsleep := by decide
  simp only [State.respond, if_true, if_neg hawake]
  exact ((refl F s).of_fields (answer := .inl ha)).trans (sendResponse_within _ _ ha ho)

/-- The newest answer after any answer is its data. -/
theorem respond_answerData (s : State) (q : Request) (abort total : Nat) (data : Bytes) :
    (s.respond q abort total data).answerData = data := by
  simp [State.respond, State.answerData, keepResponse]

theorem woken_island (s : State) (i : Nat) : (s.woken i).island = (s.setIsland i .running).island := rfl

theorem woken_holds (s : State) (i : Nat) : (s.woken i).device.holds = insertOnce i s.device.holds := rfl

theorem woken_accessWakes (s : State) (i : Nat) :
    (s.woken i).reg Obj.ACCESS_WAKES = (s.reg Obj.ACCESS_WAKES + 1) % 2 ^ 32 :=
  (State.reg_bump (s.setIsland i .running) Obj.ACCESS_WAKES Obj.ACCESS_WAKES).trans (if_pos rfl)

/-- What the crossing of an access leaves. -/
theorem accessed_keeps (s : State) (obj : Nat) : (s.accessed obj).cop = s.cop ∧ (s.accessed obj).island = s.island ∧
    (s.accessed obj).device.holds = s.device.holds ∧ (s.accessed obj).reg = s.reg := by
  unfold State.accessed
  split
  · exact ⟨rfl, rfl, rfl, rfl⟩
  · exact ⟨rfl, rfl, rfl, rfl⟩

/-- The clock of an island runs for which one READ of a number is held. -/
theorem clockRunning_read {q : Request} {r : ObjRow} {n : Nat} {data : Bytes} (hphase : s.device.phase = .running)
    (hi : s.island i = .waking) (hheld : s.cop.held = [q]) (hop : q.opcode = 1) (hobj : islandOf q.obj = i)
    (hrow : rowOf q.obj = some r) (hty : r.ty = .fixed n) (hright : readRight r = 0) (hsleep : s.reg Obj.SLEEP_STATE ≠ 3)
    (htrip : s.power.tripped = false) (hne : i ≠ 2)
    (hvalue : readValue q.obj ((s.woken i).accessed q.obj) = .ok ((s.woken i).accessed q.obj) data) :
    clockRunning i s = ((s.woken i).accessed q.obj).respond q 0 0 data := by
  have hreach : ∀ t : State, t.island i = .running → t.reg Obj.SLEEP_STATE ≠ 3 → t.power.tripped = false →
      t.reach r q.obj = .ready := fun t h1 h2 h3 => by simp [State.reach, hobj, h1, h2, h3]
  have hrun : (s.setIsland i .running).island i = .running := (island_of_setIsland s i .running).1
  have hsleep1 : (s.woken i).reg Obj.SLEEP_STATE = s.reg Obj.SLEEP_STATE :=
    (woken_within s i).obj Obj.SLEEP_STATE 0 rfl (by decide)
  have hfind : (s.woken i).findObj q.obj = some r := by
    have hp : (s.woken i).device.phase = .running := hphase
    simp [State.findObj, hp, hrow]
  rw [clockRunning_waking hi hne, pumpAll_one (s := s.setIsland i .running) hheld hrow (hreach _ hrun hsleep htrip)
    (by omega) hobj]
  have hread : runAny q (s.woken i) = executeRead (readValue q.obj) q (s.woken i) := by simp [runAny, runRequest, hop]
  exact hread.trans (executeRead_fixed _ hfind hright
    (hreach _ (by rw [woken_island, hrun]) (by rw [hsleep1]; exact hsleep) htrip) hty hvalue)

theorem wokenAnswer_within (s : State) (i obj : Nat) (q : Request) (data : Bytes) :
    s.Within wakeFootprint (((s.woken i).accessed obj).respond q 0 0 data) :=
  ((woken_within s i).trans (accessed_within _ obj (by decide))).trans
    (respond_zero_within _ q 0 data (by decide) (by decide))

/-! ### The hold and the gate (02 R46, R48) -/

/-- The hold of island `i` ends. -/
def State.dropHold (s : State) (i : Nat) : State := { s with device := { s.device with holds := remove i s.device.holds } }

/-- Island `i` is asked to gate. -/
def State.askGate (s : State) (i : Nat) : State :=
  { s with device := { s.device with gating := insertOnce i s.device.gating } }

theorem holdEnd_eq (s : State) (i : Nat) : holdEnd i s =
    if s.power.inS1 then (if i = 2 then enterSelfRefresh (s.dropHold i) else s.dropHold i).askGate i else s.dropHold i :=
  rfl

theorem dropHold_within (s : State) (i : Nat) : s.Within { parts := [.device] } (s.dropHold i) :=
  (refl _ s).of_fields (device := .inl (by decide))

theorem enterSelfRefresh_device (s : State) : (enterSelfRefresh s).device = s.device := by
  unfold enterSelfRefresh
  split <;> rfl

/-- LPDDR5 goes back into self-refresh with MEM (14 R354). -/
theorem enterSelfRefresh_of (h : s.reg Obj.MEM_STATE = 2) :
    enterSelfRefresh s = (s.setReg Obj.MEM_STATE 3).emit (.selfRefresh true) := if_pos h

theorem enterSelfRefresh_of_ne (h : s.reg Obj.MEM_STATE ≠ 2) : enterSelfRefresh s = s := if_neg h

/-- The device after the end of a hold: the hold is dropped, and in S1 the island is asked to gate. -/
theorem holdEnd_device (s : State) (i : Nat) : (holdEnd i s).device = { s.device with
    holds := remove i s.device.holds
    gating := if s.power.inS1 then insertOnce i s.device.gating else s.device.gating } := by
  have hself : ∀ t : State, (if i = 2 then enterSelfRefresh t else t).device = t.device := fun t => by
    split
    · exact enterSelfRefresh_device t
    · rfl
  rw [holdEnd_eq]
  split
  · rw [State.askGate, hself]
    rfl
  · rfl

/-- In S1 the hold of MEM ends with LPDDR5 back in self-refresh. -/
theorem holdEnd_memory (hS1 : s.power.inS1 = true) (hmem : s.reg Obj.MEM_STATE = 2) :
    holdEnd 2 s = (((s.dropHold 2).setReg Obj.MEM_STATE 3).emit (.selfRefresh true)).askGate 2 := by
  rw [holdEnd_eq, if_pos hS1, if_pos rfl, enterSelfRefresh_of (s := s.dropHold 2) hmem]

theorem holdEnd_within (h : ¬(s.power.inS1 = true ∧ i = 2 ∧ s.reg Obj.MEM_STATE = 2)) :
    s.Within { parts := [.device] } (holdEnd i s) := by
  have hself : (if i = 2 then enterSelfRefresh (s.dropHold i) else s.dropHold i) = s.dropHold i ∨ s.power.inS1 = false := by
    cases hS1 : s.power.inS1
    · exact .inr rfl
    · left
      split
      next hi => exact enterSelfRefresh_of_ne fun hmem => h ⟨hS1, hi, hmem⟩
      · rfl
  rw [holdEnd_eq]
  split
  next hS1 =>
    rw [hself.resolve_right (by simp [hS1])]
    exact (dropHold_within s i).of_fields (device := .inl (by decide))
  · exact dropHold_within s i

theorem holdEndMemory_within (s : State) : s.Within selfRefreshFootprint
    ((((s.dropHold 2).setReg Obj.MEM_STATE 3).emit (.selfRefresh true)).askGate 2) := by
  have hdrop : s.Within selfRefreshFootprint (s.dropHold 2) := (refl _ s).of_fields (device := .inl (by decide))
  exact ((hdrop.setReg Obj.MEM_STATE 3).emit (.selfRefresh true)).of_fields (device := .inl (by decide))

theorem gateAck_within (s : State) (i : Nat) : s.Within { parts := [.device] } (gateAck i s) :=
  ((refl _ s).setIsland i .gated).of_fields (device := .inl (by decide))

end Clocks

/-- Settles O10: each event is one change of its island's clock; the read that was held goes through `pumpAll_one` and
`executeRead_fixed`. -/
theorem islandClocksStartAndStop : Obligations.IslandClocksStartAndStop := by
  refine ⟨fun s i hacts hi hheld => ?_,
    fun s u i n sel q r hacts hphase hi hheld hop hobj hrow hty hright hsleep htrip hu hbank hopen hcount hmap hne => ?_,
    fun s i hacts hruns hholds => ?_, fun s i hacts hruns hgating => ?_⟩
  · have hexec := clockRunning_acts hacts hi
    rw [clockRunning_idle hi hheld] at hexec
    obtain ⟨hrun, hothers⟩ := island_of_setIsland s i .running
    by_cases hmem : i = 2 ∧ s.reg Obj.MEM_STATE = 3
    · obtain ⟨rfl, hmem⟩ := hmem
      rw [if_pos rfl, leaveSelfRefresh_of (s := s.setIsland 2 .running) hmem] at hexec
      have hwithin := wakeMemory_within s
      refine ⟨_, hexec, hrun, hothers, rfl, fun _ _ => ⟨?_, rfl, hwithin.frame ?_ ?_ ?_ ?_⟩, fun h => absurd ⟨rfl, hmem⟩ h⟩
      · exact (State.reg_setReg (s.setIsland 2 .running) Obj.MEM_STATE 2 Obj.MEM_STATE).trans (if_pos rfl)
      · decide
      · simp [selfRefreshFootprint]
      · simp [selfRefreshFootprint]
      · simp [selfRefreshFootprint]
    · have hstays : (if i = 2 then leaveSelfRefresh (s.setIsland i .running) else s.setIsland i .running) =
          s.setIsland i .running := by
        split
        next h2 => exact leaveSelfRefresh_of_ne fun hm => hmem ⟨h2, hm⟩
        · rfl
      rw [hstays] at hexec
      have hwithin := setIsland_within s i .running
      exact ⟨_, hexec, hrun, hothers, rfl, fun h2 hm => absurd ⟨h2, hm⟩ hmem, fun _ => hwithin.frame (by simp) (by simp)
        (by simp) (by simp)⟩
  · subst hu
    have hvalue := readValue_fixed hrow hty hcount hbank hopen hmap
    have hexec := clockRunning_acts hacts hi
    rw [clockRunning_read hphase hi hheld hop hobj hrow hty hright hsleep htrip hne hvalue] at hexec
    obtain ⟨hcop, hisland, hholds, hregs⟩ := accessed_keeps (s.woken i) q.obj
    obtain ⟨hrun, hothers⟩ := island_of_setIsland s i .running
    have hwithin := wokenAnswer_within s i q.obj q (natLE n (((((s.woken i).accessed q.obj).formed q.obj)).getD
      (((s.woken i).accessed q.obj).regAt q.obj sel)))
    have hisland1 : ((s.woken i).accessed q.obj).island = (s.setIsland i .running).island := hisland.trans (woken_island s i)
    refine ⟨_, hexec, ?_, fun j hj => ?_, ?_, ?_, ?_, State.respond_answered _ _ _ _ _, respond_answerData _ _ _ _ _,
      fun h hh => hwithin.cross h (by simpa [wakeFootprint] using hh), hwithin.frame ?_ ?_ ?_ ?_⟩
    · simp [hisland1]
    · simp [hisland1, hj]
    · simp [hcop]
      rfl
    · simp [hregs, woken_accessWakes]
    · simp [hholds, woken_holds]
    · decide
    · simp [wakeFootprint]
    · simp [wakeFootprint]
    · simp [wakeFootprint]
  · have hexec : exec (.wakeHoldExpiry i) s = .next (settle (holdEnd i s)) :=
      onIslandIf_acts s (holdEnd i) (fun s => s.device.holds.contains i && s.runs i) 6 hacts (by simp only [hholds, hruns]; rfl)
    have hdevice : (settle (holdEnd i s)).device = _ := holdEnd_device s i
    have hruns1 : (settle (holdEnd i s)).island i = .running := by
      rw [State.island, hdevice]
      exact eq_of_beq hruns
    refine ⟨_, hexec, by rw [hdevice], hruns1, fun hS0 => ⟨by rw [hdevice]; simp [hS0], ?_⟩,
      fun hS1 => by rw [hdevice]; simp [hS1],
      fun hS1 hi hmem => ?_, fun h => (holdEnd_within h).frame (by simp) (by simp) (by simp) (by simp)⟩
    · exact (holdEnd_within (by simp [hS0])).frame (by simp) (by simp) (by simp) (by simp)
    · subst hi
      rw [holdEnd_memory hS1 hmem]
      refine ⟨(State.reg_setReg (s.dropHold 2) Obj.MEM_STATE 3 Obj.MEM_STATE).trans (if_pos rfl), rfl,
        (holdEndMemory_within s).frame (by decide) (by simp [selfRefreshFootprint]) (by simp [selfRefreshFootprint])
          (by simp [selfRefreshFootprint])⟩
  · have hexec : exec (.gateAcknowledge i) s = .next (settle (gateAck i s)) :=
      onIslandIf_acts s (gateAck i) (fun s => s.device.gating.contains i && s.runs i) 6 hacts
        (by simp only [hgating, hruns]; rfl)
    obtain ⟨hgated, hothers⟩ := island_of_setIsland s i .gated
    exact ⟨_, hexec, hgated, hothers, rfl, rfl, (gateAck_within s i).frame (by simp) (by simp) (by simp) (by simp)⟩

end Sys2Proof.Machine
end

section
/-! Statements of the family that fail: their counterexamples, each a state that the model evaluates. -/

namespace Sys2Proof.Machine

set_option Elab.async false

/-! ### The clock check beside a discrepant pair (02 R38, 13 R324) -/

/-- The device after PAIR_DISCREPANT_CONFIRM of source 9, the clock fault. -/
def discrepantDevice : State := settle (confirmPair 9 runningDevice)

theorem discrepantDevice_reached : exec (.pairDiscrepantConfirm 9) runningDevice = .next discrepantDevice :=
  onIsland_acts runningDevice (confirmPair 9) 7 (by decide)

/-- A clock check with both counts in tolerance. -/
theorem discrepantDevice_clockCheck : exec (.clockCheckWindow 25000 33) discrepantDevice =
    .next (settle (clockCheck 25000 33 discrepantDevice)) :=
  onIsland_acts discrepantDevice (clockCheck 25000 33) 7 (by decide)

/-- Refutes O11: its first clause says that after a good clock check source 9 reports only while it is forced, but a source
whose report pair reads discrepant reports too (13 R324). The counterexample is `discrepantDevice`, reached from
`runningDevice` by one command: both counts are in tolerance, nothing is forced, and the source reports. -/
theorem not_clockFaultsAreSeen : ¬ Obligations.ClockFaultsAreSeen := by
  rintro ⟨goodCheck, -⟩
  obtain ⟨t, hexec, -, hreports, -⟩ := goodCheck discrepantDevice 25000 33 (by decide) (by decide)
  rw [discrepantDevice_clockCheck, Host.Outcome.next.injEq] at hexec
  rw [← hexec] at hreports
  have hreporting : (settle (clockCheck 25000 33 discrepantDevice)).reporting 9 = true := by decide
  have hforced : discrepantDevice.forced 9 = false := by decide
  rw [hreporting, hforced] at hreports
  cases hreports

/-! ### A patrol without errors, with its counter over its width (12 R306) -/

/-- A running device in a patrol, whose BEACON_UNCORRECTED holds 2^32, one more than 32 bits hold. -/
def overfullDevice : State :=
  { runningDevice.setReg Obj.BEACON_UNCORRECTED (2 ^ 32) with safety := { patrolling := true } }

/-- The end of its patrol, with no word corrected and none uncorrectable. -/
theorem overfullDevice_patrol : ∃ t, exec (.beaconPatrolComplete 0 []) overfullDevice = .next t ∧
    t.reg Obj.BEACON_UNCORRECTED = 2 ^ 32 := by
  refine ⟨_, onIslandIf_acts overfullDevice _ (fun s => s.safety.patrolling) 7 (by decide) (by decide), ?_⟩
  decide

/-- Refutes O53: its second clause gives BEACON_UNCORRECTED after a patrol modulo 2^32, also when no word is
uncorrectable; the model counts each such word and, without one, leaves the object as it stands. They differ where the
object holds more than its 32 bits, which the statement does not exclude: `overfullDevice` keeps 2^32 there. -/
theorem not_theBeaconIsPatrolled : ¬ Obligations.TheBeaconIsPatrolled := by
  rintro ⟨-, patrol, -⟩
  obtain ⟨t, hexec, -, -, -, -, hcount, -⟩ := patrol overfullDevice 0 [] (by decide) (by decide)
  obtain ⟨t1, hexec1, hcount1⟩ := overfullDevice_patrol
  rw [hexec1, Host.Outcome.next.injEq] at hexec
  rw [← hexec, hcount1] at hcount
  exact absurd hcount (by decide)

/-! ### A lost stroke load of a band beyond the 32 of the largest tile (02 R42 H05) -/

/-- A channel on whose safe-blank input no demand stands. -/
def openChannel : ChannelState := { safeBlank := { pinA := false, pinB := true } }

/-- A running device with BAND_COUNT 33 and no safe blank, whose band 32 runs with one stroke open. -/
def wideDevice : State :=
  { (runningDevice.setReg Obj.BAND_COUNT 33).setBand 32
      { step := .running, strokes := [{ stroke := 0, cycle := 0 }] } with
    safety := { chanA := openChannel, chanB := openChannel } }

theorem wideDevice_timesOut : exec (.crossingTimeout (.strokeLoad 32)) wideDevice =
    .next (settle (crossTimeout (.strokeLoad 32) wideDevice)) :=
  gate_next wideDevice (crossTimeout (.strokeLoad 32)) (wideDevice.timesCrossing (.strokeLoad 32)) (by decide) (by decide)

theorem wideDevice_counts : wideDevice.regAt (Obj.RAIL_HEADROOM_MISSING 48) 0 = 0 ∧
  (settle (crossTimeout (.strokeLoad 32) wideDevice)).regAt (Obj.RAIL_HEADROOM_MISSING 48) 0 = 1 := by
  decide +kernel

/-- Refutes O9: its first clause lets a timeout change the RAIL_HEADROOM_MISSING of rails 0 to 47, and it does not bound
the band of a stroke load, nor BAND_COUNT. The counterexample is band 32 of `wideDevice`: its lost stroke is a missing
sample of rail 48 (07 R182, R197), which counts under that rail's number. -/
theorem not_crossingsTimeOutAndRecover : ¬ Obligations.CrossingsTimeOutAndRecover := by
  rintro ⟨timesOut, -⟩
  obtain ⟨t, hexec, -, -, -, -, -, -, -, hframe⟩ :=
    timesOut wideDevice (.strokeLoad 32) (by decide) (by decide) (by decide)
  rw [wideDevice_timesOut, Host.Outcome.next.injEq] at hexec
  rw [← hexec] at hframe
  obtain ⟨-, -, hobjs, -⟩ := hframe
  have hsame := hobjs (Obj.RAIL_HEADROOM_MISSING 48) 0 (by decide) (by decide) (by decide)
  rw [wideDevice_counts.1, wideDevice_counts.2] at hsame
  cases hsame

end Sys2Proof.Machine
end

section
/-! The statements of the family "correction pipeline": the event of a Vf sample that confirms a defect (06 R166, R175). -/

namespace Sys2Proof.Machine

/-! ### The counterexample: a Vf sample far above its reference -/

/-- A running device with LPDDR5 up and a code that waits for emitter 0. Its Vf trend entry is all zero but for byte 6: the
reference is set, and WEAK_RUN stands at 7. -/
def driftedDevice : State :=
  { (runningDevice.setReg Obj.MEM_STATE 2).setReg Obj.MEM_USABLE_BYTES 0x100000000 with
    mem := [(runningDevice.vfAddr 0 + 6, 0x0F#8)]
    diag := { vfWaiting := [(0, 4095)] } }

/-- The command of the counterexample is well formed. -/
theorem driftedSample_wf : (Instr.vfSample 0 4095 false).wf = true := by decide

theorem driftedDevice_sample :
    exec (.vfSample 0 4095 false) driftedDevice = .next (settle (takeVf 0 4095 false driftedDevice)) :=
  onIsland_acts driftedDevice (takeVf 0 4095 false) 1 (by decide)

/-- The sample queues the event "defect confirmed" of emitter 0 with verdict WEAK (06 R166, R175). -/
theorem driftedDevice_events : (takeVf 0 4095 false driftedDevice).traffic.events =
    [{ code := 0x0003, time := driftedDevice.stampA, data := natLE 4 0 ++ natLE 1 (verdictCode .weak) }] := by
  decide +kernel

/-- Refutes O33: the frame of its first clause does not name the part `traffic`, so it promises that a sample leaves the
queue of events as it stands. A sample that exceeds WEAK_LIMIT with WEAK_RUN at CONFIRM_COUNT confirms the emitter WEAK
(R175), and a confirmed defect emits an event (R166 step 4), which joins that queue. The counterexample is the waiting code
of `driftedDevice`: its queue is empty before the sample and holds that event after it. -/
theorem not_vfSamplesAndWriteBacks : ¬ Obligations.VfSamplesAndWriteBacks := by
  rintro ⟨waitingSample, -⟩
  obtain ⟨t, hexec, -, -, -, hframe⟩ :=
    waitingSample driftedDevice 0 4095 _ false (by decide) (by decide) rfl
  rw [driftedDevice_sample, Host.Outcome.next.injEq] at hexec
  obtain ⟨-, hparts, -⟩ := hframe
  have htraffic : { t.traffic with queue := [] } = { driftedDevice.traffic with queue := [] } :=
    hparts .traffic (by decide)
  have hevents : (takeVf 0 4095 false driftedDevice).traffic.events = driftedDevice.traffic.events := by
    simpa [← hexec] using congrArg TrafficState.events htraffic
  rw [driftedDevice_events] at hevents
  cases hevents

end Sys2Proof.Machine
end

section
/-! The commands of the section "layers and composition": what an admitted host command of a CMD object does, from its
action on the state in which it finds its object. -/

namespace Sys2Proof.Machine

section Command

open State.Within

variable {s : State} {q : Request}

/-! ### The state in which a command finds its object -/

/-- Neither the count of a request nor its access touches the layers, the safety functions or the time. -/
@[simp] theorem State.asked_frame (s : State) (q : Request) :
    (s.asked q).layers = s.layers ∧ (s.asked q).safety = s.safety ∧ (s.asked q).time = s.time := by
  unfold State.asked State.accessed
  split
  · exact ⟨by simp [State.crossed], by simp [State.crossed], by simp [State.crossed]⟩
  · exact ⟨by simp, by simp, by simp⟩

/-- The objects of the layers lie above COP_REQUESTS, which alone a request counts. -/
theorem State.reg_asked (s : State) (q : Request) (o : Nat) (ho : 0x340000 ≤ o := by decide) :
    (s.asked q).reg o = s.reg o := by
  obtain ⟨-, -, -, hreg⟩ := accessed_keeps (s.taken q) q.obj
  have hne : o ≠ Obj.COP_REQUESTS := fun e => by
    rw [e] at ho
    exact absurd ho (by decide)
  rw [State.asked, hreg, State.reg_taken, if_neg hne]

/-- The same for an object of layer `l`, in the form that `simp` meets. -/
@[simp] theorem State.reg_asked_layer (s : State) (q : Request) (c l : Nat) (hc : 0x340000 ≤ c := by decide) :
    (s.asked q).reg (c + 256 * l) = s.reg (c + 256 * l) := s.reg_asked q _ (by omega)

/-! ### A command from its action -/

/-- What the action of a command may touch: the parts and objects that its frame names. -/
def commandFootprint (parts : List Part) (objs : List Nat) : Footprint where
  parts := parts
  objs o := objs.contains o
  crossings k := k == 9

/-- The data of a CMD object reach its action as they came. -/
theorem Request.held_cmd {r : ObjRow} (q : Request) (h : r.ty = .cmd) : q.held r = q := by
  simp [Request.held, h]

variable {act : Action} {rq : Req} {obj : Nat} {data : Bytes} (hadmits : s.admitsWrite rq obj data = true)
  (hcmd : (rowOf obj).map (·.ty) = some .cmd)

include hadmits hcmd

/-- An admitted command acts on the state that its request has asked, and its answer leaves. -/
theorem hostWrite_command {a : Answer} (hact : act (wholeWrite rq obj data) (s.asked (wholeWrite rq obj data)) = a) :
    hostWrite act rq obj data s = .next (settle (conclude (wholeWrite rq obj data) a)) := by
  obtain ⟨r, hrow, hexec⟩ := hostWrite_admitted s act rq obj data hadmits
  have hty : r.ty = .cmd := by simpa [hrow] using hcmd
  rw [hexec, Request.held_cmd _ hty, ← hact]
  rfl

/-- A command that is done is answered with success; it leaves what its action leaves, and has its frame. -/
theorem hostWrite_command_done {u : State} {parts : List Part} {objs : List Nat}
    (hact : act (wholeWrite rq obj data) (s.asked (wholeWrite rq obj data)) = .done u)
    (hu : (s.asked (wholeWrite rq obj data)).Within (commandFootprint parts objs) u) :
    ∃ t, hostWrite act rq obj data s = .next t ∧ t.answered rq 0 = true ∧ t.reg = u.reg ∧ t.layers = u.layers ∧
      s.hostFrame t parts objs [] := by
  have hwithin : (s.taken (wholeWrite rq obj data)).Within (commandFootprint parts objs) u :=
    (accessed_within _ obj rfl).trans hu
  refine ⟨_, hostWrite_command hadmits hcmd hact, State.respond_answered _ _ _ _ _, by simp [conclude],
    by simp [conclude], hostFrame_respond _ _ _ (by decide) ?_ fun _ k hk => ?_⟩
  · exact hwithin.frameRaw (fun _ hp => List.mem_cons_of_mem _ hp) (fun _ o ho => List.contains_iff_mem.mp ho)
      (fun _ => rfl) fun hx => absurd List.mem_cons_self hx
  · rw [hwithin.cross k (by simpa [commandFootprint] using hk)]
    exact congrArg (fun d : DeviceState => Sparse.get (fun _ => ({} : Crossing)) d.crossings k) (by simp)

/-- A command that its action aborts is turned away. -/
theorem hostWrite_command_abort {code : Nat}
    (hact : act (wholeWrite rq obj data) (s.asked (wholeWrite rq obj data)) =
      .abort (s.asked (wholeWrite rq obj data)) code) (hcode : code ≠ 0) (hawake : code ≠ abortAsleep) :
    ∃ t, hostWrite act rq obj data s = .next t ∧ s.turnsAway t rq code := by
  refine ⟨_, hostWrite_command hadmits hcmd hact, State.respond_answered _ _ _ _ _, ?_⟩
  refine hostFrame_of_within (q := wholeWrite rq obj data)
    (F := { abortFootprint [Obj.COP_ABORTS, Obj.COP_LAST_ABORT] with crossings := (· == 9) })
    ((accessed_within _ obj rfl).trans ((respond_abort_within _ _ hcode).mono (fun _ => id) (fun o ho => ?_) id
      (fun _ hk => by cases hk) id)) (by simp [abortFootprint]) (fun o ho => by simpa [abortFootprint] using ho) rfl
    (fun k hk => by simpa using hk) (by decide)
  simpa [abortFootprint, abortObjects, hawake] using ho

end Command

end Sys2Proof.Machine
end

section
/-! Layers are created, destroyed and submitted (04 R89 to R93, R100). -/

namespace Sys2Proof.Machine

section Layers

open State.Within

variable {s : State} {q : Request}

/-! ### The layers as a command finds them -/

theorem State.layer_of_layers {t u : State} (h : t.layers = u.layers) : t.layer = u.layer := by
  funext l
  simp only [State.layer, h]

theorem State.fence_of_layers {t u : State} (h : t.layers = u.layers) : t.fence = u.fence := by
  funext k
  simp only [State.fence, h]

@[simp] theorem State.layer_asked (s : State) (q : Request) : (s.asked q).layer = s.layer :=
  State.layer_of_layers (by simp)

@[simp] theorem State.layerFree_asked (s : State) (q : Request) (l : Nat) : (s.asked q).layerFree l = s.layerFree l := by
  simp [State.layerFree]

@[simp] theorem State.layerSource_asked (s : State) (q : Request) (l : Nat) :
    (s.asked q).layerSource l = s.layerSource l := by
  simp [State.layerSource]

@[simp] theorem State.layerOf_asked (s : State) (q : Request) (h : Nat) : (s.asked q).layerOf h = s.layerOf h := by
  simp only [State.layerOf, State.layerFree_asked, State.layer_asked]

/-- A handle names one of the eight layers (04 R91). -/
theorem State.layerOf_le {h l : Nat} (hof : s.layerOf h = some l) : l ≤ 7 := by
  unfold State.layerOf at hof
  dsimp only at hof
  split at hof
  · next hc =>
    simp only [Bool.and_eq_true, decide_eq_true_eq] at hc
    obtain ⟨⟨⟨-, hle⟩, -⟩, -⟩ := hc
    cases hof
    exact hle
  · cases hof

/-! ### LAYER_CREATE (04 R90) -/

/-- A layer with every object of its group at its default, and its stream taken from them. -/
def State.freshLayer (s : State) (l : Nat) : State :=
  (s.clearRegs (layerObjects l)).setLayer l
    { gen := (s.layer l).gen, stream := (s.clearRegs (layerObjects l)).streamOf l }

/-- Layer `l` is CREATED with its handle. -/
def State.createLayer (s : State) (l : Nat) : State :=
  ((s.freshLayer l).setReg (Obj.LAYER_STATE l) 1).setReg (Obj.LAYER_HANDLE l) (handleOf 0x10 (s.layer l).gen l)

theorem actLayerCreate_done {l : Nat} (harg : q.arg = l) (hle : l ≤ 7) (hrole : l = 7 → q.rq.role = 3)
    (hfree : s.layerFree l = true) : actLayerCreate q s = .done (s.createLayer l) := by
  subst harg
  have hright : ¬ (decide (q.arg = 7) && decide (q.rq.role ≠ 3)) = true := by simpa using hrole
  unfold actLayerCreate
  dsimp only
  rw [if_neg (by omega), if_neg hright, if_neg (by simp [hfree])]
  rfl

theorem actLayerCreate_noObject (h : 7 < q.arg) : actLayerCreate q s = .abort s abortNoObject := if_pos h

theorem actLayerCreate_denied (h7 : q.arg = 7) (hrole : q.rq.role ≠ 3) : actLayerCreate q s = .abort s abortDenied := by
  simp [actLayerCreate, h7, hrole]

theorem actLayerCreate_busy {l : Nat} (harg : q.arg = l) (hlt : l < 7) (htaken : s.layerFree l = false) :
    actLayerCreate q s = .abort s abortBusy := by
  have hle : ¬ 7 < l := by omega
  have hne : l ≠ 7 := by omega
  simp [actLayerCreate, harg, hle, hne, htaken]

/-- At its default L0 receives stream 0, and no other layer a stream (04 R94, R105, R121). -/
theorem streamOf_default {l : Nat} (hl : l ≤ 7) :
    (s.clearRegs (layerObjects l)).streamOf l = if l = 0 then some 0 else none := by
  have hsource : (layerObjects l).contains (Obj.LAYER_SOURCE l) = true ∧
      (layerObjects l).contains (Obj.LAYER_STREAM_ID l) = true ∧
      objDefault (Obj.LAYER_SOURCE l) = (if l = 0 then 1 else if l = 6 then 2 else 0) ∧
      objDefault (Obj.LAYER_STREAM_ID l) = 0 := by
    interval_cases l <;> decide
  obtain ⟨hs, hi, hds, hdi⟩ := hsource
  simp only [State.streamOf, State.layerSource, State.reg_clearRegs, hs, hi, hds, hdi, if_true]
  interval_cases l <;> rfl

theorem createLayer_within (l : Nat) :
    s.Within (commandFootprint [.layers] (Obj.LAYER_STATE l :: Obj.LAYER_HANDLE l :: layerObjects l)) (s.createLayer l) :=
  ((((refl _ s).clearRegs (layerObjects l) fun o ho => by simp [commandFootprint, ho]).setLayer _ _
    List.mem_cons_self).setReg _ _ (by simp [commandFootprint])).setReg _ _ (by simp [commandFootprint])

theorem createLayer_reg (l o : Nat) : (s.createLayer l).reg o =
    if o = Obj.LAYER_HANDLE l then handleOf 0x10 (s.layer l).gen l
    else if o = Obj.LAYER_STATE l then 1
    else if (layerObjects l).contains o then objDefault o else s.reg o := by
  simp [State.createLayer, State.freshLayer]

theorem createLayer_layer {l : Nat} (hl : l ≤ 7) (k : Nat) : (s.createLayer l).layer k =
    if k = l then { gen := (s.layer l).gen, stream := if l = 0 then some 0 else none } else s.layer k := by
  have hfresh : (s.createLayer l).layer = (s.freshLayer l).layer := State.layer_of_layers (by simp [State.createLayer])
  have hcleared : (s.clearRegs (layerObjects l)).layer = s.layer := State.layer_of_layers (by simp)
  rw [hfresh, State.freshLayer, State.layer_setLayer, streamOf_default hl, hcleared]

/-! ### LAYER_DESTROY (04 R92, R109) -/

/-- Layer `l` is DESTROYING, without a pending submission. -/
def State.destroyLayer (s : State) (l : Nat) : State :=
  (s.setReg (Obj.LAYER_STATE l) 2).setLayer l { s.layer l with pending := none }

theorem actLayerDestroy_done {l : Nat} (hof : s.layerOf q.arg = some l) (hlock : l = 7 → s.layers.l7Locked = false) :
    actLayerDestroy q s = .done (s.destroyLayer l) := by
  have hopen : ¬ (decide (l = 7) && s.layers.l7Locked) = true := by simpa using hlock
  unfold actLayerDestroy
  rw [hof]
  exact if_neg hopen

theorem actLayerDestroy_stale (hof : s.layerOf q.arg = none) : actLayerDestroy q s = .abort s abortStale := by
  simp [actLayerDestroy, hof]

theorem actLayerDestroy_denied (hof : s.layerOf q.arg = some 7) (hlock : s.layers.l7Locked = true) :
    actLayerDestroy q s = .abort s abortDenied := by
  simp [actLayerDestroy, hof, hlock]

theorem destroyLayer_within (l : Nat) :
    s.Within (commandFootprint [.layers] [Obj.LAYER_STATE l]) (s.destroyLayer l) :=
  ((refl _ s).setReg _ _ (by simp [commandFootprint])).setLayer _ _ List.mem_cons_self

theorem destroyLayer_layer (l k : Nat) : (s.destroyLayer l).layer k =
    if k = l then { s.layer l with pending := none } else s.layer k := by
  have hset : (s.setReg (Obj.LAYER_STATE l) 2).layer = s.layer := State.layer_of_layers (by simp)
  rw [State.destroyLayer, State.layer_setLayer, hset]

/-! ### LAYER_SUBMIT (04 R100) -/

/-- The submission that the NEXT objects of layer `l` hold; a buffer above 2 acts as 0 (04 R100). -/
def State.nextSubmission (s : State) (l : Nat) : Submission :=
  { buffer := if 2 < s.reg (Obj.LAYER_NEXT_BUFFER l) then 0 else s.reg (Obj.LAYER_NEXT_BUFFER l)
    timeline := s.reg (Obj.LAYER_NEXT_FENCE_TIMELINE l), value := s.reg (Obj.LAYER_NEXT_FENCE_VALUE l)
    notBefore := s.reg (Obj.LAYER_NEXT_NOT_BEFORE l) }

/-- The submission that waits is replaced, which LAYERl_DISCARDED counts. -/
def State.countReplaced (s : State) (l : Nat) : State :=
  if (s.layer l).pending.isSome then s.bump (Obj.LAYER_DISCARDED l) else s

/-- Layer `l` waits with the submission of its NEXT objects. -/
def State.submitLayer (s : State) (l : Nat) : State :=
  (s.countReplaced l).setLayer l { s.layer l with pending := some (s.nextSubmission l) }

theorem actLayerSubmit_done {l : Nat} (hof : s.layerOf q.arg = some l) (hne : l ≠ 7) (hsource : s.layerSource l = 0) :
    actLayerSubmit q s = .done (s.submitLayer l) := by
  unfold actLayerSubmit
  rw [hof]
  exact if_neg (by simp [hne, hsource])

theorem actLayerSubmit_busy {l : Nat} (hof : s.layerOf q.arg = some l) (h : l = 7 ∨ s.layerSource l ≠ 0) :
    actLayerSubmit q s = .abort s abortBusy := by
  unfold actLayerSubmit
  rw [hof]
  exact if_pos (by simpa using h)

theorem actLayerSubmit_stale (hof : s.layerOf q.arg = none) : actLayerSubmit q s = .abort s abortStale := by
  simp [actLayerSubmit, hof]

theorem nextSubmission_asked (l : Nat) : (s.asked q).nextSubmission l = s.nextSubmission l := by
  simp [State.nextSubmission]

theorem submitLayer_within (l : Nat) :
    s.Within (commandFootprint [.layers] [Obj.LAYER_DISCARDED l]) (s.submitLayer l) := by
  unfold State.submitLayer State.countReplaced
  split
  · exact ((refl _ s).bump _ (by simp [commandFootprint])).setLayer _ _ List.mem_cons_self
  · exact (refl _ s).setLayer _ _ List.mem_cons_self

theorem submitLayer_layer (l k : Nat) : (s.submitLayer l).layer k =
    if k = l then { s.layer l with pending := some (s.nextSubmission l) } else s.layer k := by
  have hcount : (s.countReplaced l).layer = s.layer := State.layer_of_layers (by
    unfold State.countReplaced
    split <;> simp)
  rw [State.submitLayer, State.layer_setLayer, hcount]

theorem submitLayer_discarded {l : Nat} (hl : l ≤ 7) : (s.submitLayer l).reg (Obj.LAYER_DISCARDED l) =
    if (s.layer l).pending.isSome then (s.reg (Obj.LAYER_DISCARDED l) + 1) % 2 ^ 32
    else s.reg (Obj.LAYER_DISCARDED l) := by
  have hwidth : widthOf (Obj.LAYER_DISCARDED l) = 32 := by
    interval_cases l <;> decide
  unfold State.submitLayer State.countReplaced
  split
  · simp only [State.setLayer_frame, State.reg_bump, if_true, hwidth]
  · simp

end Layers

/-! ### The obligation -/

/-- Settles O23: each command acts on the state that its request has asked, where its action is one operation on the layer
(`createLayer`, `destroyLayer`, `submitLayer`) or an abort. -/
theorem layersAreCreatedDestroyedAndSubmitted : Obligations.LayersAreCreatedDestroyedAndSubmitted := by
  refine ⟨?created, ?notCreated, ?destroyed, ?destroyStale, ?destroyDenied, ?submitted, ?submitBusy, ?submitStale⟩
  case created =>
    intro s rq data l hadmits harg hle hrole hfree
    obtain ⟨t, hexec, hanswer, hreg, hlayers, hframe⟩ := hostWrite_command_done hadmits (by decide)
      (actLayerCreate_done harg hle hrole (by simpa using hfree)) (createLayer_within l)
    have hstate : Obj.LAYER_STATE l ≠ Obj.LAYER_HANDLE l := by simp
    have hlayer : ∀ k, t.layer k = _ := fun k =>
      (congrFun (State.layer_of_layers hlayers) k).trans (createLayer_layer hle k)
    refine ⟨t, hexec, hanswer, ?_, ?_, ?_, fun o ho hns hnh => ?_, fun k hk => ?_, hframe⟩
    · rw [hreg, createLayer_reg, if_neg hstate, if_pos rfl]
    · rw [hreg, createLayer_reg, if_pos rfl, State.layer_asked]
    · rw [hlayer, if_pos rfl, State.layer_asked]
    · rw [hreg, createLayer_reg, if_neg hnh, if_neg hns, if_pos (List.contains_iff_mem.mpr ho)]
    · rw [hlayer, if_neg hk, State.layer_asked]
  case notCreated =>
    intro s rq data hadmits
    refine ⟨fun h => ?_, fun h7 hrole => ?_, fun hlt htaken => ?_⟩
    · exact hostWrite_command_abort hadmits (by decide) (actLayerCreate_noObject h) (by decide) (by decide)
    · exact hostWrite_command_abort hadmits (by decide) (actLayerCreate_denied h7 hrole) (by decide) (by decide)
    · exact hostWrite_command_abort hadmits (by decide) (actLayerCreate_busy rfl hlt
        ((State.layerFree_asked _ _ _).trans htaken)) (by decide) (by decide)
  case destroyed =>
    intro s rq data l hadmits hof hlock
    obtain ⟨t, hexec, hanswer, hreg, hlayers, hframe⟩ := hostWrite_command_done hadmits (by decide)
      (actLayerDestroy_done ((State.layerOf_asked _ _ _).trans hof) (by simpa using hlock)) (destroyLayer_within l)
    have hlayer : ∀ k, t.layer k = _ := fun k =>
      (congrFun (State.layer_of_layers hlayers) k).trans (destroyLayer_layer l k)
    refine ⟨t, hexec, hanswer, ?_, ?_, fun k hk => ?_, hframe⟩
    · simp [hreg, State.destroyLayer]
    · rw [hlayer, if_pos rfl, State.layer_asked]
    · rw [hlayer, if_neg hk, State.layer_asked]
  case destroyStale =>
    intro s rq data hadmits hof
    exact hostWrite_command_abort hadmits (by decide) (actLayerDestroy_stale ((State.layerOf_asked _ _ _).trans hof))
      (by decide) (by decide)
  case destroyDenied =>
    intro s rq data hadmits hof hlock
    exact hostWrite_command_abort hadmits (by decide)
      (actLayerDestroy_denied ((State.layerOf_asked _ _ _).trans hof) (by simpa using hlock)) (by decide) (by decide)
  case submitted =>
    intro s rq data l hadmits hof hne hsource
    obtain ⟨t, hexec, hanswer, hreg, hlayers, hframe⟩ := hostWrite_command_done hadmits (by decide)
      (actLayerSubmit_done ((State.layerOf_asked _ _ _).trans hof) hne (by simpa using hsource)) (submitLayer_within l)
    have hlayer : ∀ k, t.layer k = _ := fun k =>
      (congrFun (State.layer_of_layers hlayers) k).trans (submitLayer_layer l k)
    refine ⟨t, hexec, hanswer, ?_, ?_, fun k hk => ?_, hframe⟩
    · rw [hlayer, if_pos rfl, nextSubmission_asked]
      rfl
    · simp [hreg, submitLayer_discarded (State.layerOf_le hof)]
    · rw [hlayer, if_neg hk, State.layer_asked]
  case submitBusy =>
    intro s rq data l hadmits hof h
    exact hostWrite_command_abort hadmits (by decide)
      (actLayerSubmit_busy ((State.layerOf_asked _ _ _).trans hof) (by simpa using h)) (by decide) (by decide)
  case submitStale =>
    intro s rq data hadmits hof
    exact hostWrite_command_abort hadmits (by decide) (actLayerSubmit_stale ((State.layerOf_asked _ _ _).trans hof))
      (by decide) (by decide)

end Sys2Proof.Machine
end

section
/-! A flip at a frame boundary (04 R102 to R105), and the fence condition that it waits for. -/

namespace Sys2Proof.Machine

section Flips

variable {s : State} {l : Nat} {b b1 : Int}

/-! ### What the boundary finds for a layer (04 R102, R103, R105) -/

/-- A memory layer that is CREATED, with a submission that waits. -/
theorem flipChoice_memory {p : Submission} (hstate : s.reg (Obj.LAYER_STATE l) = 1) (hsource : s.layerSource l = 0)
    (hpending : (s.layer l).pending = some p) : s.flipChoice l b b1 =
      if s.fenceMet p.timeline p.value b = false then .miss
      else if p.notBefore ≠ 0 ∧ b1 < (timeNs p.notBefore : Int) then .keep
      else .flip p.buffer := by
  simp [State.flipChoice, hstate, hsource, hpending]

/-- A stream layer that is CREATED, with a completed frame that waits. -/
theorem flipChoice_stream {n frame stream : Nat} (hstate : s.reg (Obj.LAYER_STATE l) = 1) (hsource : s.layerSource l = 1)
    (hpending : (s.layer l).streamPending = some (n, frame, stream)) : s.flipChoice l b b1 =
      if s.fenceMet (s.reg (Obj.LAYER_STREAM_FENCE l)) frame b = true then .flip n else .miss := by
  simp [State.flipChoice, hstate, hsource, hpending]

theorem decideFlip_of_keep (h : s.flipChoice l b b1 = .keep) : decideFlip l b b1 s = s := by
  simp [decideFlip, h]

theorem decideFlip_of_miss (h : s.flipChoice l b b1 = .miss) : decideFlip l b b1 s = s.bump (Obj.LAYER_MISSES l) := by
  simp [decideFlip, h]

theorem decideFlip_of_flip {n : Nat} (h : s.flipChoice l b b1 = .flip n) : decideFlip l b b1 s = flip l n b s := by
  simp [decideFlip, h]

/-! ### A flip (04 R102, R104 to R106) -/

theorem flip_reg (n o : Nat) : (flip l n b s).reg o =
    if o = Obj.LAYER_LAST_FLIP_TIME l then packTime (b.toNat * 4294967296)
    else if o = Obj.LAYER_FLIPS l then (s.reg (Obj.LAYER_FLIPS l) + 1) % 2 ^ widthOf (Obj.LAYER_FLIPS l)
    else if o = Obj.LAYER_CURRENT_BUFFER l then n else s.reg o := by
  simp [flip]

theorem flip_flips (hl : l < 7) (n : Nat) :
    (flip l n b s).reg (Obj.LAYER_FLIPS l) = (s.reg (Obj.LAYER_FLIPS l) + 1) % 2 ^ 32 := by
  have hwidth : widthOf (Obj.LAYER_FLIPS l) = 32 := by
    interval_cases l <;> decide
  simp [flip_reg, hwidth]

theorem flip_layer (n : Nat) : (flip l n b s).layer l =
    { s.layer l with
      releasing := if (s.layerSource l == 0 || (s.layer l).bound) && s.reg (Obj.LAYER_CURRENT_BUFFER l) != n then
        some (s.reg (Obj.LAYER_CURRENT_BUFFER l)) else none
      bound := true
      pending := if s.layerSource l = 0 then none else (s.layer l).pending
      streamPending := if s.layerSource l = 1 then none else (s.layer l).streamPending
      inLoss := (s.layer l).inLoss && (s.layer l).streamPending.map (·.2.2) != (s.layer l).stream } := by
  unfold flip
  dsimp only
  rw [State.layer_setLayer, if_pos rfl]

/-! ### The fence condition (04 R101, R102) -/

/-- The newest signal of a timeline that counts at the cutoff gives its value there. -/
theorem valueAt_of_newest {f : FenceLine} {v : Nat} {arrival : Option Int} {rest : List (Nat × Option Int)} {t : Int}
    (hsignals : f.signals = (v, arrival) :: rest) (harrived : ∀ a, arrival = some a → a ≤ t) : f.valueAt t = v := by
  have hcounts : arrivedBy t arrival = true := by
    cases arrival with
    | none => rfl
    | some a => simpa [arrivedBy] using harrived a rfl
  simp [FenceLine.valueAt, hsignals, hcounts]

end Flips

/-- Settles O24: the choice of a layer at a boundary is known from its pending submission or frame (`flipChoice_memory`,
`flipChoice_stream`), and a flip changes the layer as `flip_reg` and `flip_layer` say. -/
theorem layersFlipAtTheBoundary : Obligations.LayersFlipAtTheBoundary := by
  refine ⟨?flips, ?misses, ?waits, ?stream, ?fence⟩
  case flips =>
    intro s l p b b1 hl hstate hsource hpending hmet hreached
    have hnow : ¬ (p.notBefore ≠ 0 ∧ b1 < (timeNs p.notBefore : Int)) := by omega
    have hflip : decideFlip l b b1 s = flip l p.buffer b s := decideFlip_of_flip (by
      rw [flipChoice_memory hstate hsource hpending, if_neg (by simp [hmet]), if_neg hnow])
    rw [hflip]
    refine ⟨by simp [flip_reg], flip_flips hl _, by simp [flip_reg], by simp [flip_layer, hsource], ?_⟩
    by_cases hsame : s.reg (Obj.LAYER_CURRENT_BUFFER l) = p.buffer
    · simp [flip_layer, hsame]
    · simp [flip_layer, hsource, hsame]
  case misses =>
    intro s l p b b1 _ hstate hsource hpending hunmet
    exact decideFlip_of_miss (by rw [flipChoice_memory hstate hsource hpending, if_pos hunmet])
  case waits =>
    intro s l p b b1 _ hstate hsource hpending hmet hset hearly
    exact decideFlip_of_keep (by
      rw [flipChoice_memory hstate hsource hpending, if_neg (by simp [hmet]), if_pos ⟨hset, hearly⟩])
  case stream =>
    intro s l n frame stream b b1 hl hstate hsource hpending
    have hchoice := flipChoice_stream (b := b) (b1 := b1) hstate hsource hpending
    refine ⟨fun hmet => ?_, fun hunmet => ?_⟩
    · rw [decideFlip_of_flip (hchoice.trans (if_pos hmet))]
      refine ⟨by simp [flip_reg], flip_flips hl _, by simp [flip_layer, hsource], by simp [flip_layer], fun hown => ?_⟩
      simp [flip_layer, hpending, hown]
    · exact decideFlip_of_miss (hchoice.trans (if_neg (by simp [hunmet])))
  case fence =>
    intro s k v value arrival rest b hk hsignals harrived
    have hvalue : (s.fence k).valueAt (s.fenceCutoff b) = v := valueAt_of_newest hsignals harrived
    rw [State.fenceMet, if_neg (by omega), hvalue]

end Sys2Proof.Machine
end

section
/-! Fence signals, and the arming and disarming of the protected layer (04 R101, R108, R109, R111). -/

namespace Sys2Proof.Machine

section Fences

open State.Within

variable {s : State} {q : Request}

/-! ### FENCE_SIGNAL (04 R101) -/

@[simp] theorem State.fence_asked (s : State) (q : Request) : (s.asked q).fence = s.fence :=
  State.fence_of_layers (by simp)

theorem State.nowNs_asked (s : State) (q : Request) : (s.asked q).nowNs = s.nowNs := by
  obtain ⟨-, -, htime⟩ := State.asked_frame s q
  simp only [State.nowNs, State.now, State.active, State.dom, htime]

/-- The value `v` is newer than that of timeline `k`. -/
def State.fenceNewer (s : State) (k v : Nat) : Prop := 0 < signed 32 (image 32 ((v : Int) - (s.fence k).value))

theorem fenceSignal_newer {k v : Nat} {arrival : Option Int} (hv : v < 2 ^ 32) (h : s.fenceNewer k v) :
    fenceSignal k v arrival s =
      s.setFence k { s.fence k with value := v, signals := (v, arrival) :: (s.fence k).signals } := by
  have hif := Nat.mod_eq_of_lt hv
  unfold fenceSignal
  dsimp only
  rw [hif]
  exact if_pos h

theorem fenceSignal_stale {k v : Nat} {arrival : Option Int} (h : ¬ s.fenceNewer k v) :
    fenceSignal k v arrival s = s.bump Obj.FENCE_STALE := if_neg h

/-- The command signals the timeline of FENCE_SIGNAL_INDEX, now. -/
theorem actFenceSignal_asked {k v : Nat} (hk : k = s.atMost Obj.FENCE_SIGNAL_INDEX 15) (hv : v = q.arg % 2 ^ 32) :
    actFenceSignal q (s.asked q) = .done (fenceSignal k v (some (s.nowNs : Int)) (s.asked q)) := by
  rw [actFenceSignal, State.nowNs_asked, hk, hv, State.atMost, State.reg_asked s q Obj.FENCE_SIGNAL_INDEX]
  rfl

/-! ### L7_ARM and L7_DISARM (04 R108, R109, R111) -/

/-- The layers after an arming has begun: locked, with a pass wanted. -/
def LayersState.armed (x : LayersState) : LayersState :=
  { x with l7Locked := true, fillWanted := true, filling := false, spoiled := 0, disarming := false, refillReady := false }

/-- The layers after the disarming: the lock has ended, the state follows at the next boundary. -/
def LayersState.disarmed (x : LayersState) : LayersState :=
  { x with l7Locked := false, disarming := true, filling := false, fillWanted := false, refillReady := false }

/-- Arming begins. -/
def State.armL7 (s : State) : State :=
  { (s.setReg Obj.L7_ARM_STATE 1).setReg Obj.L7_REFUSE_CAUSE 0 with layers := s.layers.armed }

/-- An arming, a content in force, a refill or the evacuation display keeps L7_ARM from being taken (04 R108). -/
def State.armBusy (s : State) : Bool :=
  s.safety.evacActive || s.reg Obj.L7_ARM_STATE = 1 || s.reg Obj.L7_ARM_STATE = 2 || s.reg Obj.L7_ARM_STATE = 3

theorem armBusy_asked (s : State) (q : Request) : (s.asked q).armBusy = s.armBusy := by
  simp [State.armBusy, s.reg_asked q Obj.L7_ARM_STATE]

theorem actL7Arm_done (hof : s.layerOf q.arg = some 7) (hfree : s.armBusy = false) : actL7Arm q s = .done s.armL7 := by
  unfold actL7Arm
  rw [hof]
  exact if_neg (Bool.eq_false_iff.mp hfree)

theorem actL7Arm_busy (hof : s.layerOf q.arg = some 7) (hbusy : s.armBusy = true) :
    actL7Arm q s = .abort s abortBusy := by
  unfold actL7Arm
  rw [hof]
  exact if_pos hbusy

theorem armL7_within : s.Within (commandFootprint [.layers] [Obj.L7_ARM_STATE, Obj.L7_REFUSE_CAUSE]) s.armL7 :=
  (((refl _ s).setReg _ _).setReg _ _).layers _

theorem armL7_reg (o : Nat) : s.armL7.reg o =
    if o = Obj.L7_REFUSE_CAUSE then 0 else if o = Obj.L7_ARM_STATE then 1 else s.reg o := by
  have hreg : s.armL7.reg = ((s.setReg Obj.L7_ARM_STATE 1).setReg Obj.L7_REFUSE_CAUSE 0).reg := rfl
  rw [hreg, State.reg_setReg, State.reg_setReg]

theorem actL7Disarm_done (hof : s.layerOf q.arg = some 7) :
    actL7Disarm q s = .done { s with layers := s.layers.disarmed } := by
  unfold actL7Disarm
  rw [hof]
  rfl

/-- A handle that is stale, or that of another layer (assumption log 145). -/
theorem actL7Disarm_stale (hof : s.layerOf q.arg ≠ some 7) : actL7Disarm q s = .abort s abortStale := by
  unfold actL7Disarm
  split
  · next h => exact absurd h hof
  · rfl
  · rfl

end Fences

/-- Settles O25: a signal is newer than its timeline's value or stale (`fenceSignal_newer`, `fenceSignal_stale`); L7_ARM
and L7_DISARM are one change of the layers each (`armL7`, `LayersState.disarmed`), or an abort. -/
theorem fencesAndTheProtectedLayer : Obligations.FencesAndTheProtectedLayer := by
  refine ⟨?signal, ?arm, ?armBusy, ?disarm, ?disarmStale⟩
  case signal =>
    intro s rq data k v hadmits hk hv
    have hact := actFenceSignal_asked (s := s) (q := wholeWrite rq Obj.FENCE_SIGNAL data) hk hv
    by_cases hnew : s.fenceNewer k v
    · rw [fenceSignal_newer (by omega) (by simpa [State.fenceNewer] using hnew), State.fence_asked] at hact
      obtain ⟨t, hexec, hanswer, -, hlayers, hframe⟩ := hostWrite_command_done (parts := [.layers]) (objs := []) hadmits
        (by decide) hact ((State.Within.refl _ _).setFence _ _)
      have hfence : ∀ j, t.fence j = _ := fun j =>
        (congrFun (State.fence_of_layers hlayers) j).trans (State.fence_setFence _ _ _ _)
      refine ⟨t, hexec, hanswer, fun _ => ⟨?_, fun j hj => ?_, hframe⟩, fun hold => absurd hnew (not_lt.mpr hold)⟩
      · rw [hfence, if_pos rfl]
      · rw [hfence, if_neg hj, State.fence_asked]
    · rw [fenceSignal_stale (by simpa [State.fenceNewer] using hnew)] at hact
      obtain ⟨t, hexec, hanswer, hreg, -, hframe⟩ := hostWrite_command_done (parts := []) (objs := [Obj.FENCE_STALE])
        hadmits (by decide) hact ((State.Within.refl _ _).bump _)
      have hwidth : widthOf Obj.FENCE_STALE = 32 := by decide
      refine ⟨t, hexec, hanswer, fun h => absurd h hnew, fun _ => ⟨?_, hframe⟩⟩
      simp [hreg, hwidth, s.reg_asked _ Obj.FENCE_STALE]
  case arm =>
    intro s rq data hadmits hof hevac hstate
    have hfree : s.armBusy = false := by
      rcases hstate with h | h <;> simp [State.armBusy, hevac, h]
    obtain ⟨t, hexec, hanswer, hreg, hlayers, hframe⟩ := hostWrite_command_done hadmits (by decide)
      (actL7Arm_done ((State.layerOf_asked _ _ _).trans hof) ((armBusy_asked _ _).trans hfree)) armL7_within
    have harmed : t.layers = s.layers.armed := by simpa [State.armL7] using hlayers
    refine ⟨t, hexec, hanswer, by simp [hreg, armL7_reg], by simp [hreg, armL7_reg], ?_, ?_, ?_, hframe⟩
    · rw [harmed, LayersState.armed]
    · rw [harmed, LayersState.armed]
    · rw [harmed, LayersState.armed]
  case armBusy =>
    intro s rq data hadmits hof hbusy
    have hbusy : s.armBusy = true := by simpa [State.armBusy, or_assoc] using hbusy
    exact hostWrite_command_abort hadmits (by decide)
      (actL7Arm_busy ((State.layerOf_asked _ _ _).trans hof) ((armBusy_asked _ _).trans hbusy)) (by decide) (by decide)
  case disarm =>
    intro s rq data hadmits hof
    obtain ⟨t, hexec, hanswer, hreg, hlayers, hframe⟩ := hostWrite_command_done (parts := [.layers]) (objs := []) hadmits
      (by decide) (actL7Disarm_done ((State.layerOf_asked _ _ _).trans hof)) ((State.Within.refl _ _).layers _)
    have harm : t.reg Obj.L7_ARM_STATE = s.reg Obj.L7_ARM_STATE := by
      rw [hreg]
      exact State.reg_asked _ _ _
    refine ⟨t, hexec, hanswer, ?_, ?_, ?_, harm, hframe⟩
    · rw [hlayers, LayersState.disarmed]
    · rw [hlayers, LayersState.disarmed]
    · rw [hlayers, LayersState.disarmed]
  case disarmStale =>
    intro s rq data l hadmits hof hne
    exact hostWrite_command_abort hadmits (by decide)
      (actL7Disarm_stale (by rw [State.layerOf_asked]; exact fun h => hne (hof.symm.trans h))) (by decide) (by decide)

end Sys2Proof.Machine
end

section
/-! The end of a fill pass (04 R108, R110, 03 R86): what its reads count, and what becomes of its content. -/

namespace Sys2Proof.Machine

section Fill

open State.Within

variable (s : State)

/-! ### What the reads of a pass count (03 R60, R68, 11 R269, R272) -/

/-- The objects that the reads of a fill pass count. -/
def fillObjs : List Nat :=
  Obj.MISSING_READS :: Obj.CAL_CRC_FAILS :: Obj.CAL_LAST_FAIL_PIXEL :: readObjs

/-- What the reads of a fill pass may touch. -/
def fillFootprint : Footprint where
  parts := [.fault, .memory]
  objs o := fillObjs.contains o
  crossings k := k == 2

theorem fillFootprint_reads : fillFootprint.Reads where
  objs := by decide
  fault := by decide
  memory := by decide

theorem noteFill_within : s.Within fillFootprint (noteFill s) := by
  refine foldNSteps (fun t j _ => ?_) s
  dsimp only
  split
  · exact ((refl _ t).pixelRead fillFootprint_reads _ _).pixelRead fillFootprint_reads _ _
  · exact (refl _ t).pixelRead fillFootprint_reads _ _

/-- The record of a fill pixel is counted as that of a row's pixel. -/
theorem countCal_withinFill (px : Nat) (o : CalOutcome) : s.Within fillFootprint (s.countCal px o) := by
  cases o with
  | good => exact refl _ s
  | disabled => exact refl _ s
  | badCrc => exact (((refl _ s).bump _).setReg _ _).occur 24
  | missing => exact ((((refl _ s).bump _).setReg _ _).occur 24).occur 27

theorem countFill_within (pixels : List FillPixel) : s.Within fillFootprint (countFill pixels s) := by
  refine foldl (fun t o => ?_) pixels s
  have hread := (countCal_withinFill t o.px o.cal).bumpAt Obj.MISSING_READS 0 o.missing
  exact times_keeps (fun _ h => h.occur 27) _ hread

/-! ### The reads leave the store (04 R110) -/

theorem beacon_foldl {α : Type} {f : State → α → State} (h : ∀ t x, (f t x).beacon = t.beacon) (l : List α)
    (s : State) : (l.foldl f s).beacon = s.beacon := by
  induction l generalizing s with
  | nil => rfl
  | cons x l ih => exact (ih (f s x)).trans (h s x)

theorem noteBad_beacon (staging : Bool) (words : List Nat) : (s.noteBad staging words).beacon = s.beacon :=
  beacon_foldl (fun t w => by cases staging <;> rfl) words s

theorem noteRead_beacon (a n : Nat) : (noteRead a n s).beacon = s.beacon := by
  refine beacon_foldl (fun t b => ?_) _ s
  dsimp only
  split
  · unfold State.noteTranslation
    split <;> rfl
  · exact noteBad_beacon t _ _

theorem pixelRead_beacon (a n : Nat) : (pixelRead a n s).beacon = s.beacon := noteRead_beacon s a n

theorem noteFill_beacon : (noteFill s).beacon = s.beacon := by
  refine beacon_foldl (fun t j => ?_) _ s
  dsimp only
  split
  · rw [pixelRead_beacon, pixelRead_beacon]
  · rw [pixelRead_beacon]

theorem countCal_beacon (px : Nat) (o : CalOutcome) : (s.countCal px o).beacon = s.beacon := by
  cases o <;> rfl

theorem countFill_beacon (pixels : List FillPixel) : (countFill pixels s).beacon = s.beacon := by
  refine beacon_foldl (fun t o => ?_) pixels s
  exact times_keeps (P := fun u => u.beacon = t.beacon) (op := (·.occur 27)) (fun _ h => h) _ (countCal_beacon t o.px o.cal)

/-! ### A pass has run to its end -/

/-- No pass is in progress. -/
def State.fillEnded : State := { s with layers := { s.layers with filling := false } }

/-- The pass has ended, and what its reads found is counted. -/
def State.fillCounted : State := countFill s.fillContent.2 (noteFill s.fillEnded)

/-- The pass is spoiled: the islands say so, or a read of it failed to arrive. -/
def State.passSpoiled (spoiled : Bool) : Bool := spoiled || s.fillContent.2.any (·.spoils)

theorem fillCounted_within : s.fillEnded.Within fillFootprint s.fillCounted :=
  (noteFill_within _).trans (countFill_within _ _)

@[simp] theorem fillCounted_layers : s.fillCounted.layers = { s.layers with filling := false } :=
  (fillCounted_within s).part .layers (by decide)

@[simp] theorem fillCounted_beacon : s.fillCounted.beacon = s.beacon :=
  (countFill_beacon _ _).trans (noteFill_beacon _)

theorem fillCounted_reg (o : Nat) (ho : fillFootprint.objs o = false := by decide) : s.fillCounted.reg o = s.reg o :=
  (fillCounted_within s).obj o 0 ho (by decide)

/-! ### A spoiled pass (04 R108) -/

/-- What a spoiled pass may touch. -/
def spoiledFootprint : Footprint where
  parts := [.layers, .memory, .fault]
  objs o := (Obj.L7_ARM_STATE :: Obj.L7_REFUSE_CAUSE :: fillObjs).contains o
  crossings k := k == 2

theorem fillCounted_withinSpoiled : s.Within spoiledFootprint s.fillCounted :=
  ((refl _ s).layers _).trans ((fillCounted_within s).mono (by decide)
    (fun o ho => by simp_all [fillFootprint, spoiledFootprint]) id (fun _ => id) id)

/-- The pass is to be repeated at the next pipeline start, after `n` spoiled ones. -/
def State.repeatFill (n : Nat) : State :=
  { s.fillCounted with layers := { s.fillCounted.layers with fillWanted := true, spoiled := n } }

theorem repeatFill_within (n : Nat) : s.Within spoiledFootprint (s.repeatFill n) :=
  (fillCounted_withinSpoiled s).layers _

theorem refuseFill_within : s.Within spoiledFootprint (refuseArming 3 s.fillCounted) :=
  (((fillCounted_withinSpoiled s).setReg _ _).setReg _ _).layers _

theorem repeatFill_layers (n : Nat) : (s.repeatFill n).layers =
    { s.layers with filling := false, fillWanted := true, spoiled := n } := by
  simp [State.repeatFill]

/-- A change of the layers leaves every object. -/
theorem State.reg_withLayers (x : LayersState) : { s with layers := x }.reg = s.reg := rfl

theorem refuseArming_reg (cause o : Nat) : (refuseArming cause s).reg o =
    if o = Obj.L7_REFUSE_CAUSE then cause else if o = Obj.L7_ARM_STATE then 4 else s.reg o := by
  rw [refuseArming, State.reg_withLayers, State.reg_setReg, State.reg_setReg]

/-- The third spoiled pass of an arming leaves it REFUSED with cause 3, without the lock and without another pass. -/
theorem refuseFill_leaves : (refuseArming 3 s.fillCounted).layers.filling = false ∧
    (refuseArming 3 s.fillCounted).beacon = s.beacon ∧ (refuseArming 3 s.fillCounted).reg Obj.L7_ARM_STATE = 4 ∧
    (refuseArming 3 s.fillCounted).reg Obj.L7_REFUSE_CAUSE = 3 ∧
    (refuseArming 3 s.fillCounted).layers.l7Locked = false ∧ (refuseArming 3 s.fillCounted).layers.fillWanted = false := by
  simp only [refuseArming_reg]
  simp [refuseArming]

/-! ### A clean pass (04 R108, R110) -/

/-- The clips of the content. -/
def State.fillClips : Clips := s.fillContent.2.foldl (fun c o => c.add o.clips) {}

/-- A clean pass has counted its clips and itself. -/
def State.fillPassed : State := (s.fillCounted.countClips s.fillClips).bump Obj.BEACON_FILLS

/-- The content is in force: its peak ratio is formed, and a saved image is stale (12 R309, R417). -/
def State.bringContent (content : Sparse Byte) : State := noteStale (formPeakRatio { s with beacon := content })

/-- The content of an arming is in force, L7 is ARMED, and the event tells it. -/
def State.armBeacon : State :=
  ((((s.fillPassed.bringContent s.fillContent.1).setFlag Obj.BEACON_VALID true).setReg Obj.L7_ARM_STATE 2).setReg
    Obj.L7_ARM_TIME s.stampA).event 0x0002 (natLE 4 (s.reg (Obj.LAYER_HANDLE 7)))

/-- The peak ratio of a content that is not yet in force is formed. -/
def State.rateContent (content : Sparse Byte) : State :=
  s.setReg Obj.EVAC_PEAK_RATIO ((formPeakRatio { s with beacon := content }).reg Obj.EVAC_PEAK_RATIO)

/-- A content waits for its boundary. -/
def State.holdContent (content : Sparse Byte) : State :=
  { s.rateContent content with
    layers := { (s.rateContent content).layers with refillReady := true, refillStore := content } }

/-- The content of a refill waits for its boundary. -/
def State.holdRefill : State := s.fillPassed.holdContent s.fillContent.1

/-- What a clean pass may touch. -/
def cleanFootprint : Footprint where
  parts := [.beacon, .layers, .memory, .fault, .traffic]
  objs _ := true
  crossings k := k == 2

/-- Of the objects, the counting of clips touches five (03 R55). -/
def clipFootprint : Footprint where
  objs o := [Obj.GAMUT_CLIPS, Obj.WORK_SATURATIONS, Obj.EMITTER_SATURATIONS, Obj.EMITTER_NEGATIVE_CLIPS,
    Obj.CODE_SATURATIONS].contains o

theorem countClips_withinClips (c : Clips) : s.Within clipFootprint (s.countClips c) :=
  (((((refl _ s).bumpAt _ 0 _).bumpAt _ 0 _).bumpAt _ 0 _).bumpAt _ 0 _).bumpAt _ 0 _

theorem fillPassed_within : s.Within cleanFootprint s.fillPassed := by
  have hended : s.Within cleanFootprint s.fillEnded := (refl _ s).layers _
  have hcounted : s.fillEnded.Within cleanFootprint s.fillCounted :=
    (fillCounted_within s).mono (by decide) (fun _ _ => rfl) id (fun _ => id) id
  have hclips : s.fillCounted.Within cleanFootprint (s.fillCounted.countClips s.fillClips) :=
    (countClips_withinClips _ _).mono (by decide) (fun _ _ => rfl) id (fun _ h => by cases h) id
  exact ((hended.trans hcounted).trans hclips).bump _

/-- A saved image is noted as stale in EVAC_IMAGE_STATE alone (12 R309). -/
theorem noteStale_eq : noteStale s = s ∨ noteStale s = s.setReg Obj.EVAC_IMAGE_STATE 2 := by
  unfold noteStale
  split
  · exact .inr rfl
  · exact .inl rfl

/-- Of the objects, a content in force changes EVAC_PEAK_RATIO and EVAC_IMAGE_STATE alone. -/
theorem bringContent_eq (content : Sparse Byte) :
    ∃ v, s.bringContent content = { s with beacon := content }.setReg Obj.EVAC_PEAK_RATIO v ∨
      s.bringContent content =
        ({ s with beacon := content }.setReg Obj.EVAC_PEAK_RATIO v).setReg Obj.EVAC_IMAGE_STATE 2 :=
  ⟨_, noteStale_eq _⟩

theorem bringContent_within (content : Sparse Byte) : s.Within cleanFootprint (s.bringContent content) := by
  have hbeacon : s.Within cleanFootprint { s with beacon := content } := (refl _ s).of_fields (beacon := .inl (by decide))
  obtain ⟨v, h | h⟩ := bringContent_eq s content
  · rw [h]
    exact hbeacon.setReg _ _
  · rw [h]
    exact (hbeacon.setReg _ _).setReg _ _

theorem armBeacon_within : s.Within cleanFootprint s.armBeacon :=
  (((((fillPassed_within s).trans (bringContent_within _ _)).setFlag _ _).setReg _ _).setReg _ _).event _ _

theorem holdContent_within (content : Sparse Byte) : s.Within cleanFootprint (s.holdContent content) :=
  ((refl _ s).setReg _ _).layers _

theorem holdRefill_within : s.Within cleanFootprint s.holdRefill :=
  (fillPassed_within s).trans (holdContent_within _ _)

/-! ### What a clean pass leaves -/

theorem fillPassed_reg (o : Nat) (hf : fillFootprint.objs o = false := by decide)
    (hc : clipFootprint.objs o = false := by decide) :
    s.fillPassed.reg o = if o = Obj.BEACON_FILLS then (s.reg o + 1) % 2 ^ 32 else s.reg o := by
  have hwidth : widthOf Obj.BEACON_FILLS = 32 := by decide
  have hclips : (s.fillCounted.countClips s.fillClips).reg o = s.reg o :=
    ((countClips_withinClips _ s.fillClips).obj o 0 hc (by decide)).trans (fillCounted_reg s o hf)
  rw [State.fillPassed, State.reg_bump]
  split
  · next ho => rw [← ho, hclips, ho, hwidth]
  · exact hclips

theorem fillPassed_layers : s.fillPassed.layers = { s.layers with filling := false } := by
  simp [State.fillPassed, State.countClips]

theorem fillPassed_beacon : s.fillPassed.beacon = s.beacon := by
  simp [State.fillPassed, State.countClips]

/-- An event that a full queue drops is counted in two objects (10 R257); no other object changes. -/
theorem event_reg (code : Nat) (data : Bytes) (o : Nat)
    (ho : o ≠ Obj.EVENT_SEQUENCE ∧ o ≠ Obj.EVENTS_DROPPED := by decide) :
    (s.event code data).reg o = s.reg o := by
  obtain ⟨hs, hd⟩ := ho
  unfold State.event
  dsimp only
  split
  · rfl
  · rw [State.reg_bump, if_neg hd, State.reg_bump, if_neg hs]

theorem bringContent_reg (content : Sparse Byte) (o : Nat)
    (ho : o ≠ Obj.EVAC_PEAK_RATIO ∧ o ≠ Obj.EVAC_IMAGE_STATE := by decide) :
    (s.bringContent content).reg o = s.reg o := by
  obtain ⟨hratio, himage⟩ := ho
  have hreg : ∀ v, ({ s with beacon := content }.setReg Obj.EVAC_PEAK_RATIO v).reg o = s.reg o := fun v =>
    (State.reg_setReg _ _ _ _).trans (if_neg hratio)
  obtain ⟨v, h | h⟩ := bringContent_eq s content
  · rw [h, hreg]
  · rw [h, State.reg_setReg, if_neg himage, hreg]

theorem bringContent_keeps (content : Sparse Byte) :
    (s.bringContent content).beacon = content ∧ (s.bringContent content).layers = s.layers := by
  obtain ⟨v, h | h⟩ := bringContent_eq s content
  · rw [h]
    exact ⟨rfl, rfl⟩
  · rw [h]
    exact ⟨rfl, rfl⟩

theorem armBeacon_keeps : s.armBeacon.beacon = s.fillContent.1 ∧ s.armBeacon.layers.filling = false := by
  obtain ⟨hbeacon, hlayers⟩ := bringContent_keeps s.fillPassed s.fillContent.1
  simp [State.armBeacon, hbeacon, hlayers, fillPassed_layers]

theorem armBeacon_reg : s.armBeacon.reg Obj.L7_ARM_STATE = 2 ∧ s.armBeacon.reg Obj.BEACON_VALID = 1 ∧
    s.armBeacon.reg Obj.L7_ARM_TIME = s.stampA ∧
    s.armBeacon.reg Obj.BEACON_FILLS = (s.reg Obj.BEACON_FILLS + 1) % 2 ^ 32 := by
  unfold State.armBeacon State.setFlag
  refine ⟨?_, ?_, ?_, ?_⟩
  · rw [event_reg _ _ _ Obj.L7_ARM_STATE]
    simp
  · rw [event_reg _ _ _ Obj.BEACON_VALID]
    simp [b2n]
  · rw [event_reg _ _ _ Obj.L7_ARM_TIME]
    simp
  · rw [event_reg _ _ _ Obj.BEACON_FILLS]
    simp [bringContent_reg _ _ Obj.BEACON_FILLS, fillPassed_reg s Obj.BEACON_FILLS]

theorem holdRefill_keeps : s.holdRefill.beacon = s.beacon ∧ s.holdRefill.layers =
    { s.layers with filling := false, refillReady := true, refillStore := s.fillContent.1 } := by
  simp [State.holdRefill, State.holdContent, State.rateContent, fillPassed_beacon, fillPassed_layers]

theorem holdContent_reg (content : Sparse Byte) (o : Nat) (ho : o ≠ Obj.EVAC_PEAK_RATIO := by decide) :
    (s.holdContent content).reg o = s.reg o := by
  rw [State.holdContent, State.reg_withLayers, State.rateContent, State.reg_setReg, if_neg ho]

theorem holdRefill_reg : s.holdRefill.reg Obj.L7_ARM_STATE = s.reg Obj.L7_ARM_STATE ∧
    s.holdRefill.reg Obj.BEACON_FILLS = (s.reg Obj.BEACON_FILLS + 1) % 2 ^ 32 := by
  unfold State.holdRefill
  refine ⟨?_, ?_⟩
  · simp [holdContent_reg _ _ Obj.L7_ARM_STATE, fillPassed_reg s Obj.L7_ARM_STATE]
  · simp [holdContent_reg _ _ Obj.BEACON_FILLS, fillPassed_reg s Obj.BEACON_FILLS]

variable {s} {spoiled : Bool}

theorem fillComplete_idle (h : s.layers.filling = false ∨ s.safety.evacActive = true) : fillComplete spoiled s = s :=
  if_pos (by rcases h with h | h <;> simp [h])

/-- What becomes of a pass in progress when it ends. -/
theorem fillComplete_running (hfilling : s.layers.filling = true) (hevac : s.safety.evacActive = false) :
    fillComplete spoiled s =
    if s.passSpoiled spoiled = true then
      if s.reg Obj.L7_ARM_STATE = 1 ∧ 2 ≤ s.layers.spoiled then refuseArming 3 s.fillCounted
      else s.repeatFill (if s.reg Obj.L7_ARM_STATE = 1 then s.layers.spoiled + 1 else 0)
    else if s.reg Obj.L7_ARM_STATE = 1 then s.armBeacon
    else s.holdRefill := by
  have hrun : ¬ (!s.layers.filling || s.safety.evacActive) = true := by simp [hfilling, hevac]
  have hthird : (decide (s.reg Obj.L7_ARM_STATE = 1) && decide (3 ≤ s.layers.spoiled + 1)) = true ↔
      s.reg Obj.L7_ARM_STATE = 1 ∧ 2 ≤ s.layers.spoiled := by simp
  rw [← if_congr hthird rfl rfl]
  exact if_neg hrun

/-! ### The command -/

theorem beaconFillComplete_next {u : State} (hacts : s.acts 1 = true) (hend : fillComplete spoiled s = u) :
    exec (.beaconFillComplete spoiled) s = .next (settle u) :=
  hend ▸ onIsland_acts s (fillComplete spoiled) 1 hacts

theorem cleanFill_frame {u : State} (h : s.Within cleanFootprint u) :
    (∀ k, k ≠ 2 → (settle u).crossing k = s.crossing k) ∧
      s.frame (settle u) [.regs, .beacon, .layers, .crossing, .memory, .fault, .traffic] [] [] :=
  ⟨fun k hk => h.cross k (by simpa [cleanFootprint] using hk), h.frame (by decide)
    (fun hr => absurd List.mem_cons_self hr) (fun _ => rfl) fun hx => absurd (by decide) hx⟩

theorem spoiledFill_frame {u : State} (h : s.Within spoiledFootprint u) :
    (∀ k, k ≠ 2 → (settle u).crossing k = s.crossing k) ∧
      s.frame (settle u) [.layers, .crossing, .memory, .fault] (Obj.L7_ARM_STATE :: Obj.L7_REFUSE_CAUSE :: fillObjs) [] :=
  ⟨fun k hk => h.cross k (by simpa [spoiledFootprint] using hk), h.frame (by decide)
    (fun _ _ ho => List.contains_iff_mem.mp ho) (fun _ => rfl) fun hx => absurd (by decide) hx⟩

end Fill

/-- Settles O26: a pass that ends is refused, repeated, armed with its content, or held for its boundary
(`fillComplete_running`), and each of these stays within the footprint of a spoiled or of a clean pass. -/
theorem beaconFillPassesArmOrRefuse : Obligations.BeaconFillPassesArmOrRefuse := by
  refine ⟨?clean, ?spoiled, ?idle⟩
  case clean =>
    intro s hacts hfilling hevac hclean
    have hend := fillComplete_running (spoiled := false) hfilling hevac
    rw [if_neg (by simpa [State.passSpoiled] using hclean)] at hend
    by_cases harming : s.reg Obj.L7_ARM_STATE = 1
    · rw [if_pos harming] at hend
      obtain ⟨hbeacon, hfilling1⟩ := armBeacon_keeps s
      obtain ⟨harmed, hvalid, htime, hfills⟩ := armBeacon_reg s
      refine ⟨_, beaconFillComplete_next hacts hend, ?_⟩
      simp only [settle_frame]
      exact ⟨hfilling1, hfills, fun _ => ⟨harmed, hvalid, htime, hbeacon⟩, fun h => absurd harming h,
        cleanFill_frame (armBeacon_within s)⟩
    · rw [if_neg harming] at hend
      obtain ⟨hbeacon, hlayers⟩ := holdRefill_keeps s
      obtain ⟨harm, hfills⟩ := holdRefill_reg s
      refine ⟨_, beaconFillComplete_next hacts hend, ?_⟩
      simp only [settle_frame, hlayers]
      exact ⟨trivial, hfills, fun h => absurd h harming,
        fun _ => ⟨harm, trivial, trivial, hbeacon⟩, cleanFill_frame (holdRefill_within s)⟩
  case spoiled =>
    intro s spoiled hacts hfilling hevac hbad
    have hend := fillComplete_running (spoiled := spoiled) hfilling hevac
    rw [if_pos (by simpa [State.passSpoiled] using hbad)] at hend
    by_cases hthird : s.reg Obj.L7_ARM_STATE = 1 ∧ 2 ≤ s.layers.spoiled
    · rw [if_pos hthird] at hend
      obtain ⟨hfilling1, hbeacon, hrefused⟩ := refuseFill_leaves s
      refine ⟨_, beaconFillComplete_next hacts hend, ?_⟩
      simp only [settle_frame]
      exact ⟨hfilling1, hbeacon, fun _ _ => hrefused, fun _ hlt => absurd hthird.2 (by omega),
        fun h => absurd hthird.1 h, spoiledFill_frame (refuseFill_within s)⟩
    · rw [if_neg hthird] at hend
      refine ⟨_, beaconFillComplete_next hacts hend, ?_⟩
      simp only [settle_frame, repeatFill_layers]
      refine ⟨trivial, fillCounted_beacon s, fun h1 h2 => absurd ⟨h1, h2⟩ hthird, fun h _ => ?_, fun h => ?_,
        spoiledFill_frame (repeatFill_within s _)⟩
      · exact ⟨by rw [if_pos h], (fillCounted_reg s Obj.L7_ARM_STATE).trans h⟩
      · exact ⟨by rw [if_neg h], fillCounted_reg s Obj.L7_ARM_STATE⟩
  case idle =>
    intro s spoiled hacts hidle
    exact ⟨_, beaconFillComplete_next hacts (fillComplete_idle hidle),
      (State.Within.refl {} s).frame (by simp) (fun _ _ h => by cases h) (fun _ => rfl) fun _ _ => rfl⟩

end Sys2Proof.Machine
end

section
/-! What the events of a band link leave: the band that they speak of, what it has sent, and the rest of the device. -/

namespace Sys2Proof.Machine

open State.Within

/-- What an event may touch: the parts and objects that its frame names. -/
def eventFootprint (parts : List Part) (objs : List Nat) : Footprint where
  parts := parts
  objs o := objs.contains o

/-- The frame of an event from the footprint of its operation. -/
theorem State.Within.eventFrame {s u : State} {parts : List Part} {objs : List Nat}
    (h : s.Within (eventFootprint parts objs) u) : s.frame (settle u) parts objs [] :=
  h.frame (fun _ => id) (fun _ _ ho => List.contains_iff_mem.mp ho) (fun _ => rfl) fun _ _ => rfl

/-- An event within a smaller footprint. -/
theorem State.Within.widen {s u : State} {parts parts1 : List Part} {objs objs1 : List Nat}
    (h : s.Within (eventFootprint parts objs) u) (hparts : ∀ p ∈ parts, p ∈ parts1 := by decide)
    (hobjs : ∀ o ∈ objs, o ∈ objs1 := by decide) : s.Within (eventFootprint parts1 objs1) u :=
  h.mono hparts (fun o ho => List.contains_iff_mem.mpr (hobjs o (List.contains_iff_mem.mp ho))) nofun nofun nofun

/-- Of the bands only `b` has moved, to `y`; what the device has sent is `out`. -/
structure BandMoves (s u : State) (b : Nat) (y : BandState) (out : List Output) : Prop where
  band : u.band b = y
  others : ∀ k, k ≠ b → u.band k = s.band k
  out : u.out = out

namespace BandMoves

variable {s u : State} {b : Nat} {y : BandState} {out : List Output}

/-- A band is replaced. -/
theorem setBand (s : State) (b : Nat) (y : BandState) : BandMoves s (s.setBand b y) b y s.out :=
  ⟨by simp, fun k hk => by simp [hk], rfl⟩

/-- Something leaves the device. -/
theorem emit (h : BandMoves s u b y out) (x : Output) : BandMoves s (u.emit x) b y (x :: out) :=
  ⟨h.band, h.others, congrArg (x :: ·) h.out⟩

/-- A state with the same scan drive and the same outputs. -/
theorem of_eq (h : BandMoves s u b y out) {v : State} (hscan : v.scan.bands = u.scan.bands) (hout : v.out = u.out) :
    BandMoves s v b y out := by
  have hband : v.band = u.band := by
    funext k
    simp only [State.band, hscan]
  exact ⟨hband ▸ h.band, hband ▸ h.others, hout.trans h.out⟩

end BandMoves

end Sys2Proof.Machine
end

section
/-! The timing symbols of a band (05 R123, R130, R135, R146, R147): the band and the symbols at each position of its scan
cycle. -/

namespace Sys2Proof.Machine

section Symbols

open State.Within

variable {s : State} {b : Nat}

/-- A band blanks: it goes on as `y`, BLANK leaves, and the probes of its scan cycle are dropped (05 R146, 06 R159). -/
def blankSymbol (b : Nat) (y : BandState) (s : State) : State :=
  dropProbes b y.cycle ((s.setBand b { y with blanked := true }).emit (.symbol b symBlank))

/-- The band goes on as `y`, and the symbols of `codes` leave. -/
def sendSymbols (b : Nat) (y : BandState) : List Nat → State → State
  | [], s => s.setBand b y
  | code :: codes, s => (sendSymbols b y codes s).emit (.symbol b code)

theorem sendSymbols_moves (y : BandState) (codes : List Nat) (s : State) :
    BandMoves s (sendSymbols b y codes s) b y (codes.map (Output.symbol b) ++ s.out) := by
  induction codes with
  | nil => exact .setBand s b y
  | cons code codes ih => exact ih.emit _

theorem blankSymbol_moves (y : BandState) (s : State) :
    BandMoves s (blankSymbol b y s) b { y with blanked := true } (.symbol b symBlank :: s.out) :=
  ((BandMoves.setBand s b { y with blanked := true }).emit _).of_eq rfl rfl

theorem sendSymbols_within (y : BandState) (codes : List Nat) (s : State) :
    s.Within (eventFootprint [.scan, .out, .diag] []) (sendSymbols b y codes s) := by
  induction codes with
  | nil => exact (refl _ s).setBand b y
  | cons code codes ih => exact ih.emit _

theorem blankSymbol_within (y : BandState) (s : State) :
    s.Within (eventFootprint [.scan, .out, .diag] []) (blankSymbol b y s) :=
  (((refl _ s).setBand b { y with blanked := true }).emit _).diag _

/-! ### The symbol at each position of the scan cycle -/

/-- The frame of BLANK after a stop blanks every band (R147). -/
theorem bandBlank_of_stopFrame (b : Nat) (h : s.stopFrame = true) : s.bandBlank b = true := by
  simp [State.bandBlank, h]

variable (hstrokes : s.scan.strokes = true) (hb : b < s.bandCount)

/-- No symbol leaves before the strokes begin, nor on a band that is not used. -/
theorem timingSymbol_idle (h : s.scan.strokes = false ∨ s.bandCount ≤ b) : timingSymbol b s = s := by
  rcases h with h | h <;> simp [timingSymbol, h]

include hstrokes hb

/-- The catch that waits (R123, R130). -/
theorem timingSymbol_catch {c : Bool} {rest : List Bool} {y : BandState} (hposition : (s.band b).position = 0)
    (hcatches : (s.band b).catches = c :: rest)
    (hy : y = { s.band b with position := 1, catches := rest, cycle := if c then 0 else (s.band b).cycle + 1 }) :
    timingSymbol b s =
      if (s.band b).step = .failed then sendSymbols b y [symBlank] s
      else if s.bandBlank b then blankSymbol b y s
      else sendSymbols b ({ y with blanked := false }.opened 0) [if c then symFrameCatch else symScanCatch] s := by
  simp only [timingSymbol, hstrokes, hposition, hcatches, hy, Nat.not_le.mpr hb]
  rfl

/-- Without a catch a band sends nothing, but for BLANK while a re-anchor is pending (08 R219). -/
theorem timingSymbol_noCatch (hposition : (s.band b).position = 0) (hcatches : (s.band b).catches = []) :
    timingSymbol b s = if s.time.catchGen.reanchor then blankSymbol b (s.band b) s else s := by
  simp [timingSymbol, blankSymbol, hstrokes, hposition, hcatches, Nat.not_le.mpr hb]

/-- FEATHER at an even place `p` after the catch, STROKE at an odd one (R125). -/
theorem timingSymbol_stroke {p : Nat} {y : BandState} (hposition : (s.band b).position = p + 1)
    (hy : y = { s.band b with position := if p + 2 = 2 * s.scan.rows then 0 else p + 2 }) :
    timingSymbol b s =
      if (s.band b).step = .failed then sendSymbols b y (if p % 2 = 0 then [] else [symBlank]) s
      else if s.stopFrame = true ∧ p % 2 = 0 then sendSymbols b y [] s
      else if s.bandBlank b then blankSymbol b y s
      else if p % 2 = 0 then sendSymbols b y [symFeather] s
      else sendSymbols b (y.opened ((p + 1) / 2)) [symStroke] s := by
  have hfeather : ((p + 1) % 2 == 1) = decide (p % 2 = 0) := by
    rw [Bool.eq_iff_iff, beq_iff_eq, decide_eq_true_iff]
    omega
  simp only [timingSymbol, hstrokes, hposition, hfeather, hy, Nat.not_le.mpr hb]
  by_cases heven : p % 2 = 0 <;> simp [heven, sendSymbols, blankSymbol]

omit hstrokes hb

/-- The command sends the symbol, when the island of the band links runs. -/
theorem timingSymbolSend_next {u : State} {y : BandState} {out : List Output} (hacts : s.acts 4 = true)
    (hsymbol : timingSymbol b s = u) (hmoves : BandMoves s u b y out)
    (hwithin : s.Within (eventFootprint [.scan, .out, .diag] []) u) :
    ∃ t, exec (.timingSymbolSend b) s = .next t ∧ t.band b = y ∧ t.out = out ∧ (∀ k, k ≠ b → t.band k = s.band k) ∧
      s.frame t [.scan, .out, .diag] [] [] :=
  ⟨settle u, hsymbol ▸ onIsland_acts s (timingSymbol b) 4 hacts, hmoves.band, hmoves.out, hmoves.others,
    hwithin.eventFrame⟩

/-- The command sends the symbols `codes`, and the band goes on as `y`. -/
theorem timingSymbolSend_sends {y : BandState} {codes : List Nat} (hacts : s.acts 4 = true)
    (hsymbol : timingSymbol b s = sendSymbols b y codes s) :
    ∃ t, exec (.timingSymbolSend b) s = .next t ∧ t.band b = y ∧ t.out = codes.map (Output.symbol b) ++ s.out ∧
      (∀ k, k ≠ b → t.band k = s.band k) ∧ s.frame t [.scan, .out, .diag] [] [] :=
  timingSymbolSend_next hacts hsymbol (sendSymbols_moves y codes s) (sendSymbols_within y codes s)

/-- The command sends BLANK, and the band goes on as `y`, blanked. -/
theorem timingSymbolSend_blanks {y : BandState} (hacts : s.acts 4 = true) (hsymbol : timingSymbol b s = blankSymbol b y s) :
    ∃ t, exec (.timingSymbolSend b) s = .next t ∧ t.band b = { y with blanked := true } ∧
      t.out = .symbol b symBlank :: s.out ∧ (∀ k, k ≠ b → t.band k = s.band k) ∧
      s.frame t [.scan, .out, .diag] [] [] :=
  timingSymbolSend_next hacts hsymbol (blankSymbol_moves y s) (blankSymbol_within y s)

/-- The command changes nothing, when no symbol leaves. -/
theorem timingSymbolSend_idles (hacts : s.acts 4 = true) (hsymbol : timingSymbol b s = s) :
    exec (.timingSymbolSend b) s = .next (settle s) :=
  (onIsland_acts s (timingSymbol b) 4 hacts).trans (by rw [hsymbol])

theorem State.frame_settle_self (s : State) (parts : List Part) (objs : List Nat) : s.frame (settle s) parts objs [] :=
  (refl (eventFootprint parts objs) s).eventFrame

end Symbols

/-- Settles O29: at each position of the scan cycle the symbol is known (`timingSymbol_catch`, `timingSymbol_noCatch`,
`timingSymbol_stroke`), and the band either sends it or blanks. -/
theorem timingSymbolsFollowTheScanCycle : Obligations.TimingSymbolsFollowTheScanCycle := by
  refine ⟨?atCatch, ?noCatch, ?stroke, ?idle⟩
  case atCatch =>
    intro s b c rest y hacts hstrokes hb hposition hcatches hy
    have hsymbol := timingSymbol_catch hstrokes hb hposition hcatches hy
    by_cases hfailed : (s.band b).step = .failed
    · obtain ⟨t, hexec, hband, hout, hrest⟩ := timingSymbolSend_sends hacts (hsymbol.trans (if_pos hfailed))
      exact ⟨t, hexec, fun _ => ⟨hband, hout⟩, fun h => absurd hfailed h, fun h => absurd hfailed h, hrest⟩
    replace hsymbol := hsymbol.trans (if_neg hfailed)
    by_cases hblank : s.bandBlank b = true
    · obtain ⟨t, hexec, hband, hout, hrest⟩ := timingSymbolSend_blanks hacts (hsymbol.trans (if_pos hblank))
      exact ⟨t, hexec, fun h => absurd h hfailed, fun _ _ => ⟨hband, hout⟩, fun _ h => by simp [h] at hblank, hrest⟩
    · obtain ⟨t, hexec, hband, hout, hrest⟩ := timingSymbolSend_sends hacts (hsymbol.trans (if_neg hblank))
      exact ⟨t, hexec, fun h => absurd h hfailed, fun _ h => absurd h hblank, fun _ _ => ⟨hband, hout⟩, hrest⟩
  case noCatch =>
    intro s b hacts hstrokes hb hposition hcatches
    have hsymbol := timingSymbol_noCatch hstrokes hb hposition hcatches
    by_cases hreanchor : s.time.catchGen.reanchor = true
    · obtain ⟨t, hexec, hband, hout, -, hframe⟩ := timingSymbolSend_blanks hacts (hsymbol.trans (if_pos hreanchor))
      exact ⟨t, hexec, fun _ => ⟨hband, hout⟩, fun h => by simp [h] at hreanchor, hframe⟩
    · exact ⟨_, timingSymbolSend_idles hacts (hsymbol.trans (if_neg hreanchor)), fun h => absurd h hreanchor,
        fun _ => s.frame_settle_self _ _, s.frame_settle_self _ _⟩
  case stroke =>
    intro s b p y hacts hstrokes hb hposition hy
    have hsymbol := timingSymbol_stroke hstrokes hb hposition hy
    by_cases hfailed : (s.band b).step = .failed
    · obtain ⟨t, hexec, hband, hout, hrest⟩ := timingSymbolSend_sends hacts (hsymbol.trans (if_pos hfailed))
      refine ⟨t, hexec, fun _ => ⟨hband, hout.trans ?_⟩, fun h => absurd hfailed h, fun h => absurd hfailed h,
        fun h => absurd hfailed h, fun h => absurd hfailed h, hrest⟩
      split <;> rfl
    replace hsymbol := hsymbol.trans (if_neg hfailed)
    by_cases hstopped : s.stopFrame = true ∧ p % 2 = 0
    · have hblank := bandBlank_of_stopFrame b hstopped.1
      obtain ⟨t, hexec, hband, hout, hrest⟩ := timingSymbolSend_sends hacts (hsymbol.trans (if_pos hstopped))
      exact ⟨t, hexec, fun h => absurd h hfailed, fun _ _ _ => ⟨hband, hout⟩, fun _ h => by simp [hstopped] at h,
        fun _ h => by simp [h] at hblank, fun _ h => by simp [h] at hblank, hrest⟩
    replace hsymbol := hsymbol.trans (if_neg hstopped)
    by_cases hblank : s.bandBlank b = true
    · obtain ⟨t, hexec, hband, hout, hrest⟩ := timingSymbolSend_blanks hacts (hsymbol.trans (if_pos hblank))
      exact ⟨t, hexec, fun h => absurd h hfailed, fun _ h h1 => absurd ⟨h, h1⟩ hstopped, fun _ _ _ => ⟨hband, hout⟩,
        fun _ h => by simp [h] at hblank, fun _ h => by simp [h] at hblank, hrest⟩
    replace hsymbol := hsymbol.trans (if_neg hblank)
    by_cases heven : p % 2 = 0
    · obtain ⟨t, hexec, hband, hout, hrest⟩ := timingSymbolSend_sends hacts (hsymbol.trans (if_pos heven))
      exact ⟨t, hexec, fun h => absurd h hfailed, fun _ h h1 => absurd ⟨h, h1⟩ hstopped, fun _ _ h => absurd h hblank,
        fun _ _ _ => ⟨hband, hout⟩, fun _ _ h => by omega, hrest⟩
    · obtain ⟨t, hexec, hband, hout, hrest⟩ := timingSymbolSend_sends hacts (hsymbol.trans (if_neg heven))
      exact ⟨t, hexec, fun h => absurd h hfailed, fun _ h h1 => absurd ⟨h, h1⟩ hstopped, fun _ _ h => absurd h hblank,
        fun _ _ h => absurd h heven, fun _ _ _ => ⟨hband, hout⟩, hrest⟩
  case idle =>
    intro s b hacts hidle
    exact ⟨_, timingSymbolSend_idles hacts (timingSymbol_idle hidle), s.frame_settle_self _ _⟩

end Sys2Proof.Machine
end

section
/-! A band link at a start (05 R131, R135 to R137, R148): a step of one band, how a band fails, and its enumeration,
round trips and read-back. -/

namespace Sys2Proof.Machine

section Links

open State.Within

variable {s u : State} {b : Nat}

/-! ### A step of one band -/

@[simp] theorem State.node_setNode (s : State) (b n m : Nat) (x : NodeState) :
    (s.setNode b n x).node b m = if m = n then x else s.node b m := by
  simp [State.node, State.setNode]

theorem State.node_of_band {t u : State} (h : t.band b = u.band b) (n : Nat) : t.node b n = u.node b n := by
  rw [State.node, State.node, h]

theorem State.node_setBand (s : State) (y : BandState) (hy : y.nodes = (s.band b).nodes) (n : Nat) :
    (s.setBand b y).node b n = s.node b n := by
  simp [State.node, hy]

theorem State.band_setNode_ne (s : State) (b n k : Nat) (x : NodeState) (hk : k ≠ b) :
    (s.setNode b n x).band k = s.band k := by
  simp [State.setNode, hk]

/-- The comparison of the nodes found may start a refill or clear the store (12 R306). -/
theorem checkNodes_within (s : State) :
    s.Within (eventFootprint [.beacon, .layers] [Obj.BEACON_VALID, Obj.L7_ARM_STATE]) (checkNodes s) := by
  unfold checkNodes
  dsimp only
  split_ifs
  · exact refl _ s
  · exact (refl _ s).noteFillInput (by decide) (by decide)
  · exact ((refl _ s).setBeacon _ _).setFlag _ _
  · exact refl _ s

/-- The comparison of nodes that may follow a step of a band. -/
theorem afterBandStep_eq (before s : State) : ∃ v,
    s.Within (eventFootprint [.beacon, .layers] [Obj.BEACON_VALID, Obj.L7_ARM_STATE]) v ∧
      afterBandStep before s = { v with scan := { v.scan with configured := v.allReady } } := by
  unfold afterBandStep
  extract_lets v
  refine ⟨v, ?_, rfl⟩
  unfold v
  split
  · exact checkNodes_within s
  · exact refl _ s

/-- What may follow a step of a band leaves every band, the outputs, and the objects of the band links. -/
theorem afterBandStep_keeps (before s : State) : (afterBandStep before s).band = s.band ∧
    (afterBandStep before s).out = s.out ∧
    (∀ o i, o ≠ Obj.BEACON_VALID → o ≠ Obj.L7_ARM_STATE → i < 65536 → (afterBandStep before s).regAt o i = s.regAt o i) ∧
    s.Within (eventFootprint [.scan, .beacon, .layers] [Obj.BEACON_VALID, Obj.L7_ARM_STATE]) (afterBandStep before s) := by
  obtain ⟨v, hv, hafter⟩ := afterBandStep_eq before s
  have hscan : v.scan = s.scan := hv.part .scan (by decide)
  rw [hafter]
  refine ⟨?_, hv.part .out (by decide), fun o i hvalid harm => hv.obj o i (by simp [eventFootprint, hvalid, harm]),
    hv.widen.scan _⟩
  funext k
  simp only [State.band, hscan]

/-! ### A band fails (R135) -/

theorem bitAt_putBit_true (v i : Nat) : bitAt (putBit v i true) i = true := by
  unfold putBit
  split
  · assumption
  next hclear =>
    have hpos : 0 < 2 ^ i := Nat.two_pow_pos i
    simp only [bitAt, beq_iff_eq, if_true, Nat.add_div_right v hpos] at hclear ⊢
    omega

/-- Band `b` is FAILED with its cause; its nodes are as in `u`, and so are the other bands and the outputs. -/
structure BandFails (u v : State) (b cause : Nat) : Prop where
  step : (v.band b).step = .failed
  cause : v.regAt Obj.BAND_FAIL_CAUSE b = cause
  bit : bitAt (v.reg Obj.BANDS_FAILED) b = true
  nodes : ∀ n, v.node b n = u.node b n
  others : ∀ k, k ≠ b → v.band k = u.band k
  out : v.out = u.out

theorem failBand_fails (u : State) (cause : Nat) (hb : b < 32) : BandFails u (failBand b cause u) b cause where
  step := by simp [failBand]
  cause := by
    have hmap := State.regAt_setReg_ne ((u.setBand b { u.band b with step := .failed, awaiting := [] }).setRegAt
      Obj.BAND_FAIL_CAUSE b cause) Obj.BANDS_FAILED (putBit (u.reg Obj.BANDS_FAILED) b true) Obj.BAND_FAIL_CAUSE b
      (by decide) (by omega)
    exact hmap.trans (by rw [State.regAt_setRegAt, if_pos rfl])
  bit := by simp [failBand, bitAt_putBit_true]
  nodes n := State.node_setBand u { u.band b with step := .failed, awaiting := [] } rfl n
  others k hk := by simp [failBand, hk]
  out := rfl

theorem failBand_within (u : State) (cause : Nat) (hb : b < 32) :
    u.Within (eventFootprint [.scan] [Obj.BAND_FAIL_CAUSE, Obj.BANDS_FAILED]) (failBand b cause u) :=
  (((refl _ u).setBand b _).setRegAt _ b cause (hi := by omega)).setReg _ _

theorem BandFails.afterBandStep {v : State} {cause : Nat} (h : BandFails u v b cause) (hb : b < 32) (before : State) :
    BandFails u (afterBandStep before v) b cause := by
  obtain ⟨hband, hout, hregs, -⟩ := afterBandStep_keeps before v
  refine ⟨hband ▸ h.step, ?_, ?_, fun n => ?_, fun k hk => hband ▸ h.others k hk, hout.trans h.out⟩
  · rw [hregs _ _ (by decide) (by decide) (by omega), h.cause]
  · rw [State.reg, hregs _ _ (by decide) (by decide) (by decide), ← State.reg, h.bit]
  · rw [State.node_of_band (congrFun hband b), h.nodes]

/-! ### Alignment (R135) -/

/-- NODE_RESET goes out twice, and the enumeration begins at address 0. -/
theorem alignBand_moves (h : (s.band b).step = .aligning) :
    BandMoves s (alignBand b s) b { s.band b with step := .enumerating, next := 0 }
        (.bandPacket b (bandFrame 0x20 0xFE (natLE 1 0)) :: .bandPacket b (bandFrame 0x22 0xFF []) ::
          .bandPacket b (bandFrame 0x22 0xFF []) :: s.out) ∧
      s.Within (eventFootprint [.scan, .out] []) (alignBand b s) := by
  have halign : alignBand b s = sendBand b 0x20 0xFE (natLE 1 0)
      ((sendBand b 0x22 0xFF [] (sendBand b 0x22 0xFF [] s)).setBand b
        { s.band b with step := .enumerating, next := 0 }) := if_neg (not_not.mpr h)
  have hmoves := (BandMoves.setBand (sendBand b 0x22 0xFF [] (sendBand b 0x22 0xFF [] s)) b
    { s.band b with step := .enumerating, next := 0 }).emit (.bandPacket b (bandFrame 0x20 0xFE (natLE 1 0)))
  rw [halign]
  exact ⟨⟨hmoves.band, hmoves.others, hmoves.out⟩, ((((refl _ s).emit _).emit _).setBand b _).emit _⟩

theorem alignTimeout_aligning (h : (s.band b).step = .aligning) :
    alignTimeout b s = afterBandStep s (failBand b 2 s) := if_pos h

/-! ### Enumeration (R136) -/

variable {e : EnumReply}

/-- The node that a reply describes. -/
def enumeratedNode (e : EnumReply) : NodeState :=
  { present := true, kind := e.nodeType, vendor := e.vendor, part := e.part, revision := e.revision
    dsRepeat := e.dsRepeat, outDelay := e.outDelay, turnaround := e.turnaround }

/-- The node with the next address of band `b` is found. -/
def nodeEnumerated (b : Nat) (e : EnumReply) (s : State) : State :=
  (s.setNode b (s.band b).next (enumeratedNode e)).setRegAt Obj.BAND_NODES_FOUND b (s.band b).next

/-- The first node is no row driver: the band fails. -/
theorem enumReply_first_wrong (h : (s.band b).step = .enumerating) (hnext : (s.band b).next = 0) (he : e.nodeType ≠ 0) :
    enumReply b e s = afterBandStep s (failBand b 3 s) := by
  simp [enumReply, h, hnext, he]

/-- A later node is no column driver: it is given address 0xFE back, and the enumeration has ended before it. -/
theorem enumReply_later_wrong (h : (s.band b).step = .enumerating) (hnext : (s.band b).next ≠ 0) (he : e.nodeType ≠ 1) :
    enumReply b e s = afterBandStep s (startMeasuring b (sendReg b (s.band b).next 0x10 0xFE s)) := by
  simp [enumReply, h, hnext, he]

/-- A node as its place asks: the last address ends the enumeration, any other leads to the next one. -/
theorem enumReply_right (h : (s.band b).step = .enumerating) (he : e.nodeType = if (s.band b).next = 0 then 0 else 1) :
    enumReply b e s = if (s.band b).next = 32 then afterBandStep s (startMeasuring b (nodeEnumerated b e s))
      else sendBand b 0x20 0xFE (natLE 1 ((s.band b).next + 1)) ((nodeEnumerated b e s).setBand b
        { (nodeEnumerated b e s).band b with next := (s.band b).next + 1 }) := by
  have hright : ¬ ((s.band b).next = 0 ∧ e.nodeType ≠ 0) ∧ ¬ ((s.band b).next ≠ 0 ∧ e.nodeType ≠ 1) := by
    split at he <;> simp [*]
  unfold enumReply
  rw [if_neg (not_not.mpr h), if_neg (by simpa using hright.1), if_neg (by simpa using hright.2)]
  rfl

theorem enumTimeout_enumerating (h : (s.band b).step = .enumerating) : enumTimeout b s =
    if (s.band b).next = 0 then afterBandStep s (failBand b 4 s) else afterBandStep s (startMeasuring b s) :=
  if_neg (not_not.mpr h)

theorem startMeasuring_moves (b : Nat) (s : State) : BandMoves s (startMeasuring b s) b
    { s.band b with step := .measuring, next := 0 } (.bandPacket b (bandFrame 0x21 0 []) :: s.out) :=
  (BandMoves.setBand s b _).emit _

theorem startMeasuring_within (b : Nat) (s : State) :
    s.Within (eventFootprint [.scan, .out] []) (startMeasuring b s) := ((refl _ s).setBand b _).emit _

theorem BandMoves.afterBandStep {y : BandState} {out : List Output} (h : BandMoves s u b y out) (before : State) :
    BandMoves s (afterBandStep before u) b y out := by
  obtain ⟨hband, hout, -, -⟩ := afterBandStep_keeps before u
  exact ⟨hband ▸ h.band, hband ▸ h.others, hout.trans h.out⟩

theorem BandMoves.node {y : BandState} {out : List Output} (h : BandMoves s u b y out)
    (hy : y.nodes = (s.band b).nodes) (n : Nat) : u.node b n = s.node b n := by
  rw [State.node, State.node, h.band, hy]

theorem nodeEnumerated_within (b : Nat) (e : EnumReply) (s : State) (hb : b < 32) :
    s.Within (eventFootprint [.scan] [Obj.BAND_NODES_FOUND]) (nodeEnumerated b e s) :=
  ((refl _ s).setBand b _).setRegAt _ b _ (hi := by omega)

theorem nodeEnumerated_found (b : Nat) (e : EnumReply) (s : State) :
    (nodeEnumerated b e s).regAt Obj.BAND_NODES_FOUND b = (s.band b).next := by
  rw [nodeEnumerated, State.regAt_setRegAt, if_pos rfl]

theorem nodeEnumerated_band (b : Nat) (e : EnumReply) (s : State) (k : Nat) : (nodeEnumerated b e s).band k =
    if k = b then { s.band b with nodes := Sparse.set (fun _ => {}) (s.band b).nodes (s.band b).next (enumeratedNode e) }
    else s.band k := State.band_setBand ..

theorem nodeEnumerated_node (b : Nat) (e : EnumReply) (s : State) :
    (nodeEnumerated b e s).node b (s.band b).next = enumeratedNode e :=
  (State.node_setNode s b _ _ _).trans (if_pos rfl)

/-- The step of a band whose next node is found. -/
structure Enumerates (s v : State) (b : Nat) (e : EnumReply) : Prop where
  node : v.node b (s.band b).next = enumeratedNode e
  found : v.regAt Obj.BAND_NODES_FOUND b = (s.band b).next
  others : ∀ k, k ≠ b → v.band k = s.band k
  last : (s.band b).next = 32 → (v.band b).step = .measuring ∧ (v.band b).next = 0 ∧
    v.out = .bandPacket b (bandFrame 0x21 0 []) :: s.out
  further : (s.band b).next ≠ 32 → (v.band b).step = (s.band b).step ∧ (v.band b).next = (s.band b).next + 1 ∧
    v.out = .bandPacket b (bandFrame 0x20 0xFE (natLE 1 ((s.band b).next + 1))) :: s.out

/-! ### Round trips and registers (R135, R137) -/

/-- ADV and the delay of each node of band `b` are known. -/
def State.withDelays (s : State) (b adv : Nat) : State :=
  (List.range (s.regAt Obj.BAND_NODES_FOUND b + 1)).foldl (fun t n => t.setNode b n { t.node b n with
    latency2 := s.latency2 b n, execDelay := s.execDelayOf b adv n }) (s.setRegAt Obj.BAND_ADVANCE_PS b (6250 * adv))

/-- Every register of `writes` is written. -/
def writeRegs (b : Nat) (writes : List (Nat × Nat × Nat)) (s : State) : State :=
  writes.foldl (fun t w => sendReg b w.1 w.2.1 w.2.2 t) s

theorem configureBand_eq (b : Nat) (s : State) : ∃ y writes, y.step = .writing ∧
    y.nodes = ((s.withDelays b (s.advanceOf b)).band b).nodes ∧
    configureBand b s = if 1600 < s.advanceOf b then failBand b 6 (s.withDelays b (s.advanceOf b))
      else writeRegs b writes ((s.withDelays b (s.advanceOf b)).setBand b y) :=
  by
  refine ⟨_, _, ?_, ?_, rfl⟩ <;> rfl

theorem withDelays_keeps (s : State) (b adv : Nat) : (s.withDelays b adv).regAt Obj.BAND_ADVANCE_PS b = 6250 * adv ∧
    (∀ n, ((s.withDelays b adv).node b n).roundTrip = (s.node b n).roundTrip) ∧
    (∀ k, k ≠ b → (s.withDelays b adv).band k = s.band k) := by
  refine ⟨?_, fun n => ?_, fun k hk => ?_⟩
  · have hset : (s.setRegAt Obj.BAND_ADVANCE_PS b (6250 * adv)).regAt Obj.BAND_ADVANCE_PS b = 6250 * adv := by
      rw [State.regAt_setRegAt, if_pos rfl]
    refine (foldl_keeps _ (fun t : State => t.regAt Obj.BAND_ADVANCE_PS b) (fun t m => ?_) _ _).trans hset
    rfl
  · refine foldl_keeps _ (fun t : State => (t.node b n).roundTrip) (fun t m => ?_) _ _
    dsimp only
    rw [State.node_setNode]
    split
    next hnm => rw [hnm]
    · rfl
  · exact foldl_keeps _ (fun t : State => t.band k) (fun t m => State.band_setNode_ne t b m k _ hk) _ _

theorem withDelays_within (s : State) (b adv : Nat) (hb : b < 32) :
    s.Within (eventFootprint [.scan] [Obj.BAND_ADVANCE_PS]) (s.withDelays b adv) :=
  ((refl _ s).setRegAt _ b _ (hi := by omega)).trans (foldl (fun t _ => (refl _ t).setBand b _) _ _)

theorem writeRegs_keeps (b : Nat) (writes : List (Nat × Nat × Nat)) (s : State) :
    (writeRegs b writes s).band = s.band ∧ (writeRegs b writes s).regAt = s.regAt ∧
      s.Within (eventFootprint [.out] []) (writeRegs b writes s) := by
  refine ⟨foldl_keeps _ State.band (fun t w => ?_) _ _, foldl_keeps _ State.regAt (fun t w => ?_) _ _,
    foldl (fun t w => (refl _ t).emit _) _ _⟩ <;> rfl

/-- Latency is known: ADV is published, and the registers are written, unless ADV is above 1 600 symbols. -/
structure Configures (s v : State) (b : Nat) : Prop where
  advance : v.regAt Obj.BAND_ADVANCE_PS b = 6250 * s.advanceOf b
  roundTrips : ∀ n, (v.node b n).roundTrip = (s.node b n).roundTrip
  others : ∀ k, k ≠ b → v.band k = s.band k
  near : s.advanceOf b ≤ 1600 → (v.band b).step = .writing
  far : 1600 < s.advanceOf b → (v.band b).step = .failed ∧ v.regAt Obj.BAND_FAIL_CAUSE b = 6

theorem configureBand_configures (b : Nat) (s : State) (hb : b < 32) : Configures s (configureBand b s) b ∧
    s.Within (eventFootprint [.scan, .out] [Obj.BAND_ADVANCE_PS, Obj.BAND_FAIL_CAUSE, Obj.BANDS_FAILED])
      (configureBand b s) := by
  obtain ⟨y, writes, hstep, hnodes, hconfigure⟩ := configureBand_eq b s
  obtain ⟨hadvance, htrips, hothers⟩ := withDelays_keeps s b (s.advanceOf b)
  have hdelays := withDelays_within s b (s.advanceOf b) hb
  rw [hconfigure]
  split
  next hfar =>
    have hfails := failBand_fails (s.withDelays b (s.advanceOf b)) 6 hb
    have hwithin := failBand_within (s.withDelays b (s.advanceOf b)) 6 hb
    exact ⟨⟨(hwithin.obj _ b (by decide) (by omega)).trans hadvance, fun n => by rw [hfails.nodes, htrips],
      fun k hk => (hfails.others k hk).trans (hothers k hk), fun h => by omega, fun _ => ⟨hfails.step, hfails.cause⟩⟩,
      hdelays.widen.trans hwithin.widen⟩
  next hnear =>
    obtain ⟨hband, hregs, hwrites⟩ := writeRegs_keeps b writes ((s.withDelays b (s.advanceOf b)).setBand b y)
    refine ⟨⟨by rw [hregs]; exact hadvance, fun n => ?_, fun k hk => ?_, fun _ => by rw [hband]; simpa using hstep,
      fun h => absurd h hnear⟩, (hdelays.widen.setBand b y).trans hwrites.widen⟩
    · rw [State.node_of_band (congrFun hband b), State.node_setBand _ y hnodes, htrips]
    · rw [hband, State.band_setBand, if_neg hk, hothers k hk]

theorem Configures.afterBandStep {v : State} (h : Configures s v b) (hb : b < 32) (before : State) :
    Configures s (afterBandStep before v) b := by
  obtain ⟨hband, -, hregs, -⟩ := afterBandStep_keeps before v
  refine ⟨?_, fun n => ?_, fun k hk => hband ▸ h.others k hk, hband ▸ h.near, fun hfar => ⟨hband ▸ (h.far hfar).1, ?_⟩⟩
  · rw [hregs _ _ (by decide) (by decide) (by omega), h.advance]
  · rw [State.node_of_band (congrFun hband b), h.roundTrips]
  · rw [hregs _ _ (by decide) (by decide) (by omega), (h.far hfar).2]

/-- A MARKER of a node that is not the one being measured is none (R137); the last one makes the latency known. -/
theorem marker_measuring {n rt : Nat} (h : (s.band b).step = .measuring) (hnext : (s.band b).next = n)
    (hu : u = s.setNode b n { s.node b n with roundTrip := some rt }) :
    marker b n rt s = if n < s.regAt Obj.BAND_NODES_FOUND b then
        sendBand b 0x21 (n + 1) [] (u.setBand b { u.band b with next := n + 1 })
      else afterBandStep s (configureBand b u) := by
  simp [marker, h, hnext, hu]

/-! ### The registers read back (R133, R135) -/

/-- The band after the register of `w` is read back as written. -/
def BandState.readBack (x : BandState) (w : Nat × Nat × Nat) : BandState :=
  { x with awaiting := x.awaiting.erase w, step := if x.awaiting.erase w = [] then .ready else x.step }

/-- A value read back is checked against the one written; the last one makes the band ready. -/
theorem regData_awaited {n reg v : Nat} {w : Nat × Nat × Nat}
    (h : (s.band b).awaiting.find? (fun w => w.1 == n && w.2.1 == reg) = some w) :
    regData b n reg v s = if w.2.2 ≠ v then afterBandStep s (failBand b 5 s)
      else if (s.band b).awaiting.erase w = [] then afterBandStep s (s.setBand b ((s.band b).readBack w))
      else s.setBand b ((s.band b).readBack w) := by
  simp only [regData, h, List.isEmpty_iff]
  rfl

/-! ### The events of a band link -/

/-- Objects that the failure of a band may change. -/
def failObjs : List Nat := [Obj.BAND_FAIL_CAUSE, Obj.BANDS_FAILED, Obj.BEACON_VALID, Obj.L7_ARM_STATE]

theorem bandEvent_next {op : State → State} (hacts : s.acts 4 = true) (hop : op s = u) :
    onIsland 4 op s = .next (settle u) := hop ▸ onIsland_acts s op 4 hacts

/-- An event at which band `b` fails. -/
theorem bandFails_step (cause : Nat) (hb : b < 32) :
    BandFails s (afterBandStep s (failBand b cause s)) b cause ∧
      s.Within (eventFootprint [.scan, .beacon, .layers] failObjs) (afterBandStep s (failBand b cause s)) := by
  obtain ⟨-, -, -, hafter⟩ := afterBandStep_keeps s (failBand b cause s)
  exact ⟨(failBand_fails s cause hb).afterBandStep hb s, (failBand_within s cause hb).widen.trans hafter.widen⟩

/-- An event at which the enumeration of band `b` ends, from `u` on. -/
theorem measuring_step (b : Nat) (s u : State) :
    BandMoves u (afterBandStep s (startMeasuring b u)) b { u.band b with step := .measuring, next := 0 }
        (.bandPacket b (bandFrame 0x21 0 []) :: u.out) ∧
      u.Within (eventFootprint [.scan, .out, .beacon, .layers] [Obj.BEACON_VALID, Obj.L7_ARM_STATE])
        (afterBandStep s (startMeasuring b u)) := by
  obtain ⟨-, -, -, hafter⟩ := afterBandStep_keeps s (startMeasuring b u)
  exact ⟨(startMeasuring_moves b u).afterBandStep s, (startMeasuring_within b u).widen.trans hafter.widen⟩

/-- An event at which the next node of band `b` is found. -/
theorem enumReply_enumerates (hb : b < 32) (hstep : (s.band b).step = .enumerating)
    (he : e.nodeType = if (s.band b).next = 0 then 0 else 1) : Enumerates s (enumReply b e s) b e ∧
      s.Within (eventFootprint [.scan, .out, .beacon, .layers]
        [Obj.BAND_NODES_FOUND, Obj.BEACON_VALID, Obj.L7_ARM_STATE]) (enumReply b e s) := by
  have hothers : ∀ k, k ≠ b → (nodeEnumerated b e s).band k = s.band k := fun k hk =>
    (nodeEnumerated_band b e s k).trans (if_neg hk)
  have hwithin := nodeEnumerated_within b e s hb
  rw [enumReply_right hstep he]
  split
  next hlast =>
    obtain ⟨hmoves, hmeasuring⟩ := measuring_step b s (nodeEnumerated b e s)
    exact ⟨⟨(hmoves.node rfl _).trans (nodeEnumerated_node b e s),
      (hmeasuring.obj _ b (by decide) (by omega)).trans (nodeEnumerated_found b e s),
      fun k hk => (hmoves.others k hk).trans (hothers k hk),
      fun _ => ⟨by rw [hmoves.band], by rw [hmoves.band], hmoves.out⟩, fun h => absurd hlast h⟩,
      hwithin.widen.trans hmeasuring.widen⟩
  next hmore =>
    have hmoves := (BandMoves.setBand (nodeEnumerated b e s) b { (nodeEnumerated b e s).band b with
      next := (s.band b).next + 1 }).emit (.bandPacket b (bandFrame 0x20 0xFE (natLE 1 ((s.band b).next + 1))))
    have hstep1 : ((nodeEnumerated b e s).band b).step = (s.band b).step := by rw [nodeEnumerated_band, if_pos rfl]
    exact ⟨⟨(hmoves.node rfl _).trans (nodeEnumerated_node b e s), nodeEnumerated_found b e s,
      fun k hk => (hmoves.others k hk).trans (hothers k hk), fun h => absurd h hmore,
      fun _ => ⟨(congrArg BandState.step hmoves.band).trans hstep1, congrArg BandState.next hmoves.band, hmoves.out⟩⟩,
      (hwithin.widen.setBand b _).emit _⟩

/-- An event at which a round trip of band `b` is known, and more are to come. -/
theorem markerNext_moves {n rt : Nat} (hu : u = s.setNode b n { s.node b n with roundTrip := some rt }) :
    BandMoves s (sendBand b 0x21 (n + 1) [] (u.setBand b { u.band b with next := n + 1 })) b
      { u.band b with next := n + 1 } (.bandPacket b (bandFrame 0x21 (n + 1) []) :: s.out) := by
  have hothers : ∀ k, k ≠ b → u.band k = s.band k := fun k hk => hu ▸ State.band_setNode_ne s b n k _ hk
  have hmoves := (BandMoves.setBand u b { u.band b with next := n + 1 }).emit
    (.bandPacket b (bandFrame 0x21 (n + 1) []))
  have hout : u.out = s.out := by rw [hu]; rfl
  exact ⟨hmoves.band, fun k hk => (hmoves.others k hk).trans (hothers k hk), hout ▸ hmoves.out⟩

/-- A packet with a wrong CRC or a code violation is discarded: counted in `o`, with FS35 (R131, R148). -/
theorem discards_next {take : State → State} {check : UpCheck} (o : Nat) (hacts : s.acts 4 = true) (hb : b < 32)
    (hwidth : widthOf o = 32) (hcheck : takeUp b check take s = (s.bumpAt o b 1).occur 35) :
    ∃ t, onIsland 4 (takeUp b check take) s = .next t ∧ t.regAt o b = (s.regAt o b + 1) % 2 ^ 32 ∧
      0 < Sparse.get (fun _ => 0) t.fault.waiting 35 ∧ s.frame t [.fault] [o] [] := by
  have hcount : s.Within (eventFootprint [.fault] [o]) (s.bumpAt o b 1) :=
    (refl _ s).bumpAt o b 1 (by simp [eventFootprint]) (by omega)
  refine ⟨_, bandEvent_next hacts hcheck, ?_, ?_, (hcount.occur 35 (by simp [eventFootprint])).eventFrame⟩
  · have hbump : (s.bumpAt o b 1).regAt o b = (s.regAt o b + 1) % 2 ^ 32 := by
      rw [State.regAt_bumpAt, if_pos rfl, hwidth]
    simpa using hbump
  · have hrise : 0 < ((s.bumpAt o b 1).occur 35).waitingRises 35 := by simp
    exact hrise

end Links

/-- Settles O28: at each step of its start a band moves on (`BandMoves`), has its latency known (`Configures`) or fails
with its cause (`BandFails`); a packet that is not sound is discarded (`discards_next`). -/
theorem bandLinksComeUpOrFail : Obligations.BandLinksComeUpOrFail := by
  refine ⟨?align, ?alignTimeout, ?reply, ?replyTimeout, ?marker, ?regData, ?discard⟩
  case align =>
    intro s b hacts hstep
    obtain ⟨hmoves, hwithin⟩ := alignBand_moves hstep
    exact ⟨_, bandEvent_next hacts rfl, hmoves.band, hmoves.out, hmoves.others, hwithin.eventFrame⟩
  case alignTimeout =>
    intro s b hacts hb hstep
    obtain ⟨hfails, hwithin⟩ := bandFails_step (s := s) 2 hb
    exact ⟨_, bandEvent_next hacts (alignTimeout_aligning hstep), hfails.step, hfails.cause, hfails.bit, hfails.others,
      hwithin.eventFrame⟩
  case reply =>
    intro s b e hacts hb hstep
    by_cases he : e.nodeType = if (s.band b).next = 0 then 0 else 1
    · obtain ⟨henumerates, hwithin⟩ := enumReply_enumerates hb hstep he
      exact ⟨_, bandEvent_next hacts rfl, fun h h1 => by simp [h, h1] at he, fun h h1 => by simp [h, h1] at he,
        fun _ => ⟨henumerates.node, henumerates.found, henumerates.last, hstep ▸ henumerates.further⟩,
        henumerates.others, hwithin.widen.eventFrame⟩
    by_cases hnext : (s.band b).next = 0
    · rw [if_pos hnext] at he
      obtain ⟨hfails, hwithin⟩ := bandFails_step (s := s) 3 hb
      exact ⟨_, bandEvent_next hacts (enumReply_first_wrong hstep hnext he),
        fun _ _ => ⟨hfails.step, hfails.cause, hfails.bit, hfails.out⟩, fun h => absurd hnext h,
        fun h => absurd (h.trans (if_pos hnext)) he, hfails.others, hwithin.widen.eventFrame⟩
    · rw [if_neg hnext] at he
      obtain ⟨hmoves, hwithin⟩ := measuring_step b s (sendReg b (s.band b).next 0x10 0xFE s)
      have hsent : s.Within (eventFootprint [.out] []) (sendReg b (s.band b).next 0x10 0xFE s) :=
        (State.Within.refl _ s).emit _
      exact ⟨_, bandEvent_next hacts (enumReply_later_wrong hstep hnext he), fun h => absurd h hnext,
        fun _ _ => ⟨hmoves.band, hmoves.out⟩, fun h => absurd (h.trans (if_neg hnext)) he, hmoves.others,
        (hsent.widen.trans hwithin.widen).eventFrame⟩
  case replyTimeout =>
    intro s b hacts hb hstep
    have htimeout := enumTimeout_enumerating hstep
    split at htimeout
    next hnext =>
      obtain ⟨hfails, hwithin⟩ := bandFails_step (s := s) 4 hb
      exact ⟨_, bandEvent_next hacts htimeout, fun _ => ⟨hfails.step, hfails.cause, hfails.out⟩,
        fun h => absurd hnext h, hfails.others, hwithin.widen.eventFrame⟩
    next hnext =>
      obtain ⟨hmoves, hwithin⟩ := measuring_step b s s
      exact ⟨_, bandEvent_next hacts htimeout, fun h => absurd h hnext, fun _ => ⟨hmoves.band, hmoves.out⟩,
        hmoves.others, hwithin.widen.eventFrame⟩
  case marker =>
    intro s u b n rt hacts hb hstep hnext hu
    have hmarker := marker_measuring hstep hnext hu
    have htrip : (u.node b n).roundTrip = some rt := by simp [hu]
    have hstep1 : (u.band b).step = .measuring := by simpa [hu, State.setNode] using hstep
    have hnode : s.Within (eventFootprint [.scan] []) u := hu ▸ (State.Within.refl _ s).setBand b _
    split at hmarker
    next hmore =>
      have hmoves := markerNext_moves hu
      have hroundTrip := State.node_setBand u { u.band b with next := n + 1 } rfl n
      exact ⟨_, bandEvent_next hacts hmarker, (congrArg NodeState.roundTrip hroundTrip).trans htrip,
        fun _ => ⟨congrArg BandState.next hmoves.band, (congrArg BandState.step hmoves.band).trans hstep1, hmoves.out⟩,
        fun h => by omega, fun h => by omega, fun h => by omega, hmoves.others,
        ((hnode.widen.setBand b _).emit _).eventFrame⟩
    next hlast =>
      obtain ⟨hconfigures, hwithin⟩ := configureBand_configures b u hb
      obtain ⟨-, -, -, hafter⟩ := afterBandStep_keeps s (configureBand b u)
      have hstarted := hconfigures.afterBandStep hb s
      have hothers : ∀ k, k ≠ b → u.band k = s.band k := fun k hk => hu ▸ State.band_setNode_ne s b n k _ hk
      exact ⟨_, bandEvent_next hacts hmarker, (hstarted.roundTrips n).trans htrip, fun h => absurd h hlast,
        fun _ => hstarted.near, fun _ => hstarted.far, fun _ => hstarted.advance,
        fun k hk => (hstarted.others k hk).trans (hothers k hk),
        ((hnode.widen.trans hwithin.widen).trans hafter.widen).eventFrame⟩
  case regData =>
    intro s b n reg v w hacts hb hfind
    have hdata := regData_awaited (v := v) hfind
    split at hdata
    next hwrong =>
      obtain ⟨hfails, hwithin⟩ := bandFails_step (s := s) 5 hb
      exact ⟨_, bandEvent_next hacts hdata, fun _ => ⟨hfails.step, hfails.cause⟩, fun h => absurd h hwrong,
        hfails.others, hwithin.widen.eventFrame⟩
    next hright =>
      have hmoves := BandMoves.setBand s b ((s.band b).readBack w)
      have hwithin : s.Within (eventFootprint [.scan] []) (s.setBand b ((s.band b).readBack w)) :=
        (State.Within.refl _ s).setBand b _
      split at hdata
      next =>
        obtain ⟨-, -, -, hafter⟩ := afterBandStep_keeps s (s.setBand b ((s.band b).readBack w))
        have hready := hmoves.afterBandStep s
        exact ⟨_, bandEvent_next hacts hdata, fun h => absurd h hright, fun _ => hready.band, hready.others,
          (hwithin.widen.trans hafter.widen).eventFrame⟩
      next =>
        exact ⟨_, bandEvent_next hacts hdata, fun h => absurd h hright, fun _ => hmoves.band, hmoves.others,
          hwithin.widen.eventFrame⟩
  case discard =>
    intro s b n reg v e hacts hb
    exact ⟨discards_next Obj.BAND_CRC_ERRORS hacts hb (by decide) rfl,
      discards_next Obj.BAND_CODE_ERRORS hacts hb (by decide) rfl,
      discards_next Obj.BAND_CRC_ERRORS hacts hb (by decide) rfl⟩

end Sys2Proof.Machine
end

section
/-! Statements of the family "scan drive and band links" that fail: their counterexamples, each a state that the model
evaluates. -/

namespace Sys2Proof.Machine

/-- An object that a frame does not name is as it was. -/
theorem State.frame_regAt {s t : State} {parts : List Part} {objs tables : List Nat} (h : s.frame t parts objs tables)
    (o : Nat) (hparts : .regs ∉ parts := by decide) (hobjs : o ∉ objs := by decide) : t.regAt o 0 = s.regAt o 0 := by
  obtain ⟨-, -, hkept, -⟩ := h
  exact hkept o 0 hparts hobjs (by decide)

/-! ### A stop that enters S1 beside a busy host ring (05 R147, 14 R354, 11 R282) -/

/-- A running device whose stop is complete but for the bands, with S1 wanted; host ring 8 is busy, 16 bytes into its
descriptor. -/
def drowsyDevice : State :=
  { ((runningDevice.setReg Obj.SCAN_STATE 3).setReg (Obj.RING_STATE 8) 2).setReg (Obj.RING_PROGRESS 8) 16 with
    scan := { stopReady := true }
    power := { s1Wanted := true } }

theorem drowsyDevice_stops : exec .scanStopComplete drowsyDevice = .next (settle (scanStopped drowsyDevice)) :=
  onIslandIf_acts drowsyDevice scanStopped (fun s => s.reg Obj.SCAN_STATE == 3 && s.scan.stopReady) 4 (by decide)
    (by decide)

/-- The entry to S1 suspends ring 8 as a pre-emption does, and counts it. -/
theorem drowsyDevice_counts : drowsyDevice.regAt (Obj.RING_PREEMPTIONS 8) 0 = 0 ∧
    (settle (scanStopped drowsyDevice)).regAt (Obj.RING_PREEMPTIONS 8) 0 = 1 := by
  decide +kernel

/-- Refutes O27: the frame of its last clause names RINGr_STATE for each ring, but not RINGr_PREEMPTIONS. Where S1 waits
for the stop, the model enters it at once (assumption log 178), and the entry suspends the busy host rings as by a
pre-emption (14 R354), which RINGr_PREEMPTIONS counts (11 R282). The counterexample is `drowsyDevice`, whose ring 8 is
in the middle of a descriptor. -/
theorem not_scanDriveStartsAndStops : ¬ Obligations.ScanDriveStartsAndStops := by
  rintro ⟨-, -, -, -, stopCompletes⟩
  obtain ⟨t, hexec, -, -, -, -, -, -, -, -, -, -, hframe⟩ :=
    stopCompletes drowsyDevice (by decide) (by decide) (by decide) (by decide) (by decide)
  rw [drowsyDevice_stops, Host.Outcome.next.injEq] at hexec
  have hsame := State.frame_regAt hframe (Obj.RING_PREEMPTIONS 8)
  rw [← hexec, drowsyDevice_counts.1, drowsyDevice_counts.2] at hsame
  cases hsame

/-! ### An acceptance that ends on a band beyond the 32 of the largest tile (05 R144, 07 R182) -/

/-- A running device with BAND_COUNT 33 and no safe blank, whose last band, band 32, has been judged with its report
missing. -/
def unevenDevice : State := wideDevice.setBand 32 { step := .running, judged := some none }

theorem unevenDevice_accepts :
    exec (.headroomAcceptDeadline 33) unevenDevice = .next (settle (headroomDeadline 33 unevenDevice)) :=
  onIsland_acts unevenDevice (headroomDeadline 33) 4 (by decide)

/-- The sample of the group of bands 32 and 33 is missing, and rail 48 counts it. -/
theorem unevenDevice_counts : unevenDevice.regAt (Obj.RAIL_HEADROOM_MISSING 48) 0 = 0 ∧
    (settle (headroomDeadline 33 unevenDevice)).regAt (Obj.RAIL_HEADROOM_MISSING 48) 0 = 1 := by
  decide +kernel

/-- Refutes O31: its fourth clause, on a band that is not counted, lets the RAILn_HEADROOM_MISSING of rails 0 to 47
change, and bounds neither the band nor BAND_COUNT. The counterexample is the deadline of band 33 of `unevenDevice`: it
completes the sample of group 16, in which band 32 has been judged missing, and that sample counts under rail 48 (07 R182,
R197). -/
theorem not_nodeReportsAreTaken : ¬ Obligations.NodeReportsAreTaken := by
  rintro ⟨-, -, -, uncounted, -⟩
  obtain ⟨t, hexec, -, hframe⟩ := uncounted unevenDevice 33 (by decide) (by decide)
  rw [unevenDevice_accepts, Host.Outcome.next.injEq] at hexec
  have hsame := State.frame_regAt hframe (Obj.RAIL_HEADROOM_MISSING 48)
  rw [← hexec, unevenDevice_counts.1, unevenDevice_counts.2] at hsame
  cases hsame

end Sys2Proof.Machine
end

section
/-! The commands of the section "emitter diagnosis": the substitution table as the host edits it, and the Vf references
that it resets (06 R165, R167, R168, R172). -/

namespace Sys2Proof.Machine

section Diagnosis

open State.Within

variable {s u : State} {q : Request}

/-! ### What a host command finds -/

/-- Neither the count of a request nor its access touches the diagnosis, the pipeline, the memories or a table. -/
@[simp] theorem State.asked_stores (s : State) (q : Request) :
    (s.asked q).diag = s.diag ∧ (s.asked q).pipe = s.pipe ∧ (s.asked q).scan = s.scan ∧ (s.asked q).tabs = s.tabs ∧
      (s.asked q).mem = s.mem ∧ (s.asked q).staging = s.staging ∧ (s.asked q).memory = s.memory := by
  unfold State.asked State.accessed
  split <;> simp [State.crossed]

theorem State.reg_asked_ne (s : State) (q : Request) {o : Nat} (ho : o ≠ Obj.COP_REQUESTS) :
    (s.asked q).reg o = s.reg o := by
  obtain ⟨-, -, -, hreg⟩ := accessed_keeps (s.taken q) q.obj
  rw [State.asked, hreg, State.reg_taken, if_neg ho]

@[simp] theorem State.emitters_asked (s : State) (q : Request) : (s.asked q).emitters = s.emitters := by
  simp only [State.emitters, State.width, State.height]
  rw [s.reg_asked_ne q (by decide), s.reg_asked_ne q (by decide)]

theorem State.entry_of_diag (h : u.diag = s.diag) : u.entry = s.entry := by
  funext e
  simp only [State.entry, h]

theorem State.suspect_of_diag (h : u.diag = s.diag) : u.suspect = s.suspect := by
  funext e
  simp only [State.suspect, h]

@[simp] theorem State.entry_asked (s : State) (q : Request) : (s.asked q).entry = s.entry :=
  State.entry_of_diag (by simp)

@[simp] theorem State.confirmed_asked (s : State) (q : Request) : (s.asked q).confirmed = s.confirmed := by
  funext e
  rw [State.confirmed, State.entry_asked, State.confirmed]

@[simp] theorem State.suspect_asked (s : State) (q : Request) : (s.asked q).suspect = s.suspect :=
  State.suspect_of_diag (by simp)

/-! ### A host command from its action -/

/-- The objects of the diagnosis have no reserved bits that a request loses before its action sees them (00 R10). -/
theorem heldBytes_diagnosis {obj : Nat} (hlow : 0x3A0000 ≤ obj) (hhigh : obj < 0x3A4000) (data : Bytes) :
    heldBytes obj data = data := by
  have hkept : ∀ o, keptBits obj o = 0xFF#8 := fun o => by
    unfold keptBits
    simp only [Obj.X_MAP, Obj.GREY_HIGH_RED, Obj.GREY_LOW_BLUE, Obj.COEF_TABLE, Obj.SLOT_TABLE, Obj.REGION_ENTRY,
      Obj.REGION_TABLE, Obj.AMBIENT_TABLE, Obj.TOD_TABLE, Bool.and_eq_true, Bool.or_eq_true, decide_eq_true_eq]
    rw [if_neg (by omega), if_neg (by omega), if_neg (by omega), if_neg (by omega), if_neg (by omega), if_neg (by omega),
      if_neg (by omega), if_neg (by omega)]
  have hall : ∀ b : Byte, b &&& 0xFF#8 = b := fun b => BitVec.and_allOnes
  simp only [heldBytes, hkept, hall]
  exact List.zipIdx_map_fst 0 data

theorem Request.held_diagnosis {q : Request} (hlow : 0x3A0000 ≤ q.obj) (hhigh : q.obj < 0x3A4000) (r : ObjRow) :
    q.held r = q := by
  unfold Request.held
  split
  · rw [heldBytes_diagnosis hlow hhigh]
  all_goals rfl

section Command

variable {act : Action} {rq : Req} {obj : Nat} {data : Bytes} (hadmits : s.admitsWrite rq obj data = true)
  (hlow : 0x3A0000 ≤ obj) (hhigh : obj < 0x3A4000)

include hadmits hlow hhigh

/-- An admitted command of the diagnosis acts on the state that its request has asked, and its answer leaves. -/
theorem hostWrite_diagnosis {a : Answer} (hact : act (wholeWrite rq obj data) (s.asked (wholeWrite rq obj data)) = a) :
    hostWrite act rq obj data s = .next (settle (conclude (wholeWrite rq obj data) a)) := by
  obtain ⟨r, -, hexec⟩ := hostWrite_admitted s act rq obj data hadmits
  rw [hexec, Request.held_diagnosis hlow hhigh, ← hact]
  rfl

/-- One that its action aborts is turned away. -/
theorem hostWrite_diagnosis_abort {code : Nat}
    (hact : act (wholeWrite rq obj data) (s.asked (wholeWrite rq obj data)) =
      .abort (s.asked (wholeWrite rq obj data)) code) (hcode : code ≠ 0) (hawake : code ≠ abortAsleep) :
    ∃ t, hostWrite act rq obj data s = .next t ∧ s.turnsAway t rq code := by
  have hanswer := respond_abort_within (s.asked (wholeWrite rq obj data)) (wholeWrite rq obj data) hcode
  rw [abortObjects, if_neg hawake] at hanswer
  refine ⟨_, hostWrite_diagnosis hadmits hlow hhigh hact, State.respond_answered _ _ _ _ _, ?_⟩
  exact hostFrame_of_within (q := wholeWrite rq obj data)
    (F := { abortFootprint [Obj.COP_ABORTS, Obj.COP_LAST_ABORT] with crossings := (· == 9) })
    ((accessed_within _ obj rfl).trans (hanswer.mono (fun _ => id) (fun _ => id) id (fun _ hk => by cases hk) id))
    (by simp [abortFootprint]) (fun o ho => by simpa [abortFootprint] using ho) rfl (fun k hk => by simpa using hk)
    (by decide)

end Command

/-- An answer of success leaves the diagnosis and the memories. -/
theorem settle_conclude_done_stores (q : Request) (u : State) :
    (settle (conclude q (.done u))).diag = u.diag ∧ (settle (conclude q (.done u))).mem = u.mem ∧
      (settle (conclude q (.done u))).staging = u.staging := by
  simp [conclude]

/-- The frame of a command that is done, from the footprint of its action. -/
theorem hostFrame_conclude_done {F : Footprint} {parts : List Part} {objs : List Nat} (h : (s.asked q).Within F u)
    (hparts : ∀ p ∈ F.parts, p ∈ parts) (hobjs : ∀ o, F.objs o = true → o ∈ objs) (htabs : F.tabs = false)
    (hcross : .crossing ∉ parts → ∀ k, F.crossings k = false) :
    s.hostFrame (settle (conclude q (.done u))) parts objs [] := by
  have hwithin : (s.taken q).Within { F with crossings := fun k => k == 9 || F.crossings k } u :=
    (accessed_within _ q.obj rfl).trans (h.mono (fun _ => id) (fun _ => id) id (fun k hk => by simp [hk]) id)
  refine hostFrame_respond q 0 [] (by decide) (hwithin.frameRaw (fun p hp => List.mem_cons_of_mem _ (hparts p hp))
    (fun _ => hobjs) (fun _ => htabs) fun hx => absurd List.mem_cons_self hx) fun hx k hk => ?_
  rw [hwithin.cross k (by simp [hk, hcross hx k])]
  exact congrArg (fun d : DeviceState => Sparse.get (fun _ => ({} : Crossing)) d.crossings k) (by simp)

/-! ### The footprint of PIXEL accesses (02 R42, 11 R269, R272) -/

/-- What reads and writes of PIXEL may touch. -/
def pixelFootprint : Footprint where
  parts := [.mem, .staging, .memory, .pipe, .layers, .fault]
  objs o := (Obj.L7_ARM_STATE :: readObjs).contains o
  crossings k := k == 2 || k == 3

theorem pixelFootprint_writes : pixelFootprint.Writes where
  objs o ho := List.contains_iff_mem.mpr (List.mem_cons_of_mem _ ho)
  fault := by decide
  memory := by decide
  arm := by decide
  layers := by decide
  mem := by decide
  staging := by decide
  pipe := by decide

theorem pixelRead_within (s : State) (a n : Nat) : s.Within pixelFootprint (pixelRead a n s) :=
  (refl _ s).pixelRead pixelFootprint_writes.toReads a n

theorem pixelWrite_within (s : State) (a : Nat) (bs : Bytes) : s.Within pixelFootprint (s.pixelWrite a bs) :=
  ((refl _ s).writeBursts pixelFootprint_writes _ _).crossed 3

theorem setMapState_within (e v : Nat) (s : State) : s.Within pixelFootprint (setMapState e v s) := by
  have hwrite : ∀ new old : Nat, s.Within pixelFootprint (if new = old then pixelRead (s.defectAddr e) 1 s
      else (pixelRead (s.defectAddr e) 1 s).pixelWrite (s.defectAddr e) (natLE 1 new)) := fun new old => by
    split
    · exact pixelRead_within s _ _
    · exact (pixelRead_within s _ _).trans (pixelWrite_within _ _ _)
  unfold setMapState
  dsimp only
  split
  · exact pixelRead_within s _ _
  · exact hwrite _ _

theorem clearWeakRun_within (e : Nat) (s : State) : s.Within pixelFootprint (clearWeakRun e s) := by
  unfold clearWeakRun
  dsimp only
  split
  · exact pixelRead_within s _ _
  · split
    · exact pixelRead_within s _ _
    · exact (pixelRead_within s _ _).trans (pixelWrite_within _ _ _)

theorem resetVf_within (e : Nat) (s : State) : s.Within pixelFootprint (resetVf e s) := by
  unfold resetVf
  dsimp only
  split
  · exact pixelRead_within s _ _
  · exact (pixelRead_within s _ _).trans (pixelWrite_within _ _ _)

/-- Accesses to PIXEL leave the diagnosis. -/
theorem diag_of_pixel (h : s.Within pixelFootprint u) : u.diag = s.diag := h.part .diag (by decide)

/-- What editing the substitution table may touch: the diagnosis, and PIXEL for the map and the trends. -/
def defectFootprint : Footprint := { pixelFootprint with parts := .diag :: pixelFootprint.parts }

theorem defect_of_pixel (h : s.Within pixelFootprint u) : s.Within defectFootprint u :=
  h.mono (fun _ hp => List.mem_cons_of_mem _ hp) (fun _ => id) id (fun _ => id) id

/-! ### Entries and suspects (R161, R165, R167) -/

@[simp] theorem entry_setMapState (e v : Nat) (s : State) : (setMapState e v s).entry = s.entry :=
  State.entry_of_diag (diag_of_pixel (setMapState_within e v s))

@[simp] theorem suspect_setMapState (e v : Nat) (s : State) : (setMapState e v s).suspect = s.suspect :=
  State.suspect_of_diag (diag_of_pixel (setMapState_within e v s))

@[simp] theorem entry_clearWeakRun (e : Nat) (s : State) : (clearWeakRun e s).entry = s.entry :=
  State.entry_of_diag (diag_of_pixel (clearWeakRun_within e s))

@[simp] theorem suspect_clearWeakRun (e : Nat) (s : State) : (clearWeakRun e s).suspect = s.suspect :=
  State.suspect_of_diag (diag_of_pixel (clearWeakRun_within e s))

@[simp] theorem entry_putEntry (e v k : Nat) (s : State) :
    (putEntry e v s).entry k = if k = e then v % 2 ^ 64 + 2 ^ 64 else s.entry k := by
  simp only [State.entry, putEntry, Sparse.get_set]

/-- The substitution table holds no suspect. -/
theorem State.suspect_setSubst (s : State) (m : Sparse Nat) :
    ({ s with diag := { s.diag with subst := m } } : State).suspect = s.suspect := rfl

@[simp] theorem suspect_putEntry (e v : Nat) (s : State) : (putEntry e v s).suspect = s.suspect := s.suspect_setSubst _

@[simp] theorem entry_dropEntry (e k : Nat) (s : State) : (dropEntry e s).entry k = if k = e then 0 else s.entry k := by
  simp only [State.entry, dropEntry, Sparse.get_set]

@[simp] theorem suspect_dropEntry (e : Nat) (s : State) : (dropEntry e s).suspect = s.suspect := s.suspect_setSubst _

@[simp] theorem entry_dropSuspect (e : Nat) (s : State) : (dropSuspect e s).entry = s.entry := rfl

/-- Of the suspects only those whose emitter passes are kept. -/
theorem find_suspect_filter (l : List Suspect) (p : Nat → Bool) (k : Nat) :
    (l.filter fun x => p x.emitter).find? (·.emitter == k) = if p k then l.find? (·.emitter == k) else none := by
  have hboth : ∀ x : Suspect, (p x.emitter && x.emitter == k) = (p k && x.emitter == k) := fun x => by
    by_cases hx : x.emitter = k
    · rw [hx]
    · rw [beq_false_of_ne hx, Bool.and_false, Bool.and_false]
  rw [List.find?_filter]
  simp only [Bool.decide_and, Bool.decide_eq_true, hboth]
  cases p k <;> simp

@[simp] theorem suspect_dropSuspect (e k : Nat) (s : State) :
    (dropSuspect e s).suspect k = if k = e then none else s.suspect k := by
  refine (find_suspect_filter s.diag.suspects (· != e) k).trans ?_
  by_cases hk : k = e <;> simp [hk, State.suspect]

@[simp] theorem entry_clearDefect (e k : Nat) (s : State) : (clearDefect e s).entry k = if k = e then 0 else s.entry k := by
  simp [clearDefect]

@[simp] theorem suspect_clearDefect (e k : Nat) (s : State) :
    (clearDefect e s).suspect k = if k = e then none else s.suspect k := by
  simp [clearDefect]

theorem clearDefect_within (e : Nat) (s : State) : s.Within defectFootprint (clearDefect e s) :=
  (((refl _ s).diag _).diag _).trans (defect_of_pixel (setMapState_within _ _ _))

/-! ### DEFECT_ADD (R167) -/

/-- A host entry is entered for its emitter. -/
def enterHost (v : Nat) (s : State) : State :=
  setMapState (field v 0 22) (4 + field v 22 2) (putEntry (field v 0 22) v (dropSuspect (field v 0 22) s))

theorem enterHost_within (v : Nat) (s : State) : s.Within defectFootprint (enterHost v s) :=
  (((refl _ s).diag _).diag _).trans (defect_of_pixel (setMapState_within _ _ _))

@[simp] theorem entry_enterHost (v k : Nat) (s : State) :
    (enterHost v s).entry k = if k = field v 0 22 then v % 2 ^ 64 + 2 ^ 64 else s.entry k := by
  simp [enterHost]

@[simp] theorem suspect_enterHost (v k : Nat) (s : State) :
    (enterHost v s).suspect k = if k = field v 0 22 then none else s.suspect k := by
  simp [enterHost]

theorem actDefectAdd_done (h : s.diag.subst.length < 8192 ∨ s.confirmed (field (hostEntry q.arg) 0 22) = true) :
    actDefectAdd q s = .done (enterHost (hostEntry q.arg) s) := by
  refine if_neg fun hfull => ?_
  simp only [Bool.and_eq_true, decide_eq_true_eq, Bool.not_eq_true'] at hfull
  obtain ⟨hlength, hnone⟩ := hfull
  rcases h with h | h
  · omega
  · rw [hnone] at h
    cases h

theorem actDefectAdd_full (hfull : 8192 ≤ s.diag.subst.length)
    (hnone : s.confirmed (field (hostEntry q.arg) 0 22) = false) : actDefectAdd q s = .abort s abortBusy :=
  if_pos (by simp [hfull, hnone])

/-! ### DEFECT_CLEAR and DEFECT_CLEAR_ALL (R167) -/

/-- Emitter `e` is cleared where it has an entry, a suspicion or a table-full state. -/
def clearFound (t : State) (e : Nat) : State :=
  clearWeakRun e (if t.confirmed e || (t.suspect e).isSome || tableFull ((t.mapState e).getD 0) then clearDefect e t
    else t)

theorem clearFound_within (t : State) (e : Nat) : t.Within defectFootprint (clearFound t e) := by
  unfold clearFound
  split
  · exact (clearDefect_within e t).trans (defect_of_pixel (clearWeakRun_within e _))
  · exact defect_of_pixel (clearWeakRun_within e _)

@[simp] theorem entry_clearFound (t : State) (e k : Nat) :
    (clearFound t e).entry k = if k = e then 0 else t.entry k := by
  unfold clearFound
  split
  · simp
  · next hnone =>
    have hentry : t.entry e = 0 := by simp_all [State.confirmed]
    by_cases hk : k = e <;> simp [hk, hentry]

@[simp] theorem suspect_clearFound (t : State) (e k : Nat) :
    (clearFound t e).suspect k = if k = e then none else t.suspect k := by
  unfold clearFound
  split
  · simp
  · next hnone =>
    have hsuspect : t.suspect e = none := by simp_all
    by_cases hk : k = e <;> simp [hk, hsuspect]

theorem foldN_succ {α : Type} (f : α → Nat → α) (n : Nat) (a : α) : foldN (n + 1) f a = f (foldN n f a) n := by
  simp [foldN, List.range_succ]

/-- Steps over the emitters below `n` that each put what `f` tells of their own emitter to `c` alone. -/
theorem foldN_resets {α : Type} {step : State → Nat → State} (f : State → Nat → α) (c : α)
    (h : ∀ t e k, f (step t e) k = if k = e then c else f t k) (n : Nat) (s : State) (k : Nat) :
    f (foldN n step s) k = if k < n then c else f s k := by
  induction n with
  | zero => simp [foldN]
  | succ n ih =>
    rw [foldN_succ, h]
    by_cases hk : k = n
    · rw [if_pos hk, if_pos (by omega)]
    · rw [if_neg hk, ih]
      exact if_congr (by omega) rfl rfl

/-- The entries and suspicions of emitters beyond the tile are dropped. -/
def dropBeyond (s : State) : State :=
  { s with diag := { s.diag with subst := s.diag.subst.filter (·.1 < s.emitters)
                                 suspects := s.diag.suspects.filter (·.emitter < s.emitters) } }

theorem entry_dropBeyond {k : Nat} (hk : s.emitters ≤ k) : (dropBeyond s).entry k = 0 := by
  have hfilter : (dropBeyond s).diag.subst = Sparse.clearIf s.diag.subst (fun k => decide (s.emitters ≤ k)) := by
    exact List.filter_congr fun p _ => by simp only [← decide_not, Nat.not_le]
  rw [State.entry, hfilter, Sparse.get_clearIf, if_pos (by simpa using hk)]

theorem suspect_dropBeyond {k : Nat} (hk : s.emitters ≤ k) : (dropBeyond s).suspect k = none :=
  (find_suspect_filter s.diag.suspects (fun e => decide (e < s.emitters)) k).trans (if_neg (by simpa using hk))

/-- Every emitter is back to UNTESTED. -/
def clearEvery (s : State) : State := foldN s.emitters clearFound (dropBeyond s)

theorem clearEvery_within (s : State) : s.Within defectFootprint (clearEvery s) :=
  ((refl _ s).diag _).trans (foldNSteps (fun t e _ => clearFound_within t e) _)

theorem entry_clearEvery (s : State) (k : Nat) : (clearEvery s).entry k = 0 := by
  rw [clearEvery, foldN_resets State.entry 0 entry_clearFound]
  split
  · rfl
  · exact entry_dropBeyond (by omega)

theorem suspect_clearEvery (s : State) (k : Nat) : (clearEvery s).suspect k = none := by
  rw [clearEvery, foldN_resets State.suspect none suspect_clearFound]
  split
  · rfl
  · exact suspect_dropBeyond (by omega)

theorem actDefectClear_done (h : q.arg % 2 ^ 32 < s.emitters) :
    actDefectClear q s = .done (clearWeakRun (q.arg % 2 ^ 32) (clearDefect (q.arg % 2 ^ 32) s)) :=
  if_neg (by omega)

theorem actDefectClear_beyond (h : s.emitters ≤ q.arg % 2 ^ 32) : actDefectClear q s = .done s := if_pos h

theorem actDefectClearAll_done (q : Request) (s : State) : actDefectClearAll q s = .done (clearEvery s) := rfl

/-! ### DEFECT_TABLE (R165, R167) -/

/-- Entry `i` of a table that the host writes. -/
def hostEntryAt (data : Bytes) (i : Nat) : Nat := hostEntry (leNat ((data.drop (8 * i)).take 8))

/-- Entry `i` of the table is entered. -/
def enterAt (data : Bytes) (m : Sparse Nat) (i : Nat) : Sparse Nat :=
  Sparse.set (fun _ => 0) m (field (hostEntryAt data i) 0 22) (hostEntryAt data i + 2 ^ 64)

/-- The substitution table of the first `n` entries that the host writes. -/
def hostTable (data : Bytes) (n : Nat) : Sparse Nat := foldN n (enterAt data) []

theorem actDefectTable_done (q : Request) (s : State) : actDefectTable q s =
    .done { s with diag := { s.diag with subst := hostTable q.data (min (q.data.length / 8) 8192) } } := rfl

theorem get_hostTable_succ (data : Bytes) (n e : Nat) : Sparse.get (fun _ => 0) (hostTable data (n + 1)) e =
    if e = field (hostEntryAt data n) 0 22 then hostEntryAt data n + 2 ^ 64
    else Sparse.get (fun _ => 0) (hostTable data n) e := by
  simp only [hostTable, foldN_succ, enterAt, Sparse.get_set]

theorem hostEntry_lt (v : Nat) : hostEntry v < 2 ^ 64 := by
  have hle : Nat.land v entryMask ≤ entryMask := Nat.and_le_right
  unfold hostEntry putBit
  simp only [if_true, entryMask] at hle ⊢
  split <;> omega

theorem bitAt_hostEntry (v : Nat) : bitAt (hostEntry v) 26 = true := bitAt_putBit_true _ _

/-- Each entry of the table has HOST set and stands under its emitter. -/
theorem hostTable_entry (data : Bytes) (n e : Nat) (h : Sparse.get (fun _ => 0) (hostTable data n) e ≠ 0) :
    bitAt (Sparse.get (fun _ => 0) (hostTable data n) e % 2 ^ 64) 26 = true ∧
      field (Sparse.get (fun _ => 0) (hostTable data n) e) 0 22 = e := by
  induction n with
  | zero => exact absurd rfl h
  | succ n ih =>
    rw [get_hostTable_succ] at h ⊢
    by_cases he : e = field (hostEntryAt data n) 0 22
    · have hlt : hostEntryAt data n < 2 ^ 64 := hostEntry_lt _
      rw [if_pos he, Nat.add_mod_right, Nat.mod_eq_of_lt hlt]
      refine ⟨bitAt_hostEntry _, ?_⟩
      rw [he]
      simp only [field]
      omega
    · rw [if_neg he] at h ⊢
      exact ih h

/-- The last entry written stands. -/
theorem hostTable_last {data : Bytes} {n : Nat} (hlength : data.length = 8 * (n + 1)) :
    Sparse.get (fun _ => 0) (hostTable data (n + 1)) (field (hostEntry (leNat (data.drop (8 * n)))) 0 22) =
      hostEntry (leNat (data.drop (8 * n))) + 2 ^ 64 := by
  have hat : hostEntryAt data n = hostEntry (leNat (data.drop (8 * n))) := by
    rw [hostEntryAt, List.take_of_length_le (by rw [List.length_drop]; omega)]
  rw [get_hostTable_succ, hat, if_pos rfl]

/-! ### What a device engine reads and writes of one burst (11 R269, R272, R281) -/

/-- A translation depends on the regions and on the state of the memory. -/
theorem State.translate_congr (htabs : u.tabs = s.tabs) (hstate : u.reg Obj.MEM_STATE = s.reg Obj.MEM_STATE)
    (husable : u.reg Obj.MEM_USABLE_BYTES = s.reg Obj.MEM_USABLE_BYTES) : u.translate = s.translate := by
  have hbyte : u.tabByte = s.tabByte := by
    funext o j
    simp only [State.tabByte, htabs]
  have hnat : u.tabNat = s.tabNat := by
    funext o k n
    simp only [State.tabNat, htabs]
  have hregion : u.regionOf = s.regionOf := by
    funext a
    simp only [State.regionOf, State.regionHolds, hbyte, hnat]
  funext a n write host
  unfold State.translate
  rw [hbyte, hnat, hregion, hstate, husable]

@[simp] theorem State.translate_asked (s : State) (q : Request) : (s.asked q).translate = s.translate :=
  State.translate_congr (by simp) (s.reg_asked_ne q (by decide)) (s.reg_asked_ne q (by decide))

/-- The rights of a region bind host rings alone: a device engine writes where it reads. -/
theorem State.translate_device (s : State) (a n : Nat) : s.translate a n true false = s.translate a n false false := by
  rfl

@[simp] theorem State.readBad_asked (s : State) (q : Request) : (s.asked q).readBad = s.readBad := by
  funext t n
  simp only [State.readBad, State.badWords, State.asked_stores]

theorem State.targetBytes_congr (hmem : u.mem = s.mem) (hstaging : u.staging = s.staging) :
    u.targetBytes = s.targetBytes := by
  funext t n
  simp only [State.targetBytes, State.stagingBytes, State.memBytes, hmem, hstaging]

@[simp] theorem State.readBurst_asked (s : State) (q : Request) : (s.asked q).readBurst = s.readBurst := by
  have hbytes : (s.asked q).targetBytes = s.targetBytes := State.targetBytes_congr (by simp) (by simp)
  funext a n
  simp [State.readBurst, hbytes]

@[simp] theorem State.deviceRead_asked (s : State) (q : Request) : (s.asked q).deviceRead = s.deviceRead := by
  have hbursts : ∀ l, (s.asked q).readBursts l = s.readBursts l := fun l => by
    induction l with
    | nil => rfl
    | cons b l ih => simp [State.readBursts, ih]
  funext a n
  exact hbursts _

/-- A burst that arrives is sound. -/
theorem readBad_of_readBurst {a n : Nat} {bs : Bytes} (h : s.readBurst a n = some bs) :
    s.readBad (s.translate a n false false) n = [] := by
  unfold State.readBurst at h
  dsimp only at h
  split at h
  · cases h
  · next hsound =>
    simp only [Bool.or_eq_true, not_or, Bool.not_eq_true', Bool.not_eq_false, List.isEmpty_iff] at hsound
    exact hsound.2

theorem targetBytes_setTarget (s : State) (t : Target) (bs : Bytes) : (s.setTarget t bs).targetBytes t bs.length = bs := by
  unfold State.setTarget State.targetBytes
  split
  · exact s.stagingBytes_setStaging _ _
  · exact s.memBytes_setMem _ _

/-- The watch over the calibration records leaves the memories. -/
theorem targetBytes_noteCalWrite (s : State) (a n : Nat) : (s.noteCalWrite a n).targetBytes = s.targetBytes := by
  unfold State.noteCalWrite noteFillInput
  dsimp only
  split_ifs <;> exact State.targetBytes_congr rfl rfl

/-- A burst that nothing drops is written over sound words. -/
theorem targetBytes_writeDevice {a : Nat} {bs : Bytes}
    (hdropped : (s.pipe.dropped.all fun d => !decide (a ≤ d ∧ d < a + bs.length)) = true)
    (hcause : (s.translate a bs.length true false).cause = 0)
    (hsound : s.readBad (s.translate a bs.length true false) bs.length = []) :
    (writeDevice a bs s).2.targetBytes (s.translate a bs.length true false) bs.length = bs := by
  have hfind : (s.pipe.dropped.find? fun d => a ≤ d && d < a + bs.length) = none :=
    List.find?_eq_none.mpr fun d hd => by
      have houtside := List.all_eq_true.mp hdropped d hd
      simp only [Bool.not_eq_true', decide_eq_false_iff_not] at houtside
      simpa using houtside
  have hgood : s.writeBad (s.translate a bs.length true false) bs.length = [] := by simp [State.writeBad, hsound]
  have hwritten : (writeDevice a bs s).2 = ((s.setTarget (s.translate a bs.length true false) bs).writtenOver
      s.memory.issued (s.translate a bs.length true false) bs.length).noteCalWrite a bs.length := by
    unfold writeDevice
    simp [hfind, hcause, hgood]
  rw [hwritten, targetBytes_noteCalWrite]
  exact targetBytes_setTarget s _ bs

/-! ### VF_REF_RESET (R172) -/

/-- The burst in which the Vf trend entry of an emitter lies. -/
def State.vfBurst (s : State) (e : Nat) : Nat := s.vfAddr e % 2 ^ 40

theorem burstsAt_vfAddr (s : State) (e : Nat) : burstsAt (s.vfAddr e) 16 = [(s.vfBurst e, 16)] := by
  have haligned : s.vfAddr e % 16 = 0 := by
    unfold State.vfAddr
    omega
  have hone : (s.vfAddr e + 16 - 1) / 256 - s.vfAddr e / 256 + 1 = 1 := by omega
  have hlow : max (s.vfAddr e) (s.vfAddr e / 256 * 256) = s.vfAddr e := by omega
  have hhigh : min (s.vfAddr e + 16) ((s.vfAddr e / 256 + 1) * 256) - s.vfAddr e = 16 := by omega
  simp only [burstsAt, hone, List.range_one, List.map_cons, List.map_nil, Nat.add_zero, hlow, hhigh]
  rfl

theorem VfEntry.length_bytes (v : VfEntry) : v.bytes.length = 16 := rfl

theorem State.vfAddr_asked (s : State) (q : Request) : (s.asked q).vfAddr = s.vfAddr := by
  funext e
  simp [State.vfAddr]

@[simp] theorem State.vfBurst_asked (s : State) (q : Request) (e : Nat) : (s.asked q).vfBurst e = s.vfBurst e := by
  rw [State.vfBurst, State.vfAddr_asked, State.vfBurst]

@[simp] theorem State.vfEntry_asked (s : State) (q : Request) : (s.asked q).vfEntry = s.vfEntry := by
  funext e
  simp [State.vfEntry, State.vfAddr_asked]

/-- A trend entry without its reference: REF_SET and SAMPLES are 0. -/
def VfEntry.unreferenced (v : VfEntry) : VfEntry := { v with refSet := false, samples := 0 }

section Trend

variable {e : Nat} {v : VfEntry} (hentry : s.vfEntry e = some v)
  (hcause : (s.translate (s.vfBurst e) 16 true false).cause = 0)

include hentry

/-- A trend entry that can be read is sound. -/
theorem readBad_vfEntry : s.readBad (s.translate (s.vfBurst e) 16 true false) 16 = [] := by
  obtain ⟨bs, hread, -⟩ := Option.map_eq_some_iff.mp hentry
  rw [State.deviceRead, burstsAt_vfAddr, State.readBursts] at hread
  cases hburst : s.readBurst (s.vfBurst e) 16 with
  | none => simp [hburst] at hread
  | some bs1 =>
    rw [s.translate_device]
    exact readBad_of_readBurst hburst

include hcause

/-- Its read counts nothing but the transfer. -/
theorem pixelRead_vfEntry : pixelRead (s.vfAddr e) 16 s = s.crossed 2 := by
  have hsound := readBad_vfEntry hentry
  rw [s.translate_device] at hcause hsound
  have hnote : noteRead (s.vfAddr e) 16 s = s := by
    simp [noteRead, burstsAt_vfAddr, hcause, hsound, State.noteBad]
  rw [pixelRead, hnote]

/-- The reset writes the burst of the entry. -/
theorem resetVf_eq : resetVf e s =
    (writeDevice (s.vfBurst e) v.unreferenced.bytes (s.crossed 2)).2.crossed 3 := by
  have hlength : v.unreferenced.bytes.length = 16 := VfEntry.length_bytes _
  have hbursts : burstsAt ((s.crossed 2).vfAddr e) 16 = [(s.vfBurst e, 16)] := burstsAt_vfAddr s e
  have hwrite : resetVf e s = (s.crossed 2).pixelWrite ((s.crossed 2).vfAddr e) v.unreferenced.bytes := by
    simp only [resetVf, hentry, pixelRead_vfEntry hentry hcause, putVf, VfEntry.unreferenced]
  rw [hwrite, State.pixelWrite, State.deviceWrite, hlength, hbursts, writeBursts, writeBursts,
    List.take_of_length_le (by rw [hlength])]

/-- The entry is written back with REF_SET and SAMPLES cleared. -/
theorem targetBytes_resetVf
    (hdropped : (s.pipe.dropped.all fun d => !decide (s.vfBurst e ≤ d ∧ d < s.vfBurst e + 16)) = true) :
    (resetVf e s).targetBytes (s.translate (s.vfBurst e) 16 true false) 16 = v.unreferenced.bytes := by
  have hsound := readBad_vfEntry hentry
  have hcrossed : (s.crossed 2).translate = s.translate ∧ (s.crossed 2).readBad = s.readBad := ⟨rfl, rfl⟩
  have hlength : v.unreferenced.bytes.length = 16 := VfEntry.length_bytes _
  have hwritten := targetBytes_writeDevice (s := s.crossed 2) (a := s.vfBurst e) (bs := v.unreferenced.bytes)
  rw [hlength, hcrossed.1, hcrossed.2] at hwritten
  rw [resetVf_eq hentry hcause, State.targetBytes_congr (u := State.crossed _ 3) rfl rfl]
  exact hwritten hdropped hcause hsound

end Trend

/-- The same of the state that a request has asked. -/
theorem targetBytes_resetVf_asked {e : Nat} {v : VfEntry} (hentry : s.vfEntry e = some v)
    (hcause : (s.translate (s.vfBurst e) 16 true false).cause = 0)
    (hdropped : (s.pipe.dropped.all fun d => !decide (s.vfBurst e ≤ d ∧ d < s.vfBurst e + 16)) = true) :
    (resetVf e (s.asked q)).targetBytes (s.translate (s.vfBurst e) 16 true false) 16 = v.unreferenced.bytes := by
  have hreset := targetBytes_resetVf (s := s.asked q) (e := e) (v := v)
  simp only [State.vfEntry_asked, State.translate_asked, State.vfBurst_asked, State.asked_stores] at hreset
  exact hreset hentry hcause hdropped

/-- Every Vf reference is reset. -/
def resetEveryVf (s : State) : State := foldN s.emitters (fun t e => resetVf e t) s

theorem resetEveryVf_within (s : State) : s.Within pixelFootprint (resetEveryVf s) :=
  foldNSteps (fun t e _ => resetVf_within e t) s

theorem actVfRefReset_all (h : q.arg % 2 ^ 32 = 0xFFFFFFFF) : actVfRefReset q s = .done (resetEveryVf s) := if_pos h

theorem actVfRefReset_beyond (hone : q.arg % 2 ^ 32 ≠ 0xFFFFFFFF) (h : s.emitters ≤ q.arg % 2 ^ 32) :
    actVfRefReset q s = .done s := (if_neg hone).trans (if_pos h)

theorem actVfRefReset_one (hone : q.arg % 2 ^ 32 ≠ 0xFFFFFFFF) (h : q.arg % 2 ^ 32 < s.emitters) :
    actVfRefReset q s = .done (resetVf (q.arg % 2 ^ 32) s) := (if_neg hone).trans (if_neg (by omega))

/-! ### A written table (R167) -/

/-- DEFECT_TABLE is replaced by the entries that the host writes, and nothing else changes. -/
theorem defectTable_replaces {rq : Req} {data : Bytes} (hadmits : s.admitsWrite rq Obj.DEFECT_TABLE data = true) :
    ∃ t, exec (.defectTableWrite rq data) s = .next t ∧ t.answered rq 0 = true ∧
      t.diag = { s.diag with subst := hostTable data (min (data.length / 8) 8192) } ∧ s.hostFrame t [.diag] [] [] := by
  refine ⟨_, hostWrite_diagnosis hadmits (by decide) (by decide) (actDefectTable_done _ _),
    State.respond_answered _ _ _ _ _, ?_, hostFrame_conclude_done (F := { parts := [.diag] }) ((refl _ _).diag _)
      (by simp) (by simp) rfl fun _ _ => rfl⟩
  rw [(settle_conclude_done_stores _ _).1]
  simp only [State.asked_stores]
  rfl

end Diagnosis

/-! ### The obligation -/

/-- A command that edits the diagnosis by way of PIXEL has the frame of its footprint. -/
theorem hostFrame_of_defect {s u : State} {q : Request} (h : (s.asked q).Within defectFootprint u) :
    s.hostFrame (settle (conclude q (.done u))) [.diag, .mem, .staging, .memory, .pipe, .layers, .fault, .crossing]
      (Obj.L7_ARM_STATE :: readObjs) [] :=
  hostFrame_conclude_done h (by decide) (fun _ ho => List.contains_iff_mem.mp ho) rfl fun hx => absurd (by decide) hx

/-- A command that only reads and writes PIXEL leaves the diagnosis besides. -/
theorem hostFrame_of_pixel {s u : State} {q : Request} (h : (s.asked q).Within pixelFootprint u) :
    s.hostFrame (settle (conclude q (.done u))) [.mem, .staging, .memory, .layers, .pipe, .fault, .crossing]
      (Obj.L7_ARM_STATE :: readObjs) [] :=
  hostFrame_conclude_done h (by decide) (fun _ ho => List.contains_iff_mem.mp ho) rfl fun hx => absurd (by decide) hx

/-- A command that finds nothing to do leaves everything. -/
theorem hostFrame_of_idle (s : State) (q : Request) (parts : List Part) (objs : List Nat) :
    s.hostFrame (settle (conclude q (.done (s.asked q)))) parts objs [] :=
  hostFrame_conclude_done (State.Within.refl {} _) (by simp) (by simp) rfl fun _ _ => rfl

/-- Entries and suspicions after a command that is done are those of its action. -/
theorem defects_conclude_done (q : Request) (u : State) :
    (settle (conclude q (.done u))).entry = u.entry ∧ (settle (conclude q (.done u))).suspect = u.suspect :=
  ⟨State.entry_of_diag (settle_conclude_done_stores q u).1, State.suspect_of_diag (settle_conclude_done_stores q u).1⟩

/-- Settles O34: each command acts on the state that its request has asked. An added entry goes through `enterHost`, a
cleared one through `clearDefect`, all of them through `clearEvery`, a written table through `hostTable`; a reference is
reset in the one burst of its trend entry (`targetBytes_resetVf`). Accesses to PIXEL leave the table and the suspects
(`diag_of_pixel`). -/
theorem defectsAreEditedByTheHost : Obligations.DefectsAreEditedByTheHost := by
  refine ⟨?added, ?full, ?cleared, ?beyond, ?clearedAll, ?replaced, ?reset⟩
  case added =>
    rintro s rq data e hadmits rfl hroom
    have hact := actDefectAdd_done (s := s.asked (wholeWrite rq Obj.DEFECT_ADD data))
      (q := wholeWrite rq Obj.DEFECT_ADD data) (by
        rw [State.confirmed_asked, (s.asked_stores _).1]
        exact hroom)
    refine ⟨_, hostWrite_diagnosis hadmits (by decide) (by decide) hact, State.respond_answered _ _ _ _ _, ?_, ?_,
      fun k hk => ?_, hostFrame_of_defect (enterHost_within _ _)⟩
    · rw [(defects_conclude_done _ _).1, entry_enterHost]
      exact if_pos rfl
    · rw [(defects_conclude_done _ _).2, suspect_enterHost]
      exact if_pos rfl
    · rw [(defects_conclude_done _ _).1, (defects_conclude_done _ _).2, entry_enterHost, suspect_enterHost,
        State.entry_asked, State.suspect_asked]
      exact ⟨if_neg hk, if_neg hk⟩
  case full =>
    intro s rq data hadmits hfull hnone
    exact hostWrite_diagnosis_abort hadmits (by decide) (by decide)
      (actDefectAdd_full (by rwa [(s.asked_stores _).1]) (by rwa [State.confirmed_asked])) (by decide) (by decide)
  case cleared =>
    rintro s rq data e hadmits rfl hlt
    have hact := actDefectClear_done (s := s.asked (wholeWrite rq Obj.DEFECT_CLEAR data))
      (q := wholeWrite rq Obj.DEFECT_CLEAR data) (by rwa [State.emitters_asked])
    refine ⟨_, hostWrite_diagnosis hadmits (by decide) (by decide) hact, State.respond_answered _ _ _ _ _, ?_, ?_,
      fun k hk => ?_, hostFrame_of_defect ((clearDefect_within _ _).trans (defect_of_pixel (clearWeakRun_within _ _)))⟩
    · rw [(defects_conclude_done _ _).1, entry_clearWeakRun, entry_clearDefect]
      exact if_pos rfl
    · rw [(defects_conclude_done _ _).2, suspect_clearWeakRun, suspect_clearDefect]
      exact if_pos rfl
    · rw [(defects_conclude_done _ _).1, (defects_conclude_done _ _).2, entry_clearWeakRun, suspect_clearWeakRun,
        entry_clearDefect, suspect_clearDefect, State.entry_asked, State.suspect_asked]
      exact ⟨if_neg hk, if_neg hk⟩
  case beyond =>
    intro s rq data hadmits hbeyond
    exact ⟨_, hostWrite_diagnosis hadmits (by decide) (by decide)
      (actDefectClear_beyond (by rwa [State.emitters_asked])), State.respond_answered _ _ _ _ _, hostFrame_of_idle _ _ _ _⟩
  case clearedAll =>
    intro s rq data hadmits
    refine ⟨_, hostWrite_diagnosis hadmits (by decide) (by decide) (actDefectClearAll_done _ _),
      State.respond_answered _ _ _ _ _, fun e => ?_, fun e => ?_, hostFrame_of_defect (clearEvery_within _)⟩
    · rw [(defects_conclude_done _ _).1, entry_clearEvery]
    · rw [(defects_conclude_done _ _).2, suspect_clearEvery]
  case replaced =>
    intro s rq data hadmits
    obtain ⟨t, hexec, hanswer, hdiag, hframe⟩ := defectTable_replaces hadmits
    have hentry : ∀ e, t.entry e = Sparse.get (fun _ => 0) (hostTable data (min (data.length / 8) 8192)) e := fun e => by
      rw [State.entry, hdiag]
    refine ⟨t, hexec, hanswer, by rw [hdiag], fun e he => ?_, fun n hlength hn => ?_, fun hshort => ?_, hframe⟩
    · rw [hentry] at he ⊢
      exact hostTable_entry _ _ _ he
    · rw [hentry, show min (data.length / 8) 8192 = n + 1 by omega]
      exact hostTable_last hlength
    · rw [hdiag, show min (data.length / 8) 8192 = 0 by omega]
      rfl
  case reset =>
    rintro s rq data e a hadmits rfl rfl
    by_cases hall : leNat data % 2 ^ 32 = 0xFFFFFFFF
    · exact ⟨_, hostWrite_diagnosis hadmits (by decide) (by decide) (actVfRefReset_all hall),
        State.respond_answered _ _ _ _ _, fun _ _ _ hone => absurd hall hone, fun _ hone => absurd hall hone,
        hostFrame_of_pixel (resetEveryVf_within _)⟩
    by_cases hlt : leNat data % 2 ^ 32 < s.emitters
    · refine ⟨_, hostWrite_diagnosis hadmits (by decide) (by decide)
        (actVfRefReset_one hall (by rwa [State.emitters_asked])), State.respond_answered _ _ _ _ _,
        fun v hentry _ _ hcause hdropped => ?_, fun hbeyond => absurd hlt (Nat.not_lt.mpr hbeyond),
        hostFrame_of_pixel (resetVf_within _ _)⟩
      obtain ⟨-, hmem, hstaging⟩ := settle_conclude_done_stores (wholeWrite rq Obj.VF_REF_RESET data)
        (resetVf (leNat data % 2 ^ 32) (s.asked (wholeWrite rq Obj.VF_REF_RESET data)))
      exact (congrFun (congrFun (State.targetBytes_congr hmem hstaging) _) 16).trans
        (targetBytes_resetVf_asked hentry hcause hdropped)
    · exact ⟨_, hostWrite_diagnosis hadmits (by decide) (by decide)
        (actVfRefReset_beyond hall (by rw [State.emitters_asked]; exact Nat.not_lt.mp hlt)),
        State.respond_answered _ _ _ _ _, fun _ _ h => absurd h hlt, fun _ _ => hostFrame_of_idle _ _ _ _,
        hostFrame_of_idle _ _ _ _⟩

end Sys2Proof.Machine
end

section
/-! The rules of a rail: what a change of one rail leaves of the others and of the control engine, the width of its
counters, and the events that take it to FAULT_OFF (07 R196 to R200). -/

namespace Sys2Proof.Machine

section Rail

open State.Within

variable {s u : State} {n : Nat}

/-! ### One rail -/

theorem State.rail_of_rails (h : u.rails = s.rails) : u.rail = s.rail := by
  funext k
  simp only [State.rail, h]

/-- Replacing rail `n` leaves the other rails and the engine. -/
theorem setRail_onlyRail (s : State) (n : Nat) (r : RailState) : s.onlyRail (s.setRail n r) n :=
  ⟨fun k hk => by rw [State.rail_setRail, if_neg hk], rfl⟩

/-- The rails alone decide it. -/
theorem State.onlyRail_of_rails {v : State} (hu : s.onlyRail u n) (h : v.rails = u.rails) : s.onlyRail v n := by
  obtain ⟨hothers, hengine⟩ := hu
  exact ⟨fun k hk => by rw [State.rail_of_rails h, hothers k hk], by rw [h]; exact hengine⟩

/-- A change of one rail has the frame of the rails. -/
theorem setRail_eventFrame (s : State) (n : Nat) (r : RailState) : s.frame (settle (s.setRail n r)) [.rails] [] [] :=
  ((refl (eventFootprint _ _) s).setRail n r List.mem_cons_self).eventFrame

/-- The same with an object that is written. -/
theorem setRail_setReg_eventFrame (s : State) (n : Nat) (r : RailState) (o v : Nat) :
    s.frame (settle ((s.setRail n r).setReg o v)) [.rails] [o] [] :=
  (((refl (eventFootprint _ _) s).setRail n r List.mem_cons_self).setReg o v (by simp [eventFootprint])).eventFrame

/-- The counters of a rail have 32 bits (07 R205). -/
theorem widthOf_railCounters (hn : n < 48) : widthOf (Obj.RAIL_OVERRUNS n) = 32 ∧
    widthOf (Obj.RAIL_FEEDBACK_LOSSES n) = 32 ∧ widthOf (Obj.RAIL_OC_EVENTS n) = 32 := by
  interval_cases n <;> decide

/-! ### Transfers between modes (R191 to R193) -/

/-- What loop 0 puts out goes to v_set, in force or to come (R193). -/
theorem putVSet_eq (s : State) (n : Nat) (r : RailState) (v : Int) :
    ∃ now next, s.putVSet n r v = { r with vSet := now, nextVSet := next } := by
  unfold State.putVSet
  split
  · exact ⟨_, _, rfl⟩
  · exact ⟨r.vSet, _, rfl⟩

/-- The same of loop 1 and i_v (R193). -/
theorem putIV_eq (s : State) (n : Nat) (r : RailState) (v : Int) :
    ∃ now next, s.putIV n r v = { r with iV := now, nextIV := next } := by
  unfold State.putIV
  split
  · exact ⟨_, _, rfl⟩
  · exact ⟨r.iV, _, rfl⟩

/-- The presets of loops 1 and 2 at a transfer out of manual duty or HOLD (R192). -/
theorem presetFast_eq (s : State) (n : Nat) (r : RailState) : ∃ loop1 loop2 now next, s.presetFast n r =
    { r with loop1 := loop1, loop2 := loop2, fastDue := false, iV := now, nextIV := next } := by
  obtain ⟨now, next, h⟩ := putIV_eq s n { r with
    loop1 := s.presetStage n 1 r.setIndex r.loop1 (r.i - r.iFf), loop2 := s.presetStage n 2 r.setIndex r.loop2 r.duty
    fastDue := false } (r.i - r.iFf)
  exact ⟨_, _, now, next, h⟩

/-- A rail that enters AUTO has loop 0 preset, and its output as v_set (R192). -/
theorem enterAuto_eq (s : State) (n : Nat) (r : RailState) (v : Int) : ∃ loop0 now next, s.enterAuto n r v =
    { r with mode := .auto, loop0 := loop0, headPreset := false, vSet := now, nextVSet := next } := by
  obtain ⟨now, next, h⟩ := putVSet_eq s n
    { r with mode := .auto, loop0 := s.presetStage n 0 r.setIndex r.loop0 v, headPreset := false } v
  exact ⟨_, now, next, h⟩

/-! ### Events of a rail -/

/-- An event of the rails' island that acts leaves `u`. -/
theorem railEvent_next {op : State → State} (hacts : s.acts 3 = true) (hop : op s = u) :
    onIsland 3 op s = .next (settle u) := hop ▸ onIsland_acts s op 3 hacts

theorem faultOff_goesFaultOff (s : State) (n cause : Nat) : s.goesFaultOff (settle (s.faultOff n cause)) n cause := by
  refine ⟨?_, ?_, setRail_onlyRail s n _, setRail_setReg_eventFrame s n _ _ _⟩
  · simp [State.faultOff]
  · simp [State.faultOff]

/-- An event that takes rail `n` to FAULT_OFF where its condition `c` is met, and does nothing where it is not. -/
theorem protection_event {op : State → State} {c : Prop} [Decidable c] {cause : Nat} (hacts : s.acts 3 = true)
    (hop : op s = if c then s.faultOff n cause else s) :
    ∃ t, onIsland 3 op s = .next t ∧ (c → s.goesFaultOff t n cause) ∧ (¬ c → s.frame t [] [] []) := by
  refine ⟨_, railEvent_next hacts hop, fun h => ?_, fun h => ?_⟩
  · rw [if_pos h]
    exact faultOff_goesFaultOff s n cause
  · rw [if_neg h]
    exact s.frame_settle_self _ _

end Rail

end Sys2Proof.Machine
end

section
/-! The protection of a rail: HOLD, FAULT_OFF and SAFE (07 R196 to R199). -/

namespace Sys2Proof.Machine

section Protection

open State.Within

variable {s : State} {n : Nat}

/-! ### A frozen sense ADC (R196) -/

/-- The duty before the bad run, at which a rail holds; a manual duty stays. -/
def RailState.holdDuty (r : RailState) : Int := if r.mode = .manualDuty then r.duty else r.history.getD r.badRun r.duty

/-- The rail in HOLD: its loops rest, and the 64 good samples count from here. -/
def RailState.held (r : RailState) : RailState :=
  { r with mode := .hold, duty := r.holdDuty, fastDue := false, sample := none, nextDuty := none, nextVSet := none
           nextIV := none, goodRun := 0 }

theorem feedbackLoss_holds (hfrozen : (s.rail n).frozenAdc = true) (hon : (s.rail n).on = true)
    (hhold : (s.rail n).mode ≠ .hold) (hramp : (s.rail n).mode ≠ .rampDown) :
    feedbackLoss n s = (s.setRail n (s.rail n).held).bump (Obj.RAIL_FEEDBACK_LOSSES n) := by
  simp [feedbackLoss, hfrozen, hon, hhold, hramp, RailState.held, RailState.holdDuty]

theorem feedbackLoss_ramping (hfrozen : (s.rail n).frozenAdc = true) (hramp : (s.rail n).mode = .rampDown) :
    feedbackLoss n s = s.faultOff n 2 := by
  simp [feedbackLoss, hfrozen, hramp, RailState.on]

theorem feedbackLoss_idle (h : (s.rail n).frozenAdc = false ∨ (s.rail n).on = false ∨ (s.rail n).mode = .hold) :
    feedbackLoss n s = s := if_pos (by rcases h with h | h | h <;> simp [h])

/-! ### The end of HOLD (R191, R192, R196) -/

/-- RAILn_MODE asks for one of the modes of R191. -/
theorem wantedMode_cases (s : State) (n : Nat) :
    s.wantedMode n = .manualV ∨ s.wantedMode n = .manualDuty ∨ s.wantedMode n = .auto := by
  unfold State.wantedMode
  split
  · exact .inl rfl
  · split
    · exact .inr (.inl rfl)
    · exact .inr (.inr rfl)

/-- A transfer to the mode that RAILn_MODE asks for enters that mode. -/
theorem transfer_mode (s : State) (n : Nat) (r : RailState) :
    (s.transfer n r (s.wantedMode n)).mode = s.wantedMode n := by
  have hauto : ∀ r v, (s.enterAuto n r v).mode = .auto := fun r v => by
    obtain ⟨loop0, now, next, h⟩ := enterAuto_eq s n r v
    rw [h]
  rcases wantedMode_cases s n with h | h | h <;> rw [h]
  · rfl
  · rfl
  · unfold State.transfer
    dsimp only
    split
    · exact hauto _ _
    · split
      · exact hauto _ _
      · rfl

theorem holdRecovery_returns (hhold : (s.rail n).mode = .hold) (hgood : (s.rail n).recovered = true) :
    holdRecovery n s = s.setRail n { s.transfer n (s.rail n) (s.wantedMode n) with modeDue := false } := by
  simp [holdRecovery, hhold, hgood]

theorem holdRecovery_idle (h : (s.rail n).mode ≠ .hold ∨ (s.rail n).recovered = false) : holdRecovery n s = s :=
  if_neg (by rcases h with h | h <;> simp [h])

/-! ### Missing headroom (R197) -/

theorem headroomSafe_enters (hauto : (s.rail n).mode = .auto) (hfrozen : (s.rail n).headroom = .frozen)
    (hmissing : (s.rail n).missingSince ≠ none) :
    headroomSafe n s =
      (s.setRail n { s.rail n with headroom := .safe, presentRun := 0 }).setReg (Obj.RAIL_FAULT_CAUSE n) 7 := by
  simp [headroomSafe, hauto, hfrozen, Option.isSome_iff_ne_none.mpr hmissing]

theorem headroomSafe_idle
    (h : (s.rail n).mode ≠ .auto ∨ (s.rail n).headroom ≠ .frozen ∨ (s.rail n).missingSince = none) :
    headroomSafe n s = s := if_neg (by rcases h with h | h | h <;> simp [h])

/-- The source of SAFE reports while a rail is in it (13 R332). -/
theorem reporting_safe (hn : n < 48) (h : (s.rail n).headroom = .safe) : s.reporting 53 = true := by
  have hrail : s.condition 53 = true := List.any_eq_true.mpr ⟨n, List.mem_range.mpr hn, by simp [h]⟩
  simp [State.reporting, hrail, reservedSource]

theorem headroomResume_resumes (hsafe : (s.rail n).headroom = .safe) (hrun : 64 ≤ (s.rail n).presentRun) :
    headroomResume n s = s.setRail n { s.rail n with
      headroom := .running, headPreset := false
      loop0 := s.presetStage n 0 (s.rail n).setIndex (s.rail n).loop0 (s.rail n).vSet } := by
  simp [headroomResume, hsafe, hrun]

theorem headroomResume_idle (h : (s.rail n).headroom ≠ .safe ∨ (s.rail n).presentRun < 64) : headroomResume n s = s :=
  if_neg (by rcases h with h | h <;> simp [h])

end Protection

/-- Settles O37: each event is one change of its rail (`faultOff`, `RailState.held`, a transfer, a preset) where its
condition is met, and leaves the state where it is not. -/
theorem railsAreProtected : Obligations.RailsAreProtected := by
  refine ⟨?feedbackLoss, ?holdRecovery, ?holdTimeout, ?overVoltage, ?overCurrent, ?startTimeout, ?headroomSafe,
    ?headroomResume⟩
  case feedbackLoss =>
    intro s n hacts hn
    refine ⟨_, railEvent_next hacts rfl, fun hfrozen hon hhold hramp => ?_, fun hfrozen hramp => ?_, fun h => ?_⟩
    · rw [feedbackLoss_holds hfrozen hon hhold hramp]
      obtain ⟨-, hwidth, -⟩ := widthOf_railCounters hn
      refine ⟨?_, ?_, ?_, setRail_onlyRail s n _, setRail_setReg_eventFrame s n _ _ _⟩
      · simp [RailState.held]
      · simp [RailState.held, RailState.holdDuty]
      · simp [hwidth]
    · rw [feedbackLoss_ramping hfrozen hramp]
      exact faultOff_goesFaultOff s n 2
    · rw [feedbackLoss_idle h]
      exact s.frame_settle_self _ _
  case holdRecovery =>
    intro s n hacts
    by_cases h : (s.rail n).mode = .hold ∧ (s.rail n).recovered = true
    · obtain ⟨hhold, hgood⟩ := h
      refine ⟨_, railEvent_next hacts (holdRecovery_returns hhold hgood), fun _ _ => ⟨?_, ?_, setRail_onlyRail s n _⟩,
        fun hnot => by simp [hhold, hgood] at hnot, setRail_eventFrame s n _⟩
      · simp [transfer_mode]
      · simp
    · have hidle : (s.rail n).mode ≠ .hold ∨ (s.rail n).recovered = false := by
        simpa [-not_and, not_and_or] using h
      exact ⟨_, railEvent_next hacts (holdRecovery_idle hidle), fun hhold hgood => absurd ⟨hhold, hgood⟩ h,
        fun _ => s.frame_settle_self _ _, s.frame_settle_self _ _⟩
  case holdTimeout =>
    intro s n hacts _
    exact protection_event (op := holdTimeout n) hacts rfl
  case overVoltage =>
    intro s n hacts _
    obtain ⟨t, hexec, hoff, hidle⟩ := protection_event (op := overVoltage n) hacts rfl
    exact ⟨t, hexec, fun hon hrun => hoff (by simp [hon, hrun]), fun h => hidle (by rcases h with h | h <;> simp [h])⟩
  case overCurrent =>
    intro s n hacts _
    obtain ⟨t, hexec, hoff, hidle⟩ := protection_event (op := overCurrent n) hacts rfl
    exact ⟨t, hexec, fun hon hrun => hoff (by simp [hon, hrun]), fun h => hidle (by rcases h with h | h <;> simp [h])⟩
  case startTimeout =>
    intro s n hacts _
    exact protection_event (op := startTimeout n) hacts rfl
  case headroomSafe =>
    intro s n hacts hn
    by_cases h : (s.rail n).mode = .auto ∧ (s.rail n).headroom = .frozen ∧ (s.rail n).missingSince ≠ none
    · obtain ⟨hauto, hfrozen, hmissing⟩ := h
      refine ⟨_, railEvent_next hacts (headroomSafe_enters hauto hfrozen hmissing),
        fun _ _ _ => ⟨?_, ?_, reporting_safe hn (by simp), setRail_onlyRail s n _⟩,
        fun hnot => by simp [hauto, hfrozen, hmissing] at hnot, setRail_setReg_eventFrame s n _ _ _⟩
      · simp
      · simp
    · refine ⟨_, railEvent_next hacts (headroomSafe_idle (by simpa [-not_and, not_and_or] using h)),
        fun hauto hfrozen hmissing => absurd ⟨hauto, hfrozen, hmissing⟩ h, fun _ => s.frame_settle_self _ _,
        s.frame_settle_self _ _⟩
  case headroomResume =>
    intro s n hacts
    by_cases h : (s.rail n).headroom = .safe ∧ 64 ≤ (s.rail n).presentRun
    · obtain ⟨hsafe, hrun⟩ := h
      refine ⟨_, railEvent_next hacts (headroomResume_resumes hsafe hrun),
        fun _ _ => ⟨?_, ?_, ?_, setRail_onlyRail s n _⟩, fun hnot => absurd hnot (by simp [hsafe]; omega),
        setRail_eventFrame s n _⟩
      · simp
      · simp
      · simp
    · exact ⟨_, railEvent_next hacts (headroomResume_idle (by simpa [-not_and, not_and_or] using h)),
        fun hsafe hrun => absurd ⟨hsafe, hrun⟩ h, fun _ => s.frame_settle_self _ _, s.frame_settle_self _ _⟩

end Sys2Proof.Machine
end

section
/-! The lanes of the control engine (07 R194): a change of a rail's jobs moves the lane of the job besides, and nothing
else. -/

namespace Sys2Proof.Machine

section Lanes

open State.Within

variable {s u : State} {n : Nat} {j : Job} {lanes : Sparse LaneState}

/-- The control engine with other lanes. -/
def State.withLanes (s : State) (lanes : Sparse LaneState) : State := { s with rails := { s.rails with lanes := lanes } }

/-- `lanes` are those of `s` but for lane `l`. -/
def State.LanesBut (s : State) (l : Nat) (lanes : Sparse LaneState) : Prop :=
  ∀ k, k ≠ l → (s.withLanes lanes).lane k = s.lane k

theorem setLane_lanes (s : State) (l : Nat) (x : LaneState) :
    ∃ lanes, s.setLane l x = s.withLanes lanes ∧ s.LanesBut l lanes :=
  ⟨_, rfl, fun k hk => by simp only [State.lane, State.withLanes, Sparse.get_set, if_neg hk]⟩

/-- A lane that starts its next job is all that changes. -/
theorem startLane_lanes (l : Nat) (s : State) : ∃ lanes, startLane l s = s.withLanes lanes ∧ s.LanesBut l lanes := by
  unfold startLane
  dsimp only
  split
  · exact ⟨_, rfl, fun _ _ => rfl⟩
  · split
    · exact setLane_lanes ..
    · exact setLane_lanes ..

theorem startLane_busy {l : Nat} (h : s.laneBusy l = true) : startLane l s = s := if_pos h

/-- A change of a job on its lane, for a change that reads no lane and leads to `u`. -/
theorem onLane_eq {change : State → State} (hchange : ∀ lanes, change (s.withLanes lanes) = u.withLanes lanes) :
    ∃ lanes, onLane n j change s = u.withLanes lanes ∧ s.LanesBut (s.laneOf (slotOf n j)) lanes := by
  obtain ⟨first, hfirst, hbut⟩ := startLane_lanes (s.laneOf (slotOf n j)) s
  obtain ⟨second, hsecond, hbut2⟩ := startLane_lanes (s.laneOf (slotOf n j)) (u.withLanes first)
  refine ⟨second, ?_, fun k hk => (hbut2 k hk).trans (hbut k hk)⟩
  simp only [onLane]
  rw [hfirst, hchange, hsecond]
  rfl

/-- The same at a lane that is at work, for any change. -/
theorem onLane_busy {change : State → State} (hbusy : s.laneBusy (s.laneOf (slotOf n j)) = true)
    (hchange : change s = u) (hkeeps : u.rails.lanes = s.rails.lanes) :
    ∃ lanes, onLane n j change s = u.withLanes lanes ∧ s.LanesBut (s.laneOf (slotOf n j)) lanes := by
  obtain ⟨lanes, hlanes, hbut⟩ := startLane_lanes (s.laneOf (slotOf n j)) u
  refine ⟨lanes, ?_, fun k hk => (hbut k hk).trans (by simp only [State.lane, hkeeps])⟩
  simp only [onLane]
  rw [startLane_busy hbusy, hchange, hlanes]

/-- Rail `n` and the lane of its job `j` are all that has changed of the rails. -/
theorem onlyJob_withLanes (hrail : s.onlyRail u n) (hlanes : s.LanesBut (s.laneOf (slotOf n j)) lanes) :
    s.onlyJob (settle (u.withLanes lanes)) n j := by
  obtain ⟨hothers, hrails⟩ := hrail
  refine ⟨hothers, hlanes, ?_⟩
  show { u.rails with lanes := lanes } = { s.rails with rails := u.rails.rails, lanes := lanes }
  rw [hrails]

/-- The lanes are no rail, no object and no fault. -/
theorem settle_withLanes (u : State) (lanes : Sparse LaneState) :
    (settle (u.withLanes lanes)).rail = u.rail ∧ (settle (u.withLanes lanes)).reg = u.reg ∧
      (settle (u.withLanes lanes)).waitingRises = u.waitingRises := ⟨rfl, rfl, rfl⟩

/-- The lanes belong to the rails. -/
theorem withLanes_eventFrame {parts : List Part} {objs : List Nat} (h : s.Within (eventFootprint parts objs) u)
    (hparts : .rails ∈ parts := by decide) : s.frame (settle (u.withLanes lanes)) parts objs [] :=
  (h.rails _ hparts).eventFrame

/-- A change of one rail, with the lane of its job. -/
theorem setRail_onLane (r : RailState) (hlanes : s.LanesBut (s.laneOf (slotOf n j)) lanes) :
    (settle ((s.setRail n r).withLanes lanes)).rail n = r ∧ s.onlyJob (settle ((s.setRail n r).withLanes lanes)) n j ∧
      s.frame (settle ((s.setRail n r).withLanes lanes)) [.rails] [] [] := by
  obtain ⟨hrail, -, -⟩ := settle_withLanes (s.setRail n r) lanes
  exact ⟨by rw [hrail, State.rail_setRail, if_pos rfl], onlyJob_withLanes (setRail_onlyRail s n r) hlanes,
    withLanes_eventFrame ((refl _ s).setRail n r List.mem_cons_self)⟩

end Lanes

end Sys2Proof.Machine
end

section
/-! The fast sample of a rail (07 R178, R179, R189, R191, R193, R196, R198, R199). -/

namespace Sys2Proof.Machine

section Sample

open State.Within

variable {s : State} {n rawV rawI : Nat} {r : RailState}

/-! ### The steps of a sample -/

/-- The rail with its codes, the runs that they count, and what the last period put out now in force (R179, R193, R196). -/
def State.codesTaken (s : State) (n rawV rawI : Nat) : RailState :=
  { (s.rail n).countRuns rawV rawI (0 < s.periodOnTime n (s.rail n)) with
    v := (s.sense n rawV rawI).1, i := (s.sense n rawV rawI).2, rawV := rawV, rawI := rawI
    periods := (s.rail n).periods + 1
    duty := (s.rail n).nextDuty.getD (s.rail n).duty, nextDuty := none
    iV := (s.rail n).nextIV.getD (s.rail n).iV, nextIV := none
    history := ((s.rail n).duty :: (s.rail n).history).take 257 }

/-- A current beyond OC_LIMIT in either direction (R198). -/
abbrev State.tooHeavy (s : State) (n : Nat) (i : Int) : Prop :=
  perBase (s.reg (Obj.RAIL_OC_LIMIT n)) (s.iFs n) < if i < 0 then -i else i

/-- The scheduling, and the limits that the sample passes (R189, R198). -/
def State.limitsJudged (s : State) (n : Nat) (r : RailState) : RailState :=
  { s.schedule n r with
    ovRun := if s.railVolt n (Obj.RAIL_OV_LIMIT n) < r.v then r.ovRun + 1 else 0
    ocRun := if s.tooHeavy n r.i then r.ocRun + 1 else 0
    forceOff := s.tooHeavy n r.i }

/-- The fast pair of a rail whose loops run is released, on the v_set of this sample and the set `index` (R191, R193). -/
def State.pairReleased (s : State) (n index : Nat) (r : RailState) : RailState :=
  { r with vSet := s.setpoint n r, rampSamples := r.rampSamples + 1, fastDue := r.mode.runsFast
           pairSet := s.setpoint n r, pairFf := r.iFf, pairIndex := index, fastDeadline := s.pairDeadline n }

/-- The mode after the sample: a start that is complete or a mode that is due transfers; a manual duty follows its
object (R191, R199). -/
def State.modeTaken (s : State) (n : Nat) (r : RailState) : RailState :=
  if s.startComplete n r then { s.transfer n r (s.wantedMode n) with modeDue := false }
  else if r.modeDue && (r.mode == .auto || r.mode == .manualV || r.mode == .manualDuty) then
    { s.transfer n r (s.wantedMode n) with modeDue := false }
  else if r.mode = .manualDuty then { r with duty := if r.forced then r.duty else s.manualDuty n }
  else r

/-- The rail after a sample, but for its mode. -/
def State.sampledLoops (s : State) (n rawV rawI : Nat) : RailState :=
  s.pairReleased n (s.rail n).setIndex (s.limitsJudged n (s.codesTaken n rawV rawI))

/-- The rail after a sample of a rail that is on. -/
def State.sampled (s : State) (n rawV rawI : Nat) : RailState := s.modeTaken n (s.sampledLoops n rawV rawI)

/-- The state after it: a current beyond its limit is counted and reported (R198). -/
def State.sampledState (s : State) (n rawV rawI : Nat) : State :=
  if s.tooHeavy n (s.sense n rawV rawI).2 then
    ((s.setRail n (s.sampled n rawV rawI)).bump (Obj.RAIL_OC_EVENTS n)).occur 55
  else s.setRail n (s.sampled n rawV rawI)

theorem sampleRail_off (h : (s.rail n).on = false) : sampleRail n rawV rawI s = s.setRail n { s.rail n with
    v := (s.sense n rawV rawI).1, i := (s.sense n rawV rawI).2, rawV := rawV, rawI := rawI } := by
  simp [sampleRail, h]

theorem sampleRail_on (h : (s.rail n).on = true) : sampleRail n rawV rawI s = s.sampledState n rawV rawI :=
  if_neg (by simp [h])

/-! ### A sample reads no lane -/

theorem transfer_withLanes (s : State) (lanes : Sparse LaneState) : (s.withLanes lanes).transfer = s.transfer := by
  have hfast : (s.withLanes lanes).presetFast = s.presetFast := by exact rfl
  have hauto : (s.withLanes lanes).enterAuto = s.enterAuto := by exact rfl
  have hduty : (s.withLanes lanes).manualDuty = s.manualDuty := by exact rfl
  have hvolt : (s.withLanes lanes).railVolt = s.railVolt := by exact rfl
  funext n r m
  simp only [State.transfer, hfast, hauto, hduty, hvolt]

theorem modeTaken_withLanes (s : State) (lanes : Sparse LaneState) : (s.withLanes lanes).modeTaken = s.modeTaken := by
  have hstart : (s.withLanes lanes).startComplete = s.startComplete := by exact rfl
  have hwanted : (s.withLanes lanes).wantedMode = s.wantedMode := by exact rfl
  have hduty : (s.withLanes lanes).manualDuty = s.manualDuty := by exact rfl
  funext n r
  simp only [State.modeTaken, hstart, hwanted, hduty, transfer_withLanes]

theorem sampled_withLanes (s : State) (n rawV rawI : Nat) (lanes : Sparse LaneState) :
    (s.withLanes lanes).sampled n rawV rawI = s.sampled n rawV rawI := by
  have hcodes : (s.withLanes lanes).codesTaken = s.codesTaken := by exact rfl
  have hlimits : (s.withLanes lanes).limitsJudged = s.limitsJudged := by exact rfl
  have hpair : (s.withLanes lanes).pairReleased = s.pairReleased := by exact rfl
  simp only [State.sampled, State.sampledLoops, hcodes, hlimits, hpair, modeTaken_withLanes]
  rfl

theorem sampledState_withLanes (s : State) (n rawV rawI : Nat) (lanes : Sparse LaneState) :
    (s.withLanes lanes).sampledState n rawV rawI = (s.sampledState n rawV rawI).withLanes lanes := by
  unfold State.sampledState
  rw [sampled_withLanes]
  by_cases hheavy : s.tooHeavy n (s.sense n rawV rawI).2
  · rw [if_pos hheavy]
    exact if_pos hheavy
  · rw [if_neg hheavy]
    exact if_neg hheavy

theorem sampleRail_withLanes (s : State) (n rawV rawI : Nat) (lanes : Sparse LaneState) :
    sampleRail n rawV rawI (s.withLanes lanes) = (sampleRail n rawV rawI s).withLanes lanes := by
  cases hon : (s.rail n).on with
  | false =>
    rw [sampleRail_off hon]
    exact sampleRail_off (s := s.withLanes lanes) hon
  | true =>
    rw [sampleRail_on hon, ← sampledState_withLanes]
    exact sampleRail_on (s := s.withLanes lanes) hon

/-! ### What the sample has measured stays as it is -/

/-- A transfer keeps what the rail has measured. -/
@[simp] theorem transfer_measured (s : State) (n : Nat) (r : RailState) (m : RailMode) :
    (s.transfer n r m).v = r.v ∧ (s.transfer n r m).i = r.i ∧ (s.transfer n r m).periods = r.periods ∧
    (s.transfer n r m).iFilt = r.iFilt ∧ (s.transfer n r m).history = r.history ∧
    (s.transfer n r m).ovRun = r.ovRun ∧ (s.transfer n r m).ocRun = r.ocRun ∧
    (s.transfer n r m).forceOff = r.forceOff := by
  obtain ⟨loop1, loop2, iV, nextIV, hfast⟩ := presetFast_eq s n r
  cases m with
  | auto =>
    simp only [State.transfer]
    split
    · obtain ⟨loop0, now, next, hauto⟩ := enterAuto_eq s n (s.presetFast n r) r.v
      rw [hauto, hfast]
      simp
    · split
      · obtain ⟨loop0, now, next, hauto⟩ := enterAuto_eq s n r r.vSet
        rw [hauto]
        simp
      · simp
  | manualV =>
    simp only [State.transfer]
    split
    · rw [hfast]
      simp
    · simp
  | _ => simp [State.transfer]

/-- So does the choice of the mode. -/
@[simp] theorem modeTaken_measured (s : State) (n : Nat) (r : RailState) :
    (s.modeTaken n r).v = r.v ∧ (s.modeTaken n r).i = r.i ∧ (s.modeTaken n r).periods = r.periods ∧
    (s.modeTaken n r).iFilt = r.iFilt ∧ (s.modeTaken n r).history = r.history ∧
    (s.modeTaken n r).ovRun = r.ovRun ∧ (s.modeTaken n r).ocRun = r.ocRun ∧
    (s.modeTaken n r).forceOff = r.forceOff := by
  unfold State.modeTaken
  split
  · simp
  · split
    · simp
    · split <;> simp

/-! ### The mode stays where none is due (R191) -/

theorem modeTaken_loops (hdue : r.modeDue = false) (hstart : r.mode ≠ .starting) (hduty : r.mode ≠ .manualDuty) :
    s.modeTaken n r = r := by
  simp [State.modeTaken, State.startComplete, hdue, hstart, hduty]

theorem modeTaken_manualDuty (hdue : r.modeDue = false) (hforced : r.forced = false) (hduty : r.mode = .manualDuty) :
    s.modeTaken n r = { r with duty := s.manualDuty n } := by
  simp [State.modeTaken, State.startComplete, hdue, hforced, hduty]

/-! ### What a sample leaves -/

theorem tooHeavy_iff (i : Int) : s.tooHeavy n i ↔ perBase (s.reg (Obj.RAIL_OC_LIMIT n)) (s.iFs n) < |i| := by
  have habs : (if i < 0 then -i else i) = |i| := by
    split
    · exact (abs_of_neg ‹_›).symm
    · exact (abs_of_nonneg (not_lt.mp ‹_›)).symm
  rw [State.tooHeavy, habs]

theorem sampledState_heavy (h : s.tooHeavy n (s.sense n rawV rawI).2) : s.sampledState n rawV rawI =
    ((s.setRail n (s.sampled n rawV rawI)).bump (Obj.RAIL_OC_EVENTS n)).occur 55 := if_pos h

theorem sampledState_light (h : ¬ s.tooHeavy n (s.sense n rawV rawI).2) :
    s.sampledState n rawV rawI = s.setRail n (s.sampled n rawV rawI) := if_neg h

theorem sampledState_rail (s : State) (n rawV rawI : Nat) :
    (s.sampledState n rawV rawI).rail n = s.sampled n rawV rawI := by
  unfold State.sampledState
  split <;> simp

theorem sampledState_onlyRail (s : State) (n rawV rawI : Nat) : s.onlyRail (s.sampledState n rawV rawI) n := by
  unfold State.sampledState
  split <;> exact setRail_onlyRail s n _

theorem sampledState_within (s : State) (n rawV rawI : Nat) :
    s.Within (eventFootprint [.rails, .fault] [Obj.RAIL_OC_EVENTS n]) (s.sampledState n rawV rawI) := by
  have hrail := (refl (eventFootprint [.rails, .fault] [Obj.RAIL_OC_EVENTS n]) s).setRail n (s.sampled n rawV rawI)
    List.mem_cons_self
  unfold State.sampledState
  split
  · exact (hrail.bump _ (by simp [eventFootprint])).occur 55 (by simp [eventFootprint])
  · exact hrail

/-- What the sample of a rail that is on has measured (R179, R189, R196, R198). -/
theorem sampled_measured (s : State) (n rawV rawI : Nat) :
    ((s.sampled n rawV rawI).v, (s.sampled n rawV rawI).i) = s.sense n rawV rawI ∧
    (s.sampled n rawV rawI).periods = (s.rail n).periods + 1 ∧
    (s.sampled n rawV rawI).iFilt = filterCurrent (s.rail n).iFilt (s.sense n rawV rawI).2 ∧
    (s.sampled n rawV rawI).history = ((s.rail n).duty :: (s.rail n).history).take 257 ∧
    (s.sampled n rawV rawI).ovRun =
      (if s.railVolt n (Obj.RAIL_OV_LIMIT n) < (s.sense n rawV rawI).1 then (s.rail n).ovRun + 1 else 0) ∧
    (s.sampled n rawV rawI).ocRun = (if s.tooHeavy n (s.sense n rawV rawI).2 then (s.rail n).ocRun + 1 else 0) ∧
    (s.sampled n rawV rawI).forceOff = decide (s.tooHeavy n (s.sense n rawV rawI).2) := by
  simp only [State.sampled, modeTaken_measured]
  exact ⟨rfl, rfl, rfl, rfl, rfl, rfl, rfl⟩

/-- The parts of the rail on which the mode depends. -/
theorem sampledLoops_keeps (s : State) (n rawV rawI : Nat) :
    (s.sampledLoops n rawV rawI).mode = (s.rail n).mode ∧
    (s.sampledLoops n rawV rawI).modeDue = (s.rail n).modeDue ∧
    (s.sampledLoops n rawV rawI).forced = (s.rail n).forced := by
  simp [State.sampledLoops, State.pairReleased, State.limitsJudged, State.schedule, State.codesTaken, RailState.countRuns]

/-- What the loops of a sample are released on (R191, R193). -/
theorem sampledLoops_releases (s : State) (n rawV rawI : Nat) :
    (s.sampledLoops n rawV rawI).fastDue = (s.rail n).mode.runsFast ∧
    (s.sampledLoops n rawV rawI).pairIndex = (s.rail n).setIndex ∧
    (s.sampledLoops n rawV rawI).pairSet = (s.sampledLoops n rawV rawI).vSet ∧
    (s.sampledLoops n rawV rawI).duty = (s.rail n).nextDuty.getD (s.rail n).duty := ⟨rfl, rfl, rfl, rfl⟩

/-- The setpoint of AUTO, with headroom, stands (R191, R197). -/
theorem sampledLoops_auto (hauto : (s.rail n).mode = .auto) (hsafe : (s.rail n).headroom ≠ .safe) :
    (s.sampledLoops n rawV rawI).vSet = (s.rail n).vSet := by
  simp [State.sampledLoops, State.pairReleased, State.setpoint, State.limitsJudged, State.schedule, State.codesTaken,
    RailState.countRuns, hauto, hsafe]

/-- That of a manual mode which is not forced is its object (R191). -/
theorem sampledLoops_manualV (hmanual : (s.rail n).mode = .manualV) (hforced : (s.rail n).forced = false)
    (hdue : (s.rail n).modeDue = false) :
    (s.sampledLoops n rawV rawI).vSet = s.railVolt n (Obj.RAIL_MANUAL_V n) := by
  simp [State.sampledLoops, State.pairReleased, State.setpoint, State.limitsJudged, State.schedule, State.codesTaken,
    RailState.countRuns, hmanual, hforced, hdue]

/-- Where no mode is due, loops that run go on in their mode. -/
theorem sampled_loops (hdue : (s.rail n).modeDue = false) (hstart : (s.rail n).mode ≠ .starting)
    (hduty : (s.rail n).mode ≠ .manualDuty) : s.sampled n rawV rawI = s.sampledLoops n rawV rawI := by
  obtain ⟨hmode, hmodeDue, -⟩ := sampledLoops_keeps s n rawV rawI
  exact modeTaken_loops (hmodeDue.trans hdue) (by rwa [hmode]) (by rwa [hmode])

/-- A manual duty that is not forced follows its object. -/
theorem sampled_manualDuty (hdue : (s.rail n).modeDue = false) (hforced : (s.rail n).forced = false)
    (hduty : (s.rail n).mode = .manualDuty) :
    s.sampled n rawV rawI = { s.sampledLoops n rawV rawI with duty := s.manualDuty n } := by
  obtain ⟨hmode, hmodeDue, hkeep⟩ := sampledLoops_keeps s n rawV rawI
  exact modeTaken_manualDuty (hmodeDue.trans hdue) (hkeep.trans hforced) (hmode.trans hduty)

/-- A fast sample changes its rail and, on the lane of its fast pair, the job at work. -/
theorem railFastSample_next (hacts : s.acts 3 = true) : ∃ lanes,
    exec (.railFastSample n rawV rawI) s = .next (settle ((sampleRail n rawV rawI s).withLanes lanes)) ∧
      s.LanesBut (s.laneOf (slotOf n .fast)) lanes := by
  obtain ⟨lanes, hlane, hbut⟩ := onLane_eq (s := s) (n := n) (j := .fast) (sampleRail_withLanes s n rawV rawI)
  exact ⟨lanes, railEvent_next hacts hlane, hbut⟩

end Sample

end Sys2Proof.Machine
end

section
/-! The jobs of the control engine: their results and what a missed one leaves (07 R183, R184, R193 to R195). -/

namespace Sys2Proof.Machine

section Jobs

open State.Within

variable {s u : State} {n : Nat} {j : Job}

/-! ### Jobs that are released, and the lane at work on one (R194) -/

@[simp] theorem released_fast (s : State) (n : Nat) : s.released (slotOf n .fast) = (s.rail n).fastDue := by
  simp [State.released, slotOf]

@[simp] theorem released_headroom (s : State) (n : Nat) : s.released (slotOf n .headroom) = (s.rail n).sample.isSome := by
  have hodd : (2 * n + 1) % 2 = 1 := by omega
  have hrail : (2 * n + 1) / 2 = n := by omega
  simp [State.released, slotOf, hodd, hrail]

/-- A lane whose job is released is at work on it. -/
theorem laneBusy_of_running (hrun : s.running n j = true) (hreleased : s.released (slotOf n j) = true) :
    s.laneBusy (s.laneOf (slotOf n j)) = true := by
  have hslot : (s.lane (s.laneOf (slotOf n j))).running = some (slotOf n j) := by simpa [State.running] using hrun
  simp [State.laneBusy, hslot, hreleased]

/-- The job at work completes with its result on the rail. -/
theorem engineJobComplete_next {r : RailState} (hacts : s.acts 3 = true) (hrun : s.running n j = true)
    (hreleased : s.released (slotOf n j) = true) (hresult : jobResult n j s = s.setRail n r) :
    ∃ t, exec (.engineJobComplete n j) s = .next t ∧ t.rail n = r ∧ s.onlyJob t n j ∧ s.frame t [.rails] [] [] := by
  obtain ⟨lanes, hlane, hbut⟩ := onLane_busy (change := fun t => if t.running n j then jobResult n j t else t)
    (laneBusy_of_running hrun hreleased) ((if_pos hrun).trans hresult) rfl
  exact ⟨_, railEvent_next hacts hlane, setRail_onLane r hbut⟩

/-- At a lane that is at work on another job, a completion finds nothing to do. -/
theorem jobComplete_otherJob (hbusy : s.laneBusy (s.laneOf (slotOf n j)) = true) (hrun : s.running n j = false) :
    jobComplete n j s = s := by
  simp only [jobComplete, onLane, startLane_busy hbusy, hrun]
  exact startLane_busy hbusy

/-- A missed job changes its rail, the counters, and the job at work on its lane. -/
theorem jobOverrun_next (hacts : s.acts 3 = true)
    (hchange : ∀ lanes, overrunRail n j (s.withLanes lanes) = u.withLanes lanes) :
    ∃ lanes, exec (.jobOverrun n j) s = .next (settle (u.withLanes lanes)) ∧
      s.LanesBut (s.laneOf (slotOf n j)) lanes := by
  obtain ⟨lanes, hlane, hbut⟩ := onLane_eq hchange
  exact ⟨lanes, railEvent_next hacts hlane, hbut⟩

/-! ### The fast pair (R183, R184, R193) -/

/-- The current that loop 1 asks of loop 2, with the feedforward. -/
def State.pairDemand (s : State) (n : Nat) (r : RailState) : Int :=
  clampI (s.railAmp n (Obj.RAIL_I_MIN n)) (s.railAmp n (Obj.RAIL_I_MAX n))
    ((s.runStage n 1 r.pairIndex r.loop1 (s.railAmp n (Obj.RAIL_I_MIN n)) (s.railAmp n (Obj.RAIL_I_MAX n))
      (r.pairSet - r.v)).1 + r.pairFf)

/-- The duty that loop 2 puts out. -/
def State.pairDuty (s : State) (n : Nat) (r : RailState) : Int :=
  (s.runStage n 2 r.pairIndex r.loop2 0 (s.dutyMax n) (s.pairDemand n r - r.i)).1

/-- What the pair leaves of its job, its mode and its duty. -/
theorem fastPair_leaves (s : State) (n : Nat) (r : RailState) :
    (s.fastPair n r).fastDue = false ∧ (s.fastPair n r).overFast = 0 ∧ (s.fastPair n r).mode = r.mode ∧
    (s.fastPair n r).duty = (if bitAt (s.reg (Obj.RAIL_TIMING_MODE n)) 2 then s.pairDuty n r else r.duty) ∧
    (s.fastPair n r).nextDuty =
      (if bitAt (s.reg (Obj.RAIL_TIMING_MODE n)) 2 then none else some (s.pairDuty n r)) := by
  obtain ⟨iV, nextIV, h⟩ := putIV_eq s n r (s.runStage n 1 r.pairIndex r.loop1 (s.railAmp n (Obj.RAIL_I_MIN n))
    (s.railAmp n (Obj.RAIL_I_MAX n)) (r.pairSet - r.v)).1
  simp [State.fastPair, h, State.pairDuty, State.pairDemand]

/-- A duty is limited to DUTY_MAX (R191). -/
theorem pairDuty_bounds (s : State) (n : Nat) (r : RailState) : 0 ≤ s.pairDuty n r ∧ s.pairDuty n r ≤ s.dutyMax n := by
  have hmax : 0 ≤ s.dutyMax n := by simp [State.dutyMax, dutyQ]
  simp only [State.pairDuty, State.runStage, stageStep, clampI]
  omega

theorem jobResult_fast (hdue : (s.rail n).fastDue = true) :
    jobResult n .fast s = s.setRail n (s.fastPair n (s.rail n)) := if_pos hdue

/-! ### The headroom job (R183, R197) -/

theorem headroomJob_keeps (s : State) (n h : Nat) (r : RailState) :
    (s.headroomJob n h r).sample = none ∧ (s.headroomJob n h r).overHead = 0 ∧ (s.headroomJob n h r).duty = r.duty := by
  have hput : ∀ (r : RailState) v, (s.putVSet n r v).sample = r.sample ∧ (s.putVSet n r v).overHead = r.overHead ∧
      (s.putVSet n r v).duty = r.duty := fun r v => by
    obtain ⟨now, next, h⟩ := putVSet_eq s n r v
    rw [h]
    exact ⟨rfl, rfl, rfl⟩
  unfold State.headroomJob
  dsimp only
  split
  · exact ⟨rfl, rfl, rfl⟩
  · split
    · exact ⟨rfl, rfl, rfl⟩
    · exact hput _ _

theorem jobResult_headroom {h : Nat} (hsample : (s.rail n).sample = some h) :
    jobResult n .headroom s = s.setRail n (s.headroomJob n h (s.rail n)) := by
  simp only [jobResult, hsample]

/-! ### Missed jobs (R195) -/

/-- A missed job is counted for its rail and for the engine. -/
def State.overrunCounted (s : State) (n : Nat) : State := (s.bump (Obj.RAIL_OVERRUNS n)).bump Obj.ENGINE_OVERRUNS

/-- The miss is counted and the rail is `r` after it. -/
def State.countsMiss (s : State) (n : Nat) (r : RailState) : State := (s.overrunCounted n).setRail n r

/-- The rail falls back to a manual mode, which RAILn_MODE and the cause tell. -/
def State.fallsBack (s : State) (n : Nat) (r : RailState) (mode cause : Nat) : State :=
  ((s.countsMiss n r).setReg (Obj.RAIL_MODE n) mode).setReg (Obj.RAIL_FAULT_CAUSE n) cause

/-- The rail at its fallback duty. -/
def State.fallenFast (s : State) (n : Nat) : RailState :=
  { s.rail n with
    fastDue := false, overFast := 0, mode := .manualDuty, forced := true, modeDue := false
    duty := min (dutyQ (s.reg (Obj.RAIL_FALLBACK_DUTY n))) (s.dutyMax n)
    nextDuty := none, nextIV := none, nextVSet := none, sample := none }

/-- The rail at its safe voltage. -/
def State.fallenHeadroom (s : State) (n : Nat) : RailState :=
  { s.rail n with
    sample := none, overHead := 0, mode := .manualV, forced := true, modeDue := false, vSet := s.vSafe n
    nextVSet := none }

/-- A missed job reads no lane. -/
theorem countsMiss_withLanes (s : State) (lanes : Sparse LaneState) (n : Nat) (r : RailState) :
    (s.withLanes lanes).countsMiss n r = (s.countsMiss n r).withLanes lanes := by
  have hbump : ∀ (u : State) o, (u.withLanes lanes).bump o = (u.bump o).withLanes lanes := fun _ _ => rfl
  rw [State.countsMiss, State.overrunCounted, hbump, hbump]
  rfl

theorem fallsBack_withLanes (s : State) (lanes : Sparse LaneState) (n : Nat) (r : RailState) (mode cause : Nat) :
    (s.withLanes lanes).fallsBack n r mode cause = (s.fallsBack n r mode cause).withLanes lanes := by
  have hset : ∀ (u : State) o v, (u.withLanes lanes).setReg o v = (u.setReg o v).withLanes lanes := fun _ _ _ => rfl
  rw [State.fallsBack, countsMiss_withLanes, hset, hset, State.fallsBack]

theorem fallen_withLanes (s : State) (lanes : Sparse LaneState) (n : Nat) :
    (s.withLanes lanes).fallenFast n = s.fallenFast n ∧ (s.withLanes lanes).fallenHeadroom n = s.fallenHeadroom n := by
  have hrail : (s.withLanes lanes).rail = s.rail := by exact rfl
  have hreg : (s.withLanes lanes).reg = s.reg := by exact rfl
  have hmax : (s.withLanes lanes).dutyMax = s.dutyMax := by exact rfl
  have hsafe : (s.withLanes lanes).vSafe = s.vSafe := by exact rfl
  simp only [State.fallenFast, State.fallenHeadroom, hrail, hreg, hmax, hsafe, and_self]

theorem overrunRail_unreleased (h : s.released (slotOf n j) = false) : overrunRail n j s = s := by
  cases j with
  | fast =>
    have hnone : (s.rail n).fastDue = false := by simpa using h
    simp [overrunRail, hnone]
  | headroom =>
    have hnone : (s.rail n).sample = none := by simpa using h
    simp [overrunRail, hnone]

theorem overrunRail_fast_counts (hdue : (s.rail n).fastDue = true)
    (h : (s.rail n).overFast < 3 ∨ (s.rail n).mode = .rampDown) : overrunRail n .fast s =
      s.countsMiss n { s.rail n with fastDue := false, overFast := (s.rail n).overFast + 1 } := by
  have hstay : ¬ (decide (4 ≤ (s.rail n).overFast + 1) && (s.rail n).mode != .rampDown) = true := by
    rcases h with h | h
    · simp; omega
    · simp [h]
  simp only [overrunRail, hdue, Bool.not_true, Bool.false_eq_true, if_false, if_neg hstay]
  rfl

theorem overrunRail_fast_falls (hdue : (s.rail n).fastDue = true) (hfour : 3 ≤ (s.rail n).overFast)
    (hramp : (s.rail n).mode ≠ .rampDown) : overrunRail n .fast s = s.fallsBack n (s.fallenFast n) 2 5 := by
  simp [overrunRail, hdue, hfour, hramp]
  rfl

theorem overrunRail_headroom_counts {h : Nat} (hsample : (s.rail n).sample = some h)
    (hstay : (s.rail n).overHead < 3 ∨ (s.rail n).mode ≠ .auto) : overrunRail n .headroom s =
      s.countsMiss n { s.rail n with sample := none, overHead := (s.rail n).overHead + 1 } := by
  have hstay : ¬ (decide (4 ≤ (s.rail n).overHead + 1) && (s.rail n).mode == .auto) = true := by
    rcases hstay with h | h
    · simp; omega
    · simp [h]
  simp only [overrunRail, hsample, Option.isNone_some, Bool.false_eq_true, if_false, if_neg hstay]
  rfl

theorem overrunRail_headroom_falls {h : Nat} (hsample : (s.rail n).sample = some h) (hfour : 3 ≤ (s.rail n).overHead)
    (hauto : (s.rail n).mode = .auto) : overrunRail n .headroom s = s.fallsBack n (s.fallenHeadroom n) 1 6 := by
  simp [overrunRail, hsample, hfour, hauto]
  rfl

/-! ### What a missed job leaves -/

/-- The objects of a missed job: its counters, and the mode and cause of a fallback. -/
abbrev overrunObjs (n : Nat) : List Nat :=
  [Obj.RAIL_OVERRUNS n, Obj.ENGINE_OVERRUNS, Obj.RAIL_MODE n, Obj.RAIL_FAULT_CAUSE n]

/-- The engine's count is no object of a rail. -/
theorem engineOverruns_ne (n : Nat) : Obj.ENGINE_OVERRUNS ≠ Obj.RAIL_OVERRUNS n ∧
    Obj.ENGINE_OVERRUNS ≠ Obj.RAIL_MODE n ∧ Obj.ENGINE_OVERRUNS ≠ Obj.RAIL_FAULT_CAUSE n := by
  simp only [Obj.ENGINE_OVERRUNS, Obj.RAIL_OVERRUNS, Obj.RAIL_MODE, Obj.RAIL_FAULT_CAUSE]
  omega

theorem countsMiss_within (s : State) (n : Nat) (r : RailState) :
    s.Within (eventFootprint [.rails] [Obj.RAIL_OVERRUNS n, Obj.ENGINE_OVERRUNS]) (s.countsMiss n r) :=
  (((refl _ s).bump _ (by simp [eventFootprint])).bump _ (by simp [eventFootprint])).setRail n r List.mem_cons_self

theorem fallsBack_within (s : State) (n : Nat) (r : RailState) (mode cause : Nat) :
    s.Within (eventFootprint [.rails] (overrunObjs n)) (s.fallsBack n r mode cause) :=
  (((countsMiss_within s n r).widen (fun _ => id) (by simp)).setReg _ mode (by simp [eventFootprint])).setReg _ cause
    (by simp [eventFootprint])

theorem countsMiss_onlyRail (s : State) (n : Nat) (r : RailState) : s.onlyRail (s.countsMiss n r) n :=
  State.onlyRail_of_rails (setRail_onlyRail s n r) (by simp [State.countsMiss, State.overrunCounted, State.setRail])

theorem fallsBack_onlyRail (s : State) (n : Nat) (r : RailState) (mode cause : Nat) :
    s.onlyRail (s.fallsBack n r mode cause) n :=
  State.onlyRail_of_rails (countsMiss_onlyRail s n r) (by simp [State.fallsBack])

section Counted

variable (hn : n < 48)

include hn

theorem countsMiss_reg (s : State) (r : RailState) :
    (s.countsMiss n r).reg (Obj.RAIL_OVERRUNS n) = (s.reg (Obj.RAIL_OVERRUNS n) + 1) % 2 ^ 32 ∧
    (s.countsMiss n r).reg Obj.ENGINE_OVERRUNS = (s.reg Obj.ENGINE_OVERRUNS + 1) % 2 ^ 32 := by
  obtain ⟨hwidth, -, -⟩ := widthOf_railCounters hn
  obtain ⟨hne, -, -⟩ := engineOverruns_ne n
  have hengine : widthOf Obj.ENGINE_OVERRUNS = 32 := by decide
  simp [State.countsMiss, State.overrunCounted, hwidth, hengine, hne, hne.symm]

theorem fallsBack_reg (s : State) (r : RailState) (mode cause : Nat) :
    (s.fallsBack n r mode cause).reg (Obj.RAIL_OVERRUNS n) = (s.reg (Obj.RAIL_OVERRUNS n) + 1) % 2 ^ 32 ∧
    (s.fallsBack n r mode cause).reg Obj.ENGINE_OVERRUNS = (s.reg Obj.ENGINE_OVERRUNS + 1) % 2 ^ 32 ∧
    (s.fallsBack n r mode cause).reg (Obj.RAIL_MODE n) = mode ∧
    (s.fallsBack n r mode cause).reg (Obj.RAIL_FAULT_CAUSE n) = cause := by
  obtain ⟨hrail, hengine⟩ := countsMiss_reg hn s r
  obtain ⟨-, hmode, hcause⟩ := engineOverruns_ne n
  simp [State.fallsBack, hrail, hengine, hmode, hcause]

/-- A missed job that is only counted. -/
theorem jobOverrun_counts {r : RailState} (hacts : s.acts 3 = true)
    (hchange : ∀ lanes, overrunRail n j (s.withLanes lanes) = (s.countsMiss n r).withLanes lanes) :
    ∃ t, exec (.jobOverrun n j) s = .next t ∧ t.rail n = r ∧
      t.reg (Obj.RAIL_OVERRUNS n) = (s.reg (Obj.RAIL_OVERRUNS n) + 1) % 2 ^ 32 ∧
      t.reg Obj.ENGINE_OVERRUNS = (s.reg Obj.ENGINE_OVERRUNS + 1) % 2 ^ 32 ∧
      s.frame t [.rails] [Obj.RAIL_OVERRUNS n, Obj.ENGINE_OVERRUNS] [] ∧ s.onlyJob t n j ∧
      s.frame t [.rails] (overrunObjs n) [] := by
  obtain ⟨lanes, hexec, hbut⟩ := jobOverrun_next hacts hchange
  obtain ⟨hrail, hreg, -⟩ := settle_withLanes (s.countsMiss n r) lanes
  obtain ⟨hcount, hengine⟩ := countsMiss_reg hn s r
  have hwithin := countsMiss_within s n r
  refine ⟨_, hexec, ?_, by rw [hreg, hcount], by rw [hreg, hengine], withLanes_eventFrame hwithin,
    onlyJob_withLanes (countsMiss_onlyRail s n r) hbut,
    withLanes_eventFrame (hwithin.widen (fun _ => id) (by simp)) List.mem_cons_self⟩
  rw [hrail, State.countsMiss, State.rail_setRail, if_pos rfl]

/-- A missed job after which its rail falls back. -/
theorem jobOverrun_fallsBack {r : RailState} {mode cause : Nat} (hacts : s.acts 3 = true)
    (hchange : ∀ lanes, overrunRail n j (s.withLanes lanes) = (s.fallsBack n r mode cause).withLanes lanes) :
    ∃ t, exec (.jobOverrun n j) s = .next t ∧ t.rail n = r ∧
      t.reg (Obj.RAIL_OVERRUNS n) = (s.reg (Obj.RAIL_OVERRUNS n) + 1) % 2 ^ 32 ∧
      t.reg Obj.ENGINE_OVERRUNS = (s.reg Obj.ENGINE_OVERRUNS + 1) % 2 ^ 32 ∧
      t.reg (Obj.RAIL_MODE n) = mode ∧ t.reg (Obj.RAIL_FAULT_CAUSE n) = cause ∧ s.onlyJob t n j ∧
      s.frame t [.rails] (overrunObjs n) [] := by
  obtain ⟨lanes, hexec, hbut⟩ := jobOverrun_next hacts hchange
  obtain ⟨hrail, hreg, -⟩ := settle_withLanes (s.fallsBack n r mode cause) lanes
  obtain ⟨hcount, hengine, hmode, hcause⟩ := fallsBack_reg hn s r mode cause
  refine ⟨_, hexec, ?_, by rw [hreg, hcount], by rw [hreg, hengine], by rw [hreg, hmode], by rw [hreg, hcause],
    onlyJob_withLanes (fallsBack_onlyRail s n r mode cause) hbut, withLanes_eventFrame (fallsBack_within s n r _ _)⟩
  rw [hrail]
  simp [State.fallsBack, State.countsMiss]

end Counted

end Jobs

/-! ### The obligation -/

/-- Settles O36: a fast sample is one change of its rail (`State.sampled`), with a count where the current is too heavy; a
job that a lane is at work on completes with its result (`State.fastPair`, `State.headroomJob`); a missed one is counted,
and the fourth in a row falls back (`State.fallsBack`). The lanes move besides and touch nothing else
(`startLane_lanes`). -/
theorem railsAreSampledAndRegulated : Obligations.RailsAreSampledAndRegulated := by
  refine ⟨?off, ?on, ?modes, ?fastPair, ?headroomJob, ?otherJob, ?fastOverrun, ?headroomOverrun, ?unreleased⟩
  case off =>
    intro s n rawV rawI hacts hoff
    obtain ⟨lanes, hexec, hbut⟩ := railFastSample_next (n := n) (rawV := rawV) (rawI := rawI) hacts
    rw [sampleRail_off hoff] at hexec
    exact ⟨_, hexec, setRail_onLane _ hbut⟩
  case on =>
    intro s n rawV rawI hacts hn hon
    obtain ⟨lanes, hexec, hbut⟩ := railFastSample_next (n := n) (rawV := rawV) (rawI := rawI) hacts
    rw [sampleRail_on hon] at hexec
    obtain ⟨hsense, hperiods, hfilt, hhistory, hov, hoc, hforce⟩ := sampled_measured s n rawV rawI
    obtain ⟨hrail, hreg, hwaiting⟩ := settle_withLanes (s.sampledState n rawV rawI) lanes
    refine ⟨_, hexec, ?_⟩
    rw [hrail, sampledState_rail]
    refine ⟨hsense, hperiods, hfilt, hhistory, hov, fun hheavy => ?_, fun hlight => ?_,
      onlyJob_withLanes (sampledState_onlyRail s n rawV rawI) hbut,
      withLanes_eventFrame (sampledState_within s n rawV rawI)⟩
    · have hheavy := (tooHeavy_iff _).mpr hheavy
      obtain ⟨-, -, hwidth⟩ := widthOf_railCounters hn
      refine ⟨by simp [hforce, hheavy], by simp [hoc, hheavy], ?_, ?_⟩
      · rw [hreg, sampledState_heavy hheavy]
        simp [hwidth]
      · refine Nat.lt_of_lt_of_eq ?_ (congrFun hwaiting 55).symm
        rw [sampledState_heavy hheavy]
        simp
    · have hlight := mt (tooHeavy_iff _).mp (not_lt.mpr hlight)
      refine ⟨by simp [hforce, hlight], by simp [hoc, hlight], ?_⟩
      rw [sampledState_light hlight]
      exact (setRail_onLane _ hbut).2.2
  case modes =>
    intro s n rawV rawI hacts hdue
    obtain ⟨lanes, hexec, -⟩ := railFastSample_next (n := n) (rawV := rawV) (rawI := rawI) hacts
    obtain ⟨hrail, -, -⟩ := settle_withLanes (sampleRail n rawV rawI s) lanes
    obtain ⟨hmode, -, -⟩ := sampledLoops_keeps s n rawV rawI
    obtain ⟨hfast, hindex, hset, hduty⟩ := sampledLoops_releases s n rawV rawI
    have hsampled : (s.rail n).on = true → (sampleRail n rawV rawI s).rail n = s.sampled n rawV rawI := fun hon => by
      rw [sampleRail_on hon, sampledState_rail]
    refine ⟨_, hexec, ?_⟩
    rw [hrail]
    refine ⟨fun hauto hsafe => ?_, fun hmanual hforced => ?_, fun hmanual hforced => ?_⟩
    · rw [hsampled (by simp [RailState.on, hauto]), sampled_loops hdue (by simp [hauto]) (by simp [hauto])]
      have hvolt := sampledLoops_auto (rawV := rawV) (rawI := rawI) hauto hsafe
      exact ⟨hmode.trans hauto, hvolt, hset.trans hvolt, hindex, hduty, by rw [hfast, hauto]; rfl⟩
    · rw [hsampled (by simp [RailState.on, hmanual]), sampled_loops hdue (by simp [hmanual]) (by simp [hmanual])]
      exact ⟨hmode.trans hmanual, sampledLoops_manualV hmanual hforced hdue, by rw [hfast, hmanual]; rfl⟩
    · rw [hsampled (by simp [RailState.on, hmanual]), sampled_manualDuty hdue hforced hmanual]
      exact ⟨hmode.trans hmanual, rfl, by rw [hfast, hmanual]; rfl⟩
  case fastPair =>
    intro s n hacts hdue hrun
    obtain ⟨t, hexec, hrail, honly, hframe⟩ := engineJobComplete_next hacts hrun (by simpa using hdue)
      (jobResult_fast hdue)
    obtain ⟨hdone, hover, hmode, hduty, hnext⟩ := fastPair_leaves s n (s.rail n)
    obtain ⟨hlow, hhigh⟩ := pairDuty_bounds s n (s.rail n)
    refine ⟨t, hexec, hrail, ?_⟩
    rw [hrail]
    refine ⟨hdone, hover, hmode, fun hnow => ?_, fun hlater => ?_, honly, hframe⟩
    · rw [hduty, hnext, if_pos hnow, if_pos hnow]
      exact ⟨hlow, hhigh, rfl⟩
    · rw [hduty, hnext, if_neg (by simp [hlater]), if_neg (by simp [hlater])]
      exact ⟨rfl, _, rfl, hlow, hhigh⟩
  case headroomJob =>
    intro s n h hacts hsample hrun
    obtain ⟨t, hexec, hrail, honly, hframe⟩ := engineJobComplete_next hacts hrun (by simp [hsample])
      (jobResult_headroom hsample)
    obtain ⟨hdone, hover, hduty⟩ := headroomJob_keeps s n h (s.rail n)
    refine ⟨t, hexec, hrail, ?_⟩
    rw [hrail]
    exact ⟨hdone, hover, hduty, honly, hframe⟩
  case otherJob =>
    intro s n j hacts hbusy hrun
    exact ⟨_, railEvent_next hacts (jobComplete_otherJob hbusy hrun), s.frame_settle_self _ _⟩
  case fastOverrun =>
    intro s n hacts hn hdue
    by_cases hstay : (s.rail n).overFast < 3 ∨ (s.rail n).mode = .rampDown
    · obtain ⟨t, hexec, hrail, hcount, hengine, hframe, honly, hwide⟩ := jobOverrun_counts hn hacts
        (r := { s.rail n with fastDue := false, overFast := (s.rail n).overFast + 1 })
        fun lanes => (overrunRail_fast_counts (s := s.withLanes lanes) hdue hstay).trans
          (countsMiss_withLanes s lanes n _)
      exact ⟨t, hexec, by rw [hrail], hcount, hengine, fun _ => ⟨hrail, hframe⟩,
        fun hfour hramp => absurd hstay (by simp [hramp]; omega), honly, hwide⟩
    · obtain ⟨hfour, hramp⟩ := not_or.mp hstay
      obtain ⟨t, hexec, hrail, hcount, hengine, hmode, hcause, honly, hwide⟩ := jobOverrun_fallsBack hn hacts
        (r := s.fallenFast n) fun lanes => by
          rw [overrunRail_fast_falls (s := s.withLanes lanes) hdue (not_lt.mp hfour) hramp,
            (fallen_withLanes s lanes n).1, fallsBack_withLanes]
      exact ⟨t, hexec, by rw [hrail]; rfl, hcount, hengine, fun h => absurd h hstay,
        fun _ _ => ⟨by rw [hrail]; rfl, by rw [hrail]; rfl, by rw [hrail]; rfl, hmode, hcause⟩, honly, hwide⟩
  case headroomOverrun =>
    intro s n h hacts hn hsample
    by_cases hstay : (s.rail n).overHead < 3 ∨ (s.rail n).mode ≠ .auto
    · obtain ⟨t, hexec, hrail, hcount, hengine, hframe, honly, hwide⟩ := jobOverrun_counts hn hacts
        (r := { s.rail n with sample := none, overHead := (s.rail n).overHead + 1 })
        fun lanes => (overrunRail_headroom_counts (s := s.withLanes lanes) hsample hstay).trans
          (countsMiss_withLanes s lanes n _)
      exact ⟨t, hexec, by rw [hrail], hcount, hengine, fun _ => ⟨hrail, hframe⟩,
        fun hfour hauto => absurd hstay (by simp [hauto]; omega), honly, hwide⟩
    · obtain ⟨hfour, hauto⟩ := not_or.mp hstay
      obtain ⟨t, hexec, hrail, hcount, hengine, hmode, hcause, honly, hwide⟩ := jobOverrun_fallsBack hn hacts
        (r := s.fallenHeadroom n) fun lanes => by
          rw [overrunRail_headroom_falls (s := s.withLanes lanes) hsample (not_lt.mp hfour) (not_not.mp hauto),
            (fallen_withLanes s lanes n).2, fallsBack_withLanes]
      exact ⟨t, hexec, by rw [hrail]; rfl, hcount, hengine, fun h => absurd h hstay,
        fun _ _ => ⟨by rw [hrail]; rfl, by rw [hrail]; rfl, by rw [hrail]; rfl, hmode, hcause⟩, honly, hwide⟩
  case unreleased =>
    intro s n j hacts hrel
    obtain ⟨lanes, hexec, hbut⟩ := jobOverrun_next hacts fun lanes =>
      overrunRail_unreleased (s := s.withLanes lanes) hrel
    exact ⟨_, hexec, rfl, onlyJob_withLanes ⟨fun _ _ => rfl, rfl⟩ hbut,
      withLanes_eventFrame (State.Within.refl _ s)⟩

end Sys2Proof.Machine
end

section
/-! The host commands of the rails: what an admitted write of one of their objects finds and leaves (07 R205, 15 R364). -/

namespace Sys2Proof.Machine

section Host

open State.Within

variable {s u : State} {q : Request}

/-! ### What a host command finds -/

/-- Neither the count of a request nor its access touches the rails or the power. -/
@[simp] theorem State.asked_rails (s : State) (q : Request) :
    (s.asked q).rails = s.rails ∧ (s.asked q).power = s.power := by
  unfold State.asked State.accessed
  split <;> simp [State.crossed]

@[simp] theorem State.rail_asked (s : State) (q : Request) : (s.asked q).rail = s.rail :=
  State.rail_of_rails (by simp)

@[simp] theorem State.tabByte_asked (s : State) (q : Request) : (s.asked q).tabByte = s.tabByte := by
  funext o j
  simp [State.tabByte]

/-- The objects of the rails have no reserved bits, but for two tables of theirs (00 R10). -/
theorem keptBits_rails {obj : Nat} (hlow : 0x400000 ≤ obj) (hhigh : obj < 0x430000) (hcoef : obj ≠ Obj.COEF_TABLE)
    (hslot : obj ≠ Obj.SLOT_TABLE) (o : Nat) : keptBits obj o = 0xFF#8 := by
  unfold keptBits
  simp only [Obj.X_MAP, Obj.GREY_HIGH_RED, Obj.GREY_LOW_BLUE, Obj.REGION_ENTRY, Obj.REGION_TABLE, Obj.AMBIENT_TABLE,
    Obj.TOD_TABLE, Bool.and_eq_true, Bool.or_eq_true, decide_eq_true_eq]
  rw [if_neg (by omega), if_neg (by omega), if_neg (by omega), if_neg (by omega), if_neg hcoef, if_neg hslot,
    if_neg (by omega), if_neg (by omega)]

/-- Data without reserved bits reach their action as they came. -/
theorem Request.held_of_keptBits (q : Request) (r : ObjRow) (h : ∀ o, keptBits q.obj o = 0xFF#8) : q.held r = q := by
  have hall : ∀ b : Byte, b &&& 0xFF#8 = b := fun b => BitVec.and_allOnes
  have hdata : heldBytes q.obj q.data = q.data := by
    simp only [heldBytes, h, hall]
    exact List.zipIdx_map_fst 0 q.data
  unfold Request.held
  split
  · rw [hdata]
  all_goals rfl

/-! ### A host command from its action -/

/-- Any bytes of the tables in force may change inside a footprint that names them. -/
theorem State.Within.setTabs {F : Footprint} (h : s.Within F u) (m : Sparse Byte) (ht : F.tabs = true) :
    s.Within F { u with tabs := m } where
  pending := h.pending
  part p hp := State.sameRaw_trans (h.part p hp) (u.sameRaw_stores u.regs m u.device.crossings (by simp_all))
  obj := h.obj
  tab hf := by rw [ht] at hf; cases hf
  cross := h.cross
  row := h.row

variable {act : Action} {rq : Req} {obj : Nat} {data : Bytes} (hadmits : s.admitsWrite rq obj data = true)
  (hkept : ∀ o, keptBits obj o = 0xFF#8)

include hadmits hkept

/-- An admitted write acts on the state that its request has asked, and its answer leaves. -/
theorem hostWrite_asked {a : Answer} (hact : act (wholeWrite rq obj data) (s.asked (wholeWrite rq obj data)) = a) :
    hostWrite act rq obj data s = .next (settle (conclude (wholeWrite rq obj data) a)) := by
  obtain ⟨r, -, hexec⟩ := hostWrite_admitted s act rq obj data hadmits
  rw [hexec, Request.held_of_keptBits _ _ hkept, ← hact]
  rfl

/-- One that its action aborts is turned away. -/
theorem hostWrite_asked_abort {code : Nat}
    (hact : act (wholeWrite rq obj data) (s.asked (wholeWrite rq obj data)) =
      .abort (s.asked (wholeWrite rq obj data)) code) (hcode : code ≠ 0) (hawake : code ≠ abortAsleep) :
    ∃ t, hostWrite act rq obj data s = .next t ∧ s.turnsAway t rq code := by
  have hanswer := respond_abort_within (s.asked (wholeWrite rq obj data)) (wholeWrite rq obj data) hcode
  rw [abortObjects, if_neg hawake] at hanswer
  refine ⟨_, hostWrite_asked hadmits hkept hact, State.respond_answered _ _ _ _ _, ?_⟩
  have hwithin := (accessed_within (F := { abortFootprint [Obj.COP_ABORTS, Obj.COP_LAST_ABORT] with crossings := (· == 9) })
    (s.taken (wholeWrite rq obj data)) obj rfl).trans (hanswer.mono (fun _ => id) (fun _ => id) id nofun id)
  exact hostFrame_of_within hwithin (by simp [abortFootprint]) (fun o ho => by simpa [abortFootprint] using ho) rfl
    (fun k hk => by simpa using hk) (by decide)

/-- An admitted write that is done is answered with success; it leaves what its action leaves, and has its frame: of the
tables those of `tables` alone may have changed. -/
theorem hostWrite_rails_tables {F : Footprint} {parts : List Part} {objs tables : List Nat}
    (hact : act (wholeWrite rq obj data) (s.asked (wholeWrite rq obj data)) = .done u)
    (hu : (s.asked (wholeWrite rq obj data)).Within F u) (hparts : ∀ p ∈ F.parts, p ∈ parts)
    (hobjs : ∀ o, F.objs o = true → o ∈ objs) (hcross : ∀ k, F.crossings k = false)
    (htabs : .tabs ∉ parts → ∀ o j, o ∉ tables → j < 131072 → u.tabByte o j = s.tabByte o j) :
    ∃ t, hostWrite act rq obj data s = .next t ∧ t.answered rq 0 = true ∧ t.rails = u.rails ∧ t.reg = u.reg ∧
      t.tabs = u.tabs ∧ s.hostFrame t parts objs tables := by
  have hwithin : (s.taken (wholeWrite rq obj data)).Within { F with crossings := (· == 9) } u :=
    (accessed_within _ obj rfl).trans (hu.mono (fun _ => id) (fun _ => id) id (fun k hk => by simp [hcross] at hk) id)
  refine ⟨_, hostWrite_asked hadmits hkept hact, State.respond_answered _ _ _ _ _, by simp [conclude], by simp [conclude],
    by simp [conclude], hostFrame_respond _ _ _ (by decide)
      ⟨hwithin.pending, fun p hp => ?_, fun o i _ ho hi => ?_, fun o j ht ho hj => ?_⟩
      fun _ k hk => ?_⟩
  · simp only [List.mem_cons, not_or] at hp
    refine hwithin.part p ?_
    simp only [List.mem_cons, not_or]
    exact ⟨hp.1, hp.2.1, hp.2.2.1, fun hm => hp.2.2.2 (hparts p hm)⟩
  · exact hwithin.obj o i (Bool.eq_false_iff.mpr fun hm => ho (hobjs o hm)) hi
  · rw [htabs (fun hm => ht (List.mem_cons_of_mem _ hm)) o j ho hj]
    simp
  · rw [hwithin.cross k (by simpa using hk)]
    exact congrArg (fun d : DeviceState => Sparse.get (fun _ => ({} : Crossing)) d.crossings k) (by simp)

/-- The same of a write that leaves the tables. -/
theorem hostWrite_rails {parts : List Part} {objs : List Nat}
    (hact : act (wholeWrite rq obj data) (s.asked (wholeWrite rq obj data)) = .done u)
    (hu : (s.asked (wholeWrite rq obj data)).Within (eventFootprint parts objs) u) :
    ∃ t, hostWrite act rq obj data s = .next t ∧ t.answered rq 0 = true ∧ t.rails = u.rails ∧ t.reg = u.reg ∧
      s.hostFrame t parts objs [] := by
  obtain ⟨t, hexec, hanswer, hrails, hreg, -, hframe⟩ := hostWrite_rails_tables hadmits hkept hact hu (fun _ => id)
    (fun o ho => List.contains_iff_mem.mp ho) (fun _ => rfl)
    (fun _ o j _ hj => (hu.tab rfl o j hj).trans (by simp))
  exact ⟨t, hexec, hanswer, hrails, hreg, hframe⟩

end Host

end Sys2Proof.Machine
end

section
/-! Rails start, stop and are configured (07 R187, R191, R199 to R201). -/

namespace Sys2Proof.Machine

section Start

open State.Within

variable {s t u : State} {q : Request} {n k mask : Nat}

/-! ### Masks -/

theorem bitAt_eq_testBit (v i : Nat) : bitAt v i = v.testBit i := by
  rw [bitAt, Nat.testBit_eq_decide_div_mod_eq]
  rfl

theorem maskNat_succ (n : Nat) (f : Nat → Bool) : maskNat (n + 1) f = 2 ^ n * b2n (f n) + maskNat n f := by
  simp only [maskNat, List.range_succ, List.foldl_append, List.foldl_cons, List.foldl_nil]
  rw [Nat.add_comm, Nat.mul_comm]

theorem maskNat_lt (n : Nat) (f : Nat → Bool) : maskNat n f < 2 ^ n := by
  induction n with
  | zero => exact Nat.one_pos
  | succ n ih =>
    rw [maskNat_succ, Nat.pow_succ]
    cases f n <;> simp [b2n] <;> omega

/-- A mask holds the bits that it is formed from. -/
theorem bitAt_maskNat (n : Nat) (f : Nat → Bool) {i : Nat} (hi : i < n) : bitAt (maskNat n f) i = f i := by
  rw [bitAt_eq_testBit]
  induction n with
  | zero => omega
  | succ n ih =>
    rw [maskNat_succ, Nat.testBit_two_pow_mul_add _ (maskNat_lt n f)]
    by_cases hlt : i < n
    · rw [if_pos hlt, ih hlt]
    · obtain rfl : i = n := by omega
      rw [if_neg hlt, Nat.sub_self]
      cases f i <;> rfl

/-- The bits of the 48 rails in an argument. -/
theorem bitAt_railMask (v : Nat) {i : Nat} (hi : i < 48) : bitAt (v % 2 ^ 48) i = bitAt v i := by
  rw [bitAt_eq_testBit, bitAt_eq_testBit, Nat.testBit_mod_two_pow, decide_eq_true hi, Bool.true_and]

/-! ### Steps over the rails -/

/-- Steps that leave what `view` tells of every index but their own: below `n` each index is as its own step leaves it,
from where the others have left it as it was. -/
theorem foldN_own {α : Type} {step : State → Nat → State} (view : State → Nat → α)
    (h : ∀ t i k, k ≠ i → view (step t i) k = view t k) (n : Nat) (s : State) :
    (∀ k, n ≤ k → view (foldN n step s) k = view s k) ∧
    ∀ k, k < n → view (foldN n step s) k = view (step (foldN k step s) k) k := by
  induction n with
  | zero => exact ⟨fun _ _ => rfl, fun k hk => absurd hk (by omega)⟩
  | succ n ih =>
    obtain ⟨habove, hbelow⟩ := ih
    refine ⟨fun k hk => ?_, fun k hk => ?_⟩
    · rw [foldN_succ, h _ _ _ (by omega), habove k (by omega)]
    · by_cases hkn : k = n
      · rw [hkn, foldN_succ]
      · rw [foldN_succ, h _ _ _ hkn, hbelow k (by omega)]

/-! ### RAIL_START (R199, R204) -/

/-- The masked rails that may not start. -/
def State.skipped (s : State) (mask : Nat) : Nat := maskNat 48 fun n => bitAt mask n && !s.mayStart n

/-- A rail starts where it is chosen. -/
def startChosen (chosen : Nat → Bool) (t : State) (n : Nat) : State := if chosen n then startRail n t else t

theorem startRails_eq (mask : Nat) (s : State) : startRails mask s =
    foldN 48 (startChosen fun n => bitAt mask n && s.mayStart n) (s.setReg Obj.START_SKIPPED (s.skipped mask)) := rfl

theorem startRail_reg (n : Nat) (s : State) (o : Nat) : (startRail n s).reg o =
    if o = Obj.RAIL_V_SAFE_IN_FORCE n then s.reg (Obj.RAIL_V_SAFE n) else s.reg o := by
  simp [startRail]

/-- A rail that starts, at the voltage that it has (R199 step 1). -/
theorem startRail_starts (n : Nat) (s : State) :
    ((startRail n s).rail n).mode = .starting ∧ ((startRail n s).rail n).vSet = (s.rail n).v ∧
    ((startRail n s).rail n).duty = 0 ∧ ((startRail n s).rail n).setIndex = 0 ∧
    ((startRail n s).rail n).headPreset = true := by
  simp [startRail]

/-- What the start of a rail depends on and changes, of those that the obligation speaks of. -/
def State.startView (s : State) (n : Nat) : RailState × Nat × Nat :=
  (s.rail n, s.reg (Obj.RAIL_V_SAFE_IN_FORCE n), s.reg (Obj.RAIL_V_SAFE n))

theorem startChosen_other (chosen : Nat → Bool) (t : State) (i k : Nat) (h : k ≠ i) :
    (startChosen chosen t i).startView k = t.startView k := by
  have hrail : (startRail i t).rail k = t.rail k := by simp [startRail, h]
  have hforce : Obj.RAIL_V_SAFE_IN_FORCE k ≠ Obj.RAIL_V_SAFE_IN_FORCE i := by simpa using h
  have hsafe : Obj.RAIL_V_SAFE k ≠ Obj.RAIL_V_SAFE_IN_FORCE i := by
    simp only [Obj.RAIL_V_SAFE, Obj.RAIL_V_SAFE_IN_FORCE]
    omega
  unfold startChosen
  split
  · simp only [State.startView, hrail, startRail_reg, if_neg hforce, if_neg hsafe]
  · rfl

theorem startChosen_within (chosen : Nat → Bool) (t : State) (i : Nat) (hi : i < 48) :
    t.Within (eventFootprint [.rails] (repeated 48 [Obj.RAIL_V_SAFE_IN_FORCE 0])) (startChosen chosen t i) := by
  have hmem : Obj.RAIL_V_SAFE_IN_FORCE i ∈ repeated 48 [Obj.RAIL_V_SAFE_IN_FORCE 0] := by
    simpa [repeated] using hi
  unfold startChosen
  split
  · exact ((refl _ t).setReg _ _ (List.contains_iff_mem.mpr hmem)).setRail i _ List.mem_cons_self
  · exact refl _ t

theorem setSkipped_view (s : State) (mask n : Nat) :
    (s.setReg Obj.START_SKIPPED (s.skipped mask)).startView n = s.startView n := by
  have hforce : Obj.RAIL_V_SAFE_IN_FORCE n ≠ Obj.START_SKIPPED := by
    simp only [Obj.RAIL_V_SAFE_IN_FORCE, Obj.START_SKIPPED]
    omega
  have hsafe : Obj.RAIL_V_SAFE n ≠ Obj.START_SKIPPED := by
    simp only [Obj.RAIL_V_SAFE, Obj.START_SKIPPED]
    omega
  simp [State.startView, hforce, hsafe]

/-- Each rail after RAIL_START is as its own start leaves it, from where the others' have left it as it was. -/
theorem startRails_view (mask : Nat) (s : State) (hn : n < 48) : ∃ t : State, t.startView n = s.startView n ∧
    (startRails mask s).startView n = (startChosen (fun n => bitAt mask n && s.mayStart n) t n).startView n := by
  have hown := foldN_own State.startView (startChosen_other fun n => bitAt mask n && s.mayStart n)
  have habove := (hown n (s.setReg Obj.START_SKIPPED (s.skipped mask))).1 n le_rfl
  exact ⟨_, habove.trans (setSkipped_view s mask n), (hown 48 _).2 n hn⟩

theorem startRails_stays (hn : n < 48) (h : (bitAt mask n && s.mayStart n) = false) :
    (startRails mask s).startView n = s.startView n := by
  obtain ⟨t, hbefore, hview⟩ := startRails_view mask s hn
  rw [hview, startChosen, if_neg (by simp [h]), hbefore]

theorem startRails_starts (hn : n < 48) (h : (bitAt mask n && s.mayStart n) = true) : ∃ t : State,
    t.startView n = s.startView n ∧ (startRails mask s).startView n = (startRail n t).startView n := by
  obtain ⟨t, hbefore, hview⟩ := startRails_view mask s hn
  exact ⟨t, hbefore, by rw [hview, startChosen, if_pos h]⟩

theorem startRails_within (mask : Nat) (s : State) :
    s.Within (eventFootprint [.rails] (Obj.START_SKIPPED :: repeated 48 [Obj.RAIL_V_SAFE_IN_FORCE 0]))
      (startRails mask s) := by
  rw [startRails_eq]
  exact ((refl _ s).setReg _ _ (by simp [eventFootprint])).trans
    (foldNSteps (fun t i hi => (startChosen_within _ t i hi).widen (fun _ => id) fun _ => List.mem_cons_of_mem _) _)

theorem startRails_skipped (mask : Nat) (s : State) : (startRails mask s).reg Obj.START_SKIPPED = s.skipped mask := by
  have hfold := (foldNSteps (startChosen_within fun n => bitAt mask n && s.mayStart n)
    (s.setReg Obj.START_SKIPPED (s.skipped mask))).obj Obj.START_SKIPPED 0 (by decide) (by decide)
  rw [startRails_eq]
  exact hfold.trans ((State.reg_setReg s _ _ _).trans (if_pos rfl))

/-! ### RAIL_STOP (R200) -/

theorem rampDownRail_stays (h : (s.rail n).on = false ∨ (s.rail n).mode = .rampDown) : rampDownRail n s = s :=
  if_pos (by rcases h with h | h <;> simp [h])

/-- A rail that ramps down, from where its setpoint stands. -/
theorem rampDownRail_ramps (hon : (s.rail n).on = true) (hramp : (s.rail n).mode ≠ .rampDown) :
    ((rampDownRail n s).rail n).mode = .rampDown ∧ ((rampDownRail n s).rail n).rampFrom = (s.rail n).vSet ∧
    ((rampDownRail n s).rail n).rampSamples = 0 := by
  simp [rampDownRail, hon, hramp]

theorem rampDownRail_rail_ne (s : State) (h : k ≠ n) : (rampDownRail n s).rail k = s.rail k := by
  unfold rampDownRail
  dsimp only
  split
  · rfl
  · rw [State.rail_setRail, if_neg h]

/-- A rail of the mask ramps down. -/
def rampMasked (mask : Nat) (t : State) (n : Nat) : State := if bitAt mask n then rampDownRail n t else t

theorem rampMasked_other (mask : Nat) (t : State) (i k : Nat) (h : k ≠ i) : (rampMasked mask t i).rail k = t.rail k := by
  unfold rampMasked
  split
  · exact rampDownRail_rail_ne t h
  · rfl

theorem rampMasked_within (mask : Nat) (t : State) (i : Nat) :
    t.Within (eventFootprint [.rails] []) (rampMasked mask t i) := by
  unfold rampMasked rampDownRail
  dsimp only
  split
  · split
    · exact refl _ t
    · exact (refl _ t).setRail _ _
  · exact refl _ t

/-- Each rail after RAIL_STOP is as its own ramp leaves it. -/
theorem rampDownRails_rail (mask : Nat) (s : State) (hn : n < 48) : ∃ t : State, t.rail n = s.rail n ∧
    (rampDownRails mask s).rail n = (rampMasked mask t n).rail n := by
  have hown := foldN_own State.rail (rampMasked_other mask)
  exact ⟨_, (hown n s).1 n le_rfl, (hown 48 s).2 n hn⟩

theorem rampDownRails_above (mask : Nat) (s : State) (hn : 48 ≤ n) : (rampDownRails mask s).rail n = s.rail n :=
  (foldN_own State.rail (rampMasked_other mask) 48 s).1 n hn

theorem rampDownRails_ramps (hn : n < 48) (hbit : bitAt mask n = true) (hon : (s.rail n).on = true)
    (hramp : (s.rail n).mode ≠ .rampDown) :
    ((rampDownRails mask s).rail n).mode = .rampDown ∧ ((rampDownRails mask s).rail n).rampFrom = (s.rail n).vSet ∧
    ((rampDownRails mask s).rail n).rampSamples = 0 := by
  obtain ⟨t, hbefore, hrail⟩ := rampDownRails_rail mask s hn
  rw [hrail, rampMasked, if_pos hbit, ← hbefore]
  exact rampDownRail_ramps (by rwa [hbefore]) (by rwa [hbefore])

theorem rampDownRails_stays (hn : n < 48)
    (h : bitAt mask n = false ∨ (s.rail n).on = false ∨ (s.rail n).mode = .rampDown) :
    (rampDownRails mask s).rail n = s.rail n := by
  obtain ⟨t, hbefore, hrail⟩ := rampDownRails_rail mask s hn
  rw [hrail, rampMasked]
  split
  · next hbit => rw [rampDownRail_stays (by rw [hbefore]; simpa [hbit] using h), hbefore]
  · exact hbefore

theorem rampDownRails_within (mask : Nat) (s : State) :
    s.Within (eventFootprint [.rails] []) (rampDownRails mask s) :=
  foldNSteps (fun t i _ => rampMasked_within mask t i) s

/-! ### RAIL_CLEAR (R201) -/

/-- A rail of the mask leaves FAULT_OFF. -/
def clearMasked (mask : Nat) (t : State) (n : Nat) : State :=
  if bitAt mask n && (t.rail n).mode == .faultOff then t.setRail n { t.rail n with mode := .off } else t

/-- Every rail of the mask does. -/
def clearRails (mask : Nat) (s : State) : State := foldN 48 (clearMasked mask) s

theorem clearMasked_other (mask : Nat) (t : State) (i k : Nat) (h : k ≠ i) : (clearMasked mask t i).rail k = t.rail k := by
  unfold clearMasked
  split
  · rw [State.rail_setRail, if_neg h]
  · rfl

theorem clearRails_rail (mask : Nat) (s : State) (hn : n < 48) : (clearRails mask s).rail n =
    if bitAt mask n = true ∧ (s.rail n).mode = .faultOff then { s.rail n with mode := .off } else s.rail n := by
  have hown := foldN_own State.rail (clearMasked_other mask)
  have hbefore : (foldN n (clearMasked mask) s).rail n = s.rail n := (hown n s).1 n le_rfl
  rw [clearRails, (hown 48 s).2 n hn, clearMasked, hbefore]
  by_cases h : bitAt mask n = true ∧ (s.rail n).mode = .faultOff
  · rw [if_pos h, if_pos (by simp [h]), State.rail_setRail, if_pos rfl]
  · rw [if_neg h, if_neg (by simpa using h), hbefore]

theorem clearRails_within (mask : Nat) (s : State) : s.Within (eventFootprint [.rails] []) (clearRails mask s) := by
  refine foldNSteps (fun t i _ => ?_) s
  unfold clearMasked
  split
  · exact (refl _ t).setRail _ _
  · exact refl _ t

/-! ### COEF_COMMIT (R187) -/

/-- The shadows brought into force, in their order. -/
def commitShadow (shadow : Sparse Nat) (tabs : Sparse Byte) : Sparse Byte :=
  shadow.foldl (fun m p => Sparse.set domDefault m p.1 (BitVec.ofNat 8 (p.2 - 1))) tabs

/-- A byte that no shadow holds stays. -/
theorem get_commitShadow_ne (shadow : Sparse Nat) (tabs : Sparse Byte) (h : ∀ p ∈ shadow, p.1 ≠ k) :
    Sparse.get domDefault (commitShadow shadow tabs) k = Sparse.get domDefault tabs k := by
  induction shadow generalizing tabs with
  | nil => rfl
  | cons p shadow ih =>
    obtain ⟨hp, hrest⟩ := List.forall_mem_cons.mp h
    exact (ih _ hrest).trans (by rw [Sparse.get_set, if_neg hp.symm])

/-- A byte for which every shadow holds one value takes it. -/
theorem get_commitShadow (shadow : Sparse Nat) (tabs : Sparse Byte) {v : Nat} (hv : ∀ p ∈ shadow, p.1 = k → p.2 = v)
    (hk : ∃ p ∈ shadow, p.1 = k) :
    Sparse.get domDefault (commitShadow shadow tabs) k = BitVec.ofNat 8 (v - 1) := by
  induction shadow generalizing tabs with
  | nil => simp at hk
  | cons p shadow ih =>
    obtain ⟨hp, hrest⟩ := List.forall_mem_cons.mp hv
    by_cases hlater : ∃ q ∈ shadow, q.1 = k
    · exact ih _ hrest hlater
    · have hfirst : p.1 = k := by simpa [hlater] using hk
      refine (get_commitShadow_ne shadow _ fun q hq hqk => hlater ⟨q, hq, hqk⟩).trans ?_
      rw [Sparse.get_set, if_pos hfirst.symm, hp hfirst]

theorem get_commitShadow_mem (shadow : Sparse Nat) (tabs : Sparse Byte) {p : Nat × Nat} (hp : p ∈ shadow)
    (hv : ∀ q ∈ shadow, q.1 = p.1 → q.2 = p.2) :
    Sparse.get domDefault (commitShadow shadow tabs) p.1 = BitVec.ofNat 8 (p.2 - 1) :=
  get_commitShadow shadow tabs hv ⟨p, hp, rfl⟩

/-- The shadows are in force and empty, which COEF_COMMITS counts. -/
def State.coefCommitted (s : State) : State :=
  ({ s with tabs := commitShadow s.rails.shadow s.tabs, rails := { s.rails with shadow := [] } } : State).bump
    Obj.COEF_COMMITS

theorem coefCommitted_within (s : State) : s.Within
    { eventFootprint [.rails] [Obj.COEF_COMMITS] with tabs := true } s.coefCommitted := by
  have htabs := (refl { eventFootprint [.rails] [Obj.COEF_COMMITS] with tabs := true } s).setTabs
    (commitShadow s.rails.shadow s.tabs) rfl
  exact (htabs.rails { s.rails with shadow := [] } List.mem_cons_self).bump _
    (List.contains_iff_mem.mpr List.mem_cons_self)

theorem coefCommitted_reg (s : State) :
    s.coefCommitted.reg Obj.COEF_COMMITS = (s.reg Obj.COEF_COMMITS + 1) % 2 ^ 32 := by
  have hwidth : widthOf Obj.COEF_COMMITS = 32 := by decide
  rw [State.coefCommitted, State.reg_bump, if_pos rfl, hwidth]
  rfl

/-! ### RAILn_MODE (R191) -/

/-- RAILn_MODE is held; a rail that is on takes it at its next fast sample. -/
def State.modeRequested (s : State) (n v : Nat) : State :=
  (s.setReg (Obj.RAIL_MODE n) v).setRail n { s.rail n with modeDue := (s.rail n).on, forced := false }

theorem actRailMode_done {rq : Req} {data : Bytes} : actRailMode (wholeWrite rq (Obj.RAIL_MODE n) data) s =
    .done (s.modeRequested n (leNat data % 256)) := by
  have hrail : (wholeWrite rq (Obj.RAIL_MODE n) data).obj / 256 - 0x4100 = n := by
    simp only [wholeWrite, Obj.RAIL_MODE]
    omega
  simp only [actRailMode, hrail]
  rfl

theorem modeRequested_within (s : State) (n v : Nat) :
    s.Within (eventFootprint [.rails] [Obj.RAIL_MODE n]) (s.modeRequested n v) :=
  ((refl _ s).setReg _ v (by simp [eventFootprint])).setRail n _ List.mem_cons_self

/-! ### What RAIL_START leaves, for an admitted command -/

/-- A rail of the view is on its way up. -/
theorem startRails_leaves (hn : n < 48) (h : (bitAt mask n && s.mayStart n) = true) :
    ((startRails mask s).rail n).mode = .starting ∧ ((startRails mask s).rail n).vSet = (s.rail n).v ∧
    ((startRails mask s).rail n).duty = 0 ∧ ((startRails mask s).rail n).setIndex = 0 ∧
    ((startRails mask s).rail n).headPreset = true ∧
    (startRails mask s).reg (Obj.RAIL_V_SAFE_IN_FORCE n) = s.reg (Obj.RAIL_V_SAFE n) := by
  obtain ⟨t, hbefore, hview⟩ := startRails_starts hn h
  simp only [State.startView, Prod.mk.injEq] at hbefore hview
  obtain ⟨hrail, -, hsafe⟩ := hbefore
  obtain ⟨hstarted, hforce, -⟩ := hview
  obtain ⟨hmode, hvolt, hduty, hindex, hpreset⟩ := startRail_starts n t
  rw [hstarted, hforce, startRail_reg, if_pos rfl, hsafe]
  exact ⟨hmode, hvolt.trans (by rw [hrail]), hduty, hindex, hpreset, rfl⟩

theorem startRails_keeps (hn : n < 48) (h : (bitAt mask n && s.mayStart n) = false) :
    (startRails mask s).rail n = s.rail n ∧
    (startRails mask s).reg (Obj.RAIL_V_SAFE_IN_FORCE n) = s.reg (Obj.RAIL_V_SAFE_IN_FORCE n) := by
  have hview := startRails_stays hn h
  simp only [State.startView, Prod.mk.injEq] at hview
  obtain ⟨hrail, hforce, -⟩ := hview
  exact ⟨hrail, hforce⟩

/-- A request leaves what lets a rail start. -/
@[simp] theorem State.mayStart_asked (s : State) (q : Request) (n : Nat) : (s.asked q).mayStart n = s.mayStart n := by
  simp only [State.mayStart, State.permitted, State.rail_asked, State.asked_frame]
  rw [s.reg_asked_ne q (by decide)]

/-- The objects of a rail are not those that a request counts. -/
theorem State.reg_asked_rail (s : State) (q : Request) {o : Nat} (ho : 0x400000 ≤ o) : (s.asked q).reg o = s.reg o :=
  s.reg_asked q o (by omega)

end Start

/-! ### The obligation -/

/-- Settles O35: each command acts on the state that its request has asked. RAIL_START, RAIL_STOP and RAIL_CLEAR step over
the rails, each step at its own rail alone (`foldN_own`); COEF_COMMIT writes the shadows in their order
(`get_commitShadow`). -/
theorem railsStartStopAndAreConfigured : Obligations.RailsStartStopAndAreConfigured := by
  refine ⟨?start, ?tripped, ?stop, ?clear, ?mode, ?commit, ?rampEnd⟩
  case start =>
    intro s rq data hadmits htrip
    have hact : actRailStart (wholeWrite rq Obj.RAIL_START data) (s.asked (wholeWrite rq Obj.RAIL_START data)) =
        .done (startRails (leNat data % 2 ^ 48) (s.asked (wholeWrite rq Obj.RAIL_START data))) :=
      if_neg (by simp [htrip])
    obtain ⟨t, hexec, hanswer, hrails, hreg, hframe⟩ := hostWrite_rails hadmits
      (keptBits_rails (by decide) (by decide) (by decide) (by decide)) hact (startRails_within _ _)
    have hrail := State.rail_of_rails hrails
    have hchosen : ∀ n, n < 48 → (bitAt (leNat data % 2 ^ 48) n &&
        (s.asked (wholeWrite rq Obj.RAIL_START data)).mayStart n) = (bitAt (leNat data) n && s.mayStart n) :=
      fun n hn => by rw [bitAt_railMask _ hn, State.mayStart_asked]
    refine ⟨t, hexec, hanswer, fun n hn hbit hmay => ?_, fun n hn h => ?_, fun n hn => ?_, hframe⟩
    · rw [hrail, hreg, ← s.rail_asked (wholeWrite rq Obj.RAIL_START data),
        ← s.reg_asked_rail (wholeWrite rq Obj.RAIL_START data) (by simp only [Obj.RAIL_V_SAFE]; omega)]
      exact startRails_leaves hn ((hchosen n hn).trans (by rw [hbit, hmay]; rfl))
    · rw [hrail, hreg, ← s.rail_asked (wholeWrite rq Obj.RAIL_START data),
        ← s.reg_asked_rail (wholeWrite rq Obj.RAIL_START data) (by simp only [Obj.RAIL_V_SAFE_IN_FORCE]; omega)]
      exact startRails_keeps hn ((hchosen n hn).trans (by rcases h with h | h <;> simp [h]))
    · rw [hreg, startRails_skipped, State.skipped, bitAt_maskNat 48 _ hn, bitAt_railMask _ hn, State.mayStart_asked]
  case tripped =>
    intro s rq data hadmits htrip
    exact hostWrite_asked_abort (act := actRailStart) hadmits
      (keptBits_rails (by decide) (by decide) (by decide) (by decide)) (if_pos (by simp [htrip])) (by decide) (by decide)
  case stop =>
    intro s rq data hadmits
    obtain ⟨t, hexec, hanswer, hrails, -, hframe⟩ := hostWrite_rails (act := actRailStop) hadmits
      (keptBits_rails (by decide) (by decide) (by decide) (by decide)) rfl (rampDownRails_within _ _)
    have hrail := State.rail_of_rails hrails
    refine ⟨t, hexec, hanswer, fun n hn hbit hon hramp => ?_, fun n h => ?_, hframe⟩
    · rw [hrail, ← s.rail_asked (wholeWrite rq Obj.RAIL_STOP data)]
      exact rampDownRails_ramps hn ((bitAt_railMask _ hn).trans hbit) (by simpa using hon) (by simpa using hramp)
    · rw [hrail, ← s.rail_asked (wholeWrite rq Obj.RAIL_STOP data)]
      by_cases hn : n < 48
      · exact rampDownRails_stays hn (by rw [bitAt_railMask _ hn, State.rail_asked]; exact h)
      · exact rampDownRails_above _ _ (not_lt.mp hn)
  case clear =>
    intro s rq data hadmits
    obtain ⟨t, hexec, hanswer, hrails, -, hframe⟩ := hostWrite_rails (act := actRailClear) hadmits
      (keptBits_rails (by decide) (by decide) (by decide) (by decide)) rfl (clearRails_within (leNat data) _)
    refine ⟨t, hexec, hanswer, fun n hn => ?_, hframe⟩
    rw [State.rail_of_rails hrails, ← s.rail_asked (wholeWrite rq Obj.RAIL_CLEAR data)]
    exact clearRails_rail _ _ hn
  case mode =>
    intro s rq n data hn hadmits
    have hlow : 0x410002 ≤ Obj.RAIL_MODE n ∧ Obj.RAIL_MODE n < 0x430000 := by
      simp only [Obj.RAIL_MODE]
      omega
    obtain ⟨t, hexec, hanswer, hrails, hreg, hframe⟩ := hostWrite_rails hadmits
      (keptBits_rails (by omega) hlow.2 (by simp only [Obj.COEF_TABLE]; omega) (by simp only [Obj.SLOT_TABLE]; omega))
      actRailMode_done (modeRequested_within _ n (leNat data % 256))
    have hrail := State.rail_of_rails hrails
    refine ⟨t, hexec, hanswer, ?_, ?_, fun k hk => ?_, hframe⟩
    · simp [hreg, State.modeRequested]
    · simp [hrail, State.modeRequested]
    · simp [hrail, State.modeRequested, hk]
  case commit =>
    intro s rq data hadmits
    have hact : actCoefCommit (wholeWrite rq Obj.COEF_COMMIT data) (s.asked (wholeWrite rq Obj.COEF_COMMIT data)) =
        .done (s.asked (wholeWrite rq Obj.COEF_COMMIT data)).coefCommitted := rfl
    obtain ⟨t, hexec, hanswer, hrails, hreg, htabs, hframe⟩ := hostWrite_rails_tables hadmits
      (keptBits_rails (by decide) (by decide) (by decide) (by decide)) hact (coefCommitted_within _)
      (parts := [.rails, .tabs]) (objs := [Obj.COEF_COMMITS]) (tables := [])
      (by simp [eventFootprint]) (by simp [eventFootprint]) (fun _ => rfl) (by simp)
    refine ⟨t, hexec, hanswer, fun p hp hv => ?_, fun o j _ hne => ?_, ?_, ?_, hframe⟩
    · rw [htabs]
      exact get_commitShadow_mem _ _ (by simpa using hp) (by simpa using hv)
    · have hbyte := get_commitShadow_ne s.rails.shadow s.tabs hne
      simpa [State.tabByte, htabs, State.coefCommitted] using hbyte
    · rw [hrails, ← (s.asked_rails (wholeWrite rq Obj.COEF_COMMIT data)).1]
      rfl
    · rw [hreg, coefCommitted_reg, s.reg_asked_rail _ (by decide)]
  case rampEnd =>
    intro s n hacts
    by_cases h : (s.rail n).mode = .rampDown
    · have hend : rampDownEnd n s = s.setRail n ((s.rail n).stop .off) := if_pos h
      exact ⟨_, railEvent_next hacts hend, fun _ => ⟨by simp, setRail_onlyRail s n _⟩, fun hnot => absurd h hnot,
        setRail_eventFrame s n _⟩
    · have hidle : rampDownEnd n s = s := if_neg h
      exact ⟨_, railEvent_next hacts hidle, fun hramp => absurd hramp h, fun _ => s.frame_settle_self _ _,
        s.frame_settle_self _ _⟩

end Sys2Proof.Machine
end

section
/-! The sense ADCs rotate through calibration (07 R202, R203). -/

namespace Sys2Proof.Machine

section Rotation

open State.Within

variable {s t u : State} {b c : Bank} {x : RotationState}

/-! ### Bytes of a table -/

/-- A byte of a table after bytes of the same table are written. -/
theorem State.tabByte_setTab_same (s : State) (o k j : Nat) (bs : Bytes) :
    (s.setTab o k bs).tabByte o j = if k ≤ j then bs.getD (j - k) (s.tabByte o j) else s.tabByte o j := by
  rw [State.tabByte_setTab]
  have hoffset : tabKey o j - tabKey o k = j - k := by
    simp only [tabKey]
    omega
  have hle : tabKey o k ≤ tabKey o j ↔ k ≤ j := by
    simp only [tabKey]
    omega
  by_cases hk : k ≤ j
  · rw [if_pos hk, List.getD_eq_getElem?_getD]
    by_cases hj : j - k < bs.length
    · rw [dif_pos ⟨hle.mpr hk, hoffset ▸ hj⟩]
      simp only [hoffset, List.getElem?_eq_getElem hj, Option.getD_some]
    · rw [dif_neg (fun h => hj (hoffset ▸ h.2)), List.getElem?_eq_none (not_lt.mp hj), Option.getD_none]
  · rw [if_neg hk, dif_neg (fun h => hk (hle.mp h.1))]

/-- Two bytes of a table as a number. -/
theorem State.tabNat_two (s : State) (o k : Nat) :
    s.tabNat o k 2 = (s.tabByte o k).toNat + 256 * (s.tabByte o (k + 1)).toNat := by
  simp only [State.tabNat, Sparse.getList, leNat, State.tabByte, tabKey, Nat.add_assoc, Nat.mul_zero, Nat.add_zero]

/-- An event that may change any table has the frame of those that it does change. -/
theorem State.Within.eventFrame_tables {parts : List Part} {objs tables : List Nat}
    (h : s.Within { eventFootprint parts objs with tabs := true } u)
    (htabs : ∀ o j, o ∉ tables → j < 131072 → u.tabByte o j = s.tabByte o j) :
    s.frame (settle u) parts objs tables := by
  obtain ⟨hpending, hpart, hobj, -⟩ := h.frameRaw (parts := .tabs :: parts) (objs := objs) (tables := tables)
    (fun _ => List.mem_cons_of_mem _) (fun _ _ ho => List.contains_iff_mem.mp ho) (fun hn => absurd List.mem_cons_self hn)
    fun _ _ => rfl
  exact frame_settle ⟨hpending, fun p hp => hpart p (by simpa using hp),
    fun o i hr ho hi => hobj o i (by simpa using hr) ho hi, fun o j _ ho hj => htabs o j ho hj⟩

/-! ### Banks -/

theorem State.bank_of_rails (h : u.rails = s.rails) : u.bank = s.bank := by
  funext c
  cases c <;> simp only [State.bank, h]

theorem State.bank_setBank_ne (s : State) (x : RotationState) (h : c ≠ b) : (s.setBank b x).bank c = s.bank c := by
  cases b <;> cases c
  case voltage.current | current.voltage => rfl
  all_goals exact absurd rfl h

theorem State.bank_settle (s : State) : (settle s).bank = s.bank := State.bank_of_rails (by simp)

theorem State.rail_settle (s : State) : (settle s).rail = s.rail := State.rail_of_rails (by simp)

theorem State.rails_setBank (s : State) (b : Bank) (x : RotationState) :
    (s.setBank b x).rails.rails = s.rails.rails := by
  cases b <;> rfl

theorem State.bank_setRail (s : State) (n : Nat) (r : RailState) : (s.setRail n r).bank = s.bank := by
  funext c
  cases c <;> rfl

theorem State.Within.setBank {F : Footprint} (h : s.Within F u) (b : Bank) (x : RotationState) (hp : .rails ∈ F.parts) :
    s.Within F (u.setBank b x) := by
  cases b
  · exact h.rails { u.rails with voltageBank := x } hp
  · exact h.rails { u.rails with currentBank := x } hp

/-! ### Rotation steps (R202 Table 5 steps 1 and 6) -/

/-- The spare's step is over. -/
def RotationState.wraps (x : RotationState) : Bool := x.stage != 0 && x.adc == 48

/-- The rotation of a bank at its next step. -/
def RotationState.stepped (x : RotationState) : RotationState :=
  let adc := if x.stage = 0 || x.wraps then 0 else x.adc + 1
  { adc := adc, stage := if adc = 48 then 2 else 1, fresh := x.fresh || x.wraps, full := x.full || (x.wraps && x.fresh) }

/-- The bank has stepped, and ROTATIONS counts a full rotation. -/
def State.rotated (s : State) (b : Bank) : State :=
  let s1 := s.setBank b (s.bank b).stepped
  if (s.bank b).wraps then s1.bump Obj.ROTATIONS else s1

theorem rotationStep_eq (b : Bank) (s : State) : rotationStep b s =
    if ((s.rotated b).bank .voltage).full && ((s.rotated b).bank .current).full
    then (s.rotated b).setReg Obj.ADC_TRIMS_STATE 2 else s.rotated b := rfl

theorem RotationState.wraps_iff (x : RotationState) : x.wraps = true ↔ x.stage ≠ 0 ∧ x.adc = 48 := by
  simp [RotationState.wraps]

/-- A stepped bank: where it stands, and whether it has a full rotation behind it. -/
theorem RotationState.stepped_spec (x : RotationState) :
    x.stepped.adc = (if x.stage = 0 ∨ x.adc = 48 then 0 else x.adc + 1) ∧
    x.stepped.stage = (if x.stepped.adc = 48 then 2 else 1) ∧ x.stepped.spareServes = false ∧
    (x.stepped.full = true ↔ x.full = true ∨ (x.fresh = true ∧ x.stage ≠ 0 ∧ x.adc = 48)) := by
  refine ⟨?_, rfl, rfl, ?_⟩
  · by_cases hstage : x.stage = 0 <;> simp [RotationState.stepped, RotationState.wraps, hstage]
  · simp [RotationState.stepped, x.wraps_iff, and_comm]

theorem rotated_rails (b : Bank) (s : State) : (s.rotated b).rails = (s.setBank b (s.bank b).stepped).rails := by
  unfold State.rotated
  dsimp only
  split <;> simp

theorem rotated_reg (b : Bank) (s : State) (o : Nat) : (s.rotated b).reg o =
    if o = Obj.ROTATIONS ∧ (s.bank b).wraps = true then (s.reg o + 1) % 2 ^ 32 else s.reg o := by
  have hwidth : widthOf Obj.ROTATIONS = 32 := by decide
  unfold State.rotated
  dsimp only
  split
  · next hwraps =>
    by_cases ho : o = Obj.ROTATIONS
    · simp [hwraps, ho, hwidth]
    · simp [ho]
  · next hwraps => simp [hwraps]

theorem rotationStep_rails (b : Bank) (s : State) :
    (rotationStep b s).rails = (s.setBank b (s.bank b).stepped).rails := by
  rw [rotationStep_eq, ← rotated_rails]
  split <;> simp

theorem rotationStep_within (b : Bank) (s : State) :
    s.Within (eventFootprint [.rails] [Obj.ROTATIONS, Obj.ADC_TRIMS_STATE]) (rotationStep b s) := by
  have hbank : s.Within (eventFootprint [.rails] [Obj.ROTATIONS, Obj.ADC_TRIMS_STATE])
      (s.setBank b (s.bank b).stepped) := (refl _ s).setBank b _ List.mem_cons_self
  have hrotated : s.Within (eventFootprint [.rails] [Obj.ROTATIONS, Obj.ADC_TRIMS_STATE]) (s.rotated b) := by
    unfold State.rotated
    dsimp only
    split
    · exact hbank.bump _
    · exact hbank
  rw [rotationStep_eq]
  split
  · exact hrotated.setReg _ _
  · exact hrotated

theorem rotationStep_rotations (b : Bank) (s : State) : (rotationStep b s).reg Obj.ROTATIONS =
    if (s.bank b).wraps = true then (s.reg Obj.ROTATIONS + 1) % 2 ^ 32 else s.reg Obj.ROTATIONS := by
  have hrotated := rotated_reg b s Obj.ROTATIONS
  simp only [true_and] at hrotated
  rw [rotationStep_eq, ← hrotated]
  split <;> simp

theorem rotationStep_trimsState (b : Bank) (s : State) : (rotationStep b s).reg Obj.ADC_TRIMS_STATE =
    if ((rotationStep b s).bank .voltage).full = true ∧ ((rotationStep b s).bank .current).full = true then 2
    else s.reg Obj.ADC_TRIMS_STATE := by
  have hrails : (rotationStep b s).rails = (s.rotated b).rails := (rotationStep_rails b s).trans (rotated_rails b s).symm
  have hrotated := rotated_reg b s Obj.ADC_TRIMS_STATE
  simp only [Obj.ADC_TRIMS_STATE, Obj.ROTATIONS, Nat.reduceEqDiff, false_and, if_false] at hrotated
  rw [State.bank_of_rails hrails, rotationStep_eq, ← hrotated]
  simp only [Bool.and_eq_true]
  split
  · rw [State.reg_setReg, if_pos rfl]
  · rfl

/-! ### The trims of an ADC -/

/-- The bytes of its trims, offset first (R203). -/
theorem setTrims_bytes (s : State) (a j : Nat) (p : Nat × Nat) : (s.setTrims a p).tabByte Obj.ADC_TRIMS j =
    if 4 * a ≤ j then
      [BitVec.ofNat 8 p.1, BitVec.ofNat 8 (p.1 / 256), BitVec.ofNat 8 p.2, BitVec.ofNat 8 (p.2 / 256)].getD (j - 4 * a)
        (s.tabByte Obj.ADC_TRIMS j)
    else s.tabByte Obj.ADC_TRIMS j := State.tabByte_setTab_same ..

theorem setTrims_offset (s : State) (a : Nat) (p : Nat × Nat) :
    (s.setTrims a p).tabNat Obj.ADC_TRIMS (4 * a) 2 = p.1 % 65536 := by
  have hnext : 4 * a + 1 - 4 * a = 1 := by omega
  simp only [State.tabNat_two, setTrims_bytes, le_refl, if_true, Nat.sub_self, Nat.le_add_right, hnext, List.getD_cons_zero,
    List.getD_cons_succ, BitVec.toNat_ofNat]
  omega

theorem setTrims_gain (s : State) (a : Nat) (p : Nat × Nat) : (s.setTrims a p).adcGain a = p.2 % 65536 := by
  have hlow : 4 * a + 2 - 4 * a = 2 := by omega
  have hhigh : 4 * a + 2 + 1 - 4 * a = 3 := by omega
  have hle : 4 * a ≤ 4 * a + 2 + 1 := by omega
  simp only [State.adcGain, State.tabNat_two, setTrims_bytes, if_true, Nat.le_add_right, hle, hlow, hhigh,
    List.getD_cons_zero, List.getD_cons_succ, BitVec.toNat_ofNat]
  omega

theorem adcGain_settle (s : State) (a : Nat) : (settle s).adcGain a = s.adcGain a := by
  simp [State.adcGain]

theorem setTrims_others (s : State) (a : Nat) (p : Nat × Nat) : s.otherTrims (s.setTrims a p) a := by
  intro j _ hne
  rw [setTrims_bytes]
  split
  · exact List.getD_eq_default _ _ (by simp only [List.length_cons, List.length_nil]; omega)
  · rfl

theorem setTrims_tables (s : State) {a : Nat} (ha : a ≤ 97) (p : Nat × Nat) {o j : Nat} (ho : o ≠ Obj.ADC_TRIMS)
    (hj : j < 131072) : (s.setTrims a p).tabByte o j = s.tabByte o j := by
  refine s.tabByte_setTab_ne _ _ _ _ _ ho ?_ hj
  simp only [natLE, List.length_append, List.length_cons, List.length_nil]
  omega

theorem adcNumber_le (b : Bank) {n : Nat} (h : n ≤ 48) : adcNumber b n ≤ 97 := by
  cases b <;> simp only [adcNumber] <;> split <;> omega

/-! ### Handovers (R202 Table 5 steps 2 and 5) -/

/-- A handover that the samples do not allow: it is counted, and its condition rises. -/
def State.handoverMissed (s : State) : State := (s.bump Obj.HANDOVERS_ABANDONED).occur 54

theorem handoverMissed_rails (s : State) : s.handoverMissed.rails = s.rails := by
  simp [State.handoverMissed]

theorem handoverMissed_counts (s : State) : s.handoverMissed.reg Obj.HANDOVERS_ABANDONED =
    (s.reg Obj.HANDOVERS_ABANDONED + 1) % 2 ^ 32 := by
  have hwidth : widthOf Obj.HANDOVERS_ABANDONED = 32 := by decide
  simp [State.handoverMissed, hwidth]

theorem handoverMissed_rises (s : State) : 0 < (settle s.handoverMissed).waitingRises 54 := by
  have hrises : (settle s.handoverMissed).waitingRises 54 = s.handoverMissed.waitingRises 54 := rfl
  rw [hrises, State.handoverMissed, waitingRises_occur, if_pos rfl]
  omega

theorem handoverMissed_frame (h : s.Within (eventFootprint [.rails, .fault] [Obj.HANDOVERS_ABANDONED]) u) :
    s.frame (settle u.handoverMissed) [.rails, .fault] [Obj.HANDOVERS_ABANDONED] [] :=
  ((h.bump _).occur 54).eventFrame

/-- The frozen counts of one rail restart, and nothing else changes. -/
theorem restartCounts_eq (b : Bank) (n : Nat) (s : State) : ∃ r, restartCounts b n s = s.setRail n r := by
  cases b <;> exact ⟨_, rfl⟩

/-- The bank stands at `x`, and the counts of the rail of its ADC restart. -/
def State.handedOver (s : State) (b : Bank) (x : RotationState) : State :=
  restartCounts b (s.bank b).adc (s.setBank b x)

theorem handedOver_bank (s : State) (b : Bank) (x : RotationState) : (s.handedOver b x).bank b = x := by
  obtain ⟨r, hr⟩ := restartCounts_eq b (s.bank b).adc (s.setBank b x)
  rw [State.handedOver, hr, State.bank_setRail, State.bank_setBank]

theorem handedOver_bank_ne (s : State) (x : RotationState) (h : c ≠ b) : (s.handedOver b x).bank c = s.bank c := by
  obtain ⟨r, hr⟩ := restartCounts_eq b (s.bank b).adc (s.setBank b x)
  rw [State.handedOver, hr, State.bank_setRail, State.bank_setBank_ne s x h]

theorem handedOver_rail_ne (s : State) (x : RotationState) {k : Nat} (h : k ≠ (s.bank b).adc) :
    (s.handedOver b x).rail k = s.rail k := by
  obtain ⟨r, hr⟩ := restartCounts_eq b (s.bank b).adc (s.setBank b x)
  rw [State.handedOver, hr, State.rail_setRail, if_neg h]
  simp

theorem handedOver_stores (s : State) (b : Bank) (x : RotationState) :
    (s.handedOver b x).reg = s.reg ∧ (s.handedOver b x).tabByte = s.tabByte := by
  obtain ⟨r, hr⟩ := restartCounts_eq b (s.bank b).adc (s.setBank b x)
  rw [State.handedOver, hr]
  simp

theorem handedOver_within (s : State) (b : Bank) (x : RotationState) {F : Footprint} (hp : .rails ∈ F.parts) :
    s.Within F (s.handedOver b x) := by
  obtain ⟨r, hr⟩ := restartCounts_eq b (s.bank b).adc (s.setBank b x)
  rw [State.handedOver, hr]
  exact ((refl F s).setBank b x hp).setRail _ r hp

variable {d : Nat}

/-- The samples match: the spare serves for the ADC. -/
theorem adcHandover_serves (hstage : (s.bank b).stage = 1) (hgood : d ≤ s.reg Obj.ADC_MATCH_LIMIT) :
    adcHandover b d s = s.handedOver b { s.bank b with stage := 2, spareServes := true } := by
  simp only [adcHandover, hstage, hgood, if_true]
  rfl

theorem adcHandover_missed (hstage : (s.bank b).stage = 1) (hbad : s.reg Obj.ADC_MATCH_LIMIT < d) :
    adcHandover b d s = (s.setBank b { s.bank b with stage := 4 }).handoverMissed := by
  simp only [adcHandover, hstage, not_le.mpr hbad, if_true, if_false]
  rfl

/-- The bank as its ADC serves again, with no result of the step. -/
def RotationState.handedBack (x : RotationState) : RotationState :=
  { x with stage := 4, spareServes := false, result := none }

theorem adcHandover_backMissed (hstage : (s.bank b).stage = 3) (hbad : s.reg Obj.ADC_MATCH_LIMIT < d) :
    adcHandover b d s = (s.handedOver b (s.bank b).handedBack).handoverMissed := by
  simp only [adcHandover, hstage, not_le.mpr hbad, if_true, if_false, OfNat.ofNat_ne_one]
  rfl

/-- The trims that the step `x` has measured are taken, unless a write of the host has discarded them. -/
def State.takesResult (s : State) (b : Bank) (x : RotationState) : State :=
  match x.result with
  | some p => if x.discarded then s else s.setTrims (adcNumber b x.adc) p
  | none => s

theorem takesResult_kept (s : State) {p : Nat × Nat} (hresult : x.result = some p) (hkept : x.discarded = false) :
    s.takesResult b x = s.setTrims (adcNumber b x.adc) p := by
  simp only [State.takesResult, hresult, hkept, Bool.false_eq_true, if_false]

theorem takesResult_discarded (s : State) (h : x.discarded = true) : s.takesResult b x = s := by
  simp only [State.takesResult, h, if_true]
  split <;> rfl

/-- Trims that are taken, or not, change no more than the trims. -/
theorem takesResult_cases (s : State) (b : Bank) (x : RotationState) :
    s.takesResult b x = s ∨ ∃ p, s.takesResult b x = s.setTrims (adcNumber b x.adc) p := by
  unfold State.takesResult
  split
  · split
    · exact .inl rfl
    · exact .inr ⟨_, rfl⟩
  · exact .inl rfl

theorem takesResult_rails (s : State) (b : Bank) (x : RotationState) : (s.takesResult b x).rails = s.rails := by
  rcases takesResult_cases s b x with h | ⟨p, h⟩ <;> rw [h]
  simp [State.setTrims]

theorem adcHandover_backTakes (hstage : (s.bank b).stage = 3) (hgood : d ≤ s.reg Obj.ADC_MATCH_LIMIT) :
    adcHandover b d s = (s.handedOver b (s.bank b).handedBack).takesResult b (s.bank b) := by
  simp only [adcHandover, hstage, hgood, if_true, if_false, OfNat.ofNat_ne_one]
  rfl

theorem adcHandover_idle (h1 : (s.bank b).stage ≠ 1) (h3 : (s.bank b).stage ≠ 3) : adcHandover b d s = s := by
  simp only [adcHandover, h1, h3, if_false]

/-! ### Measurements (R202 Table 5 step 3) -/

variable {lo hi : Nat}

theorem trimsOf_lt (lo hi : Nat) : (trimsOf lo hi).1 < 65536 ∧ (trimsOf lo hi).2 < 65536 := by
  have himage : ∀ v : Int, image 16 v < 65536 := fun v => by
    simp only [image]
    omega
  have hclamp : ∀ v : Int, (clampI 1 65535 v).toNat < 65536 := fun v => by
    simp only [clampI]
    omega
  exact ⟨himage _, hclamp _⟩

theorem adcCalibrationDone_idle (h : (s.bank b).stage ≠ 2) : adcCalibrationDone b lo hi s = s := if_pos h

theorem adcCalibrationDone_measured (hstage : (s.bank b).stage = 2) (h : (s.bank b).adc ≠ 48) :
    adcCalibrationDone b lo hi s = s.setBank b { s.bank b with stage := 3, result := some (trimsOf lo hi) } := by
  simp only [adcCalibrationDone, hstage, ne_eq, not_true_eq_false, if_false, h]

/-- The step of a bank with the trims that it has measured. -/
def RotationState.measured (x : RotationState) (lo hi : Nat) : RotationState :=
  { x with result := some (trimsOf lo hi) }

/-- The spare takes its trims at once. -/
theorem adcCalibrationDone_spare (hstage : (s.bank b).stage = 2) (h : (s.bank b).adc = 48) :
    adcCalibrationDone b lo hi s =
      (s.setBank b { s.bank b with stage := 4 }).takesResult b ((s.bank b).measured lo hi) := by
  simp only [adcCalibrationDone, hstage, ne_eq, not_true_eq_false, if_false, h, if_true, State.takesResult,
    RotationState.measured]

/-! ### Trims written by the host (R203) -/

/-- A bank after `n` bytes of the trims are written: the step of a written ADC is discarded, and the rotation that
calibrates the bank begins anew. -/
def RotationState.trimsWritten (x : RotationState) (b : Bank) (n : Nat) : RotationState :=
  { x with discarded := x.discarded || 4 * adcNumber b x.adc < n, fresh := x.fresh && n == 0, full := x.full && n == 0 }

/-- ADC_TRIMS and its state after a write. -/
def State.trimBytes (s : State) (data : Bytes) : State :=
  (s.setTab Obj.ADC_TRIMS 0 (data.take 392)).setReg Obj.ADC_TRIMS_STATE
    (if min data.length 392 = 0 then s.reg Obj.ADC_TRIMS_STATE else 1)

/-- The state after a write of ADC_TRIMS. -/
def State.trimsWritten (s : State) (data : Bytes) : State :=
  ((s.trimBytes data).setBank .voltage ((s.bank .voltage).trimsWritten .voltage (min data.length 392))).setBank .current
    ((s.bank .current).trimsWritten .current (min data.length 392))

theorem actAdcTrims_done {q : Request} : actAdcTrims q s = .done (s.trimsWritten q.data) := rfl

theorem trimsWritten_bank (s : State) (data : Bytes) (b : Bank) :
    (s.trimsWritten data).bank b = (s.bank b).trimsWritten b (min data.length 392) := by
  cases b <;> rfl

theorem trimsWritten_rails (s : State) (data : Bytes) : (s.trimsWritten data).rails.rails = s.rails.rails := by
  simp [State.trimsWritten, State.rails_setBank, State.trimBytes]

theorem trimsWritten_byte (s : State) (data : Bytes) (o j : Nat) :
    (s.trimsWritten data).tabByte o j = (s.setTab Obj.ADC_TRIMS 0 (data.take 392)).tabByte o j := by
  simp [State.trimsWritten, State.trimBytes]

theorem trimsWritten_trims (s : State) (data : Bytes) {j : Nat} (hj : j < 392) :
    (s.trimsWritten data).tabByte Obj.ADC_TRIMS j = data.getD j (s.tabByte Obj.ADC_TRIMS j) := by
  rw [trimsWritten_byte, State.tabByte_setTab_same, if_pos (Nat.zero_le j), Nat.sub_zero, List.getD_eq_getElem?_getD,
    List.getElem?_take_of_lt hj, List.getD_eq_getElem?_getD]

theorem trimsWritten_otherTables (s : State) (data : Bytes) {o j : Nat} (ho : o ≠ Obj.ADC_TRIMS) (hj : j < 131072) :
    (s.trimsWritten data).tabByte o j = s.tabByte o j := by
  rw [trimsWritten_byte]
  exact s.tabByte_setTab_ne _ _ _ _ _ ho (by simp only [List.length_take]; omega) hj

theorem trimsWritten_state (s : State) {data : Bytes} (h : data ≠ []) :
    (s.trimsWritten data).reg Obj.ADC_TRIMS_STATE = 1 := by
  simp [State.trimsWritten, State.trimBytes, h]

theorem trimsWritten_within (s : State) (data : Bytes) : s.Within
    { eventFootprint [.rails] [Obj.ADC_TRIMS_STATE] with tabs := true } (s.trimsWritten data) :=
  ((((refl { eventFootprint [.rails] [Obj.ADC_TRIMS_STATE] with tabs := true } s).setTab _ _ _).setReg _ _).setBank _ _
    List.mem_cons_self).setBank _ _ List.mem_cons_self

/-! ### Handovers and measurements as events -/

/-- Trims that are taken, or not, after a change of the rails: the frame names the rails and ADC_TRIMS alone. -/
theorem takesResult_frame (hwithin : ∀ F : Footprint, .rails ∈ F.parts → s.Within F u)
    (hbytes : u.tabByte = s.tabByte) (hadc : x.adc ≤ 48) :
    s.frame (settle (u.takesResult b x)) [.rails] [] [Obj.ADC_TRIMS] := by
  have hu : s.Within { eventFootprint [.rails] [] with tabs := true } u := hwithin _ List.mem_cons_self
  rcases takesResult_cases u b x with h | ⟨p, h⟩ <;> rw [h]
  · exact hu.eventFrame_tables fun o j _ _ => by rw [hbytes]
  · exact (hu.setTab _ _ _ rfl).eventFrame_tables fun o j ho hj => by
      rw [← hbytes]
      exact setTrims_tables u (adcNumber_le b hadc) p (by simpa using ho) hj

end Rotation

/-! ### The obligation -/

/-- Settles O38: a rotation step, a handover and a measurement each replace the rotation of one bank
(`rotationStep_rails`, `State.handedOver`); a handover that the samples do not allow is counted (`State.handoverMissed`),
and the bytes of one ADC are written where its measured trims are taken (`setTrims_bytes`). -/
theorem senseAdcsRotate : Obligations.SenseAdcsRotate := by
  refine ⟨?step, ?disabled, ?before, ?after, ?noHandover, ?measured, ?noMeasurement, ?written⟩
  case step =>
    intro s b hacts henable
    have hexec : exec (.adcRotationStep b) s = .next (settle (rotationStep b s)) :=
      onIslandIf_acts s (rotationStep b) (fun s => s.flag Obj.ROTATION_ENABLE) 3 hacts henable
    have hbank : (settle (rotationStep b s)).bank = (s.setBank b (s.bank b).stepped).bank :=
      State.bank_of_rails (by simp [rotationStep_rails])
    have hreg : (settle (rotationStep b s)).reg = (rotationStep b s).reg := by simp
    obtain ⟨hadc, hstage, hserves, hfull⟩ := (s.bank b).stepped_spec
    have htrims := rotationStep_trimsState b s
    rw [State.bank_of_rails (rotationStep_rails b s)] at htrims
    refine ⟨_, hexec, ?_, ?_, ?_, ?_, ?_, ?_, fun c hc => ?_, ?_, (rotationStep_within b s).eventFrame⟩
    · rw [hbank, State.bank_setBank, hadc]
    · rw [hbank, State.bank_setBank, hstage]
    · rw [hbank, State.bank_setBank, hserves]
    · rw [hbank, State.bank_setBank, hfull]
    · simp only [hreg, rotationStep_rotations, RotationState.wraps_iff]
    · rw [hreg, hbank, htrims]
    · rw [hbank, State.bank_setBank_ne s _ hc]
    · simp [rotationStep_rails, State.rails_setBank]
  case disabled =>
    intro s b hacts henable
    exact gate_idle _ _ _ ((acts_iff s 3).mp hacts).1 (by simp [henable])
  case before =>
    intro s b d hacts hstage
    by_cases hgood : d ≤ s.reg Obj.ADC_MATCH_LIMIT
    · have hwithin := fun F hp => handedOver_within (F := F) s b { s.bank b with stage := 2, spareServes := true } hp
      refine ⟨_, railEvent_next hacts (adcHandover_serves hstage hgood), fun _ => ⟨?_, fun k hk => ?_, ?_⟩,
        fun hbad => absurd hgood (not_le.mpr hbad), fun c hc => ?_, (hwithin _ List.mem_cons_self).eventFrame⟩
      · rw [State.bank_settle, handedOver_bank]
      · rw [State.rail_settle, handedOver_rail_ne s _ hk]
      · exact (hwithin _ List.mem_cons_self).eventFrame
      · rw [State.bank_settle, handedOver_bank_ne s _ hc]
    · have hbank := State.bank_of_rails (handoverMissed_rails (s.setBank b { s.bank b with stage := 4 }))
      refine ⟨_, railEvent_next hacts (adcHandover_missed hstage (not_le.mp hgood)), fun h => absurd h hgood,
        fun _ => ⟨?_, ?_, ?_, handoverMissed_rises _⟩, fun c hc => ?_,
        handoverMissed_frame ((State.Within.refl _ s).setBank b _ List.mem_cons_self)⟩
      · rw [State.bank_settle, hbank, State.bank_setBank]
      · simp [handoverMissed_rails, State.rails_setBank]
      · simp [handoverMissed_counts]
      · rw [State.bank_settle, hbank, State.bank_setBank_ne s _ hc]
  case after =>
    intro s b d hacts hstage hadc
    have hstores := handedOver_stores s b (s.bank b).handedBack
    have hwithin := fun F hp => handedOver_within (F := F) s b (s.bank b).handedBack hp
    by_cases hgood : d ≤ s.reg Obj.ADC_MATCH_LIMIT
    · have hrails := takesResult_rails (s.handedOver b (s.bank b).handedBack) b (s.bank b)
      refine ⟨_, railEvent_next hacts (adcHandover_backTakes hstage hgood), ?_, fun x hresult _ hkept => ?_,
        fun hdiscarded j _ => ?_, fun hbad => absurd hgood (not_le.mpr hbad),
        fun _ => takesResult_frame hwithin hstores.2 hadc.le, fun k hk => ?_, fun c hc => ?_⟩
      · rw [State.bank_settle, State.bank_of_rails hrails, handedOver_bank]
        rfl
      · rw [takesResult_kept _ hresult hkept]
        exact ⟨by simp [setTrims_offset], by rw [adcGain_settle, setTrims_gain], fun j hj hne => by
          simpa [hstores.2] using setTrims_others (s.handedOver b (s.bank b).handedBack) _ x j hj hne⟩
      · rw [takesResult_discarded _ hdiscarded]
        simp [hstores.2]
      · rw [State.rail_settle, State.rail_of_rails hrails, handedOver_rail_ne s _ hk]
      · rw [State.bank_settle, State.bank_of_rails hrails, handedOver_bank_ne s _ hc]
    · have hrails := handoverMissed_rails (s.handedOver b (s.bank b).handedBack)
      refine ⟨_, railEvent_next hacts (adcHandover_backMissed hstage (not_le.mp hgood)), ?_,
        fun _ _ h => absurd h hgood, fun _ j _ => ?_,
        fun _ => ⟨?_, handoverMissed_rises _, handoverMissed_frame (hwithin _ List.mem_cons_self)⟩,
        fun h => absurd h hgood, fun k hk => ?_, fun c hc => ?_⟩
      · rw [State.bank_settle, State.bank_of_rails hrails, handedOver_bank]
        rfl
      · simp [State.handoverMissed, hstores.2]
      · simp [handoverMissed_counts, hstores.1]
      · rw [State.rail_settle, State.rail_of_rails hrails, handedOver_rail_ne s _ hk]
      · rw [State.bank_settle, State.bank_of_rails hrails, handedOver_bank_ne s _ hc]
  case noHandover =>
    intro s b d hacts h1 h3
    exact ⟨_, railEvent_next hacts (adcHandover_idle h1 h3), s.frame_settle_self _ _⟩
  case measured =>
    intro s b lo hi hacts hstage
    by_cases hspare : (s.bank b).adc = 48
    · obtain ⟨hoffset, hgain⟩ := trimsOf_lt lo hi
      have hwithin : ∀ F : Footprint, .rails ∈ F.parts → s.Within F (s.setBank b { s.bank b with stage := 4 }) :=
        fun F hp => (State.Within.refl F s).setBank b _ hp
      have hbytes : (s.setBank b { s.bank b with stage := 4 }).tabByte = s.tabByte := by simp
      have hrails := takesResult_rails (s.setBank b { s.bank b with stage := 4 }) b ((s.bank b).measured lo hi)
      refine ⟨_, railEvent_next hacts (adcCalibrationDone_spare hstage hspare), fun h => absurd hspare h,
        fun _ => ⟨?_, fun hkept => ?_, fun hdiscarded => ?_⟩, ?_, fun c hc => ?_,
        takesResult_frame hwithin hbytes hspare.le⟩
      · rw [State.bank_settle, State.bank_of_rails hrails, State.bank_setBank]
      · have hadc : adcNumber b ((s.bank b).measured lo hi).adc = adcNumber b 48 := congrArg (adcNumber b) hspare
        rw [takesResult_kept (x := (s.bank b).measured lo hi) _ rfl hkept, hadc]
        exact ⟨by rw [adcGain_settle, setTrims_gain, Nat.mod_eq_of_lt hgain],
          by simp [setTrims_offset, Nat.mod_eq_of_lt hoffset], fun j hj hne => by
          simpa [hbytes] using setTrims_others (s.setBank b { s.bank b with stage := 4 }) _ _ j hj hne⟩
      · rw [takesResult_discarded (x := (s.bank b).measured lo hi) _ hdiscarded]
        exact (hwithin _ List.mem_cons_self).eventFrame
      · simp [hrails, State.rails_setBank]
      · rw [State.bank_settle, State.bank_of_rails hrails, State.bank_setBank_ne s _ hc]
    · have hbank : (settle (s.setBank b { s.bank b with stage := 3, result := some (trimsOf lo hi) })).bank =
          (s.setBank b { s.bank b with stage := 3, result := some (trimsOf lo hi) }).bank := State.bank_settle _
      refine ⟨_, railEvent_next hacts (adcCalibrationDone_measured hstage hspare), fun _ => ⟨?_, ?_⟩,
        fun h => absurd h hspare, ?_, fun c hc => ?_, ?_⟩
      · rw [hbank, State.bank_setBank]
      · exact ((State.Within.refl _ s).setBank b _ List.mem_cons_self).eventFrame
      · simp [State.rails_setBank]
      · rw [hbank, State.bank_setBank_ne s _ hc]
      · exact (((State.Within.refl _ s).setBank b _ List.mem_cons_self)).eventFrame_tables fun o j _ _ => by simp
  case noMeasurement =>
    intro s b lo hi hacts hstage
    exact ⟨_, railEvent_next hacts (adcCalibrationDone_idle hstage), s.frame_settle_self _ _⟩
  case written =>
    intro s rq data hadmits
    obtain ⟨t, hexec, hanswer, hrails, hreg, htabs, hframe⟩ := hostWrite_rails_tables hadmits
      (keptBits_rails (by decide) (by decide) (by decide) (by decide)) actAdcTrims_done (trimsWritten_within _ data)
      (parts := [.rails]) (objs := [Obj.ADC_TRIMS_STATE]) (tables := [Obj.ADC_TRIMS])
      (by simp [eventFootprint]) (by simp [eventFootprint]) (fun _ => rfl) (fun _ o j ho hj =>
        (trimsWritten_otherTables _ data (by simpa using ho) hj).trans (by simp))
    have hbank : ∀ b, t.bank b = (s.bank b).trimsWritten b (min data.length 392) := fun b => by
      rw [State.bank_of_rails hrails]
      exact (trimsWritten_bank _ data b).trans (by rw [State.bank_of_rails (s.asked_rails _).1])
    have hempty : data ≠ [] → (min data.length 392 == 0) = false := fun hdata => by
      simp [hdata]
    refine ⟨t, hexec, hanswer, fun j hj => ?_, fun hdata => ⟨?_, fun b => ?_⟩, fun b hadc hlen => ?_, ?_, hframe⟩
    · have htab : t.tabByte = (State.trimsWritten (s.asked (wholeWrite rq Obj.ADC_TRIMS data)) data).tabByte := by
        funext o j
        simp only [State.tabByte, htabs, wholeWrite]
      rw [htab, trimsWritten_trims _ data hj, State.tabByte_asked]
    · rw [hreg]
      exact trimsWritten_state _ hdata
    · rw [hbank]
      simp [RotationState.trimsWritten, hempty hdata]
    · have hnumber := adcNumber_le b hadc
      have hwritten : 4 * adcNumber b (s.bank b).adc < min data.length 392 := by omega
      rw [hbank]
      simp only [RotationState.trimsWritten, decide_eq_true hwritten, Bool.or_true]
    · rw [hrails]
      exact (trimsWritten_rails _ data).trans (by simp)

end Sys2Proof.Machine
end

section
/-! What leaves the ports as time passes (09 R228, R231, 10 R251): a footprint for the delay line, the codewords and the
training frames. -/

namespace Sys2Proof.Machine

set_option Elab.async false

open State.Within

section Transmit

variable {F : Footprint} {s u : State}

/-! ### Footprints of a port -/

theorem State.Within.setStream (h : s.Within F u) (p : Port) (x : PortStream) (hp : .link ∈ F.parts := by decide) :
    s.Within F (u.setStream p x) := by
  cases p <;> exact h.of_fields (link := .inl hp)

theorem State.Within.setPort (h : s.Within F u) (p : Port) (x : PortLink) (hp : .link ∈ F.parts := by decide) :
    s.Within F (u.setPort p x) := by
  cases p <;> exact h.of_fields (link := .inl hp)

theorem State.Within.drawn (h : s.Within F u) (hp : .free ∈ F.parts := by decide) : s.Within F u.drawn :=
  h.of_fields (free := .inl hp)

/-! ### Blocks that move through the delay line (10 R251) -/

/-- What blocks that move through a delay line may touch: codewords leave, and with them local packets, which count. -/
def carryFootprint : Footprint := eventFootprint arrivalParts sentObjs

theorem packetLeft_within (p : Port) (k : LocalPacket) (s : State) : s.Within carryFootprint (packetLeft p k s) := by
  have hsent : s.Within carryFootprint (s.bump (Obj.PKT_LOCAL_SENT (portIx p))) :=
    (refl _ s).bump _ (by cases p <;> decide)
  have hevent : s.Within carryFootprint (if k.kind = 0x04 then (s.bump (Obj.PKT_LOCAL_SENT (portIx p))).bump
      Obj.EVENTS_SENT else s.bump (Obj.PKT_LOCAL_SENT (portIx p))) := by
    split
    · exact hsent.bump _
    · exact hsent
  unfold packetLeft
  dsimp only
  split
  · exact (hevent.bump _).layers _
  · exact hevent

theorem emitCodeword_within (p : Port) (blocks : List Block) (s : State) :
    s.Within carryFootprint (emitCodeword p blocks s) := ((refl _ s).setStream p _).emit _

theorem alignIfDue_within (p : Port) (s : State) : s.Within carryFootprint (alignIfDue p s) := by
  unfold alignIfDue
  dsimp only
  split
  · exact emitCodeword_within p _ s
  · exact refl _ s

theorem sendCodeword_within (p : Port) (s : State) : s.Within carryFootprint (sendCodeword p s) :=
  (((refl _ s).setStream p _).trans (alignIfDue_within p _)).trans (emitCodeword_within p _ _)

theorem leaveLine_within (p : Port) (s : State) (b : LineBlock) : s.Within carryFootprint (leaveLine p s b) := by
  have hleft : s.Within carryFootprint ((b.ends.map fun k => packetLeft p k s).getD s) := by
    cases b.ends with
    | none => exact refl _ s
    | some k => exact packetLeft_within p k s
  unfold leaveLine
  dsimp only
  split
  · exact (hleft.setStream p _).trans (sendCodeword_within p _)
  · exact hleft.setStream p _

theorem carry_within (p : Port) (blocks : List Block) (s : State) : s.Within carryFootprint (carry p blocks s) :=
  ((refl _ s).setStream p _).trans (foldl (fun t b => leaveLine_within p t b) _ _)

/-! ### What a port sends (R228, R231) -/

/-- What the ports may touch as ticks pass: a PRBS31Q body may draw its start besides. -/
def transmitFootprint : Footprint := eventFootprint (.free :: arrivalParts) sentObjs

theorem sendFrame_within (p : Port) (s : State) : s.Within transmitFootprint (sendFrame p s) := by
  unfold sendFrame
  extract_lets x long first a b s1 s2 s3
  have h2 : s.Within transmitFootprint s2 := ((refl _ s).emit _).setStream p _
  have h3 : s.Within transmitFootprint s3 := by
    unfold s3
    split
    · exact h2.setPort p _
    · exact h2
  split
  · exact h3.drawn
  · exact h3

theorem transmit_within (n : Nat) (s : State) (p : Port) : s.Within transmitFootprint (transmit n s p) := by
  unfold transmit
  split
  · refine foldNSteps (fun t _ _ => ?_) s
    split
    · exact sendFrame_within p t
    · exact refl _ t
  · split
    · exact foldNSteps (fun t _ _ => (carry_within p _ t).widen) s
    · exact refl _ s

theorem transmitBoth_within (n : Nat) (s : State) : s.Within transmitFootprint (transmitBoth n s) :=
  (transmit_within n s .a).trans (transmit_within n _ .b)

/-- The packets that wait, and the rest of the traffic, are one part of the state. -/
theorem State.Within.traffic_eq (h : s.Within F u) (htraffic : .traffic ∉ F.parts) (hanswer : .answer ∉ F.parts) :
    u.traffic = s.traffic := by
  have hrest : { u.traffic with queue := [] } = { s.traffic with queue := [] } := h.part .traffic (by simpa using htraffic)
  obtain ⟨-, -, hqueue⟩ : s.sameRaw u .answer := h.part .answer (by simpa using hanswer)
  calc u.traffic = { ({ u.traffic with queue := [] } : TrafficState) with queue := u.traffic.queue } := rfl
    _ = s.traffic := by rw [hrest, hqueue]

end Transmit

end Sys2Proof.Machine
end

section
/-! The domain counters on an empty queue (08 R206, R213, R223; assumption log 2): one tick of TIME, and the ledger of a
sleep. -/

namespace Sys2Proof.Machine

set_option Elab.async false

open State.Within

section Ticks

variable {s : State}

/-! ### One domain (R206, R213) -/

theorem State.dom_settle (s : State) : (settle s).dom = s.dom := rfl

/-- A tick takes the increment that waits, and leaves neither a step nor a host command behind. -/
theorem DomState.tick_fields (x : DomState) :
    x.tick.1.inc = x.nextInc.getD x.inc ∧ x.tick.1.nextInc = none ∧ x.tick.1.step = 0 ∧ x.tick.1.actions = [] ∧
      x.tick.1.mode = x.mode := by
  simp [DomState.tick]

/-- Without host commands the counter gains its increment and the servo's step. -/
theorem DomState.tick_counter (x : DomState) (h : x.actions = []) : x.tick.1.counter =
    wrapCounter ((wrapCounter ((x.counter + x.tick.1.inc : Nat) : Int) : Int) + x.step) := by
  simp [DomState.tick, h]

/-- A host command that sets the counter gives it its value. -/
theorem TickAction.act_set (v : Time80) (c : Nat) : (TickAction.set v).act c =
    wrapCounter (((v.sec * 1000000000 + v.ns) * 4294967296 : Nat) : Int) := by
  rw [TickAction.act]
  push_cast
  rfl

theorem DomState.tick_counter_set (x : DomState) {v : Time80} {rest : List TickAction}
    (h : x.actions = rest ++ [.set v]) :
    x.tick.1.counter = wrapCounter (((v.sec * 1000000000 + v.ns) * 4294967296 : Nat) : Int) := by
  rw [DomState.tick, h, List.foldl_append, List.foldl_cons, List.foldl_nil, TickAction.act_set]

/-! ### A tick of TIME (R206) -/

/-- What a tick may touch. -/
def tickFootprint : Footprint :=
  eventFootprint [.time, .clock, .traffic, .answer, .link, .layers, .out, .free] sentObjs

/-- Both counters tick. -/
def tickCounters (s : State) : State :=
  { s with time := { s.time with domA := s.time.domA.tick.1, domB := s.time.domB.tick.1 }, ticks := s.ticks + 1 }

theorem tickCounters_dom (s : State) (d : Dom) : (tickCounters s).dom d = (s.dom d).tick.1 := by
  cases d <;> simp only [tickCounters, State.dom]

theorem tickCounters_within {u : State} (h : s.Within tickFootprint u) : s.Within tickFootprint (tickCounters u) :=
  h.of_fields (time := .inl (by decide)) (clock := .inl (by decide))

theorem fillTokens_within {u : State} (h : s.Within tickFootprint u) : s.Within tickFootprint (fillTokens u) :=
  h.of_fields (traffic := .inl (by decide))

/-- A step of a domain's counter moves the catch offset alone (R218). -/
theorem shiftOffset_eq (d : Dom) (k : Int) (s : State) :
    ∃ offset, shiftOffset d k s = s.modCatch fun g => { g with offset := offset } := by
  unfold shiftOffset
  split
  · exact ⟨_, rfl⟩
  · exact ⟨s.time.catchGen.offset, rfl⟩

theorem State.modCatch_modCatch (s : State) (f g : CatchState → CatchState) :
    (s.modCatch f).modCatch g = s.modCatch (g ∘ f) := rfl

theorem tickCounters_keeps (s : State) : (tickCounters s).traffic = s.traffic ∧ (tickCounters s).reg = s.reg :=
  ⟨rfl, rfl⟩

/-- What the ports send leaves the time, the packets that wait and the reserve of upstream tokens. -/
theorem transmitBoth_keeps (n : Nat) (s : State) : (transmitBoth n s).time = s.time ∧
    (transmitBoth n s).ticks = s.ticks ∧ (transmitBoth n s).traffic = s.traffic ∧
    (transmitBoth n s).reg Obj.UPSTREAM_RESERVE = s.reg Obj.UPSTREAM_RESERVE :=
  have h := transmitBoth_within n s
  ⟨h.part .time (by decide), h.part .clock (by decide), h.traffic_eq (by decide) (by decide),
    h.obj Obj.UPSTREAM_RESERVE 0 (by decide) (by decide)⟩

/-- A tick: the ports send, both counters tick, the catch offset follows the steps, and the upstream tokens fill. -/
theorem timeTick_eq (s : State) :
    ∃ g, timeTick s = fillTokens ((tickCounters (transmitBoth 1 s)).modCatch g) := by
  obtain ⟨htime, hticks, -⟩ := transmitBoth_keeps 1 s
  have hsteps : timeTick s = fillTokens (shiftOffset .b s.time.domB.tick.2
      (shiftOffset .a s.time.domA.tick.2 (tickCounters (transmitBoth 1 s)))) := by
    simp only [timeTick, tickCounters, htime, hticks]
  obtain ⟨k, hk⟩ := shiftOffset_eq .a s.time.domA.tick.2 (tickCounters (transmitBoth 1 s))
  obtain ⟨offset, hoffset⟩ := shiftOffset_eq .b s.time.domB.tick.2
    ((tickCounters (transmitBoth 1 s)).modCatch fun g => { g with offset := k })
  rw [hsteps, hk, hoffset, State.modCatch_modCatch]
  exact ⟨_, rfl⟩

theorem timeTick_within (s : State) : s.Within tickFootprint (timeTick s) := by
  obtain ⟨g, h⟩ := timeTick_eq s
  rw [h]
  exact fillTokens_within ((tickCounters_within (transmitBoth_within 1 s).widen).modCatch g)

theorem timeTick_dom (s : State) (d : Dom) : (timeTick s).dom d = (s.dom d).tick.1 := by
  obtain ⟨g, h⟩ := timeTick_eq s
  have hfill : ∀ u : State, (fillTokens u).dom = u.dom := fun _ => rfl
  have hdom : (transmitBoth 1 s).dom d = s.dom d := by
    cases d <;> simp only [State.dom, transmitBoth_keeps]
  simp only [h, hfill, State.modCatch_frame, tickCounters_dom, hdom]

theorem timeTick_ticks (s : State) : (timeTick s).ticks = s.ticks + 1 := by
  obtain ⟨g, h⟩ := timeTick_eq s
  simp only [h, fillTokens, State.modCatch_frame, tickCounters, transmitBoth_keeps]

/-- The upstream tokens fill with a tick (10 R252). -/
theorem timeTick_traffic (s : State) : (timeTick s).traffic = { s.traffic with
    tokens := min (s.traffic.tokens + min (s.reg Obj.UPSTREAM_RESERVE) 100000) 3072000 } := by
  obtain ⟨g, h⟩ := timeTick_eq s
  simp only [h, fillTokens, State.atMost, State.modCatch_frame, tickCounters_keeps, transmitBoth_keeps]

/-! ### The ledger of a sleep (R223) -/

theorem ledgerEdge_reg (s : State) : (ledgerEdge s).reg Obj.SLEEP_LEDGER = (s.reg Obj.SLEEP_LEDGER + 1) % 2 ^ 48 :=
  (State.reg_setReg ..).trans (if_pos rfl)

theorem ledgerEdge_time (s : State) : (ledgerEdge s).time = s.time := by simp [ledgerEdge]

theorem ledgerEdge_within (s : State) : s.Within (eventFootprint [] [Obj.SLEEP_LEDGER]) (ledgerEdge s) :=
  (refl _ s).setReg _ _

/-- What an edge may touch where the TIME clock runs. -/
def advanceFootprint : Footprint := eventFootprint [.time] [Obj.SLEEP_LEDGER, Obj.SLEEP_ADVANCE]

/-- Both domains after a wake, advanced by `n` periods of XTAL32. -/
def TimeState.woken (x : TimeState) (a ia b ib n : Nat) : TimeState :=
  { x with snapshot := none, domA := x.domA.woken a ia n, domB := x.domB.woken b ib n }

/-- The advance of the counters by the ledger. -/
theorem advanceTime_eq {a ia b ib : Nat} (h : s.time.snapshot = some (a, ia, b, ib)) : advanceTime s =
    { s.setReg Obj.SLEEP_ADVANCE (s.reg Obj.SLEEP_LEDGER * 30517578125 / 1000000) with
      time := s.time.woken a ia b ib (s.reg Obj.SLEEP_LEDGER) } := by
  unfold advanceTime
  rw [h]
  rfl

theorem advanceTime_within {a ia b ib : Nat} (h : s.time.snapshot = some (a, ia, b, ib)) :
    s.Within advanceFootprint (advanceTime s) := by
  rw [advanceTime_eq h]
  exact ((refl _ s).setReg Obj.SLEEP_ADVANCE _).of_fields (time := .inl (by decide))

theorem advanceTime_reg {a ia b ib : Nat} (h : s.time.snapshot = some (a, ia, b, ib)) :
    (advanceTime s).reg Obj.SLEEP_LEDGER = s.reg Obj.SLEEP_LEDGER ∧
      (advanceTime s).reg Obj.SLEEP_ADVANCE = s.reg Obj.SLEEP_LEDGER * 30517578125 / 1000000 := by
  have hreg : ∀ (u : State) (x : TimeState), State.reg { u with time := x } = u.reg := fun _ _ => rfl
  rw [advanceTime_eq h, hreg, State.reg_setReg, State.reg_setReg, if_neg (by decide), if_pos rfl]
  exact ⟨rfl, rfl⟩

/-- A device whose TIME clock does not run only counts the edge; the first edge with it running advances the counters. -/
theorem sleepEdge_eq (s : State) :
    sleepEdge s = if s.runs 5 = true then advanceTime (ledgerEdge s) else ledgerEdge s := by
  have hruns : (ledgerEdge s).runs 5 = s.runs 5 := rfl
  simp only [sleepEdge, hruns]

/-! ### A step on an empty queue (assumption log 2) -/

theorem step_empty (h : s.pending = []) : step s = .next (idle s) := by
  unfold step
  rw [h]

/-- A frozen device, and one whose functional state is undefined, stand. -/
theorem idle_stands (h : s.device.frozen = true ∨ s.device.extest = true) : idle s = s := by
  have hstands : (s.device.frozen || s.device.extest) = true := by simpa using h
  simp [idle, hstands]

/-- A device between the latch of a sleep and its wake counts an edge. -/
theorem idle_sleeps (hdefined : s.defined = true) (hfrozen : s.device.frozen = false)
    (hlatched : s.time.snapshot.isSome = true) : idle s = settle (sleepEdge s) := by
  have hextest : s.device.extest = false := by simpa [State.defined] using hdefined
  simp [idle, hfrozen, hextest, hlatched]

/-- A running device ticks. -/
theorem idle_ticks (hacts : s.acts 5 = true) (hexit : s.exitDue = false) (hlatched : s.time.snapshot = none) :
    idle s = settle (timeTick s) := by
  obtain ⟨hextest, halive⟩ := (acts_iff s 5).mp hacts
  obtain ⟨hfrozen, hruns⟩ : s.device.frozen = false ∧ s.runs 5 = true := by simpa [State.alive] using halive
  simp [idle, hfrozen, hextest, hlatched, hexit, hruns]

/-- A device whose TIME clock does not run stands outside a sleep. -/
theorem idle_stopped (hruns : s.runs 5 = false) (hlatched : s.time.snapshot = none) (hexit : s.exitDue = false) :
    idle s = s := by
  simp [idle, hruns, hlatched, hexit]

end Ticks

/-- Settles O39: on an empty queue a device stands, counts an edge of its sleep, or ticks (`idle_stands`, `idle_sleeps`,
`idle_ticks`, `idle_stopped`). A tick moves both counters and fills the tokens (`timeTick_eq`); an edge is counted, and
the first with the TIME clock running advances the counters (`sleepEdge_eq`, `advanceTime_eq`). -/
theorem countersTickOnAnEmptyQueue : Obligations.CountersTickOnAnEmptyQueue := by
  refine ⟨?ticks, ?stands, ?sleeps, ?stopped⟩
  case ticks =>
    intro s hempty hacts hexit hlatched
    refine ⟨settle (timeTick s), by rw [step_empty hempty, idle_ticks hacts hexit hlatched], ?_, fun d => ?_, ?_,
      (timeTick_within s).eventFrame⟩
    · simp only [settle_frame, timeTick_ticks]
    · rw [State.dom_settle, timeTick_dom]
      obtain ⟨hinc, hnext, hstep, hactions, hmode⟩ := (s.dom d).tick_fields
      exact ⟨hinc, hnext, hstep, hactions, hmode, (s.dom d).tick_counter, fun v rest => (s.dom d).tick_counter_set⟩
    · simp only [settle_frame, timeTick_traffic]
  case stands =>
    intro s hempty hstands
    rw [step_empty hempty, idle_stands hstands]
  case sleeps =>
    intro s a ia b ib hempty hdefined hfrozen hlatched
    have hstep : step s = .next (settle (sleepEdge s)) := by
      rw [step_empty hempty, idle_sleeps hdefined hfrozen (by simp [hlatched])]
    rw [sleepEdge_eq] at hstep
    cases hruns : s.runs 5 with
    | false =>
      rw [hruns, if_neg Bool.false_ne_true] at hstep
      exact ⟨_, hstep, ledgerEdge_reg s, fun _ => (ledgerEdge_within s).eventFrame, nofun,
        (ledgerEdge_within s).widen.eventFrame⟩
    | true =>
      rw [hruns, if_pos rfl] at hstep
      have hlatched1 : (ledgerEdge s).time.snapshot = some (a, ia, b, ib) := by rw [ledgerEdge_time, hlatched]
      obtain ⟨hledger, hadvance⟩ := advanceTime_reg hlatched1
      have htime : (advanceTime (ledgerEdge s)).time = s.time.woken a ia b ib ((ledgerEdge s).reg Obj.SLEEP_LEDGER) := by
        rw [advanceTime_eq hlatched1, ledgerEdge_time]
      refine ⟨_, hstep, ?_, nofun, fun _ => ?_,
        ((ledgerEdge_within s).widen.trans (advanceTime_within hlatched1).widen).eventFrame⟩
      · simp only [settle_frame, hledger, ledgerEdge_reg]
      · simp only [settle_frame, hledger, hadvance, State.dom, htime, TimeState.woken, DomState.woken, true_and]
        exact fun d => by cases d <;> rfl
  case stopped =>
    intro s hempty hruns hlatched hexit
    rw [step_empty hempty, idle_stopped hruns hlatched hexit]

end Sys2Proof.Machine
end

section
/-! The servo of a domain (08 R212 to R214, R221): what a measurement leaves of the domain, of its objects and of the rest
of the device. -/

namespace Sys2Proof.Machine

set_option Elab.async false

open State.Within

section Servo

variable {F : Footprint} {s u : State} {d : Dom} {theta : Rat}

/-! ### A domain and its objects -/

theorem State.Within.setDom (h : s.Within F u) (d : Dom) (x : DomState) (hp : .time ∈ F.parts := by decide) :
    s.Within F (u.setDom d x) := by
  cases d <;> exact h.of_fields (time := .inl hp)

theorem State.Within.setI32 (h : s.Within F u) (o : Nat) (v : Int) (ho : F.objs o = true := by decide) :
    s.Within F (u.setI32 o v) := h.setReg o _ ho

/-- The frame of a change before the live bits settle. -/
theorem State.Within.unsettledFrame {parts : List Part} {objs : List Nat} (h : s.Within (eventFootprint parts objs) u)
    (hlive : .live ∈ parts := by decide) : s.frame u parts objs [] := by
  obtain ⟨hpending, hparts, hobjs, htabs⟩ := h.frameRaw (fun _ => id) (fun _ _ ho => List.contains_iff_mem.mp ho)
    (fun _ => rfl) fun _ _ => rfl
  refine ⟨hpending, fun p hp => ?_, hobjs, htabs⟩
  have hsame := hparts p hp
  cases p
  case live => exact absurd hlive fun h => hp (by simp [h])
  all_goals exact hsame

@[simp] theorem State.dom_setReg (s : State) (o v : Nat) : (s.setReg o v).dom = s.dom := rfl

@[simp] theorem State.dom_bump (s : State) (o : Nat) : (s.bump o).dom = s.dom := rfl

@[simp] theorem State.dom_setI32 (s : State) (o : Nat) (v : Int) : (s.setI32 o v).dom = s.dom := rfl

theorem State.dom_of_time (h : u.time = s.time) : u.dom = s.dom := by
  funext d
  cases d <;> simp only [State.dom, h]

theorem State.dom_setDom_ne (s : State) (x : DomState) {o : Dom} (ho : o ≠ d) : (s.setDom d x).dom o = s.dom o := by
  cases d with
  | a => cases o with
    | a => exact absurd rfl ho
    | b => rfl
  | b => cases o with
    | a => rfl
    | b => exact absurd rfl ho

theorem State.setDom_self (s : State) (d : Dom) : s.setDom d (s.dom d) = s := by
  cases d <;> rfl

/-- The counters of a domain have 32 bits (08 R225). -/
theorem widthOf_domCounters (d : Dom) : widthOf (Obj.DOM_MEASUREMENTS (domIx d)) = 32 ∧
    widthOf (Obj.DOM_STEPS (domIx d)) = 32 ∧ widthOf (Obj.DOM_OUTLIERS (domIx d)) = 32 := by
  cases d <;> decide

/-! ### The frequency (R212) -/

theorem within_bounds {l : Rat} (hl : 0 ≤ l) (v : Rat) : -l ≤ within l v ∧ within l v ≤ l :=
  ⟨le_min (le_max_right _ _) (by linarith), min_le_right _ _⟩

theorem State.freqLimit_nonneg (s : State) (d : Dom) : 0 ≤ s.freqLimit d := Nat.cast_nonneg _

/-- A domain with a frequency and an integral that take effect at the next tick. -/
def DomState.steered (x : DomState) (y i : Rat) : DomState :=
  { x with y := y, integral := i, nextInc := some (incOf y) }

theorem setFrequency_eq (d : Dom) (y i : Rat) (s : State) : setFrequency d y i s =
    (s.setDom d ((s.dom d).steered y i)).setI32 (Obj.DOM_FREQ (domIx d)) (roundRat y) := rfl

@[simp] theorem setFrequency_dom (d : Dom) (y i : Rat) (s : State) :
    (setFrequency d y i s).dom d = (s.dom d).steered y i := by
  simp [setFrequency_eq]

theorem setFrequency_within (h : s.Within F u) (d : Dom) (y i : Rat) (ho : F.objs (Obj.DOM_FREQ (domIx d)) = true)
    (hp : .time ∈ F.parts := by decide) : s.Within F (setFrequency d y i u) := (h.setDom d _ hp).setI32 _ _ ho

/-! ### The active domain (R220, R221) -/

/-- What a switch of domains may touch. -/
def switchFootprint : Footprint := eventFootprint [.time] [Obj.ACTIVE_DOMAIN, Obj.DOMAIN_SWITCHES]

theorem followDomain_within (n : Nat) (s : State) : s.Within switchFootprint (followDomain n s) := by
  unfold followDomain
  split
  · exact refl _ s
  · exact ((refl _ s).modCatch _).bump _

@[simp] theorem followDomain_dom (n : Nat) (s : State) : (followDomain n s).dom = s.dom := by
  unfold followDomain
  split <;> simp

theorem followDomain_active (o : Dom) (s : State) : (followDomain (domIx o) s).active = o := by
  unfold followDomain
  split
  next h => cases o <;> simp [State.active, h, domIx]
  next => cases o <;> simp [State.active, State.modCatch, domIx]

theorem autoSwitch_within (d : Dom) (s : State) : s.Within switchFootprint (autoSwitch d s) := by
  unfold autoSwitch
  extract_lets o s1
  have h1 : s.Within switchFootprint s1 := (refl _ s).modCatch _
  split
  · split
    · split
      · exact h1.setReg _ _
      · exact h1
    · exact ((refl _ s).setReg Obj.ACTIVE_DOMAIN _).trans (followDomain_within _ _)
  · exact refl _ s

@[simp] theorem autoSwitch_dom (d : Dom) (s : State) : (autoSwitch d s).dom = s.dom := by
  unfold autoSwitch
  extract_lets o s1
  have h1 : s1.dom = s.dom := by simp [s1]
  split
  · split
    · split
      · exact h1
      · exact h1
    · simp
  · rfl

/-- Where the active domain `d` is lost and the other one, `o`, is LOCKED, the generator follows `o`, at once or at the
next catch. -/
theorem autoSwitch_follows {o : Dom} (hne : o ≠ d) (hauto : s.flag Obj.AUTO_SWITCH = true) (hactive : s.active = d)
    (hlocked : (s.dom o).mode = .locked) :
    (autoSwitch d s).reg Obj.ACTIVE_DOMAIN = (if s.issuing = true ∧ s.time.catchGen.hostDom ≠ none
      then s.reg Obj.ACTIVE_DOMAIN else domIx o) ∧
    (s.issuing = true → (autoSwitch d s).active = d ∧ (autoSwitch d s).time.catchGen.autoDom = some (domIx o)) ∧
    (s.issuing = false → (autoSwitch d s).active = o) := by
  have hcond : autoSwitch d s = if s.issuing = true then
      (if s.time.catchGen.hostDom.isNone = true then
        (s.modCatch fun g => { g with autoDom := some (domIx o) }).setReg Obj.ACTIVE_DOMAIN (domIx o)
      else s.modCatch fun g => { g with autoDom := some (domIx o) })
      else followDomain (domIx o) (s.setReg Obj.ACTIVE_DOMAIN (domIx o)) := by
    cases d with
    | a => cases o with
      | a => exact absurd rfl hne
      | b => simp [autoSwitch, hauto, hactive, hlocked]
    | b => cases o with
      | a => simp [autoSwitch, hauto, hactive, hlocked]
      | b => exact absurd rfl hne
  rw [hcond]
  cases hissuing : s.issuing with
  | false =>
    have hreg : (followDomain (domIx o) (s.setReg Obj.ACTIVE_DOMAIN (domIx o))).reg Obj.ACTIVE_DOMAIN = domIx o := by
      unfold followDomain
      split <;> simp
    exact ⟨by simpa using hreg, nofun, fun _ => by simpa using followDomain_active o _⟩
  | true =>
    cases hhost : s.time.catchGen.hostDom with
    | none => exact ⟨by simp, fun _ => ⟨hactive, rfl⟩, nofun⟩
    | some n => exact ⟨by simp, fun _ => ⟨hactive, rfl⟩, nofun⟩

theorem enterHoldover_within (h : s.Within switchFootprint u) (d : Dom) : s.Within switchFootprint (enterHoldover d u) :=
  (h.setDom d _).trans (autoSwitch_within d _)

@[simp] theorem enterHoldover_dom (d : Dom) (s : State) :
    (enterHoldover d s).dom d = { s.dom d with mode := .holdover, lockRun := 0, outlier := false } := by
  simp [enterHoldover]

/-! ### The servo (R212, R213) -/

/-- Objects that the servo sets, with a step or without one. -/
def servoFootprint (d : Dom) : Footprint :=
  eventFootprint [.time] [Obj.DOM_OFFSET (domIx d), Obj.DOM_FREQ (domIx d), Obj.DOM_STEPS (domIx d)]

theorem freqLimit_setI32 (s : State) (d : Dom) (v : Int) :
    (s.setI32 (Obj.DOM_OFFSET (domIx d)) v).freqLimit d = s.freqLimit d := by
  cases d <;> simp [State.freqLimit, State.limited, State.setI32, domIx]

/-- Without a step the servo sets a frequency within the limit. -/
theorem servoUpdate_eq (d : Dom) (theta : Rat) (s : State) : ∃ y i, -s.freqLimit d ≤ y ∧ y ≤ s.freqLimit d ∧
    servoUpdate d theta s = setFrequency d y i s := by
  obtain ⟨hlow, hhigh⟩ := within_bounds (s.freqLimit_nonneg d) (within (s.freqLimit d)
    ((s.dom d).integral - (s.reg (Obj.DOM_KI (domIx d)) : Rat) / 65536 * (theta / s.sinceMeasured d)) -
      (s.reg (Obj.DOM_KP (domIx d)) : Rat) / 65536 * (theta / s.sinceMeasured d))
  exact ⟨_, _, hlow, hhigh, rfl⟩

/-- The step that waits for the next tick. -/
def State.servoStepOf (s : State) (d : Dom) (theta : Rat) : Int :=
  roundRat (4294967296 * within ((s.reg (Obj.DOM_STEP_MAX (domIx d)) : Nat) : Rat) (-theta))

theorem servoStep_eq (d : Dom) (theta : Rat) (s : State) : servoStep d theta s =
    ((setFrequency d (s.dom d).integral (s.dom d).integral s).setDom d
      { (s.dom d).steered (s.dom d).integral (s.dom d).integral with step := s.servoStepOf d theta }).bump
      (Obj.DOM_STEPS (domIx d)) := by
  rw [← setFrequency_dom d (s.dom d).integral (s.dom d).integral s]
  rfl

theorem servoStep_dom (d : Dom) (theta : Rat) (s : State) : (servoStep d theta s).dom d =
    { (s.dom d).steered (s.dom d).integral (s.dom d).integral with step := s.servoStepOf d theta } := by
  rw [servoStep_eq, State.dom_bump, State.dom_setDom]

theorem servoStep_within (h : s.Within (servoFootprint d) u) (theta : Rat) :
    s.Within (servoFootprint d) (servoStep d theta u) := by
  rw [servoStep_eq]
  exact ((setFrequency_within h d _ _ (by cases d <;> decide) List.mem_cons_self).setDom d _ List.mem_cons_self).bump _
    (by cases d <;> decide)

/-! ### The state of the domain after a measurement (R214) -/

/-- The state that a processed measurement leads to; `near` says whether it lies within the lock threshold. -/
def DomState.nextMode (x : DomState) (near : Prop) [Decidable near] : DomMode :=
  match x.mode with
  | .locked => .locked
  | .free => .acquiring
  | .acquiring => if 7 ≤ x.lockRun ∧ near then .locked else .acquiring
  | .holdover => if 7 ≤ x.lockRun ∧ near then .locked else .holdover

theorem lockState_eq (d : Dom) (theta : Rat) (s : State) : ∃ run, lockState d theta s = s.setDom d { s.dom d with
    mode := (s.dom d).nextMode (|theta| ≤ (s.reg (Obj.DOM_LOCK_THRESHOLD (domIx d)) : Nat)), lockRun := run } := by
  have hrun : ∀ (near : Prop) [Decidable near] (n : Nat), 8 ≤ (if near then n + 1 else 0) ↔ 7 ≤ n ∧ near := by
    intro near _ n
    by_cases h : near <;> simp [h]
  unfold lockState DomState.nextMode
  extract_lets x near run
  cases hmode : x.mode with
  | locked =>
    have hself : { s.dom d with mode := .locked, lockRun := x.lockRun } = s.dom d := by rw [← hmode]
    exact ⟨x.lockRun, by rw [hself, State.setDom_self]⟩
  | free => exact ⟨run, rfl⟩
  | acquiring => exact ⟨run, by simp only [run, hrun]; rfl⟩
  | holdover => exact ⟨run, by simp only [run, hrun]; rfl⟩

/-- A measurement has been processed. -/
def noteMeasured (d : Dom) (tick : Nat) (s : State) : State :=
  (s.setDom d { s.dom d with lastTick := some (tick : Int), present := true, valueSet := true, outlier := false }).bump
    (Obj.DOM_MEASUREMENTS (domIx d))

theorem noteMeasured_within (h : s.Within F u) (tick : Nat) (ho : F.objs (Obj.DOM_MEASUREMENTS (domIx d)) = true)
    (hp : .time ∈ F.parts) : s.Within F (noteMeasured d tick u) := (h.setDom d _ hp).bump _ ho

theorem noteMeasured_counts (d : Dom) (tick : Nat) (s : State) :
    (noteMeasured d tick s).reg (Obj.DOM_MEASUREMENTS (domIx d)) =
      (s.reg (Obj.DOM_MEASUREMENTS (domIx d)) + 1) % 2 ^ 32 := by
  rw [noteMeasured, State.reg_bump, if_pos rfl, (widthOf_domCounters d).1]
  simp only [State.setDom_frame]

/-! ### A measurement (R212 to R214) -/

/-- DOMx_OFFSET shows the measurement, saturating. -/
def showOffset (d : Dom) (theta : Rat) (s : State) : State := s.setI32 (Obj.DOM_OFFSET (domIx d)) (roundRat theta)

/-- The measurement lies beyond the step threshold. -/
def State.far (s : State) (d : Dom) (theta : Rat) : Bool :=
  decide ((s.reg (Obj.DOM_STEP_THRESHOLD (domIx d)) : Rat) < |theta|)

/-- The servo steps the counter, or sets the frequency. -/
def servo (d : Dom) (theta : Rat) (s : State) : State :=
  if (s.far d theta && s.reg (Obj.DOM_STEP_MAX (domIx d)) != 0) = true
  then servoStep d theta (showOffset d theta s) else servoUpdate d theta (showOffset d theta s)

/-- The measurement is processed. -/
def processed (d : Dom) (theta : Rat) (s : State) : State := noteMeasured d s.ticks (servo d theta s)

/-- The first outlier of a LOCKED domain is counted and not used; the second one is processed and leads to HOLDOVER; any
other measurement is processed and moves the state of the domain. -/
theorem measure_eq (d : Dom) (theta : Rat) (s : State) : measure d theta s =
    if (decide ((s.dom d).mode = .locked) && s.far d theta && !(s.dom d).outlier) = true then
      ((showOffset d theta s).setDom d { s.dom d with outlier := true }).bump (Obj.DOM_OUTLIERS (domIx d))
    else if (decide ((s.dom d).mode = .locked) && s.far d theta) = true then enterHoldover d (processed d theta s)
    else lockState d theta (processed d theta s) := rfl

theorem measure_outlier (hlocked : (s.dom d).mode = .locked) (hfar : s.far d theta = true)
    (hfirst : (s.dom d).outlier = false) : measure d theta s =
      ((showOffset d theta s).setDom d { s.dom d with outlier := true }).bump (Obj.DOM_OUTLIERS (domIx d)) := by
  simp [measure_eq, hlocked, hfar, hfirst]

theorem measure_holdover (hlocked : (s.dom d).mode = .locked) (hfar : s.far d theta = true)
    (hsecond : (s.dom d).outlier = true) : measure d theta s = enterHoldover d (processed d theta s) := by
  simp [measure_eq, hlocked, hfar, hsecond]

theorem measure_near (hnear : s.far d theta = false) : measure d theta s = lockState d theta (processed d theta s) := by
  simp [measure_eq, hnear]

theorem measure_unlocked (hmode : (s.dom d).mode ≠ .locked) :
    measure d theta s = lockState d theta (processed d theta s) := by
  simp [measure_eq, hmode]

/-! ### What a measurement leaves -/

/-- Objects that a measurement may change, unless it is an outlier or switches domains. -/
def measureFootprint (d : Dom) : Footprint :=
  eventFootprint [.time] [Obj.DOM_MEASUREMENTS (domIx d), Obj.DOM_OFFSET (domIx d), Obj.DOM_FREQ (domIx d),
    Obj.DOM_STEPS (domIx d)]

/-- The same of one that does not step. -/
def nearFootprint (d : Dom) : Footprint :=
  eventFootprint [.time] [Obj.DOM_MEASUREMENTS (domIx d), Obj.DOM_OFFSET (domIx d), Obj.DOM_FREQ (domIx d)]

/-- A domain after a processed measurement, before its state moves. -/
def DomState.measured (x : DomState) (tick : Nat) : DomState :=
  { x with lastTick := some (tick : Int), present := true, valueSet := true, outlier := false }

@[simp] theorem noteMeasured_dom (d : Dom) (tick : Nat) (s : State) :
    (noteMeasured d tick s).dom d = (s.dom d).measured tick := by
  simp [noteMeasured, DomState.measured]

theorem showOffset_within (h : s.Within F u) (theta : Rat) (ho : F.objs (Obj.DOM_OFFSET (domIx d)) = true) :
    s.Within F (showOffset d theta u) := h.setI32 _ _ ho

@[simp] theorem showOffset_dom (d : Dom) (theta : Rat) (s : State) : (showOffset d theta s).dom = s.dom := rfl

/-- Without a step the domain takes a frequency within its limit. -/
theorem servo_update (h : (s.far d theta && s.reg (Obj.DOM_STEP_MAX (domIx d)) != 0) = false) :
    ∃ y i, -s.freqLimit d ≤ y ∧ y ≤ s.freqLimit d ∧ servo d theta s = setFrequency d y i (showOffset d theta s) := by
  obtain ⟨y, i, hlow, hhigh, hservo⟩ := servoUpdate_eq d theta (showOffset d theta s)
  have hlimit : (showOffset d theta s).freqLimit d = s.freqLimit d := freqLimit_setI32 s d _
  rw [hlimit] at hlow hhigh
  exact ⟨y, i, hlow, hhigh, by rw [servo, h, if_neg Bool.false_ne_true, hservo]⟩

/-- With a step the counter is to move at the next tick. -/
theorem servo_step (h : (s.far d theta && s.reg (Obj.DOM_STEP_MAX (domIx d)) != 0) = true) :
    servo d theta s = servoStep d theta (showOffset d theta s) := if_pos h

theorem servo_within (d : Dom) (theta : Rat) (s : State) : s.Within (servoFootprint d) (servo d theta s) := by
  have hshown : s.Within (servoFootprint d) (showOffset d theta s) :=
    showOffset_within (refl _ s) theta (by cases d <;> decide)
  cases h : s.far d theta && s.reg (Obj.DOM_STEP_MAX (domIx d)) != 0 with
  | false =>
    obtain ⟨y, i, -, -, hservo⟩ := servo_update h
    rw [hservo]
    exact setFrequency_within hshown d y i (by cases d <;> decide) List.mem_cons_self
  | true =>
    rw [servo_step h]
    exact servoStep_within hshown theta

/-- Every processed measurement counts. -/
theorem processed_counts (d : Dom) (theta : Rat) (s : State) : (processed d theta s).reg (Obj.DOM_MEASUREMENTS (domIx d)) =
    (s.reg (Obj.DOM_MEASUREMENTS (domIx d)) + 1) % 2 ^ 32 := by
  have hkept : (servo d theta s).reg (Obj.DOM_MEASUREMENTS (domIx d)) = s.reg (Obj.DOM_MEASUREMENTS (domIx d)) :=
    (servo_within d theta s).obj _ 0 (by cases d <;> decide) (by decide)
  rw [processed, noteMeasured_counts, hkept]

theorem processed_within (d : Dom) (theta : Rat) (s : State) : s.Within (measureFootprint d) (processed d theta s) :=
  noteMeasured_within ((servo_within d theta s).widen (hobjs := by cases d <;> decide)) _ (by cases d <;> decide)
    List.mem_cons_self

theorem processed_mode (d : Dom) (theta : Rat) (s : State) :
    ((processed d theta s).dom d).mode = (s.dom d).mode ∧ ((processed d theta s).dom d).lockRun = (s.dom d).lockRun := by
  rw [processed, noteMeasured_dom]
  cases h : s.far d theta && s.reg (Obj.DOM_STEP_MAX (domIx d)) != 0 with
  | false =>
    obtain ⟨y, i, -, -, hservo⟩ := servo_update h
    simp [hservo, DomState.measured, DomState.steered]
  | true => simp [servo_step h, servoStep_dom, DomState.measured, DomState.steered]

/-- A measurement within the step threshold: the frequency, and nothing of the counter. -/
theorem processed_near (hnear : s.far d theta = false) : ∃ y i, -s.freqLimit d ≤ y ∧ y ≤ s.freqLimit d ∧
    (processed d theta s).dom d = ((s.dom d).steered y i).measured s.ticks ∧
    s.Within (nearFootprint d) (processed d theta s) := by
  obtain ⟨y, i, hlow, hhigh, hservo⟩ := servo_update (s := s) (d := d) (theta := theta) (by simp [hnear])
  refine ⟨y, i, hlow, hhigh, by simp [processed, hservo], ?_⟩
  rw [processed, hservo]
  exact noteMeasured_within (setFrequency_within (showOffset_within (refl _ s) theta (by cases d <;> decide)) d y i
    (by cases d <;> decide) List.mem_cons_self) _ (by cases d <;> decide) List.mem_cons_self

theorem showOffset_servoStepOf (d : Dom) (theta : Rat) (s : State) :
    (showOffset d theta s).servoStepOf d theta = s.servoStepOf d theta := by
  have hmax : (showOffset d theta s).reg (Obj.DOM_STEP_MAX (domIx d)) = s.reg (Obj.DOM_STEP_MAX (domIx d)) := by
    cases d <;> simp [showOffset, State.setI32, domIx]
  simp only [State.servoStepOf, hmax]

/-- One beyond it: the step, and the integral as the frequency. -/
theorem processed_step (hfar : s.far d theta = true) (hmax : s.reg (Obj.DOM_STEP_MAX (domIx d)) ≠ 0) :
    (processed d theta s).dom d =
      ({ (s.dom d).steered (s.dom d).integral (s.dom d).integral with step := s.servoStepOf d theta } :
        DomState).measured s.ticks ∧
    (processed d theta s).reg (Obj.DOM_STEPS (domIx d)) = (s.reg (Obj.DOM_STEPS (domIx d)) + 1) % 2 ^ 32 := by
  have hservo : servo d theta s = servoStep d theta (showOffset d theta s) := servo_step (by simp [hfar, hmax])
  have hcount : (servoStep d theta (showOffset d theta s)).reg (Obj.DOM_STEPS (domIx d)) =
      (s.reg (Obj.DOM_STEPS (domIx d)) + 1) % 2 ^ 32 := by
    rw [servoStep_eq, State.reg_bump, if_pos rfl, (widthOf_domCounters d).2.1]
    cases d <;> simp [setFrequency_eq, showOffset, State.setI32, domIx]
  refine ⟨by rw [processed, noteMeasured_dom, hservo, servoStep_dom, showOffset_dom, showOffset_servoStepOf], ?_⟩
  rw [processed, noteMeasured, State.reg_bump, if_neg (by cases d <;> decide), hservo]
  simpa only [State.setDom_frame] using hcount

/-- The state of the domain is all that moves last. -/
theorem lockState_within (h : s.Within F u) (theta : Rat) (hp : .time ∈ F.parts) : s.Within F (lockState d theta u) := by
  obtain ⟨run, hlock⟩ := lockState_eq d theta u
  rw [hlock]
  exact h.setDom d _ hp

theorem lockState_reg (d : Dom) (theta : Rat) (s : State) : (lockState d theta s).reg = s.reg := by
  obtain ⟨run, hlock⟩ := lockState_eq d theta s
  simp [hlock]

/-- The state that a processed measurement leads to. -/
theorem lockState_processed (d : Dom) (theta : Rat) (s : State) : ∃ run,
    (lockState d theta (processed d theta s)).dom d = { (processed d theta s).dom d with
      mode := (s.dom d).nextMode (|theta| ≤ (s.reg (Obj.DOM_LOCK_THRESHOLD (domIx d)) : Nat)), lockRun := run } := by
  obtain ⟨run, hlock⟩ := lockState_eq d theta (processed d theta s)
  obtain ⟨hmode, hrun⟩ := processed_mode d theta s
  have hthreshold : (processed d theta s).reg (Obj.DOM_LOCK_THRESHOLD (domIx d)) =
      s.reg (Obj.DOM_LOCK_THRESHOLD (domIx d)) :=
    (processed_within d theta s).obj _ 0 (by cases d <;> decide) (by decide)
  refine ⟨run, ?_⟩
  rw [hlock, State.dom_setDom]
  simp only [DomState.nextMode, hmode, hrun, hthreshold]

/-- Everything that a measurement may change. -/
theorem measure_within (d : Dom) (theta : Rat) (s : State) :
    s.Within (eventFootprint [.time] (servoObjs d)) (measure d theta s) := by
  have hprocessed : s.Within (eventFootprint [.time] (servoObjs d)) (processed d theta s) :=
    (processed_within d theta s).widen (hobjs := by cases d <;> decide)
  rw [measure_eq]
  split
  · exact ((showOffset_within (refl _ s) theta (by cases d <;> decide)).setDom d _ List.mem_cons_self).bump _
      (by cases d <;> decide)
  · split
    · exact hprocessed.trans ((enterHoldover_within (refl _ _) d).widen (hobjs := by cases d <;> decide))
    · exact lockState_within hprocessed theta List.mem_cons_self

/-! ### A measurement and what the Cox holds of PTP (R215) -/

theorem modPtp_setDom (s : State) (f : PtpState → PtpState) (d : Dom) (x : DomState) :
    (s.modPtp f).setDom d x = (s.setDom d x).modPtp f := by
  cases d <;> rfl

theorem modPtp_setReg (s : State) (f : PtpState → PtpState) (o v : Nat) :
    (s.modPtp f).setReg o v = (s.setReg o v).modPtp f := rfl

theorem modPtp_bump (s : State) (f : PtpState → PtpState) (o : Nat) : (s.modPtp f).bump o = (s.bump o).modPtp f := rfl

theorem modPtp_setI32 (s : State) (f : PtpState → PtpState) (o : Nat) (v : Int) :
    (s.modPtp f).setI32 o v = (s.setI32 o v).modPtp f := rfl

theorem modPtp_modCatch (s : State) (f : PtpState → PtpState) (g : CatchState → CatchState) :
    (s.modPtp f).modCatch g = (s.modCatch g).modPtp f := rfl

theorem modPtp_catchGen (s : State) (f : PtpState → PtpState) : (s.modPtp f).time.catchGen = s.time.catchGen := rfl

theorem modPtp_active (s : State) (f : PtpState → PtpState) : (s.modPtp f).active = s.active := rfl

theorem modPtp_issuing (s : State) (f : PtpState → PtpState) : (s.modPtp f).issuing = s.issuing := rfl

theorem followDomain_modPtp (n : Nat) (f : PtpState → PtpState) (s : State) :
    followDomain n (s.modPtp f) = (followDomain n s).modPtp f := by
  unfold followDomain
  rw [modPtp_catchGen, apply_ite (State.modPtp · f)]
  rfl

theorem autoSwitch_modPtp (d : Dom) (f : PtpState → PtpState) (s : State) :
    autoSwitch d (s.modPtp f) = (autoSwitch d s).modPtp f := by
  simp only [autoSwitch, modPtp_active, modPtp_issuing, modPtp_catchGen, State.modPtp_frame, modPtp_setReg,
    modPtp_modCatch, followDomain_modPtp, apply_ite (State.modPtp · f)]
  rfl

theorem enterHoldover_modPtp (d : Dom) (f : PtpState → PtpState) (s : State) :
    enterHoldover d (s.modPtp f) = (enterHoldover d s).modPtp f := by
  simp only [enterHoldover, State.modPtp_frame, modPtp_setDom, autoSwitch_modPtp]

theorem setFrequency_modPtp (d : Dom) (y i : Rat) (f : PtpState → PtpState) (s : State) :
    setFrequency d y i (s.modPtp f) = (setFrequency d y i s).modPtp f := by
  simp only [setFrequency_eq, State.modPtp_frame, modPtp_setDom, modPtp_setI32]

theorem servoUpdate_modPtp (d : Dom) (theta : Rat) (f : PtpState → PtpState) (s : State) :
    servoUpdate d theta (s.modPtp f) = (servoUpdate d theta s).modPtp f := setFrequency_modPtp d _ _ f s

theorem servoStep_modPtp (d : Dom) (theta : Rat) (f : PtpState → PtpState) (s : State) :
    servoStep d theta (s.modPtp f) = (servoStep d theta s).modPtp f := by
  have hstep : (s.modPtp f).servoStepOf d theta = s.servoStepOf d theta := rfl
  simp only [servoStep_eq, State.modPtp_frame, setFrequency_modPtp, modPtp_setDom, modPtp_bump, hstep]

theorem lockState_modPtp (d : Dom) (theta : Rat) (f : PtpState → PtpState) (s : State) :
    lockState d theta (s.modPtp f) = (lockState d theta s).modPtp f := by
  simp only [lockState, State.modPtp_frame, modPtp_setDom]
  cases (s.dom d).mode <;> rfl

theorem processed_modPtp (d : Dom) (theta : Rat) (f : PtpState → PtpState) (s : State) :
    processed d theta (s.modPtp f) = (processed d theta s).modPtp f := by
  have hfar : (s.modPtp f).far d theta = s.far d theta := rfl
  have hnote : ∀ u : State, noteMeasured d s.ticks (u.modPtp f) = (noteMeasured d s.ticks u).modPtp f := fun u => by
    simp only [noteMeasured, State.modPtp_frame, modPtp_setDom, modPtp_bump]
  simp only [processed, servo, showOffset, State.modPtp_frame, hfar, modPtp_setI32, servoStep_modPtp, servoUpdate_modPtp,
    ← apply_ite (State.modPtp · f), hnote]

/-- A measurement neither reads nor changes what the Cox holds of PTP. -/
theorem measure_modPtp (d : Dom) (theta : Rat) (f : PtpState → PtpState) (s : State) :
    measure d theta (s.modPtp f) = (measure d theta s).modPtp f := by
  have hfar : (s.modPtp f).far d theta = s.far d theta := rfl
  simp only [measure_eq, State.modPtp_frame, hfar, showOffset, processed_modPtp, modPtp_setI32, modPtp_setDom,
    modPtp_bump, enterHoldover_modPtp, lockState_modPtp, apply_ite (State.modPtp · f)]

theorem measure_ptp (d : Dom) (theta : Rat) (s : State) : (measure d theta s).time.ptp = s.time.ptp := by
  have hself : s.modPtp (fun _ => s.time.ptp) = s := rfl
  calc (measure d theta s).time.ptp = (measure d theta (s.modPtp fun _ => s.time.ptp)).time.ptp := by rw [hself]
    _ = s.time.ptp := by rw [measure_modPtp]; rfl

end Servo

end Sys2Proof.Machine
end

section
/-! The host commands of the domains and their sources (08 R213 to R215, R220, R221). -/

namespace Sys2Proof.Machine

set_option Elab.async false

open State.Within

section Sources

variable {s u : State} {d : Dom}

/-! ### A host command of the time objects -/

/-- The objects of the network time have no reserved bits (00 R10). -/
theorem keptBits_time {obj : Nat} (hlow : 0x480000 ≤ obj) (hhigh : obj < 0x490000) (o : Nat) :
    keptBits obj o = 0xFF#8 := by
  unfold keptBits
  simp only [Obj.X_MAP, Obj.GREY_HIGH_RED, Obj.GREY_LOW_BLUE, Obj.COEF_TABLE, Obj.SLOT_TABLE, Obj.REGION_ENTRY,
    Obj.REGION_TABLE, Obj.AMBIENT_TABLE, Obj.TOD_TABLE, Bool.and_eq_true, Bool.or_eq_true, decide_eq_true_eq]
  rw [if_neg (by omega), if_neg (by omega), if_neg (by omega), if_neg (by omega), if_neg (by omega), if_neg (by omega),
    if_neg (by omega), if_neg (by omega)]

/-- An admitted write of a time object that is done is answered with success; it leaves the time and the objects that its
action leaves, and has its frame. -/
theorem hostWrite_time {act : Action} {rq : Req} {obj : Nat} {data : Bytes} {objs : List Nat}
    (hadmits : s.admitsWrite rq obj data = true) (hlow : 0x480000 ≤ obj) (hhigh : obj < 0x490000)
    (hact : act (wholeWrite rq obj data) (s.asked (wholeWrite rq obj data)) = .done u)
    (hu : (s.asked (wholeWrite rq obj data)).Within (eventFootprint [.time] objs) u) :
    ∃ t, hostWrite act rq obj data s = .next t ∧ t.answered rq 0 = true ∧ t.time = u.time ∧ t.reg = u.reg ∧
      s.hostFrame t [.time] objs [] := by
  have hkept := keptBits_time hlow hhigh
  obtain ⟨t, hexec, hanswer, -, hreg, hframe⟩ := hostWrite_rails hadmits hkept hact hu
  have ht : t = settle (conclude (wholeWrite rq obj data) (.done u)) :=
    Host.Outcome.next.inj (hexec.symm.trans (hostWrite_asked hadmits hkept hact))
  exact ⟨t, hexec, hanswer, by simp [ht, conclude], hreg, hframe⟩

/-- The domains as a host command finds them. -/
@[simp] theorem State.dom_asked (s : State) (q : Request) : (s.asked q).dom = s.dom := State.dom_of_time (by simp)

theorem State.trim_asked (s : State) (q : Request) (d : Dom) : (s.asked q).trim d = s.trim d := by
  cases d <;> simp only [State.trim, State.freqLimit, State.limited, State.sreg, domIx] <;>
    rw [s.reg_asked q (Obj.DOM_FREQ_LIMIT _), s.reg_asked q (Obj.DOM_FREQ_TRIM _)]

/-! ### Commands on a counter (R213) -/

/-- A command on a counter waits for the next tick. -/
theorem hostWrite_queue {act : Action} {rq : Req} {obj : Nat} {data : Bytes} {a : TickAction}
    (hadmits : s.admitsWrite rq obj data = true) (hlow : 0x480000 ≤ obj) (hhigh : obj < 0x490000)
    (hact : ∀ t, act (wholeWrite rq obj data) t = .done (queueAction d a t)) :
    ∃ t, hostWrite act rq obj data s = .next t ∧ t.answered rq 0 = true ∧
      t.dom d = { s.dom d with actions := (s.dom d).actions ++ [a], valueSet := true } ∧
      (∀ o, o ≠ d → t.dom o = s.dom o) ∧ s.hostFrame t [.time] [] [] := by
  obtain ⟨t, hexec, hanswer, htime, -, hframe⟩ := hostWrite_time hadmits hlow hhigh (hact _)
    ((refl (eventFootprint [.time] []) _).setDom d _)
  have hdom := State.dom_of_time htime
  exact ⟨t, hexec, hanswer, by simp [hdom, queueAction],
    fun o ho => by rw [hdom, queueAction, State.dom_setDom_ne _ _ ho, State.dom_asked], hframe⟩

/-! ### DOMx_SOURCE (R214, R225) -/

/-- A source that measures leaves the domain as it is. -/
theorem actDomSource_measures {q : Request} (h : leNat q.data = 1 ∨ leNat q.data = 2) :
    actDomSource d q s = .done (s.setReg (Obj.DOM_SOURCE (domIx d)) (leNat q.data)) := by
  rcases h with h | h <;> simp [actDomSource, h]

/-- Any other frees it: it runs with its trim, and has no integral. -/
theorem actDomSource_frees {q : Request} (h1 : leNat q.data ≠ 1) (h2 : leNat q.data ≠ 2) :
    actDomSource d q s = .done (setFrequency d (s.trim d) 0 ((s.setReg (Obj.DOM_SOURCE (domIx d)) (leNat q.data)).setDom d
      { s.dom d with mode := .free, lockRun := 0, outlier := false })) := by
  simp [actDomSource, h1, h2]

/-! ### ACTIVE_DOMAIN (R220) -/

theorem State.catchGen_modCatch (s : State) (f : CatchState → CatchState) :
    (s.modCatch f).time.catchGen = f s.time.catchGen := rfl

theorem followDomain_catchGen (n : Nat) (s : State) :
    (followDomain n s).time.catchGen = { s.time.catchGen with dom := n } := by
  unfold followDomain
  split
  next h => rw [← h]
  next => rfl

theorem followDomain_reg (n : Nat) (s : State) : (followDomain n s).reg Obj.ACTIVE_DOMAIN = s.reg Obj.ACTIVE_DOMAIN := by
  unfold followDomain
  split <;> simp

/-- A switch counts where the domain changes. -/
theorem followDomain_counts (n : Nat) (s : State) : (followDomain n s).reg Obj.DOMAIN_SWITCHES =
    if s.time.catchGen.dom = n then s.reg Obj.DOMAIN_SWITCHES else (s.reg Obj.DOMAIN_SWITCHES + 1) % 2 ^ 32 := by
  have hwidth : widthOf Obj.DOMAIN_SWITCHES = 32 := by decide
  unfold followDomain
  split
  · rfl
  · rw [State.reg_bump, if_pos rfl, hwidth]
    simp only [State.modCatch_frame]

/-- The domain that a written ACTIVE_DOMAIN names. -/
def activeOf (data : Bytes) : Nat := if leNat data = 1 then 1 else 0

theorem actActiveDomain_eq (q : Request) (s : State) : actActiveDomain q s =
    .done (if s.issuing = true
      then (s.setReg Obj.ACTIVE_DOMAIN (leNat q.data)).modCatch fun g => { g with hostDom := some (activeOf q.data) }
      else followDomain (activeOf q.data) (s.setReg Obj.ACTIVE_DOMAIN (leNat q.data))) := rfl

/-! ### A source is lost (R214, R221) -/

@[simp] theorem State.catchGen_setDom (s : State) (d : Dom) (x : DomState) :
    (s.setDom d x).time.catchGen = s.time.catchGen := by
  cases d <;> rfl

/-- A free domain, and one in HOLDOVER, only lose the source. -/
theorem sourceLost_idle (h : (s.dom d).mode = .free ∨ (s.dom d).mode = .holdover) :
    sourceLost d s = s.setDom d { s.dom d with present := false } := by
  rcases h with h | h <;> simp [sourceLost, h]

/-- A domain that goes to HOLDOVER without its source, and runs on with its integral. -/
def State.bereft (s : State) (d : Dom) : State :=
  (setFrequency d (s.dom d).integral (s.dom d).integral (s.setDom d { s.dom d with present := false })).setDom d
    { (s.dom d).steered (s.dom d).integral (s.dom d).integral with
      present := false, mode := .holdover, lockRun := 0, outlier := false }

/-- The other domain may become the active one. -/
theorem sourceLost_running (h : (s.dom d).mode = .acquiring ∨ (s.dom d).mode = .locked) :
    sourceLost d s = autoSwitch d (s.bereft d) := by
  rcases h with h | h <;> simp [sourceLost, h, enterHoldover, State.bereft, DomState.steered]

theorem bereft_dom (s : State) (d : Dom) : (s.bereft d).dom d =
    { (s.dom d).steered (s.dom d).integral (s.dom d).integral with
      present := false, mode := .holdover, lockRun := 0, outlier := false } := State.dom_setDom ..

theorem bereft_dom_ne (s : State) {o : Dom} (ho : o ≠ d) : (s.bereft d).dom o = s.dom o := by
  rw [State.bereft, State.dom_setDom_ne _ _ ho, setFrequency_eq, State.dom_setI32, State.dom_setDom_ne _ _ ho,
    State.dom_setDom_ne _ _ ho]

theorem bereft_catchGen (s : State) (d : Dom) : (s.bereft d).time.catchGen = s.time.catchGen := by
  simp [State.bereft, setFrequency_eq, State.setI32]

theorem bereft_within (s : State) (d : Dom) : s.Within (eventFootprint [.time] [Obj.DOM_FREQ (domIx d)]) (s.bereft d) :=
  (setFrequency_within ((refl _ s).setDom d _ List.mem_cons_self) d _ _ (by cases d <;> decide)
    List.mem_cons_self).setDom d _ List.mem_cons_self

/-- Where `d` was the active domain and the other one, `o`, is LOCKED, the generator follows `o`. -/
theorem sourceLost_follows {o : Dom} (hne : o ≠ d) (h : (s.dom d).mode = .acquiring ∨ (s.dom d).mode = .locked)
    (hauto : s.flag Obj.AUTO_SWITCH = true) (hactive : s.active = d) (hlocked : (s.dom o).mode = .locked) :
    (sourceLost d s).reg Obj.ACTIVE_DOMAIN = (if s.issuing = true ∧ s.time.catchGen.hostDom ≠ none
      then s.reg Obj.ACTIVE_DOMAIN else domIx o) ∧
    (s.issuing = true → (sourceLost d s).active = d ∧ (sourceLost d s).time.catchGen.autoDom = some (domIx o)) ∧
    (s.issuing = false → (sourceLost d s).active = o) := by
  have hkept : ∀ r, r ≠ Obj.DOM_FREQ (domIx d) → (s.bereft d).reg r = s.reg r := fun r hr =>
    (bereft_within s d).obj r 0 (by simpa [eventFootprint] using hr) (by decide)
  have hcatch := bereft_catchGen s d
  have hissuing : (s.bereft d).issuing = s.issuing := congrArg CatchState.issuing hcatch
  have hfollows := autoSwitch_follows (s := s.bereft d) hne
    (by rw [State.flag, hkept _ (by cases d <;> decide)]; exact hauto)
    (by rw [State.active, hcatch]; exact hactive) (by rw [bereft_dom_ne s hne, hlocked])
  rw [hissuing, hcatch, hkept _ (by cases d <;> decide), ← sourceLost_running h] at hfollows
  exact hfollows

/-! ### A PTP Sync (R215) -/

theorem State.Within.modPtp {F : Footprint} (h : s.Within F u) (f : PtpState → PtpState)
    (hp : .time ∈ F.parts := by decide) : s.Within F (u.modPtp f) := h.of_fields (time := .inl hp)

/-- What the Cox holds of PTP after a Sync that is complete. -/
def PtpState.synced (p : PtpState) (from' : PtpPort) (difference : Int) : PtpState :=
  { p with waiting := none, lastSync := some (from', difference) }

/-- A Sync of the chosen master is a measurement of the PTP domain, where the path delay is known. -/
theorem ptpMessage_sync {m : PtpMessage} {origin : Time80} {delay : Int} (hdomain : m.domain = s.reg Obj.PTP_DOMAIN_NUMBER)
    (hparent : s.ptpParent = some m.sender) (hbody : m.body = .sync (some origin))
    (hdelay : s.time.ptp.delay = some (m.sender, delay)) (hsource : s.reg (Obj.DOM_SOURCE (domIx s.ptpDom)) = 2) :
    ptpMessage m s = (measure s.ptpDom (ptpTheta s.ptpNow (fineTime origin) (m.correction * 65536) delay) s).modPtp
      fun p => p.synced m.sender (s.ptpNow - fineTime origin - m.correction * 65536) := by
  have hdom : ∀ f, (s.modPtp f).ptpDom = s.ptpDom := fun _ => rfl
  have hsynced : ptpMessage m s = ptpSynced m.sender s.ptpNow (fineTime origin) (m.correction * 65536) s := by
    simp [ptpMessage, hdomain, hbody, hparent]
  rw [hsynced, ← measure_modPtp]
  simp only [ptpSynced, hdelay, if_true, ptpMeasure, hdom, State.modPtp_frame, hsource, ptpTheta, PtpState.synced]

end Sources

/-! ### The obligation -/

/-- Settles O40: a measurement is an outlier, leads to HOLDOVER, or is processed (`measure_eq`), by a frequency
(`processed_near`) or a step (`processed_step`); a PTP Sync is one beside what the Cox holds of PTP (`ptpMessage_sync`,
`measure_modPtp`). A domain that loses its source goes on with its integral (`sourceLost_running`), and each host command
acts on the state that its request has asked (`hostWrite_time`). -/
theorem domainsFollowTheirSources : Obligations.DomainsFollowTheirSources := by
  refine ⟨?sync, ?outlier, ?secondOutlier, ?near, ?step, ?lost, ?lostIdle, ?set, ?adjust, ?source, ?active⟩
  case sync =>
    intro s m origin delay u hacts hruns hdomain hparent hbody hdelay hsource hu
    have hmessage := ptpMessage_sync hdomain hparent hbody hdelay hsource
    rw [← hu] at hmessage
    refine ⟨settle (ptpMessage m s), onIslandIf_acts s _ _ 5 hacts hruns, fun d => ?_, ?_, fun o _ => ?_, ?_, ?_⟩
    all_goals rw [hmessage]
    · simp only [State.dom_settle, State.modPtp_frame]
    · rfl
    · simp only [settle_frame, State.modPtp_frame]
    · have hptp : u.time.ptp = s.time.ptp := by rw [hu, measure_ptp]
      rw [← hptp]
      rfl
    · rw [hu]
      exact ((measure_within _ _ s).modPtp _ List.mem_cons_self).eventFrame
  case outlier =>
    intro s theta d hlocked hfirst hfar
    have hmeasure := measure_outlier hlocked (decide_eq_true hfar) hfirst
    have hshown : s.Within (eventFootprint [.time, .live] [Obj.DOM_OUTLIERS (domIx d), Obj.DOM_OFFSET (domIx d)])
        (showOffset d theta s) := showOffset_within (refl _ s) theta (by cases d <;> decide)
    rw [hmeasure]
    refine ⟨by simp, ?_, ?_, ((hshown.setDom d _ List.mem_cons_self).bump _ (by cases d <;> decide)).unsettledFrame⟩
    · rw [State.reg_bump, if_pos rfl, (widthOf_domCounters d).2.2]
      cases d <;> simp [showOffset, State.setI32, domIx]
    · cases d <;> simp [showOffset, State.setI32, domIx]
  case secondOutlier =>
    intro s theta d hlocked hsecond hfar
    rw [measure_holdover hlocked (decide_eq_true hfar) hsecond]
    refine ⟨by simp, by simp, ?_⟩
    rw [← processed_counts d theta s]
    exact (enterHoldover_within (refl _ _) d).obj _ 0 (by cases d <;> decide) (by decide)
  case near =>
    intro s t theta d hnear ht
    have hfar : s.far d theta = false := decide_eq_false (not_lt.mpr hnear)
    obtain ⟨y, i, hlow, hhigh, hdom, hwithin⟩ := processed_near hfar
    obtain ⟨run, hlock⟩ := lockState_processed d theta s
    have hframe : s.Within (eventFootprint [.time, .live] [Obj.DOM_MEASUREMENTS (domIx d), Obj.DOM_OFFSET (domIx d),
        Obj.DOM_FREQ (domIx d)]) (lockState d theta (processed d theta s)) :=
      (lockState_within hwithin theta List.mem_cons_self).widen (by decide) fun _ => id
    rw [measure_near hfar] at ht
    rw [hdom, ← ht] at hlock
    rw [hlock]
    refine ⟨rfl, rfl, hhigh, hlow, rfl, rfl, rfl, fun h => ?_, fun h => ?_, fun h => ?_, ?_,
      ht ▸ hframe.unsettledFrame⟩
    · simp [DomState.nextMode, h]
    · simp [DomState.nextMode, h]
    · rcases h with h | h <;> simp [DomState.nextMode, h]
    · rw [ht, lockState_reg, processed_counts]
  case step =>
    intro s t theta d hmode hmax hfar ht
    have hfar1 : s.far d theta = true := decide_eq_true hfar
    obtain ⟨hdom, hsteps⟩ := processed_step hfar1 hmax
    obtain ⟨run, hlock⟩ := lockState_processed d theta s
    have hframe : s.Within (eventFootprint [.time, .live] [Obj.DOM_MEASUREMENTS (domIx d), Obj.DOM_OFFSET (domIx d),
        Obj.DOM_FREQ (domIx d), Obj.DOM_STEPS (domIx d)]) (lockState d theta (processed d theta s)) :=
      (lockState_within (processed_within d theta s) theta List.mem_cons_self).widen (by decide) fun _ => id
    rw [measure_unlocked hmode] at ht
    rw [hdom, ← ht] at hlock
    rw [hlock]
    exact ⟨rfl, rfl, rfl, by rw [ht, lockState_reg, hsteps], ht ▸ hframe.unsettledFrame⟩
  case lost =>
    intro s d hacts hmode
    have hlost := sourceLost_running hmode
    have hdom : (settle (sourceLost d s)).dom = (s.bereft d).dom := by rw [State.dom_settle, hlost, autoSwitch_dom]
    refine ⟨settle (sourceLost d s), onIsland_acts s _ 5 hacts, ?_, ?_, ?_, ?_, fun o ho => ⟨?_, ?_⟩, ?_⟩
    · rw [hdom, bereft_dom]
    · rw [hdom, bereft_dom]
    · rw [hdom, bereft_dom]; rfl
    · rw [hdom, bereft_dom]; rfl
    · rw [hdom, bereft_dom_ne s ho]
    · exact sourceLost_follows ho hmode
    · rw [hlost]
      exact ((bereft_within s d).widen (hobjs := by cases d <;> decide)).trans
        ((autoSwitch_within d _).widen (hobjs := by cases d <;> decide)) |>.eventFrame
  case lostIdle =>
    intro s d hacts hmode
    refine ⟨settle (sourceLost d s), onIsland_acts s _ 5 hacts, ?_, ?_⟩ <;> rw [sourceLost_idle hmode]
    · rw [State.dom_settle, State.dom_setDom]
    · exact ((refl (eventFootprint [.time] []) s).setDom d _).eventFrame
  case set =>
    intro s rq d data hadmits
    exact hostWrite_queue hadmits (by cases d <;> decide) (by cases d <;> decide) fun _ => rfl
  case adjust =>
    intro s rq d data hadmits
    exact hostWrite_queue hadmits (by cases d <;> decide) (by cases d <;> decide) fun _ => rfl
  case source =>
    intro s rq d data hadmits
    have hwithin : ∀ q, (s.asked q).Within (eventFootprint [.time] [Obj.DOM_SOURCE (domIx d), Obj.DOM_FREQ (domIx d)])
        ((s.asked q).setReg (Obj.DOM_SOURCE (domIx d)) (leNat data)) := fun q =>
      (refl _ _).setReg _ _ (by cases d <;> decide)
    by_cases h : leNat data = 1 ∨ leNat data = 2
    · obtain ⟨t, hexec, hanswer, htime, hreg, hframe⟩ := hostWrite_time hadmits (by cases d <;> decide)
        (by cases d <;> decide) (actDomSource_measures h) (hwithin _)
      exact ⟨t, hexec, hanswer, by rw [hreg]; exact (State.reg_setReg ..).trans (if_pos rfl),
        fun _ => by simp [htime], fun h1 h2 => absurd h (by simp [h1, h2]), hframe⟩
    · obtain ⟨h1, h2⟩ := not_or.mp h
      obtain ⟨t, hexec, hanswer, htime, hreg, hframe⟩ := hostWrite_time hadmits (by cases d <;> decide)
        (by cases d <;> decide) (actDomSource_frees h1 h2)
        (setFrequency_within ((hwithin _).setDom d _ List.mem_cons_self) d _ _ (by cases d <;> decide) List.mem_cons_self)
      have hdom := State.dom_of_time htime
      refine ⟨t, hexec, hanswer, ?_, fun h12 => absurd h12 h, fun _ _ => ?_, hframe⟩
      · rw [hreg, setFrequency_eq]
        cases d <;> simp [State.setI32, domIx, wholeWrite]
      · rw [hdom, setFrequency_dom, State.dom_setDom, State.trim_asked, State.dom_asked]
        exact ⟨rfl, rfl, rfl, rfl, rfl, fun o ho => by
          rw [setFrequency_eq, State.dom_setI32, State.dom_setDom_ne _ _ ho, State.dom_setDom_ne _ _ ho, State.dom_setReg,
            State.dom_asked]⟩
  case active =>
    intro s rq data hadmits
    have hissuing : ∀ q, (s.asked q).issuing = s.issuing := fun q => by simp [State.issuing]
    have hswitches : ∀ q, (s.asked q).reg Obj.DOMAIN_SWITCHES = s.reg Obj.DOMAIN_SWITCHES := fun q => s.reg_asked q _
    have hset : ∀ q, (s.asked q).Within (eventFootprint [.time] [Obj.ACTIVE_DOMAIN, Obj.DOMAIN_SWITCHES])
        ((s.asked q).setReg Obj.ACTIVE_DOMAIN (leNat data)) := fun q => (refl _ _).setReg _ _
    have hact := actActiveDomain_eq (wholeWrite rq Obj.ACTIVE_DOMAIN data) (s.asked (wholeWrite rq Obj.ACTIVE_DOMAIN data))
    rw [hissuing] at hact
    cases h : s.issuing with
    | true =>
      rw [h, if_pos rfl] at hact
      obtain ⟨t, hexec, hanswer, htime, hreg, hframe⟩ := hostWrite_time hadmits (by decide) (by decide) hact
        ((hset _).modCatch _)
      refine ⟨t, hexec, hanswer, ?_, fun _ => ⟨?_, ?_⟩, nofun, hframe⟩
      · simp [hreg, wholeWrite]
      · simp only [htime, State.catchGen_modCatch, State.setReg_frame, State.asked_frame]
        rfl
      · simp [hreg, hswitches]
    | false =>
      rw [h, if_neg Bool.false_ne_true] at hact
      obtain ⟨t, hexec, hanswer, htime, hreg, hframe⟩ := hostWrite_time hadmits (by decide) (by decide) hact
        ((hset _).trans (followDomain_within _ _))
      refine ⟨t, hexec, hanswer, ?_, nofun, fun _ => ⟨?_, ?_⟩, hframe⟩
      · rw [hreg, followDomain_reg]
        simp [wholeWrite]
      · simp only [htime, followDomain_catchGen, State.setReg_frame, State.asked_frame]
        rfl
      · have hother : Obj.DOMAIN_SWITCHES ≠ Obj.ACTIVE_DOMAIN := by decide
        simp only [hreg, followDomain_counts, State.reg_setReg, if_neg hother, hswitches, State.setReg_frame,
          State.asked_frame]
        rfl

end Sys2Proof.Machine
end

section
/-! The statement of the family "network time and catch" that fails: its counterexample, a state that the model evaluates. -/

namespace Sys2Proof.Machine

set_option Elab.async false

/-! ### A delay measurement on a port that is not UP, beside a live bit that has not settled (08 R210, 13 R326) -/

/-- A running device whose live bit 9 is set although no clock fault stands; neither of its ports is UP. -/
def staleDevice : State := { runningDevice with fault := { live := [9] } }

/-- DELAY_MEASURE cannot occur there, and leaves the device as it is. -/
theorem staleDevice_measures : exec (.delayMeasure .a) staleDevice = .next staleDevice :=
  gate_idle staleDevice (delayMeasure .a) (staleDevice.alive 5 && staleDevice.up .a) (by decide) (by decide)

theorem staleDevice_live :
    staleDevice.fault.live = [9] ∧ staleDevice.fault.live.filter staleDevice.reporting = [] := by
  decide

/-- Refutes O41: its third clause, DELAY_MEASURE on a port that is not UP, promises a frame in which the live bits of
sources that no longer report have settled (13 R326). The model lets no event occur there: it leaves the device as it
is, and settles nothing. They differ where a live bit has a source that does not report, which the statement does not
exclude: `staleDevice` keeps its bit. The same holds of PTP_DELAY_REQ_SEND while no master is chosen. -/
theorem not_timeMessagesAreExchanged : ¬ Obligations.TimeMessagesAreExchanged := by
  rintro ⟨-, -, notUp, -⟩
  obtain ⟨t, hexec, -, hparts, -⟩ := notUp staleDevice .a (by decide) (by decide)
  rw [staleDevice_measures, Host.Outcome.next.injEq] at hexec
  have hlive : t.fault.live = staleDevice.fault.live.filter t.reporting := hparts .live (by decide)
  rw [← hexec, staleDevice_live.2, staleDevice_live.1] at hlive
  cases hlive

end Sys2Proof.Machine
end

section
/-! The ports of Rovan below the packet layer (chapter 09): what is read of a port after an update, and the ways into the
states of its training. -/

namespace Sys2Proof.Machine

set_option Elab.async false

open State.Within

section Ports

variable {F : Footprint} {s u : State} {p : Port}

/-! ### Reads of a port -/

/-- The ports stand in one part of the state. -/
theorem State.ports_of_link (h : u.link = s.link) : u.portLink = s.portLink ∧ u.stream = s.stream := by
  constructor <;> funext p <;> cases p <;> simp only [State.portLink, State.stream, h]

@[simp] theorem State.setReg_ports (s : State) (o v : Nat) :
    (s.setReg o v).portLink = s.portLink ∧ (s.setReg o v).stream = s.stream := ⟨rfl, rfl⟩

@[simp] theorem State.setFlag_ports (s : State) (o : Nat) (b : Bool) :
    (s.setFlag o b).portLink = s.portLink ∧ (s.setFlag o b).stream = s.stream := ⟨rfl, rfl⟩

@[simp] theorem State.bumpAt_ports (s : State) (o i n : Nat) :
    (s.bumpAt o i n).portLink = s.portLink ∧ (s.bumpAt o i n).stream = s.stream := ⟨rfl, rfl⟩

@[simp] theorem State.bump_ports (s : State) (o : Nat) :
    (s.bump o).portLink = s.portLink ∧ (s.bump o).stream = s.stream := ⟨rfl, rfl⟩

@[simp] theorem State.bumpTab_ports (s : State) (o k n b : Nat) :
    (s.bumpTab o k n b).portLink = s.portLink ∧ (s.bumpTab o k n b).stream = s.stream := ⟨rfl, rfl⟩

@[simp] theorem State.emit_ports (s : State) (x : Output) :
    (s.emit x).portLink = s.portLink ∧ (s.emit x).stream = s.stream ∧ (s.emit x).reg = s.reg ∧
      (s.emit x).out = x :: s.out := ⟨rfl, rfl, rfl, rfl⟩

@[simp] theorem State.drawn_ports (s : State) :
    s.drawn.portLink = s.portLink ∧ s.drawn.stream = s.stream ∧ s.drawn.reg = s.reg ∧ s.drawn.out = s.out :=
  ⟨rfl, rfl, rfl, rfl⟩

@[simp] theorem State.occur_ports (s : State) (n : Nat) :
    (s.occur n).portLink = s.portLink ∧ (s.occur n).stream = s.stream := ⟨rfl, rfl⟩

@[simp] theorem settle_ports (s : State) :
    (settle s).portLink = s.portLink ∧ (settle s).stream = s.stream ∧ (settle s).portState = s.portState ∧
      (settle s).up = s.up := ⟨rfl, rfl, rfl, rfl⟩

@[simp] theorem State.portLink_modPort (s : State) (p : Port) (f : PortLink → PortLink) :
    (s.modPort p f).portLink p = f (s.portLink p) := s.portLink_setPort p _

@[simp] theorem State.portLink_modPort_other (s : State) (p : Port) (f : PortLink → PortLink) :
    (s.modPort p f).portLink (otherPort p) = s.portLink (otherPort p) := s.portLink_setPort_other p _

@[simp] theorem State.stream_modStream (s : State) (p : Port) (f : PortStream → PortStream) :
    (s.modStream p f).stream p = f (s.stream p) := s.stream_setStream p _

theorem State.up_eq (s : State) (p : Port) : s.up p = (s.portState p == 7) := rfl

/-- Widths of the counters of a port (09 R245). -/
theorem widthOf_portCounters (p : Port) : widthOf (Obj.PORT_UP_COUNT (portIx p)) = 32 ∧
    widthOf (Obj.FEC_AM_MISSES (portIx p)) = 32 ∧ widthOf (Obj.FEC_CODEWORDS (portIx p)) = 64 ∧
    widthOf (Obj.FEC_CORRECTED_CW (portIx p)) = 64 ∧ widthOf (Obj.FEC_UNCORRECTABLE (portIx p)) = 64 ∧
    widthOf (Obj.FEC_SYMBOLS_CORRECTED (portIx p)) = 64 := by
  cases p <;> decide

/-! ### Footprints -/

/-- The objects of an event's footprint are those that it names. -/
theorem eventObjs_mem {parts : List Part} {objs : List Nat} {o : Nat} (h : o ∈ objs) :
    (eventFootprint parts objs).objs o = true := List.contains_iff_mem.mpr h

theorem State.Within.modPort (h : s.Within F u) (p : Port) (f : PortLink → PortLink) (hp : .link ∈ F.parts := by decide) :
    s.Within F (u.modPort p f) := h.setPort p _ hp

theorem State.Within.modStream (h : s.Within F u) (p : Port) (f : PortStream → PortStream)
    (hp : .link ∈ F.parts := by decide) : s.Within F (u.modStream p f) := h.setStream p _ hp

/-- An event of an island whose operation finds nothing to do. -/
theorem onIsland_kept {op : State → State} {i : Nat} (hacts : s.acts i = true) (h : op s = s) :
    ∃ t, onIsland i op s = .next t ∧ s.frame t [] [] [] :=
  ⟨_, onIsland_acts s op i hacts, by rw [h]; exact s.frame_settle_self _ _⟩

/-! ### A training that starts afresh (R234, R239) -/

@[simp] theorem State.afresh_frame (s : State) (p : Port) :
    (s.afresh p).reg = s.reg ∧ (s.afresh p).ticks = s.ticks ∧ (s.afresh p).out = s.out ∧
      (s.afresh p).portLink p = (s.portLink p).fresh ∧
      (s.afresh p).portLink (otherPort p) = s.portLink (otherPort p) := by
  simp [State.afresh]

theorem State.Within.afresh (h : s.Within F u) (p : Port) (hp : .link ∈ F.parts := by decide) :
    s.Within F (u.afresh p) := (h.setPort p _ hp).modStream p _ hp

/-! ### HOLDOFF and IDENTIFY (R234) -/

theorem trainFail_reg (p : Port) (cause : Nat) (s : State) :
    (trainFail p cause s).portState p = 8 ∧ (trainFail p cause s).reg (Obj.PORT_DOWN_CAUSE (portIx p)) = cause := by
  cases p <;> simp [trainFail, State.setPortState, State.portState, portIx]

theorem trainFail_within (h : s.Within F u) (p : Port) (cause : Nat)
    (hstate : F.objs (Obj.PORT_STATE (portIx p)) = true) (hcause : F.objs (Obj.PORT_DOWN_CAUSE (portIx p)) = true)
    (hp : .link ∈ F.parts := by decide) : s.Within F (trainFail p cause u) :=
  ((h.afresh p hp).setReg _ _ hstate).setReg _ _ hcause

/-- A failure of training, as an event, is what the statements call one. -/
theorem trainFail_trainFailed (p : Port) (cause : Nat) (s : State) :
    s.trainFailed (settle (trainFail p cause s)) p cause := by
  obtain ⟨hstate, hcause⟩ := trainFail_reg p cause s
  exact ⟨hstate, hcause, by simp [trainFail, State.setPortState], by simp [trainFail, State.setPortState],
    (trainFail_within (refl _ s) p cause (by cases p <;> decide) (by cases p <;> decide) List.mem_cons_self).eventFrame⟩

/-- The hidden state of a port that enters IDENTIFY. -/
def PortLink.identifying (x : PortLink) (inv0 inv1 : Bool) (skew : Int) (attempts now : Nat) : PortLink :=
  { x.fresh with inv0 := inv0, inv1 := inv1, skew := skew, attempts := attempts, trainStart := now }

theorem enterIdentify_port (p : Port) (inv0 inv1 : Bool) (skew : Int) (attempts : Nat) (s : State) :
    (enterIdentify p inv0 inv1 skew attempts s).portState p = 2 ∧
      (enterIdentify p inv0 inv1 skew attempts s).portLink p =
        (s.portLink p).identifying inv0 inv1 skew attempts s.ticks ∧
      (enterIdentify p inv0 inv1 skew attempts s).portLink (otherPort p) = s.portLink (otherPort p) ∧
      (enterIdentify p inv0 inv1 skew attempts s).stream = s.stream := by
  simp [enterIdentify, State.setPortState, State.portState, PortLink.identifying]

theorem enterIdentify_within (h : s.Within F u) (p : Port) (inv0 inv1 : Bool) (skew : Int) (attempts : Nat)
    (hstate : F.objs (Obj.PORT_STATE (portIx p)) = true) (hp : .link ∈ F.parts := by decide) :
    s.Within F (enterIdentify p inv0 inv1 skew attempts u) := (h.modPort p _ hp).setReg _ _ hstate

end Ports

end Sys2Proof.Machine
end

section
/-! A port trains (09 R231 to R237): the marker, the control words, adaptation, verification and the first codeword of data
mode, each by the branches of its operation. -/

namespace Sys2Proof.Machine

set_option Elab.async false

open State.Within

section Training

variable {F : Footprint} {s u : State} {p : Port} {lane w : Nat}

/-! ### The training marker (R231, R236) -/

/-- A port in SEEK that finds the marker on both lanes measures their skew and enters IDENTIFY. -/
theorem markerFound_locks {l0 l1 : List Nat} {i0 i1 : Bool} (skew : Int) (hstate : s.portState p = 1)
    (hsignal : s.signal p = true) (hwaking : (s.portLink p).waking = false) (h0 : markerPolarity l0 = some i0)
    (h1 : markerPolarity l1 = some i1) :
    markerFound p l0 l1 skew s = enterIdentify p i0 i1 skew 0
      ((s.setReg (Obj.LANE_SKEW_PS (laneIx p 0)) (-skew).toNat).setReg (Obj.LANE_SKEW_PS (laneIx p 1)) skew.toNat) := by
  simp [markerFound, h0, h1, hstate, hsignal, hwaking]

theorem markerFound_idle {l0 l1 : List Nat} (skew : Int)
    (h : s.portState p ≠ 1 ∨ s.signal p = false ∨ (s.portLink p).waking = true ∨ markerPolarity l0 = none ∨
      markerPolarity l1 = none) : markerFound p l0 l1 skew s = s := by
  unfold markerFound
  split
  · next h0 h1 =>
    rw [h0, h1] at h
    rcases h with h | h | h | h | h <;> simp_all
  · rfl

/-! ### Control words (R232 to R236) -/

theorem hearWord_deaf (h : s.portState p < 2 ∨ 5 < s.portState p ∨ wordOk w = false) : hearWord p lane w s = s := by
  have hdeaf : (!(decide (2 ≤ s.portState p) && decide (s.portState p ≤ 5)) || !wordOk w) = true := by
    rcases h with h | h | h
    · simp [not_le.mpr h]
    · simp [not_le.mpr h]
    · simp [h]
  simp only [hearWord]
  rw [if_pos hdeaf]

/-- A port hears a sound control word from IDENTIFY to HANDOFF. -/
theorem hearWord_heard (hlow : 2 ≤ s.portState p) (hhigh : s.portState p ≤ 5) (hok : wordOk w = true) :
    hearWord p lane w s =
      if (s.portLink p).peerLocked && !bitAt w 8 then restarted p s
      else if s.portState p = 2 then
        (if ((s.portLink p).hear lane w).count0 = 3 && ((s.portLink p).hear lane w).count1 = 3
          then resolve p (s.setPort p ((s.portLink p).hear lane w)) else s.setPort p ((s.portLink p).hear lane w))
      else advance p (s.setPort p ((s.portLink p).hear lane w)) := by
  simp [hearWord, hlow, hhigh, hok]

/-- A neighbour that has not restarted. -/
theorem peer_goes_on {x : PortLink} (h : x.peerLocked = true → bitAt w 8 = true) :
    (x.peerLocked && !bitAt w 8) = false := by
  cases hlocked : x.peerLocked with
  | false => rfl
  | true => rw [h hlocked]; rfl

theorem hearWord_identify (hstate : s.portState p = 2) (hok : wordOk w = true)
    (hpeer : (s.portLink p).peerLocked = true → bitAt w 8 = true) : hearWord p lane w s =
      if ((s.portLink p).hear lane w).count0 = 3 && ((s.portLink p).hear lane w).count1 = 3
        then resolve p (s.setPort p ((s.portLink p).hear lane w)) else s.setPort p ((s.portLink p).hear lane w) := by
  rw [hearWord_heard (by omega) (by omega) hok, peer_goes_on hpeer, if_neg Bool.false_ne_true, if_pos hstate]

/-- Fewer than three words of a lane. -/
theorem hearWord_waits (hstate : s.portState p = 2) (hok : wordOk w = true)
    (hpeer : (s.portLink p).peerLocked = true → bitAt w 8 = true)
    (hfew : ((s.portLink p).hear lane w).count0 < 3 ∨ ((s.portLink p).hear lane w).count1 < 3) :
    hearWord p lane w s = s.setPort p ((s.portLink p).hear lane w) := by
  have hcount : ¬ (decide (((s.portLink p).hear lane w).count0 = 3) &&
      decide (((s.portLink p).hear lane w).count1 = 3)) = true := by
    simp only [Bool.and_eq_true, decide_eq_true_eq]
    omega
  rw [hearWord_identify hstate hok hpeer, if_neg hcount]

/-- Three words of each lane. -/
theorem hearWord_resolves {y : PortLink} (hstate : s.portState p = 2) (hok : wordOk w = true)
    (hpeer : (s.portLink p).peerLocked = true → bitAt w 8 = true) (hy : y = (s.portLink p).hear lane w)
    (h0 : y.count0 = 3) (h1 : y.count1 = 3) : hearWord p lane w s = resolve p (s.setPort p y) := by
  rw [hearWord_identify hstate hok hpeer, ← hy, if_pos (by simp [h0, h1])]

theorem hearWord_advance (hlow : 3 ≤ s.portState p) (hhigh : s.portState p ≤ 5) (hok : wordOk w = true)
    (hpeer : (s.portLink p).peerLocked = true → bitAt w 8 = true) :
    hearWord p lane w s = advance p (s.setPort p ((s.portLink p).hear lane w)) := by
  rw [hearWord_heard (by omega) hhigh hok, peer_goes_on hpeer, if_neg Bool.false_ne_true, if_neg (by omega)]

theorem hearWord_restarted (hlow : 2 ≤ s.portState p) (hhigh : s.portState p ≤ 5) (hok : wordOk w = true)
    (hlocked : (s.portLink p).peerLocked = true) (hbit : bitAt w 8 = false) : hearWord p lane w s = restarted p s := by
  rw [hearWord_heard hlow hhigh hok, hlocked, hbit]
  rfl

/-! ### The resolution of a port (R235, R236) -/

/-- The lanes contradict one another: both are one logical lane, they come from two ports or two devices, or they are too
far apart. -/
def PortLink.Conflict (x : PortLink) : Prop :=
  wordLane x.word0 = wordLane x.word1 ∨ wordPort x.word0 ≠ wordPort x.word1 ∨
    wordSerial x.word0 ≠ wordSerial x.word1 ∨ 20000 < x.skew.natAbs

theorem PortLink.conflict_iff (x : PortLink) :
    (decide (wordLane x.word0 = wordLane x.word1) || decide (wordPort x.word0 ≠ wordPort x.word1) ||
      decide (wordSerial x.word0 ≠ wordSerial x.word1) || decide (20000 < x.skew.natAbs)) = true ↔ x.Conflict := by
  simp [PortLink.Conflict, or_assoc]

theorem resolve_conflict (h : (s.portLink p).Conflict) : resolve p s = trainFail p 9 s := by
  simp only [resolve]
  rw [if_pos ((PortLink.conflict_iff _).mpr h)]

/-- PORTp_STATUS of a resolved port (Table 6). -/
def PortLink.status (x : PortLink) (p : Port) : Nat :=
  2 * wordLane x.word0 + 4 * b2n x.inv0 + 8 * b2n x.inv1 + 16 * wordPort x.word0 + 32 * b2n (wordPort x.word0 == portIx p)

/-- The port as its resolution leaves it, in ADAPT (R235, R236). -/
def State.resolved (s : State) (p : Port) : State :=
  let x := s.portLink p
  let s1 := (((s.setPort p { x with rxLocked := true }).setPortState p 3).setReg (Obj.PORT_STATUS (portIx p))
    (x.status p)).setReg (Obj.PORT_PEER_SERIAL (portIx p)) (wordSerial x.word0)
  (((s1.setReg (Obj.LANE_RX_SOURCE_LANE (laneIx p 0)) (wordLane x.word0)).setReg
    (Obj.LANE_RX_SOURCE_LANE (laneIx p 1)) (wordLane x.word1)).setFlag
    (Obj.LANE_RX_POLARITY_INVERTED (laneIx p 0)) x.inv0).setFlag (Obj.LANE_RX_POLARITY_INVERTED (laneIx p 1)) x.inv1

theorem resolve_agreed (h : ¬ (s.portLink p).Conflict) : resolve p s =
    if wordSerial (s.portLink p).word0 = Config.deviceSerial % 4294967296 then trainFail p 8 s else s.resolved p := by
  simp only [resolve]
  rw [if_neg (mt (PortLink.conflict_iff _).mp h)]
  rfl

/-- Bit 5 of PORTp_STATUS says that the neighbour's port has the same letter. -/
theorem PortLink.status_samePort (x : PortLink) (p : Port) :
    bitAt (x.status p) 5 = (wordPort x.word0 == portIx p) := by
  have hlane : wordLane x.word0 < 2 := Nat.mod_lt _ (by decide)
  have hport : wordPort x.word0 < 2 := Nat.mod_lt _ (by decide)
  have hbits : ∀ b, b2n b ≤ 1 := by decide
  have h0 := hbits x.inv0
  have h1 := hbits x.inv1
  have hdiv : x.status p / 2 ^ 5 = b2n (wordPort x.word0 == portIx p) := by
    simp only [PortLink.status]
    omega
  rw [bitAt, hdiv]
  cases wordPort x.word0 == portIx p <;> rfl

theorem resolved_port (s : State) (p : Port) :
    (s.resolved p).portState p = 3 ∧ (s.resolved p).portLink p = { s.portLink p with rxLocked := true } ∧
      (s.resolved p).reg (Obj.PORT_STATUS (portIx p)) = (s.portLink p).status p ∧
      (s.resolved p).reg (Obj.PORT_PEER_SERIAL (portIx p)) = wordSerial (s.portLink p).word0 ∧
      (s.resolved p).reg (Obj.LANE_RX_SOURCE_LANE (laneIx p 0)) = wordLane (s.portLink p).word0 := by
  cases p <;> simp [State.resolved, State.setPortState, State.portState, State.setFlag, portIx, laneIx,
    Obj.PORT_STATE, Obj.PORT_STATUS, Obj.PORT_PEER_SERIAL, Obj.LANE_RX_SOURCE_LANE, Obj.LANE_RX_POLARITY_INVERTED]

/-- What the resolution of a port may touch. -/
def resolveFootprint (p : Port) : Footprint :=
  eventFootprint [.link] [Obj.PORT_STATE (portIx p), Obj.PORT_DOWN_CAUSE (portIx p), Obj.PORT_STATUS (portIx p),
    Obj.PORT_PEER_SERIAL (portIx p), Obj.LANE_RX_SOURCE_LANE (laneIx p 0), Obj.LANE_RX_SOURCE_LANE (laneIx p 1),
    Obj.LANE_RX_POLARITY_INVERTED (laneIx p 0), Obj.LANE_RX_POLARITY_INVERTED (laneIx p 1)]

theorem resolved_within (h : s.Within (resolveFootprint p) u) : s.Within (resolveFootprint p) (u.resolved p) := by
  cases p <;> exact (((((((h.setPort _ _).setReg _ _).setReg _ _).setReg _ _).setReg _ _).setReg _ _).setFlag _ _).setFlag _ _

/-! ### HANDOFF and FEC_LOCK (R234) -/

/-- The state of PORTp_STATE to which the words and the verification of a port lead. -/
def PortLink.next (x : PortLink) (state : Nat) : Nat :=
  if state = 4 ∧ x.rxVerified = true ∧ 3 ≤ x.verified0 ∧ 3 ≤ x.verified1 then 5
  else if state = 5 ∧ x.ownData = true ∧ x.peerZero = true then 6 else state

theorem advance_port (p : Port) (s : State) :
    (advance p s).portState p = (s.portLink p).next (s.portState p) ∧ (advance p s).portLink = s.portLink ∧
      (advance p s).out = s.out := by
  simp only [advance, PortLink.next, Bool.and_eq_true, decide_eq_true_eq, and_assoc]
  split
  · simp [State.setPortState, State.portState]
  · split
    · simp [State.setPortState, State.portState]
    · exact ⟨rfl, rfl, rfl⟩

theorem advance_within (h : s.Within F u) (p : Port) (ho : F.objs (Obj.PORT_STATE (portIx p)) = true) :
    s.Within F (advance p u) := by
  unfold advance
  dsimp only
  split
  · exact h.setReg _ _ ho
  · split
    · exact h.setReg _ _ ho
    · exact h

/-! ### Adaptation and verification (R234, R235) -/

/-- The port as its adaptation leaves it, in VERIFY. -/
def State.verifying (s : State) (p : Port) (snr0 snr1 ctle0 ctle1 : Nat) : State :=
  let s1 := (s.setReg (Obj.LANE_SNR (laneIx p 0)) (snr0 % 65536)).setReg (Obj.LANE_SNR (laneIx p 1)) (snr1 % 65536)
  let s2 := (s1.setReg (Obj.LANE_CTLE (laneIx p 0)) (ctle0 % 256)).setReg (Obj.LANE_CTLE (laneIx p 1)) (ctle1 % 256)
  (s2.modPort p fun x => { x with rxAdapted := true, checked0 := false, checked1 := false
                                  attempts := min (x.attempts + 1) 255 }).setPortState p 4

theorem adapted_eq (p : Port) (a b c d : Nat) (s : State) :
    adapted p a b c d s = if s.portState p = 3 then s.verifying p a b c d else s := by
  by_cases h : s.portState p = 3 <;> simp [adapted, State.verifying, h]

theorem verifying_port (s : State) (p : Port) (a b c d : Nat) :
    (s.verifying p a b c d).portState p = 4 ∧ ((s.verifying p a b c d).portLink p).rxAdapted = true ∧
      (s.verifying p a b c d).reg (Obj.LANE_SNR (laneIx p 0)) = a % 65536 ∧
      (s.verifying p a b c d).reg (Obj.LANE_SNR (laneIx p 1)) = b % 65536 ∧
      (s.verifying p a b c d).reg (Obj.LANE_CTLE (laneIx p 0)) = c % 256 ∧
      (s.verifying p a b c d).reg (Obj.LANE_CTLE (laneIx p 1)) = d % 256 := by
  cases p <;> simp [State.verifying, State.setPortState, State.portState, portIx, laneIx, Obj.PORT_STATE, Obj.LANE_SNR,
    Obj.LANE_CTLE]

theorem adapted_within (p : Port) (a b c d : Nat) (s : State) :
    s.Within (eventFootprint [.link] [Obj.PORT_STATE (portIx p), Obj.LANE_SNR (laneIx p 0), Obj.LANE_SNR (laneIx p 1),
      Obj.LANE_CTLE (laneIx p 0), Obj.LANE_CTLE (laneIx p 1)]) (adapted p a b c d s) := by
  rw [adapted_eq]
  split
  · cases p <;> exact (((((refl _ s).setReg _ _).setReg _ _).setReg _ _).setReg _ _).modPort _ _ |>.setReg _ _
  · exact refl _ s

/-- A window that both checkers have opened closes: verification passes, or it is the third that fails, or adaptation is
done again. -/
theorem windowEnd_closes {e0 e1 : Nat} (hstate : s.portState p = 4) (hverified : (s.portLink p).rxVerified = false)
    (h0 : (s.portLink p).checked0 = true) (h1 : (s.portLink p).checked1 = true) : windowEnd p e0 e1 s =
      if e0 ≤ s.reg Obj.VERIFY_LIMIT ∧ e1 ≤ s.reg Obj.VERIFY_LIMIT then
        advance p (s.setPort p { s.portLink p with rxVerified := true })
      else if (s.portLink p).fails = 2 then trainFail p 11 s
      else (s.setPort p { s.portLink p with rxAdapted := false, fails := (s.portLink p).fails + 1 }).setPortState p 3 := by
  simp [windowEnd, hstate, hverified, h0, h1]

theorem windowEnd_idle {e0 e1 : Nat} (h : s.portState p ≠ 4 ∨ (s.portLink p).rxVerified = true ∨
    (s.portLink p).checked0 = false ∨ (s.portLink p).checked1 = false) : windowEnd p e0 e1 s = s := by
  have hidle : (decide (s.portState p ≠ 4) || (s.portLink p).rxVerified || !(s.portLink p).checked0 ||
      !(s.portLink p).checked1) = true := by
    simpa [or_assoc] using h
  simp only [windowEnd]
  rw [if_pos hidle]

/-! ### PRBS checkers (R235, R241) -/

theorem checkerLock_verify (hstate : s.portState p = 4) : checkerLock p lane s =
    s.modPort p fun x => if lane = 0 then { x with checked0 := true } else { x with checked1 := true } := by
  simp [checkerLock, hstate]

/-- A checker that locks in TEST counts its bits from now on. -/
theorem checkerLock_test (hstate : s.portState p = 9) :
    (checkerLock p lane s).flag (Obj.LANE_PRBS_LOCKED (laneIx p lane)) = true ∧
      (checkerLock p lane s).reg (Obj.LANE_PRBS_BITS (laneIx p lane)) = s.reg (Obj.LANE_PRBS_BITS (laneIx p lane)) := by
  simp only [checkerLock, if_pos hstate]
  split
  · next h => exact ⟨h, rfl⟩
  · simp [State.flag, State.setFlag, b2n]

theorem checkerLock_idle (h4 : s.portState p ≠ 4) (h9 : s.portState p ≠ 9) : checkerLock p lane s = s := by
  simp [checkerLock, h4, h9]

theorem checkerLock_within (p : Port) (lane : Nat) (s : State) :
    s.Within (eventFootprint [.link] [Obj.LANE_PRBS_LOCKED (laneIx p lane)]) (checkerLock p lane s) := by
  unfold checkerLock
  split
  · split
    · exact refl _ s
    · exact ((refl _ s).modPort p _ List.mem_cons_self).setFlag _ true (eventObjs_mem List.mem_cons_self)
  · split
    · exact (refl _ s).modPort p _ List.mem_cons_self
    · exact refl _ s

end Training

end Sys2Proof.Machine
end

section
/-! The start of data mode (09 R236), the codewords that a port hears (R228, R239, R240) and the alignment codewords among
them (R230, R237, R238). -/

namespace Sys2Proof.Machine

set_option Elab.async false

open State.Within

section Codewords

variable {F : Footprint} {s u : State} {p : Port} {l0 l1 : List Nat}

/-! ### Frames and codewords that leave (R228, R230, R236) -/

theorem sendFrame_touches (h : s.Within F u) (p : Port) (hlink : .link ∈ F.parts) (hout : .out ∈ F.parts)
    (hfree : .free ∈ F.parts) : s.Within F (sendFrame p u) := by
  unfold sendFrame
  extract_lets x long first a b s1 s2 s3
  have h2 : s.Within F s2 := (h.emit _ hout).setStream p _ hlink
  have h3 : s.Within F s3 := by
    unfold s3
    split
    · exact h2.modPort p _ hlink
    · exact h2
  split
  · exact h3.drawn hfree
  · exact h3

/-- READY frames that have left a port: each is counted, and the codewords stand where they stood. -/
structure FramesSent (p : Port) (n : Nat) (s u : State) : Prop where
  reg : u.reg = s.reg
  portLink : u.portLink p = { s.portLink p with ready := (s.portLink p).ready + n }
  other : u.portLink (otherPort p) = s.portLink (otherPort p)
  out : u.out.length = s.out.length + n
  codewords : (u.stream p).codewords = (s.stream p).codewords
  sent0 : (u.stream p).sent0 = (s.stream p).sent0
  sent1 : (u.stream p).sent1 = (s.stream p).sent1

theorem sendFrame_sent (hstate : s.portState p = 5) : FramesSent p 1 s (sendFrame p s) := by
  unfold sendFrame
  extract_lets x long first a b s1 s2 s3
  have h2 : s2.portState p = 5 := by simpa [s2, s1, State.portState] using hstate
  have h3 : FramesSent p 1 s s3 := by
    simp only [s3, if_pos hstate]
    constructor <;> simp [s2, s1, x]
  split
  · obtain ⟨hreg, hlink, hother, hout, hcodewords, h0, h1⟩ := h3
    constructor <;> simpa
  · exact h3

theorem sendFrames_sent (n : Nat) (hstate : s.portState p = 5) :
    FramesSent p n s (foldN n (fun t _ => sendFrame p t) s) := by
  induction n with
  | zero => exact ⟨rfl, rfl, rfl, rfl, rfl, rfl, rfl⟩
  | succ n ih =>
    rw [foldN, List.range_succ, List.foldl_append]
    have hn : FramesSent p n s ((List.range n).foldl (fun t _ => sendFrame p t) s) := ih
    have hnext := sendFrame_sent (s := (List.range n).foldl (fun t _ => sendFrame p t) s) (p := p)
      (by rw [State.portState, hn.reg]; exact hstate)
    refine ⟨hnext.reg.trans hn.reg, ?_, hnext.other.trans hn.other, ?_, hnext.codewords.trans hn.codewords,
      hnext.sent0.trans hn.sent0, hnext.sent1.trans hn.sent1⟩
    · rw [List.foldl_cons, List.foldl_nil, hnext.portLink, hn.portLink]
      simp [Nat.add_assoc]
    · rw [List.foldl_cons, List.foldl_nil, hnext.out, hn.out, Nat.add_assoc]

theorem alignIfDue_touches (h : s.Within F u) (p : Port) (hlink : .link ∈ F.parts) (hout : .out ∈ F.parts) :
    s.Within F (alignIfDue p u) := by
  unfold alignIfDue
  dsimp only
  split
  · exact (h.setStream p _ hlink).emit _ hout
  · exact h

theorem alignIfDue_ports (p : Port) (s : State) :
    (alignIfDue p s).portLink = s.portLink ∧ (alignIfDue p s).reg = s.reg := by
  unfold alignIfDue
  dsimp only
  split <;> simp [emitCodeword]

/-- The first codeword of data mode is an alignment codeword. -/
theorem alignIfDue_first (h : (s.stream p).codewords = 0) : (alignIfDue p s).out = .codeword p
    (sendLevels (alignmentBlocks (portIx p) 0 (Config.deviceSerial % 4294967296)) (s.stream p).sent0 (s.stream p).sent1).1
    (sendLevels (alignmentBlocks (portIx p) 0 (Config.deviceSerial % 4294967296)) (s.stream p).sent0
      (s.stream p).sent1).2 :: s.out := by
  simp [alignIfDue, h, emitCodeword]

/-! ### Data mode starts (R236) -/

/-- A port in HANDOFF sends what is left of its READY frames, and its own data from then on. -/
def State.dataMode (s : State) (p : Port) : State :=
  (foldN (4 - (s.portLink p).ready) (fun t _ => sendFrame p t) s).modPort p fun x => { x with ownData := true }

theorem startData_starts (hstate : s.portState p = 5) (hown : (s.portLink p).ownData = false) :
    startData p s = advance p (alignIfDue p (s.dataMode p)) := by
  simp [startData, State.dataMode, hstate, hown]

theorem startData_idle (h : s.portState p ≠ 5 ∨ (s.portLink p).ownData = true) : startData p s = s := by
  rcases h with h | h <;> simp [startData, h]

theorem startData_within (p : Port) (s : State) :
    s.Within (eventFootprint [.link, .out, .free] [Obj.PORT_STATE (portIx p)]) (startData p s) := by
  by_cases h : s.portState p ≠ 5 ∨ (s.portLink p).ownData = true
  · rw [startData_idle h]
    exact refl _ s
  · obtain ⟨hstate, hown⟩ := not_or.mp h
    rw [startData_starts (not_not.mp hstate) (by simpa using hown)]
    have hframes : s.Within (eventFootprint [.link, .out, .free] [Obj.PORT_STATE (portIx p)])
        (foldN (4 - (s.portLink p).ready) (fun t _ => sendFrame p t) s) :=
      foldNSteps (fun t _ _ => sendFrame_touches (refl _ t) p List.mem_cons_self (by simp [eventFootprint])
        (by simp [eventFootprint])) s
    exact advance_within (alignIfDue_touches (hframes.modPort p _ List.mem_cons_self) p List.mem_cons_self
      (by simp [eventFootprint])) p (eventObjs_mem List.mem_cons_self)

/-- The port in data mode. -/
theorem startData_port (hstate : s.portState p = 5) (hown : (s.portLink p).ownData = false) :
    ((startData p s).portLink p).ownData = true ∧
      (startData p s).portState p = (if (s.portLink p).peerZero then 6 else 5) := by
  obtain ⟨hreg, hlink, -⟩ := sendFrames_sent (4 - (s.portLink p).ready) hstate
  have hown1 : ((alignIfDue p (s.dataMode p)).portLink p).ownData = true ∧
      ((alignIfDue p (s.dataMode p)).portLink p).peerZero = (s.portLink p).peerZero := by
    simp [alignIfDue_ports, State.dataMode, hlink]
  have hstate1 : (alignIfDue p (s.dataMode p)).portState p = 5 := by
    simpa [State.portState, alignIfDue_ports, State.dataMode, hreg] using hstate
  obtain ⟨hnext, hlink1, -⟩ := advance_port p (alignIfDue p (s.dataMode p))
  rw [startData_starts hstate hown, hnext, hlink1, hstate1]
  exact ⟨hown1.1, by simp [PortLink.next, hown1]⟩

theorem startData_other (p : Port) (s : State) :
    (startData p s).portLink (otherPort p) = s.portLink (otherPort p) := by
  by_cases h : s.portState p ≠ 5 ∨ (s.portLink p).ownData = true
  · rw [startData_idle h]
  · obtain ⟨hstate, hown⟩ := not_or.mp h
    have hframes := sendFrames_sent (4 - (s.portLink p).ready) (not_not.mp hstate)
    rw [startData_starts (not_not.mp hstate) (by simpa using hown), (advance_port _ _).2.1, (alignIfDue_ports _ _).1]
    simp [State.dataMode, hframes.other]

/-- What has left: the READY frames, and the first alignment codeword behind them. -/
theorem startData_out (hstate : s.portState p = 5) (hown : (s.portLink p).ownData = false)
    (hfirst : (s.stream p).codewords = 0) :
    (startData p s).out.length = s.out.length + (4 - (s.portLink p).ready) + 1 ∧
      (startData p s).out.head? = some (.codeword p
        (sendLevels (alignmentBlocks (portIx p) 0 (Config.deviceSerial % 4294967296)) (s.stream p).sent0
          (s.stream p).sent1).1
        (sendLevels (alignmentBlocks (portIx p) 0 (Config.deviceSerial % 4294967296)) (s.stream p).sent0
          (s.stream p).sent1).2) := by
  obtain ⟨-, -, -, hout, hcodewords, hsent0, hsent1⟩ := sendFrames_sent (4 - (s.portLink p).ready) hstate
  have hstream : (s.dataMode p).stream = (foldN (4 - (s.portLink p).ready) (fun t _ => sendFrame p t) s).stream := by
    simp [State.dataMode]
  have hcodeword := alignIfDue_first (s := s.dataMode p) (p := p) (by rw [hstream, hcodewords, hfirst])
  rw [hstream, hsent0, hsent1] at hcodeword
  rw [startData_starts hstate hown, (advance_port _ _).2.2, hcodeword]
  exact ⟨by simp [State.dataMode, hout], rfl⟩

/-! ### A codeword is heard (R228) -/

/-- A decoder corrects at most 15 symbols. -/
theorem decodeRS_le {word message : List Nat} {n : Nat} (h : decodeRS word = some (n, message)) : n ≤ 15 := by
  unfold decodeRS at h
  split at h
  · obtain ⟨hn, -⟩ := Prod.mk.inj (Option.some.inj h)
    omega
  · dsimp only at h
    split at h
    · next hfound =>
      obtain ⟨hn, -⟩ := Prod.mk.inj (Option.some.inj h)
      simp only [Bool.and_eq_true, decide_eq_true_eq] at hfound
      exact hn ▸ hfound.1.1
    · exact absurd h (Option.some_ne_none _).symm

theorem readLevels_le {lane0 lane1 : List Nat} {p0 p1 n : Nat} (h : (readLevels lane0 lane1 p0 p1).1 = some n) :
    n ≤ 15 := by
  unfold readLevels at h
  dsimp only at h
  split at h
  · next hdecoded => exact decodeRS_le (Option.some.inj h ▸ hdecoded)
  · exact absurd h (Option.some_ne_none _).symm

theorem hearCodeword_le {n : Nat} (h : (hearCodeword p l0 l1 s).1.1 = some n) : n ≤ 15 := by
  dsimp only [hearCodeword] at h
  exact readLevels_le h

/-- Hearing a codeword moves the memory of the inverse precoder alone. -/
@[simp] theorem hearCodeword_frame (p : Port) (l0 l1 : List Nat) (s : State) :
    (hearCodeword p l0 l1 s).2.reg = s.reg ∧ (hearCodeword p l0 l1 s).2.regAt = s.regAt ∧
      (hearCodeword p l0 l1 s).2.tabByte = s.tabByte ∧ (hearCodeword p l0 l1 s).2.tabNat = s.tabNat ∧
      (hearCodeword p l0 l1 s).2.portLink = s.portLink ∧ (hearCodeword p l0 l1 s).2.time = s.time ∧
      ((hearCodeword p l0 l1 s).2.stream p).rx = (s.stream p).rx ∧
      ((hearCodeword p l0 l1 s).2.stream p).fill = (s.stream p).fill := by
  simp [hearCodeword]

theorem hearCodeword_within (h : s.Within F s) (p : Port) (l0 l1 : List Nat) (hp : .link ∈ F.parts) :
    s.Within F (hearCodeword p l0 l1 s).2 := h.setStream p _ hp

/-! ### A codeword is counted (R239, R240) -/

/-- The hidden state of a port after a codeword: its corrected symbols, or none when it is uncorrectable. -/
def PortLink.counted (x : PortLink) : Option Nat → PortLink
  | none => { x with ueRun := x.ueRun + 1 }
  | some k => { x with ueRun := 0, serCount := x.serCount + k }

/-- The counts of a codeword with corrected symbols. -/
def State.countCorrected (s : State) (p : Port) (k : Nat) : State :=
  (if k = 0 then s else s.bump (Obj.FEC_CORRECTED_CW (portIx p))).bumpAt (Obj.FEC_SYMBOLS_CORRECTED (portIx p)) 0 k

theorem countCodeword_down (h : s.up p = false) (c : Option Nat) : countCodeword p c s = s := by
  simp [countCodeword, h]

theorem countCodeword_none (h : s.up p = true) : countCodeword p none s =
    ((s.bump (Obj.FEC_CODEWORDS (portIx p))).bump (Obj.FEC_UNCORRECTABLE (portIx p))).modPort p (·.counted none) := by
  simp [countCodeword, h, PortLink.counted]

theorem countCodeword_some (h : s.up p = true) (k : Nat) : countCodeword p (some k) s =
    ((((s.bump (Obj.FEC_CODEWORDS (portIx p))).countCorrected p k).bumpTab (Obj.FEC_HISTOGRAM (portIx p)) (8 * k) 1 8).modPort
      p (·.counted (some k))) := by
  simp [countCodeword, h, PortLink.counted, State.countCorrected]

@[simp] theorem length_natLE (n v : Nat) : (natLE n v).length = n := by
  induction n generalizing v with
  | zero => rfl
  | succ n ih => simp [natLE, ih]

theorem codewordObjs_mem (p : Port) : Obj.FEC_CODEWORDS (portIx p) ∈ codewordObjs p ∧
    Obj.FEC_CORRECTED_CW (portIx p) ∈ codewordObjs p ∧ Obj.FEC_UNCORRECTABLE (portIx p) ∈ codewordObjs p ∧
    Obj.FEC_SYMBOLS_CORRECTED (portIx p) ∈ codewordObjs p := by
  simp [codewordObjs]

@[simp] theorem countCorrected_frame (s : State) (p : Port) (k : Nat) :
    (s.countCorrected p k).portLink = s.portLink ∧ (s.countCorrected p k).stream = s.stream ∧
      (s.countCorrected p k).tabByte = s.tabByte ∧ (s.countCorrected p k).tabNat = s.tabNat := by
  unfold State.countCorrected
  split <;> simp

/-- The counts of a codeword stay within a footprint that names its port, its objects and the tables. -/
theorem countCodeword_within (h : s.Within F u) (p : Port) (c : Option Nat) (hlink : .link ∈ F.parts)
    (hobjs : ∀ o ∈ codewordObjs p, F.objs o = true) (htabs : F.tabs = true) : s.Within F (countCodeword p c u) := by
  obtain ⟨hwords, hfixed, hbad, hsymbols⟩ := codewordObjs_mem p
  have hcounted := h.bump _ (hobjs _ hwords)
  cases hup : u.up p with
  | false =>
    rw [countCodeword_down hup]
    exact h
  | true =>
    cases c with
    | none =>
      rw [countCodeword_none hup]
      exact (hcounted.bump _ (hobjs _ hbad)).modPort p _ hlink
    | some k =>
      have hcorrected : s.Within F ((u.bump (Obj.FEC_CODEWORDS (portIx p))).countCorrected p k) := by
        unfold State.countCorrected
        split
        · exact hcounted.bumpAt _ 0 k (hobjs _ hsymbols)
        · exact (hcounted.bump _ (hobjs _ hfixed)).bumpAt _ 0 k (hobjs _ hsymbols)
      rw [countCodeword_some hup]
      exact (hcorrected.setTab _ _ _ htabs).modPort p _ hlink

/-- Of the tables the counts of a codeword change the histogram alone. -/
theorem countCodeword_tables {c : Option Nat} (hc : ∀ k, c = some k → k ≤ 15) {o j : Nat}
    (ho : o ≠ Obj.FEC_HISTOGRAM (portIx p)) (hj : j < 131072) : (countCodeword p c s).tabByte o j = s.tabByte o j := by
  cases hup : s.up p with
  | false => rw [countCodeword_down hup]
  | true =>
    cases c with
    | none => simp [countCodeword_none hup]
    | some k =>
      have hk := hc k rfl
      have hkept := State.tabByte_setTab_ne ((s.bump (Obj.FEC_CODEWORDS (portIx p))).countCorrected p k)
        (Obj.FEC_HISTOGRAM (portIx p)) (8 * k) o j _ ho
        (by rw [length_natLE 8 ((s.tabNat (Obj.FEC_HISTOGRAM (portIx p)) (8 * k) 8 + 1) % 256 ^ 8)]; omega) hj
      rw [countCodeword_some hup]
      simpa [State.bumpTab] using hkept

theorem countCodeword_portLink (h : s.up p = true) (c : Option Nat) :
    (countCodeword p c s).portLink p = (s.portLink p).counted c := by
  cases c with
  | none => simp [countCodeword_none h]
  | some k => simp [countCodeword_some h]

@[simp] theorem countCodeword_stream (p : Port) (c : Option Nat) (s : State) :
    (countCodeword p c s).stream = s.stream := by
  cases h : s.up p with
  | false => rw [countCodeword_down h]
  | true =>
    cases c with
    | none => simp [countCodeword_none h]
    | some k => simp [countCodeword_some h]

/-! ### What a codeword leaves, before its blocks go on -/

/-- A codeword has been decoded and counted. -/
def State.heard (s : State) (p : Port) (l0 l1 : List Nat) : State :=
  countCodeword p (hearCodeword p l0 l1 s).1.1 (hearCodeword p l0 l1 s).2

theorem heard_within (h : s.Within F s) (p : Port) (l0 l1 : List Nat) (hlink : .link ∈ F.parts)
    (hobjs : ∀ o ∈ codewordObjs p, F.objs o = true) (htabs : F.tabs = true) : s.Within F (s.heard p l0 l1) :=
  countCodeword_within (hearCodeword_within h p l0 l1 hlink) p _ hlink hobjs htabs

theorem heard_tables {o j : Nat} (ho : o ≠ Obj.FEC_HISTOGRAM (portIx p)) (hj : j < 131072) :
    (s.heard p l0 l1).tabByte o j = s.tabByte o j := by
  rw [State.heard, countCodeword_tables (fun _ => hearCodeword_le) ho hj]
  simp

/-- A codeword counts in its own objects alone. -/
theorem heard_regAt (s : State) (p : Port) (l0 l1 : List Nat) {o : Nat} (i : Nat) (ho : o ∉ codewordObjs p)
    (hi : i < 65536 := by decide) : (s.heard p l0 l1).regAt o i = s.regAt o i :=
  (heard_within (F := { eventFootprint [.link] (codewordObjs p) with tabs := true }) (refl _ s) p l0 l1
    List.mem_cons_self (fun _ => eventObjs_mem (parts := [.link])) rfl).obj o i (by simpa [eventFootprint] using ho) hi

theorem heard_reg (s : State) (p : Port) (l0 l1 : List Nat) {o : Nat} (ho : o ∉ codewordObjs p) :
    (s.heard p l0 l1).reg o = s.reg o := heard_regAt s p l0 l1 0 ho

theorem heard_portState (s : State) (p : Port) (l0 l1 : List Nat) :
    (s.heard p l0 l1).portState p = s.portState p := heard_reg s p l0 l1 (by cases p <;> decide)

theorem heard_stream (s : State) (p : Port) (l0 l1 : List Nat) : ((s.heard p l0 l1).stream p).rx = (s.stream p).rx ∧
    ((s.heard p l0 l1).stream p).fill = (s.stream p).fill := by
  simp [State.heard]

theorem heard_portLink (h : s.up p = true) :
    (s.heard p l0 l1).portLink p = (s.portLink p).counted (hearCodeword p l0 l1 s).1.1 := by
  rw [State.heard, countCodeword_portLink (by simpa [State.up] using h)]
  simp

/-- A port that is not UP counts nothing. -/
theorem heard_down (h : s.up p = false) : s.heard p l0 l1 = (hearCodeword p l0 l1 s).2 :=
  countCodeword_down (by simpa [State.up] using h) _

theorem heard_alignment (s : State) (p : Port) (l0 l1 : List Nat) (blocks : List RxBlock) :
    (s.heard p l0 l1).alignment p blocks = s.alignment p blocks := by
  simp only [State.alignment]
  rw [heard_reg s p l0 l1 (o := Obj.PORT_STATUS (portIx p)) (by cases p <;> decide),
    heard_reg s p l0 l1 (o := Obj.PORT_PEER_SERIAL (portIx p)) (by cases p <;> decide)]

/-- Where the neighbour sends data, a codeword that comes where an alignment codeword is due is counted and compared. -/
theorem alignmentWord_heard (h : s.hearsData p = true) :
    alignmentWord p l0 l1 s = alignmentDue p (hearCodeword p l0 l1 s).1.2 (s.heard p l0 l1) := by
  simp [alignmentWord, State.heard, h]

theorem alignmentWord_deaf (h : s.hearsData p = false) : alignmentWord p l0 l1 s = s := by
  simp [alignmentWord, h]

/-! ### Alignment codewords (R230, R237, R238) -/

variable {blocks : List RxBlock} {c : Nat}

/-- The second of two alignment codewords in sequence brings the port UP. -/
theorem alignmentDue_locks (hstate : s.portState p = 6) (hfound : s.alignment p blocks = some c)
    (hlast : (s.portLink p).amLast.map (fun l => (l + 1) % 256) = some c) :
    alignmentDue p blocks s = enterUp p (s.setPort p { s.portLink p with amLast := some c }) := by
  obtain ⟨l, hl, hc⟩ := Option.map_eq_some_iff.mp hlast
  simp [alignmentDue, hstate, hfound, hl, hc]

theorem alignmentDue_first (hstate : s.portState p = 6) (hfound : s.alignment p blocks = some c)
    (hlast : (s.portLink p).amLast = none) :
    alignmentDue p blocks s = s.setPort p { s.portLink p with amLast := some c } := by
  simp [alignmentDue, hstate, hfound, hlast]

/-- A codeword that is none, or out of sequence: the pair starts again. -/
theorem alignmentDue_again (hstate : s.portState p = 6) (h : s.alignment p blocks = none ∨
    ((s.portLink p).amLast ≠ none ∧ (s.portLink p).amLast.map (fun l => (l + 1) % 256) ≠ s.alignment p blocks)) :
    alignmentDue p blocks s = s.setPort p { s.portLink p with amLast := none } := by
  cases hfound : s.alignment p blocks with
  | none => simp [alignmentDue, hstate, hfound]
  | some c =>
    rw [hfound] at h
    obtain ⟨hlast, hnext⟩ := h.resolve_left (Option.some_ne_none c)
    obtain ⟨l, hl⟩ := Option.ne_none_iff_exists'.mp hlast
    have hc : ¬ c = (l + 1) % 256 := fun hc => hnext (by rw [hl, hc]; rfl)
    simp [alignmentDue, hstate, hfound, hl, hc]

/-- AM_COUNT of the alignment codeword that is due. -/
def PortLink.expected (x : PortLink) : Nat := (x.amLast.getD 0 + 1) % 256

/-- In service an alignment codeword that is missing counts, and the next one is due in its turn. -/
theorem alignmentDue_service (hstate : s.portState p = 7) : alignmentDue p blocks s =
    if s.alignment p blocks = some (s.portLink p).expected then
      s.setPort p { s.portLink p with amLast := some (s.portLink p).expected, amMissRun := 0 }
    else
      (s.setPort p { s.portLink p with
        amLast := some (s.portLink p).expected, amMissRun := (s.portLink p).amMissRun + 1 }).bump
        (Obj.FEC_AM_MISSES (portIx p)) := by
  have h6 : s.portState p ≠ 6 := by omega
  simp only [alignmentDue]
  rw [if_neg h6, if_pos hstate]
  rfl

theorem alignmentDue_idle (h6 : s.portState p ≠ 6) (h7 : s.portState p ≠ 7) : alignmentDue p blocks s = s := by
  simp [alignmentDue, h6, h7]

theorem enterUp_port (p : Port) (s : State) :
    (enterUp p s).portState p = 7 ∧ ((enterUp p s).portLink p).amLast = (s.portLink p).amLast ∧
      (enterUp p s).reg (Obj.PORT_UP_COUNT (portIx p)) = (s.reg (Obj.PORT_UP_COUNT (portIx p)) + 1) % 2 ^ 32 ∧
      (enterUp p s).reg (Obj.PORT_LAST_UP (portIx p)) = s.stampA := by
  have hwidth := (widthOf_portCounters p).1
  cases p <;> simp only [portIx] at hwidth <;> simp [enterUp, State.setPortState, State.portState, portIx, hwidth]

/-- What the entry to UP may touch. -/
def upFootprint (p : Port) : Footprint :=
  eventFootprint [.link] [Obj.PORT_STATE (portIx p), Obj.PORT_UP_COUNT (portIx p), Obj.PORT_LAST_UP (portIx p),
    Obj.PORT_TRAIN_TIME (portIx p)]

theorem enterUp_within (h : s.Within (upFootprint p) u) : s.Within (upFootprint p) (enterUp p u) := by
  unfold enterUp
  cases p <;> exact ((((h.setReg _ _).bump _).setReg _ _).setReg _ _).modPort _ _

theorem alignmentDue_lock_within (hstate : u.portState p = 6) (h : s.Within (upFootprint p) u) :
    s.Within (upFootprint p) (alignmentDue p blocks u) := by
  have hset : ∀ x, s.Within (upFootprint p) (u.setPort p x) := fun x => h.setPort p x List.mem_cons_self
  simp only [alignmentDue, if_pos hstate]
  split
  · exact hset _
  · exact hset _
  · split
    · exact enterUp_within (hset _)
    · exact hset _

/-- What an alignment codeword that is due leaves of a port in service. -/
theorem alignmentDue_service_port (hstate : s.portState p = 7) :
    (alignmentDue p blocks s).portState p = 7 ∧
      ((alignmentDue p blocks s).portLink p).amLast = some (s.portLink p).expected ∧
      (s.alignment p blocks = some (s.portLink p).expected →
        ((alignmentDue p blocks s).portLink p).amMissRun = 0 ∧
          (alignmentDue p blocks s).reg (Obj.FEC_AM_MISSES (portIx p)) = s.reg (Obj.FEC_AM_MISSES (portIx p))) ∧
      (s.alignment p blocks ≠ some (s.portLink p).expected →
        ((alignmentDue p blocks s).portLink p).amMissRun = (s.portLink p).amMissRun + 1 ∧
          (alignmentDue p blocks s).reg (Obj.FEC_AM_MISSES (portIx p)) =
            (s.reg (Obj.FEC_AM_MISSES (portIx p)) + 1) % 2 ^ 32) ∧
      (alignmentDue p blocks s).stream = s.stream ∧ (alignmentDue p blocks s).tabByte = s.tabByte := by
  have hne : Obj.PORT_STATE (portIx p) ≠ Obj.FEC_AM_MISSES (portIx p) := by cases p <;> decide
  have hwidth := (widthOf_portCounters p).2.1
  rw [alignmentDue_service hstate]
  split
  · next h => simpa [State.portState, h] using hstate
  · next h => simpa [State.portState, h, hne, hwidth] using hstate

theorem alignmentDue_service_within (hstate : u.portState p = 7) (h : s.Within F u) (hlink : .link ∈ F.parts)
    (hmisses : F.objs (Obj.FEC_AM_MISSES (portIx p)) = true) : s.Within F (alignmentDue p blocks u) := by
  rw [alignmentDue_service hstate]
  split
  · exact h.setPort p _ hlink
  · exact (h.setPort p _ hlink).bump _ hmisses

end Codewords

end Sys2Proof.Machine
end

section
/-! The bring-up of a port as the events of its commands (09 R231 to R237). -/

namespace Sys2Proof.Machine

set_option Elab.async false

open State.Within

/-! ### The obligation -/

/-- Settles O42: each event of a training is an event of LINK, and its operation has one branch for what the statement
supposes: the marker (`markerFound_locks`), the control words (`hearWord_identify`, `hearWord_advance`), the resolution
(`resolve_agreed`, `resolve_conflict`), adaptation and verification (`adapted_eq`, `windowEnd_closes`), the start of data
(`startData_port`) and the alignment codewords (`alignmentDue_locks`, `alignmentDue_service`) behind a codeword that is
heard and counted (`heard_within`). -/
theorem portsTrainUpToData : Obligations.PortsTrainUpToData := by
  refine ⟨?signal, ?marker, ?noMarker, ?deaf, ?word, ?resolved, ?conflict, ?restart, ?advance, ?adapted, ?checker, ?window,
    ?noWindow, ?data, ?lock, ?service, ?noAlignment⟩
  case signal =>
    intro s p lane hacts
    exact ⟨_, onIsland_acts s (·.setFlag (Obj.LANE_SIGNAL_DETECT (laneIx p lane)) true) 0 hacts,
      by simp [State.flag, State.setFlag, b2n],
      ((refl _ s).setFlag _ true (eventObjs_mem List.mem_cons_self)).eventFrame⟩
  case marker =>
    intro s p l0 l1 i0 i1 skew hacts hstate hsignal hwaking h0 h1
    refine ⟨_, onIsland_acts s (markerFound p l0 l1 skew) 0 hacts, ?_⟩
    rw [markerFound_locks skew hstate hsignal hwaking h0 h1]
    obtain ⟨hnext, hlink, hother, hstream⟩ := enterIdentify_port p i0 i1 skew 0
      ((s.setReg (Obj.LANE_SKEW_PS (laneIx p 0)) (-skew).toNat).setReg (Obj.LANE_SKEW_PS (laneIx p 1)) skew.toNat)
    have hwithin : s.Within (eventFootprint [.link] [Obj.PORT_STATE (portIx p), Obj.LANE_SKEW_PS (laneIx p 0),
        Obj.LANE_SKEW_PS (laneIx p 1)])
        ((s.setReg (Obj.LANE_SKEW_PS (laneIx p 0)) (-skew).toNat).setReg (Obj.LANE_SKEW_PS (laneIx p 1)) skew.toNat) :=
      ((refl _ s).setReg _ _ (eventObjs_mem (by simp))).setReg _ _ (eventObjs_mem (by simp))
    refine ⟨hnext, hlink, hother, fun q => congrFun hstream q, ?_, ?_,
      (enterIdentify_within hwithin p i0 i1 skew 0 (eventObjs_mem List.mem_cons_self) List.mem_cons_self).eventFrame⟩
    · cases p <;> simp [enterIdentify, State.setPortState, portIx, laneIx]
    · cases p <;> simp [enterIdentify, State.setPortState, portIx, laneIx]
  case noMarker =>
    intro s p l0 l1 skew hacts h
    exact onIsland_kept hacts (markerFound_idle skew h)
  case deaf =>
    intro s p lane w hacts h
    exact onIsland_kept hacts (hearWord_deaf h)
  case word =>
    intro s p lane w hacts hstate hok hpeer hfew
    refine ⟨_, onIsland_acts s (hearWord p lane w) 0 hacts, ?_⟩
    rw [hearWord_waits hstate hok hpeer hfew]
    exact ⟨by simp, ((refl (eventFootprint [.link] []) s).setPort p _).eventFrame⟩
  case resolved =>
    intro s p lane w y hacts hstate hok hpeer hy h0 h1 hlanes hports hserials hskew
    have hlink : (s.setPort p y).portLink p = y := s.portLink_setPort p y
    have hagreed : ¬ ((s.setPort p y).portLink p).Conflict := by
      rw [hlink]
      rintro (h | h | h | h)
      · exact hlanes h
      · exact h hports
      · exact h hserials
      · omega
    have hresolve := resolve_agreed hagreed
    rw [hlink] at hresolve
    refine ⟨_, onIsland_acts s (hearWord p lane w) 0 hacts, ?_⟩
    rw [hearWord_resolves hstate hok hpeer hy h0 h1, hresolve]
    have hwithin : s.Within (resolveFootprint p) (s.setPort p y) := (refl _ s).setPort p y List.mem_cons_self
    by_cases hown : wordSerial y.word0 = Config.deviceSerial % 4294967296
    · obtain ⟨hnext, hcause⟩ := trainFail_reg p 8 (s.setPort p y)
      rw [if_pos hown, if_pos hown]
      simp only [settle_ports, settle_frame]
      exact ⟨⟨hnext, hcause⟩, (trainFail_within hwithin p 8 (by cases p <;> decide) (by cases p <;> decide)
        List.mem_cons_self).eventFrame⟩
    · obtain ⟨hnext, hlocked, hstatus, hserial, hlane⟩ := resolved_port (s.setPort p y) p
      rw [hlink] at hlocked hstatus hserial hlane
      rw [if_neg hown, if_neg hown]
      simp only [settle_ports, settle_frame, hstatus]
      exact ⟨⟨hnext, hlocked, hserial, y.status_samePort p, hlane⟩, (resolved_within hwithin).eventFrame⟩
  case conflict =>
    intro s p lane w y hacts hstate hok hpeer hy h0 h1 hconflict
    have hlink : (s.setPort p y).portLink p = y := s.portLink_setPort p y
    refine ⟨_, onIsland_acts s (hearWord p lane w) 0 hacts, ?_⟩
    rw [hearWord_resolves hstate hok hpeer hy h0 h1, resolve_conflict (by rw [hlink]; exact hconflict)]
    obtain ⟨hnext, hcause⟩ := trainFail_reg p 9 (s.setPort p y)
    exact ⟨hnext, hcause, (trainFail_within ((refl _ s).setPort p y List.mem_cons_self) p 9 (by cases p <;> decide)
      (by cases p <;> decide) List.mem_cons_self).eventFrame⟩
  case restart =>
    intro s p lane w hacts hlow hhigh hok hlocked hbit
    refine ⟨_, onIsland_acts s (hearWord p lane w) 0 hacts, ?_⟩
    rw [hearWord_restarted hlow hhigh hok hlocked hbit]
    obtain ⟨hnext, hlink, -⟩ := enterIdentify_port p (s.portLink p).inv0 (s.portLink p).inv1 (s.portLink p).skew
      (min ((s.portLink p).attempts + 1) 255) s
    exact ⟨hnext, congrArg PortLink.attempts hlink, congrArg PortLink.trainStart hlink,
      (enterIdentify_within (refl _ s) p _ _ _ _ (eventObjs_mem List.mem_cons_self) List.mem_cons_self).eventFrame⟩
  case advance =>
    intro s p lane w y hacts hlow hhigh hok hpeer hy
    refine ⟨_, onIsland_acts s (hearWord p lane w) 0 hacts, ?_⟩
    rw [hearWord_advance hlow hhigh hok hpeer, ← hy]
    obtain ⟨hnext, hlink, -⟩ := advance_port p (s.setPort p y)
    have hstate : (s.setPort p y).portState p = s.portState p := by simp [State.portState]
    rw [s.portLink_setPort p y, hstate] at hnext
    exact ⟨(congrFun hlink p).trans (s.portLink_setPort p y), hnext,
      (advance_within ((refl _ s).setPort p y List.mem_cons_self) p (eventObjs_mem List.mem_cons_self)).eventFrame⟩
  case adapted =>
    intro s p a b c d hacts
    refine ⟨_, onIsland_acts s (adapted p a b c d) 0 hacts, fun h => ?_, fun h => ?_, (adapted_within p a b c d s).eventFrame⟩
    · rw [adapted_eq, if_pos h]
      exact verifying_port s p a b c d
    · rw [adapted_eq, if_neg h]
      exact s.frame_settle_self _ _
  case checker =>
    intro s p lane inv hacts
    refine ⟨_, onIsland_acts s (checkerLock p lane) 0 hacts, fun h => ?_, fun h => checkerLock_test h, fun h4 h9 => ?_,
      (checkerLock_within p lane s).eventFrame⟩
    · rw [checkerLock_verify h]
      exact ⟨by simp, ((refl (eventFootprint [.link] []) s).modPort p _).eventFrame⟩
    · rw [checkerLock_idle h4 h9]
      exact s.frame_settle_self _ _
  case window =>
    intro s p e0 e1 hacts hstate hverified h0 h1
    have hcloses := windowEnd_closes (e0 := e0) (e1 := e1) hstate hverified h0 h1
    have hwithin : ∀ x, s.Within (eventFootprint [.link] [Obj.PORT_STATE (portIx p), Obj.PORT_DOWN_CAUSE (portIx p)])
        (s.setPort p x) := fun x => (refl _ s).setPort p x List.mem_cons_self
    refine ⟨_, onIsland_acts s (windowEnd p e0 e1) 0 hacts, fun hle0 hle1 => ?_, fun hgt hfails => ?_, fun hgt hfails => ?_,
      State.Within.eventFrame ?_⟩
    · rw [hcloses, if_pos ⟨hle0, hle1⟩]
      obtain ⟨hnext, hlink, -⟩ := advance_port p (s.setPort p { s.portLink p with rxVerified := true })
      have hstate1 : (s.setPort p { s.portLink p with rxVerified := true }).portState p = 4 := by
        simpa [State.portState] using hstate
      rw [State.portLink_setPort, hstate1] at hnext
      exact ⟨by simp [hlink], hnext.trans (by simp [PortLink.next])⟩
    · rw [hcloses, if_neg (by omega), if_neg hfails]
      exact ⟨by simp [State.setPortState, State.portState], by simp [State.setPortState]⟩
    · rw [hcloses, if_neg (by omega), if_pos hfails]
      exact trainFail_trainFailed p 11 s
    · rw [hcloses]
      split
      · exact advance_within (hwithin _) p (eventObjs_mem List.mem_cons_self)
      · split
        · exact trainFail_within (refl _ s) p 11 (by cases p <;> decide) (by cases p <;> decide) List.mem_cons_self
        · exact (hwithin _).setReg _ _ (eventObjs_mem List.mem_cons_self)
  case noWindow =>
    intro s p e0 e1 hacts h
    exact onIsland_kept hacts (windowEnd_idle h)
  case data =>
    intro s p hacts
    refine ⟨_, onIsland_acts s (startData p) 0 hacts, fun hstate hown => ?_, fun h => ?_, startData_other p s,
      (startData_within p s).eventFrame⟩
    · obtain ⟨hdata, hnext⟩ := startData_port hstate hown
      exact ⟨hdata, hnext, startData_out hstate hown⟩
    · rw [startData_idle h]
      exact s.frame_settle_self _ _
  case lock =>
    intro s p l0 l1 found hacts hstate hfound
    have hdown : s.up p = false := by simp [State.up_eq, hstate]
    have hheard := alignmentWord_heard (s := s) (p := p) (l0 := l0) (l1 := l1) (by simp [State.hearsData, hstate])
    rw [heard_down hdown] at hheard
    have hfound1 : (hearCodeword p l0 l1 s).2.alignment p (hearCodeword p l0 l1 s).1.2 = found := by
      simp [hfound, State.alignment]
    have hwithin := hearCodeword_within (refl (upFootprint p) s) p l0 l1 List.mem_cons_self
    obtain ⟨hreg, -, -, -, hlink, htime, -⟩ := hearCodeword_frame p l0 l1 s
    generalize (hearCodeword p l0 l1 s).2 = u at *
    have hstate1 : u.portState p = 6 := by rw [State.portState, hreg]; exact hstate
    refine ⟨_, onIsland_acts s (alignmentWord p l0 l1) 0 hacts, fun c hc hlast => ?_, fun c hc hlast => ?_, fun h => ?_, ?_⟩
    all_goals rw [hheard]
    · rw [alignmentDue_locks hstate1 (hfound1.trans hc) (by rw [hlink]; exact hlast)]
      obtain ⟨hnext, hlast1, hcount, hstamp⟩ := enterUp_port p (u.setPort p { u.portLink p with amLast := some c })
      simp only [settle_ports, settle_frame, hlast1, hcount, hstamp, State.up_eq, hnext]
      simp [hreg, State.stampA, htime]
    · rw [alignmentDue_first hstate1 (hfound1.trans hc) (by rw [hlink]; exact hlast)]
      exact ⟨by simpa [State.portState] using hstate1, by simp [hlink]⟩
    · rw [alignmentDue_again hstate1 (by rw [hlink, hfound1]; exact h)]
      exact ⟨by simpa [State.portState] using hstate1, by simp [hlink]⟩
    · exact (alignmentDue_lock_within hstate1 hwithin).eventFrame
  case service =>
    intro s p l0 l1 found expected hacts hstate hfound hexpected
    have hup : s.up p = true := by simp [State.up_eq, hstate]
    have hheard := alignmentWord_heard (s := s) (p := p) (l0 := l0) (l1 := l1) (by simp [State.hearsData, hstate])
    have hstate1 : (s.heard p l0 l1).portState p = 7 := (heard_portState s p l0 l1).trans hstate
    have hlink := heard_portLink (l0 := l0) (l1 := l1) hup
    have hexpected1 : ((s.heard p l0 l1).portLink p).expected = expected := by
      rw [hlink, hexpected]
      cases (hearCodeword p l0 l1 s).1.1 <;> rfl
    have hmissed : ((s.heard p l0 l1).portLink p).amMissRun = (s.portLink p).amMissRun := by
      rw [hlink]
      cases (hearCodeword p l0 l1 s).1.1 <;> rfl
    have hmisses := heard_reg s p l0 l1 (o := Obj.FEC_AM_MISSES (portIx p)) (by cases p <;> decide)
    obtain ⟨hnext, hlast, hfollows, hmiss, hstream, htabs⟩ :=
      alignmentDue_service_port (blocks := (hearCodeword p l0 l1 s).1.2) hstate1
    rw [hexpected1, heard_alignment, ← hfound] at hfollows hmiss
    rw [hexpected1] at hlast
    rw [hmisses] at hfollows hmiss
    rw [hmissed] at hmiss
    refine ⟨_, onIsland_acts s (alignmentWord p l0 l1) 0 hacts, ?_⟩
    rw [hheard]
    simp only [settle_ports, settle_frame, hstream]
    refine ⟨hnext, hlast, hfollows, hmiss, (heard_stream s p l0 l1).1, State.Within.eventFrame_tables ?_ fun o j ho hj => ?_⟩
    · exact alignmentDue_service_within hstate1 (heard_within (refl _ s) p l0 l1 List.mem_cons_self
        (fun o ho => eventObjs_mem (parts := [.link]) (List.mem_cons_of_mem _ ho)) rfl) List.mem_cons_self
        (eventObjs_mem (parts := [.link]) List.mem_cons_self)
    · rw [htabs]
      exact heard_tables (by simpa using ho) hj
  case noAlignment =>
    intro s p l0 l1 hacts h6 h7
    have hdown : s.up p = false := by simp [State.up_eq, h7]
    refine ⟨_, onIsland_acts s (alignmentWord p l0 l1) 0 hacts, ?_⟩
    cases hhears : s.hearsData p with
    | false =>
      rw [alignmentWord_deaf hhears]
      exact ⟨rfl, rfl, s.frame_settle_self _ _⟩
    | true =>
      rw [alignmentWord_heard hhears, heard_down hdown, alignmentDue_idle (by simpa [State.portState] using h6)
        (by simpa [State.portState] using h7)]
      exact ⟨by simp [State.portState], by simp,
        (hearCodeword_within (refl (eventFootprint [.link] []) s) p l0 l1 List.mem_cons_self).eventFrame⟩

end Sys2Proof.Machine
end

section
/-! A port in service (09 R239, R240, 10 R249, R266): what each codeword counts and passes on, how a second is judged, and
the wake pattern. -/

namespace Sys2Proof.Machine

set_option Elab.async false

open State.Within

section Service

variable {F : Footprint} {s u : State} {p : Port} {l0 l1 : List Nat}

/-! ### Numbers in a table (R7) -/

theorem leNat_natLE (n v : Nat) : leNat (natLE n v) = v % 256 ^ n := by
  induction n generalizing v with
  | zero => simp [natLE, leNat, Nat.mod_one]
  | succ n ih =>
    rw [natLE, leNat, ih, BitVec.toNat_ofNat, pow_succ' 256 n]
    exact Nat.mod_mul.symm

/-- A counter of a table after an addition. -/
theorem State.tabNat_bumpTab (s : State) (o k n b : Nat) :
    (s.bumpTab o k n b).tabNat o k b = (s.tabNat o k b + n) % 256 ^ b := by
  have hread := State.tabBytes_setTab s o k (natLE b ((s.tabNat o k b + n) % 256 ^ b))
  rw [length_natLE] at hread
  calc (s.bumpTab o k n b).tabNat o k b = leNat ((s.bumpTab o k n b).tabBytes o k b) := rfl
    _ = leNat (natLE b ((s.tabNat o k b + n) % 256 ^ b)) := congrArg leNat hread
    _ = _ := by rw [leNat_natLE, Nat.mod_mod]

/-! ### The counts of a codeword (R239, R240) -/

@[simp] theorem State.reg_bumpAt_zero (s : State) (o n o1 : Nat) :
    (s.bumpAt o 0 n).reg o1 = if o1 = o then (s.reg o + n) % 2 ^ widthOf o else s.reg o1 :=
  State.reg_setReg s o _ o1

theorem countCorrected_reg (s : State) (p : Port) (k : Nat) :
    (s.countCorrected p k).reg (Obj.FEC_CODEWORDS (portIx p)) = s.reg (Obj.FEC_CODEWORDS (portIx p)) ∧
      (s.countCorrected p k).reg (Obj.FEC_SYMBOLS_CORRECTED (portIx p)) =
        (s.reg (Obj.FEC_SYMBOLS_CORRECTED (portIx p)) + k) % 2 ^ 64 ∧
      (k ≠ 0 → (s.countCorrected p k).reg (Obj.FEC_CORRECTED_CW (portIx p)) =
        (s.reg (Obj.FEC_CORRECTED_CW (portIx p)) + 1) % 2 ^ 64) := by
  obtain ⟨-, -, -, hfixed, -, hsymbols⟩ := widthOf_portCounters p
  unfold State.countCorrected
  split
  · next h => simp [h, hsymbols]
  · next h => simp [hfixed, hsymbols]

/-- A codeword that could be corrected. -/
theorem countCodeword_some_counts (h : s.up p = true) (k : Nat) :
    (countCodeword p (some k) s).reg (Obj.FEC_CODEWORDS (portIx p)) =
        (s.reg (Obj.FEC_CODEWORDS (portIx p)) + 1) % 2 ^ 64 ∧
      (countCodeword p (some k) s).reg (Obj.FEC_SYMBOLS_CORRECTED (portIx p)) =
        (s.reg (Obj.FEC_SYMBOLS_CORRECTED (portIx p)) + k) % 2 ^ 64 ∧
      (k ≠ 0 → (countCodeword p (some k) s).reg (Obj.FEC_CORRECTED_CW (portIx p)) =
        (s.reg (Obj.FEC_CORRECTED_CW (portIx p)) + 1) % 2 ^ 64) ∧
      (countCodeword p (some k) s).tabNat (Obj.FEC_HISTOGRAM (portIx p)) (8 * k) 8 =
        (s.tabNat (Obj.FEC_HISTOGRAM (portIx p)) (8 * k) 8 + 1) % 2 ^ 64 := by
  have hwidth := (widthOf_portCounters p).2.2.1
  obtain ⟨hwords, hsymbols, hfixed⟩ := countCorrected_reg (s.bump (Obj.FEC_CODEWORDS (portIx p))) p k
  rw [countCodeword_some h]
  refine ⟨?_, ?_, fun hk => ?_, ?_⟩
  · simp [hwords, hwidth]
  · simp [hsymbols]
  · simp [hfixed hk]
  · simp [State.tabNat_bumpTab]

/-- One that could not. -/
theorem countCodeword_none_counts (h : s.up p = true) :
    (countCodeword p none s).reg (Obj.FEC_CODEWORDS (portIx p)) =
        (s.reg (Obj.FEC_CODEWORDS (portIx p)) + 1) % 2 ^ 64 ∧
      (countCodeword p none s).reg (Obj.FEC_UNCORRECTABLE (portIx p)) =
        (s.reg (Obj.FEC_UNCORRECTABLE (portIx p)) + 1) % 2 ^ 64 := by
  obtain ⟨-, -, hwidth, -, hbad, -⟩ := widthOf_portCounters p
  rw [countCodeword_none h]
  simp [hwidth, hbad]

/-- What a codeword has counted when it is heard, by its corrected symbols. -/
theorem heard_counts (h : s.up p = true) :
    (s.heard p l0 l1).reg (Obj.FEC_CODEWORDS (portIx p)) = (s.reg (Obj.FEC_CODEWORDS (portIx p)) + 1) % 2 ^ 64 ∧
      (∀ k, (hearCodeword p l0 l1 s).1.1 = some k →
        (s.heard p l0 l1).reg (Obj.FEC_SYMBOLS_CORRECTED (portIx p)) =
          (s.reg (Obj.FEC_SYMBOLS_CORRECTED (portIx p)) + k) % 2 ^ 64 ∧
        (k ≠ 0 → (s.heard p l0 l1).reg (Obj.FEC_CORRECTED_CW (portIx p)) =
          (s.reg (Obj.FEC_CORRECTED_CW (portIx p)) + 1) % 2 ^ 64) ∧
        (s.heard p l0 l1).tabNat (Obj.FEC_HISTOGRAM (portIx p)) (8 * k) 8 =
          (s.tabNat (Obj.FEC_HISTOGRAM (portIx p)) (8 * k) 8 + 1) % 2 ^ 64) ∧
      ((hearCodeword p l0 l1 s).1.1 = none → (s.heard p l0 l1).reg (Obj.FEC_UNCORRECTABLE (portIx p)) =
        (s.reg (Obj.FEC_UNCORRECTABLE (portIx p)) + 1) % 2 ^ 64) := by
  have hup : (hearCodeword p l0 l1 s).2.up p = true := by simpa [State.up] using h
  obtain ⟨hreg, -, -, htab, -⟩ := hearCodeword_frame p l0 l1 s
  rw [State.heard]
  cases (hearCodeword p l0 l1 s).1.1 with
  | none =>
    obtain ⟨hwords, hbad⟩ := countCodeword_none_counts hup
    rw [hreg] at hwords hbad
    exact ⟨hwords, nofun, fun _ => hbad⟩
  | some k =>
    obtain ⟨hwords, hsymbols, hfixed, hhistogram⟩ := countCodeword_some_counts hup k
    rw [hreg] at hwords hsymbols hfixed
    rw [htab] at hhistogram
    refine ⟨hwords, fun n hn => ?_, nofun⟩
    cases hn
    exact ⟨hsymbols, hfixed, hhistogram⟩

/-! ### The link buffers and the elastic buffer (10 R249, 02 R49) -/

/-- Blocks that the elastic buffer has passed to the packet layer, with its fill and its adjustments. -/
def State.passed (s : State) (p : Port) (r : List RxBlock × Nat × Nat) : State :=
  (s.bumpAt (Obj.PKT_IDLE_ADJUST (portIx p)) 0 r.2.2).modStream p fun x => { x with rx := x.rx ++ r.1, fill := r.2.1 }

/-- A codeword of UP is counted, and its blocks pass the buffers. -/
theorem codeword_up {drift : Int} {trouble : BufferTrouble} (h : s.up p = true) :
    codeword p l0 l1 drift trouble s =
      (bufferBlocks trouble (hearCodeword p l0 l1 s).1.2 (s.heard p l0 l1)).2.passed p
        (elastic (((s.stream p).fill : Int) + drift).toNat
          (bufferBlocks trouble (hearCodeword p l0 l1 s).1.2 (s.heard p l0 l1)).1) := by
  have hstate : s.portState p = 7 := by simpa [State.up_eq] using h
  simp [codeword, State.hearsData, hstate, h, State.heard, State.passed]

/-- One of a port that is not UP is at most heard. -/
theorem codeword_down {drift : Int} {trouble : BufferTrouble} (h : s.up p = false) :
    codeword p l0 l1 drift trouble s = if s.hearsData p then (hearCodeword p l0 l1 s).2 else s := by
  have hheard := heard_down (l0 := l0) (l1 := l1) h
  rw [State.heard] at hheard
  cases hhears : s.hearsData p <;> simp [codeword, hhears, h, hheard]

@[simp] theorem passed_frame (s : State) (p : Port) (r : List RxBlock × Nat × Nat) :
    (s.passed p r).portLink = s.portLink ∧ (s.passed p r).tabByte = s.tabByte ∧ (s.passed p r).tabNat = s.tabNat ∧
      (s.passed p r).fault = s.fault ∧ ((s.passed p r).stream p).rx = (s.stream p).rx ++ r.1 := by
  simp [State.passed]

theorem passed_within (h : s.Within F u) (p : Port) (r : List RxBlock × Nat × Nat) (hlink : .link ∈ F.parts)
    (ho : F.objs (Obj.PKT_IDLE_ADJUST (portIx p)) = true) : s.Within F (u.passed p r) :=
  (h.bumpAt _ 0 _ ho).modStream p _ hlink

/-- Neither the elastic buffer nor its SRAM touches the port, the tables or the counts of the codeword. -/
theorem bufferBlocks_frame (trouble : BufferTrouble) (blocks : List RxBlock) (s : State) :
    (bufferBlocks trouble blocks s).2.portLink = s.portLink ∧ (bufferBlocks trouble blocks s).2.stream = s.stream ∧
      (bufferBlocks trouble blocks s).2.tabByte = s.tabByte ∧ (bufferBlocks trouble blocks s).2.tabNat = s.tabNat := by
  cases trouble <;> exact ⟨rfl, rfl, rfl, rfl⟩

theorem bufferBlocks_within (h : s.Within F u) (trouble : BufferTrouble) (blocks : List RxBlock)
    (hfault : .fault ∈ F.parts) (hcorrected : F.objs Obj.SRAM_CORRECTED = true)
    (huncorrected : F.objs Obj.SRAM_UNCORRECTED = true) (hoffset : F.objs Obj.SRAM_LAST_OFFSET = true) :
    s.Within F (bufferBlocks trouble blocks u).2 := by
  cases trouble with
  | none => exact h
  | corrected n => exact h.bumpAt _ 2 n hcorrected
  | uncorrectable i o => exact ((h.bumpAt _ 2 1 huncorrected).setRegAt _ 2 o hoffset).occur 12 hfault

/-- A block that the SRAM spoilt is counted, with its place and its fault source (02 R49). -/
theorem sramUncorrectable_counts (s : State) (o : Nat) :
    (s.sramUncorrectable 2 o).regAt Obj.SRAM_UNCORRECTED 2 = (s.regAt Obj.SRAM_UNCORRECTED 2 + 1) % 2 ^ 32 ∧
      (s.sramUncorrectable 2 o).regAt Obj.SRAM_LAST_OFFSET 2 = o ∧
      0 < Sparse.get (fun _ => 0) (s.sramUncorrectable 2 o).fault.waiting 12 := by
  have hcount : ∀ (t : State) (n : Nat), (t.occur n).regAt = t.regAt := fun _ _ => rfl
  have hwidth : widthOf Obj.SRAM_UNCORRECTED = 32 := by decide
  refine ⟨?_, ?_, ?_⟩
  · rw [State.sramUncorrectable, hcount, State.regAt_setRegAt_ne _ _ _ _ _ _ (by decide) (by decide) (by decide),
      State.regAt_bumpAt, if_pos rfl, hwidth]
  · rw [State.sramUncorrectable, hcount, State.regAt_setRegAt, if_pos rfl]
  · simp [State.sramUncorrectable, State.occur]

theorem passed_regAt (s : State) (p : Port) (r : List RxBlock × Nat × Nat) {o i : Nat}
    (ho : o ≠ Obj.PKT_IDLE_ADJUST (portIx p)) (hi : i < 65536 := by decide) : (s.passed p r).regAt o i = s.regAt o i :=
  (passed_within (F := eventFootprint [.link] [Obj.PKT_IDLE_ADJUST (portIx p)]) (refl _ s) p r List.mem_cons_self
    (eventObjs_mem List.mem_cons_self)).obj o i (by simpa [eventFootprint] using ho) hi

/-- What a codeword of UP may touch besides its own counts. -/
def troubleObjs (p : Port) : List Nat :=
  [Obj.PKT_IDLE_ADJUST (portIx p), Obj.SRAM_CORRECTED, Obj.SRAM_UNCORRECTED, Obj.SRAM_LAST_OFFSET]

/-- A codeword of UP: what is counted of it stands as it was heard, and the port's stream has its blocks. -/
theorem codeword_up_heard {drift : Int} {trouble : BufferTrouble} (h : s.up p = true) :
    (∀ o, o ∉ troubleObjs p → (codeword p l0 l1 drift trouble s).reg o = (s.heard p l0 l1).reg o) ∧
      (codeword p l0 l1 drift trouble s).tabNat = (s.heard p l0 l1).tabNat ∧
      (codeword p l0 l1 drift trouble s).tabByte = (s.heard p l0 l1).tabByte ∧
      (codeword p l0 l1 drift trouble s).portLink p = (s.portLink p).counted (hearCodeword p l0 l1 s).1.1 ∧
      ((codeword p l0 l1 drift trouble s).stream p).rx = (s.stream p).rx ++
        (elastic (((s.stream p).fill : Int) + drift).toNat
          (bufferBlocks trouble (hearCodeword p l0 l1 s).1.2 (s.heard p l0 l1)).1).1 := by
  obtain ⟨hlink, hstream, hbyte, hnat⟩ := bufferBlocks_frame trouble (hearCodeword p l0 l1 s).1.2 (s.heard p l0 l1)
  have hwithin := passed_within (bufferBlocks_within (refl (eventFootprint [.link, .fault] (troubleObjs p)) (s.heard p l0 l1))
    trouble (hearCodeword p l0 l1 s).1.2 (by simp [eventFootprint]) (eventObjs_mem (by simp [troubleObjs]))
    (eventObjs_mem (by simp [troubleObjs])) (eventObjs_mem (by simp [troubleObjs]))) p
    (elastic (((s.stream p).fill : Int) + drift).toNat
      (bufferBlocks trouble (hearCodeword p l0 l1 s).1.2 (s.heard p l0 l1)).1)
    List.mem_cons_self (eventObjs_mem (by simp [troubleObjs]))
  rw [codeword_up h]
  refine ⟨fun o ho => hwithin.obj o 0 (by simpa [eventFootprint] using ho) (by decide), ?_, ?_, ?_, ?_⟩
  · simp [hnat]
  · simp [hbyte]
  · simp [hlink, heard_portLink h]
  · simp [hstream, heard_stream]

/-- The footprint of a codeword of UP, from what its buffer's SRAM may touch. -/
theorem codeword_up_frame {drift : Int} {trouble : BufferTrouble} {parts : List Part} {objs : List Nat} (h : s.up p = true)
    (hadjust : Obj.PKT_IDLE_ADJUST (portIx p) ∈ objs) (hcounts : ∀ o ∈ codewordObjs p, o ∈ objs) (hlink : .link ∈ parts)
    (hbuffer : ∀ t, s.Within { eventFootprint parts objs with tabs := true } t →
      s.Within { eventFootprint parts objs with tabs := true } (bufferBlocks trouble (hearCodeword p l0 l1 s).1.2 t).2) :
    s.frame (settle (codeword p l0 l1 drift trouble s)) parts objs [Obj.FEC_HISTOGRAM (portIx p)] := by
  refine State.Within.eventFrame_tables ?_ fun o j ho hj => ?_
  · rw [codeword_up h]
    exact passed_within (hbuffer _ (heard_within (refl _ s) p l0 l1 hlink
      (fun o ho => eventObjs_mem (parts := parts) (hcounts o ho)) rfl)) p _ hlink (eventObjs_mem (parts := parts) hadjust)
  · rw [(codeword_up_heard h).2.2.1]
    exact heard_tables (by simpa using ho) hj

/-! ### A second is judged (R240) -/

@[simp] theorem event_frame (s : State) (code : Nat) (data : Bytes) :
    (s.event code data).portLink = s.portLink ∧ (s.event code data).stream = s.stream := by
  unfold State.event
  dsimp only
  split <;> exact ⟨rfl, rfl⟩

/-- What a judged second says of a port. -/
structure Judged (p : Port) (s u : State) : Prop where
  ser : u.reg (Obj.FEC_SER_1S (portIx p)) = (s.portLink p).serCount % 2 ^ 32
  starts : (u.portLink p).serCount = 0
  bad : s.reg Obj.DEGRADE_LIMIT < (s.portLink p).serCount →
    u.flag (Obj.PORT_DEGRADED (portIx p)) = true ∧ (u.portLink p).goodSeconds = 0
  good : (s.portLink p).serCount ≤ s.reg Obj.DEGRADE_LIMIT → u.flag (Obj.PORT_DEGRADED (portIx p)) =
    (s.flag (Obj.PORT_DEGRADED (portIx p)) && decide ((s.portLink p).goodSeconds < 9))

/-- What is changed before the judgement, and what is changed after it, elsewhere. -/
theorem Judged.earlier {v : State} (h : Judged p v u) (hlink : v.portLink p = s.portLink p)
    (hlimit : v.reg Obj.DEGRADE_LIMIT = s.reg Obj.DEGRADE_LIMIT)
    (hflag : v.reg (Obj.PORT_DEGRADED (portIx p)) = s.reg (Obj.PORT_DEGRADED (portIx p))) : Judged p s u := by
  obtain ⟨hser, hstarts, hbad, hgood⟩ := h
  rw [hlink] at hser
  rw [hlink, hlimit] at hbad hgood
  rw [State.flag, State.flag, hflag] at hgood
  exact ⟨hser, hstarts, hbad, hgood⟩

theorem Judged.later {v : State} (h : Judged p s v) (hlink : u.portLink p = v.portLink p)
    (hser : u.reg (Obj.FEC_SER_1S (portIx p)) = v.reg (Obj.FEC_SER_1S (portIx p)))
    (hflag : u.reg (Obj.PORT_DEGRADED (portIx p)) = v.reg (Obj.PORT_DEGRADED (portIx p))) : Judged p s u := by
  have hflag1 : u.flag (Obj.PORT_DEGRADED (portIx p)) = v.flag (Obj.PORT_DEGRADED (portIx p)) := congrArg (· != 0) hflag
  constructor
  · exact hser.trans h.ser
  · rw [hlink, h.starts]
  · rw [hlink, hflag1]
    exact h.bad
  · rw [hflag1]
    exact h.good

/-- What the judgement of a port may touch. -/
def judgeFootprint (p : Port) : Footprint :=
  eventFootprint [.link, .traffic] [Obj.FEC_SER_1S (portIx p), Obj.PORT_DEGRADED (portIx p), Obj.EVENT_SEQUENCE,
    Obj.EVENTS_DROPPED]

theorem judgeSecond_within (p : Port) (s : State) : s.Within (judgeFootprint p) (judgeSecond p s) := by
  have hser : s.Within (judgeFootprint p) (s.setReg (Obj.FEC_SER_1S (portIx p)) ((s.portLink p).serCount % 2 ^ 32)) :=
    (refl _ s).setReg _ _ (by cases p <;> decide)
  unfold judgeSecond
  dsimp only
  split
  · exact ((hser.setPort p _ List.mem_cons_self).setFlag _ true (by cases p <;> decide)).event 4 _ (by cases p <;> decide)
      (by cases p <;> decide) (by cases p <;> decide)
  · split
    · exact (hser.setPort p _ List.mem_cons_self).setFlag _ false (by cases p <;> decide)
    · exact hser.setPort p _ List.mem_cons_self

theorem judgeSecond_other (p : Port) (s : State) :
    (judgeSecond p s).portLink (otherPort p) = s.portLink (otherPort p) := by
  unfold judgeSecond
  dsimp only
  split
  · simp
  · split <;> simp

theorem judgeSecond_judged (p : Port) (s : State) : Judged p s (judgeSecond p s) := by
  by_cases hbad : s.reg Obj.DEGRADE_LIMIT < (s.portLink p).serCount
  · constructor
    all_goals simp only [judgeSecond, if_pos hbad]
    · rw [event_reg _ _ _ _ (by cases p <;> decide)]
      simp [State.setFlag]
    · simp
    · intro _
      rw [State.flag, event_reg _ _ _ _ (by cases p <;> decide)]
      simp [State.setFlag, b2n]
    · exact fun h => absurd hbad (not_lt.mpr h)
  · constructor
    all_goals simp only [judgeSecond, if_neg hbad]
    · split <;> simp [State.setFlag]
    · split <;> simp
    · exact fun h => absurd h hbad
    · intro _
      split
      · next h =>
        have : ¬ (s.portLink p).goodSeconds < 9 := by omega
        simp [State.flag, State.setFlag, b2n, this]
      · next h =>
        have : (s.portLink p).goodSeconds < 9 := by omega
        simp [State.flag, this]

/-- The two ports are judged one after the other. -/
theorem judgeSecond_both (p : Port) (s : State) : Judged p s (judgeSecond .b (judgeSecond .a s)) := by
  cases p with
  | a =>
    have hwithin := judgeSecond_within .b (judgeSecond .a s)
    exact (judgeSecond_judged .a s).later (judgeSecond_other .b _) (hwithin.obj _ 0 (by decide) (by decide))
      (hwithin.obj _ 0 (by decide) (by decide))
  | b =>
    have hwithin := judgeSecond_within .a s
    exact (judgeSecond_judged .b (judgeSecond .a s)).earlier (judgeSecond_other .a s)
      (hwithin.obj _ 0 (by decide) (by decide)) (hwithin.obj _ 0 (by decide) (by decide))

/-- The objects of a judged second. -/
def secondObjs : List Nat := [Obj.FEC_SER_1S 0, Obj.FEC_SER_1S 1, Obj.PORT_DEGRADED 0, Obj.PORT_DEGRADED 1,
  Obj.EVENT_SEQUENCE, Obj.EVENTS_DROPPED]

theorem judgeSecond_within_second (p : Port) (s : State) :
    s.Within (eventFootprint [.link, .traffic] secondObjs) (judgeSecond p s) :=
  (judgeSecond_within p s).widen (hobjs := by cases p <;> decide)

/-! ### The wake pattern (R266) -/

theorem enterSeek_port (p : Port) (s : State) : (enterSeek p s).portState p = 1 ∧
    (enterSeek p s).portLink (otherPort p) = s.portLink (otherPort p) ∧ (enterSeek p s).out = s.out := by
  simp [enterSeek, takeTransmit, State.setPortState, State.portState]

/-- What the start of a wake pattern may touch. -/
def wakeFootprintOf (p : Port) : Footprint := eventFootprint [.link, .out] [Obj.PORT_STATE (portIx p)]

theorem enterSeek_within (h : s.Within F u) (p : Port) (ho : F.objs (Obj.PORT_STATE (portIx p)) = true)
    (hlink : .link ∈ F.parts) : s.Within F (enterSeek p u) :=
  ((h.afresh p hlink).setReg _ _ ho).setPort p _ hlink

/-- A port in training that starts its wake pattern trains afresh (R266). -/
def State.overridden (s : State) (p : Port) : State :=
  if 1 ≤ s.portState p && s.portState p ≤ 6 then enterSeek p s else s

theorem startWake_eq (p : Port) (s : State) :
    startWake p s = ((s.overridden p).modPort p fun x => { x with waking := true }).emit (.wakePattern p) := rfl

theorem overridden_state (p : Port) (s : State) : s.Within (wakeFootprintOf p) (s.overridden p) ∧
    (s.overridden p).portState p = (if 1 ≤ s.portState p ∧ s.portState p ≤ 6 then 1 else s.portState p) ∧
    (s.overridden p).portLink (otherPort p) = s.portLink (otherPort p) ∧ (s.overridden p).out = s.out := by
  obtain ⟨hstate, hother, hout⟩ := enterSeek_port p s
  unfold State.overridden
  by_cases h : 1 ≤ s.portState p ∧ s.portState p ≤ 6
  · have hseeks : (decide (1 ≤ s.portState p) && decide (s.portState p ≤ 6)) = true := by simpa using h
    rw [if_pos hseeks, if_pos h]
    exact ⟨enterSeek_within (refl _ s) p (eventObjs_mem List.mem_cons_self) List.mem_cons_self, hstate, hother, hout⟩
  · have hkeeps : ¬ (decide (1 ≤ s.portState p) && decide (s.portState p ≤ 6)) = true := by simpa using h
    rw [if_neg hkeeps, if_neg h]
    exact ⟨refl _ s, rfl, rfl, rfl⟩

/-- The wake pattern starts on a port where the mask has its bit. -/
def State.wakes (s : State) (p : Port) (mask : Nat) : State := if bitAt mask (portIx p) then startWake p s else s

/-- What it leaves of the ports. -/
structure Woken (p : Port) (mask : Nat) (s u : State) : Prop where
  within : s.Within (wakeFootprintOf p) u
  waking : bitAt mask (portIx p) = true → (u.portLink p).waking = true ∧ .wakePattern p ∈ u.out ∧
    u.portState p = (if 1 ≤ s.portState p ∧ s.portState p ≤ 6 then 1 else s.portState p)
  kept : bitAt mask (portIx p) = false → u.portLink p = s.portLink p ∧ u.portState p = s.portState p
  otherLink : u.portLink (otherPort p) = s.portLink (otherPort p)
  out : ∀ x ∈ s.out, x ∈ u.out

theorem wakes_woken (p : Port) (mask : Nat) (s : State) : Woken p mask s (s.wakes p mask) := by
  unfold State.wakes
  cases h : bitAt mask (portIx p) with
  | false => exact ⟨refl _ s, fun hb => absurd (h.symm.trans hb) (by decide), fun _ => ⟨rfl, rfl⟩, rfl, fun _ => id⟩
  | true =>
    rw [if_pos rfl, startWake_eq]
    obtain ⟨hwithin, hstate, hother, hout⟩ := overridden_state p s
    refine ⟨(hwithin.modPort p _ List.mem_cons_self).emit _ (List.mem_cons_of_mem _ List.mem_cons_self),
      fun _ => ⟨by simp, by simp, ?_⟩, fun hb => absurd (h.symm.trans hb) (by decide), by simp [hother], fun x hx => ?_⟩
    · simpa [State.portState] using hstate
    · simp [hout, hx]

/-- The other port's state is no object of this one. -/
theorem Woken.otherState {mask : Nat} (h : Woken p mask s u) : u.portState (otherPort p) = s.portState (otherPort p) :=
  h.within.obj _ 0 (by cases p <;> decide) (by decide)

/-- Both ports after the command: each is woken or kept by its own bit. -/
theorem wakes_both (p : Port) (mask : Nat) (s : State) :
    (bitAt mask (portIx p) = true → (((s.wakes .a mask).wakes .b mask).portLink p).waking = true ∧
      .wakePattern p ∈ ((s.wakes .a mask).wakes .b mask).out ∧ ((s.wakes .a mask).wakes .b mask).portState p =
        (if 1 ≤ s.portState p ∧ s.portState p ≤ 6 then 1 else s.portState p)) ∧
      (bitAt mask (portIx p) = false → ((s.wakes .a mask).wakes .b mask).portLink p = s.portLink p ∧
        ((s.wakes .a mask).wakes .b mask).portState p = s.portState p) := by
  have hfirst := wakes_woken .a mask s
  have hlast := wakes_woken .b mask (s.wakes .a mask)
  cases p with
  | a =>
    have hlink : ((s.wakes .a mask).wakes .b mask).portLink .a = (s.wakes .a mask).portLink .a := hlast.otherLink
    have hstate : ((s.wakes .a mask).wakes .b mask).portState .a = (s.wakes .a mask).portState .a := hlast.otherState
    rw [hlink, hstate]
    refine ⟨fun h => ?_, hfirst.kept⟩
    obtain ⟨hwaking, hsent, hnext⟩ := hfirst.waking h
    exact ⟨hwaking, hlast.out _ hsent, hnext⟩
  | b =>
    have hlink : (s.wakes .a mask).portLink .b = s.portLink .b := hfirst.otherLink
    have hstate : (s.wakes .a mask).portState .b = s.portState .b := hfirst.otherState
    rw [← hlink, ← hstate]
    exact ⟨hlast.waking, hlast.kept⟩

/-- Bits of a byte. -/
theorem bitAt_mod_256 (v : Nat) (p : Port) : bitAt (v % 256) (portIx p) = bitAt v (portIx p) := by
  cases p <;> simp only [portIx, bitAt_eq_testBit] <;> exact (Nat.testBit_mod_two_pow v 8 _).trans (by simp)

theorem actWakeSend_done (q : Request) (s : State) :
    actWakeSend q s = .done ((s.wakes .a (leNat q.data)).wakes .b (leNat q.data)) := by
  have ha := bitAt_mod_256 (leNat q.data) .a
  have hb := bitAt_mod_256 (leNat q.data) .b
  unfold actWakeSend maskPorts State.wakes Request.arg
  rw [List.filter_cons, List.filter_cons, List.filter_nil, ha, hb]
  cases bitAt (leNat q.data) (portIx .a) <;> cases bitAt (leNat q.data) (portIx .b) <;> rfl

/-! ### A host command of a port -/

/-- WAKE_SEND has no reserved bits (R10). -/
theorem keptBits_wakeSend (o : Nat) : keptBits Obj.WAKE_SEND o = 0xFF#8 := rfl

/-- The ports as a host command finds them. -/
@[simp] theorem State.asked_ports (s : State) (q : Request) :
    (s.asked q).portLink = s.portLink ∧ (s.asked q).portState = s.portState := by
  have hlink : (s.asked q).link = s.link := by
    unfold State.asked State.accessed
    split <;> simp [State.crossed]
  refine ⟨(State.ports_of_link hlink).1, ?_⟩
  funext p
  exact s.reg_asked q _ (by cases p <;> decide)

/-- An answer of success leaves the ports, and adds to what has left the device. -/
theorem respond_zero_ports (s : State) (q : Request) (total : Nat) (data : Bytes) :
    (s.respond q 0 total data).portLink = s.portLink ∧ (s.respond q 0 total data).portState = s.portState :=
  ⟨(State.ports_of_link (by simp)).1, by funext p; simp [State.portState]⟩

theorem respond_zero_out (q : Request) (total : Nat) (data : Bytes) {x : Output} (hx : x ∈ s.out) :
    x ∈ (s.respond q 0 total data).out := by
  have h0 : ¬ (0 : Nat) = abortAsleep := by decide
  simp only [State.respond, if_true, if_neg h0, State.sendResponse]
  split
  · split <;> exact hx
  · exact hx
  · exact List.mem_cons_of_mem _ hx

/-- What WAKE_SEND may touch. -/
def wakeSendFootprint : Footprint := commandFootprint [.answer, .out, .link] [Obj.PORT_STATE 0, Obj.PORT_STATE 1]

theorem wakes_within (h : s.Within wakeSendFootprint u) (p : Port) (mask : Nat) :
    s.Within wakeSendFootprint (u.wakes p mask) := by
  have hwithin : u.Within (eventFootprint [.answer, .out, .link] [Obj.PORT_STATE 0, Obj.PORT_STATE 1]) (u.wakes p mask) :=
    (wakes_woken p mask u).within.widen (hobjs := by cases p <;> decide)
  exact h.trans (hwithin.mono (fun _ => id) (fun _ => id) id nofun id)

end Service

/-! ### The obligation -/

/-- Settles O44: a codeword of UP leaves what is heard and counted of it, with its buffers (`codeword_up_heard`,
`heard_counts`); a second is judged for each port on its own (`judgeSecond_both`); WAKE_SEND starts the pattern on each
port of its mask (`wakes_both`). -/
theorem codewordsAreCountedAndJudged : Obligations.CodewordsAreCountedAndJudged := by
  refine ⟨?up, ?down, ?second, ?wake, ?wakeEnd⟩
  case up =>
    intro s p l0 l1 drift trouble h hacts hup hheard
    obtain ⟨hreg, hnat, -, hlink, hrx⟩ := codeword_up_heard (l0 := l0) (l1 := l1) (drift := drift) (trouble := trouble) hup
    obtain ⟨hwords, hsome, hnone⟩ := heard_counts (l0 := l0) (l1 := l1) hup
    rw [← hheard] at hlink hrx hsome hnone
    refine ⟨_, onIsland_acts s (codeword p l0 l1 drift trouble) 0 hacts, ?_⟩
    simp only [settle_ports, settle_frame, hnat, hlink, hrx]
    refine ⟨?_, fun k hk => ?_, fun hk => ?_, ?_, ?_, ?_, ?_⟩
    · rw [hreg _ (by cases p <;> decide), hwords]
    · obtain ⟨hsymbols, hfixed, hhistogram⟩ := hsome k hk
      rw [hreg _ (by cases p <;> decide), hreg _ (by cases p <;> decide), hk]
      exact ⟨hsymbols, hfixed, fun _ => hhistogram, rfl⟩
    · rw [hreg _ (by cases p <;> decide), hk]
      exact ⟨hnone hk, rfl⟩
    · rintro rfl
      exact ⟨rfl, codeword_up_frame hup List.mem_cons_self (fun _ => List.mem_cons_of_mem _) List.mem_cons_self fun _ => id⟩
    · rintro n rfl
      refine ⟨?_, rfl, codeword_up_frame hup (by simp) (fun o ho => by simp [ho]) List.mem_cons_self fun t ht =>
        ht.bumpAt _ 2 n (eventObjs_mem (parts := [.link]) List.mem_cons_self)⟩
      rw [codeword_up hup, passed_regAt _ _ _ (by cases p <;> decide)]
      simp only [bufferBlocks]
      rw [State.regAt_bumpAt, if_pos rfl, heard_regAt s p l0 l1 2 (by cases p <;> decide)]
      rfl
    · rintro i o rfl
      obtain ⟨hcount, hoffset, hfault⟩ := sramUncorrectable_counts (s.heard p l0 l1) o
      rw [codeword_up hup, passed_regAt _ _ _ (by cases p <;> decide), passed_regAt _ _ _ (by cases p <;> decide)]
      rw [heard_regAt s p l0 l1 2 (by cases p <;> decide)] at hcount
      exact ⟨hcount, hoffset, by simpa [bufferBlocks] using hfault⟩
    · exact codeword_up_frame hup (by simp) (fun o ho => by simp [ho]) List.mem_cons_self fun t ht =>
        bufferBlocks_within ht trouble _ (by simp [eventFootprint]) (eventObjs_mem (parts := [.link, .fault]) (by simp))
          (eventObjs_mem (parts := [.link, .fault]) (by simp)) (eventObjs_mem (parts := [.link, .fault]) (by simp))
  case down =>
    intro s p l0 l1 drift trouble hacts hup
    refine ⟨_, onIsland_acts s (codeword p l0 l1 drift trouble) 0 hacts, ?_⟩
    rw [codeword_down hup]
    split
    · exact ⟨by simp, by simp, (hearCodeword_within (refl (eventFootprint [.link] []) s) p l0 l1 List.mem_cons_self).eventFrame⟩
    · exact ⟨rfl, rfl, s.frame_settle_self _ _⟩
  case second =>
    intro s hacts
    refine ⟨_, onIsland_acts s (fun s => judgeSecond .b (judgeSecond .a s)) 0 hacts, fun p => ?_,
      ((judgeSecond_within_second .a s).trans (judgeSecond_within_second .b _)).eventFrame⟩
    obtain ⟨hser, hstarts, hbad, hgood⟩ := judgeSecond_both p s
    exact ⟨hser, hstarts, hbad, hgood⟩
  case wake =>
    intro s rq data hadmits
    obtain ⟨hlink, hstate⟩ := s.asked_ports (wholeWrite rq Obj.WAKE_SEND data)
    have hboth := fun p => wakes_both p (leNat data) (s.asked (wholeWrite rq Obj.WAKE_SEND data))
    rw [hlink, hstate] at hboth
    refine ⟨_, hostWrite_asked hadmits keptBits_wakeSend (actWakeSend_done _ _), State.respond_answered _ _ _ _ _,
      fun p hp => ?_, fun p hp => ?_, ?_⟩
    · obtain ⟨hwaking, hsent, hnext⟩ := (hboth p).1 hp
      simp only [conclude, settle_ports, settle_frame, respond_zero_ports]
      exact ⟨hwaking, respond_zero_out _ _ _ hsent, hnext⟩
    · simp only [conclude, settle_ports, respond_zero_ports]
      exact (hboth p).2 hp
    · refine hostFrame_of_within (F := wakeSendFootprint) ((accessed_within _ Obj.WAKE_SEND rfl).trans
        ((wakes_within (wakes_within (refl _ _) .a _) .b _).trans
          (respond_zero_within _ _ _ _ List.mem_cons_self (by decide)))) (fun _ => id) ?_ rfl ?_ (by decide)
      · exact fun o ho => List.contains_iff_mem.mp ho
      · intro k hk
        simpa [wakeSendFootprint, commandFootprint] using hk
  case wakeEnd =>
    intro s p hacts
    exact ⟨_, onIsland_acts s (endWake p) 0 hacts, s.portLink_modPort p _, s.portLink_modPort_other p _,
      ((refl (eventFootprint [.link] []) s).modPort p _).eventFrame⟩

end Sys2Proof.Machine
end

section
/-! The statement of the family "Rovan link, physical" that fails: its counterexample, a state that the model evaluates. -/

namespace Sys2Proof.Machine

set_option Elab.async false

/-! ### An uncorrectable run on a port that is not UP, beside a live bit that has not settled (09 R238, 13 R326) -/

/-- UNCORRECTABLE_RUN cannot occur in the stale device, none of whose ports has heard an uncorrectable codeword, and
leaves it as it is. -/
theorem staleDevice_uncorrectableRun : exec (.uncorrectableRun .a) staleDevice = .next staleDevice :=
  gate_idle staleDevice (downIfUp .a 3 8) (staleDevice.alive 0 && decide (8 ≤ (staleDevice.portLink .a).ueRun)) (by decide)
    (by decide)

/-- Refutes O43: its second clause promises that UNCORRECTABLE_RUN on a port that is not UP has an empty frame, in which
the live bits of sources that no longer report have settled (13 R326). The model lets no such event occur while fewer
than eight codewords in a row were uncorrectable: it leaves the device as it is, and settles nothing. They differ where
a live bit has a source that does not report, which the statement does not exclude: `staleDevice` keeps its bit 9. The
clauses of ALIGNMENT_LOST, TRAIN_TIMEOUT and HOLDOFF_EXPIRY for a port in another state fail in the same way. -/
theorem not_portsGoDownWithTheirCause : ¬ Obligations.PortsGoDownWithTheirCause := by
  rintro ⟨-, uncorrectable, -⟩
  obtain ⟨t, hexec, -, hidle, -⟩ := uncorrectable staleDevice .a (by decide)
  rw [staleDevice_uncorrectableRun, Host.Outcome.next.injEq] at hexec
  obtain ⟨-, hparts, -⟩ := hidle (.inl (by decide))
  have hlive : t.fault.live = staleDevice.fault.live.filter t.reporting := hparts .live (by decide)
  rw [← hexec, staleDevice_live.2, staleDevice_live.1] at hlive
  cases hlive

end Sys2Proof.Machine
end

section
/-! The statements of the family "Rovan link, traffic" that fail: their counterexamples, states that the model evaluates. -/

namespace Sys2Proof.Machine

set_option Elab.async false

/-! ### Events that cannot occur, beside a live bit that has not settled (13 R326) -/

/-- A command that leaves the stale device as it is keeps to no frame of the device's live bits: a frame has them settled. -/
theorem staleDevice_not_framed {c : Instr} {t : State} {parts : List Part} {objs tables : List Nat}
    (hidle : exec c staleDevice = .next staleDevice) (hlive : .live ∉ Part.regs :: .tabs :: parts)
    (hexec : exec c staleDevice = .next t) : ¬ staleDevice.frame t parts objs tables := by
  rintro ⟨-, hparts, -⟩
  rw [hidle, Host.Outcome.next.injEq] at hexec
  have hsettled : t.fault.live = staleDevice.fault.live.filter t.reporting := hparts .live hlive
  rw [← hexec, staleDevice_live.2, staleDevice_live.1] at hsettled
  cases hsettled

/-- LOCAL_PACKET_SEND cannot occur on a port that is not UP (10 R252). -/
theorem staleDevice_sendsNothing : exec (.localPacketSend .a) staleDevice = .next staleDevice :=
  gate_idle staleDevice (sendNext .a) (staleDevice.alive 0 && staleDevice.up .a) (by decide) (by decide)

/-- Refutes O45: its last clause promises that LOCAL_PACKET_SEND on a port that is not UP has an empty frame, in which the
live bits of sources that no longer report have settled (13 R326). The model lets no event occur on such a port: it
leaves the device as it is, and settles nothing. They differ where a live bit has a source that does not report, which
the statement does not exclude: `staleDevice` keeps its bit 9. PACKET_FORWARD and POISON_RX with nothing for them in
front of the port fail in the same way. -/
theorem not_packetsAreForwardedOrDropped : ¬ Obligations.PacketsAreForwardedOrDropped := by
  rintro ⟨-, -, -, -, idle⟩
  obtain ⟨t, hexec, hframe⟩ := idle staleDevice .a (by decide) (.inl (by decide))
  exact staleDevice_not_framed staleDevice_sendsNothing (by decide) hexec hframe

/-- SLEEP_ENTRY_COMPLETE cannot occur while no sleep is being entered (14 R355). -/
theorem staleDevice_staysAwake : exec .sleepEntryComplete staleDevice = .next staleDevice :=
  gate_idle staleDevice asleepNow (!staleDevice.device.frozen && staleDevice.power.entering.isSome) (by decide) (by decide)

/-- Refutes O59: its clause on SLEEP_ENTRY_COMPLETE while no sleep is being entered promises an empty frame, in which the
live bits of sources that no longer report have settled (13 R326). The model lets no such event occur: it leaves the
device as it is, and settles nothing. They differ where a live bit has a source that does not report, which the
statement does not exclude: `staleDevice` keeps its bit 9. SLEEP_EXIT of a device that is not asleep, or that no
condition wakes, fails in the same way. -/
theorem not_sleepIsEnteredAndLeft : ¬ Obligations.SleepIsEnteredAndLeft := by
  rintro ⟨-, -, -, -, -, -, notEntering, -⟩
  obtain ⟨t, hexec, hframe⟩ := notEntering staleDevice (by decide) (by decide)
  exact staleDevice_not_framed staleDevice_staysAwake (by decide) hexec hframe

/-! ### An election won while the queue of events is full (10 R257, R262, R263) -/

/-- Packets of the device's own that leave on the ports are no objects. -/
theorem bothPorts_reg (kind dest : Nat) (fields payload : Bytes) (s : State) :
    (bothPorts kind dest fields payload s).reg = s.reg := by
  simp only [bothPorts, List.foldl]
  split <;> split <;> rfl

/-- An event on a full queue is dropped, and the sequence still advances (10 R257). -/
theorem event_full_reg {s : State} (hfull : 64 ≤ s.traffic.events.length) (code : Nat) (data : Bytes) :
    (s.event code data).reg Obj.EVENT_SEQUENCE = (s.reg Obj.EVENT_SEQUENCE + 1) % 2 ^ 16 := by
  have hwidth : widthOf Obj.EVENT_SEQUENCE = 16 := rfl
  have hother : Obj.EVENT_SEQUENCE ≠ Obj.EVENTS_DROPPED := by decide
  simp [State.event, not_lt.mpr hfull, hother, hwidth]

/-- A device that wins the election on a full queue drops its event (10 R257, R263). -/
theorem elect_full_reg {s : State} (hwinner : s.winner = some s.ownAnnounce) (hfull : 64 ≤ s.traffic.events.length) :
    (elect s).reg Obj.EVENT_SEQUENCE = (s.reg Obj.EVENT_SEQUENCE + 1) % 2 ^ 16 := by
  have hdevice : Obj.EVENT_SEQUENCE ≠ Obj.COX_DEVICE := by decide
  have hserial : Obj.EVENT_SEQUENCE ≠ Obj.COX_SERIAL := by decide
  simp only [elect, hwinner, if_true, sendRoster, bothPorts_reg]
  rw [event_full_reg (by exact hfull), State.setFlag, State.reg_setReg, if_neg hdevice, State.reg_setReg, if_neg hserial]
  rfl

/-- A running device, alone in its chain, that elects the cox device with 64 events in its queue. -/
def electingDevice : State :=
  { runningDevice with
    traffic := { electing := true, events := List.replicate 64 { code := 5, time := 0, data := [] } } }

/-- Its own announce is the only one, and its class may win. -/
theorem electingDevice_winner : electingDevice.winner = some electingDevice.ownAnnounce := rfl

/-- Refutes O47: its clause on COX_ELECTION lets no object change but COX_SERIAL, COX_DEVICE and EVENTS_DROPPED. A device
that wins sends an event (10 R263), and on a full queue EVENT_SEQUENCE advances with EVENTS_DROPPED (R257):
`electingDevice` wins alone, with 64 events waiting. The frame of BREAK_RX leaves the same object out; and the empty
frame of COX_ELECTION while no election is under way fails beside a live bit that has not settled (13 R326). -/
theorem not_theChainIsEnumerated : ¬ Obligations.TheChainIsEnumerated := by
  rintro ⟨-, -, -, -, -, election, -⟩
  obtain ⟨t, hexec, -, -, -, -, -, -, -, hobjs, -⟩ := election electingDevice (by decide)
  have hrun : exec .coxElection electingDevice = .next (settle (elect electingDevice)) :=
    onIslandIf_acts electingDevice elect (fun s => s.traffic.electing) 6 (by decide) (by decide)
  rw [hrun, Host.Outcome.next.injEq] at hexec
  have hkept : t.reg Obj.EVENT_SEQUENCE = electingDevice.reg Obj.EVENT_SEQUENCE :=
    hobjs Obj.EVENT_SEQUENCE 0 (by decide) (by decide) (by decide)
  have hcount : (elect electingDevice).reg Obj.EVENT_SEQUENCE = (electingDevice.reg Obj.EVENT_SEQUENCE + 1) % 2 ^ 16 :=
    elect_full_reg electingDevice_winner (by decide)
  rw [← hexec] at hkept
  have hsame : (electingDevice.reg Obj.EVENT_SEQUENCE + 1) % 2 ^ 16 = electingDevice.reg Obj.EVENT_SEQUENCE :=
    hcount.symm.trans hkept
  exact absurd hsame (by decide)

/-! ### A READ of a PRBS count over a CONTROL packet, while the lane's checker counts (09 R241, 10 R255) -/

section ControlRead

variable {s : State} {p : Port} {k sent : Packet} {use : State → State}

/-- A packet in front of a port that is UP is dealt with. -/
theorem onPacket_acts {kind : Nat} (op : Packet → State → State) (hacts : s.acts 0 = true) (hup : s.up p = true)
    (hfront : s.arrived p = some k) (hkind : k.kind = kind) : onPacket p kind op s = .next (settle (op k s)) := by
  have hrun := onIslandIf_acts s (fun s => ((s.arrived p).map fun k => op k s).getD s)
    (fun s => s.up p && (s.arrived p).any (·.kind == kind)) 0 hacts (by simp [hup, hfront, hkind])
  simpa [onPacket, hfront] using hrun

/-- The state in which a packet that is taken is used: its blocks are off the blocks received, it has gone on as `sent`,
and it is counted (10 R248). -/
def State.takenFrom (s : State) (p : Port) (k sent : Packet) : State :=
  (forward p k sent (s.front p).blocks ((takeFront p s).bump (Obj.PKT_RX (portIx p)))).bump (Obj.PKT_TAKEN (portIx p))

/-- A sound packet of a known kind that is addressed to the device is used (10 R248, R250). -/
theorem arrive_taken (hbody : k.bodyOk = true) (hmarked : k.marked = 0) (hkind : knownKind k.kind = true)
    (hdest : s.addressed k.dest = true) : arrive p k sent true true use s = use (s.takenFrom p k sent) := by
  simp [arrive, hbody, hmarked, hkind, hdest, State.takenFrom]

/-- A request that the agent hears is counted and executed (15 R366, R377). -/
theorem request_heard {q : Request} (run : Request → State → State) (h : s.hears q = true) :
    request run q s = run q (s.taken q) := by
  simp only [State.hears, Bool.and_eq_true, Option.isNone_iff_eq_none] at h
  obtain ⟨⟨⟨-, hrecord⟩, hkey⟩, hheld⟩ := h
  by_cases hrole : q.rq.role = 0 <;> simp [request, hrecord, hkey, State.taken, hrole, hheld]

/-- The READ in a CONTROL packet that is taken reaches its object (10 R255, 15 R368). -/
theorem exec_controlRead {q : Request} (hacts : s.acts 0 = true) (htakes : s.takes p k 2 = true)
    (hq : parseMessage (portVia p) (.rovan k.source) k.payload = q) (hsound : malformed k.payload = false)
    (hop : q.opcode = 1) (hhears : (s.takenFrom p k k).hears q = true) : exec (.controlPacketRx p) s =
      .next (settle (executeRead (readValue q.obj) q ((s.takenFrom p k k).taken q))) := by
  simp only [State.takes, Bool.and_eq_true, beq_iff_eq] at htakes
  obtain ⟨⟨⟨⟨⟨hup, hfront⟩, hkind⟩, hbody⟩, hmarked⟩, hdest⟩ := htakes
  have hruns : (s.takenFrom p k k).agentRuns (portVia p) = true := by
    have hvia : q.rq.via = portVia p := hq ▸ rfl
    simp only [State.hears, Bool.and_eq_true] at hhears
    exact hvia ▸ hhears.1.1.1.2
  have hknown : knownKind k.kind = true := by rw [hkind]; rfl
  have hread : deliver (portVia p) (.rovan k.source) k.payload (s.takenFrom p k k) =
      executeRead (readValue q.obj) q ((s.takenFrom p k k).taken q) := by
    simp [deliver, hq, hsound, hruns, hop, request_heard, hhears, runAny, runRequest]
  rw [← hread, ← arrive_taken (use := deliver (portVia p) (.rovan k.source) k.payload) hbody hmarked hknown hdest]
  exact onPacket_acts (fun k => arrive p k k true true (deliver (portVia p) (.rovan k.source) k.payload)) hacts hup
    hfront hkind

/-- A number whose READ finds what a checker has counted up to now is read after that count (09 R241). -/
theorem readValue_counted {u : State} {obj n sel : Nat} {r : ObjRow} (hrow : rowOf obj = some r) (hty : r.ty = .fixed n)
    (hbank : (countedBy obj u).bankOf obj = some sel) (hopen : (countedBy obj u).openReading obj = none)
    (hmap : obj ≠ Obj.X_MAP_ENTRY) : readValue obj u = .ok (countedBy obj u)
      (natLE n (((countedBy obj u).formed obj).getD ((countedBy obj u).regAt obj sel))) := by
  simp [readValue, hrow, hty, readNumber, hbank, hopen, hmap]

/-- What a locked checker of lane 0 has counted: 224 bits a tick (09 R241). -/
theorem countPrbs_bits (hlocked : s.flag (Obj.LANE_PRBS_LOCKED (laneIx p 0)) = true) :
    (countPrbs p 0 s).reg (Obj.LANE_PRBS_BITS (laneIx p 0)) =
      (s.reg (Obj.LANE_PRBS_BITS (laneIx p 0)) + 224 * (s.ticks - (s.portLink p).checked0At)) % 2 ^ 64 := by
  have hwidth : widthOf (Obj.LANE_PRBS_BITS (laneIx p 0)) = 64 := by cases p <;> rfl
  simp [countPrbs, hlocked, State.modPort, hwidth]

end ControlRead

/-- A message that reads LANE2_PRBS_BITS, of the role "viewer" (15 R368 Table 2). -/
def prbsMessage : Bytes := natLE 1 1 ++ natLE 1 1 ++ natLE 2 1 ++ natLE 2 0x5032 ++ natLE 1 0x0B ++ natLE 17 0

/-- Its request. -/
def prbsRequest : Request := parseMessage .portA (.rovan 9) prbsMessage

/-- Its CONTROL packet, for the neighbour. -/
def prbsPacket : Packet :=
  { kind := 2, hops := 0, dest := 0xFFFD, source := 9, fields := natLE 20 0, payload := prbsMessage, bodyOk := true, marked := 0 }

/-- A device whose port A is UP and has received that packet, and whose port B is in TEST, with the checker of lane 0 locked
one tick ago. -/
def checkingDevice : State :=
  { ((((runningDevice.setReg (Obj.PORT_STATE 0) 7).setReg (Obj.PORT_STATE 1) 9).setFlag (Obj.LANE_PRBS_LOCKED 2) true).modStream
      .a fun x => { x with
        rx := (prbsPacket.header prbsMessage.length :: payloadBlocks prbsMessage).map fun b => { block := b } }) with
    ticks := 1 }

/-- The row of LANE2_PRBS_BITS. -/
def prbsBitsRow : ObjRow :=
  { sub := 0x0B, ty := .fixed 8, mask := 2 ^ 64 - 1, access := .ro, dflt := 0, role := 1, owner := .none, aon := false }

theorem prbsRequest_obj : prbsRequest.obj = Obj.LANE_PRBS_BITS 2 := by decide +kernel

theorem rowOf_prbsBits : rowOf prbsRequest.obj = some prbsBitsRow := by decide +kernel

theorem prbsMessage_sound : malformed prbsMessage = false := by decide +kernel

theorem checkingDevice_takes : checkingDevice.takes .a prbsPacket 2 = true := by decide +kernel

theorem checkingDevice_admits : checkingDevice.admitsRead prbsRequest = true := by decide +kernel

/-- The state in which the READ finds its object. -/
def prbsRead : State := ((checkingDevice.takenFrom .a prbsPacket prbsPacket).taken prbsRequest).accessed prbsRequest.obj

/-- The checker has counted 224 bits in its one tick. -/
theorem prbsRead_counts : (countedBy prbsRequest.obj prbsRead).reg (Obj.LANE_PRBS_BITS 2) = 224 := by
  have hlocked : prbsRead.flag (Obj.LANE_PRBS_LOCKED (laneIx .b 0)) = true := by decide +kernel
  have hcount : (prbsRead.reg (Obj.LANE_PRBS_BITS (laneIx .b 0)) + 224 * (prbsRead.ticks - (prbsRead.portLink .b).checked0At))
      % 2 ^ 64 = 224 := by decide +kernel
  have hlane : countedBy prbsRequest.obj prbsRead = countPrbs .b 0 prbsRead := by
    rw [prbsRequest_obj]
    rfl
  rw [hlane]
  exact (countPrbs_bits hlocked).trans hcount

theorem prbsRead_value : readValue prbsRequest.obj prbsRead = .ok (countedBy prbsRequest.obj prbsRead) (natLE 8 224) := by
  rw [readValue_counted (sel := 0) rowOf_prbsBits rfl rfl rfl (by decide)]
  exact congrArg (fun v => Value.ok _ (natLE 8 v)) prbsRead_counts

/-- The READ is answered with the 224 bits. -/
theorem checkingDevice_answers : exec (.controlPacketRx .a) checkingDevice =
    .next (settle ((countedBy prbsRequest.obj prbsRead).respond prbsRequest 0 0 (natLE 8 224))) := by
  have hfind : ((checkingDevice.takenFrom .a prbsPacket prbsPacket).taken prbsRequest).findObj prbsRequest.obj =
      some prbsBitsRow := by decide +kernel
  have hreach : ((checkingDevice.takenFrom .a prbsPacket prbsPacket).taken prbsRequest).reach prbsBitsRow
      prbsRequest.obj = .ready := by decide +kernel
  rw [exec_controlRead (p := .a) (q := prbsRequest) (by decide +kernel) checkingDevice_takes rfl prbsMessage_sound rfl
      (by decide +kernel), executeRead_fixed _ hfind rfl hreach rfl prbsRead_value]

/-- Refutes O46: its clause on a READ over a CONTROL packet promises the value that the object holds before the packet
arrives. A READ of LANEn_PRBS_BITS first brings the count of a locked checker up to now (09 R241), and the statement
does not leave that object out: in `checkingDevice` port A brings a READ of LANE2_PRBS_BITS, which holds 0, and the
answer is the 224 bits that the checker of port B has seen in one tick. The count of errors fails in the same way, and
both READs change objects and draw a free value outside the clause's frame. The frames of the ARP and echo clauses also
fail, where the agent of the T1S port does not run, beside a live bit that has not settled (13 R326). -/
theorem not_streamsFencesAndMessagesArrive : ¬ Obligations.StreamsFencesAndMessagesArrive := by
  rintro ⟨-, -, -, controlRead, -⟩
  obtain ⟨t, hexec, -, -, hanswer, -⟩ := controlRead checkingDevice .a prbsPacket prbsRequest prbsBitsRow 8 0
    (by decide +kernel) checkingDevice_takes rfl prbsMessage_sound rfl checkingDevice_admits rowOf_prbsBits rfl rfl
    (by decide +kernel) rfl (by decide) (by decide) (by decide)
  rw [checkingDevice_answers, Host.Outcome.next.injEq] at hexec
  have hcounted : t.answerData = natLE 8 224 := by
    rw [← hexec]
    exact respond_answerData _ _ _ _ _
  have hheld : checkingDevice.regAt prbsRequest.obj 0 = 0 := by decide +kernel
  rw [hcounted, hheld] at hanswer
  exact absurd hanswer (by decide)

end Sys2Proof.Machine
end

section
/-! The step, the commands that always act, and the live bits of the fault sources: what every step of the block does and
keeps (spec 95, 13 R324, R326, 16 R402). -/

namespace Sys2Proof.Machine

set_option Elab.async false

/-! ### The step (spec 95) -/

/-- Settles O1: the step takes the front of the queue, and runs it on the state with the rest. -/
theorem stepRunsTheFrontCommand : Obligations.StepRunsTheFrontCommand := by
  refine ⟨fun c s => rfl, fun c rest s h => ?_⟩
  simp only [step, h]

/-! ### EXTEST and the JTAG port (16 R402) -/

/-- A device whose functional state EXTEST has left undefined. -/
def extestDevice : State := { runningDevice with device := { runningDevice.device with extest := true } }

/-- JTAG_FREEZE goes through the gate that EXTEST closes. -/
theorem extestDevice_jtagFreeze : exec .jtagFreeze extestDevice = .fault .functionalStateUndefined :=
  gate_fault extestDevice (fun t => if t.device.frozen || t.inReset then setTap 0x2A t else freeze (setTap 0x2A t))
    (extestDevice.device.phase != .powerOnReset) rfl

/-- Refutes O6: its second clause says that each command that always acts, JTAG_FREEZE among them, answers a next state,
after EXTEST too. The model lets JTAG_FREEZE through the gate of the events, which stops with a fault after EXTEST:
`extestDevice` takes the instruction and faults. -/
theorem not_extestLeavesStateUndefined : ¬ Obligations.ExtestLeavesStateUndefined := by
  rintro ⟨-, answers⟩
  obtain ⟨t, hexec⟩ := answers .jtagFreeze extestDevice (.inr rfl)
  rw [extestDevice_jtagFreeze] at hexec
  cases hexec

/-! ### Live bits (13 R324, R326) -/

/-- Each live bit belongs to a source that reports. -/
def State.liveReport (s : State) : Prop := s.fault.live.all s.reporting = true

/-- The live bits that settle are those of sources that report, and a report does not rest on live bits. -/
theorem settle_liveReport (s : State) : (settle s).liveReport :=
  List.all_eq_true.mpr fun _ hn => (List.mem_filter.mp hn).2

/-- A gate leaves the state as it is, settles it, or stops. -/
theorem gate_liveReport {s t : State} {ok : Bool} {op : State → State} (h : s.liveReport) (hgate : gate ok op s = .next t) :
    t.liveReport := by
  obtain ⟨-, hfault⟩ | ⟨-, -, hacts⟩ | ⟨-, -, hidle⟩ := gate_cases s op ok
  · cases hfault.symm.trans hgate
  · cases hacts.symm.trans hgate
    exact settle_liveReport _
  · cases hidle.symm.trans hgate
    exact h

theorem onReset_liveReport {s t : State} {ok : State → Bool} {op : State → State} (h : s.liveReport)
    (hreset : onReset ok op s = .next t) : t.liveReport := by
  unfold onReset at hreset
  split at hreset
  · cases hreset
    exact settle_liveReport _
  · cases hreset
    exact h

/-- An instruction of the TAP that keeps the live bits and what the sources report. -/
theorem onTap_liveReport {s t : State} {op : State → State} (h : s.liveReport) (hop : (op s).liveReport)
    (htap : onTap op s = .next t) : t.liveReport := by
  unfold onTap at htap
  split at htap
  · cases htap
    exact h
  · cases htap
    exact hop

theorem clearKeys_liveReport {s : State} (h : s.liveReport) : (clearKeys s).liveReport := by
  unfold clearKeys
  split
  · exact h
  · exact h

theorem idle_liveReport {s : State} (h : s.liveReport) : (idle s).liveReport := by
  unfold idle
  split_ifs
  · exact h
  · exact settle_liveReport _
  · exact settle_liveReport _
  · exact settle_liveReport _
  · exact h

/-- A command that is neither a reset nor a direct instruction of the TAP goes through a gate. -/
theorem exec_gated (c : Instr) (s : State) (hc : alwaysActs c = false) : ∃ ok op, exec c s = gate ok op s := by
  cases c
  case powerOnReset | powerOnResetRelease | resetNLow | resetNRelease | resetHoldLong | jtagFreeze | jtagFrzRead |
    jtagKeysClear | jtagExtest | jtagSamplePreload | jtagIdcode | jtagBypass | jtagTapReset => cases hc
  all_goals
    dsimp only [exec, execRoleLockExpiry, execResponseRecordExpiry, execSignalDetect, execSerSecond,
      execBeaconPatrolComplete, execWatchdogTimeout, execMillbrakeCycle, execAmbientTimeout, execSafeBlankPinWake,
      execT1sActivityDetect, execWatchdogPairInversion, onChannel, onWake]
    exact ⟨_, _, rfl⟩

/-- Every command leaves live only bits of sources that report: a gate and a reset settle the live bits, and an
instruction of the TAP touches nothing on which a source's report rests. -/
theorem exec_liveReport (c : Instr) {s t : State} (h : s.liveReport) (hexec : exec c s = .next t) : t.liveReport := by
  cases halways : alwaysActs c with
  | false =>
    obtain ⟨ok, op, hgated⟩ := exec_gated c s halways
    exact gate_liveReport h (hgated.symm.trans hexec)
  | true =>
    cases c
    case powerOnReset | powerOnResetRelease | resetNLow | resetNRelease | resetHoldLong =>
      dsimp only [exec, execPowerOnReset, execPowerOnResetRelease, execResetNLow, execResetNRelease, execResetHoldLong]
        at hexec
      exact onReset_liveReport h hexec
    case jtagFreeze =>
      dsimp only [exec, execJtagFreeze] at hexec
      exact gate_liveReport h hexec
    case jtagKeysClear => exact onTap_liveReport h (clearKeys_liveReport h) hexec
    case jtagFrzRead | jtagExtest | jtagSamplePreload | jtagIdcode | jtagBypass | jtagTapReset =>
      dsimp only [exec, execJtagFrzRead, execJtagExtest, execJtagSamplePreload, execJtagIdcode, execJtagBypass,
        execJtagTapReset] at hexec
      exact onTap_liveReport h (op := _) (by exact h) hexec
    all_goals cases halways

/-- Settles O3: the step of an empty queue keeps live only bits of sources that report (`idle_liveReport`), and so does
every command (`exec_liveReport`). -/
theorem everyStepKeepsLiveBitsReporting : Obligations.EveryStepKeepsLiveBitsReporting := by
  intro s t hlive hstep
  unfold step at hstep
  split at hstep
  next =>
    cases hstep
    exact idle_liveReport hlive
  next c rest _ => exact exec_liveReport c (s := { s with pending := rest }) hlive hstep

/-- Settles O4: no bit is live after the power-on reset. -/
theorem resetLiveBitsReport : Obligations.ResetLiveBitsReport := rfl

end Sys2Proof.Machine
end

section
/-! The statements of the families "memory and rings", "power" and "object protocol" that fail for an event that cannot
occur: their counterexample is the stale device (13 R326). -/

namespace Sys2Proof.Machine

set_option Elab.async false

/-- MEM_START_COMPLETE cannot occur while the external memory is not starting (11 R270). -/
theorem staleDevice_memStays : exec (.memStartComplete 1 1 true) staleDevice = .next staleDevice :=
  gate_idle staleDevice (memStarted 1 1 true) (staleDevice.alive 2 && staleDevice.reg Obj.MEM_STATE == 1) (by decide)
    (by decide)

/-- Refutes O48: its clause on MEM_START_COMPLETE while no start is under way promises an empty frame, in which the live
bits of sources that no longer report have settled (13 R326). The model lets no such event occur: it leaves the device as
it is, and settles nothing. They differ where a live bit has a source that does not report, which the statement does not
exclude: `staleDevice` keeps its bit 9. SCRUB_STEP without a memory in use fails in the same way. -/
theorem not_memoryStartsAndIsScrubbed : ¬ Obligations.MemoryStartsAndIsScrubbed := by
  rintro ⟨-, -, -, -, notStarting, -⟩
  obtain ⟨t, hexec, hframe⟩ := notStarting staleDevice 1 1 true (by decide) (by decide)
  exact staleDevice_not_framed staleDevice_memStays (by decide) hexec hframe

/-- DESCRIPTOR_FETCH cannot occur for a ring that is not running (11 R279). -/
theorem staleDevice_fetchesNothing : exec (.descriptorFetch 8 .none .none) staleDevice = .next staleDevice :=
  gate_idle staleDevice (descriptorFetch 8 .none .none) (staleDevice.alive 2 && staleDevice.mayFetch 8) (by decide)
    (by decide)

/-- Refutes O50: its clause on DESCRIPTOR_FETCH of a ring that may not fetch promises an empty frame, in which the live
bits of sources that no longer report have settled (13 R326). The model lets no such event occur: it leaves the device as
it is, and settles nothing: `staleDevice` keeps its bit 9. -/
theorem not_descriptorsRunBurstByBurst : ¬ Obligations.DescriptorsRunBurstByBurst := by
  rintro ⟨-, mayNot, -⟩
  obtain ⟨t, hexec, hframe⟩ := mayNot staleDevice 8 .none .none (by decide) (by decide)
  exact staleDevice_not_framed staleDevice_fetchesNothing (by decide) hexec hframe

/-- MARGIN_PLAN cannot occur without a round of ratios (14 R344). -/
theorem staleDevice_plansNothing : exec .marginPlan staleDevice = .next staleDevice :=
  gate_idle staleDevice planMargin (staleDevice.alive 6 && staleDevice.power.ratioRounds != 0) (by decide) (by decide)

/-- Refutes O57: its last clause, MARGIN_PLAN without a round of ratios, promises an empty frame, in which the live bits
of sources that no longer report have settled (13 R326). The model lets no such event occur: it leaves the device as it
is, and settles nothing: `staleDevice` keeps its bit 9. -/
theorem not_levelsFollowTheRegulator : ¬ Obligations.LevelsFollowTheRegulator := by
  rintro ⟨-, -, -, -, noRound⟩
  obtain ⟨t, hexec, hframe⟩ := noRound staleDevice (by decide) (by decide)
  exact staleDevice_not_framed staleDevice_plansNothing (by decide) hexec hframe

/-- ORDERLY_STOP_END cannot occur while no orderly stop is under way (14 R350). -/
theorem staleDevice_stopsNothing : exec .orderlyStopEnd staleDevice = .next staleDevice :=
  gate_idle staleDevice orderlyEnd (staleDevice.alive 6 && staleDevice.power.stopping) (by decide) (by decide)

/-- Refutes O58: its clause on ORDERLY_STOP_END while no orderly stop is under way promises an empty frame, in which the
live bits of sources that no longer report have settled (13 R326). The model lets no such event occur: it leaves the
device as it is, and settles nothing: `staleDevice` keeps its bit 9. -/
theorem not_theThermalTripStopsAndRestarts : ¬ Obligations.TheThermalTripStopsAndRestarts := by
  rintro ⟨-, -, -, -, -, -, orderlyEnd, -⟩
  obtain ⟨t, hexec, hframe, -⟩ := orderlyEnd staleDevice (by decide)
  exact staleDevice_not_framed staleDevice_stopsNothing (by decide) hexec (hframe (by decide))

/-- XTAL32_START cannot occur on a running device whose crystal runs already (16 R398). -/
theorem staleDevice_xtalRuns : exec (.xtal32Start 0) staleDevice = .next staleDevice :=
  gate_idle staleDevice (xtalStart 0)
    (!staleDevice.device.frozen && (staleDevice.device.phase == .waitXtal || staleDevice.device.internalOsc)) (by decide)
    (by decide)

/-- Refutes O60: its clause on XTAL32_START outside the wait for the crystal promises a frame in which the live bits of
sources that no longer report have settled (13 R326). While the crystal runs already the model lets no such event occur:
it leaves the device as it is, and settles nothing: `staleDevice` keeps its bit 9. -/
theorem not_resetsAndTheReleaseSequence : ¬ Obligations.ResetsAndTheReleaseSequence := by
  rintro ⟨-, -, -, notWaiting, -⟩
  obtain ⟨-, t, hexec, -, hframe⟩ := notWaiting staleDevice 0 (by decide) (by decide) (by decide)
  exact staleDevice_not_framed staleDevice_xtalRuns (by decide) hexec hframe

end Sys2Proof.Machine
end

section
/-! The statements of the family "safety functions and faults" that fail for a cold start: the settings block of the beacon
store, put in force by the demand that ends or follows a safety event, may hold any object, FAULT_REACTION among them
(12 R308, 13 R330). -/

namespace Sys2Proof.Machine

set_option Elab.async false

/-! ### What a scan start leaves of the tables (05 R135) -/

theorem length_flatMap_natLE (n : Nat) (f : Nat → Nat) (l : List Nat) :
    (l.flatMap fun c => natLE n (f c)).length = n * l.length := by
  simp [List.length_flatMap, Nat.mul_comm]

/-- The tables alone hold the bytes of the tables. -/
theorem State.tabByte_congr {t u : State} (h : t.tabs = u.tabs) (o j : Nat) : t.tabByte o j = u.tabByte o j := by
  simp only [State.tabByte, h]

section Tables

variable {o j : Nat} (hj : j < 131072) (s : State)

theorem recomputeAll_tabs : (recomputeAll s).tabs = s.tabs :=
  foldN_keeps _ State.tabs (fun t p => by
    unfold recompute
    dsimp only
    split <;> rfl) 4 s

theorem checkTileModel_tabs : (checkTileModel s).tabs = s.tabs := by
  unfold checkTileModel noteFillInput clearStore
  dsimp only
  split_ifs <;> simp

theorem applyTiming_tabs : (applyTiming s).tabs = s.tabs := by
  unfold applyTiming
  split <;> simp [State.occur]

include hj

/-- The new map of the diagnosis is written to PIXEL; it is no table. -/
theorem rebuildMap_tabByte : (rebuildMap s).tabByte o j = s.tabByte o j := by
  have hmap : s.Within pixelFootprint (s.diag.subst.foldl
      (fun t e => if e.1 < s.emitters then setMapState e.1 (4 + field e.2 22 2) t else t)
      (s.pixelWrite (s.defectAddr 0) (List.replicate (ceilDiv s.emitters 2) 0#8))) :=
    (pixelWrite_within s _ _).trans (State.Within.foldl (fun t e => by
      split
      · exact setMapState_within _ _ t
      · exact .refl _ t) _ _)
  have htab := hmap.tab rfl o j hj
  rw [State.tabByte] at htab ⊢
  simpa only [rebuildMap] using htab

theorem restartDiagnosis_tabByte : (restartDiagnosis s).tabByte o j = s.tabByte o j := by
  unfold restartDiagnosis
  rw [rebuildMap_tabByte hj]
  simp only [State.tabByte, State.setReg_frame]

omit hj in
/-- A run of the geometry writes the edges of the zones, 65 across and 33 down, and no other table. -/
theorem applyGeometry_tabs (g : Geometry)
    (hg : g = effective (s.reg Obj.TILE_WIDTH) (s.reg Obj.TILE_HEIGHT) (s.reg Obj.ROWS_PER_BAND)) :
    (applyGeometry s).tabs =
      ((s.setTab Obj.ZONE_X_EDGES 0 ((List.range 65).flatMap fun c => natLE 2 (ceilDiv (c * g.w) 64))).setTab
        Obj.ZONE_Y_EDGES 0 ((List.range 33).flatMap fun r => natLE 2 (ceilDiv (r * g.h) 32))).tabs := by
  subst hg
  simp only [applyGeometry, State.setTab, State.setReg_frame, State.bump_frame]

theorem applyGeometry_tabByte (hx : o ≠ Obj.ZONE_X_EDGES) (hy : o ≠ Obj.ZONE_Y_EDGES) :
    (applyGeometry s).tabByte o j = s.tabByte o j := by
  rw [State.tabByte, applyGeometry_tabs s _ rfl, ← State.tabByte, State.tabByte_setTab_ne _ _ _ _ _ _ hy ?_ hj,
    State.tabByte_setTab_ne _ _ _ _ _ _ hx ?_ hj]
  · rw [length_flatMap_natLE, List.length_range]
    decide
  · rw [length_flatMap_natLE, List.length_range]
    decide

omit hj in
theorem restartThermal_tabs (t : Int) (ht : t = zoneTemp (signed 16 (s.reg Obj.THERMAL_BASE)) 0) :
    (restartThermal s).tabs =
      (s.setTab Obj.THERMAL_ZONE_TEMPS 0 ((List.range zones).flatMap fun _ => natLE 2 (image 16 t))).tabs := by
  subst ht
  simp only [restartThermal]

theorem restartThermal_tabByte (ht : o ≠ Obj.THERMAL_ZONE_TEMPS) : (restartThermal s).tabByte o j = s.tabByte o j := by
  rw [State.tabByte, restartThermal_tabs s _ rfl, ← State.tabByte, State.tabByte_setTab_ne _ _ _ _ _ _ ht ?_ hj]
  rw [length_flatMap_natLE, List.length_range]
  decide

theorem restartGlare_tabByte (hg : o ≠ Obj.GLARE_GAINS) : (restartGlare s).tabByte o j = s.tabByte o j :=
  State.tabByte_clearTab_ne s Obj.GLARE_GAINS o j hg hj

theorem restartDiagnosis_running_tabByte (scan : ScanState) (pipe : PipeState) (time : TimeState) :
    (restartDiagnosis { s.setReg Obj.SCAN_STATE 1 with scan := scan, pipe := pipe, time := time }).tabByte o j =
      s.tabByte o j := by
  rw [restartDiagnosis_tabByte hj]
  simp only [State.tabByte, State.setReg_frame]

/-- A start of the scan drive writes the zones' edges and temperatures and the glare gains, and no other table. -/
theorem scanStart_tabByte (hx : o ≠ Obj.ZONE_X_EDGES) (hy : o ≠ Obj.ZONE_Y_EDGES) (hg : o ≠ Obj.GLARE_GAINS)
    (ht : o ≠ Obj.THERMAL_ZONE_TEMPS) : (scanStart s).tabByte o j = s.tabByte o j := by
  unfold scanStart
  extract_lets s1 s2 s3 s4 bands s5 scan pipe catchGen
  have h1 : s1.tabByte o j = s.tabByte o j := (State.tabByte_congr (applyTiming_tabs _) o j).trans (applyGeometry_tabByte hj s hx hy)
  have h2 : s2.tabs = s1.tabs := by simp only [s2, applyDerived, State.setReg_frame, recomputeAll_tabs]
  have h3 : s3.tabs = s2.tabs := by simp only [s3, State.setReg_frame]
  have h4 : s4.tabByte o j = s3.tabByte o j :=
    (State.tabByte_congr (checkTileModel_tabs _) o j).trans ((restartThermal_tabByte hj _ ht).trans (restartGlare_tabByte hj _ hg))
  have h5 : s5.tabs = s4.tabs := by simp only [s5, State.clearRegs_frame]
  refine (restartDiagnosis_running_tabByte hj s5 _ _ _).trans ((State.tabByte_congr h5 o j).trans (h4.trans ((State.tabByte_congr h3 o j).trans ?_)))
  exact (State.tabByte_congr h2 o j).trans h1

end Tables

/-! ### A cold start with the scan drive stopped (12 R308) -/

/-- What a cold start with the scan drive stopped leaves, when the stored region has no rails. -/
def coldState (s : State) : State := setCold .scanning (scanStart (applyBlock s))

theorem setCold_tabs (c : ColdStep) (s : State) : (setCold c s).tabs = s.tabs := rfl

theorem coldState_tabs (s : State) : (coldState s).tabs = (scanStart (applyBlock s)).tabs := setCold_tabs _ _

/-- FAULT_REACTION after the cold start is that of the block. -/
theorem coldState_reaction (s : State) :
    (coldState s).tabByte Obj.FAULT_REACTION 0 = (applyBlock s).tabByte Obj.FAULT_REACTION 0 :=
  (State.tabByte_congr (coldState_tabs s) _ _).trans
    (scanStart_tabByte (by decide) (applyBlock s) (by decide) (by decide) (by decide) (by decide))

/-- The demand that a safety event brings to act finds valid content and the scan drive stopped, outside every sleep. -/
structure State.ColdStarts (s s1 : State) : Prop where
  begins : (s.safety.evacFrom.isNone && s1.safety.evacFrom.isSome) = true
  untripped : s1.power.tripped = false
  awake : s1.power.inS1 = false
  unwanted : s1.power.s1Wanted = false
  ready : s1.beaconReady = true
  stopped : s1.reg Obj.SCAN_STATE = 0
  noRails : (scanStart (applyBlock s1)).storedRails = []

theorem State.ColdStarts.safetyEvent {s : State} {op : State → State} (h : s.ColdStarts (withSafety op s)) :
    safetyEvent op s = coldState (withSafety op s) := by
  have hwake : wakeS1 [1] (withSafety op s) = withSafety op s := by simp [wakeS1, h.awake, h.unwanted]
  have hneeded : (withSafety op s).coldNeeded = true := by simp [State.coldNeeded, h.stopped]
  have hcold : coldStart (withSafety op s) = coldState (withSafety op s) := by
    simp [coldStart, h.stopped, startStoredRails, h.noRails, coldState]
  simp only [Machine.safetyEvent, if_pos h.begins, decideEvac, h.untripped, hwake, h.ready, hneeded, hcold, if_true,
    Bool.false_eq_true, if_false]

/-! ### The device: a settings block with FAULT_REACTION -/

/-- A settings block with one record: FAULT_REACTION of source 0 is BLANK (12 R305, R308, 13 R330). -/
def blankBlock : Bytes :=
  natLE 2 (Obj.FAULT_REACTION / 256) ++ natLE 2 (Obj.FAULT_REACTION % 256) ++ natLE 4 1 ++ [3#8]

/-- A channel whose inputs are evaluated and released, with its permission granted. -/
def grantedChannel : ChannelState := { openChannel with evaluated := true, permission := true, railen := true }

/-- A channel whose safe-blank input is released, and whose evacuation demand stands. -/
def demandChannel : ChannelState :=
  { openChannel with evac := { pinA := true, pinB := false, lastDemand := true }, evaluated := true }

/-- A running device of an empty tile, with the scan drive stopped, source 0 latched, and valid beacon content whose
settings block is `blankBlock`. -/
def storedDevice (safety : SafetyState) : State :=
  { ((runningDevice.setFlag Obj.BEACON_VALID true).setReg Obj.TILE_WIDTH 0).setReg Obj.TILE_HEIGHT 0 with
    fault := { latched := [0] }
    beacon := (28, 9#8) :: (List.range 9).map fun i => (0x1300 + i, blankBlock.getD i 0#8)
    safety := safety }

/-- A latched source with the reaction BLANK lets no channel permit. -/
theorem mayPermit_of_blank {t : State} (hlatched : t.fault.latched = [0]) (hblank : t.tabByte Obj.FAULT_REACTION 0 = 3#8)
    (c : Channel) : t.mayPermit c = false := by
  have hreaction : t.reaction 0 = 3 := by
    rw [State.reaction, hblank]
    decide
  simp [State.mayPermit, State.blankReaction, hlatched, hreaction]

/-! ### An evacuation demand is recognised (O51) -/

/-- The device with both permissions granted and no demand. -/
def quietDevice : State := storedDevice { chanA := grantedChannel, chanB := grantedChannel }

/-- Pin A of the evacuation input of channel A goes high. -/
def quietDemand : State → State := fun t => followEvac t (takePin .a .evac false true t)

theorem quietDevice_coldStarts : quietDevice.ColdStarts (withSafety quietDemand quietDevice) := by
  constructor <;> decide +kernel

theorem quietDevice_recognises : exec (.safetyInputRecognised .a .evacA true) quietDevice =
    .next (settle (coldState (withSafety quietDemand quietDevice))) :=
  (onIslandIf_acts quietDevice (safetyEvent quietDemand) (fun s => s.safetyRuns) 6 (by decide) (by decide)).trans
    (by rw [quietDevice_coldStarts.safetyEvent])

theorem quietDevice_blank : (applyBlock (withSafety quietDemand quietDevice)).tabByte Obj.FAULT_REACTION 0 = 3#8 := by
  decide +kernel

theorem quietDevice_keeps : (coldState (withSafety quietDemand quietDevice)).fault.latched = [0] ∧
    (coldState (withSafety quietDemand quietDevice)).safety.chanA.permission = true := by
  decide +kernel

/-- Refutes O51: its first clause promises that after a recognised pin a channel that may not permit has withdrawn its
permission. An evacuation demand that begins to act may start the display cold, and a cold start puts every object image
of the settings block in force (12 R308 step 2); the model bounds neither their objects nor what they do. In `quietDevice`
the block gives the latched source 0 the reaction BLANK: from then on no channel may permit, and the permission of channel
A stays granted until the next event of the safety functions. -/
theorem not_safetyInputsAreObeyed : ¬ Obligations.SafetyInputsAreObeyed := by
  rintro ⟨recognised, -⟩
  obtain ⟨t, hexec, -, -, -, -, -, -, -, ⟨hfollow, -⟩, -⟩ := recognised quietDevice .a .evac false true (by decide +kernel)
  rw [show pinOf .evac false = .evacA from rfl, quietDevice_recognises, Host.Outcome.next.injEq] at hexec
  subst hexec
  obtain ⟨hlatched, hgranted⟩ := quietDevice_keeps
  have hpermission := (hfollow .a
    (mayPermit_of_blank hlatched ((coldState_reaction _).trans quietDevice_blank) .a)).1
  cases hgranted.symm.trans hpermission

/-! ### A safety event of the host ends a safe blank in front of a standing demand (O52, O55) -/

/-- The operator at Rovan port A. -/
def operatorReq : Req := { via := .portA, who := .rovan 5, tid := 1, role := 3, key := 0 }

/-- A device in a trip of the heartbeat, which has come back, with an evacuation demand standing. -/
def trippedDevice : State := storedDevice { chanA := demandChannel, chanB := demandChannel, trips := [3] }

/-- SAFETY_TRIP_CLEAR. -/
def clearRequest : Request := wholeWrite operatorReq Obj.SAFETY_TRIP_CLEAR []

/-- The trips whose cause is absent end. -/
def clearTrips : State → State := fun t => { t with safety := { t.safety with trips := t.safety.trips.filter t.causePresent } }

theorem trippedDevice_coldStarts :
    (trippedDevice.asked clearRequest).ColdStarts (withSafety clearTrips (trippedDevice.asked clearRequest)) := by
  constructor <;> decide +kernel

/-- What SAFETY_TRIP_CLEAR leaves, before its answer. -/
def clearedDevice : State := coldState (withSafety clearTrips (trippedDevice.asked clearRequest))

theorem trippedDevice_clears : exec (.safetyTripClear operatorReq []) trippedDevice =
    .next (settle (clearedDevice.respond clearRequest 0 0 [])) :=
  hostWrite_command (act := actTripClear) (a := .done clearedDevice) (by decide +kernel) (by decide +kernel)
    (congrArg Answer.done trippedDevice_coldStarts.safetyEvent)

theorem clearedDevice_blank :
    (applyBlock (withSafety clearTrips (trippedDevice.asked clearRequest))).tabByte Obj.FAULT_REACTION 0 = 3#8 := by
  decide +kernel

theorem clearedDevice_keeps : clearedDevice.fault.latched = [0] ∧ clearedDevice.safety.chanA.permission = true := by
  decide +kernel

/-- Refutes O52: its last clause promises that after SAFETY_TRIP_CLEAR a channel that may not permit has withdrawn its
permission. With an evacuation demand standing, the end of the trips may start the display cold, and a cold start puts
every object image of the settings block in force (12 R308 step 2). In `trippedDevice` the block gives the latched source
0 the reaction BLANK, right after both channels granted their permissions at the end of the trip: no channel may permit,
and the permission of channel A stays granted until the next event of the safety functions. -/
theorem not_supervisionTripsTheOutputs : ¬ Obligations.SupervisionTripsTheOutputs := by
  rintro ⟨-, -, -, -, -, -, -, -, -, clear⟩
  obtain ⟨t, hexec, -, -, hfollow, -⟩ := clear trippedDevice operatorReq [] (by decide +kernel)
  rw [trippedDevice_clears, Host.Outcome.next.injEq] at hexec
  subst hexec
  obtain ⟨hlatched, hgranted⟩ := clearedDevice_keeps
  have hpermission := (hfollow (by decide +kernel) |>.1 .a (mayPermit_of_blank (by simpa using hlatched)
    (by simpa [clearedDevice] using (coldState_reaction _).trans clearedDevice_blank) .a)).1
  have hsafety : (clearedDevice.respond clearRequest 0 0 []).safety = clearedDevice.safety := by simp
  rw [← hsafety] at hgranted
  cases hgranted.symm.trans hpermission

/-- A device whose latched source 0 has the reaction BLANK, with an evacuation demand standing. -/
def blankedDevice : State :=
  (storedDevice { chanA := demandChannel, chanB := demandChannel }).setTab Obj.FAULT_REACTION 0 [3#8]

/-- FAULT_REACTION of source 0 becomes 1. -/
def reactionRequest : Request := wholeWrite operatorReq Obj.FAULT_REACTION [1#8]

/-- The reactions that the request writes. -/
def writeReaction : State → State := fun t => t.setTab Obj.FAULT_REACTION 0 (reactionRequest.data.take 96)

theorem keptBits_faultReaction (o : Nat) : keptBits Obj.FAULT_REACTION o = 0xFF#8 := rfl

theorem blankedDevice_coldStarts :
    (blankedDevice.asked reactionRequest).ColdStarts (withSafety writeReaction (blankedDevice.asked reactionRequest)) := by
  constructor <;> decide +kernel

/-- What the write leaves, before its answer. -/
def unblankedDevice : State := coldState (withSafety writeReaction (blankedDevice.asked reactionRequest))

theorem blankedDevice_reacts : exec (.faultReactionWrite operatorReq [1#8]) blankedDevice =
    .next (settle (unblankedDevice.respond reactionRequest 0 0 [])) :=
  hostWrite_asked (act := actFaultReaction) (a := .done unblankedDevice) (by decide +kernel) keptBits_faultReaction
    (congrArg Answer.done blankedDevice_coldStarts.safetyEvent)

theorem unblankedDevice_blank :
    (applyBlock (withSafety writeReaction (blankedDevice.asked reactionRequest))).tabByte Obj.FAULT_REACTION 0 = 3#8 := by
  decide +kernel

/-- Refutes O55: its third clause promises that FAULT_REACTION holds the bytes written. With an evacuation demand standing,
a write that ends the reaction BLANK of a latched source ends its safe blank, and the demand may start the display cold;
a cold start puts every object image of the settings block in force (12 R308 step 2). In `blankedDevice` the write gives
source 0 the reaction 1, and the block gives it BLANK again. -/
theorem not_faultsAreClearedForcedAndGivenReactions : ¬ Obligations.FaultsAreClearedForcedAndGivenReactions := by
  rintro ⟨-, -, reaction⟩
  obtain ⟨t, hexec, -, hwritten, -⟩ := reaction blankedDevice operatorReq [1#8] (by decide +kernel)
  rw [blankedDevice_reacts, Host.Outcome.next.injEq] at hexec
  subst hexec
  obtain ⟨hbyte, -⟩ := hwritten 0 (by decide) (by decide)
  have hblank : unblankedDevice.tabByte Obj.FAULT_REACTION 0 = 3#8 := (coldState_reaction _).trans unblankedDevice_blank
  have hanswered : (settle (unblankedDevice.respond reactionRequest 0 0 [])).tabByte Obj.FAULT_REACTION 0 =
      unblankedDevice.tabByte Obj.FAULT_REACTION 0 := by simp
  rw [hanswered, hblank] at hbyte
  exact absurd hbyte (by decide)

end Sys2Proof.Machine
end

section
/-! Freezes and the instructions of the TAP (13 R335 to R337, 02 R44, 16 R402). -/

namespace Sys2Proof.Machine

set_option Elab.async false

section Freeze

open State.Within

variable {s t : State}

/-! ### The outputs drop (13 R336) -/

/-- What a freeze may touch: the device with the handshakes that it holds, the channels with their tests, and the free
values that it draws. -/
def freezeFootprint : Footprint where
  parts := [.device, .safety, .free]
  objs o := [Obj.OUTPUT_TEST_ABANDONS].contains o
  crossings _ := true

theorem setChan_within {F : Footprint} (c : Channel) (x : ChannelState) (s : State)
    (hp : .safety ∈ F.parts := by decide) : s.Within F (s.setChan c x) := by
  cases c
  · exact (refl F s).safety _ hp
  · exact (refl F s).safety _ hp

theorem abandonTest_within (c : Channel) (s : State) : s.Within freezeFootprint (abandonTest c s) := by
  obtain habandon | habandon | ⟨-, -, habandon⟩ := abandonTest_cases s c <;> rw [habandon]
  · exact (setChan_within c _ s).bump _
  · exact setChan_within c _ s
  · exact refl _ s

theorem dropOutputs_within (s : State) : s.Within freezeFootprint (dropOutputs s) :=
  ((abandonTest_within .a s).trans (abandonTest_within .b _)).trans
    ((setChan_within .a _ _).trans (setChan_within .b _ _))

theorem abandonTest_device (c : Channel) (s : State) : (abandonTest c s).device = s.device := by
  obtain ⟨-, -, -, hrest⟩ := abandonTest_frame s c
  have hdevice := congrArg State.device hrest
  exact hdevice

theorem dropOutputs_device (s : State) : (dropOutputs s).device = s.device := by
  simp only [dropOutputs, State.setChan, abandonTest_device]

theorem dropOutputs_outputsLow (s : State) : (dropOutputs s).outputsLow = true := by
  simp only [dropOutputs, State.outputsLow, State.setChan, State.chan, Bool.not_false, Bool.and_self]

/-! ### The handshakes are held where they stand (02 R44) -/

/-- What holding the handshakes of `s` keeps: the device but for crossings of running islands, and the outputs. -/
structure State.HoldsTo (s t : State) : Prop where
  within : s.Within freezeFootprint t
  device : { t.device with crossings := s.device.crossings } = s.device
  safety : t.safety = s.safety
  still : ∀ h, s.runs (crossingSender h) = false → t.crossing h = s.crossing h
  placed : ∀ h, (t.crossing h).step ≤ 4 ∨ t.crossing h = s.crossing h

theorem Crossing.heldAt_placed (x : Crossing) (v : Nat) : (x.heldAt v).step ≤ 4 ∨ x.heldAt v = x := by
  unfold Crossing.heldAt
  dsimp only
  split
  · exact .inr rfl
  · exact .inl (show v % 5 ≤ 4 by omega)

theorem State.HoldsTo.runs (h : s.HoldsTo t) (i : Nat) : t.runs i = s.runs i := by
  have hislands := congrArg DeviceState.islands h.device
  simp only [State.runs, State.island, ← hislands]

/-- One more handshake of a running island is held. -/
theorem State.HoldsTo.hold (h : s.HoldsTo t) (k : Nat) (hruns : t.runs (crossingSender k) = true) :
    s.HoldsTo ((t.setCrossing k ((t.crossing k).heldAt t.free)).drawn) where
  within := (h.within.setCrossing k _ rfl).of_fields (free := .inl (by decide))
  device := h.device
  safety := h.safety
  still i hi := by
    have hne : i ≠ k := fun e => by
      rw [e, ← h.runs, hruns] at hi
      cases hi
    exact ((State.crossing_setCrossing t k i _).trans (if_neg hne)).trans (h.still i hi)
  placed i := by
    have hcrossing := State.crossing_setCrossing t k i ((t.crossing k).heldAt t.free)
    show ((t.setCrossing k _).crossing i).step ≤ 4 ∨ (t.setCrossing k _).crossing i = _
    rw [hcrossing]
    split
    next hik =>
      subst hik
      obtain hheld | hheld := (t.crossing i).heldAt_placed t.free
      · exact .inl hheld
      · rw [hheld]
        exact h.placed i
    next => exact h.placed i

theorem holdHandshakes_holdsTo (s : State) : s.HoldsTo (holdHandshakes s) := by
  unfold holdHandshakes
  refine List.foldlRecOn (motive := s.HoldsTo) (List.range 11) _
    ⟨refl _ s, rfl, rfl, fun _ _ => rfl, fun _ => .inr rfl⟩ fun t ht i _ => ?_
  split
  next hruns => exact ht.hold (i + 1) hruns
  next => exact ht

/-! ### A freeze -/

/-- AON sets the latch of the freeze (13 R336). -/
def latchFreeze (s : State) : State := { s with device := { s.device with frozen := true } }

theorem latchFreeze_within (s : State) : s.Within freezeFootprint (latchFreeze s) :=
  (refl _ s).of_fields (device := .inl (by decide))

theorem freeze_eq (s : State) : freeze s = latchFreeze (holdHandshakes (dropOutputs s)) := rfl

/-- What a freeze of `s` has done: the latch is set, both outputs are low, and of the handshakes only those of running
islands are held where they may stand. -/
structure State.FreezesTo (s t : State) : Prop where
  device : { t.device with crossings := s.device.crossings } = { s.device with frozen := true }
  low : t.outputsLow = true
  still : ∀ h, s.runs (crossingSender h) = false → t.crossing h = s.crossing h
  placed : ∀ h, (t.crossing h).step ≤ 4 ∨ t.crossing h = s.crossing h

theorem State.FreezesTo.settle (h : s.FreezesTo t) : s.FreezesTo (settle t) := ⟨h.device, h.low, h.still, h.placed⟩

theorem State.HoldsTo.latched (h : s.HoldsTo t) (hlow : s.outputsLow = true) : s.FreezesTo (latchFreeze t) where
  device := congrArg (fun d : DeviceState => { d with frozen := true }) h.device
  low := (congrArg (fun x : SafetyState => !x.chanA.railen && !x.chanB.railen) h.safety).trans hlow
  still := h.still
  placed := h.placed

theorem freeze_within (s : State) : s.Within freezeFootprint (freeze s) := by
  rw [freeze_eq]
  exact (dropOutputs_within s).trans ((holdHandshakes_holdsTo _).within.trans (latchFreeze_within _))

/-- A freeze drops the outputs, holds the handshakes and latches. -/
theorem freeze_freezesTo (s : State) : s.FreezesTo (freeze s) := by
  obtain ⟨hdevice, hlow, hstill, hplaced⟩ := (holdHandshakes_holdsTo (dropOutputs s)).latched (dropOutputs_outputsLow s)
  have hdrop := dropOutputs_device s
  have hcrossing : (dropOutputs s).crossing = s.crossing := by
    funext h
    simp only [State.crossing, hdrop]
  have hruns : (dropOutputs s).runs = s.runs := by
    funext i
    simp only [State.runs, State.island, hdrop]
  rw [hdrop] at hdevice
  rw [hcrossing] at hplaced
  rw [hcrossing, hruns] at hstill
  rw [freeze_eq]
  exact ⟨hdevice, hlow, hstill, hplaced⟩

/-- A frame from the footprint of a freeze. -/
theorem frame_of_freeze (h : s.Within freezeFootprint t) :
    s.frame (settle t) [.device, .safety, .crossing, .free] [Obj.OUTPUT_TEST_ABANDONS] [] :=
  h.frame (by decide) (fun _ _ ho => List.contains_iff_mem.mp ho) (fun _ => rfl) fun hx => absurd (by decide) hx

/-! ### The instructions of the TAP (16 R402) -/

theorem onTap_next (op : State → State) (h : s.device.phase ≠ .powerOnReset) : onTap op s = .next (op s) := if_neg h

theorem onTap_powerOnReset (op : State → State) (h : s.device.phase = .powerOnReset) : onTap op s = .next s := if_pos h

/-- An instruction of the TAP has the frame of what it touches; the live bits do not settle. -/
theorem frame_of_tap {parts : List Part} (h : s.Within (eventFootprint parts []) t) (hlive : .live ∈ parts := by decide) :
    s.frame t parts [] [] := by
  obtain ⟨hpending, hparts, hobjs, htabs⟩ := h.frameRaw (objs := []) (tables := []) (fun _ => id)
    (fun _ _ ho => by cases ho) (fun _ => rfl) (fun _ _ => rfl)
  refine ⟨hpending, fun p hp => ?_, hobjs, htabs⟩
  have hsame := hparts p hp
  cases p
  case live => exact absurd (by simp [hlive]) hp
  all_goals exact hsame

theorem freezeChain_marker (h : s.device.frozen = true) : s.freezeChain.take 16 = bitsLow 16 0x465A := by
  simp [State.freezeChain, h, bitsLow]

theorem freezeChain_zeros (h : s.device.frozen = false) : ∀ b ∈ s.freezeChain, b = false := by
  intro b hb
  simp only [State.freezeChain, h, Bool.not_false, if_true] at hb
  exact List.eq_of_mem_replicate hb

/-- With EXTEST selected both outputs read low (13 R323). -/
theorem safetyPins_extest (h : s.device.tap = 0) : s.safetyPins / 64 = 0 := by
  have hbit : ∀ b : Bool, b2n b ≤ 1 := by decide
  simp only [State.safetyPins, h, if_true]
  have h1 := hbit s.safety.chanA.safeBlank.pinA
  have h2 := hbit s.safety.chanA.safeBlank.pinB
  have h3 := hbit s.safety.chanA.evac.pinA
  have h4 := hbit s.safety.chanA.evac.pinB
  have h5 := hbit s.safety.chanA.railfb
  have h6 := hbit s.safety.chanA.otherfb
  omega

theorem setTap_within {parts : List Part} (opcode : Nat) (s : State) (hp : .device ∈ parts := by decide) :
    s.Within (eventFootprint parts []) (setTap opcode s) := (refl _ s).of_fields (device := .inl hp)

/-! ### FREEZE_PIN and JTAG_FREEZE -/

/-- FREEZE_PIN, enabled on a device that is neither frozen nor in reset, freezes it (13 R335). -/
theorem freezePin_freezes (hdef : s.defined = true) (hfrozen : s.device.frozen = false) (hreset : s.inReset = false)
    (henabled : s.flag Obj.FREEZE_PIN_ENABLE = true) : exec .freezePin s = .next (settle (freeze s)) :=
  gate_next s freeze _ (by simpa [State.defined] using hdef) (by simp [hfrozen, hreset, henabled])

theorem freezePin_idle (hdef : s.defined = true)
    (hidle : s.device.frozen = true ∨ s.inReset = true ∨ s.flag Obj.FREEZE_PIN_ENABLE = false) :
    exec .freezePin s = .next s :=
  gate_idle s freeze _ (by simpa [State.defined] using hdef) (by obtain h | h | h := hidle <;> simp [h])

/-- JTAG_FREEZE outside the power-on reset takes its instruction, and freezes a device that can be frozen (13 R335). -/
theorem jtagFreeze_next (hdef : s.defined = true) (hphase : s.device.phase ≠ .powerOnReset) :
    exec .jtagFreeze s = .next (settle
      (if s.device.frozen || s.inReset then setTap 0x2A s else freeze (setTap 0x2A s))) :=
  gate_next s (fun t => if t.device.frozen || t.inReset then setTap 0x2A t else freeze (setTap 0x2A t)) _
    (by simpa [State.defined] using hdef) (by simpa using hphase)

theorem jtagFreeze_idle (hdef : s.defined = true) (hphase : s.device.phase = .powerOnReset) :
    exec .jtagFreeze s = .next s :=
  gate_idle s (fun t => if t.device.frozen || t.inReset then setTap 0x2A t else freeze (setTap 0x2A t)) _
    (by simpa [State.defined] using hdef) (by simp [hphase])

theorem faultPinLow_of_frozen (h : s.device.frozen = true) : s.faultPinLow = true := by simp [State.faultPinLow, h]

theorem freezePin_clause (hdef : s.defined = true) :
    ∃ t, exec .freezePin s = .next t ∧
      (s.device.frozen = false → s.inReset = false → s.flag Obj.FREEZE_PIN_ENABLE = true →
        { t.device with crossings := s.device.crossings } = { s.device with frozen := true } ∧ t.outputsLow = true ∧
        t.faultPinLow = true ∧ (∀ h, s.runs (crossingSender h) = false → t.crossing h = s.crossing h) ∧
        (∀ h, (t.crossing h).step ≤ 4 ∨ t.crossing h = s.crossing h) ∧
        s.frame t [.device, .safety, .crossing, .free] [Obj.OUTPUT_TEST_ABANDONS] []) ∧
      ((s.device.frozen = true ∨ s.inReset = true ∨ s.flag Obj.FREEZE_PIN_ENABLE = false) → t = s) := by
  by_cases hidle : s.device.frozen = true ∨ s.inReset = true ∨ s.flag Obj.FREEZE_PIN_ENABLE = false
  · refine ⟨s, freezePin_idle hdef hidle, fun hfrozen hreset henabled => ?_, fun _ => rfl⟩
    simp [hfrozen, hreset, henabled] at hidle
  · simp only [not_or, Bool.not_eq_true, Bool.not_eq_false] at hidle
    obtain ⟨hfrozen, hreset, henabled⟩ := hidle
    obtain ⟨hdevice, hlow, hstill, hplaced⟩ := (freeze_freezesTo s).settle
    have hlatched : (settle (freeze s)).device.frozen = true := by
      have := congrArg DeviceState.frozen hdevice
      exact this
    refine ⟨_, freezePin_freezes hdef hfrozen hreset henabled, fun _ _ _ => ⟨hdevice, hlow, ?_, hstill, hplaced,
      frame_of_freeze (freeze_within s)⟩, fun h => ?_⟩
    · exact faultPinLow_of_frozen hlatched
    · simp [hfrozen, hreset, henabled] at h

theorem jtagFreeze_clause (hdef : s.defined = true) :
    ∃ t, exec .jtagFreeze s = .next t ∧
      (s.device.frozen = false → s.inReset = false →
        { t.device with crossings := s.device.crossings } = { s.device with frozen := true, tap := 0x2A } ∧
        t.outputsLow = true ∧ (∀ h, s.runs (crossingSender h) = false → t.crossing h = s.crossing h) ∧
        s.frame t [.device, .safety, .crossing, .free] [Obj.OUTPUT_TEST_ABANDONS] []) ∧
      ((s.device.frozen = true ∨ s.inReset = true) → s.device.phase ≠ .powerOnReset →
        t.device = { s.device with tap := 0x2A } ∧ s.frame t [.device] [] []) ∧
      (s.device.phase = .powerOnReset → t = s) := by
  by_cases hphase : s.device.phase = .powerOnReset
  · have hreset : s.inReset = true := by simp [State.inReset, hphase]
    exact ⟨s, jtagFreeze_idle hdef hphase, fun _ h => by simp [hreset] at h, fun _ h => absurd hphase h, fun _ => rfl⟩
  by_cases hheld : s.device.frozen = true ∨ s.inReset = true
  · have hcond : (s.device.frozen || s.inReset) = true := by simpa using hheld
    refine ⟨_, jtagFreeze_next hdef hphase, fun hfrozen hreset => ?_, fun _ _ => ?_, fun h => absurd h hphase⟩
    · simp [hfrozen, hreset] at hheld
    · rw [if_pos hcond]
      exact ⟨rfl, (setTap_within (parts := [.device]) 0x2A s).eventFrame⟩
  · have hcond : ¬ (s.device.frozen || s.inReset) = true := by simpa using hheld
    obtain ⟨hdevice, hlow, hstill, -⟩ := (freeze_freezesTo (setTap 0x2A s)).settle
    refine ⟨_, jtagFreeze_next hdef hphase, fun _ _ => ?_, fun h => absurd h hheld, fun h => absurd h hphase⟩
    rw [if_neg hcond]
    have htap : s.Within freezeFootprint (setTap 0x2A s) := (refl _ s).of_fields (device := .inl (by decide))
    exact ⟨hdevice, hlow, hstill, frame_of_freeze (htap.trans (freeze_within _))⟩

/-! ### The other instructions -/

theorem clearKeys_within (s : State) : s.Within (eventFootprint [.device, .cop, .live] []) (clearKeys s) := by
  unfold clearKeys
  dsimp only
  split
  · exact (setTap_within 0x2C s).of_fields (cop := .inl (by decide))
  · exact setTap_within 0x2C s

/-- KEYS_CLEAR erases the keys stored, where the agent runs (15 R366). -/
theorem clearKeys_effects (s : State) : (clearKeys s).device = { s.device with tap := 0x2C } ∧
    (s.alive 6 = true → (clearKeys s).cop.record.keyOperator = 0 ∧ (clearKeys s).cop.record.keyService = 0 ∧
      (clearKeys s).cop.record.keyOwner = 0) ∧
    (s.alive 6 = false → (clearKeys s).cop = s.cop) ∧ { (clearKeys s).cop with record := s.cop.record } = s.cop ∧
    (clearKeys s).fault = s.fault := by
  unfold clearKeys
  split
  next halive => exact ⟨rfl, fun _ => ⟨rfl, rfl, rfl⟩, fun h => absurd halive (by simp [h]), rfl, rfl⟩
  next hdead => exact ⟨rfl, fun h => absurd h hdead, fun _ => rfl, rfl, rfl⟩

/-- Settles O56: a freeze by its effects (`freeze_freezesTo`), and each instruction of the TAP by what it sets. -/
theorem freezesAndTheJtagPort : Obligations.FreezesAndTheJtagPort := by
  refine ⟨fun s => freezePin_clause, fun s => jtagFreeze_clause, fun s hphase => ⟨?read, ?clear, ?extest, ?sample, ?idcode,
    fun op => ?bypass, ?reset⟩, fun s op hphase => ⟨?_, ?_, ?_, ?_, ?_, ?_, ?_⟩⟩
  case read =>
    exact ⟨_, onTap_next (fun s => ((setTap 0x2B s).emit (.jtag s.freezeChain)).drawn) hphase, rfl, rfl, freezeChain_marker,
      freezeChain_zeros, rfl, frame_of_tap ((setTap_within 0x2B s).of_fields (out := .inl (by decide))
        (free := .inl (by decide)))⟩
  case clear =>
    obtain ⟨hdevice, herased, hkept, hrest, hfault⟩ := clearKeys_effects s
    exact ⟨_, onTap_next _ hphase, hdevice, herased, hkept, hrest, hfault, frame_of_tap (clearKeys_within s)⟩
  case extest =>
    exact ⟨_, onTap_next extest hphase, rfl, safetyPins_extest rfl, rfl, frame_of_tap
      ((setTap_within 0 s).of_fields (device := .inl (by decide)))⟩
  case sample =>
    exact ⟨_, onTap_next (fun s => ((setTap 1 s).emit (.jtag (Config.boundaryScan s.freeCtr))).drawn) hphase, rfl, rfl, rfl,
      frame_of_tap ((setTap_within 1 s).of_fields (out := .inl (by decide)) (free := .inl (by decide)))⟩
  case idcode =>
    exact ⟨_, onTap_next (fun s => (setTap 2 s).emit (.jtag (bitsLow 32 Config.idcode))) hphase, rfl, rfl, rfl,
      frame_of_tap ((setTap_within 2 s).of_fields (out := .inl (by decide)))⟩
  case bypass => exact ⟨_, onTap_next (setTap op) hphase, rfl, rfl, rfl, frame_of_tap (setTap_within op s)⟩
  case reset => exact ⟨_, onTap_next (setTap 2) hphase, rfl, rfl, frame_of_tap (setTap_within 2 s)⟩
  all_goals
    dsimp only [exec, execJtagFrzRead, execJtagKeysClear, execJtagExtest, execJtagSamplePreload, execJtagIdcode,
      execJtagBypass, execJtagTapReset]
    exact onTap_powerOnReset _ hphase

end Freeze

end Sys2Proof.Machine
end

section
/-! The timers of the object agent: role locks, kept responses, and batches that are committed and applied (15 R366, R369,
R373 to R376). -/

namespace Sys2Proof.Machine

set_option Elab.async false

/-! ### One bit of a mask cleared -/

theorem sub_two_pow_div (v i : Nat) : (v - 2 ^ i) / 2 ^ i = v / 2 ^ i - 1 := by
  simpa using Nat.sub_mul_div v (2 ^ i) 1

theorem bitAt_putBit_false (v i : Nat) : bitAt (putBit v i false) i = false := by
  unfold putBit
  split
  next hset =>
    have hbit : v / 2 ^ i % 2 = 1 := by simpa [bitAt] using hset
    simp only [bitAt, Bool.false_eq_true, if_false, sub_two_pow_div, beq_eq_false_iff_ne]
    generalize v / 2 ^ i = w at hbit
    omega
  next hclear => simpa using hclear

theorem bitAt_putBit_false_ne (v : Nat) {i r : Nat} (hne : r ≠ i) : bitAt (putBit v i false) r = bitAt v r := by
  unfold putBit
  split
  next hset =>
    have hbit : v / 2 ^ i % 2 = 1 := by simpa [bitAt] using hset
    simp only [Bool.false_eq_true, if_false, bitAt_eq_testBit]
    obtain hlt | hgt := Nat.lt_or_gt_of_ne hne
    · have hle : 2 ^ i ≤ v := by
        by_contra hsmall
        rw [Nat.div_eq_of_lt (not_le.mp hsmall)] at hbit
        cases hbit
      rw [← Nat.testBit_two_pow_add_gt hlt (v - 2 ^ i), Nat.add_sub_cancel' hle]
    · have hhalf : (v - 2 ^ i) / 2 ^ (i + 1) = v / 2 ^ (i + 1) := by
        rw [Nat.pow_succ, ← Nat.div_div_eq_div_mul, ← Nat.div_div_eq_div_mul, sub_two_pow_div]
        generalize v / 2 ^ i = w at hbit
        omega
      obtain ⟨k, rfl⟩ := Nat.exists_eq_add_of_lt hgt
      rw [show i + k + 1 = k + (i + 1) by omega, ← Nat.testBit_div_two_pow, hhalf, Nat.testBit_div_two_pow]
  next => rfl

/-! ### A role's lock ends (R366) -/

/-- ROLE_LOCK_EXPIRY: the lock of one role ends, and its rejections start again. -/
def endLock (role : Nat) (s : State) : State :=
  (s.setReg Obj.ROLES_LOCKED (putBit (s.reg Obj.ROLES_LOCKED) role false)).setKeyFail role 0

variable {s u : State}

theorem roleLocked_endLock (role r : Nat) (s : State) :
    (endLock role s).roleLocked r = if r = role then false else s.roleLocked r := by
  have hreg : (endLock role s).reg Obj.ROLES_LOCKED = putBit (s.reg Obj.ROLES_LOCKED) role false :=
    (State.reg_setReg s _ _ _).trans (if_pos rfl)
  rw [State.roleLocked, hreg]
  split
  next h => rw [h, bitAt_putBit_false]
  next h => exact bitAt_putBit_false_ne _ h

theorem keyFail_endLock (role r : Nat) (s : State) :
    (endLock role s).keyFail r = if r = role then 0 else s.keyFail r := by
  simp [endLock, State.setKeyFail, State.keyFail, Sparse.get_set]

theorem endLock_within (role : Nat) (s : State) : s.Within (eventFootprint [.answer] [Obj.ROLES_LOCKED]) (endLock role s) :=
  ((State.Within.refl _ s).setReg Obj.ROLES_LOCKED _).of_fields (answer := .inl (by decide))

theorem roleLockExpiry_clause {role : Nat} (hacts : s.acts 6 = true) (hlocked : s.roleLocked role = true) :
    ∃ t, exec (.roleLockExpiry role) s = .next t ∧ t.roleLocked role = false ∧ t.keyFail role = 0 ∧
      (∀ r, r ≠ role → t.roleLocked r = s.roleLocked r ∧ t.keyFail r = s.keyFail r) ∧
      s.frame t [.answer] [Obj.ROLES_LOCKED] [] ∧ t.cop.responses = s.cop.responses ∧ t.traffic = s.traffic :=
  ⟨_, onIslandIf_acts s (endLock role) (fun s => s.roleLocked role) 6 hacts hlocked,
    (roleLocked_endLock role role s).trans (if_pos rfl), (keyFail_endLock role role s).trans (if_pos rfl),
    fun r hr => ⟨(roleLocked_endLock role r s).trans (if_neg hr), (keyFail_endLock role r s).trans (if_neg hr)⟩,
    (endLock_within role s).eventFrame, rfl, rfl⟩

/-! ### The oldest kept response ages out (R369) -/

theorem responseRecordExpiry_clause (hacts : s.acts 6 = true) :
    ∃ t, exec .responseRecordExpiry s = .next t ∧ t.cop = { s.cop with responses := s.cop.responses.dropLast } ∧
      s.frame t [.answer] [] [] ∧ t.traffic = s.traffic :=
  ⟨_, onIsland_acts s (fun s => { s with cop := { s.cop with responses := s.cop.responses.dropLast } }) 6 hacts, rfl,
    ((State.Within.refl (eventFootprint [.answer] []) s).of_fields (answer := .inl (by decide))).eventFrame, rfl⟩

/-! ### A batch is applied (R375) -/

/-- An entry is applied or it fails. -/
theorem Applied.step_counts (a : Applied) (e : BatchEntry) :
    (a.step e).count + (a.step e).failed = a.count + a.failed + 1 := by
  unfold Applied.step
  split <;> simp only [] <;> omega

theorem applied_counts (l : List BatchEntry) (a : Applied) :
    (l.foldl Applied.step a).count + (l.foldl Applied.step a).failed = a.count + a.failed + l.length := by
  induction l generalizing a with
  | nil => rfl
  | cons e l ih =>
    rw [List.foldl_cons, ih, Applied.step_counts, List.length_cons]
    omega

/-- What an applied batch leaves: no batch, and its record in the objects (R375, R376). -/
structure State.BatchApplied (s t : State) (b : Batch) (time : Nat) : Prop where
  batch : t.cop.batch = none
  applied : t.reg Obj.BATCH_LAST_APPLIED = s.reg Obj.BATCH_SEQUENCE
  counts : t.reg Obj.BATCH_LAST_COUNT + t.reg Obj.BATCH_LAST_FAILED = b.entries.length
  time : t.reg Obj.BATCH_LAST_TIME = time

theorem State.BatchApplied.settle {b : Batch} {time : Nat} (h : s.BatchApplied u b time) :
    s.BatchApplied (settle u) b time := ⟨h.batch, h.applied, h.counts, h.time⟩

/-- The record that an applied batch leaves of its entries. -/
def recordBatch (seq time : Nat) (a : Applied) : State :=
  let s1 := (a.state.setReg Obj.BATCH_LAST_APPLIED seq).setReg Obj.BATCH_LAST_COUNT a.count
  let s2 := (s1.setReg Obj.BATCH_LAST_FAILED a.failed).setReg Obj.BATCH_LAST_TIME time
  let s3 := s2.setTab Obj.BATCH_FIRST_FAILURE 0 (natLE 2 a.first.1 ++ natLE 2 0 ++ natLE 4 a.first.2)
  { s3 with cop := { s3.cop with batch := none } }

/-- The entries of a batch, applied to the state without it. -/
def applyEntries (b : Batch) (s : State) : Applied :=
  b.entries.foldl Applied.step
    { state := { s with cop := { s.cop with batch := none } }, number := 0, count := 0, failed := 0, first := (0, 0) }

theorem applyBatch_eq {b : Batch} (hbatch : s.cop.batch = some b) (time : Nat) :
    applyBatch time s = recordBatch (s.reg Obj.BATCH_SEQUENCE) time (applyEntries b s) := by
  simp only [applyBatch, hbatch, recordBatch, applyEntries]

theorem recordBatch_reg (seq time : Nat) (a : Applied) (o : Nat) : (recordBatch seq time a).reg o =
    ((((a.state.setReg Obj.BATCH_LAST_APPLIED seq).setReg Obj.BATCH_LAST_COUNT a.count).setReg Obj.BATCH_LAST_FAILED
      a.failed).setReg Obj.BATCH_LAST_TIME time).reg o := rfl

theorem applyBatch_applied {b : Batch} (hbatch : s.cop.batch = some b) (time : Nat) :
    s.BatchApplied (applyBatch time s) b time := by
  rw [applyBatch_eq hbatch]
  refine ⟨rfl, ?_, ?_, ?_⟩
  · simp [recordBatch_reg]
  · simpa [recordBatch_reg, applyEntries] using applied_counts b.entries
      { state := { s with cop := { s.cop with batch := none } }, number := 0, count := 0, failed := 0, first := (0, 0) }
  · simp [recordBatch_reg]

/-- The objects that record an applied batch (R376). -/
def batchRecord : List Nat :=
  [Obj.BATCH_LAST_APPLIED, Obj.BATCH_LAST_COUNT, Obj.BATCH_LAST_FAILED, Obj.BATCH_LAST_TIME]

/-- A batch without entries leaves nothing but its record. -/
theorem applyBatch_empty {b : Batch} (hbatch : s.cop.batch = some b) (hempty : b.entries = []) (time : Nat) :
    (applyBatch time s).cop = { s.cop with batch := none } ∧
    s.Within { eventFootprint [.cop] batchRecord with tabs := true } (applyBatch time s) ∧
    (∀ o, o ∉ batchRecord → (applyBatch time s).reg o = s.reg o) ∧
    ∀ o j, o ∉ [Obj.BATCH_FIRST_FAILURE] → j < 131072 → (applyBatch time s).tabByte o j = s.tabByte o j := by
  have happlied : applyEntries b s =
      { state := { s with cop := { s.cop with batch := none } }, number := 0, count := 0, failed := 0, first := (0, 0) } := by
    rw [applyEntries, hempty]
    rfl
  rw [applyBatch_eq hbatch, happlied]
  refine ⟨rfl, ?_, fun o ho => ?_, fun o j ho hj => ?_⟩
  · have hdrop : s.Within { eventFootprint [.cop] batchRecord with tabs := true }
        { s with cop := { s.cop with batch := none } } := (State.Within.refl _ s).of_fields (cop := .inl (by decide))
    exact ((((((hdrop.setReg Obj.BATCH_LAST_APPLIED _).setReg Obj.BATCH_LAST_COUNT _).setReg Obj.BATCH_LAST_FAILED
      _).setReg Obj.BATCH_LAST_TIME _).setTab Obj.BATCH_FIRST_FAILURE 0 _)).of_fields (cop := .inl (by decide))
  · simp only [batchRecord, List.mem_cons, List.not_mem_nil, or_false, not_or] at ho
    obtain ⟨h1, h2, h3, h4⟩ := ho
    simp only [recordBatch_reg, State.reg_setReg, if_neg h1, if_neg h2, if_neg h3, if_neg h4]
    rfl
  · exact State.tabByte_setTab_ne _ Obj.BATCH_FIRST_FAILURE 0 o j _ (by simpa using ho) (by simp) hj

/-! ### A batch whose time has come is applied with the scan drive stopped (R374) -/

theorem applyIdle_applies {b : Batch} (hbatch : s.cop.batch = some b) (hcommitted : b.committed = true)
    (hstopped : s.reg Obj.SCAN_STATE = 0) (hreached : b.reached s.nowNs = true) : applyIdle s = applyBatch s.stamp s := by
  simp only [applyIdle, hbatch, hcommitted, hstopped, hreached, beq_self_eq_true, Bool.and_self, if_true]

theorem applyIdle_waits {b : Batch} (hbatch : s.cop.batch = some b)
    (hwaits : s.reg Obj.SCAN_STATE ≠ 0 ∨ b.reached s.nowNs = false) : applyIdle s = s := by
  have hcond : (b.committed && s.reg Obj.SCAN_STATE == 0 && b.reached s.nowNs) = false := by
    obtain h | h := hwaits
    · simp [h]
    · simp [h]
  simp only [applyIdle, hbatch, hcond, Bool.false_eq_true, if_false]

theorem batchNotBeforeReached_clause {b : Batch} (hacts : s.acts 6 = true) (hbatch : s.cop.batch = some b)
    (hcommitted : b.committed = true) (hstopped : s.reg Obj.SCAN_STATE = 0) (hreached : b.reached s.nowNs = true) :
    ∃ t, exec .batchNotBeforeReached s = .next t ∧ s.BatchApplied t b s.stamp ∧
      (b.entries = [] → t.cop = { s.cop with batch := none } ∧ s.frame t [.cop] batchRecord [Obj.BATCH_FIRST_FAILURE]) := by
  have hexec := onIsland_acts s applyIdle 6 hacts
  rw [applyIdle_applies hbatch hcommitted hstopped hreached] at hexec
  refine ⟨_, hexec, (applyBatch_applied hbatch _).settle, fun hempty => ?_⟩
  obtain ⟨hcop, hwithin, -, htabs⟩ := applyBatch_empty hbatch hempty s.stamp
  exact ⟨hcop, hwithin.eventFrame_tables htabs⟩

/-! ### An idle open batch is committed as staged (R376) -/

/-- A batch as its COMMIT leaves it. -/
def Batch.committedAt (b : Batch) (notBefore : Option Time80) (tick : Nat) : Batch :=
  { b with committed := true, notBefore := notBefore, commitTick := tick }

theorem commit_within (b : Batch) (notBefore : Option Time80) (s : State) :
    s.Within (eventFootprint [.cop] [Obj.BATCH_SEQUENCE]) (commit b notBefore s) :=
  ((State.Within.refl _ s).bump Obj.BATCH_SEQUENCE).of_fields (cop := .inl (by decide))

/-- The state that an idle batch is committed to, before it is applied. -/
def autoCommit (b : Batch) (s : State) : State := (commit b none s).bump Obj.BATCH_AUTO_COMMITS

theorem commit_reg (b : Batch) (notBefore : Option Time80) (s : State) :
    (commit b notBefore s).reg = (s.bump Obj.BATCH_SEQUENCE).reg := rfl

theorem autoCommit_reg (b : Batch) (s : State) :
    (autoCommit b s).reg = ((s.bump Obj.BATCH_SEQUENCE).bump Obj.BATCH_AUTO_COMMITS).reg := rfl

theorem autoCommit_within (b : Batch) (s : State) :
    s.Within (eventFootprint [.cop] [Obj.BATCH_SEQUENCE, Obj.BATCH_AUTO_COMMITS]) (autoCommit b s) :=
  (((State.Within.refl _ s).bump Obj.BATCH_SEQUENCE).of_fields (v := commit b none s) (cop := .inl (by decide))).bump
    Obj.BATCH_AUTO_COMMITS

theorem autoCommit_cop (b : Batch) (s : State) :
    (autoCommit b s).cop = { s.cop with batch := some (b.committedAt none s.ticks) } := rfl

theorem autoCommit_sequence (b : Batch) (s : State) :
    (autoCommit b s).reg Obj.BATCH_SEQUENCE = (s.reg Obj.BATCH_SEQUENCE + 1) % 2 ^ 32 := by
  have hwidth : widthOf Obj.BATCH_SEQUENCE = 32 := by decide
  simp [autoCommit_reg, hwidth]

theorem autoCommit_count (b : Batch) (s : State) :
    (autoCommit b s).reg Obj.BATCH_AUTO_COMMITS = (s.reg Obj.BATCH_AUTO_COMMITS + 1) % 2 ^ 32 := by
  have hwidth : widthOf Obj.BATCH_AUTO_COMMITS = 32 := by decide
  simp [autoCommit_reg, hwidth]

theorem autoCommit_scanState (b : Batch) (s : State) : (autoCommit b s).reg Obj.SCAN_STATE = s.reg Obj.SCAN_STATE := by
  simp [autoCommit_reg]

/-- What an idle batch without entries may touch as it is committed and applied. -/
def idleCommitFootprint : Footprint :=
  { eventFootprint [.cop] (Obj.BATCH_SEQUENCE :: Obj.BATCH_AUTO_COMMITS :: batchRecord) with tabs := true }

theorem batchIdleTimeout_clause {b : Batch} (hacts : s.acts 6 = true) (hbatch : s.cop.batch = some b)
    (hopen : b.committed = false) :
    ∃ t, exec .batchIdleTimeout s = .next t ∧
      (s.reg Obj.SCAN_STATE ≠ 0 →
        t.cop = { s.cop with batch := some { b with committed := true, notBefore := none, commitTick := s.ticks } } ∧
        t.reg Obj.BATCH_SEQUENCE = (s.reg Obj.BATCH_SEQUENCE + 1) % 2 ^ 32 ∧
        t.reg Obj.BATCH_AUTO_COMMITS = (s.reg Obj.BATCH_AUTO_COMMITS + 1) % 2 ^ 32 ∧
        s.frame t [.cop] [Obj.BATCH_SEQUENCE, Obj.BATCH_AUTO_COMMITS] []) ∧
      (s.reg Obj.SCAN_STATE = 0 →
        t.cop.batch = none ∧ t.reg Obj.BATCH_LAST_APPLIED = (s.reg Obj.BATCH_SEQUENCE + 1) % 2 ^ 32 ∧
        t.reg Obj.BATCH_LAST_COUNT + t.reg Obj.BATCH_LAST_FAILED = b.entries.length ∧
        t.reg Obj.BATCH_LAST_TIME = s.stamp ∧
        (b.entries = [] → t.cop = { s.cop with batch := none } ∧
          t.reg Obj.BATCH_AUTO_COMMITS = (s.reg Obj.BATCH_AUTO_COMMITS + 1) % 2 ^ 32 ∧
          s.frame t [.cop] [Obj.BATCH_SEQUENCE, Obj.BATCH_AUTO_COMMITS, Obj.BATCH_LAST_APPLIED, Obj.BATCH_LAST_COUNT,
            Obj.BATCH_LAST_FAILED, Obj.BATCH_LAST_TIME] [Obj.BATCH_FIRST_FAILURE])) := by
  have hexec : exec .batchIdleTimeout s = .next (settle (applyIdle (autoCommit b s))) :=
    (onIsland_acts s idleCommit 6 hacts).trans (by simp only [idleCommit, hbatch, hopen, Bool.false_eq_true, if_false]; rfl)
  have hcommitted : (autoCommit b s).cop.batch = some (b.committedAt none s.ticks) := rfl
  have hscan := autoCommit_scanState b s
  refine ⟨_, hexec, fun hruns => ?_, fun hstopped => ?_⟩
  · rw [applyIdle_waits hcommitted (.inl (by rwa [hscan]))]
    simp only [settle_frame]
    exact ⟨autoCommit_cop b s, autoCommit_sequence b s, autoCommit_count b s, (autoCommit_within b s).eventFrame⟩
  · rw [applyIdle_applies hcommitted rfl (by rwa [hscan]) rfl]
    obtain ⟨hnone, hlast, hcounts, htime⟩ := (applyBatch_applied hcommitted (autoCommit b s).stamp).settle
    refine ⟨hnone, hlast.trans (autoCommit_sequence b s), hcounts, htime, fun hempty => ?_⟩
    obtain ⟨hcop, hwithin, hreg, htabs⟩ := applyBatch_empty hcommitted hempty (autoCommit b s).stamp
    have hcommit : s.Within idleCommitFootprint (autoCommit b s) :=
      (autoCommit_within b s).mono (fun _ => id) (fun o ho => by
        simp only [eventFootprint, idleCommitFootprint, batchRecord, List.contains_iff_mem, List.mem_cons] at ho ⊢
        tauto) nofun (fun _ => id) id
    have happly : (autoCommit b s).Within idleCommitFootprint (applyBatch (autoCommit b s).stamp (autoCommit b s)) :=
      hwithin.mono (fun _ => id) (fun o ho => by
        simp only [eventFootprint, idleCommitFootprint, List.contains_iff_mem, List.mem_cons] at ho ⊢
        tauto) id (fun _ => id) id
    exact ⟨by simpa only [settle_frame, autoCommit_cop] using hcop,
      by simpa only [settle_frame] using (hreg _ (by decide)).trans (autoCommit_count b s),
      (hcommit.trans happly).eventFrame_tables fun o j ho hj => (htabs o j ho hj).trans ((autoCommit_within b s).tab rfl o j hj)⟩

/-- Settles O7: each timer by what its operation leaves. -/
theorem agentTimersAct : Obligations.AgentTimersAct := by
  refine ⟨fun s role => roleLockExpiry_clause, fun s => responseRecordExpiry_clause, fun s b => batchIdleTimeout_clause,
    fun s b hacts hbatch hcommitted hstopped hreached => ?_⟩
  obtain ⟨t, hexec, ⟨hnone, hlast, hcounts, htime⟩, hempty⟩ :=
    batchNotBeforeReached_clause hacts hbatch hcommitted hstopped hreached
  exact ⟨t, hexec, hnone, hlast, hcounts, htime, hempty⟩

end Sys2Proof.Machine
end

section
/-! Batches are staged, committed and abandoned (15 R373, R374, R376). -/

namespace Sys2Proof.Machine

set_option Elab.async false

section Batches

open State.Within

variable {s u : State} {q : Request} {b : Batch}

/-! ### Answers and frames -/

/-- What an operation and its answer may touch. -/
def answerFootprint (F : Footprint) : Footprint := { F with parts := .answer :: .out :: F.parts }

/-- A request that is answered with success has the frame of what it left before its answer. -/
theorem hostFrame_respond_within {F : Footprint} {parts : List Part} {objs : List Nat} (total : Nat) (data : Bytes)
    (h : (s.taken q).Within F u) (hparts : ∀ p ∈ F.parts, p ∈ parts) (hobjs : ∀ o, F.objs o = true → o ∈ objs)
    (htabs : F.tabs = false) (hcross : ∀ k, F.crossings k = false) (hrequests : F.objs Obj.COP_REQUESTS = false) :
    s.hostFrame (settle (u.respond q 0 total data)) parts objs [] :=
  have hstate : (s.taken q).Within (answerFootprint F) u :=
    h.mono (fun _ hp => List.mem_cons_of_mem _ (List.mem_cons_of_mem _ hp)) (fun _ => id) id (fun _ => id) id
  have hanswer : u.Within (answerFootprint F) (u.respond q 0 total data) :=
    respond_zero_within u q total data List.mem_cons_self (List.mem_cons_of_mem _ List.mem_cons_self)
  hostFrame_of_within (hstate.trans hanswer) (fun p hp => by
      simp only [answerFootprint, List.mem_cons] at hp ⊢
      obtain h | h | h := hp
      · exact .inl h
      · exact .inr (.inl h)
      · exact .inr (.inr (hparts p h)))
    hobjs htabs (fun k _ => hcross k) hrequests

theorem quiet_respond (u : State) (q : Request) (total : Nat) (data : Bytes) :
    (u.respond q 0 total data).cop.quiet = u.cop.quiet := respond_zero_cop u q total data

theorem quiet_taken (s : State) (q : Request) : (s.taken q).cop.quiet = s.cop.quiet := cop_taken s q

theorem batch_of_quiet (h : u.cop.quiet = s.cop.quiet) : u.cop.batch = s.cop.batch := by
  have hbatch := congrArg CopState.batch h
  exact hbatch

theorem batch_taken (s : State) (q : Request) : (s.taken q).cop.batch = s.cop.batch :=
  batch_of_quiet (quiet_taken s q)

/-- What a request of the agent's own opcodes does, once it is heard. -/
theorem exec_runAny {c : Instr} (hexec : exec c s = hostRequest runAny q s) (hhears : s.hears q = true) :
    exec c s = .next (settle (runAny q (s.taken q))) := hexec.trans (hostRequest_heard s q runAny hhears)

theorem runAny_stage (h : q.opcode = 3) : runAny q u = executeStage q u := if_pos h

theorem runAny_commit (h : q.opcode = 4) : runAny q u = executeCommit q u := by simp [runAny, h]

theorem runAny_abandon (h : q.opcode = 5) : runAny q u = executeAbandon q u := by simp [runAny, h]

theorem settle_answerData (s : State) : (settle s).answerData = s.answerData := rfl

theorem answered_of_responses (h : u.cop.responses = s.cop.responses) (rq : Req) (code : Nat) :
    (settle u).answered rq code = s.answered rq code := by
  rw [settle_answered, State.answered, h, State.answered]

theorem answerData_of_responses (h : u.cop.responses = s.cop.responses) : (settle u).answerData = s.answerData := by
  rw [settle_answerData, State.answerData, h, State.answerData]

/-! ### The batch of a sender (R373) -/

/-- The state with `b` as its batch. -/
def State.withBatch (s : State) (b : Batch) : State := { s with cop := { s.cop with batch := some b } }

theorem withBatch_of_batch (h : s.cop.batch = some b) : s.withBatch b = s := by
  rw [State.withBatch, ← h]

theorem quiet_withBatch (s : State) (b : Batch) : (s.withBatch b).cop.quiet = { s.cop.quiet with batch := some b } := rfl

theorem withBatch_within (s : State) (b : Batch) : s.Within (eventFootprint [.cop] []) (s.withBatch b) :=
  (refl _ s).of_fields (cop := .inl (by decide))

/-- A batch that nobody else has opened, and that is not committed, takes a STAGE of its sender. -/
theorem openBatch_takes {w : Requester} (hbatch : s.cop.batch = some b ∨ s.cop.batch = none ∧
      b = { owner := w, entries := [], committed := false, notBefore := none, commitTick := 0 })
    (howner : b.owner = w) (hopen : b.committed = false) :
    s.batchRefuses w = false ∧ s.openBatch w = s.withBatch b := by
  obtain hsome | ⟨hnone, rfl⟩ := hbatch
  · exact ⟨by simp [State.batchRefuses, hsome, hopen, howner],
      (by simp [State.openBatch, hsome] : s.openBatch w = s).trans (withBatch_of_batch hsome).symm⟩
  · exact ⟨by simp [State.batchRefuses, hnone], by simp [State.openBatch, hnone, State.withBatch]⟩

/-- A batch with one entry more. -/
def Batch.stage (b : Batch) (e : BatchEntry) : Batch := { b with entries := b.entries ++ [e] }

theorem stageEntry_enters {r : ObjRow} (hbatch : s.cop.batch = some b) (hbarred : s.barred r q.obj = false)
    (hlength : lengthOk r q.data.length = true) (hcount : b.entries.length < 4096)
    (hsize : b.size + q.data.length ≤ 262144) :
    stageEntry r q s = (s.withBatch (b.stage { rq := q.rq, obj := q.obj, data := q.data })).respond q 0 0 [] := by
  have hroom : (decide (4096 ≤ b.entries.length) || decide (262144 < b.size + q.data.length)) = false := by
    simp only [Bool.or_eq_false_iff, decide_eq_false_iff_not]
    omega
  simp only [stageEntry, hbatch, hbarred, hlength, hroom, Bool.not_true, Bool.false_eq_true, if_false]
  rfl

/-- Data that come whole are assembled at once. -/
theorem assemble_whole {r : ObjRow} (hwhole : s.comesWhole r q = true) (hsegmented : segmented r q.obj = true) :
    s.assemble q = .whole s q.data := by
  simp only [State.comesWhole, hsegmented, Bool.not_true, Bool.false_or, Bool.and_eq_true, beq_iff_eq,
    decide_eq_true_eq] at hwhole
  obtain ⟨⟨⟨⟨⟨hfirst, hlast⟩, hoffset⟩, hlen⟩, hspace⟩, hnew⟩ := hwhole
  have hnone : s.cop.assemblies.find? (fun x => x.who == q.rq.who) = none := by
    rw [List.find?_eq_none]
    exact fun a ha => by simpa using List.all_eq_true.mp hnew a ha
  simp [State.assemble, hnone, hfirst, hlast, hoffset, hspace, Nat.not_lt.mpr hlen]

/-- A STAGE that nothing turns away enters its data. -/
theorem executeStage_enters {r : ObjRow} (hbatch : s.cop.batch = some b ∨ s.cop.batch = none ∧
      b = { owner := q.rq.who, entries := [], committed := false, notBefore := none, commitTick := 0 })
    (howner : b.owner = q.rq.who) (hopen : b.committed = false) (hfind : s.findObj q.obj = some r)
    (hright : s.writeAbort r q.obj q.rq.role = 0) (hbarred : s.barred r q.obj = false)
    (hlength : lengthOk r q.data.length = true) (hwhole : s.comesWhole r q = true) (hcount : b.entries.length < 4096)
    (hsize : b.size + q.data.length ≤ 262144) :
    executeStage q s = (s.withBatch (b.stage { rq := q.rq, obj := q.obj, data := q.data })).respond q 0 0 [] := by
  obtain ⟨hrefuses, hopened⟩ := openBatch_takes hbatch howner hopen
  have hfind' : (s.withBatch b).findObj q.obj = some r := hfind
  have hright' : (s.withBatch b).writeAbort r q.obj q.rq.role = 0 := hright
  have henters : stageEntry r q (s.withBatch b) =
      (s.withBatch (b.stage { rq := q.rq, obj := q.obj, data := q.data })).respond q 0 0 [] :=
    stageEntry_enters rfl hbarred hlength hcount hsize
  have hassemble : segmented r q.obj = true → (s.withBatch b).assemble q = .whole (s.withBatch b) q.data :=
    assemble_whole hwhole
  simp only [executeStage, hrefuses, hopened, hfind', hright', ne_eq, not_true_eq_false, decide_false, Bool.and_false,
    Bool.false_eq_true, if_false]
  split
  next hsegmented =>
    rw [hassemble hsegmented]
    exact henters
  next => exact henters

theorem copStage_clause {rq : Req} {index sub : Nat} {seg : Segment} {data : Bytes} {r : ObjRow}
    (hq : q = { rq := rq, opcode := 3, obj := index * 256 + sub, seg := seg, snapshot := false, data := data })
    (hhears : s.hears q = true) (hfind : s.findObj q.obj = some r) (hright : s.writeAbort r q.obj rq.role = 0)
    (hbarred : s.barred r q.obj = false) (hlength : lengthOk r data.length = true) (hwhole : s.comesWhole r q = true)
    (hbatch : s.cop.batch = some b ∨ s.cop.batch = none ∧
      b = { owner := rq.who, entries := [], committed := false, notBefore := none, commitTick := 0 })
    (howner : b.owner = rq.who) (hopen : b.committed = false) (hcount : b.entries.length < 4096)
    (hsize : b.size + data.length ≤ 262144) :
    ∃ t, exec (.copStage rq index sub seg data) s = .next t ∧ t.answered rq 0 = true ∧
      t.cop.quiet = { s.cop.quiet with
        batch := some { b with entries := b.entries ++ [{ rq := rq, obj := q.obj, data := data }] } } ∧
      s.hostFrame t [.cop] [] [] := by
  subst hq
  generalize hq : ({ rq := rq, opcode := 3, obj := index * 256 + sub, seg := seg, snapshot := false, data := data } :
    Request) = q at *
  have hstage : runAny q (s.taken q) =
      ((s.taken q).withBatch (b.stage { rq := q.rq, obj := q.obj, data := q.data })).respond q 0 0 [] := by
    rw [runAny_stage (by rw [← hq])]
    refine executeStage_enters (r := r) (by rw [batch_taken, ← hq]; exact hbatch) (by rw [← hq]; exact howner) hopen ?_ ?_ ?_
      (by rw [← hq]; exact hlength) ?_ hcount (by rw [← hq]; exact hsize)
    · simpa using hfind
    · simpa [← hq] using hright
    · rwa [barred_taken]
    · rwa [comesWhole_taken]
  have hexec := exec_runAny (c := .copStage rq index sub seg data) (s := s) (q := q) (by rw [← hq]; rfl) hhears
  rw [hstage] at hexec
  refine ⟨_, hexec, ?_, ?_, ?_⟩
  · have hrq : rq = q.rq := by rw [← hq]
    rw [settle_answered, hrq, State.respond_answered]
  · simp only [settle_frame]
    rw [quiet_respond, quiet_withBatch, quiet_taken, ← hq]
    rfl
  · exact hostFrame_respond_within 0 [] (withBatch_within _ _) (by simp [eventFootprint]) (by simp [eventFootprint]) rfl
      (fun _ => rfl) rfl

/-! ### COMMIT (R374) -/

theorem notBeforeBytes_length (notBefore : Option Time80) :
    (notBeforeBytes notBefore).length = 0 ∨ (notBeforeBytes notBefore).length = 10 := by
  cases notBefore with
  | none => exact .inl rfl
  | some t => exact .inr (by simp [notBeforeBytes])

/-- The port of a request may only empty its queue before a batch is applied (09 R242). -/
def queueFootprint : Footprint := { carryFootprint with parts := .answer :: carryFootprint.parts }

theorem flushPort_within (p : Port) (s : State) : s.Within queueFootprint (flushPort p s) := by
  have hcarry : ∀ (blocks : List Block) (t : State), t.Within queueFootprint (carry p blocks t) := fun blocks t =>
    (carry_within p blocks t).mono (fun _ hp => List.mem_cons_of_mem _ hp) (fun _ => id) id (fun _ => id) id
  have hstart : ∀ (k : LocalPacket) (t : State), t.Within queueFootprint (startPacket k t) := fun k t => by
    unfold startPacket
    exact (refl queueFootprint t).modStream k.port _ (by decide)
  have hpackets := (hcarry (idles 48) s).trans
    (foldl (fun t k => (hstart k t).trans (hcarry (idles 48) _)) (s.waitingOn p) (carry p (idles 48) s))
  exact (hpackets.of_fields (answer := .inl (by decide))).trans (hcarry _ _)

/-- A COMMIT of its sender: the batch is committed and answered, and may be applied at once. -/
def commitAnswer (b : Batch) (q : Request) (s : State) : State :=
  let s1 := commit b (notBeforeOf q.data) s
  s1.respond q 0 0 (natLE 4 (s1.reg Obj.BATCH_SEQUENCE))

/-- A state in which a committed batch is looked at again: that of its answer, or after the packets of a port have left. -/
def State.ready (s t : State) : Prop := t = s ∨ ∃ p, t = flushPort p s

theorem executeCommit_ready (hbatch : s.cop.batch = some b) (hopen : b.committed = false) (howner : b.owner = q.rq.who)
    (hlength : q.data.length = 0 ∨ q.data.length = 10) :
    ∃ w, (commitAnswer b q s).ready w ∧ executeCommit q s = applyIdle w ∧
      ((∀ p, (applyIdle (commitAnswer b q s)).up p = (commitAnswer b q s).up p) → w = commitAnswer b q s) := by
  have hgood : (decide (q.data.length ≠ 0) && decide (q.data.length ≠ 10)) = false := by
    obtain h | h := hlength <;> simp [h]
  have hexec : executeCommit q s = match viaPort q.rq.via with
      | some p => if (commitAnswer b q s).up p && !(applyIdle (commitAnswer b q s)).up p then
          applyIdle (flushPort p (commitAnswer b q s)) else applyIdle (commitAnswer b q s)
      | none => applyIdle (commitAnswer b q s) := by
    simp only [executeCommit, hbatch, hopen, howner, hgood, ne_eq, not_true_eq_false, decide_false, Bool.or_self,
      Bool.false_eq_true, if_false]
    rfl
  rw [hexec]
  split
  next p _ =>
    split
    next hdown =>
      refine ⟨_, .inr ⟨p, rfl⟩, rfl, fun hup => ?_⟩
      rw [hup p] at hdown
      simp at hdown
    next => exact ⟨_, .inl rfl, rfl, fun _ => rfl⟩
  next => exact ⟨_, .inl rfl, rfl, fun _ => rfl⟩

/-- What stands between the answer of a COMMIT and its application. -/
theorem ready_keeps {w : State} (h : s.ready w) : w.cop.batch = s.cop.batch ∧ w.time = s.time ∧
    w.reg Obj.SCAN_STATE = s.reg Obj.SCAN_STATE ∧ w.reg Obj.BATCH_SEQUENCE = s.reg Obj.BATCH_SEQUENCE := by
  obtain rfl | ⟨p, rfl⟩ := h
  · exact ⟨rfl, rfl, rfl, rfl⟩
  · have hflush := flushPort_within p s
    exact ⟨batch_of_quiet (hflush.part .cop (by decide)), hflush.part .time (by decide),
      hflush.obj Obj.SCAN_STATE 0 (by decide) (by decide), hflush.obj Obj.BATCH_SEQUENCE 0 (by decide) (by decide)⟩

theorem nowNs_of_time (h : u.time = s.time) : u.nowNs = s.nowNs := by
  simp only [State.nowNs, State.now, State.active, State.dom, h]

theorem stamp_of_time (h : u.time = s.time) : u.stamp = s.stamp := by
  simp only [State.stamp, State.now, State.active, State.dom, h]

/-- The state that a COMMIT leaves before its answer. -/
theorem commitAnswer_effects (s : State) (q : Request) (b : Batch) :
    (commitAnswer b q (s.taken q)).cop.quiet =
      { s.cop.quiet with batch := some (b.committedAt (notBeforeOf q.data) s.ticks) } ∧
    (commitAnswer b q (s.taken q)).time = s.time ∧
    (commitAnswer b q (s.taken q)).reg Obj.SCAN_STATE = s.reg Obj.SCAN_STATE ∧
    (commitAnswer b q (s.taken q)).reg Obj.BATCH_SEQUENCE = (s.reg Obj.BATCH_SEQUENCE + 1) % 2 ^ 32 ∧
    (commitAnswer b q (s.taken q)).answered q.rq 0 = true ∧
    (commitAnswer b q (s.taken q)).answerData =
      natLE 4 ((commitAnswer b q (s.taken q)).reg Obj.BATCH_SEQUENCE) := by
  have hwidth : widthOf Obj.BATCH_SEQUENCE = 32 := by decide
  have hreg : (commitAnswer b q (s.taken q)).reg = ((s.taken q).bump Obj.BATCH_SEQUENCE).reg := by
    simp [commitAnswer, commit_reg]
  refine ⟨?_, ?_, ?_, ?_, State.respond_answered _ _ _ _ _, ?_⟩
  · rw [commitAnswer, quiet_respond]
    have hquiet := congrArg
      (fun x : CopState => { x with batch := some (b.committedAt (notBeforeOf q.data) (s.taken q).ticks) }) (quiet_taken s q)
    exact hquiet.trans (by rw [show (s.taken q).ticks = s.ticks by simp])
  · simp [commitAnswer, commit]
  · simp [hreg]
  · simp [hreg, hwidth]
  · rw [hreg, commitAnswer, respond_answerData, commit_reg]

theorem copCommit_exec {rq : Req} {notBefore : Option Time80} (hq : q = bareRequest rq 4 (notBeforeBytes notBefore))
    (hhears : s.hears q = true) : exec (.copCommit rq notBefore) s = .next (settle (executeCommit q (s.taken q))) := by
  subst hq
  exact (exec_runAny rfl hhears).trans (by rw [runAny_commit rfl])

theorem applyIdle_up {w : State} (hbatch : w.cop.batch = some b) (hempty : b.entries = []) (p : Port) :
    (applyIdle w).up p = w.up p := by
  simp only [applyIdle, hbatch]
  split
  · have hreg := (applyBatch_empty hbatch hempty w.stamp).2.2.1 (Obj.PORT_STATE (portIx p)) (by cases p <;> decide)
    rw [State.up, hreg, State.up]
  · rfl

theorem commit_waits (hbatch : s.cop.batch = some b) (howner : b.owner = q.rq.who) (hopen : b.committed = false)
    (hlength : q.data.length = 0 ∨ q.data.length = 10)
    (hwaits : s.reg Obj.SCAN_STATE ≠ 0 ∨ (b.committedAt (notBeforeOf q.data) s.ticks).reached s.nowNs = false) :
    executeCommit q (s.taken q) = commitAnswer b q (s.taken q) := by
  obtain ⟨hquiet, htime, hscan, -⟩ := commitAnswer_effects s q b
  obtain ⟨w, -, hexec, hw⟩ := executeCommit_ready (s := s.taken q) (by rw [batch_taken]; exact hbatch) hopen howner hlength
  have hcommitted : (commitAnswer b q (s.taken q)).cop.batch = some (b.committedAt (notBeforeOf q.data) s.ticks) := by
    have h := congrArg CopState.batch hquiet
    exact h
  have hidle := applyIdle_waits hcommitted (by rw [hscan, nowNs_of_time htime]; exact hwaits)
  rw [hexec, hw (fun p => by rw [hidle]), hidle]

theorem commit_applies (hbatch : s.cop.batch = some b) (howner : b.owner = q.rq.who) (hopen : b.committed = false)
    (hlength : q.data.length = 0 ∨ q.data.length = 10) (hstopped : s.reg Obj.SCAN_STATE = 0)
    (hreached : (b.committedAt (notBeforeOf q.data) s.ticks).reached s.nowNs = true) :
    ∃ w, executeCommit q (s.taken q) = applyBatch s.stamp w ∧
      w.cop.batch = some (b.committedAt (notBeforeOf q.data) s.ticks) ∧
      w.reg Obj.BATCH_SEQUENCE = (s.reg Obj.BATCH_SEQUENCE + 1) % 2 ^ 32 ∧
      (b.entries = [] → w = commitAnswer b q (s.taken q)) := by
  obtain ⟨hquiet, htime, hscan, hsequence, -⟩ := commitAnswer_effects s q b
  obtain ⟨w, hready, hexec, hw⟩ := executeCommit_ready (s := s.taken q) (by rw [batch_taken]; exact hbatch) hopen howner
    hlength
  have hcommitted : (commitAnswer b q (s.taken q)).cop.batch = some (b.committedAt (notBeforeOf q.data) s.ticks) := by
    have h := congrArg CopState.batch hquiet
    exact h
  obtain ⟨hwbatch, hwtime, hwscan, hwsequence⟩ := ready_keeps hready
  have hwtime := hwtime.trans htime
  refine ⟨w, ?_, hwbatch.trans hcommitted, hwsequence.trans hsequence, fun hempty => hw fun p =>
    applyIdle_up hcommitted hempty p⟩
  rw [hexec, applyIdle_applies (hwbatch.trans hcommitted) rfl (hwscan.trans (hscan.trans hstopped))
    (by rw [nowNs_of_time hwtime]; exact hreached), stamp_of_time hwtime]

/-- What a COMMIT may touch, when it applies a batch without entries. -/
def commitFootprint : Footprint :=
  { eventFootprint [.answer, .out, .crossing, .cop] (Obj.COP_REQUESTS :: Obj.BATCH_SEQUENCE :: batchRecord) with tabs := true }

theorem commitAnswer_within (s : State) (q : Request) (b : Batch) :
    s.Within commitFootprint (commitAnswer b q (s.taken q)) :=
  have htaken : s.Within commitFootprint (s.taken q) := taken_within s q (by decide) (by decide)
  have hcommit : (s.taken q).Within commitFootprint (commit b (notBeforeOf q.data) (s.taken q)) :=
    (commit_within b _ _).mono (by decide) (fun o ho => by
      simp only [eventFootprint, commitFootprint, List.contains_iff_mem, List.mem_cons] at ho ⊢
      tauto) nofun (fun _ => id) id
  (htaken.trans hcommit).trans (respond_zero_within _ q 0 _ (by decide) (by decide))

theorem copCommit_clause {rq : Req} {notBefore : Option Time80} (hq : q = bareRequest rq 4 (notBeforeBytes notBefore))
    (hhears : s.hears q = true) (hbatch : s.cop.batch = some b) (howner : b.owner = rq.who) (hopen : b.committed = false) :
    ∃ t, exec (.copCommit rq notBefore) s = .next t ∧
      (s.reg Obj.SCAN_STATE ≠ 0 ∨ (b.committedAt (notBeforeOf q.data) s.ticks).reached s.nowNs = false →
        t.answered rq 0 = true ∧ t.reg Obj.BATCH_SEQUENCE = (s.reg Obj.BATCH_SEQUENCE + 1) % 2 ^ 32 ∧
        t.answerData = natLE 4 (t.reg Obj.BATCH_SEQUENCE) ∧
        t.cop.quiet = { s.cop.quiet with batch := some (b.committedAt (notBeforeOf q.data) s.ticks) } ∧
        s.hostFrame t [.cop] [Obj.BATCH_SEQUENCE] []) ∧
      (s.reg Obj.SCAN_STATE = 0 → (b.committedAt (notBeforeOf q.data) s.ticks).reached s.nowNs = true →
        t.cop.batch = none ∧ t.reg Obj.BATCH_LAST_APPLIED = (s.reg Obj.BATCH_SEQUENCE + 1) % 2 ^ 32 ∧
        t.reg Obj.BATCH_LAST_COUNT + t.reg Obj.BATCH_LAST_FAILED = b.entries.length ∧
        t.reg Obj.BATCH_LAST_TIME = s.stamp ∧
        (b.entries = [] → t.answered rq 0 = true ∧ t.answerData = natLE 4 (t.reg Obj.BATCH_SEQUENCE) ∧
          t.reg Obj.BATCH_SEQUENCE = (s.reg Obj.BATCH_SEQUENCE + 1) % 2 ^ 32 ∧
          t.cop.quiet = { s.cop.quiet with batch := none } ∧
          s.hostFrame t [.cop] (Obj.BATCH_SEQUENCE :: batchRecord) [Obj.BATCH_FIRST_FAILURE])) := by
  have hrq : q.rq = rq := by rw [hq]; rfl
  have hlength : q.data.length = 0 ∨ q.data.length = 10 := by rw [hq]; exact notBeforeBytes_length notBefore
  rw [← hrq] at howner ⊢
  obtain ⟨hquiet, htime, hscan, hsequence, hanswered, hdata⟩ := commitAnswer_effects s q b
  have hcommit : (s.taken q).Within (eventFootprint [.cop] [Obj.BATCH_SEQUENCE]) (commit b (notBeforeOf q.data) (s.taken q)) :=
    commit_within b _ _
  refine ⟨_, by rw [hrq]; exact copCommit_exec hq hhears, fun hwaits => ?_, fun hstopped hreached => ?_⟩
  · rw [commit_waits hbatch howner hopen hlength hwaits]
    have hframe : s.hostFrame (settle (commitAnswer b q (s.taken q))) [.cop] [Obj.BATCH_SEQUENCE] [] :=
      hostFrame_respond_within 0 _ hcommit (by simp [eventFootprint]) (fun o ho => List.contains_iff_mem.mp ho) rfl
        (fun _ => rfl) (by decide)
    simp only [settle_answered, settle_frame, settle_answerData]
    exact ⟨hanswered, hsequence, hdata, hquiet, hframe⟩
  · obtain ⟨w, hexec, hwbatch, hwsequence, hwempty⟩ := commit_applies hbatch howner hopen hlength hstopped hreached
    rw [hexec]
    obtain ⟨hnone, hlast, hcounts, hstamp⟩ := (applyBatch_applied hwbatch s.stamp).settle
    refine ⟨hnone, hlast.trans hwsequence, hcounts, hstamp, fun hempty => ?_⟩
    obtain rfl := hwempty hempty
    obtain ⟨hcop, hwithin, hreg, htabs⟩ := applyBatch_empty hwbatch hempty s.stamp
    have happly : (commitAnswer b q (s.taken q)).Within commitFootprint
        (applyBatch s.stamp (commitAnswer b q (s.taken q))) :=
      hwithin.mono (by decide) (fun o ho => by
        simp only [eventFootprint, commitFootprint, List.contains_iff_mem, List.mem_cons] at ho ⊢
        tauto) id (fun _ => id) id
    have hall : s.Within commitFootprint (applyBatch s.stamp (commitAnswer b q (s.taken q))) :=
      (commitAnswer_within s q b).trans happly
    have hbefore : ∀ o j, j < 131072 → (commitAnswer b q (s.taken q)).tabByte o j = s.tabByte o j := fun o j hj => by
      simp [commitAnswer, hcommit.tab rfl o j hj]
    have hresponses : (applyBatch s.stamp (commitAnswer b q (s.taken q))).cop.responses =
        (commitAnswer b q (s.taken q)).cop.responses := by rw [hcop]
    simp only [settle_frame]
    rw [answered_of_responses hresponses, answerData_of_responses hresponses, hreg _ (by decide)]
    refine ⟨hanswered, hdata, hsequence, ?_, hall.eventFrame_tables fun o j ho hj => (htabs o j ho hj).trans (hbefore o j hj),
      fun _ k _ => hall.cross k rfl, fun _ _ => ?_⟩
    · have hdropped := congrArg (fun x : CopState => { x with batch := none }) hquiet
      rw [hcop]
      exact hdropped
    · simp only [settle_frame]
      rw [hreg _ (by decide)]
      simp [commitAnswer, commit_reg]
      rfl

/-! ### ABANDON (R376), and requests that the batch turns away -/

theorem copAbandon_exec {rq : Req} (hhears : s.hears (bareRequest rq 5 []) = true) :
    exec (.copAbandon rq) s =
      .next (settle (executeAbandon (bareRequest rq 5 []) (s.taken (bareRequest rq 5 [])))) :=
  (exec_runAny rfl hhears).trans (by rw [runAny_abandon rfl])

theorem dropBatch_within (s : State) : s.Within (eventFootprint [.cop] []) (dropBatch s) :=
  (refl _ s).of_fields (cop := .inl (by decide))

theorem copAbandon_clause {rq : Req} (hhears : s.hears (bareRequest rq 5 []) = true) (hbatch : s.cop.batch = some b)
    (howner : b.owner = rq.who) (hopen : b.committed = false) :
    ∃ t, exec (.copAbandon rq) s = .next t ∧ t.answered rq 0 = true ∧
      t.cop.quiet = { s.cop.quiet with batch := none } ∧ s.hostFrame t [.cop] [] [] := by
  have hdrops : executeAbandon (bareRequest rq 5 []) (s.taken (bareRequest rq 5 [])) =
      (dropBatch (s.taken (bareRequest rq 5 []))).respond (bareRequest rq 5 []) 0 0 [] := by
    have howner' : b.owner = (bareRequest rq 5 []).rq.who := howner
    simp only [executeAbandon, batch_taken, hbatch, hopen, howner', ne_eq, not_true_eq_false, decide_false, Bool.or_self,
      Bool.false_eq_true, if_false]
  rw [copAbandon_exec hhears, hdrops]
  refine ⟨_, rfl, State.respond_answered _ _ _ _ _, ?_, hostFrame_respond_within 0 [] (dropBatch_within _)
    (by simp [eventFootprint]) (by simp [eventFootprint]) rfl (fun _ => rfl) rfl⟩
  have hquiet := congrArg (fun x : CopState => { x with batch := none }) (quiet_taken s (bareRequest rq 5 []))
  simp only [settle_frame]
  rw [quiet_respond]
  exact hquiet

/-- A batch that is not the sender's, or is committed, refuses its requests. -/
theorem held_of_refused (hrefused : b.owner ≠ q.rq.who ∨ b.committed = true) :
    (b.committed || decide (b.owner ≠ q.rq.who)) = true := by
  obtain h | h := hrefused <;> simp [h]

theorem executeStage_refused (hbatch : s.cop.batch = some b) (hrefused : b.owner ≠ q.rq.who ∨ b.committed = true) :
    executeStage q s = s.respond q abortBatchHeld 0 [] := by
  have hrefuses : s.batchRefuses q.rq.who = true := by
    obtain h | h := hrefused <;> simp [State.batchRefuses, hbatch, h]
  simp only [executeStage, hrefuses, if_true]

theorem executeCommit_refused (hbatch : s.cop.batch = some b) (hrefused : b.owner ≠ q.rq.who ∨ b.committed = true) :
    executeCommit q s = s.respond q abortBatchHeld 0 [] := by
  simp only [executeCommit, hbatch, held_of_refused hrefused, if_true]

theorem executeAbandon_refused (hbatch : s.cop.batch = some b) (hrefused : b.owner ≠ q.rq.who ∨ b.committed = true) :
    executeAbandon q s = s.respond q abortBatchHeld 0 [] := by
  simp only [executeAbandon, hbatch, held_of_refused hrefused, if_true]

theorem executeCommit_none (hbatch : s.cop.batch = none) : executeCommit q s = s.respond q abortNoBatch 0 [] := by
  simp only [executeCommit, hbatch]

theorem executeAbandon_none (hbatch : s.cop.batch = none) : executeAbandon q s = s.respond q abortNoBatch 0 [] := by
  simp only [executeAbandon, hbatch]

/-- A request that is answered with an abort code is turned away. -/
theorem turnsAway_of_exec {c : Instr} {code : Nat} {v : State} (hexec : exec c s = .next (settle v))
    (habort : v = (s.taken q).respond q code 0 []) (hcode : code ≠ 0 := by decide)
    (hawake : code ≠ abortAsleep := by decide) : ∃ t, exec c s = .next t ∧ s.turnsAway t q.rq code :=
  ⟨_, hexec, habort ▸ turnsAway_respond s q hcode hawake⟩

/-- Settles O16: what STAGE, COMMIT and ABANDON leave, and the requests that the batch turns away. -/
theorem batchesAreStagedCommittedAndAbandoned : Obligations.BatchesAreStagedCommittedAndAbandoned := by
  refine ⟨fun s rq index sub seg data r b q => copStage_clause, ?stageRefused, ?commit, fun s rq b => copAbandon_clause,
    fun s rq notBefore => ⟨fun hhears => ⟨fun hnone => ?_, fun b hbatch hrefused => ?_⟩,
      fun hhears => ⟨fun hnone => ?_, fun b hbatch hrefused => ?_⟩⟩⟩
  case stageRefused =>
    intro s rq index sub seg data b q hq hhears hbatch hrefused
    subst hq
    exact turnsAway_of_exec
      ((exec_runAny (c := .copStage rq index sub seg data) rfl hhears).trans (by rw [runAny_stage rfl]))
      (executeStage_refused (by rw [batch_taken]; exact hbatch) hrefused)
  case commit =>
    intro s rq notBefore b hhears hbatch howner hopen
    exact copCommit_clause rfl hhears hbatch howner hopen
  · exact turnsAway_of_exec (copCommit_exec rfl hhears) (executeCommit_none (by rw [batch_taken]; exact hnone))
  · exact turnsAway_of_exec (copCommit_exec rfl hhears) (executeCommit_refused (by rw [batch_taken]; exact hbatch) hrefused)
  · exact turnsAway_of_exec (copAbandon_exec hhears) (executeAbandon_none (by rw [batch_taken]; exact hnone))
  · exact turnsAway_of_exec (copAbandon_exec hhears) (executeAbandon_refused (by rw [batch_taken]; exact hbatch) hrefused)

end Batches

end Sys2Proof.Machine
end

section
/-! The commands of the fault log, of the fuses and of the firmware (15 R378, R381 to R383). -/

namespace Sys2Proof.Machine

set_option Elab.async false

section FirmwareFuses

open State.Within

variable {s u : State} {q : Request} {rq : Req} {obj : Nat} {data : Bytes} {act : Action}

/-! ### The agent that a request finds and leaves -/

theorem withoutJob_of_quiet {x y : CopState}
    (h : { x with responses := [], keyFails := [] } = ({ y with responses := [], keyFails := [] } : CopState)) :
    x.withoutJob = y.withoutJob := by
  have hjob := congrArg CopState.withoutJob h
  exact hjob

/-- A request finds the agent as it was but for its answers and the rejections of its role. -/
theorem cop_asked (s : State) (q : Request) :
    { (s.asked q).cop with responses := [], keyFails := [] } = { s.cop with responses := [], keyFails := [] } := by
  obtain ⟨hcop, -⟩ := accessed_keeps (s.taken q) q.obj
  rw [State.asked, hcop]
  exact cop_taken s q

theorem asked_withoutJob (s : State) (q : Request) : (s.asked q).cop.withoutJob = s.cop.withoutJob :=
  withoutJob_of_quiet (cop_asked s q)

theorem asked_flashJob (s : State) (q : Request) : (s.asked q).cop.flashJob = s.cop.flashJob := by
  have hjob := congrArg CopState.flashJob (cop_asked s q)
  exact hjob

theorem asked_verified (s : State) (q : Request) : (s.asked q).cop.verified = s.cop.verified := by
  have hverified := congrArg CopState.verified (cop_asked s q)
  exact hverified

theorem asked_runKeySlot (s : State) (q : Request) : (s.asked q).cop.runKeySlot = s.cop.runKeySlot := by
  have hslot := congrArg CopState.runKeySlot (cop_asked s q)
  exact hslot

theorem asked_flashPaused (s : State) (q : Request) : (s.asked q).cop.flashPaused = s.cop.flashPaused := by
  have hpaused := congrArg CopState.flashPaused (cop_asked s q)
  exact hpaused

theorem asked_rollback (s : State) (q : Request) :
    (s.asked q).cop.rollbackRaised = s.cop.rollbackRaised ∧ (s.asked q).cop.runRollback = s.cop.runRollback := by
  have hraised := congrArg CopState.rollbackRaised (cop_asked s q)
  have hrun := congrArg CopState.runRollback (cop_asked s q)
  exact ⟨hraised, hrun⟩

theorem asked_flash (s : State) (q : Request) : (s.asked q).flash = s.flash := by
  unfold State.asked State.accessed State.taken
  split <;> split <;> rfl

theorem flashBytes_congr (h : u.flash = s.flash) : u.flashBytes = s.flashBytes := by
  funext a n
  rw [State.flashBytes, h, State.flashBytes]

theorem bootUsed_congr (h : u.flash = s.flash) : u.bootUsed = s.bootUsed := by
  have hcopy : u.bootCopy = s.bootCopy := by
    funext c
    rw [State.bootCopy, flashBytes_congr h, State.bootCopy]
  rw [State.bootUsed, hcopy, State.bootUsed]

theorem bootRecord_congr (h : u.flash = s.flash) : u.bootRecord = s.bootRecord := by
  rw [State.bootRecord, bootUsed_congr h, State.bootRecord]

theorem trialRuns_asked (s : State) (q : Request) : (s.asked q).trialRuns = s.trialRuns := by
  have hboot : (s.asked q).bootRecord = s.bootRecord := bootRecord_congr (asked_flash s q)
  simp only [State.trialRuns, hboot, s.reg_asked_ne q (o := Obj.FW_SLOT_RUNNING) (by decide)]

/-- A command that is done: its answer, its frame, and the agent that its action leaves. -/
theorem command_done {parts : List Part} {objs : List Nat} (hadmits : s.admitsWrite rq obj data = true)
    (hcmd : (rowOf obj).map (·.ty) = some .cmd)
    (hact : act (wholeWrite rq obj data) (s.asked (wholeWrite rq obj data)) = .done u)
    (hu : (s.asked (wholeWrite rq obj data)).Within (commandFootprint parts objs) u) :
    ∃ t, hostWrite act rq obj data s = .next t ∧ t.answered rq 0 = true ∧ t.reg = u.reg ∧
      { t.cop with responses := [], keyFails := [] } = { u.cop with responses := [], keyFails := [] } ∧
      s.hostFrame t parts objs [] := by
  have hwithin : (s.taken (wholeWrite rq obj data)).Within (commandFootprint parts objs) u :=
    (accessed_within _ obj rfl).trans hu
  refine ⟨_, hostWrite_command hadmits hcmd hact, State.respond_answered _ _ _ _ _, by simp [conclude],
    respond_zero_cop u _ 0 [], hostFrame_respond _ _ _ (by decide) ?_ fun _ k hk => ?_⟩
  · exact hwithin.frameRaw (fun _ hp => List.mem_cons_of_mem _ hp) (fun _ o ho => List.contains_iff_mem.mp ho)
      (fun _ => rfl) fun hx => absurd List.mem_cons_self hx
  · rw [hwithin.cross k (by simpa [commandFootprint] using hk)]
    exact congrArg (fun d : DeviceState => Sparse.get (fun _ => ({} : Crossing)) d.crossings k) (by simp)

/-! ### The fault log (R378, R383) -/

theorem logFault_within (reason : Nat) (s : State) :
    s.Within (commandFootprint [.cop] [Obj.FLASH_STATE]) (logFault reason s) :=
  have hpaused : ∀ p, s.Within (commandFootprint [.cop] [Obj.FLASH_STATE])
      { s with cop := { s.cop with flashPaused := p } } := fun p => (refl _ s).of_fields (cop := .inl (by decide))
  ((hpaused _).setReg Obj.FLASH_STATE 1 (by decide)).of_fields (cop := .inl (by decide))

/-- The operations that wait when another one begins before the one in progress. -/
def CopState.preempted (x : CopState) : List FlashJob :=
  match x.flashJob with
  | some j => j :: x.flashPaused
  | none => x.flashPaused

theorem logFault_cop (reason : Nat) (s : State) :
    (logFault reason s).cop =
      { s.cop with
        flashPaused := s.cop.preempted
        flashJob := some { work := .faultLog reason, answer := none } } := rfl

theorem logFault_state (reason : Nat) (s : State) : (logFault reason s).reg Obj.FLASH_STATE = 1 := by
  have hset : ∀ w : State, (w.setReg Obj.FLASH_STATE 1).reg Obj.FLASH_STATE = 1 := fun w => by simp
  exact hset _

theorem actFaultLog_done (h : ¬ Config.flashSize < 0x60000) (q : Request) (s : State) :
    actFaultLog q s = .done (logFault 3 s) := if_neg h

theorem actFaultLog_abort (h : Config.flashSize < 0x60000) (q : Request) (s : State) :
    actFaultLog q s = .abort s abortFlash := if_pos h

theorem respond_abort_cop (s : State) (q : Request) {code : Nat} (hcode : code ≠ 0) :
    (s.respond q code 0 []).cop.withoutJob = s.cop.withoutJob := by
  obtain ⟨r, hr⟩ := respond_eq_countAbort s q hcode
  have hcount : (s.countAbort code).cop = s.cop := by
    unfold State.countAbort
    split
    · simp
    · simp
  have hsent := congrArg (fun w : State => w.cop.withoutJob) hr
  exact hsent.trans (by simp [CopState.withoutJob, hcount])

/-- A frame with room for one part more. -/
theorem hostFrame_cons {parts : List Part} {objs tables : List Nat} (p : Part) (h : s.hostFrame u parts objs tables) :
    s.hostFrame u (p :: parts) objs tables := by
  obtain ⟨⟨hpending, hsame, hregs, htabs⟩, hcross, hcount⟩ := h
  refine ⟨⟨hpending, fun x hx => hsame x ?_, fun o i hp => hregs o i ?_, fun o j hp => htabs o j ?_⟩,
    fun hp => hcross ?_, fun hp => hcount ?_⟩ <;>
  simp only [List.mem_cons, not_or] at * <;> tauto

/-- A command that its action aborts is turned away, and leaves the agent as it was. -/
theorem command_abort {code : Nat} (hadmits : s.admitsWrite rq obj data = true)
    (hcmd : (rowOf obj).map (·.ty) = some .cmd)
    (hact : act (wholeWrite rq obj data) (s.asked (wholeWrite rq obj data)) =
      .abort (s.asked (wholeWrite rq obj data)) code) (hcode : code ≠ 0) (hawake : code ≠ abortAsleep) :
    ∃ t, hostWrite act rq obj data s = .next t ∧ s.turnsAway t rq code ∧ t.cop.withoutJob = s.cop.withoutJob := by
  have hnext := hostWrite_command hadmits hcmd hact
  obtain ⟨t, ht, haway⟩ := hostWrite_command_abort hadmits hcmd hact hcode hawake
  obtain rfl : _ = t := Host.Outcome.next.inj (hnext.symm.trans ht)
  exact ⟨_, hnext, haway, (respond_abort_cop _ _ hcode).trans (asked_withoutJob s _)⟩

theorem faultLogWrite_fails (hadmits : s.admitsWrite rq Obj.FAULT_LOG_WRITE data = true)
    (hsmall : Config.flashSize < 0x60000) :
    ∃ t, exec (.faultLogWrite rq data) s = .next t ∧ s.turnsAway t rq abortFlash ∧
      t.cop.withoutJob = s.cop.withoutJob :=
  command_abort hadmits (by decide +kernel) (actFaultLog_abort hsmall _ _) (by decide) (by decide)

theorem faultLogWrite_begins (hadmits : s.admitsWrite rq Obj.FAULT_LOG_WRITE data = true)
    (hfits : ¬ Config.flashSize < 0x60000) :
    ∃ t, exec (.faultLogWrite rq data) s = .next t ∧ t.answered rq 0 = true ∧ t.reg Obj.FLASH_STATE = 1 ∧
      { t.cop with responses := [], keyFails := [] } = { (logFault 3 s).cop with responses := [], keyFails := [] } ∧
      s.hostFrame t [.cop] [Obj.FLASH_STATE] [] := by
  obtain ⟨t, hexec, hanswered, hreg, hcop, hframe⟩ := command_done hadmits (by decide +kernel)
    (actFaultLog_done hfits _ _) (logFault_within 3 _)
  refine ⟨t, hexec, hanswered, (congrFun hreg _).trans (logFault_state 3 _), hcop.trans ?_, hframe⟩
  have hbegun := congrArg (fun x : CopState =>
    { x with
      flashPaused := x.preempted
      flashJob := some { work := .faultLog 3, answer := none } }) (cop_asked s (wholeWrite rq Obj.FAULT_LOG_WRITE data))
  exact hbegun

theorem faultLogWrite_starts (hadmits : s.admitsWrite rq Obj.FAULT_LOG_WRITE data = true) (hidle : s.cop.flashJob = none) :
    ∃ t, exec (.faultLogWrite rq data) s = .next t ∧ s.startsJob t rq 0x60000 (.faultLog 3) none [] [] := by
  by_cases hsmall : Config.flashSize < 0x60000
  · obtain ⟨t, hexec, ⟨hanswered, hframe⟩, hcop⟩ := faultLogWrite_fails hadmits hsmall
    refine ⟨t, hexec, ?_⟩
    rw [State.startsJob, if_pos hsmall]
    exact ⟨hanswered, hostFrame_cons .cop hframe , hcop⟩
  · obtain ⟨t, hexec, hanswered, hreg, hcop, hframe⟩ := faultLogWrite_begins hadmits hsmall
    have hjob := congrArg CopState.flashJob hcop
    have hrest := congrArg CopState.withoutJob hcop
    have hpaused : s.cop.preempted = s.cop.flashPaused := by rw [CopState.preempted, hidle]
    refine ⟨t, hexec, ?_⟩
    rw [State.startsJob, if_neg hsmall]
    refine ⟨hjob, hreg, fun _ => hanswered, fun h => absurd rfl h, hframe, hrest.trans ?_⟩
    rw [logFault_cop, hpaused]
    rfl

theorem faultLogWrite_preempts {j : FlashJob} (hadmits : s.admitsWrite rq Obj.FAULT_LOG_WRITE data = true)
    (hjob : s.cop.flashJob = some j) :
    ∃ t, exec (.faultLogWrite rq data) s = .next t ∧
      (Config.flashSize < 0x60000 ∨ t.cop.flashJob = some { work := .faultLog 3, answer := none } ∧
        t.cop.flashPaused = j :: s.cop.flashPaused ∧ t.answered rq 0 = true ∧ s.hostFrame t [.cop] [Obj.FLASH_STATE] []) := by
  by_cases hsmall : Config.flashSize < 0x60000
  · obtain ⟨t, hexec, -⟩ := faultLogWrite_fails hadmits hsmall
    exact ⟨t, hexec, .inl hsmall⟩
  · obtain ⟨t, hexec, hanswered, -, hcop, hframe⟩ := faultLogWrite_begins hadmits hsmall
    have hbegun := congrArg CopState.flashJob hcop
    have hwaits := congrArg CopState.flashPaused hcop
    have hpaused : s.cop.preempted = j :: s.cop.flashPaused := by rw [CopState.preempted, hjob]
    exact ⟨t, hexec, .inr ⟨hbegun, hwaits.trans hpaused, hanswered, hframe⟩⟩

/-! ### The fuses (R381) -/

theorem fwRollbackCommit_clause (hadmits : s.admitsWrite rq Obj.FW_ROLLBACK_COMMIT data = true) :
    ∃ t, exec (.fwRollbackCommit rq data) s = .next t ∧ t.answered rq 0 = true ∧
      t.cop.rollbackRaised = max s.cop.rollbackRaised s.cop.runRollback ∧ s.rollbackMin ≤ t.rollbackMin ∧
      { t.cop.withoutJob with rollbackRaised := 0 } = { s.cop.withoutJob with rollbackRaised := 0 } ∧
      s.hostFrame t [.cop] [] [] := by
  have hwithin : ∀ w : State, w.Within (commandFootprint [.cop] [])
      { w with cop := { w.cop with rollbackRaised := max w.cop.rollbackRaised w.cop.runRollback } } :=
    fun w => (refl _ w).of_fields (cop := .inl (by decide))
  obtain ⟨t, hexec, hanswered, -, hcop, hframe⟩ := command_done (act := actRollbackCommit) hadmits (by decide +kernel) rfl (hwithin _)
  obtain ⟨hraised, hrun⟩ := asked_rollback s (wholeWrite rq Obj.FW_ROLLBACK_COMMIT data)
  have hraise : t.cop.rollbackRaised = max s.cop.rollbackRaised s.cop.runRollback := by
    rw [← hraised, ← hrun]
    have h := congrArg CopState.rollbackRaised hcop
    exact h
  have hrest := congrArg (fun x : CopState => { x.withoutJob with rollbackRaised := 0 }) hcop
  have hasked := congrArg (fun x : CopState => { x with rollbackRaised := 0 })
    (asked_withoutJob s (wholeWrite rq Obj.FW_ROLLBACK_COMMIT data))
  refine ⟨t, hexec, hanswered, hraise, ?_, hrest.trans hasked, hframe⟩
  simp only [State.rollbackMin, hraise]
  omega

theorem actKeyRevoke_done (q : Request) (hslot : s.reg Obj.FW_SLOT_RUNNING ≤ 1) (hkey : s.cop.runKeySlot = 1) :
    actKeyRevoke q s = .done { s with cop := { s.cop with slot0Revoked := true } } := by
  simp [actKeyRevoke, hslot, hkey]

theorem actKeyRevoke_abort (q : Request) (hkey : s.cop.runKeySlot ≠ 1) : actKeyRevoke q s = .abort s abortBusy := by
  simp [actKeyRevoke, hkey]

theorem fwKeyRevoke_done (hadmits : s.admitsWrite rq Obj.FW_KEY_REVOKE data = true) (hkey : s.cop.runKeySlot = 1)
    (hslot : s.reg Obj.FW_SLOT_RUNNING ≤ 1) :
    ∃ t, exec (.fwKeyRevoke rq data) s = .next t ∧ t.answered rq 0 = true ∧ t.cop.slot0Revoked = true ∧
      { t.cop.withoutJob with slot0Revoked := false } = { s.cop.withoutJob with slot0Revoked := false } ∧
      s.hostFrame t [.cop] [] [] := by
  have hact := actKeyRevoke_done (s := s.asked (wholeWrite rq Obj.FW_KEY_REVOKE data)) (wholeWrite rq Obj.FW_KEY_REVOKE data)
    (by rwa [s.reg_asked_ne _ (by decide)]) (by rwa [asked_runKeySlot])
  have hwithin : ∀ w : State, w.Within (commandFootprint [.cop] []) { w with cop := { w.cop with slot0Revoked := true } } :=
    fun w => (refl _ w).of_fields (cop := .inl (by decide))
  obtain ⟨t, hexec, hanswered, -, hcop, hframe⟩ := command_done hadmits (by decide +kernel) hact (hwithin _)
  have hrevoked := congrArg CopState.slot0Revoked hcop
  have hrest := congrArg (fun x : CopState => { x.withoutJob with slot0Revoked := false }) hcop
  have hasked := congrArg (fun x : CopState => { x with slot0Revoked := false })
    (asked_withoutJob s (wholeWrite rq Obj.FW_KEY_REVOKE data))
  exact ⟨t, hexec, hanswered, hrevoked, hrest.trans hasked, hframe⟩

theorem fwKeyRevoke_abort (hadmits : s.admitsWrite rq Obj.FW_KEY_REVOKE data = true) (hkey : s.cop.runKeySlot ≠ 1) :
    ∃ t, exec (.fwKeyRevoke rq data) s = .next t ∧ s.turnsAway t rq abortBusy :=
  hostWrite_command_abort hadmits (by decide +kernel) (actKeyRevoke_abort _ (by rwa [asked_runKeySlot])) (by decide)
    (by decide)

/-! ### Firmware commands out of their conditions (R382) -/

/-- The objects of the firmware have no reserved bits (00 R10). -/
theorem keptBits_firmware {obj : Nat} (hlow : 0x110000 ≤ obj) (hhigh : obj < 0x130000) (o : Nat) :
    keptBits obj o = 0xFF#8 := by
  unfold keptBits
  simp only [Obj.X_MAP, Obj.GREY_HIGH_RED, Obj.GREY_LOW_BLUE, Obj.COEF_TABLE, Obj.SLOT_TABLE, Obj.REGION_ENTRY,
    Obj.REGION_TABLE, Obj.AMBIENT_TABLE, Obj.TOD_TABLE, Bool.and_eq_true, Bool.or_eq_true, decide_eq_true_eq]
  rw [if_neg (by omega), if_neg (by omega), if_neg (by omega), if_neg (by omega), if_neg (by omega), if_neg (by omega),
    if_neg (by omega), if_neg (by omega)]

theorem fwUpdateBegin_long (hadmits : s.admitsWrite rq Obj.FW_UPDATE_BEGIN data = true) (hlong : slotSize < leNat data) :
    ∃ t, exec (.fwUpdateBegin rq data) s = .next t ∧ s.turnsAway t rq abortImageLong :=
  hostWrite_asked_abort hadmits (keptBits_firmware (by decide) (by decide)) (if_pos hlong) (by decide) (by decide)

theorem fwConfirm_abort (hadmits : s.admitsWrite rq Obj.FW_CONFIRM data = true) (htrial : s.trialRuns = false) :
    ∃ t, exec (.fwConfirm rq data) s = .next t ∧ s.turnsAway t rq abortBusy :=
  hostWrite_command_abort hadmits (by decide +kernel) (if_neg (by simp [trialRuns_asked, htrial])) (by decide) (by decide)

theorem actFwActivate_abort {q : Request} (hq : q.arg = 1) (hverified : s.cop.verified = none) :
    actFwActivate q s = .abort s abortBusy := by
  simp [actFwActivate, hq, hverified]

theorem fwActivateNextReset_abort (hadmits : s.admitsWrite rq Obj.FW_ACTIVATE (natLE 1 1) = true)
    (hverified : s.cop.verified = none) :
    ∃ t, exec (.fwActivateNextReset rq) s = .next t ∧ s.turnsAway t rq abortBusy :=
  hostWrite_asked_abort hadmits (keptBits_firmware (by decide) (by decide))
    (actFwActivate_abort rfl (by rwa [asked_verified])) (by decide) (by decide)

end FirmwareFuses

/-- Settles O18: the agent that a request finds is the agent as it was but for its answers and rejections, so each
command acts on it as its action says; a fault log write puts the operation in progress at the head of those that wait. -/
theorem firmwareFusesAndTheFaultLog : Obligations.FirmwareFusesAndTheFaultLog :=
  ⟨fun _ _ _ => faultLogWrite_starts, fun _ _ _ _ => faultLogWrite_preempts, fun _ _ _ => fwRollbackCommit_clause,
    fun _ _ _ => fwKeyRevoke_done, fun _ _ _ => fwKeyRevoke_abort, fun _ _ _ => fwUpdateBegin_long,
    fun _ _ _ => fwConfirm_abort, fun _ _ => fwActivateNextReset_abort⟩

end Sys2Proof.Machine

end

section
/-! What the end of an operation of the boot flash leaves (15 R366, R370, R378 to R384, 12 R309). -/

namespace Sys2Proof.Machine

set_option Elab.async false

section FlashDone

open State.Within

variable {s t u w : State} {q : Request} {answer : Option Request} {ok : Bool} {code : Nat} {work : FlashWork}
  {a n : Nat} {data : Bytes}

/-! ### The end of an operation, and its answer (R378) -/

theorem countAbort_stores (s : State) (code : Nat) : (s.countAbort code).flash = s.flash ∧
    (s.countAbort code).mem = s.mem ∧ (s.countAbort code).fault = s.fault ∧ (s.countAbort code).cop = s.cop := by
  unfold State.countAbort
  split
  · simp
  · simp

/-- An answer touches neither the flash nor the memory nor the collector, and of the agent its answers alone. -/
theorem respond_stores (s : State) (q : Request) (code : Nat) : (s.respond q code 0 []).flash = s.flash ∧
    (s.respond q code 0 []).mem = s.mem ∧ (s.respond q code 0 []).fault = s.fault ∧
    (s.respond q code 0 []).cop.quiet = s.cop.quiet := by
  by_cases hcode : code = 0
  · subst hcode
    exact ⟨by simp, by simp, by simp, quiet_respond s q 0 []⟩
  · obtain ⟨r, hr⟩ := respond_eq_countAbort s q hcode
    obtain ⟨hflash, hmem, hfault, hcop⟩ := countAbort_stores s code
    rw [hr]
    simp [hflash, hmem, hfault, hcop, CopState.quiet]

/-- The request of an operation that is over is answered. -/
def answerJob (answer : Option Request) (code : Nat) (s : State) : State :=
  match answer with
  | some q => s.respond q code 0 []
  | none => s

/-- An operation is over, and its request is answered. -/
def finishJob (ok : Bool) (answer : Option Request) (code : Nat) (w : State) : State := answerJob answer code (endJob ok w)

/-- What an operation leaves, with the abort code of its answer. -/
def jobEffect (ok : Bool) (work : FlashWork) (s : State) : State × Nat := if ok then workDone work s else workFailed work s

/-- The objects that an answer with `code` counts in. -/
def answerObjs (code : Nat) : List Nat := if code = 0 then [] else [Obj.COP_ABORTS, Obj.COP_LAST_ABORT]

theorem answerJob_stores (answer : Option Request) (code : Nat) (s : State) : (answerJob answer code s).flash = s.flash ∧
    (answerJob answer code s).mem = s.mem ∧ (answerJob answer code s).fault = s.fault ∧
    (answerJob answer code s).cop.quiet = s.cop.quiet := by
  cases answer with
  | none => exact ⟨rfl, rfl, rfl, rfl⟩
  | some q => exact respond_stores s q code

theorem answerJob_within {parts : List Part} {objs : List Nat} (answer : Option Request) (s : State)
    (hawake : code ≠ abortAsleep) (hanswer : .answer ∈ parts) (hout : .out ∈ parts) (hobjs : ∀ o ∈ answerObjs code, o ∈ objs) :
    s.Within (eventFootprint parts objs) (answerJob answer code s) := by
  cases answer with
  | none => exact refl _ s
  | some q =>
    by_cases hcode : code = 0
    · subst hcode
      exact respond_zero_within s q 0 [] hanswer hout
    · have habort := respond_abort_within s q hcode
      rw [abortObjects, if_neg hawake] at habort
      rw [answerObjs, if_neg hcode] at hobjs
      refine habort.mono (fun p hp => ?_) (fun o ho => ?_) id (fun _ => id) id
      · simp only [abortFootprint, List.mem_cons, List.not_mem_nil, or_false] at hp
        obtain rfl | rfl := hp
        · exact hanswer
        · exact hout
      · exact List.contains_iff_mem.mpr (hobjs o (List.contains_iff_mem.mp ho))

/-- An operation that is over: the one that it pre-empted, if any, goes on. -/
theorem endJob_cop (ok : Bool) (w : State) :
    (endJob ok w).cop = { w.cop with flashJob := w.cop.flashPaused.head?, flashPaused := w.cop.flashPaused.tail } := by
  unfold endJob
  split
  next hpaused => simp [hpaused]
  next hpaused => simp [hpaused]

theorem endJob_stores (ok : Bool) (w : State) :
    (endJob ok w).flash = w.flash ∧ (endJob ok w).mem = w.mem ∧ (endJob ok w).fault = w.fault := by
  unfold endJob
  split
  · exact ⟨rfl, rfl, rfl⟩
  · exact ⟨by simp, by simp, by simp⟩

theorem endJob_state (ok : Bool) (hpaused : w.cop.flashPaused = []) :
    (endJob ok w).reg Obj.FLASH_STATE = if ok then 0 else 2 := by
  have hset : ∀ v, (w.setReg Obj.FLASH_STATE v).reg Obj.FLASH_STATE = v := fun v => by simp
  have hend : (endJob ok w).reg = (w.setReg Obj.FLASH_STATE (if ok then 0 else 2)).reg := by
    unfold endJob
    rw [hpaused]
    rfl
  rw [hend]
  exact hset _

theorem endJob_within (ok : Bool) (w : State) : w.Within (eventFootprint [.cop] [Obj.FLASH_STATE]) (endJob ok w) := by
  unfold endJob
  split
  · exact (refl _ w).of_fields (cop := .inl (by decide))
  · exact ((refl _ w).setReg Obj.FLASH_STATE _ (by decide)).of_fields (cop := .inl (by decide))

/-- What the end of an operation and its answer keep of the state `w` that its effect has left. -/
structure State.FinishedAs (w t : State) (code : Nat) : Prop where
  flash : t.flash = w.flash
  mem : t.mem = w.mem
  waiting : t.fault.waiting = w.fault.waiting
  keys : t.cop.keys = w.cop.keys
  record : t.cop.record = w.cop.record
  verified : t.cop.verified = w.cop.verified
  reg : ∀ o, o ≠ Obj.FLASH_STATE → o ∉ answerObjs code → t.reg o = w.reg o

theorem finishJob_within (ok : Bool) (answer : Option Request) (w : State) (hawake : code ≠ abortAsleep) :
    w.Within (eventFootprint [.cop, .answer, .out] (Obj.FLASH_STATE :: answerObjs code)) (finishJob ok answer code w) :=
  have hend : w.Within (eventFootprint [.cop, .answer, .out] (Obj.FLASH_STATE :: answerObjs code)) (endJob ok w) :=
    (endJob_within ok w).widen (by decide) (by simp)
  hend.trans (answerJob_within answer (endJob ok w) hawake (by decide) (by decide) fun _ => List.mem_cons_of_mem _)

/-- What an operation that is over leaves of the agent. -/
theorem finishJob_cop (ok : Bool) (answer : Option Request) (code : Nat) (w : State) :
    (finishJob ok answer code w).cop.quiet =
      { w.cop.quiet with flashJob := w.cop.flashPaused.head?, flashPaused := w.cop.flashPaused.tail } := by
  obtain ⟨-, -, -, hanswered⟩ := answerJob_stores answer code (endJob ok w)
  have hended := congrArg CopState.quiet (endJob_cop ok w)
  exact hanswered.trans hended

theorem settle_quiet (s : State) : (settle s).cop.quiet = s.cop.quiet := by
  simp only [settle_frame]

theorem settle_waiting (s : State) : (settle s).fault.waiting = s.fault.waiting := rfl

theorem finishJob_finishedAs (ok : Bool) (answer : Option Request) (w : State) (hawake : code ≠ abortAsleep) :
    w.FinishedAs (settle (finishJob ok answer code w)) code := by
  obtain ⟨hflash, hmem, hfault, -⟩ := answerJob_stores answer code (endJob ok w)
  obtain ⟨hflash1, hmem1, hfault1⟩ := endJob_stores ok w
  have hcop := (settle_quiet _).trans (finishJob_cop ok answer code w)
  have hkeys := congrArg CopState.keys hcop
  have hrecord := congrArg CopState.record hcop
  have hverified := congrArg CopState.verified hcop
  have hwithin := finishJob_within ok answer w hawake
  refine ⟨?_, ?_, ?_, hkeys, hrecord, hverified, fun o ho ha => ?_⟩
  · simp only [settle_frame]
    exact hflash.trans hflash1
  · simp only [settle_frame]
    exact hmem.trans hmem1
  · rw [settle_waiting]
    exact congrArg FaultState.waiting (hfault.trans hfault1)
  · simp only [settle_frame]
    exact hwithin.obj o 0 (by simp [eventFootprint, ho, ha]) (by decide)

/-- The operation has ended, if its effect has left the answers and the operations that wait (R378). -/
theorem finishJob_jobEnded (ok : Bool) (answer : Option Request) (hresponses : w.cop.responses = s.cop.responses)
    (hpaused : w.cop.flashPaused = s.cop.flashPaused) (hawake : code ≠ abortAsleep) :
    s.jobEnded (settle (finishJob ok answer code w)) answer ok code := by
  have hcop := (settle_quiet _).trans (finishJob_cop ok answer code w)
  have hjob := congrArg CopState.flashJob hcop
  have hrest := congrArg CopState.flashPaused hcop
  rw [State.jobEnded, ← hpaused]
  refine ⟨hjob, hrest, fun hnone => ?_, ?_, fun hnone => ?_⟩
  · have hanswer := answerJob_within (parts := [.answer, .out]) (objs := answerObjs code) answer (endJob ok w) hawake
      (by decide) (by decide) fun _ => id
    have hstate : (finishJob ok answer code w).reg Obj.FLASH_STATE = (endJob ok w).reg Obj.FLASH_STATE :=
      hanswer.obj Obj.FLASH_STATE 0 (by unfold answerObjs; split <;> decide) (by decide)
    simp only [settle_frame]
    exact hstate.trans (endJob_state ok hnone)
  · cases answer with
    | none => rfl
    | some q => exact State.respond_answered _ _ _ _ _
  · subst hnone
    have hkept := congrArg CopState.responses (endJob_cop ok w)
    simp only [settle_frame]
    exact hkept.trans hresponses

theorem finishJob_frame {parts : List Part} {objs : List Nat} (ok : Bool) (answer : Option Request)
    (hw : s.Within (eventFootprint parts objs) w) (hawake : code ≠ abortAsleep)
    (hparts : ∀ p ∈ [Part.cop, .answer, .out], p ∈ parts) (hobjs : ∀ o ∈ Obj.FLASH_STATE :: answerObjs code, o ∈ objs) :
    s.frame (settle (finishJob ok answer code w)) parts objs [] :=
  (hw.trans ((finishJob_within ok answer w hawake).widen hparts hobjs)).eventFrame

/-! ### FLASH_WRITE_COMPLETE and CAL_FLASH_COMPLETE -/

theorem completeJob_eq (ok : Bool) (answer : Option Request) (s : State) (hload : work ≠ .evacLoad) :
    completeJob ok { work := work, answer := answer } s =
      finishJob ok answer (jobEffect ok work s).2 (jobEffect ok work s).1 := if_neg hload

theorem flashBusy_of_job (hjob : s.cop.flashJob = some { work := work, answer := answer }) (cal : Bool) :
    s.flashBusy cal = (work.isCal == cal) := by
  simp [State.flashBusy, hjob]

theorem flashComplete_job (hjob : s.cop.flashJob = some { work := work, answer := answer }) (hload : work ≠ .evacLoad) :
    flashComplete ok s = finishJob ok answer (jobEffect ok work s).2 (jobEffect ok work s).1 := by
  rw [flashComplete, hjob]
  exact completeJob_eq ok answer s hload

theorem flashWriteDone_job (hjob : s.cop.flashJob = some { work := work, answer := answer }) (hload : work ≠ .evacLoad)
    (hreset : ok = true → ∀ slot, work ≠ .activate slot true) :
    flashWriteDone ok s = finishJob ok answer (jobEffect ok work s).2 (jobEffect ok work s).1 := by
  unfold flashWriteDone
  split
  next slot q hnow =>
    obtain ⟨rfl, rfl⟩ : FlashWork.activate slot true = work ∧ q = answer := by simpa [hnow] using hjob
    cases ok with
    | true => exact absurd rfl (hreset rfl slot)
    | false => exact completeJob_eq false q s hload
  next => exact flashComplete_job hjob hload

/-- The end of an operation, and what it keeps of its effect. -/
theorem finishJob_clause {c : Instr} {parts : List Part} {objs : List Nat}
    (hexec : exec c s = .next (settle (finishJob ok answer code w))) (hresponses : w.cop.responses = s.cop.responses)
    (hpaused : w.cop.flashPaused = s.cop.flashPaused) (hawake : code ≠ abortAsleep)
    (hw : s.Within (eventFootprint parts objs) w) (hparts : ∀ p ∈ [Part.cop, .answer, .out], p ∈ parts)
    (hobjs : ∀ o ∈ Obj.FLASH_STATE :: answerObjs code, o ∈ objs) :
    ∃ t, exec c s = .next t ∧ w.FinishedAs t code ∧ s.jobEnded t answer ok code ∧ s.frame t parts objs [] :=
  ⟨_, hexec, finishJob_finishedAs ok answer w hawake, finishJob_jobEnded ok answer hresponses hpaused hawake,
    finishJob_frame ok answer hw hawake hparts hobjs⟩

theorem flashWriteComplete_next (hacts : s.acts 6 = true) (hjob : s.cop.flashJob = some { work := work, answer := answer })
    (heffect : jobEffect ok work s = (w, code)) (hcal : work.isCal = false) (hload : work ≠ .evacLoad)
    (hreset : ok = true → ∀ slot, work ≠ .activate slot true) :
    exec (.flashWriteComplete ok) s = .next (settle (finishJob ok answer code w)) := by
  have hbusy : s.flashBusy false = true := by rw [flashBusy_of_job hjob, hcal]; rfl
  have hexec : exec (.flashWriteComplete ok) s = .next (settle (flashWriteDone ok s)) :=
    onIslandIf_acts s (flashWriteDone ok) (fun s => s.flashBusy false) 6 hacts hbusy
  rw [hexec, flashWriteDone_job hjob hload hreset, heffect]

theorem calFlashComplete_next (hacts : s.acts 6 = true) (hjob : s.cop.flashJob = some { work := work, answer := answer })
    (heffect : jobEffect ok work s = (w, code)) (hcal : work.isCal = true) :
    exec (.calFlashComplete ok) s = .next (settle (finishJob ok answer code w)) := by
  have hload : work ≠ .evacLoad := by
    rintro rfl
    cases hcal
  have hbusy : s.flashBusy true = true := by rw [flashBusy_of_job hjob, hcal]; rfl
  have hexec : exec (.calFlashComplete ok) s = .next (settle (flashComplete ok s)) :=
    onIslandIf_acts s (flashComplete ok) (fun s => s.flashBusy true) 6 hacts hbusy
  rw [hexec, flashComplete_job hjob hload, heffect]

/-- The end of an operation that succeeds. -/
theorem flashWrite_done {parts : List Part} {objs : List Nat} (hacts : s.acts 6 = true)
    (hjob : s.cop.flashJob = some { work := work, answer := answer }) (heffect : workDone work s = (w, code))
    (hw : s.Within (eventFootprint parts objs) w) (hresponses : w.cop.responses = s.cop.responses := by rfl)
    (hpaused : w.cop.flashPaused = s.cop.flashPaused := by rfl) (hcal : work.isCal = false := by rfl)
    (hload : work ≠ .evacLoad := by nofun) (hreset : ∀ slot, work ≠ .activate slot true := by nofun)
    (hawake : code ≠ abortAsleep := by decide) (hparts : ∀ p ∈ [Part.cop, .answer, .out], p ∈ parts := by decide)
    (hobjs : ∀ o ∈ Obj.FLASH_STATE :: answerObjs code, o ∈ objs := by decide) :
    ∃ t, exec (.flashWriteComplete true) s = .next t ∧ w.FinishedAs t code ∧ s.jobEnded t answer true code ∧
      s.frame t parts objs [] :=
  have hdone : jobEffect true work s = (w, code) := heffect
  finishJob_clause (flashWriteComplete_next hacts hjob hdone hcal hload fun _ => hreset) hresponses hpaused hawake hw
    hparts hobjs

/-! ### Keys and settings (R366, R370) -/

theorem key_clause {role v : Nat} (hacts : s.acts 6 = true)
    (hjob : s.cop.flashJob = some { work := .key role v, answer := answer }) :
    ∃ t, exec (.flashWriteComplete true) s = .next t ∧ t.cop.keys = s.cop.keys.withKey role v ∧
      t.cop.record = s.cop.record.withKey role v ∧ s.jobEnded t answer true 0 ∧
      s.frame t [.cop, .answer, .out] [Obj.FLASH_STATE] [] := by
  have hw : s.Within (eventFootprint [.cop, .answer, .out] [Obj.FLASH_STATE]) (workDone (.key role v) s).1 :=
    (refl _ s).of_fields (cop := .inl (by decide))
  obtain ⟨t, hexec, hleft, hended, hframe⟩ := flashWrite_done hacts hjob rfl hw
  exact ⟨t, hexec, hleft.keys, hleft.record, hended, hframe⟩

theorem t1s_clause {sub v : Nat} (hacts : s.acts 6 = true)
    (hjob : s.cop.flashJob = some { work := .t1s sub v, answer := answer }) :
    ∃ t, exec (.flashWriteComplete true) s = .next t ∧ t.cop.keys = s.cop.keys ∧
      t.cop.record = s.cop.record.withT1s sub v ∧ s.jobEnded t answer true 0 ∧
      s.frame t [.cop, .answer, .out] [Obj.FLASH_STATE] [] := by
  have hw : s.Within (eventFootprint [.cop, .answer, .out] [Obj.FLASH_STATE]) (workDone (.t1s sub v) s).1 :=
    (refl _ s).of_fields (cop := .inl (by decide))
  obtain ⟨t, hexec, hleft, hended, hframe⟩ := flashWrite_done hacts hjob rfl hw
  exact ⟨t, hexec, hleft.keys, hleft.record, hended, hframe⟩

/-! ### Bytes of the flash (R378, Table 6) -/

theorem flashBytes_of_program (h : t.flash = (w.programFlash a data).flash) : t.flashBytes a data.length = data := by
  rw [State.flashBytes, h]
  exact Sparse.getList_setList flashDefault data w.flash a

theorem get_of_program (h : t.flash = (w.programFlash a data).flash) {b : Nat} (hb : b < a ∨ a + data.length ≤ b) :
    Sparse.get flashDefault t.flash b = Sparse.get flashDefault w.flash b := by
  rw [h]
  exact (Sparse.get_setList flashDefault data w.flash a b).trans (dif_neg (by omega))

theorem get_of_erase (h : t.flash = (w.eraseFlash a n).flash) (b : Nat) :
    Sparse.get flashDefault t.flash b = if a ≤ b ∧ b < a + n then 0xFF#8 else Sparse.get flashDefault w.flash b := by
  rw [h]
  exact Sparse.get_clear flashDefault w.flash a (a + n) b

theorem programFlash_within (a : Nat) (data : Bytes) (s : State) :
    s.Within (eventFootprint [.flash] []) (s.programFlash a data) := (refl _ s).of_fields (flash := .inl (by decide))

theorem programFlash_cop (a : Nat) (data : Bytes) (s : State) : (s.programFlash a data).cop = s.cop := rfl

theorem eraseFlash_within (a n : Nat) (s : State) : s.Within (eventFootprint [.flash] []) (s.eraseFlash a n) :=
  (refl _ s).of_fields (flash := .inl (by decide))

theorem setSlotState_within (slot v : Nat) (s : State) :
    s.Within (eventFootprint [] [Obj.FW_SLOT_STATES]) (setSlotState slot v s) :=
  (refl _ s).setReg Obj.FW_SLOT_STATES _ (by decide)

theorem identity_clause {data : Bytes} (hacts : s.acts 6 = true)
    (hjob : s.cop.flashJob = some { work := .identity data, answer := answer }) :
    ∃ t, exec (.flashWriteComplete true) s = .next t ∧ t.flashBytes 0x20000 data.length = data ∧
      (∀ a, a < 0x20000 ∨ 0x20000 + data.length ≤ a →
        Sparse.get flashDefault t.flash a = Sparse.get flashDefault s.flash a) ∧
      s.jobEnded t answer true 0 ∧ s.frame t [.cop, .flash, .answer, .out] [Obj.FLASH_STATE] [] := by
  have hw : s.Within (eventFootprint [.cop, .flash, .answer, .out] [Obj.FLASH_STATE]) (s.programFlash 0x20000 data) :=
    (programFlash_within _ _ s).widen
  obtain ⟨t, hexec, hleft, hended, hframe⟩ := flashWrite_done hacts hjob rfl hw
  exact ⟨t, hexec, flashBytes_of_program hleft.flash, fun _ => get_of_program hleft.flash, hended, hframe⟩

/-! ### Slots (R382) -/

theorem program_clause {slot o : Nat} {data : Bytes} (hacts : s.acts 6 = true)
    (hjob : s.cop.flashJob = some { work := .program slot o data, answer := answer }) :
    ∃ t, exec (.flashWriteComplete true) s = .next t ∧ t.flashBytes (slotBase slot + o) data.length = data ∧
      (∀ a, a < slotBase slot + o ∨ slotBase slot + o + data.length ≤ a →
        Sparse.get flashDefault t.flash a = Sparse.get flashDefault s.flash a) ∧
      s.jobEnded t answer true 0 ∧
      s.frame t [.cop, .flash, .answer, .out] [Obj.FLASH_STATE, Obj.FW_SLOT_STATES] [] := by
  have hw : s.Within (eventFootprint [.cop, .flash, .answer, .out] [Obj.FLASH_STATE, Obj.FW_SLOT_STATES])
      (setSlotState slot 2 (s.programFlash (slotBase slot + o) data)) :=
    (programFlash_within _ _ s).widen.trans (setSlotState_within slot 2 _).widen
  obtain ⟨t, hexec, hleft, hended, hframe⟩ := flashWrite_done hacts hjob rfl hw
  exact ⟨t, hexec, flashBytes_of_program hleft.flash, fun _ => get_of_program hleft.flash, hended, hframe⟩

theorem eraseSlot_clause {slot : Nat} (hacts : s.acts 6 = true)
    (hjob : s.cop.flashJob = some { work := .eraseSlot slot, answer := answer }) :
    ∃ t, exec (.flashWriteComplete true) s = .next t ∧
      (∀ a, Sparse.get flashDefault t.flash a =
        if slotBase slot ≤ a ∧ a < slotEnd slot then 0xFF#8 else Sparse.get flashDefault s.flash a) ∧
      s.jobEnded t answer true 0 ∧
      s.frame t [.cop, .flash, .answer, .out] [Obj.FLASH_STATE, Obj.FW_SLOT_STATES] [] := by
  have hw : s.Within (eventFootprint [.cop, .flash, .answer, .out] [Obj.FLASH_STATE, Obj.FW_SLOT_STATES])
      (setSlotState slot 0 (s.eraseFlash (slotBase slot) slotSize)) :=
    (eraseFlash_within _ _ s).widen.trans (setSlotState_within slot 0 _).widen
  obtain ⟨t, hexec, hleft, hended, hframe⟩ := flashWrite_done hacts hjob rfl hw
  exact ⟨t, hexec, get_of_erase hleft.flash, hended, hframe⟩

/-- The check of a slot that passes. -/
def slotVerified (slot : Nat) (s : State) : State := setSlotState slot 1 { s with cop := { s.cop with verified := some slot } }

theorem verify_passes {slot : Nat} (hacts : s.acts 6 = true)
    (hjob : s.cop.flashJob = some { work := .verify slot, answer := answer }) (himage : s.imageOk slot = true) :
    ∃ t, exec (.flashWriteComplete true) s = .next t ∧ t.cop.verified = some slot ∧ s.jobEnded t answer true 0 ∧
      s.frame t [.cop, .answer, .out]
        [Obj.FLASH_STATE, Obj.FW_SLOT_STATES, Obj.COP_ABORTS, Obj.COP_LAST_ABORT] [] := by
  have heffect : workDone (.verify slot) s = (slotVerified slot s, 0) := if_pos himage
  have hw : s.Within (eventFootprint [.cop, .answer, .out]
      [Obj.FLASH_STATE, Obj.FW_SLOT_STATES, Obj.COP_ABORTS, Obj.COP_LAST_ABORT]) (slotVerified slot s) :=
    ((refl _ s).of_fields (cop := .inl (by decide))).trans (setSlotState_within slot 1 _).widen
  obtain ⟨t, hexec, hleft, hended, hframe⟩ := flashWrite_done hacts hjob heffect hw
  exact ⟨t, hexec, hleft.verified, hended, hframe⟩

theorem verify_fails {slot : Nat} (hacts : s.acts 6 = true)
    (hjob : s.cop.flashJob = some { work := .verify slot, answer := answer }) (himage : s.imageOk slot = false) :
    ∃ t, exec (.flashWriteComplete true) s = .next t ∧ t.cop.verified = s.cop.verified ∧
      s.jobEnded t answer true abortImage ∧
      s.frame t [.cop, .answer, .out]
        [Obj.FLASH_STATE, Obj.FW_SLOT_STATES, Obj.COP_ABORTS, Obj.COP_LAST_ABORT] [] := by
  have heffect : workDone (.verify slot) s = (setSlotState slot 2 s, abortImage) := if_neg (by simp [himage])
  have hw : s.Within (eventFootprint [.cop, .answer, .out]
      [Obj.FLASH_STATE, Obj.FW_SLOT_STATES, Obj.COP_ABORTS, Obj.COP_LAST_ABORT]) (setSlotState slot 2 s) :=
    (setSlotState_within slot 2 s).widen
  obtain ⟨t, hexec, hleft, hended, hframe⟩ := flashWrite_done hacts hjob heffect hw
  exact ⟨t, hexec, hleft.verified, hended, hframe⟩

theorem verify_clause {slot : Nat} (hacts : s.acts 6 = true)
    (hjob : s.cop.flashJob = some { work := .verify slot, answer := answer }) :
    ∃ t, exec (.flashWriteComplete true) s = .next t ∧
      (s.imageOk slot = true → t.cop.verified = some slot ∧ s.jobEnded t answer true 0) ∧
      (s.imageOk slot = false → t.cop.verified = s.cop.verified ∧ s.jobEnded t answer true abortImage) ∧
      s.frame t [.cop, .answer, .out]
        [Obj.FLASH_STATE, Obj.FW_SLOT_STATES, Obj.COP_ABORTS, Obj.COP_LAST_ABORT] [] := by
  cases himage : s.imageOk slot with
  | true =>
    obtain ⟨t, hexec, hverified, hended, hframe⟩ := verify_passes hacts hjob himage
    exact ⟨t, hexec, fun _ => ⟨hverified, hended⟩, nofun, hframe⟩
  | false =>
    obtain ⟨t, hexec, hverified, hended, hframe⟩ := verify_fails hacts hjob himage
    exact ⟨t, hexec, nofun, fun _ => ⟨hverified, hended⟩, hframe⟩

/-! ### The boot record (R379, R382) -/

theorem writeBoot_within (r : BootRecord) (s : State) : s.Within (eventFootprint [.flash] []) (writeBoot r s) :=
  (eraseFlash_within _ _ s).trans (programFlash_within _ _ _)

theorem length_bootRecord (r : BootRecord) : r.bytes.length = 16 := by
  simp [BootRecord.bytes]

/-- A boot record is written in one of two copies, which share the first 64 KiB of the flash. -/
theorem get_writeBoot (r : BootRecord) (s : State) {b : Nat} (hb : 0x10000 ≤ b) :
    Sparse.get flashDefault (writeBoot r s).flash b = Sparse.get flashDefault s.flash b := by
  obtain ⟨c, hc, hwrite⟩ : ∃ c, c ≤ 1 ∧ writeBoot r s =
      (s.eraseFlash (0x8000 * c) 4096).programFlash (0x8000 * c) { r with seq := s.bootRecord.seq + 1 }.bytes :=
    ⟨_, by split <;> decide, rfl⟩
  have hprogram := get_of_program (congrArg State.flash hwrite) (b := b) (.inr (by rw [length_bootRecord]; omega))
  rw [hprogram, get_of_erase rfl, if_neg (by omega)]

theorem activateNext_clause {slot : Nat} (hacts : s.acts 6 = true)
    (hjob : s.cop.flashJob = some { work := .activate slot false, answer := answer }) :
    ∃ t, exec (.flashWriteComplete true) s = .next t ∧
      (∀ a, 0x10000 ≤ a → Sparse.get flashDefault t.flash a = Sparse.get flashDefault s.flash a) ∧
      t.flash = (writeBoot { s.bootRecord with trial := slot, started := 0 } s).flash ∧
      s.jobEnded t answer true 0 ∧
      s.frame t [.cop, .flash, .answer, .out] [Obj.FLASH_STATE, Obj.FW_SLOT_STATES] [] := by
  have hw : s.Within (eventFootprint [.cop, .flash, .answer, .out] [Obj.FLASH_STATE, Obj.FW_SLOT_STATES])
      (setSlotState slot 3 (writeBoot { s.bootRecord with trial := slot, started := 0 } s)) :=
    (writeBoot_within _ s).widen.trans (setSlotState_within slot 3 _).widen
  obtain ⟨t, hexec, hleft, hended, hframe⟩ := flashWrite_done hacts hjob rfl hw
  refine ⟨t, hexec, fun a ha => ?_, hleft.flash, hended, hframe⟩
  rw [hleft.flash]
  exact get_writeBoot _ s ha

theorem confirm_clause (hacts : s.acts 6 = true) (hjob : s.cop.flashJob = some { work := .confirm, answer := answer }) :
    ∃ t, exec (.flashWriteComplete true) s = .next t ∧
      t.flash = (writeBoot { s.bootRecord with active := s.bootRecord.trial, trial := 0xFF, started := 0 } s).flash ∧
      s.jobEnded t answer true 0 ∧
      s.frame t [.cop, .flash, .answer, .out] [Obj.FLASH_STATE, Obj.FW_SLOT_STATES] [] := by
  have hw : s.Within (eventFootprint [.cop, .flash, .answer, .out] [Obj.FLASH_STATE, Obj.FW_SLOT_STATES])
      (setSlotState s.bootRecord.trial 1
        (writeBoot { s.bootRecord with active := s.bootRecord.trial, trial := 0xFF, started := 0 } s)) :=
    (writeBoot_within _ s).widen.trans (setSlotState_within _ 1 _).widen
  obtain ⟨t, hexec, hleft, hended, hframe⟩ := flashWrite_done hacts hjob rfl hw
  exact ⟨t, hexec, hleft.flash, hended, hframe⟩

/-! ### The fault log and the evacuation image (R383, 12 R309) -/

theorem length_faultRecord (s : State) (reason : Nat) : (s.faultRecord reason).length = 64 := by
  simp [State.faultRecord, maskBytes]

/-- The sector of a record, erased when it is reached. -/
def sectorReached (n : Nat) (s : State) : State := if n % 64 = 0 then s.eraseFlash (0x30000 + 64 * n) 4096 else s

/-- A record stands at `n`, and the next one goes behind it. -/
def logWritten (n : Nat) (record : Bytes) (s : State) : State :=
  ((sectorReached n s).programFlash (0x30000 + 64 * n) record).setReg Obj.FAULT_LOG_NEXT ((n + 1) % 3072)

theorem sectorReached_within (n : Nat) (s : State) : s.Within (eventFootprint [.flash] []) (sectorReached n s) := by
  unfold sectorReached
  split
  · exact eraseFlash_within _ _ s
  · exact refl _ s

theorem sectorReached_cop (n : Nat) (s : State) : (sectorReached n s).cop = s.cop := by
  unfold sectorReached
  split
  · rfl
  · rfl

theorem logWritten_keeps (n : Nat) (record : Bytes) (s : State) : (logWritten n record s).cop = s.cop ∧
    (logWritten n record s).flash = ((sectorReached n s).programFlash (0x30000 + 64 * n) record).flash ∧
    (logWritten n record s).reg Obj.FAULT_LOG_NEXT = (n + 1) % 3072 := by
  refine ⟨?_, ?_, ?_⟩
  · simp only [logWritten, State.setReg_frame, programFlash_cop, sectorReached_cop]
  · simp only [logWritten, State.setReg_frame]
  · have hset : ∀ (w : State) (v : Nat), (w.setReg Obj.FAULT_LOG_NEXT v).reg Obj.FAULT_LOG_NEXT = v := fun w v => by simp
    exact hset _ _

theorem logWritten_within (n : Nat) (record : Bytes) (s : State) :
    s.Within (eventFootprint [.cop, .flash, .answer, .out] [Obj.FLASH_STATE, Obj.FAULT_LOG_NEXT])
      (logWritten n record s) := by
  have hsector := (sectorReached_within n s).trans (programFlash_within (0x30000 + 64 * n) record _)
  exact State.Within.setReg hsector.widen Obj.FAULT_LOG_NEXT _ (by decide)

theorem faultLog_clause {reason : Nat} (hacts : s.acts 6 = true)
    (hjob : s.cop.flashJob = some { work := .faultLog reason, answer := answer }) :
    ∃ t, exec (.flashWriteComplete true) s = .next t ∧
      t.flashBytes (0x30000 + 64 * (s.reg Obj.FAULT_LOG_NEXT % 3072)) 64 = s.faultRecord reason ∧
      t.reg Obj.FAULT_LOG_NEXT = (s.reg Obj.FAULT_LOG_NEXT % 3072 + 1) % 3072 ∧ s.jobEnded t answer true 0 ∧
      s.frame t [.cop, .flash, .answer, .out] [Obj.FLASH_STATE, Obj.FAULT_LOG_NEXT] [] := by
  have hlength := length_faultRecord s reason
  have heffect : workDone (.faultLog reason) s =
      (logWritten (s.reg Obj.FAULT_LOG_NEXT % 3072) (s.faultRecord reason) s, 0) := rfl
  generalize s.reg Obj.FAULT_LOG_NEXT % 3072 = n at heffect ⊢
  generalize s.faultRecord reason = record at heffect hlength ⊢
  obtain ⟨hcop, hflash, hnext⟩ := logWritten_keeps n record s
  obtain ⟨t, hexec, hleft, hended, hframe⟩ := flashWrite_done hacts hjob heffect (logWritten_within n record s)
    (congrArg CopState.responses hcop) (congrArg CopState.flashPaused hcop)
  have hbytes := flashBytes_of_program (hleft.flash.trans hflash)
  rw [hlength] at hbytes
  exact ⟨t, hexec, hbytes, (hleft.reg _ (by decide) (by decide)).trans hnext, hended, hframe⟩

/-- The bytes of an image stand in its area, and it is saved. -/
def imageWritten (image : Bytes) (s : State) : State := (s.programFlash evacArea image).setReg Obj.EVAC_IMAGE_STATE 1

theorem imageWritten_within (image : Bytes) (s : State) :
    s.Within (eventFootprint [.cop, .flash, .answer, .out] [Obj.FLASH_STATE, Obj.EVAC_IMAGE_STATE]) (imageWritten image s) :=
  (programFlash_within _ _ s).widen.setReg _ _ (by decide)

theorem imageWritten_keeps (image : Bytes) (s : State) :
    (imageWritten image s).cop = s.cop ∧ (imageWritten image s).flash = (s.programFlash evacArea image).flash ∧
      (imageWritten image s).reg Obj.EVAC_IMAGE_STATE = 1 := by
  refine ⟨?_, ?_, ?_⟩
  · simp only [imageWritten, State.setReg_frame, programFlash_cop]
  · simp only [imageWritten, State.setReg_frame]
  · simp [imageWritten]

theorem evacSave_clause (hacts : s.acts 6 = true) (hjob : s.cop.flashJob = some { work := .evacSave, answer := answer }) :
    ∃ t, exec (.flashWriteComplete true) s = .next t ∧ t.reg Obj.EVAC_IMAGE_STATE = 1 ∧
      t.flash = (s.programFlash evacArea (s.beaconBytes 0 0x100000)).flash ∧
      s.jobEnded t answer true 0 ∧
      s.frame t [.cop, .flash, .answer, .out] [Obj.FLASH_STATE, Obj.EVAC_IMAGE_STATE] [] := by
  have heffect : workDone .evacSave s = (imageWritten (s.beaconBytes 0 0x100000) s, 0) := rfl
  generalize s.beaconBytes 0 0x100000 = image at heffect ⊢
  obtain ⟨hcop, hflash, hstate⟩ := imageWritten_keeps image s
  obtain ⟨t, hexec, hleft, hended, hframe⟩ := flashWrite_done hacts hjob heffect (imageWritten_within image s)
    (congrArg CopState.responses hcop) (congrArg CopState.flashPaused hcop)
  exact ⟨t, hexec, (hleft.reg _ (by decide) (by decide)).trans hstate, hleft.flash.trans hflash, hended, hframe⟩

/-! ### An operation that fails (R378, 13 R332) -/

/-- What an operation of FLASH_WRITE_COMPLETE that failed leaves: its source pulses, and a save says that it failed. -/
theorem workFailed_cases (work : FlashWork) (s : State) (hcal : work.isCal = false) :
    work = .evacSave ∧ workFailed work s = ((s.occur 20).setReg Obj.EVAC_IMAGE_STATE 3, abortFlash) ∨
      work ≠ .evacSave ∧ workFailed work s = (s.occur 20, abortFlash) := by
  cases work
  case evacSave => exact .inl ⟨rfl, rfl⟩
  case calSave | calLoad => cases hcal
  all_goals exact .inr ⟨nofun, rfl⟩

theorem waiting_occur (s : State) (n : Nat) : 0 < Sparse.get (fun _ => 0) (s.occur n).fault.waiting n := by
  simp [State.occur]

/-- The parts and objects that an operation of FLASH_WRITE_COMPLETE that failed may touch. -/
def failedFootprint : Footprint := eventFootprint [.cop, .fault, .answer, .out]
  [Obj.FLASH_STATE, Obj.EVAC_IMAGE_STATE, Obj.COP_ABORTS, Obj.COP_LAST_ABORT]

theorem flashWrite_failed (hacts : s.acts 6 = true) (hjob : s.cop.flashJob = some { work := work, answer := answer })
    (hcal : work.isCal = false) (hload : work ≠ .evacLoad) (hfailed : workFailed work s = (w, abortFlash))
    (hw : s.Within failedFootprint w) (hcop : w.cop = s.cop) (hfault : w.fault = (s.occur 20).fault) :
    ∃ t, exec (.flashWriteComplete false) s = .next t ∧ w.FinishedAs t abortFlash ∧ t.cop.keys = s.cop.keys ∧
      t.cop.record = s.cop.record ∧ t.cop.verified = s.cop.verified ∧ 0 < Sparse.get (fun _ => 0) t.fault.waiting 20 ∧
      s.jobEnded t answer false abortFlash ∧
      s.frame t [.cop, .fault, .answer, .out]
        [Obj.FLASH_STATE, Obj.EVAC_IMAGE_STATE, Obj.COP_ABORTS, Obj.COP_LAST_ABORT] [] := by
  have heffect : jobEffect false work s = (w, abortFlash) := hfailed
  obtain ⟨t, hexec, hleft, hended, hframe⟩ := finishJob_clause
    (flashWriteComplete_next hacts hjob heffect hcal hload fun h => absurd h (by decide)) (congrArg CopState.responses hcop)
    (congrArg CopState.flashPaused hcop) (by decide) hw (by decide) (by decide)
  refine ⟨t, hexec, hleft, hleft.keys.trans (congrArg CopState.keys hcop),
    hleft.record.trans (congrArg CopState.record hcop), hleft.verified.trans (congrArg CopState.verified hcop), ?_, hended,
    hframe⟩
  rw [hleft.waiting, hfault]
  exact waiting_occur s 20

theorem workFailed_clause (hacts : s.acts 6 = true) (hjob : s.cop.flashJob = some { work := work, answer := answer })
    (hcal : work.isCal = false) (hload : work ≠ .evacLoad) :
    ∃ t, exec (.flashWriteComplete false) s = .next t ∧ t.cop.keys = s.cop.keys ∧ t.cop.record = s.cop.record ∧
      t.cop.verified = s.cop.verified ∧ 0 < Sparse.get (fun _ => 0) t.fault.waiting 20 ∧
      (work = .evacSave → t.reg Obj.EVAC_IMAGE_STATE = 3) ∧ s.jobEnded t answer false abortFlash ∧
      s.frame t [.cop, .fault, .answer, .out]
        [Obj.FLASH_STATE, Obj.EVAC_IMAGE_STATE, Obj.COP_ABORTS, Obj.COP_LAST_ABORT] [] := by
  have hoccur : s.Within failedFootprint (s.occur 20) := (refl _ s).occur 20
  have hset : ∀ w : State, (w.setReg Obj.EVAC_IMAGE_STATE 3).reg Obj.EVAC_IMAGE_STATE = 3 := fun w => by simp
  obtain ⟨-, hfailed⟩ | ⟨hother, hfailed⟩ := workFailed_cases work s hcal
  · obtain ⟨t, hexec, hleft, hkeys, hrecord, hverified, hwaiting, hended, hframe⟩ := flashWrite_failed hacts hjob hcal
      hload hfailed (hoccur.setReg Obj.EVAC_IMAGE_STATE 3 (by decide)) rfl rfl
    exact ⟨t, hexec, hkeys, hrecord, hverified, hwaiting,
      fun _ => (hleft.reg _ (by decide) (by decide)).trans (hset _), hended, hframe⟩
  · obtain ⟨t, hexec, -, hkeys, hrecord, hverified, hwaiting, hended, hframe⟩ := flashWrite_failed hacts hjob hcal
      hload hfailed hoccur rfl rfl
    exact ⟨t, hexec, hkeys, hrecord, hverified, hwaiting, fun h => absurd h hother, hended, hframe⟩

/-! ### What leaves before a reset, and the reset, leave the flash (R382 step 4) -/

/-- A fold keeps what each of its steps keeps. -/
theorem kept_foldl {α β : Type} (kept : State → β) {f : State → α → State} (h : ∀ t x, kept (f t x) = kept t) (l : List α)
    (s : State) : kept (l.foldl f s) = kept s := by
  induction l generalizing s with
  | nil => rfl
  | cons x l ih => exact (ih (f s x)).trans (h s x)

theorem setStream_flash (s : State) (p : Port) (x : PortStream) : (s.setStream p x).flash = s.flash := by
  cases p <;> rfl

theorem emitCodeword_flash (p : Port) (blocks : List Block) (s : State) : (emitCodeword p blocks s).flash = s.flash :=
  setStream_flash s p _

theorem sendCodeword_flash (p : Port) (s : State) : (sendCodeword p s).flash = s.flash := by
  have halign : ∀ t, (alignIfDue p t).flash = t.flash := fun t => by
    unfold alignIfDue
    dsimp only
    split
    · exact emitCodeword_flash p _ t
    · rfl
  exact (emitCodeword_flash p _ _).trans ((halign _).trans (setStream_flash s p _))

theorem packetLeft_flash (p : Port) (k : LocalPacket) (s : State) : (packetLeft p k s).flash = s.flash := by
  unfold packetLeft
  dsimp only
  split <;> split <;> simp

theorem leaveLine_flash (p : Port) (s : State) (b : LineBlock) : (leaveLine p s b).flash = s.flash := by
  have hleft : ((b.ends.map fun k => packetLeft p k s).getD s).flash = s.flash := by
    cases b.ends with
    | none => rfl
    | some k => exact packetLeft_flash p k s
  unfold leaveLine
  dsimp only
  split
  · exact (sendCodeword_flash p _).trans ((setStream_flash _ p _).trans hleft)
  · exact (setStream_flash _ p _).trans hleft

theorem carry_flash (p : Port) (blocks : List Block) (s : State) : (carry p blocks s).flash = s.flash :=
  (kept_foldl State.flash (leaveLine_flash p) _ _).trans (setStream_flash s p _)

theorem flushPort_flash (p : Port) (s : State) : (flushPort p s).flash = s.flash := by
  have hpackets : ∀ l : List LocalPacket,
      (l.foldl (fun t k => carry p (idles 48) (startPacket k t)) (carry p (idles 48) s)).flash = s.flash := fun l =>
    (kept_foldl State.flash (fun t k => (carry_flash p _ _).trans (setStream_flash t k.port _)) l _).trans (carry_flash p _ s)
  exact (carry_flash p _ _).trans (hpackets _)

theorem setIsland_flash (s : State) (i : Nat) (m : IslandMode) : (s.setIsland i m).flash = s.flash := rfl

theorem resetSwitched_flash (keep : Nat → Bool) (s : State) : (resetSwitched keep s).flash = s.flash := rfl

theorem releaseReset_flash (s : State) : (releaseReset s).flash = s.flash := by
  have hoff : (islandsOff s).flash = s.flash := kept_foldl State.flash (fun t i => setIsland_flash t i .off) _ s
  have hfreezes : ∀ (frozen : Bool) (t : State), (if frozen then t.bumpSat Obj.FREEZES else t).flash = t.flash := by
    rintro (- | -) t
    · rfl
    · rfl
  exact (hfreezes s.device.frozen _).trans ((resetSwitched_flash (fun _ => false) (islandsOff s)).trans hoff)

theorem dropOutputs_flash (s : State) : (dropOutputs s).flash = s.flash := by
  have hchan : ∀ c x t, (State.setChan t c x).flash = t.flash := fun c x t => by cases c <;> rfl
  have htest : ∀ c t, (abandonTest c t).flash = t.flash := fun c t => by
    unfold abandonTest
    dsimp only
    split_ifs
    · simp
    · exact hchan c _ t
    · rfl
  exact (hchan .b _ _).trans ((hchan .a _ _).trans ((htest .b _).trans (htest .a s)))

theorem activateReset_flash (s : State) : (activateReset s).flash = s.flash :=
  (releaseReset_flash _).trans (dropOutputs_flash s)

theorem activateReset_device (s : State) :
    (activateReset s).device.resetCause = 3 ∧ (activateReset s).device.phase = .waitCore := ⟨rfl, rfl⟩

theorem activateNow_clause {slot : Nat} (hacts : s.acts 6 = true)
    (hjob : s.cop.flashJob = some { work := .activate slot true, answer := answer }) :
    ∃ t, exec (.flashWriteComplete true) s = .next t ∧
      t.flash = (writeBoot { s.bootRecord with trial := slot, started := 0 } s).flash ∧ t.device.resetCause = 3 ∧
      t.device.phase ≠ .running := by
  have hbusy : s.flashBusy false = true := by rw [flashBusy_of_job hjob]; rfl
  have hexec : exec (.flashWriteComplete true) s = .next (settle (flashWriteDone true s)) :=
    onIslandIf_acts s (flashWriteDone true) (fun s => s.flashBusy false) 6 hacts hbusy
  have hdone : flashWriteDone true s =
      activateReset (flushPort .b (flushPort .a (completeJob true { work := .activate slot true, answer := answer } s))) := by
    unfold flashWriteDone
    rw [hjob]
    rfl
  have hjobFlash : (completeJob true { work := .activate slot true, answer := answer } s).flash =
      (writeBoot { s.bootRecord with trial := slot, started := 0 } s).flash := by
    rw [completeJob_eq (work := .activate slot true) true answer s nofun]
    have hfinished := (finishJob_finishedAs true answer (setSlotState slot 3
      (writeBoot { s.bootRecord with trial := slot, started := 0 } s)) (code := 0) (by decide)).flash
    simp only [settle_frame] at hfinished
    exact hfinished
  obtain ⟨hcause, hphase⟩ := activateReset_device
    (flushPort .b (flushPort .a (completeJob true { work := .activate slot true, answer := answer } s)))
  refine ⟨_, hexec, ?_, ?_, ?_⟩
  · simp only [settle_frame]
    rw [hdone, activateReset_flash, flushPort_flash, flushPort_flash, hjobFlash]
  · simp only [settle_frame]
    rw [hdone, hcause]
  · simp only [settle_frame]
    rw [hdone, hphase]
    decide

/-! ### The calibration copy (R384) -/

theorem noteBad_stores (s : State) (staging : Bool) (words : List Nat) :
    (s.noteBad staging words).flash = s.flash ∧ (s.noteBad staging words).mem = s.mem :=
  ⟨kept_foldl State.flash (fun _ _ => by cases staging <;> rfl) words s,
    kept_foldl State.mem (fun _ _ => by cases staging <;> rfl) words s⟩

theorem noteTranslation_stores (s : State) (a cause : Nat) :
    (s.noteTranslation a cause).flash = s.flash ∧ (s.noteTranslation a cause).mem = s.mem := by
  unfold State.noteTranslation
  split
  · exact ⟨rfl, rfl⟩
  · exact ⟨rfl, rfl⟩

/-- What one burst of a read of a device engine counts. -/
theorem noteBurst_stores (s : State) (b : Nat × Nat) (t : Target) :
    (if t.cause ≠ 0 then s.noteTranslation b.1 t.cause else s.noteBad t.staging (s.readBad t b.2)).flash = s.flash ∧
      (if t.cause ≠ 0 then s.noteTranslation b.1 t.cause else s.noteBad t.staging (s.readBad t b.2)).mem = s.mem := by
  split
  · exact noteTranslation_stores s _ _
  · exact noteBad_stores s _ _

/-- A read of a device engine counts, and leaves the memory and the flash. -/
theorem noteRead_stores (a n : Nat) (s : State) : (noteRead a n s).flash = s.flash ∧ (noteRead a n s).mem = s.mem :=
  ⟨kept_foldl State.flash (fun t b => (noteBurst_stores t b _).1) _ s,
    kept_foldl State.mem (fun t b => (noteBurst_stores t b _).2) _ s⟩

theorem noteCalWrite_flash (s : State) (a n : Nat) : (s.noteCalWrite a n).flash = s.flash := by
  unfold State.noteCalWrite noteFillInput
  dsimp only
  split_ifs <;> rfl

theorem writeDevice_flash (a : Nat) (bs : Bytes) (s : State) : (writeDevice a bs s).2.flash = s.flash := by
  unfold writeDevice
  dsimp only
  split
  · rfl
  · split_ifs
    · exact (noteTranslation_stores s _ _).1
    · exact (noteBad_stores s _ _).1
    · refine (noteCalWrite_flash _ _ _).trans ?_
      unfold State.setTarget State.writtenOver
      split <;> rfl

theorem writeBursts_flash (l : List (Nat × Nat)) (bs : Bytes) (s : State) : (writeBursts l bs s).2.flash = s.flash := by
  induction l generalizing s bs with
  | nil => rfl
  | cons b rest ih => exact (ih _ _).trans (writeDevice_flash _ _ s)

theorem deviceWrite_flash (s : State) (a : Nat) (bs : Bytes) : (s.deviceWrite a bs).flash = s.flash :=
  writeBursts_flash _ bs s

/-- A save or a load counts and writes what a row may; neither the answers nor the operations that wait. -/
theorem cop_of_rowFootprint (h : s.Within rowFootprint u) :
    u.cop.responses = s.cop.responses ∧ u.cop.flashPaused = s.cop.flashPaused := by
  obtain ⟨hresponses, -, -⟩ := h.part .answer (by decide)
  have hpaused := congrArg CopState.flashPaused (h.part .cop (by decide))
  exact ⟨hresponses, hpaused⟩

/-- An operation of the calibration copy that succeeds, and leaves its code. -/
theorem calFlash_done {v : Nat} (hacts : s.acts 6 = true) (hjob : s.cop.flashJob = some { work := work, answer := answer })
    (hcal : work.isCal = true) (hwork : workDone work s = (u.setReg Obj.CAL_FLASH_STATE v, 0))
    (hcop : u.cop.responses = s.cop.responses ∧ u.cop.flashPaused = s.cop.flashPaused) :
    ∃ t, exec (.calFlashComplete true) s = .next t ∧ t = settle (finishJob true answer 0 (u.setReg Obj.CAL_FLASH_STATE v)) ∧
      t.reg Obj.CAL_FLASH_STATE = v ∧ t.flash = u.flash ∧ t.mem = u.mem ∧ s.jobEnded t answer true 0 := by
  have heffect : jobEffect true work s = (u.setReg Obj.CAL_FLASH_STATE v, 0) := hwork
  have hleft := finishJob_finishedAs true answer (u.setReg Obj.CAL_FLASH_STATE v) (code := 0) (by decide)
  have hset : (u.setReg Obj.CAL_FLASH_STATE v).reg Obj.CAL_FLASH_STATE = v := by
    simp
  obtain ⟨hresponses, hpaused⟩ := hcop
  exact ⟨_, calFlashComplete_next hacts hjob heffect hcal, rfl, (hleft.reg _ (by decide) (by decide)).trans hset,
    hleft.flash, hleft.mem, finishJob_jobEnded true answer hresponses hpaused (by decide)⟩

/-- The records of a load, as far as the copy and the geometry go. -/
def recordsLoaded (s : State) : State :=
  foldN (min (s.flashNat (calHeader + 8) 4) (s.calGeometry.1 * s.calGeometry.2))
    (fun t p => t.deviceWrite (s.calCopyAddr p) (s.flashBytes (calRecords + 32 * p) 32)) s

/-- The code of a load: complete for the same geometry, in part for another. -/
def State.calLoadCode (s : State) : Nat :=
  if s.flashNat (calHeader + 4) 2 = s.calGeometry.1 ∧ s.flashNat (calHeader + 6) 2 = s.calGeometry.2 then 3 else 4

theorem loadCal_valid (h : s.calHeaderOk = true) :
    loadCal s = (recordsLoaded s).setReg Obj.CAL_FLASH_STATE s.calLoadCode := by
  unfold loadCal
  rw [h]
  simp only [State.calLoadCode, recordsLoaded, Bool.not_true, Bool.false_eq_true, if_false, Bool.and_eq_true, beq_iff_eq]

theorem recordsLoaded_within (s : State) : s.Within rowFootprint (recordsLoaded s) :=
  foldNSteps (fun t _ _ => (refl _ t).writeBursts rowFootprint_writes _ _) s

theorem recordsLoaded_flash (s : State) : (recordsLoaded s).flash = s.flash :=
  kept_foldl State.flash (fun t _ => deviceWrite_flash t _ _) _ s

theorem calLoad_invalid (hacts : s.acts 6 = true) (hjob : s.cop.flashJob = some { work := .calLoad, answer := answer })
    (hheader : s.calHeaderOk = false) :
    ∃ t, exec (.calFlashComplete true) s = .next t ∧ t.reg Obj.CAL_FLASH_STATE = 5 ∧ s.jobEnded t answer true 0 ∧
      s.frame t [.cop, .answer, .out] [Obj.FLASH_STATE, Obj.CAL_FLASH_STATE] [] := by
  have hload : loadCal s = s.setReg Obj.CAL_FLASH_STATE 5 := by
    unfold loadCal
    rw [hheader]
    rfl
  have hw : s.Within (eventFootprint [.cop, .answer, .out] [Obj.FLASH_STATE, Obj.CAL_FLASH_STATE])
      (s.setReg Obj.CAL_FLASH_STATE 5) := (refl _ s).setReg _ _ (by decide)
  obtain ⟨t, hexec, rfl, hstate, -, -, hended⟩ := calFlash_done hacts hjob rfl (congrArg (·, 0) hload) ⟨rfl, rfl⟩
  exact ⟨_, hexec, hstate, hended, finishJob_frame true answer hw (by decide) (by decide) (by decide)⟩

theorem calLoad_valid (hacts : s.acts 6 = true) (hjob : s.cop.flashJob = some { work := .calLoad, answer := answer })
    (hheader : s.calHeaderOk = true) :
    ∃ t, exec (.calFlashComplete true) s = .next t ∧ t.reg Obj.CAL_FLASH_STATE = s.calLoadCode ∧
      s.jobEnded t answer true 0 ∧ t.flash = s.flash := by
  obtain ⟨t, hexec, -, hstate, hflash, -, hended⟩ := calFlash_done hacts hjob rfl (congrArg (·, 0) (loadCal_valid hheader))
    (cop_of_rowFootprint (recordsLoaded_within s))
  exact ⟨t, hexec, hstate, hended, hflash.trans (recordsLoaded_flash s)⟩

theorem calLoad_clause (hacts : s.acts 6 = true) (hjob : s.cop.flashJob = some { work := .calLoad, answer := answer }) :
    ∃ t, exec (.calFlashComplete true) s = .next t ∧
      (s.calHeaderOk = false → t.reg Obj.CAL_FLASH_STATE = 5 ∧ s.jobEnded t answer true 0 ∧
        s.frame t [.cop, .answer, .out] [Obj.FLASH_STATE, Obj.CAL_FLASH_STATE] []) ∧
      (s.calHeaderOk = true → t.reg Obj.CAL_FLASH_STATE =
          (if s.flashNat (calHeader + 4) 2 = s.calGeometry.1 ∧ s.flashNat (calHeader + 6) 2 = s.calGeometry.2
            then 3 else 4) ∧
        s.jobEnded t answer true 0 ∧ t.flash = s.flash) := by
  cases hheader : s.calHeaderOk with
  | false =>
    obtain ⟨t, hexec, hleft⟩ := calLoad_invalid hacts hjob hheader
    exact ⟨t, hexec, fun _ => hleft, nofun⟩
  | true =>
    obtain ⟨t, hexec, hleft⟩ := calLoad_valid hacts hjob hheader
    exact ⟨t, hexec, nofun, fun _ => hleft⟩

/-- The records of a save and their header stand in the copy. -/
def copyWritten (records header : Bytes) (s : State) : State := (s.programFlash calRecords records).programFlash calHeader header

theorem copyWritten_flash (records header : Bytes) (h : u.flash = s.flash) :
    (copyWritten records header u).flash = (copyWritten records header s).flash := by
  simp only [copyWritten, State.programFlash, State.setFlash, h]

theorem copyWritten_keeps (records header : Bytes) (s : State) :
    (copyWritten records header s).mem = s.mem ∧ (copyWritten records header s).cop = s.cop := ⟨rfl, rfl⟩

theorem calSave_clause {records : Bytes} (hacts : s.acts 6 = true)
    (hjob : s.cop.flashJob = some { work := .calSave, answer := answer }) (hread : s.calRecordsRead = some records) :
    ∃ t, exec (.calFlashComplete true) s = .next t ∧ t.reg Obj.CAL_FLASH_STATE = 3 ∧ t.mem = s.mem ∧
      t.flash = ((s.programFlash calRecords records).programFlash calHeader (s.calHeaderOf records)).flash ∧
      s.jobEnded t answer true 0 := by
  obtain ⟨r, hr, hsave⟩ : ∃ r, r = noteRead (s.calCopyAddr 0) (32 * (s.calGeometry.1 * s.calGeometry.2)) s ∧
      saveCal s = (copyWritten records (s.calHeaderOf records) r).setReg Obj.CAL_FLASH_STATE 3 := by
    refine ⟨_, rfl, ?_⟩
    unfold saveCal
    rw [hread]
    rfl
  obtain ⟨hreadFlash, hreadMem⟩ := noteRead_stores (s.calCopyAddr 0) (32 * (s.calGeometry.1 * s.calGeometry.2)) s
  have hwithin : s.Within rowFootprint r := by
    rw [hr]
    exact (refl _ s).noteRead rowFootprint_writes.toReads _ _
  rw [← hr] at hreadFlash hreadMem
  obtain ⟨hmem, hcop⟩ := copyWritten_keeps records (s.calHeaderOf records) r
  obtain ⟨t, hexec, -, hstate, hflash, htmem, hended⟩ := calFlash_done hacts hjob rfl (congrArg (·, 0) hsave)
    (by rw [hcop]; exact cop_of_rowFootprint hwithin)
  exact ⟨t, hexec, hstate, htmem.trans (hmem.trans hreadMem), hflash.trans (copyWritten_flash _ _ hreadFlash), hended⟩

end FlashDone

/-- Settles O19: the end of an operation and its answer keep what the effect of the operation has left, and what each
effect leaves is one write to the flash, to the record or to the agent. -/
theorem flashOperationsTakeEffectOnCompletion : Obligations.FlashOperationsTakeEffectOnCompletion :=
  ⟨fun _ _ _ _ => key_clause, fun _ _ _ _ => t1s_clause, fun _ _ _ => identity_clause,
    fun _ _ _ _ _ => program_clause, fun _ _ _ => eraseSlot_clause, fun _ _ _ => verify_clause,
    fun _ _ _ => activateNext_clause, fun _ _ _ => activateNow_clause, fun _ _ => confirm_clause,
    fun _ _ _ => faultLog_clause, fun _ _ => evacSave_clause, fun _ _ _ => workFailed_clause,
    fun _ _ => calLoad_clause, fun _ _ _ => calSave_clause⟩

end Sys2Proof.Machine

end

section
/-! Fault sources rise and fall in the collector, and what a rise brings about (13 R324, R326 to R329). -/

namespace Sys2Proof.Machine

set_option Elab.async false

section FaultRise

open State.Within

variable {s u : State} {n : Nat}

/-! ### The permissions follow a change that ends no safe blank (12 R292, R298, R299) -/

/-- What the permissions and the begin of a safe blank may touch. -/
def permissionFootprint : Footprint := eventFootprint tripParts hidingObjs

/-- What `State.safeBlank` reads. -/
theorem safeBlank_congr (hdemand : u.blankDemand = s.blankDemand) (htrips : u.safety.trips = s.safety.trips)
    (hlatched : u.fault.latched = s.fault.latched) (htab : u.tabByte Obj.FAULT_REACTION = s.tabByte Obj.FAULT_REACTION) :
    u.safeBlank = s.safeBlank := by
  simp only [State.safeBlank, State.blankReaction, State.reaction, hdemand, htrips, hlatched, htab]

theorem withdrawn_input (x : ChannelState) : (withdrawn x).safeBlank = x.safeBlank := by
  unfold withdrawn
  split <;> rfl

/-- A withdrawal leaves what holds a safe blank, and the demand in action. -/
theorem withdraw_keeps (c : Channel) (s : State) : (withdraw c s).safeBlank = s.safeBlank ∧
    (withdraw c s).safety.evacFrom = s.safety.evacFrom := by
  obtain ⟨hchan, hother, hrest, hfields⟩ := withdraw_frame s c
  have htrips := congrArg SafetyState.trips hrest
  have hevac := congrArg SafetyState.evacFrom hrest
  have hlatched := congrArg (fun t : State => t.fault.latched) hfields
  have htabs : (withdraw c s).tabs = s.tabs := by
    have h := congrArg State.tabs hfields
    exact h
  have htab : (withdraw c s).tabByte Obj.FAULT_REACTION = s.tabByte Obj.FAULT_REACTION :=
    funext (State.tabByte_congr htabs _)
  have hdemand : (withdraw c s).blankDemand = s.blankDemand := by
    have hc : ((withdraw c s).chan c).safeBlank = (s.chan c).safeBlank := by rw [hchan, withdrawn_input]
    have ho := congrArg ChannelState.safeBlank hother
    cases c with
    | a => exact congrArg₂ (fun x y : InputState => x.demand || y.demand) hc ho
    | b => exact congrArg₂ (fun x y : InputState => x.demand || y.demand) ho hc
  exact ⟨safeBlank_congr hdemand htrips hlatched htab, hevac⟩

theorem grant_keeps (c : Channel) (s : State) : (grant c s).safeBlank = s.safeBlank ∧
    (grant c s).safety.evacFrom = s.safety.evacFrom := by
  unfold grant
  split
  · exact ⟨rfl, rfl⟩
  · cases c <;> exact ⟨rfl, rfl⟩

/-- A channel withdraws, or grants when it may. -/
def applyChannel (may : Bool) (c : Channel) (s : State) : State := if may then grant c s else withdraw c s

theorem applyPermissions_eq (s : State) :
    applyPermissions s = applyChannel (s.mayPermit .b) .b (applyChannel (s.mayPermit .a) .a s) := rfl

theorem applyChannel_keeps (may : Bool) (c : Channel) (s : State) : (applyChannel may c s).safeBlank = s.safeBlank ∧
    (applyChannel may c s).safety.evacFrom = s.safety.evacFrom := by
  cases may with
  | true => exact grant_keeps c s
  | false => exact withdraw_keeps c s

theorem applyPermissions_keeps (s : State) : (applyPermissions s).safeBlank = s.safeBlank ∧
    (applyPermissions s).safety.evacFrom = s.safety.evacFrom := by
  obtain ⟨hblank, hevac⟩ := applyChannel_keeps (s.mayPermit .a) .a s
  obtain ⟨hblank1, hevac1⟩ := applyChannel_keeps (s.mayPermit .b) .b (applyChannel (s.mayPermit .a) .a s)
  exact ⟨hblank1.trans hblank, hevac1.trans hevac⟩

/-- Under a BLANK reaction no channel keeps its permission (R329). -/
theorem applyPermissions_withdraws (hblank : s.blankReaction = true) (c : Channel) :
    ((applyPermissions s).chan c).permission = false := by
  have hdeny : ∀ c, s.mayPermit c = false := fun c => by simp [State.mayPermit, hblank]
  have hboth : applyPermissions s = withdraw .b (withdraw .a s) := by
    rw [applyPermissions_eq, hdeny, hdeny]
    rfl
  obtain ⟨hchanA, -⟩ := withdraw_frame s .a
  obtain ⟨hchanB, hotherB, -⟩ := withdraw_frame (withdraw .a s) .b
  rw [hboth]
  cases c with
  | a =>
    have hother : ((withdraw .b (withdraw .a s)).chan .a) = (withdraw .a s).chan .a := hotherB
    rw [hother, hchanA, withdrawn_permission]
  | b => rw [hchanB, withdrawn_permission]

theorem withdraw_within (c : Channel) (s : State) : s.Within permissionFootprint (withdraw c s) := by
  have habandon : s.Within permissionFootprint (abandonTest c s) := by
    obtain habandon | habandon | ⟨-, -, habandon⟩ := abandonTest_cases s c <;> rw [habandon]
    · exact (setChan_within c _ s).bump _
    · exact setChan_within c _ s
    · exact refl _ s
  unfold withdraw
  split
  · exact refl _ s
  · exact (habandon.trans (setChan_within c _ _)).trans (rampDownRails_within _ _).widen

theorem applyPermissions_within (s : State) : s.Within permissionFootprint (applyPermissions s) := by
  have hchannel : ∀ (may : Bool) (c : Channel) (t : State), t.Within permissionFootprint (applyChannel may c t) := by
    intro may c t
    cases may with
    | false => exact withdraw_within c t
    | true =>
      simp only [applyChannel, grant, if_true]
      split
      · exact refl _ t
      · exact setChan_within c _ t
  exact (hchannel (s.mayPermit .a) .a s).trans (hchannel (s.mayPermit .b) .b _)

theorem hideEvac_within (s : State) : s.Within permissionFootprint (hideEvac s) := by
  unfold hideEvac endDisplay
  split
  · exact (((refl _ s).setReg Obj.EVAC_STATE 0).setReg Obj.REPLAY_BANDS 0).safety _
  · exact refl _ s

/-- Hiding the display leaves the inputs, the trips, the permissions and the reactions; no demand begins to act. -/
theorem hideEvac_keeps (s : State) : (hideEvac s).safeBlank = s.safeBlank ∧
    (∀ c, (hideEvac s).chan c = s.chan c) ∧ (s.safety.evacFrom = none → (hideEvac s).safety.evacFrom = none) := by
  unfold hideEvac
  split
  · exact ⟨rfl, fun c => by cases c <;> rfl, fun _ => rfl⟩
  · exact ⟨rfl, fun _ => rfl, id⟩

/-- A change that ends no safe blank and brings no demand to act is followed by the permissions alone, and by the display
that a safe blank hides. -/
theorem safetyEvent_stays {op : State → State} (hblank : s.safeBlank = true → (op s).safeBlank = true)
    (hevac : (op s).safety.evacFrom = s.safety.evacFrom) :
    safetyEvent op s = applyPermissions (op s) ∨ safetyEvent op s = hideEvac (applyPermissions (op s)) := by
  obtain ⟨hkeeps, hkeepsEvac⟩ := applyPermissions_keeps (op s)
  obtain ⟨-, -, hhidden⟩ := hideEvac_keeps (applyPermissions (op s))
  have hends : (s.safeBlank && !(applyPermissions (op s)).safeBlank) = false := by
    rw [hkeeps]
    cases hs : s.safeBlank with
    | false => rfl
    | true => simp [hblank hs]
  have hwith : withSafety op s = applyPermissions (op s) ∨ withSafety op s = hideEvac (applyPermissions (op s)) := by
    simp only [withSafety, hends, Bool.false_eq_true, if_false]
    split
    · exact .inr rfl
    · exact .inl rfl
  have hbegins : (s.safety.evacFrom.isNone && (withSafety op s).safety.evacFrom.isSome) = false := by
    cases hs : s.safety.evacFrom with
    | some t => rfl
    | none =>
      have hnone : (applyPermissions (op s)).safety.evacFrom = none := hkeepsEvac.trans (hevac.trans hs)
      obtain h | h := hwith
      · rw [h, hnone]
        rfl
      · rw [h, hhidden hnone]
        rfl
  have hevent : safetyEvent op s = withSafety op s := if_neg (by rw [hbegins]; decide)
  rw [hevent]
  exact hwith

/-- The same as a footprint, with what stays and what a BLANK reaction withdraws. -/
theorem safetyEvent_leaves {op : State → State} (hblank : s.safeBlank = true → (op s).safeBlank = true)
    (hevac : (op s).safety.evacFrom = s.safety.evacFrom) :
    (op s).Within permissionFootprint (safetyEvent op s) ∧ (safetyEvent op s).safeBlank = (op s).safeBlank ∧
      ((op s).blankReaction = true → ∀ c, ((safetyEvent op s).chan c).permission = false) := by
  obtain ⟨hkeeps, -⟩ := applyPermissions_keeps (op s)
  obtain ⟨hhidden, hchan, -⟩ := hideEvac_keeps (applyPermissions (op s))
  have hwithin := applyPermissions_within (op s)
  obtain h | h := safetyEvent_stays hblank hevac
  · rw [h]
    exact ⟨hwithin, hkeeps, fun hreaction c => applyPermissions_withdraws hreaction c⟩
  · rw [h]
    exact ⟨hwithin.trans (hideEvac_within _), hhidden.trans hkeeps,
      fun hreaction c => by rw [hchan]; exact applyPermissions_withdraws hreaction c⟩

/-! ### A pulse starts, and a live bit rises (R326 to R329) -/

/-- The state with the occurrences that the origins hold, and with the pulses in progress. -/
def State.withPulses (s : State) (waiting : Sparse Nat) (pulsing : List Nat) : State :=
  { s with fault := { s.fault with waiting := waiting, pulsing := pulsing } }

/-- The origin of a source holds an occurrence, and no pulse of it is in progress. -/
def State.pulseDue (s : State) (n : Nat) : Prop :=
  pulseSource n = true ∧ 0 < Sparse.get (fun _ => 0) s.fault.waiting n ∧ s.fault.pulsing.contains n = false

/-- A pulse that is due starts; nothing else changes. -/
theorem startPulse_due (h : s.pulseDue n) : startPulse n s = s.withPulses
    (Sparse.set (fun _ => 0) s.fault.waiting n (Sparse.get (fun _ => 0) s.fault.waiting n - 1)) (s.fault.pulsing ++ [n]) := by
  obtain ⟨hpulse, hheld, hidle⟩ := h
  exact if_pos (by rw [hpulse, hidle, decide_eq_true hheld]; rfl)

theorem startPulse_idle (h : ¬ s.pulseDue n) : startPulse n s = s := by
  refine if_neg fun hstarts => h ?_
  simp only [Bool.and_eq_true, decide_eq_true_eq, Bool.not_eq_true'] at hstarts
  obtain ⟨⟨hpulse, hheld⟩, hidle⟩ := hstarts
  exact ⟨hpulse, hheld, hidle⟩

theorem startPulse_eq (n : Nat) (s : State) : ∃ waiting pulsing, startPulse n s = s.withPulses waiting pulsing := by
  by_cases h : s.pulseDue n
  · exact ⟨_, _, startPulse_due h⟩
  · exact ⟨s.fault.waiting, s.fault.pulsing, startPulse_idle h⟩

theorem startPulse_within (n : Nat) (s : State) : s.Within (eventFootprint [.fault] []) (startPulse n s) := by
  obtain ⟨waiting, pulsing, h⟩ := startPulse_eq n s
  rw [h]
  exact (refl _ s).of_fields (fault := .inl (by decide))

theorem contains_insertOnce (k n : Nat) (l : List Nat) : (insertOnce n l).contains k = (l.contains k || k == n) := by
  unfold insertOnce
  split
  next h =>
    by_cases hk : k = n
    · subst hk
      simpa using h
    · simp [hk]
  next => simp [Bool.beq_eq_decide_eq]

/-- The state of a source whose live bit has risen, before its event. -/
def risen (n : Nat) (s : State) : State :=
  let s1 := s.bumpSatAt Obj.FAULT_COUNT n
  let s2 := if s.fault.latched.contains n then s1 else s1.setRegAt Obj.FAULT_FIRST_TIME n s.stampA
  let s3 := s2.setRegAt Obj.FAULT_LAST_TIME n s.stampA
  { s3 with fault := { s3.fault with live := s3.fault.live ++ [n], latched := insertOnce n s3.fault.latched } }

theorem risen_fields (n : Nat) (s : State) : (risen n s).fault =
      { s.fault with live := s.fault.live ++ [n], latched := insertOnce n s.fault.latched } ∧
    (risen n s).traffic = s.traffic ∧ (risen n s).safety = s.safety ∧ (risen n s).tabs = s.tabs ∧
    (risen n s).stampA = s.stampA := by
  unfold risen State.stampA
  dsimp only
  split <;> simp

theorem reaction_congr (h : u.tabs = s.tabs) : u.reaction = s.reaction := by
  funext k
  simp only [State.reaction, State.tabByte_congr h]

theorem rise_eq (n : Nat) (s : State) : rise n s =
    if 1 ≤ s.reaction n then (risen n s).event (0x100 + n) (natLE 2 ((risen n s).regAt Obj.FAULT_COUNT n))
    else risen n s := by
  obtain ⟨-, -, -, htabs, -⟩ := risen_fields n s
  rw [← reaction_congr htabs]
  rfl

/-- An object of the collector after a source has risen: its count saturates, its first time stands while it is latched. -/
theorem risen_regAt (hn : n < 65536) (s : State) (o i : Nat) (hi : i < 65536) : (risen n s).regAt o i =
    if o = Obj.FAULT_LAST_TIME ∧ i = n then s.stampA
    else if s.fault.latched.contains n = false ∧ o = Obj.FAULT_FIRST_TIME ∧ i = n then s.stampA
    else if o = Obj.FAULT_COUNT ∧ i = n then min (s.regAt Obj.FAULT_COUNT n + 1) 65535
    else s.regAt o i := by
  have hwidth : 2 ^ widthOf Obj.FAULT_COUNT - 1 = 65535 := by decide
  have hset : ∀ (t : State) (p v : Nat), (t.setRegAt p n v).regAt o i = if o = p ∧ i = n then v else t.regAt o i :=
    fun t p v => State.regAt_setRegAt_small t p n v o i hn hi
  have hregs : ∀ (t : State) (f : FaultState), ({ t with fault := f } : State).regAt o i = t.regAt o i := fun _ _ => rfl
  simp only [risen, State.bumpSatAt, hwidth, hregs, hset]
  cases s.fault.latched.contains n <;> simp [hset]

/-- The count and the times of a source that rises, and the count of another. -/
theorem risen_times (hn : n < 96) (s : State) :
    (risen n s).regAt Obj.FAULT_COUNT n = min (s.regAt Obj.FAULT_COUNT n + 1) 65535 ∧
    (∀ k, k ≠ n → k < 96 → (risen n s).regAt Obj.FAULT_COUNT k = s.regAt Obj.FAULT_COUNT k) ∧
    (risen n s).regAt Obj.FAULT_FIRST_TIME n =
      (if s.fault.latched.contains n then s.regAt Obj.FAULT_FIRST_TIME n else s.stampA) ∧
    (risen n s).regAt Obj.FAULT_LAST_TIME n = s.stampA := by
  have hn1 : n < 65536 := by omega
  refine ⟨?_, fun k hk hk1 => ?_, ?_, ?_⟩
  · rw [risen_regAt hn1 s _ n hn1]
    simp
  · rw [risen_regAt hn1 s _ k (by omega)]
    simp [hk]
  · rw [risen_regAt hn1 s _ n hn1]
    cases s.fault.latched.contains n <;> simp
  · rw [risen_regAt hn1 s _ n hn1]
    simp

theorem risen_reg (hn : n < 65536) (s : State) {o : Nat}
    (ho : o ∉ [Obj.FAULT_COUNT, Obj.FAULT_FIRST_TIME, Obj.FAULT_LAST_TIME]) : (risen n s).reg o = s.reg o := by
  simp only [List.mem_cons, List.not_mem_nil, or_false, not_or] at ho
  obtain ⟨hcount, hfirst, hlast⟩ := ho
  rw [State.reg, risen_regAt hn s o 0 (by decide), if_neg (by simp [hlast]), if_neg (by simp [hfirst]),
    if_neg (by simp [hcount]), State.reg]

/-- The parts that a rise may touch, and its objects. -/
def riseFootprint : Footprint := eventFootprint [.fault, .live, .traffic]
  [Obj.FAULT_COUNT, Obj.FAULT_FIRST_TIME, Obj.FAULT_LAST_TIME, Obj.EVENT_SEQUENCE, Obj.EVENTS_DROPPED]

theorem rise_within (hn : n < 65536) (s : State) : s.Within riseFootprint (rise n s) := by
  have hset : ∀ {t : State} (o v : Nat), s.Within riseFootprint t → riseFootprint.objs o = true →
      s.Within riseFootprint (t.setRegAt o n v) := fun o v h ho => h.setRegAt o n v ho hn
  have hfirst : s.Within riseFootprint (if s.fault.latched.contains n then s.bumpSatAt Obj.FAULT_COUNT n
      else (s.bumpSatAt Obj.FAULT_COUNT n).setRegAt Obj.FAULT_FIRST_TIME n s.stampA) := by
    split
    · exact hset _ _ (refl _ s) (by decide)
    · exact hset _ _ (hset _ _ (refl _ s) (by decide)) (by decide)
  have hfault : ∀ {t : State} (f : FaultState), s.Within riseFootprint t → s.Within riseFootprint { t with fault := f } :=
    fun f h => h.of_fields (fault := .inl (by decide)) (live := .inl (by decide))
  have hrisen : s.Within riseFootprint (risen n s) :=
    hfault _ (hset Obj.FAULT_LAST_TIME s.stampA hfirst (by decide))
  rw [rise_eq]
  split
  · exact hrisen.event _ _
  · exact hrisen

theorem rise_fault (n : Nat) (s : State) : (rise n s).fault =
      { s.fault with live := s.fault.live ++ [n], latched := insertOnce n s.fault.latched } ∧
    (rise n s).safety = s.safety ∧ (rise n s).tabs = s.tabs := by
  obtain ⟨hfault, -, hsafety, htabs, -⟩ := risen_fields n s
  rw [rise_eq]
  split
  · exact ⟨by simpa using hfault, by simpa using hsafety, by simpa using htabs⟩
  · exact ⟨hfault, hsafety, htabs⟩

/-- The event of a rise touches EVENT_SEQUENCE and EVENTS_DROPPED alone. -/
theorem rise_regAt (n : Nat) (s : State) (o i : Nat) (hi : i < 65536)
    (ho : o ∉ [Obj.EVENT_SEQUENCE, Obj.EVENTS_DROPPED]) : (rise n s).regAt o i = (risen n s).regAt o i := by
  simp only [List.mem_cons, List.not_mem_nil, or_false, not_or] at ho
  obtain ⟨hsequence, hdropped⟩ := ho
  have hevent : ∀ (t : State) (code : Nat) (data : Bytes), (t.event code data).regAt o i = t.regAt o i := by
    intro t code data
    unfold State.event
    dsimp only
    split
    · rfl
    · rw [State.regAt_bump_ne _ _ _ _ hdropped hi, State.regAt_bump_ne _ _ _ _ hsequence hi]
  rw [rise_eq]
  split
  · exact hevent _ _ _
  · rfl

theorem event_sent (s : State) (code : Nat) (data : Bytes) (hroom : s.traffic.events.length < 64) :
    (s.event code data).traffic.events = s.traffic.events ++ [{ code := code, time := s.stampA, data := data }] ∧
      (s.event code data).reg = s.reg := by
  rw [show s.event code data = _ from if_pos hroom]
  exact ⟨rfl, rfl⟩

theorem event_dropped (s : State) (code : Nat) (data : Bytes) (hfull : 64 ≤ s.traffic.events.length) :
    (s.event code data).traffic.events = s.traffic.events ∧
      (s.event code data).reg Obj.EVENTS_DROPPED = (s.reg Obj.EVENTS_DROPPED + 1) % 2 ^ 32 := by
  rw [show s.event code data = _ from if_neg (Nat.not_lt.mpr hfull)]
  exact ⟨by simp, by simp [show widthOf Obj.EVENTS_DROPPED = 32 by decide]⟩

/-- A rise with a reaction has its event sent, or dropped from a full queue; one without has none (R329, 10 R257). -/
theorem rise_event (hn : n < 65536) (s : State) :
    (1 ≤ s.reaction n → s.traffic.events.length < 64 →
      (rise n s).traffic.events = s.traffic.events ++
        [{ code := 0x100 + n, time := s.stampA, data := natLE 2 ((rise n s).regAt Obj.FAULT_COUNT n) }] ∧
      (rise n s).reg Obj.EVENTS_DROPPED = s.reg Obj.EVENTS_DROPPED) ∧
    (1 ≤ s.reaction n → 64 ≤ s.traffic.events.length → (rise n s).traffic.events = s.traffic.events ∧
      (rise n s).reg Obj.EVENTS_DROPPED = (s.reg Obj.EVENTS_DROPPED + 1) % 2 ^ 32) ∧
    (s.reaction n = 0 → (rise n s).traffic.events = s.traffic.events ∧
      (rise n s).reg Obj.EVENT_SEQUENCE = s.reg Obj.EVENT_SEQUENCE) := by
  obtain ⟨-, htraffic, -, -, hstamp⟩ := risen_fields n s
  have hdropped := risen_reg hn s (o := Obj.EVENTS_DROPPED) (by decide)
  have hsequence := risen_reg hn s (o := Obj.EVENT_SEQUENCE) (by decide)
  rw [rise_regAt n s Obj.FAULT_COUNT n hn (by decide), ← hdropped, ← hsequence, ← hstamp, ← htraffic]
  refine ⟨fun hreaction hroom => ?_, fun hreaction hfull => ?_, fun hreaction => ?_⟩
  · rw [rise_eq, if_pos hreaction]
    obtain ⟨hsent, hreg⟩ := event_sent (risen n s) (0x100 + n) (natLE 2 ((risen n s).regAt Obj.FAULT_COUNT n)) hroom
    exact ⟨hsent, congrFun hreg _⟩
  · rw [rise_eq, if_pos hreaction]
    exact event_dropped (risen n s) _ _ hfull
  · rw [rise_eq, if_neg (by omega)]
    exact ⟨rfl, rfl⟩

/-- `w` is `s` with source `n` risen: its bits, its count and its times, and its event (R327 to R329). -/
structure State.Rises (s w : State) (n : Nat) : Prop where
  live : w.fault.live = s.fault.live ++ [n]
  latched : w.fault.latched = insertOnce n s.fault.latched
  count : w.regAt Obj.FAULT_COUNT n = min (s.regAt Obj.FAULT_COUNT n + 1) 65535
  others : ∀ k, k ≠ n → k < 96 → w.regAt Obj.FAULT_COUNT k = s.regAt Obj.FAULT_COUNT k
  first : w.regAt Obj.FAULT_FIRST_TIME n =
    if s.fault.latched.contains n then s.regAt Obj.FAULT_FIRST_TIME n else s.stampA
  last : w.regAt Obj.FAULT_LAST_TIME n = s.stampA
  sent : 1 ≤ s.reaction n → s.traffic.events.length < 64 →
    w.traffic.events = s.traffic.events ++
      [{ code := 0x100 + n, time := s.stampA, data := natLE 2 (w.regAt Obj.FAULT_COUNT n) }] ∧
    w.reg Obj.EVENTS_DROPPED = s.reg Obj.EVENTS_DROPPED
  dropped : 1 ≤ s.reaction n → 64 ≤ s.traffic.events.length → w.traffic.events = s.traffic.events ∧
    w.reg Obj.EVENTS_DROPPED = (s.reg Obj.EVENTS_DROPPED + 1) % 2 ^ 32
  silent : s.reaction n = 0 → w.traffic.events = s.traffic.events ∧ w.reg Obj.EVENT_SEQUENCE = s.reg Obj.EVENT_SEQUENCE
  blank : s.reaction n = 3 → w.blankReaction = true

theorem rise_rises (hn : n < 96) (s : State) : s.Rises (rise n s) n := by
  have hn1 : n < 65536 := by omega
  obtain ⟨hfault, -, htabs⟩ := rise_fault n s
  obtain ⟨hcount, hothers, hfirst, hlast⟩ := risen_times hn s
  obtain ⟨hsent, hdropped, hsilent⟩ := rise_event hn1 s
  have hlatched : (rise n s).fault.latched = insertOnce n s.fault.latched := congrArg FaultState.latched hfault
  exact
    { live := congrArg FaultState.live hfault
      latched := hlatched
      count := (rise_regAt n s _ n hn1 (by decide)).trans hcount
      others := fun k hk hk96 => (rise_regAt n s _ k (by omega) (by decide)).trans (hothers k hk hk96)
      first := (rise_regAt n s _ n hn1 (by decide)).trans hfirst
      last := (rise_regAt n s _ n hn1 (by decide)).trans hlast
      sent := hsent
      dropped := hdropped
      silent := hsilent
      blank := fun hreaction => by
        have hmem : (rise n s).fault.latched.contains n = true := by rw [hlatched, contains_insertOnce]; simp
        exact List.any_eq_true.mpr ⟨n, List.contains_iff_mem.mp hmem, by
          rw [reaction_congr htabs, hreaction]
          decide⟩ }

/-! ### FAULT_SOURCE_RISE (R327) -/

/-- What a rise of source `n` does before the permissions follow. -/
def collect (n : Nat) (s : State) : State :=
  let s1 := startPulse n s
  if s1.reporting n && !s1.fault.live.contains n then rise n s1 else s1

theorem sourceRise_eq (n : Nat) (s : State) : sourceRise n s = safetyEvent (collect n) s := rfl

theorem reporting_iff (s : State) (n : Nat) : s.reporting n =
    (!reservedSource n && (s.forced n || s.condition n || s.fault.pulsing.contains n || s.fault.discrepant.contains n ||
      (n == 95 && !s.fault.discrepant.isEmpty))) := rfl

/-- A source that is due to rise reports once its pulse has started. -/
theorem reporting_startPulse (hreserved : reservedSource n = false) (h : s.reporting n = true ∨
      (pulseSource n = true ∧ 0 < Sparse.get (fun _ => 0) s.fault.waiting n)) :
    (startPulse n s).reporting n = true := by
  by_cases hdue : s.pulseDue n
  · rw [startPulse_due hdue, reporting_iff]
    simp [hreserved, State.withPulses]
  · rw [startPulse_idle hdue]
    obtain h | ⟨hpulse, hheld⟩ := h
    · exact h
    · have hpulsing : s.fault.pulsing.contains n = true := by
        cases hidle : s.fault.pulsing.contains n with
        | true => rfl
        | false => exact absurd ⟨hpulse, hheld, hidle⟩ hdue
      rw [reporting_iff, hreserved, hpulsing]
      simp

/-- The states before and after the pulse agree in all but the pulses. -/
theorem startPulse_fields (n : Nat) (s : State) : (startPulse n s).fault.live = s.fault.live ∧
    (startPulse n s).fault.latched = s.fault.latched ∧ (startPulse n s).regAt = s.regAt ∧
    (startPulse n s).tabs = s.tabs ∧ (startPulse n s).traffic = s.traffic ∧ (startPulse n s).safety = s.safety ∧
    (startPulse n s).stampA = s.stampA := by
  obtain ⟨waiting, pulsing, h⟩ := startPulse_eq n s
  rw [h]
  exact ⟨rfl, rfl, rfl, rfl, rfl, rfl, rfl⟩

theorem collect_rises (hlive : s.fault.live.contains n = false) (hreports : (startPulse n s).reporting n = true) :
    collect n s = rise n (startPulse n s) := by
  obtain ⟨hfields, -⟩ := startPulse_fields n s
  exact if_pos (by rw [hreports, hfields, hlive]; rfl)

theorem collect_still (h : ((startPulse n s).reporting n && !s.fault.live.contains n) = false) :
    collect n s = startPulse n s := by
  obtain ⟨hfields, -⟩ := startPulse_fields n s
  exact if_neg (by rw [hfields, h]; decide)

/-- A safe blank holds on while no latched bit goes. -/
theorem safeBlank_mono (hsafety : u.safety = s.safety) (htabs : u.tabs = s.tabs)
    (hlatched : ∀ k, s.fault.latched.contains k = true → u.fault.latched.contains k = true) (h : s.safeBlank = true) :
    u.safeBlank = true := by
  have hdemand : u.blankDemand = s.blankDemand := by rw [State.blankDemand, hsafety, State.blankDemand]
  simp only [State.safeBlank, Bool.or_eq_true, hdemand, hsafety] at h ⊢
  refine h.imp_right fun hreaction => ?_
  obtain ⟨k, hk, hk3⟩ := List.any_eq_true.mp hreaction
  exact List.any_eq_true.mpr ⟨k, List.contains_iff_mem.mp (hlatched k (List.contains_iff_mem.mpr hk)),
    by rwa [reaction_congr htabs]⟩

/-- A rise behind the start of its pulse is a rise of the state before. -/
theorem collect_state_rises (hn : n < 96) (hrises : collect n s = rise n (startPulse n s)) : s.Rises (collect n s) n := by
  rw [hrises]
  obtain ⟨waiting, pulsing, hpulse⟩ := startPulse_eq n s
  obtain ⟨hlive, hlatched, hcount, hothers, hfirst, hlast, hsent, hdropped, hsilent, hblank⟩ :=
    rise_rises hn (s.withPulses waiting pulsing)
  rw [hpulse]
  exact ⟨hlive, hlatched, hcount, hothers, hfirst, hlast, hsent, hdropped, hsilent, hblank⟩

/-- What a rise and the permissions after it leave of the collector, the objects and the events. -/
structure State.After (w t : State) : Prop where
  pulses : t.fault.waiting = w.fault.waiting ∧ t.fault.pulsing = w.fault.pulsing
  latched : t.fault.latched = w.fault.latched
  live : t.fault.live = w.fault.live.filter t.reporting
  discrepant : t.fault.discrepant = w.fault.discrepant
  events : t.traffic.events = w.traffic.events
  regAt : ∀ o i, o ∉ hidingObjs → i < 65536 → t.regAt o i = w.regAt o i

theorem after_settle (h : s.Within permissionFootprint u) : s.After (settle u) := by
  have hfault := h.part .fault (by decide)
  have hlive : u.fault.live = s.fault.live := h.part .live (by decide)
  have htraffic := h.part .traffic (by decide)
  have hwaiting := congrArg FaultState.waiting hfault
  have hpulsing := congrArg FaultState.pulsing hfault
  have hlatched := congrArg FaultState.latched hfault
  have hdiscrepant := congrArg FaultState.discrepant hfault
  have hevents := congrArg TrafficState.events htraffic
  refine ⟨⟨hwaiting, hpulsing⟩, hlatched, ?_, hdiscrepant, ?_, fun o i ho hi => ?_⟩
  · rw [settle_live, hlive, settle_reporting]
  · simp only [settle_frame]
    exact hevents
  · simp only [settle_frame]
    exact h.obj o i (by simpa [permissionFootprint, eventFootprint] using ho) hi

/-- The parts and objects of a rise with all that follows. -/
theorem sourceRise_frame (hn : n < 65536) (hu : (collect n s).Within permissionFootprint u) :
    s.frame (settle u) ([.fault, .live, .traffic] ++ tripParts) ([Obj.FAULT_COUNT, Obj.FAULT_FIRST_TIME,
      Obj.FAULT_LAST_TIME, Obj.EVENT_SEQUENCE, Obj.EVENTS_DROPPED] ++ hidingObjs) [] := by
  have hpulse := (startPulse_within n s).widen (parts1 := [.fault, .live, .traffic] ++ tripParts)
    (objs1 := [Obj.FAULT_COUNT, Obj.FAULT_FIRST_TIME, Obj.FAULT_LAST_TIME, Obj.EVENT_SEQUENCE, Obj.EVENTS_DROPPED] ++
      hidingObjs)
  have hcollect : (startPulse n s).Within (eventFootprint ([.fault, .live, .traffic] ++ tripParts)
      ([Obj.FAULT_COUNT, Obj.FAULT_FIRST_TIME, Obj.FAULT_LAST_TIME, Obj.EVENT_SEQUENCE, Obj.EVENTS_DROPPED] ++
        hidingObjs)) (collect n s) := by
    unfold collect
    dsimp only
    split
    · exact (rise_within hn _).widen
    · exact refl _ _
  exact ((hpulse.trans hcollect).trans hu.widen).eventFrame

theorem sourceRise_next (hacts : s.acts 7 = true) : exec (.faultSourceRise n) s = .next (settle (sourceRise n s)) :=
  onIsland_acts s (sourceRise n) 7 hacts

theorem collect_keeps (n : Nat) (s : State) : (collect n s).safety = s.safety ∧ (collect n s).tabs = s.tabs ∧
    ∀ k, s.fault.latched.contains k = true → (collect n s).fault.latched.contains k = true := by
  obtain ⟨-, hlatched, -, htabs, -, hsafety, -⟩ := startPulse_fields n s
  unfold collect
  dsimp only
  split
  · obtain ⟨hfault, hsafety1, htabs1⟩ := rise_fault n (startPulse n s)
    refine ⟨hsafety1.trans hsafety, htabs1.trans htabs, fun k hk => ?_⟩
    rw [hfault, contains_insertOnce, hlatched, hk]
    rfl
  · exact ⟨hsafety, htabs, fun k hk => by rwa [hlatched]⟩

/-- The permissions follow a rise as they follow a change that ends no safe blank. -/
theorem sourceRise_leaves (n : Nat) (s : State) :
    (collect n s).Within permissionFootprint (sourceRise n s) ∧
      (sourceRise n s).safeBlank = (collect n s).safeBlank ∧
      ((collect n s).blankReaction = true → ∀ c, ((sourceRise n s).chan c).permission = false) := by
  obtain ⟨hsafety, htabs, hlatched⟩ := collect_keeps n s
  exact safetyEvent_leaves (safeBlank_mono hsafety htabs hlatched) (congrArg SafetyState.evacFrom hsafety)

theorem sourceRise_clause (hacts : s.acts 7 = true) (hreserved : reservedSource n = false)
    (hlive : s.fault.live.contains n = false)
    (hdue : s.reporting n = true ∨ (pulseSource n = true ∧ 0 < Sparse.get (fun _ => 0) s.fault.waiting n)) :
    ∃ t, exec (.faultSourceRise n) s = .next t ∧ t.fault.live.contains n = t.reporting n ∧
      t.fault.latched.contains n = true ∧
      t.regAt Obj.FAULT_COUNT n = min (s.regAt Obj.FAULT_COUNT n + 1) 65535 ∧
      t.regAt Obj.FAULT_FIRST_TIME n =
        (if s.fault.latched.contains n then s.regAt Obj.FAULT_FIRST_TIME n else s.stampA) ∧
      t.regAt Obj.FAULT_LAST_TIME n = s.stampA ∧
      (pulseSource n = true → 0 < Sparse.get (fun _ => 0) s.fault.waiting n → s.fault.pulsing.contains n = false →
        Sparse.get (fun _ => 0) t.fault.waiting n = Sparse.get (fun _ => 0) s.fault.waiting n - 1 ∧
        t.fault.pulsing.contains n = true) ∧
      (s.reaction n = 3 → t.safeBlank = true ∧ (t.chan .a).permission = false ∧ (t.chan .b).permission = false) ∧
      (∀ k, k ≠ n → t.fault.latched.contains k = s.fault.latched.contains k ∧
        (k < 96 → t.regAt Obj.FAULT_COUNT k = s.regAt Obj.FAULT_COUNT k)) ∧
      (1 ≤ s.reaction n → s.traffic.events.length < 64 →
        t.traffic.events = s.traffic.events ++
          [{ code := 0x100 + n, time := s.stampA, data := natLE 2 (t.regAt Obj.FAULT_COUNT n) }] ∧
        t.reg Obj.EVENTS_DROPPED = s.reg Obj.EVENTS_DROPPED) ∧
      (1 ≤ s.reaction n → 64 ≤ s.traffic.events.length → t.traffic.events = s.traffic.events ∧
        t.reg Obj.EVENTS_DROPPED = (s.reg Obj.EVENTS_DROPPED + 1) % 2 ^ 32) ∧
      (s.reaction n = 0 → t.traffic.events = s.traffic.events ∧ t.reg Obj.EVENT_SEQUENCE = s.reg Obj.EVENT_SEQUENCE) ∧
      s.frame t ([.fault, .live, .traffic] ++ tripParts) ([Obj.FAULT_COUNT, Obj.FAULT_FIRST_TIME, Obj.FAULT_LAST_TIME,
        Obj.EVENT_SEQUENCE, Obj.EVENTS_DROPPED] ++ hidingObjs) [] := by
  have hn : n < 96 := by
    simp only [reservedSource, Bool.or_eq_false_iff, decide_eq_false_iff_not] at hreserved
    omega
  have hn1 : n < 65536 := by omega
  have hrises := collect_rises hlive (reporting_startPulse hreserved hdue)
  have hstate := collect_state_rises hn hrises
  obtain ⟨hwithin, hblank, hwithdrawn⟩ := sourceRise_leaves n s
  have hafter := after_settle hwithin
  have hlatched : ∀ k, (settle (sourceRise n s)).fault.latched.contains k = (s.fault.latched.contains k || k == n) := by
    intro k
    rw [hafter.latched, hstate.latched, contains_insertOnce]
  have hreg : ∀ o, o ∉ hidingObjs → (settle (sourceRise n s)).reg o = (collect n s).reg o := fun o ho =>
    hafter.regAt o 0 ho (by decide)
  have hcount := hafter.regAt Obj.FAULT_COUNT n (by decide) hn1
  refine ⟨_, sourceRise_next hacts, ?_, ?_, hcount.trans hstate.count,
    (hafter.regAt _ n (by decide) hn1).trans hstate.first, (hafter.regAt _ n (by decide) hn1).trans hstate.last,
    fun hpulse hheld hidle => ?_, fun hreaction => ?_, fun k hk => ⟨?_, fun hk96 => ?_⟩, ?_, ?_, ?_,
    sourceRise_frame hn1 hwithin⟩
  · rw [hafter.live, hstate.live]
    simp
  · rw [hlatched]
    simp
  · have hdue1 : s.pulseDue n := ⟨hpulse, hheld, hidle⟩
    obtain ⟨hwaiting, hpulsing⟩ := hafter.pulses
    obtain ⟨hfault, -, -⟩ := rise_fault n (startPulse n s)
    rw [hwaiting, hpulsing, hrises, hfault, startPulse_due hdue1]
    simp [State.withPulses]
  · have hblankReaction := hstate.blank hreaction
    have hsafe : (collect n s).safeBlank = true := by simp [State.safeBlank, hblankReaction]
    exact ⟨hblank.trans hsafe, hwithdrawn hblankReaction .a, hwithdrawn hblankReaction .b⟩
  · rw [hlatched]
    simp [hk]
  · exact (hafter.regAt _ k (by decide) (by omega)).trans (hstate.others k hk hk96)
  · rw [hafter.events, hreg _ (by decide), hcount]
    exact hstate.sent
  · rw [hafter.events, hreg _ (by decide)]
    exact hstate.dropped
  · rw [hafter.events, hreg _ (by decide)]
    exact hstate.silent

/-- A source that is reserved, live already, or neither reports nor has a pulse due, does not rise. -/
theorem sourceStill_clause (hacts : s.acts 7 = true)
    (hstill : reservedSource n = true ∨ s.fault.live.contains n = true ∨
      (s.reporting n = false ∧ (pulseSource n = false ∨ Sparse.get (fun _ => 0) s.fault.waiting n = 0))) :
    ∃ t, exec (.faultSourceRise n) s = .next t ∧ t.fault.latched = s.fault.latched ∧
      s.frame t (.fault :: tripParts) hidingObjs [] := by
  have hquiet : ((startPulse n s).reporting n && !s.fault.live.contains n) = false := by
    obtain hreserved | hlive | ⟨hsilent, hnone⟩ := hstill
    · rw [reporting_iff, hreserved]
      rfl
    · rw [hlive]
      simp
    · have hidle : ¬ s.pulseDue n := by
        rintro ⟨hpulse, hheld, -⟩
        obtain h | h := hnone
        · rw [h] at hpulse
          cases hpulse
        · omega
      rw [startPulse_idle hidle, hsilent]
      rfl
  have hcollect := collect_still hquiet
  obtain ⟨-, hlatched, -⟩ := startPulse_fields n s
  obtain ⟨hwithin, -, -⟩ := sourceRise_leaves n s
  have hafter := after_settle hwithin
  rw [hcollect] at hwithin hafter
  exact ⟨_, sourceRise_next hacts, hafter.latched.trans hlatched,
    ((startPulse_within n s).widen.trans hwithin.widen).eventFrame⟩

/-! ### The end of a pulse, and the pairs (R324, R326) -/

/-- No pulse source has a condition of its own. -/
theorem condition_pulse (hpulse : pulseSource n = true) (s : State) : s.condition n = false := by
  unfold State.condition
  split
  case h_35 => rfl
  all_goals exact absurd hpulse (by decide)

theorem pulseEnd_clause (n : Nat) (hacts : s.acts 7 = true) :
    ∃ t, exec (.faultPulseEnd n) s = .next t ∧ t.fault.pulsing = remove n s.fault.pulsing ∧
      (pulseSource n = true → s.forced n = false → s.fault.discrepant.contains n = false → t.fault.live.contains n = false) ∧
      s.frame t [.fault] [] [] := by
  have hw : s.Within (eventFootprint [.fault] []) (pulseOver n s) := (refl _ s).of_fields (fault := .inl (by decide))
  refine ⟨_, onIsland_acts s (pulseOver n) 7 hacts, rfl, fun hpulse hforced hpair => ?_, hw.eventFrame⟩
  have hcondition := condition_pulse hpulse (pulseOver n s)
  have hpulsing : (pulseOver n s).fault.pulsing.contains n = false := by simp [pulseOver, remove]
  have hn : n ≠ 95 := by
    rintro rfl
    exact absurd hpulse (by decide)
  have hforced1 : (pulseOver n s).forced n = false := hforced
  have hpair1 : (pulseOver n s).fault.discrepant.contains n = false := hpair
  have hsilent : (pulseOver n s).reporting n = false := by
    rw [reporting_iff, hforced1, hcondition, hpulsing, hpair1]
    simp [hn]
  rw [settle_live]
  simp [hsilent]

theorem confirmPair_clause (n : Nat) (hacts : s.acts 7 = true) :
    ∃ t, exec (.pairDiscrepantConfirm n) s = .next t ∧
      (n < 95 → t.fault.discrepant.contains n = true ∧ t.reporting 95 = true ∧ t.reporting n = !reservedSource n ∧
        s.frame t [.fault] [] []) ∧
      (95 ≤ n → s.frame t [] [] []) := by
  refine ⟨_, onIsland_acts s (confirmPair n) 7 hacts, fun hn => ?_, fun hn => ?_⟩
  · have hconfirm : confirmPair n s = { s with fault := { s.fault with discrepant := insertOnce n s.fault.discrepant } } :=
      if_neg (by omega)
    have hw : s.Within (eventFootprint [.fault] []) (confirmPair n s) := by
      rw [hconfirm]
      exact (refl _ s).of_fields (fault := .inl (by decide))
    have hpair : (confirmPair n s).fault.discrepant.contains n = true := by
      have hinsert : (insertOnce n s.fault.discrepant).contains n = true := by rw [contains_insertOnce]; simp
      rw [hconfirm]
      exact hinsert
    have hany : (confirmPair n s).fault.discrepant.isEmpty = false := by
      cases hlist : (confirmPair n s).fault.discrepant with
      | nil => rw [hlist] at hpair; cases hpair
      | cons => rfl
    refine ⟨hpair, ?_, ?_, hw.eventFrame⟩
    · rw [settle_reporting, reporting_iff, hany]
      simp [reservedSource]
    · rw [settle_reporting, reporting_iff, hpair]
      simp
  · have hnone : confirmPair n s = s := if_pos hn
    rw [hnone]
    exact (refl (eventFootprint [] []) s).eventFrame

theorem pairAgain_clause (n : Nat) (hacts : s.acts 7 = true) :
    ∃ t, exec (.pairDiscrepancyEnd n) s = .next t ∧ t.fault.discrepant = remove n s.fault.discrepant ∧
      s.frame t [.fault] [] [] := by
  have hw : s.Within (eventFootprint [.fault] []) (pairAgain n s) := (refl _ s).of_fields (fault := .inl (by decide))
  exact ⟨_, onIsland_acts s (pairAgain n) 7 hacts, rfl, hw.eventFrame⟩

end FaultRise

/-- Settles O54: a rise latches, so no safe blank ends by it and no evacuation demand begins to act; the permissions
follow, and leave what the rise has written. -/
theorem faultSourcesRiseAndFall : Obligations.FaultSourcesRiseAndFall :=
  ⟨fun _ _ => sourceRise_clause, fun _ _ => sourceStill_clause, fun _ n => pulseEnd_clause n,
    fun _ n => confirmPair_clause n, fun _ n => pairAgain_clause n⟩

end Sys2Proof.Machine

end

section
/-! Rings are managed by handle, TAIL and FIFO (11 R277, R278, R280, R286). -/

namespace Sys2Proof.Machine

set_option Elab.async false

section Rings

open State.Within

variable {s u : State} {q : Request} {r : Nat} {rq : Req} {obj : Nat} {data : Bytes} {act : Action}

/-! ### What a request to a ring finds and leaves -/

/-- The objects of a ring lie above COP_REQUESTS, which alone a request counts. -/
@[simp] theorem reg_asked_ring (s : State) (q : Request) (r : Nat) :
    (s.asked q).reg (Obj.RING_STATE r) = s.reg (Obj.RING_STATE r) ∧
    (s.asked q).reg (Obj.RING_HEAD r) = s.reg (Obj.RING_HEAD r) ∧
    (s.asked q).reg (Obj.RING_TAIL r) = s.reg (Obj.RING_TAIL r) ∧
    (s.asked q).reg (Obj.RING_BASE r) = s.reg (Obj.RING_BASE r) ∧
    (s.asked q).reg (Obj.RING_SIZE_LOG2 r) = s.reg (Obj.RING_SIZE_LOG2 r) ∧
    (s.asked q).reg (Obj.RING_PROGRESS r) = s.reg (Obj.RING_PROGRESS r) ∧
    (s.asked q).reg (Obj.RING_COMPLETED r) = s.reg (Obj.RING_COMPLETED r) ∧
    (s.asked q).reg (Obj.RING_PARTIAL r) = s.reg (Obj.RING_PARTIAL r) ∧
    (s.asked q).reg (Obj.RING_NOT_STARTED r) = s.reg (Obj.RING_NOT_STARTED r) :=
  ⟨s.reg_asked_layer q _ r, s.reg_asked_layer q _ r, s.reg_asked_layer q _ r, s.reg_asked_layer q _ r,
    s.reg_asked_layer q _ r, s.reg_asked_layer q _ r, s.reg_asked_layer q _ r, s.reg_asked_layer q _ r,
    s.reg_asked_layer q _ r⟩

@[simp] theorem ring_asked (s : State) (q : Request) : (s.asked q).ring = s.ring := by
  funext k
  simp [State.ring]

@[simp] theorem ringState_asked (s : State) (q : Request) (r : Nat) : (s.asked q).ringState r = s.ringState r :=
  s.reg_asked_layer q _ r

@[simp] theorem bursting_asked (s : State) (q : Request) (r : Nat) : (s.asked q).bursting r = s.bursting r := by
  simp [State.bursting]

@[simp] theorem ringOf_asked (s : State) (q : Request) (h : Nat) : (s.asked q).ringOf h = s.ringOf h := by
  simp [State.ringOf]

@[simp] theorem fifoClaimed_asked (s : State) (q : Request) (r : Nat) : (s.asked q).fifoClaimed r = s.fifoClaimed r := by
  simp [State.fifoClaimed]

@[simp] theorem fifoReserved_asked (s : State) (q : Request) (r : Nat) :
    (s.asked q).fifoReserved r = s.fifoReserved r := by
  simp [State.fifoReserved]

@[simp] theorem ringEmpty_asked (s : State) (q : Request) (r : Nat) : (s.asked q).ringEmpty r = s.ringEmpty r := by
  simp only [State.ringEmpty, reg_asked_ring]

@[simp] theorem slotAddr_asked (s : State) (q : Request) (r : Nat) : (s.asked q).slotAddr r = s.slotAddr r := by
  simp only [State.slotAddr, State.ringSlots, State.limited, reg_asked_ring]

/-- What a request that is done leaves of its action: the objects, the rings and the occurrences. -/
structure State.Concluded (s t u : State) (q : Request) : Prop where
  answered : t.answered q.rq 0 = true
  reg : t.reg = u.reg
  ring : t.ring = u.ring
  waiting : t.fault.waiting = u.fault.waiting
  frame : ∀ {parts : List Part} {objs : List Nat}, (s.asked q).Within (eventFootprint parts objs) u →
    s.hostFrame t parts objs []

theorem concluded_done (s u : State) (q : Request) : s.Concluded (settle (conclude q (.done u))) u q where
  answered := State.respond_answered _ _ _ _ _
  reg := by simp [conclude]
  ring := by
    funext k
    simp [conclude, State.ring]
  waiting := by
    rw [settle_waiting]
    simp [conclude]
  frame := fun h => hostFrame_conclude_done h (fun _ => id) (fun o ho => List.contains_iff_mem.mp ho) rfl fun _ _ => rfl

/-- A command to the rings that is done. -/
theorem ringCommand_done (hadmits : s.admitsWrite rq obj data = true) (hcmd : (rowOf obj).map (·.ty) = some .cmd)
    (hact : act (wholeWrite rq obj data) (s.asked (wholeWrite rq obj data)) = .done u) :
    ∃ t, hostWrite act rq obj data s = .next t ∧ s.Concluded t u (wholeWrite rq obj data) :=
  ⟨_, hostWrite_command hadmits hcmd hact, concluded_done s u _⟩

/-! ### Create and resume (R277, R286) -/

/-- A ring with its objects at their defaults, IDLE under its handle. -/
def ringCreated (r : Nat) (s : State) : State :=
  (((s.clearRegs (Obj.RING_LAST_CAUSE r :: ringObjects r)).setRing r { gen := (s.ring r).gen }).setReg
    (Obj.RING_STATE r) 1).setReg (Obj.RING_HANDLE r) (handleOf 0x20 (s.ring r).gen r)

theorem actRingCreate_done (hr : q.arg = r) (hhost : 8 ≤ r) (hlast : r ≤ 63) (hfree : s.ringState r = 0) :
    actRingCreate q s = .done (ringCreated r s) := by
  subst hr
  exact (if_neg (by omega)).trans ((if_neg (by omega)).trans (if_neg (by simp [hfree])))

theorem setReg_ring (s : State) (o v : Nat) : (s.setReg o v).ring = s.ring := by
  funext k
  simp [State.ring]

theorem bump_ring (s : State) (o : Nat) : (s.bump o).ring = s.ring := by
  funext k
  simp [State.ring]

theorem clearRegs_ring (s : State) (l : List Nat) : (s.clearRegs l).ring = s.ring := by
  funext k
  simp [State.ring]

theorem ringCreated_leaves (r : Nat) (s : State) : (ringCreated r s).ringState r = 1 ∧
    (ringCreated r s).reg (Obj.RING_HANDLE r) = handleOf 0x20 (s.ring r).gen r ∧
    (∀ o, o ∈ Obj.RING_LAST_CAUSE r :: ringObjects r → (ringCreated r s).reg o = objDefault o) ∧
    ∀ k, (ringCreated r s).ring k = if k = r then { gen := (s.ring r).gen } else s.ring k := by
  refine ⟨?_, ?_, fun o ho => ?_, fun k => ?_⟩
  · simp [ringCreated, State.ringState]
  · simp [ringCreated]
  · have hstate : o ≠ Obj.RING_STATE r := by
      rintro rfl
      simp [ringObjects] at ho
    have hhandle : o ≠ Obj.RING_HANDLE r := by
      rintro rfl
      simp [ringObjects] at ho
    simp only [ringCreated, State.reg_setReg, if_neg hstate, if_neg hhandle, State.setRing_frame, State.reg_clearRegs,
      List.contains_iff_mem.mpr ho, if_true]
  · simp only [ringCreated, setReg_ring, State.ring_setRing, clearRegs_ring]

theorem ringCreated_within (r : Nat) (s : State) : s.Within (eventFootprint [.memory]
    (Obj.RING_STATE r :: Obj.RING_HANDLE r :: Obj.RING_LAST_CAUSE r :: ringObjects r)) (ringCreated r s) := by
  have hobj : ∀ o ∈ Obj.RING_STATE r :: Obj.RING_HANDLE r :: Obj.RING_LAST_CAUSE r :: ringObjects r,
      (eventFootprint [.memory]
        (Obj.RING_STATE r :: Obj.RING_HANDLE r :: Obj.RING_LAST_CAUSE r :: ringObjects r)).objs o = true :=
    fun o ho => List.contains_iff_mem.mpr ho
  have hclear := (refl _ s).clearRegs (Obj.RING_LAST_CAUSE r :: ringObjects r) fun o ho =>
    hobj o (List.mem_cons_of_mem _ (List.mem_cons_of_mem _ ho))
  exact (((hclear.setRing r _ List.mem_cons_self).setReg _ _ (hobj _ List.mem_cons_self)).setReg _ _
    (hobj _ (List.mem_cons_of_mem _ List.mem_cons_self)))

theorem ringCreate_clause (hadmits : s.admitsWrite rq Obj.RING_CREATE data = true) (hr : leNat data = r)
    (hhost : 8 ≤ r) (hlast : r ≤ 63) (hfree : s.ringState r = 0) :
    ∃ t, exec (.ringCreate rq data) s = .next t ∧ t.answered rq 0 = true ∧ t.ringState r = 1 ∧
      t.reg (Obj.RING_HANDLE r) = handleOf 0x20 (s.ring r).gen r ∧ t.ring r = { gen := (s.ring r).gen } ∧
      (∀ o, o ∈ Obj.RING_LAST_CAUSE r :: ringObjects r → t.reg o = objDefault o) ∧ (∀ k, k ≠ r → t.ring k = s.ring k) ∧
      s.hostFrame t [.memory] (Obj.RING_STATE r :: Obj.RING_HANDLE r :: Obj.RING_LAST_CAUSE r :: ringObjects r) [] := by
  obtain ⟨t, hexec, hdone⟩ := ringCommand_done hadmits (by decide +kernel)
    (actRingCreate_done hr hhost hlast (by rwa [ringState_asked]))
  obtain ⟨hstate, hhandle, hdefaults, hrings⟩ := ringCreated_leaves r (s.asked (wholeWrite rq Obj.RING_CREATE data))
  simp only [ring_asked] at hhandle hrings
  refine ⟨t, hexec, hdone.answered, ?_, ?_, ?_, fun o ho => ?_, fun k hk => ?_, hdone.frame (ringCreated_within r _)⟩
  · rw [State.ringState, hdone.reg]
    exact hstate
  · rw [hdone.reg, hhandle]
  · rw [hdone.ring, hrings, if_pos rfl]
  · rw [hdone.reg, hdefaults o ho]
  · rw [hdone.ring, hrings, if_neg hk]

theorem actRingCreate_abort (q : Request) (s : State) :
    (63 < q.arg → actRingCreate q s = .abort s abortNoObject) ∧
    (q.arg ≤ 7 → actRingCreate q s = .abort s abortDenied) ∧
    (8 ≤ q.arg → q.arg ≤ 63 → s.ringState q.arg ≠ 0 → actRingCreate q s = .abort s abortBusy) := by
  refine ⟨fun h => if_pos h, fun h => ?_, fun h1 h2 h3 => ?_⟩
  · exact (if_neg (by omega)).trans (if_pos h)
  · exact (if_neg (by omega)).trans ((if_neg (by omega)).trans (if_pos h3))

theorem ringCreate_aborts (hadmits : s.admitsWrite rq Obj.RING_CREATE data = true) :
    (63 < leNat data → ∃ t, exec (.ringCreate rq data) s = .next t ∧ s.turnsAway t rq abortNoObject) ∧
    (leNat data ≤ 7 → ∃ t, exec (.ringCreate rq data) s = .next t ∧ s.turnsAway t rq abortDenied) ∧
    (8 ≤ leNat data → leNat data ≤ 63 → s.ringState (leNat data) ≠ 0 →
      ∃ t, exec (.ringCreate rq data) s = .next t ∧ s.turnsAway t rq abortBusy) := by
  obtain ⟨hnone, hdevice, htaken⟩ := actRingCreate_abort (wholeWrite rq Obj.RING_CREATE data)
    (s.asked (wholeWrite rq Obj.RING_CREATE data))
  refine ⟨fun h => ?_, fun h => ?_, fun h1 h2 h3 => ?_⟩
  · exact hostWrite_command_abort hadmits (by decide +kernel) (hnone h) (by decide) (by decide)
  · exact hostWrite_command_abort hadmits (by decide +kernel) (hdevice h) (by decide) (by decide)
  · exact hostWrite_command_abort hadmits (by decide +kernel) (htaken h1 h2 (by rwa [ringState_asked])) (by decide)
      (by decide)

/-- A handle names a host ring that is not FREE, or the request is turned away. -/
theorem ringOf_ring {h : Nat} (hring : s.ringOf h = .inl r) : 8 ≤ r ∧ r ≤ 63 ∧ s.ringState r ≠ 0 := by
  unfold State.ringOf at hring
  dsimp only at hring
  split_ifs at hring with hclass hdevice hheld
  simp only [Bool.and_eq_true, decide_eq_true_eq] at hheld
  obtain ⟨⟨hlast, hstate⟩, -⟩ := hheld
  obtain rfl := Sum.inl.inj hring
  exact ⟨by omega, hlast, hstate⟩

theorem ringOf_abort {h code : Nat} (hring : s.ringOf h = .inr code) : code ≠ 0 ∧ code ≠ abortAsleep := by
  unfold State.ringOf at hring
  dsimp only at hring
  split_ifs at hring <;> obtain rfl := Sum.inr.inj hring <;> decide

theorem ringHandle_aborts {code : Nat} (hring : s.ringOf (leNat data % 2 ^ 32) = .inr code) :
    (s.admitsWrite rq Obj.RING_DESTROY data = true →
      ∃ t, exec (.ringDestroy rq data) s = .next t ∧ s.turnsAway t rq code) ∧
    (s.admitsWrite rq Obj.RING_HALT data = true →
      ∃ t, exec (.ringHalt rq data) s = .next t ∧ s.turnsAway t rq code) ∧
    (s.admitsWrite rq Obj.RING_RESUME data = true →
      ∃ t, exec (.ringResume rq data) s = .next t ∧ s.turnsAway t rq code) := by
  obtain ⟨hcode, hawake⟩ := ringOf_abort hring
  have hasked : ∀ q, (s.asked q).ringOf (leNat data % 2 ^ 32) = .inr code := fun q => by rwa [ringOf_asked]
  refine ⟨fun hadmits => ?_, fun hadmits => ?_, fun hadmits => ?_⟩
  · exact hostWrite_command_abort hadmits (by decide +kernel)
      (by simp only [actRingDestroy, Request.arg, wholeWrite, hasked]) hcode hawake
  · exact hostWrite_command_abort hadmits (by decide +kernel)
      (by simp only [actRingHalt, Request.arg, wholeWrite, hasked]) hcode hawake
  · exact hostWrite_command_abort hadmits (by decide +kernel)
      (by simp only [actRingResume, Request.arg, wholeWrite, hasked]) hcode hawake

/-- A HALTED ring that is resumed; any other stays. -/
def ringResumed (r : Nat) (s : State) : State := if s.ringState r = 3 then settleRing r s else s

theorem actRingResume_done (hring : s.ringOf (q.arg % 2 ^ 32) = .inl r) : actRingResume q s = .done (ringResumed r s) := by
  simp only [actRingResume, hring, ringResumed]
  split <;> rfl

theorem ringResumed_state (r : Nat) (s : State) : (ringResumed r s).ringState r =
    if s.ringState r = 3 then (if s.ringEmpty r then 1 else 2) else s.ringState r := by
  unfold ringResumed
  split
  · simp [settleRing, State.ringState]
  · rfl

theorem ringResumed_within (r : Nat) (s : State) :
    s.Within (eventFootprint [] [Obj.RING_STATE r]) (ringResumed r s) := by
  unfold ringResumed
  split
  · exact (refl _ s).setReg _ _ (by simp [eventFootprint])
  · exact refl _ s

theorem ringResume_clause (hadmits : s.admitsWrite rq Obj.RING_RESUME data = true)
    (hring : s.ringOf (leNat data % 2 ^ 32) = .inl r) :
    ∃ t, exec (.ringResume rq data) s = .next t ∧ t.answered rq 0 = true ∧
      t.ringState r = (if s.ringState r = 3 then (if s.ringEmpty r then 1 else 2) else s.ringState r) ∧
      s.hostFrame t [] [Obj.RING_STATE r] [] := by
  obtain ⟨t, hexec, hdone⟩ := ringCommand_done hadmits (by decide +kernel)
    (actRingResume_done ((ringOf_asked s _ _).trans hring))
  refine ⟨t, hexec, hdone.answered, ?_, hdone.frame (ringResumed_within r _)⟩
  have hstate := ringResumed_state r (s.asked (wholeWrite rq Obj.RING_RESUME data))
  rw [ringState_asked, ringEmpty_asked] at hstate
  rw [State.ringState, hdone.reg]
  exact hstate

/-! ### What follows the end of a descriptor (R277, R286) -/

/-- No descriptor of the ring is in progress any more. -/
def ringIdled (r : Nat) (u : State) : State :=
  u.setRing r { u.ring r with descriptor := none, haltWanted := false, suspended := false }

/-- `v` is `u` with ring `r` stopped: FREE when it is to be destroyed, else HALTED. -/
structure State.Stops (u v : State) (r : Nat) : Prop where
  others : ∀ k, k ≠ r → v.ring k = u.ring k
  idle : (v.ring r).descriptor = none
  freed : (u.ring r).destroyWanted = true → v.ringState r = 0 ∧ v.reg (Obj.RING_HANDLE r) = 0 ∧
    v.ring r = { gen := nextGen (u.ring r).gen } ∧ ∀ o, o ∈ ringObjects r → v.reg o = objDefault o
  halted : (u.ring r).destroyWanted = false → v.ringState r = 3 ∧ (∀ o, o ≠ Obj.RING_STATE r → v.reg o = u.reg o) ∧
    u.Within (eventFootprint [.memory] [Obj.RING_STATE r]) v
  kept : ∀ o, o ∉ Obj.RING_STATE r :: Obj.RING_HANDLE r :: ringObjects r → v.reg o = u.reg o
  waiting : v.fault.waiting = u.fault.waiting
  within : u.Within (eventFootprint [.memory] (Obj.RING_STATE r :: Obj.RING_HANDLE r :: ringObjects r)) v

theorem ringIdled_ring (r : Nat) (u : State) (k : Nat) : (ringIdled r u).ring k =
    if k = r then { u.ring r with descriptor := none, haltWanted := false, suspended := false } else u.ring k :=
  u.ring_setRing r k _

theorem freeRing_reg (r : Nat) (u : State) (o : Nat) : (freeRing r u).reg o =
    if o = Obj.RING_HANDLE r then 0 else if o = Obj.RING_STATE r then 0
    else if (ringObjects r).contains o then objDefault o else u.reg o := by
  simp only [freeRing, State.setRing_frame, State.reg_setReg, State.reg_clearRegs]

theorem freeRing_ring (r : Nat) (u : State) (k : Nat) :
    (freeRing r u).ring k = if k = r then { gen := nextGen (u.ring r).gen } else u.ring k := by
  simp only [freeRing, State.ring_setRing, setReg_ring, clearRegs_ring]

theorem freeRing_within (r : Nat) (u : State) :
    u.Within (eventFootprint [.memory] (Obj.RING_STATE r :: Obj.RING_HANDLE r :: ringObjects r)) (freeRing r u) := by
  have hobj : ∀ o ∈ Obj.RING_STATE r :: Obj.RING_HANDLE r :: ringObjects r,
      (eventFootprint [.memory] (Obj.RING_STATE r :: Obj.RING_HANDLE r :: ringObjects r)).objs o = true :=
    fun o ho => List.contains_iff_mem.mpr ho
  have hclear := (refl _ u).clearRegs (ringObjects r) fun o ho =>
    hobj o (List.mem_cons_of_mem _ (List.mem_cons_of_mem _ ho))
  exact ((hclear.setReg _ _ (hobj _ List.mem_cons_self)).setReg _ _
    (hobj _ (List.mem_cons_of_mem _ List.mem_cons_self))).setRing r _ List.mem_cons_self

theorem freeRing_stops (hdestroy : (u.ring r).destroyWanted = true) : u.Stops (freeRing r (ringIdled r u)) r where
  others k hk := by rw [freeRing_ring, if_neg hk, ringIdled_ring, if_neg hk]
  idle := by rw [freeRing_ring, if_pos rfl]
  freed _ := by
    refine ⟨?_, ?_, ?_, fun o ho => ?_⟩
    · rw [State.ringState, freeRing_reg, if_neg (by simp), if_pos rfl]
    · rw [freeRing_reg, if_pos rfl]
    · rw [freeRing_ring, if_pos rfl, ringIdled_ring, if_pos rfl]
    · have hhandle : o ≠ Obj.RING_HANDLE r := by
        rintro rfl
        simp [ringObjects] at ho
      have hstate : o ≠ Obj.RING_STATE r := by
        rintro rfl
        simp [ringObjects] at ho
      rw [freeRing_reg, if_neg hhandle, if_neg hstate, if_pos (List.contains_iff_mem.mpr ho)]
  halted h := by
    rw [hdestroy] at h
    cases h
  kept o ho := by
    simp only [List.mem_cons, not_or] at ho
    obtain ⟨hstate, hhandle, hobjs⟩ := ho
    rw [freeRing_reg, if_neg hhandle, if_neg hstate, if_neg (by simpa using hobjs)]
    simp [ringIdled]
  waiting := by simp [freeRing, ringIdled]
  within := ((refl _ u).setRing r _ List.mem_cons_self).trans (freeRing_within r _)

theorem haltRing_stops (hkeep : (u.ring r).destroyWanted = false) :
    u.Stops ((ringIdled r u).setReg (Obj.RING_STATE r) 3) r where
  others k hk := by rw [setReg_ring, ringIdled_ring, if_neg hk]
  idle := by rw [setReg_ring, ringIdled_ring, if_pos rfl]
  freed h := by
    rw [hkeep] at h
    cases h
  halted _ := by
    refine ⟨by simp [State.ringState], fun o ho => ?_, ?_⟩
    · rw [State.reg_setReg, if_neg ho]
      simp [ringIdled]
    · exact ((refl _ u).setRing r _ List.mem_cons_self).setReg _ _ (by simp [eventFootprint])
  kept o ho := by
    have hstate : o ≠ Obj.RING_STATE r := fun h => ho (by rw [h]; exact List.mem_cons_self)
    rw [State.reg_setReg, if_neg hstate]
    simp [ringIdled]
  waiting := by simp [ringIdled]
  within := ((refl _ u).setRing r _ List.mem_cons_self).setReg _ _ (by simp [eventFootprint])

/-- The end of a descriptor stops its ring where it halts. -/
theorem afterDescriptor_stops (r : Nat) (u : State) : u.Stops (afterDescriptor r true u) r := by
  cases hdestroy : (u.ring r).destroyWanted with
  | true =>
    have hfree : afterDescriptor r true u = freeRing r (ringIdled r u) := if_pos hdestroy
    rw [hfree]
    exact freeRing_stops hdestroy
  | false =>
    have hhalt : afterDescriptor r true u = (ringIdled r u).setReg (Obj.RING_STATE r) 3 :=
      (if_neg (by simp [hdestroy])).trans (if_pos rfl)
    rw [hhalt]
    exact haltRing_stops hdestroy

/-! ### A descriptor that is stopped (R284, R289) -/

/-- What a stopped descriptor leaves before its ring stops: HEAD, its counts, and its cause or that of its write-back. -/
structure State.DescriptorStopped (s u : State) (r : Nat) : Prop where
  rings : u.ring = s.ring
  within : s.Within (eventFootprint ringEndParts (ringEndObjs r)) u
  head : u.reg (Obj.RING_HEAD r) = (s.reg (Obj.RING_HEAD r) + 1) % 2 ^ 32
  progress : u.reg (Obj.RING_PROGRESS r) = 0
  cause : u.reg (Obj.RING_LAST_CAUSE r) = if s.writeBackMeets r .none ≠ 0 then s.writeBackMeets r .none else 9
  completed : u.reg (Obj.RING_COMPLETED r) = s.reg (Obj.RING_COMPLETED r)
  partly : u.reg (Obj.RING_PARTIAL r) =
    if s.writeBackMeets r .none = 0 ∧ s.reg (Obj.RING_PROGRESS r) ≠ 0 then (s.reg (Obj.RING_PARTIAL r) + 1) % 2 ^ 32
    else s.reg (Obj.RING_PARTIAL r)
  notStarted : u.reg (Obj.RING_NOT_STARTED r) =
    if s.writeBackMeets r .none = 0 ∧ s.reg (Obj.RING_PROGRESS r) = 0 then
      (s.reg (Obj.RING_NOT_STARTED r) + 1) % 2 ^ 32
    else s.reg (Obj.RING_NOT_STARTED r)
  waiting : s.writeBackMeets r .none = 0 → 0 < Sparse.get (fun _ => 0) u.fault.waiting 71

theorem writeBackMeets_none (s : State) (r : Nat) :
    s.writeBackMeets r .none = (s.translate (s.slotAddr r) 32 true true).cause := by
  unfold State.writeBackMeets State.writeBackCause
  split
  · rfl
  next h => exact (not_not.mp h).symm

/-- HEAD advances, and nothing of the next descriptor has moved. -/
def headAdvanced (r : Nat) (s : State) : State := (s.bump (Obj.RING_HEAD r)).setReg (Obj.RING_PROGRESS r) 0

/-- The write-back of a stopped descriptor meets a fault. -/
def writeBackFaulted (r : Nat) (s : State) : State :=
  ((headAdvanced r s).noteTranslation (s.slotAddr r) (s.writeBackMeets r .none)).setReg (Obj.RING_LAST_CAUSE r)
    (s.writeBackMeets r .none)

/-- The image of a stopped descriptor is written back, and it is counted. -/
def writtenBack (r : Nat) (image : Bytes) (s : State) : State :=
  let t := s.translate (s.slotAddr r) 32 true true
  let s3 := (((headAdvanced r s).setTarget t image).writtenOver s.memory.issued t 32).setReg (Obj.RING_LAST_CAUSE r) 9
  (s3.bump (if s.reg (Obj.RING_PROGRESS r) = 0 then Obj.RING_NOT_STARTED r else Obj.RING_PARTIAL r)).occur 71

theorem stopDescriptor_faulted (d : Bytes) (hfault : s.writeBackMeets r .none ≠ 0) :
    stopDescriptor r d 9 .none s = afterDescriptor r true (writeBackFaulted r s) := by
  rw [writeBackMeets_none] at hfault
  have h96 : ¬ (9 : Nat) = 6 := by decide
  simp only [stopDescriptor, endDescriptor, writeBackFaulted, writeBackMeets_none, headAdvanced, State.writeBackCause,
    if_pos hfault, if_neg h96]

/-- The image that a stopped descriptor is written back with. -/
def stopImage (r : Nat) (d : Bytes) (s : State) : Bytes :=
  d.take 22 ++ [BitVec.ofNat 8 (if s.reg (Obj.RING_PROGRESS r) = 0 then 3 else 2), BitVec.ofNat 8 9] ++
    (d.drop 24).take 4 ++ natLE 4 (s.reg (Obj.RING_PROGRESS r))

theorem stopDescriptor_written (d : Bytes) (hsound : s.writeBackMeets r .none = 0) :
    stopDescriptor r d 9 .none s = afterDescriptor r true (writtenBack r (stopImage r d s) s) := by
  rw [writeBackMeets_none] at hsound
  have h96 : ¬ (9 : Nat) = 6 := by decide
  have hcause : ¬ (s.translate (s.slotAddr r) 32 true true).cause ≠ 0 := not_not.mpr hsound
  have hzero : ¬ (0 : Nat) ≠ 0 := by decide
  have h31 : ¬ (3 : Nat) = 1 := by decide
  have h32 : ¬ (3 : Nat) = 2 := by decide
  have h21 : ¬ (2 : Nat) = 1 := by decide
  unfold stopDescriptor endDescriptor writtenBack stopImage headAdvanced
  simp only [State.writeBackCause, if_neg hcause, if_neg h96, if_neg hzero, decide_true, Bool.or_true]
  by_cases hstarted : s.reg (Obj.RING_PROGRESS r) = 0
  · simp only [if_pos hstarted, if_neg h31, if_neg h32]
  · simp only [if_neg hstarted, if_neg h21, if_true]

/-- What the end of a descriptor may touch. -/
def ringEndFootprint (r : Nat) : Footprint := eventFootprint ringEndParts (ringEndObjs r)

theorem ringEnd_objs (r o : Nat) (ho : o ∈ [Obj.RING_HEAD r, Obj.RING_PROGRESS r, Obj.RING_LAST_CAUSE r, Obj.RING_PARTIAL r,
    Obj.RING_NOT_STARTED r]) : (ringEndFootprint r).objs o = true := by
  refine List.contains_iff_mem.mpr ?_
  simp only [List.mem_cons, List.not_mem_nil, or_false] at ho
  obtain rfl | rfl | rfl | rfl | rfl := ho <;> simp [ringEndObjs, ringObjects]

theorem ringEnd_reads (r : Nat) : (ringEndFootprint r).Reads where
  objs o ho := List.contains_iff_mem.mpr (by simp [ringEndObjs, ho])
  fault := by simp [ringEndFootprint, eventFootprint, ringEndParts]
  memory := by simp [ringEndFootprint, eventFootprint, ringEndParts]

/-- The objects that count ends of descriptors and HEAD have 32 bits. -/
theorem widthOf_ringCounters (hr : r ≤ 63) : widthOf (Obj.RING_HEAD r) = 32 ∧ widthOf (Obj.RING_PARTIAL r) = 32 ∧
    widthOf (Obj.RING_NOT_STARTED r) = 32 := by
  interval_cases r <;> decide

theorem headAdvanced_within (r : Nat) (s : State) : s.Within (ringEndFootprint r) (headAdvanced r s) :=
  ((refl _ s).bump _ (ringEnd_objs r _ (by simp))).setReg _ _ (ringEnd_objs r _ (by simp))

theorem headAdvanced_reg (hr : r ≤ 63) (s : State) (o : Nat) : (headAdvanced r s).reg o =
    if o = Obj.RING_PROGRESS r then 0 else if o = Obj.RING_HEAD r then (s.reg (Obj.RING_HEAD r) + 1) % 2 ^ 32
    else s.reg o := by
  obtain ⟨hhead, -, -⟩ := widthOf_ringCounters hr
  simp only [headAdvanced, State.reg_setReg, State.reg_bump, hhead]

theorem headAdvanced_ring (r : Nat) (s : State) : (headAdvanced r s).ring = s.ring := by
  rw [headAdvanced, setReg_ring, bump_ring]

theorem noteTranslation_reg (s : State) (a cause : Nat) {o : Nat}
    (ho : o ∉ [Obj.TRANSLATION_FAULTS, Obj.LAST_FAULT_ADDR]) : (s.noteTranslation a cause).reg o = s.reg o := by
  simp only [List.mem_cons, List.not_mem_nil, or_false, not_or] at ho
  obtain ⟨hfaults, haddr⟩ := ho
  unfold State.noteTranslation
  split
  · rw [State.reg_setReg, if_neg haddr, State.reg_bump, if_neg hfaults]
  · rfl

theorem noteTranslation_ring (s : State) (a cause : Nat) : (s.noteTranslation a cause).ring = s.ring := by
  unfold State.noteTranslation
  split
  · rw [setReg_ring, bump_ring]
  · rfl

theorem setTarget_keeps (s : State) (t : Target) (bs : Bytes) :
    (s.setTarget t bs).ring = s.ring ∧ (s.setTarget t bs).reg = s.reg := by
  unfold State.setTarget
  split
  · exact ⟨rfl, rfl⟩
  · exact ⟨rfl, rfl⟩

theorem setTarget_within (r : Nat) (s : State) (t : Target) (bs : Bytes) :
    s.Within (ringEndFootprint r) (s.setTarget t bs) := by
  unfold State.setTarget
  split
  · exact ((refl (ringEndFootprint r) s).setStaging _ _ (by simp [ringEndFootprint, eventFootprint, ringEndParts])).memory _
      (ringEnd_reads r).memory
  · exact ((refl (ringEndFootprint r) s).setMem _ _ (by simp [ringEndFootprint, eventFootprint, ringEndParts])).memory _
      (ringEnd_reads r).memory

theorem writtenOver_keeps (s : State) (issue : Nat) (t : Target) (n : Nat) :
    (s.writtenOver issue t n).ring = s.ring ∧ (s.writtenOver issue t n).reg = s.reg := ⟨rfl, rfl⟩

theorem writeBackFaulted_reg (r : Nat) (s : State) {o : Nat} (ho : o ∉ [Obj.TRANSLATION_FAULTS, Obj.LAST_FAULT_ADDR]) :
    (writeBackFaulted r s).reg o = if o = Obj.RING_LAST_CAUSE r then s.writeBackMeets r .none
      else (headAdvanced r s).reg o := by
  rw [writeBackFaulted, State.reg_setReg, noteTranslation_reg _ _ _ ho]

theorem writeBackFaulted_stopped (hr : r ≤ 63) (hfault : s.writeBackMeets r .none ≠ 0) :
    s.DescriptorStopped (writeBackFaulted r s) r := by
  have hreg : ∀ o, o ∉ [Obj.TRANSLATION_FAULTS, Obj.LAST_FAULT_ADDR] → (writeBackFaulted r s).reg o =
      if o = Obj.RING_LAST_CAUSE r then s.writeBackMeets r .none else if o = Obj.RING_PROGRESS r then 0
      else if o = Obj.RING_HEAD r then (s.reg (Obj.RING_HEAD r) + 1) % 2 ^ 32 else s.reg o := fun o ho => by
    rw [writeBackFaulted_reg r s ho, headAdvanced_reg hr]
  have hnotes : ∀ c, 5783552 ≤ c → c + 256 * r ∉ [Obj.TRANSLATION_FAULTS, Obj.LAST_FAULT_ADDR] := fun c hc => by
    simp only [List.mem_cons, List.not_mem_nil, or_false, Obj.TRANSLATION_FAULTS, Obj.LAST_FAULT_ADDR]
    omega
  exact
    { rings := by rw [writeBackFaulted, setReg_ring, noteTranslation_ring, headAdvanced_ring]
      within := (((headAdvanced_within r s).noteTranslation (ringEnd_reads r) _ _).setReg _ _ (ringEnd_objs r _ (by simp)))
      head := (hreg _ (hnotes _ (by decide))).trans (by simp)
      progress := (hreg _ (hnotes _ (by decide))).trans (by simp)
      cause := (hreg _ (hnotes _ (by decide))).trans (by simp [hfault])
      completed := (hreg _ (hnotes _ (by decide))).trans (by simp)
      partly := (hreg _ (hnotes _ (by decide))).trans (by simp [hfault])
      notStarted := (hreg _ (hnotes _ (by decide))).trans (by simp [hfault])
      waiting := fun h => absurd h hfault }

/-- The counter of a descriptor that is stopped: nothing of it has been written, or a part (R284). -/
def stopCounter (r : Nat) (s : State) : Nat :=
  if s.reg (Obj.RING_PROGRESS r) = 0 then Obj.RING_NOT_STARTED r else Obj.RING_PARTIAL r

theorem stopCounter_cases (r : Nat) (s : State) :
    s.reg (Obj.RING_PROGRESS r) = 0 ∧ stopCounter r s = Obj.RING_NOT_STARTED r ∨
      s.reg (Obj.RING_PROGRESS r) ≠ 0 ∧ stopCounter r s = Obj.RING_PARTIAL r := by
  by_cases h : s.reg (Obj.RING_PROGRESS r) = 0
  · exact .inl ⟨h, if_pos h⟩
  · exact .inr ⟨h, if_neg h⟩

/-- The image of a stopped descriptor stands, with its cause. -/
def imageBack (r : Nat) (image : Bytes) (s : State) : State :=
  let t := s.translate (s.slotAddr r) 32 true true
  (((headAdvanced r s).setTarget t image).writtenOver s.memory.issued t 32).setReg (Obj.RING_LAST_CAUSE r) 9

theorem writtenBack_eq (r : Nat) (image : Bytes) (s : State) :
    writtenBack r image s = ((imageBack r image s).bump (stopCounter r s)).occur 71 := rfl

theorem imageBack_reg (hr : r ≤ 63) (image : Bytes) (s : State) (o : Nat) : (imageBack r image s).reg o =
    if o = Obj.RING_LAST_CAUSE r then 9 else if o = Obj.RING_PROGRESS r then 0
    else if o = Obj.RING_HEAD r then (s.reg (Obj.RING_HEAD r) + 1) % 2 ^ 32 else s.reg o := by
  obtain ⟨-, hover⟩ := writtenOver_keeps
    ((headAdvanced r s).setTarget (s.translate (s.slotAddr r) 32 true true) image) s.memory.issued
    (s.translate (s.slotAddr r) 32 true true) 32
  obtain ⟨-, htarget⟩ := setTarget_keeps (headAdvanced r s) (s.translate (s.slotAddr r) 32 true true) image
  rw [imageBack, State.reg_setReg, hover, htarget, headAdvanced_reg hr]

theorem imageBack_ring (r : Nat) (image : Bytes) (s : State) : (imageBack r image s).ring = s.ring := by
  obtain ⟨hover, -⟩ := writtenOver_keeps
    ((headAdvanced r s).setTarget (s.translate (s.slotAddr r) 32 true true) image) s.memory.issued
    (s.translate (s.slotAddr r) 32 true true) 32
  obtain ⟨htarget, -⟩ := setTarget_keeps (headAdvanced r s) (s.translate (s.slotAddr r) 32 true true) image
  rw [imageBack, setReg_ring, hover, htarget, headAdvanced_ring]

theorem imageBack_within (r : Nat) (image : Bytes) (s : State) :
    s.Within (ringEndFootprint r) (imageBack r image s) := by
  have hover : ∀ (t : State) (issue : Nat) (at' : Target) (n : Nat), t.Within (ringEndFootprint r) (t.writtenOver issue at' n) :=
    fun t _ _ _ => (refl (ringEndFootprint r) t).memory _ (ringEnd_reads r).memory
  exact (((headAdvanced_within r s).trans (setTarget_within r _ _ image)).trans (hover _ _ _ 32)).setReg _ _
    (ringEnd_objs r _ (by simp))

theorem writtenBack_stopped (hr : r ≤ 63) (hsound : s.writeBackMeets r .none = 0) (image : Bytes) :
    s.DescriptorStopped (writtenBack r image s) r := by
  obtain ⟨-, hpartial, hnot⟩ := widthOf_ringCounters hr
  have hoccur : ∀ t : State, (t.occur 71).reg = t.reg ∧ (t.occur 71).ring = t.ring := fun _ => ⟨rfl, rfl⟩
  obtain ⟨hoccurReg, hoccurRing⟩ := hoccur ((imageBack r image s).bump (stopCounter r s))
  have hreg : ∀ o, (writtenBack r image s).reg o = if o = stopCounter r s then
      ((imageBack r image s).reg o + 1) % 2 ^ 32 else (imageBack r image s).reg o := fun o => by
    rw [writtenBack_eq, hoccurReg, State.reg_bump]
    obtain ⟨-, hcounter⟩ | ⟨-, hcounter⟩ := stopCounter_cases r s
    · rw [hcounter, hnot]
      split
      next h => rw [h]
      next => rfl
    · rw [hcounter, hpartial]
      split
      next h => rw [h]
      next => rfl
  have hwithin : s.Within (ringEndFootprint r) (writtenBack r image s) := by
    obtain ⟨-, hcounter⟩ | ⟨-, hcounter⟩ := stopCounter_cases r s
    all_goals
      rw [writtenBack_eq, hcounter]
      exact ((imageBack_within r image s).bump _ (ringEnd_objs r _ (by simp))).occur 71 (ringEnd_reads r).fault
  have hrings : (writtenBack r image s).ring = s.ring := by
    rw [writtenBack_eq, hoccurRing, bump_ring, imageBack_ring]
  have hwaiting : 0 < Sparse.get (fun _ => 0) (writtenBack r image s).fault.waiting 71 := waiting_occur _ 71
  simp only [imageBack_reg hr] at hreg
  obtain ⟨hp, hcounter⟩ | ⟨hp, hcounter⟩ := stopCounter_cases r s
  all_goals
    rw [hcounter] at hreg
    exact
      { rings := hrings
        within := hwithin
        head := (hreg _).trans (by simp)
        progress := (hreg _).trans (by simp)
        cause := (hreg _).trans (by simp [hsound])
        completed := (hreg _).trans (by simp)
        partly := (hreg _).trans (by simp [hsound, hp])
        notStarted := (hreg _).trans (by simp [hsound, hp])
        waiting := fun _ => hwaiting }

/-- A stopped descriptor leaves its counts, its cause, and its ring stopped. -/
theorem stopDescriptor_stops (hr : r ≤ 63) (d : Bytes) (s : State) :
    ∃ u, s.DescriptorStopped u r ∧ stopDescriptor r d 9 .none s = afterDescriptor r true u := by
  by_cases hsound : s.writeBackMeets r .none = 0
  · exact ⟨_, writtenBack_stopped hr hsound _, stopDescriptor_written d hsound⟩
  · exact ⟨_, writeBackFaulted_stopped hr hsound, stopDescriptor_faulted d hsound⟩

theorem stops_within_end {v : State} (h : u.Stops v r) : u.Within (ringEndFootprint r) v :=
  h.within.widen (by simp [ringEndParts]) fun o ho => by
    simp only [List.mem_cons] at ho
    simp only [ringEndObjs, List.mem_append, List.mem_cons]
    tauto

/-- A ring that is stopped between bursts: what is left of its descriptor, if one is in progress. -/
theorem stopRing_stops (hr : r ≤ 63) (s : State) :
    ((s.ring r).descriptor = none ∧ s.Stops (stopRing r s) r) ∨
      ∃ d u, (s.ring r).descriptor = some d ∧ s.DescriptorStopped u r ∧ u.Stops (stopRing r s) r := by
  unfold stopRing
  cases hd : (s.ring r).descriptor with
  | none => exact .inl ⟨rfl, afterDescriptor_stops r s⟩
  | some d =>
    obtain ⟨u, hu, hstop⟩ := stopDescriptor_stops hr d s
    refine .inr ⟨d, u, rfl, hu, ?_⟩
    dsimp only
    rw [hstop]
    exact afterDescriptor_stops r u

/-! ### Destroy (R277) -/

/-- The ring is to be destroyed. -/
def destroyMarked (r : Nat) (s : State) : State := s.setRing r { s.ring r with destroyWanted := true }

/-- The ring is to be halted. -/
def haltMarked (r : Nat) (s : State) : State := s.setRing r { s.ring r with haltWanted := true }

theorem writeBackMeets_setRing (s : State) (r : Nat) (x : RingState) :
    (s.setRing r x).writeBackMeets r .none = s.writeBackMeets r .none := by
  rw [writeBackMeets_none, writeBackMeets_none]
  rfl

theorem setRing_within (s : State) (r : Nat) (x : RingState) : s.Within (eventFootprint [.memory] []) (s.setRing r x) :=
  (refl _ s).setRing r x List.mem_cons_self

/-- What a ring that is destroyed between bursts leaves. -/
structure State.RingDestroyed (s v : State) (r : Nat) : Prop where
  others : ∀ k, k ≠ r → v.ring k = s.ring k
  freed : v.ringState r = 0 ∧ v.reg (Obj.RING_HANDLE r) = 0 ∧ v.ring r = { gen := nextGen (s.ring r).gen } ∧
    ∀ o, o ∈ ringObjects r → v.reg o = objDefault o
  still : (s.ring r).descriptor = none →
    s.Within (eventFootprint [.memory] (Obj.RING_STATE r :: Obj.RING_HANDLE r :: ringObjects r)) v
  stopped : s.writeBackMeets r .none = 0 → ∀ d, (s.ring r).descriptor = some d →
    v.reg (Obj.RING_LAST_CAUSE r) = 9 ∧ 0 < Sparse.get (fun _ => 0) v.fault.waiting 71 ∧
    (s.reg (Obj.RING_PROGRESS r) ≠ 0 → v.reg (Obj.RING_PARTIAL r) = (s.reg (Obj.RING_PARTIAL r) + 1) % 2 ^ 32) ∧
    (s.reg (Obj.RING_PROGRESS r) = 0 →
      v.reg (Obj.RING_NOT_STARTED r) = (s.reg (Obj.RING_NOT_STARTED r) + 1) % 2 ^ 32)
  within : s.Within (ringEndFootprint r) v

theorem ringDestroyed (hr : r ≤ 63) (s : State) : s.RingDestroyed (stopRing r (destroyMarked r s)) r := by
  have hring : ∀ k, (destroyMarked r s).ring k = if k = r then { s.ring r with destroyWanted := true } else s.ring k :=
    fun k => s.ring_setRing r k _
  have hown : (destroyMarked r s).ring r = { s.ring r with destroyWanted := true } := (hring r).trans (if_pos rfl)
  have hmark : s.Within (ringEndFootprint r) (destroyMarked r s) := (setRing_within s r _).widen (by simp [ringEndParts]) (by simp)
  have hreg : (destroyMarked r s).reg = s.reg := by simp [destroyMarked]
  have hmeets : (destroyMarked r s).writeBackMeets r .none = s.writeBackMeets r .none := writeBackMeets_setRing s r _
  obtain ⟨hnone, hstops⟩ | ⟨d, u, hsome, hstopped, hstops⟩ := stopRing_stops hr (destroyMarked r s)
  · rw [hown] at hnone
    exact
      { others := fun k hk => by rw [hstops.others k hk, hring, if_neg hk]
        freed := by
          have hfreed := hstops.freed (by rw [hown])
          rwa [hown] at hfreed
        still := fun _ => ((setRing_within s r _).widen (by simp) (by simp)).trans hstops.within
        stopped := fun _ d hd => by
          rw [hd] at hnone
          cases hnone
        within := hmark.trans (stops_within_end hstops) }
  · rw [hown] at hsome
    have hkept : ∀ o, o ∈ [Obj.RING_LAST_CAUSE r, Obj.RING_PARTIAL r, Obj.RING_NOT_STARTED r] →
        (stopRing r (destroyMarked r s)).reg o = u.reg o := fun o ho => hstops.kept o (by
      simp only [List.mem_cons, List.not_mem_nil, or_false] at ho
      obtain rfl | rfl | rfl := ho <;> simp [ringObjects])
    exact
      { others := fun k hk => by rw [hstops.others k hk, hstopped.rings, hring, if_neg hk]
        freed := by
          have hfreed := hstops.freed (by rw [hstopped.rings, hown])
          rwa [hstopped.rings, hown] at hfreed
        still := fun hnone => by
          rw [hnone] at hsome
          cases hsome
        stopped := fun hsound _ _ => by
          rw [hkept _ (by simp), hkept _ (by simp), hkept _ (by simp), hstopped.cause, hstopped.partly, hstopped.notStarted,
            hstops.waiting, hmeets, hreg, hsound]
          exact ⟨by simp, hstopped.waiting (hmeets.trans hsound), fun hp => by simp [hp], fun hp => by simp [hp]⟩
        within := (hmark.trans hstopped.within).trans (stops_within_end hstops) }

theorem actRingDestroy_done (hring : s.ringOf (q.arg % 2 ^ 32) = .inl r) : actRingDestroy q s =
    .done (if s.bursting r then destroyMarked r s else stopRing r (destroyMarked r s)) := by
  simp only [actRingDestroy, hring]
  rfl

@[simp] theorem writeBackMeets_asked (s : State) (q : Request) (r : Nat) :
    (s.asked q).writeBackMeets r .none = s.writeBackMeets r .none := by
  rw [writeBackMeets_none, writeBackMeets_none, slotAddr_asked, State.translate_asked]

theorem ringDestroy_clause (hadmits : s.admitsWrite rq Obj.RING_DESTROY data = true)
    (hring : s.ringOf (leNat data % 2 ^ 32) = .inl r) :
    ∃ t, exec (.ringDestroy rq data) s = .next t ∧ t.answered rq 0 = true ∧ (∀ k, k ≠ r → t.ring k = s.ring k) ∧
      (s.bursting r = true → t.ring r = { s.ring r with destroyWanted := true } ∧ s.hostFrame t [.memory] [] []) ∧
      (s.bursting r = false → t.ringState r = 0 ∧ t.reg (Obj.RING_HANDLE r) = 0 ∧
        t.ring r = { gen := nextGen (s.ring r).gen } ∧ (∀ o, o ∈ ringObjects r → t.reg o = objDefault o)) ∧
      (s.bursting r = false → (s.ring r).descriptor = none →
        s.hostFrame t [.memory] (Obj.RING_STATE r :: Obj.RING_HANDLE r :: ringObjects r) []) ∧
      (s.bursting r = false → s.writeBackMeets r .none = 0 → ∀ d, (s.ring r).descriptor = some d →
        t.reg (Obj.RING_LAST_CAUSE r) = 9 ∧ 0 < Sparse.get (fun _ => 0) t.fault.waiting 71 ∧
        (s.reg (Obj.RING_PROGRESS r) ≠ 0 → t.reg (Obj.RING_PARTIAL r) = (s.reg (Obj.RING_PARTIAL r) + 1) % 2 ^ 32) ∧
        (s.reg (Obj.RING_PROGRESS r) = 0 →
          t.reg (Obj.RING_NOT_STARTED r) = (s.reg (Obj.RING_NOT_STARTED r) + 1) % 2 ^ 32)) ∧
      s.hostFrame t ringEndParts (ringEndObjs r) [] := by
  obtain ⟨-, hlast, -⟩ := ringOf_ring hring
  obtain ⟨t, hexec, hdone⟩ := ringCommand_done hadmits (by decide +kernel)
    (actRingDestroy_done ((ringOf_asked s _ _).trans hring))
  refine ⟨t, hexec, hdone.answered, ?_⟩
  rw [bursting_asked] at hdone
  cases hburst : s.bursting r with
  | true =>
    rw [hburst, if_pos rfl] at hdone
    have hmark := setRing_within (s.asked (wholeWrite rq Obj.RING_DESTROY data)) r
      { (s.asked (wholeWrite rq Obj.RING_DESTROY data)).ring r with destroyWanted := true }
    have hring : ∀ k, t.ring k = if k = r then { s.ring r with destroyWanted := true } else s.ring k := fun k => by
      rw [hdone.ring, destroyMarked, State.ring_setRing, ring_asked]
    exact ⟨fun k hk => by rw [hring, if_neg hk], fun _ => ⟨by rw [hring, if_pos rfl], hdone.frame hmark⟩, nofun, nofun, nofun,
      hdone.frame (hmark.widen (by simp [ringEndParts]) (by simp))⟩
  | false =>
    rw [hburst, if_neg (by decide)] at hdone
    have hleft := ringDestroyed hlast (s.asked (wholeWrite rq Obj.RING_DESTROY data))
    obtain ⟨hfree, hhandle, hring, hdefaults⟩ := hleft.freed
    have hstopped := hleft.stopped
    simp only [ring_asked, writeBackMeets_asked, reg_asked_ring] at hring hstopped
    refine ⟨fun k hk => ?_, nofun, fun _ => ⟨?_, ?_, ?_, fun o ho => ?_⟩, fun _ hnone => ?_, fun _ hsound d hd => ?_,
      hdone.frame hleft.within⟩
    · rw [hdone.ring, hleft.others k hk, ring_asked]
    · rw [State.ringState, hdone.reg]
      exact hfree
    · rw [hdone.reg, hhandle]
    · rw [hdone.ring, hring]
    · rw [hdone.reg, hdefaults o ho]
    · exact hdone.frame (hleft.still (by rwa [ring_asked]))
    · rw [hdone.reg, hdone.waiting]
      exact hstopped hsound d hd

/-! ### Halt (R286) -/

/-- What a RUNNING ring that is halted between bursts leaves. -/
structure State.RingHalted (s v : State) (r : Nat) : Prop where
  others : ∀ k, k ≠ r → v.ring k = s.ring k
  halted : (s.ring r).destroyWanted = false → v.ringState r = 3
  still : (s.ring r).destroyWanted = false → (s.ring r).descriptor = none →
    s.Within (eventFootprint [.memory] [Obj.RING_STATE r]) v
  stopped : ∀ d, (s.ring r).descriptor = some d →
    s.descriptorEnds v r (if s.reg (Obj.RING_PROGRESS r) = 0 then 3 else 2) 9 .none
  within : s.Within (ringEndFootprint r) v

/-- A ring that stops after its descriptor has ended that descriptor with cause 9. -/
theorem descriptorEnds_of_stops {v : State} (hstopped : s.DescriptorStopped u r) (hstops : u.Stops v r) :
    s.descriptorEnds v r (if s.reg (Obj.RING_PROGRESS r) = 0 then 3 else 2) 9 .none := by
  have hkept : ∀ o, o ∈ [Obj.RING_LAST_CAUSE r, Obj.RING_COMPLETED r, Obj.RING_PARTIAL r, Obj.RING_NOT_STARTED r] →
      v.reg o = u.reg o := fun o ho => hstops.kept o (by
    simp only [List.mem_cons, List.not_mem_nil, or_false] at ho
    obtain rfl | rfl | rfl | rfl := ho <;> simp [ringObjects])
  have hkeeps : (s.ring r).destroyWanted = false → v.ringState r = 3 ∧ ∀ o, o ≠ Obj.RING_STATE r → v.reg o = u.reg o :=
    fun hkeep => by
      rw [← hstopped.rings] at hkeep
      obtain ⟨hstate, hregs, -⟩ := hstops.halted hkeep
      exact ⟨hstate, hregs⟩
  refine ⟨hstops.idle, fun k hk => ?_, fun hdestroy => ?_, fun hkeep => ?_, ?_, ?_, ?_, ?_, fun hsound _ => ?_, nofun⟩
  · rw [hstops.others k hk, hstopped.rings]
  · rw [← hstopped.rings] at hdestroy
    obtain ⟨hstate, hhandle, hring, -⟩ := hstops.freed hdestroy
    exact ⟨hstate, hhandle, hstopped.rings ▸ hring⟩
  · obtain ⟨hstate, hregs⟩ := hkeeps hkeep
    refine ⟨?_, ?_, fun _ => hstate, fun _ _ _ => hstate, fun _ _ hgoes => ?_⟩
    · rw [hregs _ (by simp), hstopped.head]
    · rw [hregs _ (by simp), hstopped.progress]
    · obtain hstatus | ⟨-, hcause⟩ := hgoes
      · split at hstatus <;> cases hstatus
      · exact absurd rfl hcause
  · rw [hkept _ (by simp), hstopped.cause]
  · rw [hkept _ (by simp), hstopped.completed, if_neg]
    rintro ⟨-, hstatus⟩
    split at hstatus <;> cases hstatus
  · rw [hkept _ (by simp), hstopped.partly]
    by_cases hp : s.reg (Obj.RING_PROGRESS r) = 0 <;> simp [hp]
  · rw [hkept _ (by simp), hstopped.notStarted]
    by_cases hp : s.reg (Obj.RING_PROGRESS r) = 0 <;> simp [hp]
  · rw [hstops.waiting]
    exact hstopped.waiting hsound

/-- The mark of a halt leaves all that the end of a descriptor is about. -/
theorem descriptorEnds_haltMarked {v : State} {n : Nat} (hne : n ≠ 1) (h : (haltMarked r s).descriptorEnds v r n 9 .none) :
    s.descriptorEnds v r n 9 .none := by
  have hring : ∀ k, (haltMarked r s).ring k = if k = r then { s.ring r with haltWanted := true } else s.ring k :=
    fun k => s.ring_setRing r k _
  have hown : (haltMarked r s).ring r = { s.ring r with haltWanted := true } := (hring r).trans (if_pos rfl)
  have hreg : (haltMarked r s).reg = s.reg := by simp [haltMarked]
  have hmeets : (haltMarked r s).writeBackMeets r .none = s.writeBackMeets r .none := writeBackMeets_setRing s r _
  unfold State.descriptorEnds at h ⊢
  rw [hown, hreg, hmeets] at h
  obtain ⟨hidle, hothers, hfreed, hkept, hcounts⟩ := h
  refine ⟨hidle, fun k hk => by rw [hothers k hk, hring, if_neg hk], hfreed, fun hkeep => ?_, hcounts⟩
  obtain ⟨hhead, hprogress, hfault, hstopped, -⟩ := hkept hkeep
  exact ⟨hhead, hprogress, hfault, fun hsound hstatus _ => hstopped hsound hstatus (.inr (.inr rfl)), fun _ _ hgoes =>
    absurd hgoes (by simp [hne])⟩

theorem ringHalted (hr : r ≤ 63) (s : State) : s.RingHalted (stopRing r (haltMarked r s)) r := by
  have hring : ∀ k, (haltMarked r s).ring k = if k = r then { s.ring r with haltWanted := true } else s.ring k :=
    fun k => s.ring_setRing r k _
  have hown : (haltMarked r s).ring r = { s.ring r with haltWanted := true } := (hring r).trans (if_pos rfl)
  have hreg : (haltMarked r s).reg = s.reg := by simp [haltMarked]
  have hmark : s.Within (ringEndFootprint r) (haltMarked r s) := (setRing_within s r _).widen (by simp [ringEndParts]) (by simp)
  obtain ⟨hnone, hstops⟩ | ⟨d, u, hsome, hstopped, hstops⟩ := stopRing_stops hr (haltMarked r s)
  · rw [hown] at hnone
    have hhalted : (s.ring r).destroyWanted = false → _ := fun hkeep => hstops.halted (by rwa [hown])
    exact
      { others := fun k hk => by rw [hstops.others k hk, hring, if_neg hk]
        halted := fun hkeep => (hhalted hkeep).left
        still := fun hkeep _ => by
          obtain ⟨-, -, hwithin⟩ := hhalted hkeep
          exact ((setRing_within s r _).widen (by simp) (by simp)).trans hwithin
        stopped := fun d hd => by
          rw [hd] at hnone
          cases hnone
        within := hmark.trans (stops_within_end hstops) }
  · rw [hown] at hsome
    exact
      { others := fun k hk => by rw [hstops.others k hk, hstopped.rings, hring, if_neg hk]
        halted := fun hkeep => (hstops.halted (by rwa [hstopped.rings, hown])).left
        still := fun _ hnone => by
          rw [hnone] at hsome
          cases hsome
        stopped := fun _ _ => by
          have hends := descriptorEnds_of_stops hstopped hstops
          rw [hreg] at hends
          refine descriptorEnds_haltMarked ?_ hends
          split <;> decide
        within := (hmark.trans hstopped.within).trans (stops_within_end hstops) }

/-- RING_HALT on a ring: an IDLE one is HALTED, a RUNNING one is to halt, any other stays. -/
def ringHaltAsked (r : Nat) (s : State) : State :=
  if s.ringState r = 1 then s.setReg (Obj.RING_STATE r) 3
  else if s.ringState r ≠ 2 then s
  else if s.bursting r then haltMarked r s else stopRing r (haltMarked r s)

theorem actRingHalt_done (hring : s.ringOf (q.arg % 2 ^ 32) = .inl r) : actRingHalt q s = .done (ringHaltAsked r s) := by
  simp only [actRingHalt, hring, ringHaltAsked]
  split
  · rfl
  · split <;> rfl

/-- A ring that is not RUNNING is halted at once, or stays. -/
theorem ringHaltAsked_still (hrun : s.ringState r ≠ 2) :
    s.Within (eventFootprint [] [Obj.RING_STATE r]) (ringHaltAsked r s) ∧ (ringHaltAsked r s).ring = s.ring ∧
      (ringHaltAsked r s).ringState r = if s.ringState r = 1 then 3 else s.ringState r := by
  unfold ringHaltAsked
  by_cases hidle : s.ringState r = 1
  · rw [if_pos hidle, if_pos hidle]
    exact ⟨(refl _ s).setReg _ _ (by simp [eventFootprint]), setReg_ring _ _ _, by simp [State.ringState]⟩
  · rw [if_neg hidle, if_neg hidle, if_pos hrun]
    exact ⟨refl _ s, rfl, rfl⟩

/-- A request ends a descriptor as its action does. -/
theorem descriptorEnds_asked {t v : State} {n : Nat} (hconcluded : s.Concluded t v q)
    (h : (s.asked q).descriptorEnds v r n 9 .none) : s.descriptorEnds t r n 9 .none := by
  have hpolicy : (s.asked q).reg (Obj.RING_POLICY r) = s.reg (Obj.RING_POLICY r) := s.reg_asked_layer q _ r
  unfold State.descriptorEnds State.ringState at h ⊢
  rw [hconcluded.reg, hconcluded.ring, hconcluded.waiting]
  simpa only [ring_asked, reg_asked_ring, writeBackMeets_asked, hpolicy] using h

theorem ringHalt_clause (hadmits : s.admitsWrite rq Obj.RING_HALT data = true)
    (hring : s.ringOf (leNat data % 2 ^ 32) = .inl r) :
    ∃ t, exec (.ringHalt rq data) s = .next t ∧ t.answered rq 0 = true ∧ (∀ k, k ≠ r → t.ring k = s.ring k) ∧
      (s.ringState r ≠ 2 →
        t.ringState r = (if s.ringState r = 1 then 3 else s.ringState r) ∧ s.hostFrame t [] [Obj.RING_STATE r] []) ∧
      (s.ringState r = 2 → s.bursting r = true →
        t.ring r = { s.ring r with haltWanted := true } ∧ s.hostFrame t [.memory] [] []) ∧
      (s.ringState r = 2 → s.bursting r = false → (s.ring r).destroyWanted = false → t.ringState r = 3) ∧
      (s.ringState r = 2 → s.bursting r = false → (s.ring r).destroyWanted = false → (s.ring r).descriptor = none →
        s.hostFrame t [.memory] [Obj.RING_STATE r] []) ∧
      (s.ringState r = 2 → s.bursting r = false → ∀ d, (s.ring r).descriptor = some d →
        s.descriptorEnds t r (if s.reg (Obj.RING_PROGRESS r) = 0 then 3 else 2) 9 .none) ∧
      s.hostFrame t ringEndParts (ringEndObjs r) [] := by
  obtain ⟨-, hlast, -⟩ := ringOf_ring hring
  obtain ⟨t, hexec, hdone⟩ := ringCommand_done hadmits (by decide +kernel)
    (actRingHalt_done ((ringOf_asked s _ _).trans hring))
  refine ⟨t, hexec, hdone.answered, ?_⟩
  have hstate : t.ringState r = (ringHaltAsked r (s.asked (wholeWrite rq Obj.RING_HALT data))).ringState r := by
    rw [State.ringState, hdone.reg]
    rfl
  by_cases hrun : s.ringState r = 2
  · rw [ringHaltAsked, ringState_asked, bursting_asked] at hdone hstate
    have hnotIdle : ¬ s.ringState r = 1 := by omega
    rw [if_neg hnotIdle, if_neg (not_not.mpr hrun)] at hdone hstate
    cases hburst : s.bursting r with
    | true =>
      rw [hburst, if_pos rfl] at hdone
      have hmark := setRing_within (s.asked (wholeWrite rq Obj.RING_HALT data)) r
        { (s.asked (wholeWrite rq Obj.RING_HALT data)).ring r with haltWanted := true }
      have hmarked : ∀ k, t.ring k = if k = r then { s.ring r with haltWanted := true } else s.ring k := fun k => by
        rw [hdone.ring, haltMarked, State.ring_setRing, ring_asked]
      exact ⟨fun k hk => by rw [hmarked, if_neg hk], fun h => absurd hrun h,
        fun _ _ => ⟨by rw [hmarked, if_pos rfl], hdone.frame hmark⟩, nofun, nofun, nofun,
        hdone.frame (hmark.widen (by simp [ringEndParts]) (by simp))⟩
    | false =>
      rw [hburst, if_neg (by decide)] at hdone hstate
      have hleft := ringHalted hlast (s.asked (wholeWrite rq Obj.RING_HALT data))
      have hstopped := hleft.stopped
      simp only [ring_asked, reg_asked_ring] at hstopped
      refine ⟨fun k hk => ?_, fun h => absurd hrun h, nofun, fun _ _ hkeep => ?_, fun _ _ hkeep hnone => ?_,
        fun _ _ d hd => ?_, hdone.frame hleft.within⟩
      · rw [hdone.ring, hleft.others k hk, ring_asked]
      · rw [hstate, hleft.halted (by rwa [ring_asked])]
      · exact hdone.frame (hleft.still (by rwa [ring_asked]) (by rwa [ring_asked]))
      · exact descriptorEnds_asked hdone (hstopped d hd)
  · obtain ⟨hstill, hrings, hhalted⟩ := ringHaltAsked_still (s := s.asked (wholeWrite rq Obj.RING_HALT data)) (r := r)
      (by rwa [ringState_asked])
    rw [hhalted, ringState_asked] at hstate
    exact ⟨fun k hk => by rw [hdone.ring, hrings, ring_asked], fun _ => ⟨hstate, hdone.frame hstill⟩,
      fun h => absurd h hrun, fun h => absurd h hrun, fun h => absurd h hrun, fun h => absurd h hrun,
      hdone.frame (hstill.widen (by simp) (by simp [ringEndObjs]))⟩

/-! ### Post by TAIL (R278) -/

/-- The objects of the rings have no reserved bits (00 R10). -/
theorem keptBits_rings (hlow : 0x584000 ≤ obj) (hhigh : obj < 0x590000) (o : Nat) : keptBits obj o = 0xFF#8 := by
  unfold keptBits
  simp only [Obj.X_MAP, Obj.GREY_HIGH_RED, Obj.GREY_LOW_BLUE, Obj.COEF_TABLE, Obj.SLOT_TABLE, Obj.REGION_ENTRY,
    Obj.REGION_TABLE, Obj.AMBIENT_TABLE, Obj.TOD_TABLE, Bool.and_eq_true, Bool.or_eq_true, decide_eq_true_eq]
  rw [if_neg (by omega), if_neg (by omega), if_neg (by omega), if_neg (by omega), if_neg (by omega), if_neg (by omega),
    if_neg (by omega), if_neg (by omega)]

theorem leNat_lt (bs : Bytes) : leNat bs < 256 ^ bs.length := by
  induction bs with
  | nil => simp [leNat]
  | cons b bs ih =>
    have hb := b.isLt
    rw [leNat, List.length_cons, pow_succ]
    omega

/-- A write of a fixed number of bytes that nothing turns away has them. -/
theorem length_of_admitsWrite {row : ObjRow} {n : Nat} (hadmits : s.admitsWrite rq obj data = true)
    (hrow : rowOf obj = some row) (hty : row.ty = .fixed n) : data.length = n := by
  simp only [State.admitsWrite, State.admits, Bool.and_eq_true] at hadmits
  obtain ⟨-, hadmits⟩ := hadmits
  have hfind : s.findObj (wholeWrite rq obj data).obj = none ∨ s.findObj (wholeWrite rq obj data).obj = some row := by
    unfold State.findObj
    split
    · exact .inl rfl
    · exact .inr hrow
  obtain hfind | hfind := hfind
  · simp [hfind] at hadmits
  · simp only [hfind, Bool.and_eq_true] at hadmits
    obtain ⟨⟨-, hlength⟩, -⟩ := hadmits
    simpa [lengthOk, hty, wholeWrite] using hlength

/-- RINGr_TAIL is a word of 32 bits, with none reserved. -/
theorem rowOf_ringTail (hr : r ≤ 63) :
    (rowOf (Obj.RING_TAIL r)).map (fun row => (row.ty, row.mask)) = some (.fixed 4, 2 ^ 32 - 1) := by
  interval_cases r <;> decide +kernel

theorem ring_of_tail (rq : Req) (r : Nat) (data : Bytes) :
    (wholeWrite rq (Obj.RING_TAIL r) data).obj / 256 - 0x5840 = r := by
  simp only [wholeWrite, Obj.RING_TAIL]
  omega

/-- A posted ring: its TAIL is `v`, and it runs where it was IDLE and now holds a descriptor. -/
def tailWritten (r v : Nat) (s : State) : State :=
  if (s.setReg (Obj.RING_TAIL r) v).ringState r = 1 && !(s.setReg (Obj.RING_TAIL r) v).ringEmpty r then
    (s.setReg (Obj.RING_TAIL r) v).setReg (Obj.RING_STATE r) 2
  else s.setReg (Obj.RING_TAIL r) v

theorem tailWritten_leaves (r v : Nat) (s : State) :
    (tailWritten r v s).reg (Obj.RING_TAIL r) = v ∧
    (tailWritten r v s).ringState r =
      (if s.ringState r = 1 ∧ s.reg (Obj.RING_HEAD r) ≠ v then 2 else s.ringState r) ∧
    s.Within (eventFootprint [] [Obj.RING_TAIL r, Obj.RING_STATE r]) (tailWritten r v s) := by
  have hstate : (s.setReg (Obj.RING_TAIL r) v).ringState r = s.ringState r := by simp [State.ringState]
  have hempty : (s.setReg (Obj.RING_TAIL r) v).ringEmpty r = (s.reg (Obj.RING_HEAD r) == v) := by simp [State.ringEmpty]
  have hstore : s.Within (eventFootprint [] [Obj.RING_TAIL r, Obj.RING_STATE r]) (s.setReg (Obj.RING_TAIL r) v) :=
    (refl _ s).setReg _ _ (by simp [eventFootprint])
  unfold tailWritten
  rw [hempty]
  by_cases hpost : s.ringState r = 1 ∧ s.reg (Obj.RING_HEAD r) ≠ v
  · obtain ⟨hidle, hhead⟩ := hpost
    rw [if_pos (by simp [hstate, hidle, hhead]), if_pos ⟨hidle, hhead⟩]
    exact ⟨by simp, by simp [State.ringState], hstore.setReg _ _ (by simp [eventFootprint])⟩
  · rw [if_neg (by simpa [hstate] using hpost), if_neg hpost]
    exact ⟨by simp, hstate, hstore⟩

/-! RING_TAIL goes through the shared action of a ring's objects. The two lemmas speak of any function that is
`actRingTail`: unfolded as a function it compares at once, while applied the kernel would evaluate the ring's number, and
with it the 0x5840 of its index in unary. -/

theorem ringTail_of_done (hact : act = actRingTail) (hring : q.obj / 256 - 0x5840 = r) (hobject : actRingObject q s = .done u) :
    act q s = .done (if u.ringState r = 1 && !u.ringEmpty r then u.setReg (Obj.RING_STATE r) 2 else u) := by
  delta actRingTail at hact
  refine (congrFun (congrFun hact q) s).trans ?_
  rw [hobject, ← hring]

theorem ringTail_of_abort {code : Nat} (hact : act = actRingTail) (hobject : actRingObject q s = .abort u code) :
    act q s = .abort u code := by
  delta actRingTail at hact
  refine (congrFun (congrFun hact q) s).trans ?_
  rw [hobject]

theorem actRingTail_done {row : ObjRow} (hring : q.obj / 256 - 0x5840 = r) (hobj : q.obj = Obj.RING_TAIL r) (hhost : 8 ≤ r)
    (hstate : s.ringState r ≠ 0) (hrow : rowOf q.obj = some row) :
    actRingTail q s = .done (tailWritten r (heldValue row (leNat q.data)) s) := by
  have hobject : actRingObject q s = .done (s.setReg (Obj.RING_TAIL r) (heldValue row (leNat q.data))) := by
    simp only [actRingObject, hring, storeAction, hrow]
    rw [if_neg (by omega), if_neg hstate, if_neg (by simp [hobj]), hobj]
  exact ringTail_of_done rfl hring hobject

theorem ringTail_clause (hhost : 8 ≤ r) (hlast : r ≤ 63) (hadmits : s.admitsWrite rq (Obj.RING_TAIL r) data = true)
    (hstate : s.ringState r ≠ 0) :
    ∃ t, exec (.ringTailWrite rq r data) s = .next t ∧ t.answered rq 0 = true ∧ t.reg (Obj.RING_TAIL r) = leNat data ∧
      t.ringState r = (if s.ringState r = 1 ∧ s.reg (Obj.RING_HEAD r) ≠ leNat data then 2 else s.ringState r) ∧
      s.hostFrame t [] [Obj.RING_TAIL r, Obj.RING_STATE r] [] := by
  obtain ⟨row, hrow, hshape⟩ := Option.map_eq_some_iff.mp (rowOf_ringTail hlast)
  obtain ⟨hty, hmask⟩ := Prod.mk.inj hshape
  have hlength := leNat_lt data
  rw [length_of_admitsWrite hadmits hrow hty] at hlength
  have hvalue : heldValue row (leNat data) = leNat data := by
    simp only [heldValue, hty, hmask]
    exact Nat.and_two_pow_sub_one_of_lt_two_pow hlength
  have hact := actRingTail_done (s := s.asked (wholeWrite rq (Obj.RING_TAIL r) data)) (ring_of_tail rq r data) rfl hhost
    (by rwa [ringState_asked]) hrow
  obtain ⟨hreg, hleft, hwithin⟩ := tailWritten_leaves r (leNat data) (s.asked (wholeWrite rq (Obj.RING_TAIL r) data))
  rw [ringState_asked] at hleft
  simp only [reg_asked_ring] at hleft
  rw [show leNat (wholeWrite rq (Obj.RING_TAIL r) data).data = leNat data from rfl, hvalue] at hact
  have hdone := concluded_done s (tailWritten r (leNat data) (s.asked (wholeWrite rq (Obj.RING_TAIL r) data)))
    (wholeWrite rq (Obj.RING_TAIL r) data)
  refine ⟨_, hostWrite_asked hadmits (keptBits_rings ?_ ?_) hact, hdone.answered, ?_, ?_, hdone.frame hwithin⟩
  · simp only [Obj.RING_TAIL]
    omega
  · simp only [Obj.RING_TAIL]
    omega
  · rw [hdone.reg, hreg]
  · rw [State.ringState, hdone.reg]
    exact hleft

theorem actRingTail_abort (hring : q.obj / 256 - 0x5840 = r) (hturned : r ≤ 7 ∨ s.ringState r = 0) :
    actRingTail q s = .abort s (if r ≤ 7 then abortDenied else abortStale) := by
  have hobject : actRingObject q s = .abort s (if r ≤ 7 then abortDenied else abortStale) := by
    simp only [actRingObject, hring]
    by_cases hdevice : r ≤ 7
    · rw [if_pos hdevice, if_pos hdevice]
    · rw [if_neg hdevice, if_neg hdevice, if_pos (hturned.resolve_left hdevice)]
  exact ringTail_of_abort rfl hobject

theorem ringTail_aborts (hlast : r ≤ 63) (hadmits : s.admitsWrite rq (Obj.RING_TAIL r) data = true)
    (hturned : r ≤ 7 ∨ s.ringState r = 0) :
    ∃ t, exec (.ringTailWrite rq r data) s = .next t ∧ s.turnsAway t rq (if r ≤ 7 then abortDenied else abortStale) := by
  refine hostWrite_asked_abort hadmits (keptBits_rings ?_ ?_)
    (actRingTail_abort (ring_of_tail rq r data) (by rwa [ringState_asked])) ?_ ?_
  · simp only [Obj.RING_TAIL]
    omega
  · simp only [Obj.RING_TAIL]
    omega
  · split <;> decide
  · split <;> decide

/-! ### The FIFO (R280) -/

theorem ring_of_fifo (rq : Req) (r : Nat) (data : Bytes) :
    (wholeWrite rq (Obj.RING_FIFO r) data).obj / 256 - 0x5840 = r := by
  simp only [wholeWrite, Obj.RING_FIFO]
  omega

theorem keptBits_fifo (hlast : r ≤ 63) (o : Nat) : keptBits (Obj.RING_FIFO r) o = 0xFF#8 := by
  refine keptBits_rings ?_ ?_ o
  · simp only [Obj.RING_FIFO]
    omega
  · simp only [Obj.RING_FIFO]
    omega

/-- A FIFO with the bytes of a write at its end. -/
def fifoAppended (r : Nat) (data : Bytes) (s : State) : State :=
  s.setRing r { s.ring r with fifo := (s.ring r).fifo ++ data }

theorem actRingFifo_cases (hring : q.obj / 256 - 0x5840 = r) :
    (r ≤ 7 → actRingFifo q s = .abort s abortDenied) ∧
    (8 ≤ r → s.ringState r = 0 → actRingFifo q s = .abort s abortStale) ∧
    (8 ≤ r → s.ringState r ≠ 0 → (s.ring r).fifo.length + s.fifoReserved r + q.data.length ≤ 16384 →
      actRingFifo q s = .done (fifoAppended r q.data s)) ∧
    (8 ≤ r → s.ringState r ≠ 0 → 16384 < (s.ring r).fifo.length + s.fifoReserved r + q.data.length →
      actRingFifo q s = .abort s abortBusy) := by
  simp only [actRingFifo, hring, fifoAppended]
  refine ⟨fun h => if_pos h, fun h hfree => ?_, fun h hstate hroom => ?_, fun h hstate hfull => ?_⟩
  · rw [if_neg (by omega), if_pos hfree]
  · rw [if_neg (by omega), if_neg hstate, if_neg (by omega)]
  · rw [if_neg (by omega), if_neg hstate, if_pos hfull]

theorem ringFifoWrite_clause (hlast : r ≤ 63) (hadmits : s.admitsWrite rq (Obj.RING_FIFO r) data = true) :
    (r ≤ 7 → ∃ t, exec (.ringFifoWrite rq r data) s = .next t ∧ s.turnsAway t rq abortDenied) ∧
    (8 ≤ r → s.ringState r = 0 → ∃ t, exec (.ringFifoWrite rq r data) s = .next t ∧ s.turnsAway t rq abortStale) ∧
    (8 ≤ r → s.ringState r ≠ 0 → (s.ring r).fifo.length + s.fifoReserved r + data.length ≤ 16384 →
      ∃ t, exec (.ringFifoWrite rq r data) s = .next t ∧ t.answered rq 0 = true ∧
        t.ring r = { s.ring r with fifo := (s.ring r).fifo ++ data } ∧ (∀ k, k ≠ r → t.ring k = s.ring k) ∧
        s.hostFrame t [.memory] [] []) ∧
    (8 ≤ r → s.ringState r ≠ 0 → 16384 < (s.ring r).fifo.length + s.fifoReserved r + data.length →
      ∃ t, exec (.ringFifoWrite rq r data) s = .next t ∧ s.turnsAway t rq abortBusy) := by
  obtain ⟨hdevice, hfree, hroom, hfull⟩ := actRingFifo_cases (s := s.asked (wholeWrite rq (Obj.RING_FIFO r) data))
    (ring_of_fifo rq r data)
  rw [ringState_asked, ring_asked, fifoReserved_asked] at hroom hfull
  rw [ringState_asked] at hfree
  refine ⟨fun h => ?_, fun h hstate => ?_, fun h hstate hfits => ?_, fun h hstate hover => ?_⟩
  · exact hostWrite_asked_abort hadmits (keptBits_fifo hlast) (hdevice h) (by decide) (by decide)
  · exact hostWrite_asked_abort hadmits (keptBits_fifo hlast) (hfree h hstate) (by decide) (by decide)
  · have hdone := concluded_done s (fifoAppended r data (s.asked (wholeWrite rq (Obj.RING_FIFO r) data)))
      (wholeWrite rq (Obj.RING_FIFO r) data)
    have hring : ∀ k, (settle (conclude (wholeWrite rq (Obj.RING_FIFO r) data)
        (.done (fifoAppended r data (s.asked (wholeWrite rq (Obj.RING_FIFO r) data)))))).ring k =
          if k = r then { s.ring r with fifo := (s.ring r).fifo ++ data } else s.ring k := fun k => by
      rw [hdone.ring, fifoAppended, State.ring_setRing, ring_asked]
    exact ⟨_, hostWrite_asked hadmits (keptBits_fifo hlast) (hroom h hstate hfits), hdone.answered,
      (hring r).trans (if_pos rfl), fun k hk => (hring k).trans (if_neg hk), hdone.frame (setRing_within _ r _)⟩
  · exact hostWrite_asked_abort hadmits (keptBits_fifo hlast) (hfull h hstate hover) (by decide) (by decide)

theorem transfers_of_quiet (h : u.cop.quiet = s.cop.quiet) :
    u.cop.assemblies = s.cop.assemblies ∧ u.cop.snapshots = s.cop.snapshots := by
  have hassemblies := congrArg CopState.assemblies h
  have hsnapshots := congrArg CopState.snapshots h
  exact ⟨hassemblies, hsnapshots⟩

theorem hasSpace_taken (s : State) (q : Request) (w : Requester) : (s.taken q).hasSpace w = s.hasSpace w := by
  obtain ⟨hassemblies, hsnapshots⟩ := transfers_of_quiet (quiet_taken s q)
  have hholders : (s.taken q).holders = s.holders := by rw [State.holders, hassemblies, hsnapshots, State.holders]
  rw [State.hasSpace, hholders, State.hasSpace]

/-- A first READ of a DOMAIN whose bytes go with it: they are kept for the segments that follow, and answered (R372). -/
theorem executeRead_removes {row : ObjRow} {n : Nat} {rd : State → Value} (hfind : s.findObj q.obj = some row)
    (hright : readRight row = 0) (hreach : s.reach row q.obj = .ready) (hty : row.ty = .domain n)
    (hremoves : removesData q.obj = true) (hfirst : q.seg.offset = 0) (hspace : s.hasSpace q.rq.who = true)
    (hrd : rd (s.accessed q.obj) = .ok u data) : executeRead rd q s =
      (u.keepSnapshot { who := q.rq.who, obj := q.obj, data := data }).respondBytes q data := by
  simp only [executeRead, hfind, hright, ne_eq, not_true_eq_false, if_false, hreach, hty, hremoves, hfirst, hspace, hrd,
    Bool.or_true, decide_false, Bool.and_false, Bool.false_eq_true, Bool.not_true, if_true]

theorem keepSnapshot_within {F : Footprint} (s : State) (x : Snapshot) (hcop : .cop ∈ F.parts) :
    s.Within F (s.keepSnapshot x) := (refl F s).of_fields (cop := .inl hcop)

/-- The frame of a request that is answered with success, from the footprint of what it does. -/
theorem hostFrame_answered {parts : List Part} {objs : List Nat} (total : Nat) (data : Bytes)
    (h : (s.asked q).Within (eventFootprint parts objs) u) :
    s.hostFrame (settle (u.respond q 0 total data)) parts objs [] := by
  have hwithin : (s.taken q).Within { eventFootprint parts objs with crossings := (· == 9) } u :=
    (accessed_within _ q.obj rfl).trans (h.mono (fun _ => id) (fun _ => id) id nofun id)
  refine hostFrame_respond q total data (by decide) (hwithin.frameRaw (fun _ hp => List.mem_cons_of_mem _ hp)
    (fun _ o ho => List.contains_iff_mem.mp ho) (fun _ => rfl) fun hx => absurd List.mem_cons_self hx) fun _ k hk => ?_
  rw [hwithin.cross k (by simp [hk])]
  exact congrArg (fun d : DeviceState => Sparse.get (fun _ => ({} : Crossing)) d.crossings k) (by simp)

/-- RINGr_FIFO is a DOMAIN, and its bytes go with the read. -/
theorem rowOf_ringFifo (hr : r ≤ 63) : (rowOf (Obj.RING_FIFO r)).map (·.ty) = some (.domain 16384) := by
  interval_cases r <;> decide +kernel

theorem removesData_ringFifo (hr : r ≤ 63) : removesData (Obj.RING_FIFO r) = true := by
  simp only [removesData, Obj.RING_FIFO, Bool.or_eq_true, Bool.and_eq_true, decide_eq_true_eq, beq_iff_eq]
  omega

/-- The FIFO keeps the bytes that a burst in flight is taking. -/
def fifoTaken (r : Nat) (s : State) : State :=
  s.setRing r { s.ring r with fifo := (s.ring r).fifo.take (s.fifoClaimed r) }

/-- What the READ of a FIFO leaves before its answer. -/
def fifoRead (r : Nat) (q : Request) (s : State) : State :=
  (fifoTaken r s).keepSnapshot { who := q.rq.who, obj := q.obj, data := (s.ring r).fifo.drop (s.fifoClaimed r) }

theorem fifoRead_ring (r : Nat) (q : Request) (s : State) (k : Nat) : (fifoRead r q s).ring k =
    if k = r then { s.ring r with fifo := (s.ring r).fifo.take (s.fifoClaimed r) } else s.ring k :=
  s.ring_setRing r k _

theorem fifoRead_within (r : Nat) (q : Request) (s : State) :
    s.Within (eventFootprint [.memory, .cop] []) (fifoRead r q s) :=
  ((refl _ s).setRing r _ List.mem_cons_self).trans
    (keepSnapshot_within _ _ (List.mem_cons_of_mem _ List.mem_cons_self))

theorem executeRead_ringFifo (hlast : r ≤ 63) (hobj : q.obj = Obj.RING_FIFO r) (hfirst : q.seg.offset = 0)
    (hadmits : s.admitsRead q = true) (hspace : s.hasSpace q.rq.who = true) :
    executeRead (readRingFifo r) q (s.taken q) =
      (fifoRead r q (s.asked q)).respondBytes q ((s.ring r).fifo.drop (s.fifoClaimed r)) := by
  simp only [State.admitsRead, Bool.and_eq_true] at hadmits
  obtain ⟨-, hready⟩ := hadmits
  cases hfind : s.findObj q.obj with
  | none => simp [hfind] at hready
  | some row =>
    simp only [hfind, Bool.and_eq_true, beq_iff_eq] at hready
    obtain ⟨hright, hreach⟩ := hready
    have hrow : rowOf q.obj = some row := by
      simp only [State.findObj] at hfind
      split at hfind
      · cases hfind
      · exact hfind
    have hty : row.ty = .domain 16384 := by simpa [← hobj, hrow] using rowOf_ringFifo hlast
    have hread := executeRead_removes (s := s.taken q) (u := fifoTaken r (s.asked q))
      (data := ((s.asked q).ring r).fifo.drop ((s.asked q).fifoClaimed r)) (rd := readRingFifo r)
      ((State.findObj_taken _ _ _).trans hfind) hright ((State.reach_taken _ _ _ _).trans hreach) hty
      (hobj ▸ removesData_ringFifo hlast) hfirst ((hasSpace_taken _ _ _).trans hspace) rfl
    rw [hread, fifoRead, ring_asked, fifoClaimed_asked]

theorem ringFifoRead_clause (hlast : r ≤ 63) (hadmits : s.admitsRead (wholeRead rq (Obj.RING_FIFO r)) = true)
    (hspace : s.hasSpace rq.who = true) :
    ∃ t, exec (.ringFifoRead rq r) s = .next t ∧ t.answered rq 0 = true ∧
      t.answerData = ((s.ring r).fifo.drop (s.fifoClaimed r)).take 1448 ∧
      t.ring r = { s.ring r with fifo := (s.ring r).fifo.take (s.fifoClaimed r) } ∧
      (∀ k, k ≠ r → t.ring k = s.ring k) ∧ s.hostFrame t [.memory, .cop] [] [] := by
  have hhears : s.hears (wholeRead rq (Obj.RING_FIFO r)) = true := by
    simp only [State.admitsRead, Bool.and_eq_true] at hadmits
    exact hadmits.left
  have hexec := hostRequest_heard s (wholeRead rq (Obj.RING_FIFO r)) (executeRead (readRingFifo r)) hhears
  rw [executeRead_ringFifo hlast rfl rfl hadmits hspace] at hexec
  have hring : ∀ k, (settle ((fifoRead r (wholeRead rq (Obj.RING_FIFO r))
      (s.asked (wholeRead rq (Obj.RING_FIFO r)))).respondBytes (wholeRead rq (Obj.RING_FIFO r))
        ((s.ring r).fifo.drop (s.fifoClaimed r)))).ring k =
      if k = r then { s.ring r with fifo := (s.ring r).fifo.take (s.fifoClaimed r) } else s.ring k := fun k => by
    have hleft := fifoRead_ring r (wholeRead rq (Obj.RING_FIFO r)) (s.asked (wholeRead rq (Obj.RING_FIFO r))) k
    rw [ring_asked, fifoClaimed_asked] at hleft
    rw [← hleft]
    simp [State.respondBytes, State.ring]
  refine ⟨_, hexec, State.respond_answered _ _ _ _ _, ?_, (hring r).trans (if_pos rfl), fun k hk => (hring k).trans (if_neg hk),
    hostFrame_answered _ _ (fifoRead_within r _ _)⟩
  rw [settle_answerData, State.respondBytes, respond_answerData]
  rfl

end Rings

/-- Settles O49: a request that is done leaves what its action leaves; a ring is stopped in one way, FREE where it is to be
destroyed and HALTED else, after the descriptor in progress, if any, has ended with cause 9. -/
theorem ringsAreManagedByHandle : Obligations.RingsAreManagedByHandle :=
  ⟨fun _ _ _ _ => ringCreate_clause, fun _ _ _ => ringCreate_aborts, fun _ _ _ _ => ringDestroy_clause,
    fun _ _ _ _ => ringHandle_aborts, fun _ _ _ _ => ringHalt_clause, fun _ _ _ _ => ringResume_clause,
    fun _ _ _ _ => ringTail_clause, fun _ _ _ _ => ringTail_aborts, fun _ _ _ _ => ringFifoWrite_clause,
    fun _ _ _ => ringFifoRead_clause⟩

end Sys2Proof.Machine

end
